-- ==== Sys2Proof/Syntax.lean ====
section
/-!
DEFINITION. The commands of the module (spec/opcode_table.json), one constructor of `Instr` per row, and the types of their operands.
-/
namespace Sys2Proof

/-- Compute stacks S0 to S3 (R11). -/
abbrev StackId := Fin 4
/-- Clusters of the module: 16 × stack + cluster (R23). -/
abbrev ClusterId := Fin 64
/-- Enabled cores of the module: 128 × stack + 8 × cluster + logical core (R18). -/
abbrev CoreId := Fin 512
/-- Slices of the module: 256 × stack + slice (R23); slice n stands beside HBM4 channel n (R198). -/
abbrev SliceId := Fin 1024
/-- Fabric ports 0 to 15 (R11). -/
abbrev Port := Fin 16
/-- Host ports H0 and H1 (R343). -/
abbrev HostPort := Fin 2
/-- Command queues 0 to 127 (R349). -/
abbrev QueueId := Fin 128

/-- The requesters of register accesses (R25). -/
inductive Requester where
  | h0 | h1 | tutor (s : StackId) | proctor | i3c
deriving DecidableEq, Repr

/-- A hardware thread of an enabled core. -/
structure ThreadRef where
  core : CoreId
  thread : Fin 16
deriving DecidableEq, Repr

/-- The fields of the M layout (R106). -/
structure MFields where
  tA : Fin 16
  tB : Fin 16
  srow : Fin 32
  mrows : Fin 32
  accumulate : Bool
  ta : Bool
  tb : Bool
  kf : BitVec 16
deriving DecidableEq, Repr

/-- The fields of the E layout (R106). -/
structure EFields where
  tD : Fin 16
  tA : Fin 16
  tB : Fin 16
  xa : Fin 32
  xb : Fin 32
  rnd : BitVec 2
  ovf : Bool
  func : BitVec 12
deriving DecidableEq, Repr

/-- The fields of the S layout (R106). -/
structure SFields where
  desc : Fin 64
  rd : Fin 32
  xa : Fin 32
  func : BitVec 12
deriving DecidableEq, Repr

/-- The register-register ALU operations, OPC 0x00 to 0x0E in that order (R107). -/
inductive AluOp where
  | add | sub | and | or | xor | shl | shr | sra | mul | mulhu | min | max | slt | sltu | seq
deriving DecidableEq, Repr

/-- The compare-and-branch conditions, OPC 0x30 to 0x35 (R107). -/
inductive Cond where
  | eq | ne | lt | ge | ltu | geu
deriving DecidableEq, Repr

/-- The E-layout engine operations (R107): which engine operation a slot holds. -/
inductive EngKind where
  | save | rest | rnd | varith | vfn | vder | vcvt | vlx | vred | vstat | gath | scat | fin
deriving DecidableEq, Repr

/-- The stream operations, OPC 0x90 to 0x93 (R107). -/
inductive StreamKind where
  | arm | wait | rel | qry
deriving DecidableEq, Repr

/-- What one slot of a bundle holds, by layout (R106, R107). `imm` operands are the 32-bit immediates, sign-extended in use. -/
inductive Op where
  | alu (op : AluOp) (rd ra rb : Fin 32)
  | aluImm (op : AluOp) (rd ra : Fin 32) (imm : BitVec 32)
  | csrr (rd : Fin 32) (imm : BitVec 32)
  | ld (bytes : Nat) (rd ra : Fin 32) (imm : BitVec 32)
  | st (bytes : Nat) (rs ra : Fin 32) (imm : BitVec 32)
  | ldx (bytes : Nat) (rd ra : Fin 32) (imm : BitVec 32)
  | stx (bytes : Nat) (rs ra : Fin 32) (imm : BitVec 32)
  | branch (c : Cond) (ra rb : Fin 32) (off : BitVec 20)
  | jal (rd : Fin 32) (off : BitVec 20)
  | jalr (rd ra : Fin 32) (imm : BitVec 32)
  | fence
  | halt
  | trap (imm : BitVec 32)
  | tset (td : Fin 16) (ra : Fin 32)
  | tget (rd : Fin 32) (ta : Fin 16)
  | tslot (td ta : Fin 16) (imm : BitVec 32)
  | li (rd : Fin 32) (imm : Word)
  | tli (td : Fin 16) (imm : Word)
  | mma (m : MFields)
  | eng (k : EngKind) (e : EFields)
  | stream (k : StreamKind) (f : SFields)
  | bell (group : BitVec 12) (xa : Fin 32)
deriving DecidableEq, Repr

/-- ADD x0, x0, x0, the no-op of either slot (R104). -/
def Op.nop : Op := .alu .add 0 0 0

/-- Where a thread operation issues from: its thread, whether it stands in slot B of its bundle, and what the bundle's other slot holds.
A bundle issues whole (R93, R105), so the command of either of its operations is the issue of both. -/
structure Issue where
  at' : ThreadRef
  slotB : Bool
  other : Op
deriving DecidableEq, Repr

/-- An LX value with its accumulator flags (R69, R73): the two's complement value in units of 2^−320. -/
structure LxValue where
  value : Int
  pos : Bool
  neg : Bool
  nan : Bool
deriving DecidableEq, Repr

/-- A reduced gradient chunk (R239). `fmt` is the FMT code of R29. -/
structure Chunk where
  index : BitVec 17
  seg : Nat
  nseg : Nat
  step : BitVec 32
  fmt : BitVec 4
  e : Int
  data : List Int
  poisoned : Bool
deriving DecidableEq, Repr

/-- What a fabric request asks of memory (R297). -/
inductive FabOp where
  | load | store | storeNotify | fxadd32 | fxadd64 | fxadd32to64
  | add64 | min64 | max64 | swap64 | cas64 | add128 | min128 | max128 | swap128 | cas128
deriving DecidableEq, Repr

/-- A fabric request message: the header of R296 (its OPC apart), its data, and the NOTE of a STORE_NOTIFY (R301). -/
structure FabReq where
  dst : BitVec 12
  src : BitVec 12
  tid : BitVec 18
  len : BitVec 4
  bulk : Bool
  addr : BitVec 48
  dstEpoch : BitVec 12
  srcEpoch : BitVec 12
  poison : BitVec 4
  data : List Byte
  note : BitVec 32
deriving DecidableEq, Repr

/-- A RESPONSE message (R296). -/
structure FabResp where
  dst : BitVec 12
  src : BitVec 12
  tid : BitVec 18
  len : BitVec 4
  dstEpoch : BitVec 12
  srcEpoch : BitVec 12
  status : BitVec 4
  poison : BitVec 4
  data : List Byte
deriving DecidableEq, Repr

/-- The initiator units of fabric requests (R303). -/
inductive Initiator where
  | assembly | marker | tutor | proctor
deriving DecidableEq, Repr

/-- A request as its initiator issues it (R291): a 64-bit fabric address. -/
structure FabIssue where
  by' : Initiator
  op : FabOp
  addr : Word
  len : BitVec 4
  bulk : Bool
  data : List Byte
  poison : BitVec 4
  note : BitVec 32
deriving DecidableEq, Repr

/-- The collective packet kinds, OPC 0x40 to 0x42 (R322). -/
inductive PktKind where
  | reduce | data | norm
deriving DecidableEq, Repr

/-- A collective packet (R322), its OPC apart. -/
structure CollPkt where
  dst : BitVec 12
  src : BitVec 12
  tid : BitVec 18
  dlen : BitVec 4
  coll : BitVec 10
  step : BitVec 16
  offset : BitVec 26
  e : BitVec 10
  srcEpoch : BitVec 12
  dstStack : StackId
  data : List Byte
  poisoned : Bool
deriving DecidableEq, Repr

/-- Where an inbound message arrives: on a port, or looped back inside the module from an initiator of a stack (R293). -/
inductive Arrival where
  | port (p : Port)
  | loop (st : StackId)
deriving DecidableEq, Repr

/-- A message of the transaction layer (R297, R327). -/
inductive FabMsg where
  | request (op : FabOp) (m : FabReq)
  | response (m : FabResp)
  | packet (k : PktKind) (m : CollPkt)
  | control (type : BitVec 4) (dst src : BitVec 12) (payload : List Byte) (dstEpoch srcEpoch : BitVec 12)
deriving DecidableEq, Repr

/-- A LINK message (R282, R470): the operation with its fields. -/
inductive LinkMsg where
  | retrain (epoch cause lane : BitVec 8)
  | laneMap (epoch : BitVec 8) (lanes : List (BitVec 8)) (failed : BitVec 16)
  | aligned (epoch bits : BitVec 8) (next : BitVec 12)
  | down (epoch cause : BitVec 8)
  | spdm (frag nfrag : Nat) (bytes : List Byte)
  | ident (serial : Word) (supported required : Bool)
  | reserved (op : BitVec 16)
deriving DecidableEq, Repr

/-- A slot of a DATA flit (R283): NULL, slot `k` of a message, whose header is slot 0, or a header whose OPC is reserved. -/
inductive Slot where
  | null
  | part (m : FabMsg) (k : Nat)
  | reserved (opc : BitVec 8)
deriving DecidableEq, Repr

/-- A flit (R280): its header, the slots of a DATA flit, the tag and group counter of a TAG flit, the message of a LINK flit, the CRC-64 that it carries, and bytes 8 to 247 as they travel where they are encrypted. -/
structure Flit where
  type : BitVec 4
  seq : BitVec 12
  ack : BitVec 12
  nak : Bool
  key : Bool
  cvc : BitVec 2
  credit : BitVec 12
  slots : List Slot
  tag : Option (BitVec 128 × BitVec 64)
  link : Option LinkMsg
  crc : BitVec 64
  cipher : List (BitVec 8) := []
deriving DecidableEq, Repr

/-- A Corridor frame (R326): header fields, 32-byte payload, and the CRC-32C that it carries. -/
structure Frame where
  type : BitVec 4
  origin : BitVec 12
  dest : BitVec 12
  bcast : Bool
  hops : BitVec 6
  seq : BitVec 8
  payload : List Byte
  crc : BitVec 32
deriving DecidableEq, Repr

/-- The payload of the Bell messages (R327), and the seat it came from. -/
structure BellMsg where
  group : BitVec 16
  episode : BitVec 32
  seat : BitVec 16
deriving DecidableEq, Repr

/-- The payload of ROLL_CALL (R334). -/
structure RollCallMsg where
  serial : Word
  seat : BitVec 12
  seatValid : Bool
  epoch : BitVec 12
  port : BitVec 8
  caps : BitVec 32
deriving DecidableEq, Repr

/-- A command entry (R351): its first word, TAG, STEP, the word of bytes 12 to 15, ARG0 to ARG5 and the inline payload. -/
structure CmdEntry where
  dw0 : BitVec 32
  tag : BitVec 32
  step : BitVec 32
  dw3 : BitVec 32
  args : List Word
  inline : List Byte
deriving DecidableEq, Repr

/-- What a command fetch returned (R359): bytes 0 to 63 of an entry, whose PHASE the Tutor judges (`inline` is not looked at), the lines from byte 64 on, or an error. -/
inductive FetchResult where
  | entry (e : CmdEntry)
  | rest (data : List Byte)
  | error
deriving DecidableEq, Repr

/-- A return for a queue's fetch: the index of the command whose slot was read, and what came (R350, R359). -/
structure FetchReturn where
  index : BitVec 32
  result : FetchResult
deriving DecidableEq, Repr

/-- What a Letterbox write's TLPs are besides their bytes: bulk traffic or latency-class, and marked poisoned or not (R343, R346). -/
structure TlpAttr where
  bulk : Bool
  poison : Bool
deriving DecidableEq, Repr

/-- What a flushing read-back was made for (R363). -/
inductive ReadbackFor where
  | exportCopy (q : QueueId)
  | homework (st : StackId)
deriving DecidableEq, Repr

/-- A completion ring of a queue, or the step ring of a partition (R364, R365). -/
inductive RingId where
  | queue (q : QueueId)
  | step (part : Fin 4)
deriving DecidableEq, Repr

/-- What a scrubbed sector showed (R429). -/
inductive ScrubFinding where
  | clean | corrected | uncorrectable
deriving DecidableEq, Repr

/-- The transports of the SPDM responder (R466). -/
inductive Transport where
  | i3c | doe (h : HostPort) | link (p : Port)
deriving DecidableEq, Repr

/-- The commands, in the order of spec/opcode_table.json. -/
inductive Instr where
  /-- REGISTER_WRITE (R6). -/
  | registerWrite (who : Requester) (off size : Nat) (value : BitVec 64)
  /-- RC_FIELD_READ (R6). -/
  | rcFieldRead (who : Requester) (off size : Nat)
  /-- ADD (R108). -/
  | add (b : Issue) (rd ra rb : Fin 32)
  /-- SUB (R108). -/
  | sub (b : Issue) (rd ra rb : Fin 32)
  /-- AND (R108). -/
  | and (b : Issue) (rd ra rb : Fin 32)
  /-- OR (R108). -/
  | or (b : Issue) (rd ra rb : Fin 32)
  /-- XOR (R108). -/
  | xor (b : Issue) (rd ra rb : Fin 32)
  /-- SHL (R108). -/
  | shl (b : Issue) (rd ra rb : Fin 32)
  /-- SHR (R108). -/
  | shr (b : Issue) (rd ra rb : Fin 32)
  /-- SRA (R108). -/
  | sra (b : Issue) (rd ra rb : Fin 32)
  /-- MUL (R108). -/
  | mul (b : Issue) (rd ra rb : Fin 32)
  /-- MULHU (R108). -/
  | mulhu (b : Issue) (rd ra rb : Fin 32)
  /-- MIN (R108). -/
  | min (b : Issue) (rd ra rb : Fin 32)
  /-- MAX (R108). -/
  | max (b : Issue) (rd ra rb : Fin 32)
  /-- SLT (R108). -/
  | slt (b : Issue) (rd ra rb : Fin 32)
  /-- SLTU (R108). -/
  | sltu (b : Issue) (rd ra rb : Fin 32)
  /-- SEQ (R108). -/
  | seq (b : Issue) (rd ra rb : Fin 32)
  /-- ADDI (R107). -/
  | addi (b : Issue) (rd ra : Fin 32) (imm : BitVec 32)
  /-- ANDI (R107). -/
  | andi (b : Issue) (rd ra : Fin 32) (imm : BitVec 32)
  /-- ORI (R107). -/
  | ori (b : Issue) (rd ra : Fin 32) (imm : BitVec 32)
  /-- XORI (R107). -/
  | xori (b : Issue) (rd ra : Fin 32) (imm : BitVec 32)
  /-- SHLI (R107). -/
  | shli (b : Issue) (rd ra : Fin 32) (imm : BitVec 32)
  /-- SHRI (R107). -/
  | shri (b : Issue) (rd ra : Fin 32) (imm : BitVec 32)
  /-- SRAI (R107). -/
  | srai (b : Issue) (rd ra : Fin 32) (imm : BitVec 32)
  /-- SLTI (R107). -/
  | slti (b : Issue) (rd ra : Fin 32) (imm : BitVec 32)
  /-- SLTIU (R107). -/
  | sltiu (b : Issue) (rd ra : Fin 32) (imm : BitVec 32)
  /-- SEQI (R107). -/
  | seqi (b : Issue) (rd ra : Fin 32) (imm : BitVec 32)
  /-- LI (R104). -/
  | li (at' : ThreadRef) (rd : Fin 32) (imm : BitVec 64)
  /-- CSRR (R110). -/
  | csrr (b : Issue) (rd : Fin 32) (imm : BitVec 32)
  /-- LD8U (R108). -/
  | ld8u (b : Issue) (rd ra : Fin 32) (imm : BitVec 32)
  /-- LD16U (R108). -/
  | ld16u (b : Issue) (rd ra : Fin 32) (imm : BitVec 32)
  /-- LD32U (R108). -/
  | ld32u (b : Issue) (rd ra : Fin 32) (imm : BitVec 32)
  /-- LD64 (R108). -/
  | ld64 (b : Issue) (rd ra : Fin 32) (imm : BitVec 32)
  /-- ST8 (R108). -/
  | st8 (b : Issue) (rd ra : Fin 32) (imm : BitVec 32)
  /-- ST16 (R108). -/
  | st16 (b : Issue) (rd ra : Fin 32) (imm : BitVec 32)
  /-- ST32 (R108). -/
  | st32 (b : Issue) (rd ra : Fin 32) (imm : BitVec 32)
  /-- ST64 (R108). -/
  | st64 (b : Issue) (rd ra : Fin 32) (imm : BitVec 32)
  /-- LDX64 (R108). -/
  | ldx64 (b : Issue) (rd ra : Fin 32) (imm : BitVec 32)
  /-- LDX32U (R108). -/
  | ldx32u (b : Issue) (rd ra : Fin 32) (imm : BitVec 32)
  /-- STX64 (R108). -/
  | stx64 (b : Issue) (rd ra : Fin 32) (imm : BitVec 32)
  /-- STX32 (R108). -/
  | stx32 (b : Issue) (rd ra : Fin 32) (imm : BitVec 32)
  /-- LDX_RETURN (R113). -/
  | ldxReturn (c : CoreId) (id : Nat)
  /-- STX_ACCEPTED (R98). -/
  | stxAccepted (c : CoreId) (id : Nat)
  /-- BEQ (R107). -/
  | beq (b : Issue) (ra rb : Fin 32) (off : BitVec 20)
  /-- BNE (R107). -/
  | bne (b : Issue) (ra rb : Fin 32) (off : BitVec 20)
  /-- BLT (R107). -/
  | blt (b : Issue) (ra rb : Fin 32) (off : BitVec 20)
  /-- BGE (R107). -/
  | bge (b : Issue) (ra rb : Fin 32) (off : BitVec 20)
  /-- BLTU (R107). -/
  | bltu (b : Issue) (ra rb : Fin 32) (off : BitVec 20)
  /-- BGEU (R107). -/
  | bgeu (b : Issue) (ra rb : Fin 32) (off : BitVec 20)
  /-- JAL (R107). -/
  | jal (b : Issue) (rd : Fin 32) (off : BitVec 20)
  /-- JALR (R107). -/
  | jalr (b : Issue) (rd ra : Fin 32) (imm : BitVec 32)
  /-- FENCE (R97). -/
  | fence (b : Issue)
  /-- FENCE_COMPLETE (R97). -/
  | fenceComplete (at' : ThreadRef)
  /-- HALT (R107). -/
  | halt (b : Issue)
  /-- TRAP (R113). -/
  | trap (b : Issue) (imm : BitVec 32)
  /-- TSET (R107). -/
  | tset (b : Issue) (td : Fin 16) (ra : Fin 32)
  /-- TGET (R107). -/
  | tget (b : Issue) (rd : Fin 32) (ta : Fin 16)
  /-- TSLOT (R107). -/
  | tslot (b : Issue) (td ta : Fin 16) (imm : BitVec 32)
  /-- TLI (R107). -/
  | tli (at' : ThreadRef) (td : Fin 16) (imm : BitVec 64)
  /-- MMA (R121). -/
  | mma (b : Issue) (m : MFields)
  /-- MMA_OCCUPANCY_START (R125). -/
  | mmaOccupancyStart (c : CoreId)
  /-- MMA_LAST_DEPOSIT (R125). -/
  | mmaLastDeposit (c : CoreId)
  /-- SAVE (R74). -/
  | save (b : Issue) (e : EFields)
  /-- REST (R74). -/
  | rest (b : Issue) (e : EFields)
  /-- RND (R505). -/
  | rnd (b : Issue) (e : EFields)
  /-- SLATE_OP_START (R98). -/
  | slateOpStart (c : CoreId)
  /-- SLATE_OP_COMPLETE (R76). -/
  | slateOpComplete (c : CoreId)
  /-- VARITH_ADD (R128). -/
  | varithAdd (b : Issue) (e : EFields)
  /-- VARITH_SUB (R128). -/
  | varithSub (b : Issue) (e : EFields)
  /-- VARITH_MUL (R128). -/
  | varithMul (b : Issue) (e : EFields)
  /-- VARITH_FMA (R128). -/
  | varithFma (b : Issue) (e : EFields)
  /-- VARITH_MIN (R128). -/
  | varithMin (b : Issue) (e : EFields)
  /-- VARITH_MAX (R128). -/
  | varithMax (b : Issue) (e : EFields)
  /-- VARITH_DIV (R128). -/
  | varithDiv (b : Issue) (e : EFields)
  /-- VARITH_SQRT (R128). -/
  | varithSqrt (b : Issue) (e : EFields)
  /-- VARITH_RSQRT (R128). -/
  | varithRsqrt (b : Issue) (e : EFields)
  /-- VARITH_ABS (R128). -/
  | varithAbs (b : Issue) (e : EFields)
  /-- VARITH_NEG (R128). -/
  | varithNeg (b : Issue) (e : EFields)
  /-- VFN (R140). -/
  | vfn (b : Issue) (e : EFields)
  /-- VDER (R140). -/
  | vder (b : Issue) (e : EFields)
  /-- VCVT (R130). -/
  | vcvt (b : Issue) (e : EFields)
  /-- VLX_ADD (R132). -/
  | vlxAdd (b : Issue) (e : EFields)
  /-- VLX_SUB (R132). -/
  | vlxSub (b : Issue) (e : EFields)
  /-- VLX_FROM (R132). -/
  | vlxFrom (b : Issue) (e : EFields)
  /-- VLX_TO (R132). -/
  | vlxTo (b : Issue) (e : EFields)
  /-- VRED_SUM (R131). -/
  | vredSum (b : Issue) (e : EFields)
  /-- VRED_SUMSQ (R131). -/
  | vredSumsq (b : Issue) (e : EFields)
  /-- VRED_MAX (R131). -/
  | vredMax (b : Issue) (e : EFields)
  /-- VRED_MIN (R131). -/
  | vredMin (b : Issue) (e : EFields)
  /-- VRED_MAXABS (R131). -/
  | vredMaxabs (b : Issue) (e : EFields)
  /-- VRED_SCALE (R131). -/
  | vredScale (b : Issue) (e : EFields)
  /-- VSTAT (R133). -/
  | vstat (b : Issue) (e : EFields)
  /-- VECTOR_OP_START (R135). -/
  | vectorOpStart (c : CoreId)
  /-- VECTOR_OP_COMPLETE (R135). -/
  | vectorOpComplete (c : CoreId)
  /-- GATH (R146). -/
  | gath (b : Issue) (e : EFields)
  /-- SCAT_STORE (R151). -/
  | scatStore (b : Issue) (e : EFields)
  /-- SCAT_ADD (R151). -/
  | scatAdd (b : Issue) (e : EFields)
  /-- GATHER_OP_START (R147). -/
  | gatherOpStart (c : CoreId)
  /-- GATHER_SECTOR_REQUEST (R148). -/
  | gatherSectorRequest (c : CoreId)
  /-- GATHER_SECTOR_RETURN (R148). -/
  | gatherSectorReturn (c : CoreId) (n : Nat)
  /-- EXP_D (R144). -/
  | expD (b : Issue) (e : EFields)
  /-- SIGMOID_D (R144). -/
  | sigmoidD (b : Issue) (e : EFields)
  /-- TANH_D (R144). -/
  | tanhD (b : Issue) (e : EFields)
  /-- RELU_D (R144). -/
  | reluD (b : Issue) (e : EFields)
  /-- LEAKY_D (R144). -/
  | leakyD (b : Issue) (e : EFields)
  /-- SOFTMAX_D (R144). -/
  | softmaxD (b : Issue) (e : EFields)
  /-- FIN_SERVE_START (R143). -/
  | finServeStart (cl : ClusterId)
  /-- FIN_COMPLETE (R145). -/
  | finComplete (cl : ClusterId)
  /-- SARM (R168). -/
  | sarm (b : Issue) (f : SFields)
  /-- SWAIT (R172). -/
  | swait (b : Issue) (f : SFields)
  /-- SREL (R172). -/
  | srel (b : Issue) (f : SFields)
  /-- SQRY (R172). -/
  | sqry (b : Issue) (f : SFields)
  /-- STREAM_TRANSFER_START (R168). -/
  | streamTransferStart (c : CoreId) (d : Fin 64)
  /-- STREAM_REQUEST_SEND (R170). -/
  | streamRequestSend (c : CoreId)
  /-- STREAM_REQUEST_RETURN (R170). -/
  | streamRequestReturn (c : CoreId) (n : Nat)
  /-- STREAM_TRANSFER_COMPLETE (R170). -/
  | streamTransferComplete (c : CoreId) (d : Fin 64)
  /-- LINK_BUFFER_MOVE (R171). -/
  | linkBufferMove (c : CoreId) (d : Fin 64)
  /-- ASSEMBLY_BUFFER_ACCEPT (R315). -/
  | assemblyBufferAccept (c : CoreId) (d : Fin 64)
  /-- BELL (R176). -/
  | bell (b : Issue) (group : BitVec 12) (xa : Fin 32)
  /-- BELL_ARRIVAL_REPORT (R177). -/
  | bellArrivalReport (group : BitVec 12) (st : StackId)
  /-- BELL_RELEASE (R176). -/
  | bellRelease (group : BitVec 12)
  /-- BELL_TIMEOUT (R178). -/
  | bellTimeout (group : BitVec 12)
  /-- LESSON (R154). -/
  | lesson (q : QueueId)
  /-- TUTOR_PART_MESSAGE (R155). -/
  | tutorPartMessage (n : Nat)
  /-- LESSON_PART_START (R156). -/
  | lessonPartStart (cl : ClusterId)
  /-- STAGE_END (R161). -/
  | stageEnd (c : CoreId)
  /-- STAGE_LOAD_COMPLETE (R160). -/
  | stageLoadComplete (c : CoreId)
  /-- CLUSTER_LESSON_STOP (R116). -/
  | clusterLessonStop (cl : ClusterId)
  /-- CORES_REPORT_IDLE (R116). -/
  | coresReportIdle (cl : ClusterId)
  /-- LESSON_TIMEOUT (R182). -/
  | lessonTimeout (id : Nat)
  /-- LESSON_RETIRE (R180). -/
  | lessonRetire (id : Nat)
  /-- LESSON_COMPLETION_WRITE (R182). -/
  | lessonCompletionWrite (id : Nat)
  /-- ABORT (R181). -/
  | abort (q : QueueId)
  /-- SPARE_CORE_SWITCH (R85). -/
  | spareCoreSwitch (cl : ClusterId) (core : Fin 8)
  /-- CORE_STORE_TEST (R436). -/
  | coreStoreTest (c : CoreId) (pass : Bool)
  /-- ISTORE_RELOAD (R437). -/
  | istoreReload (cl : ClusterId) (off : BitVec 20) (ok : Bool)
  /-- SLICE_READ (R206). -/
  | sliceRead (addr : Nat) (cls : Fin 8)
  /-- SLICE_WRITE (R206). -/
  | sliceWrite (addr : Nat) (data : List (BitVec 8)) (poison : Bool) (cls : Fin 8)
  /-- REDUCE_ADD32 (R214). -/
  | reduceAdd32 (addr : Nat) (data : List (BitVec 32)) (cls : Fin 8)
  /-- REDUCE_ADD64 (R214). -/
  | reduceAdd64 (addr : Nat) (data : List (BitVec 64)) (cls : Fin 8)
  /-- REDUCE_ADD32TO64 (R214). -/
  | reduceAdd32to64 (addr : Nat) (data : List (BitVec 32)) (cls : Fin 8)
  /-- REDUCE_STATS (R214). -/
  | reduceStats (addr : Nat) (rec : BitVec 256)
  /-- SECTOR_FETCH_RETURN (R216). -/
  | sectorFetchReturn (addr : Nat) (found : ScrubFinding)
  /-- HOLD_WRITEBACK_COMPLETE (R217). -/
  | holdWritebackComplete (sl : SliceId) (line : Nat)
  /-- PIN (R211). -/
  | pin (sl : SliceId)
  /-- UNPIN (R211). -/
  | unpin (sl : SliceId)
  /-- HALLWAY_FLIT_ERROR (R218). -/
  | hallwayFlitError (l : Fin 6)
  /-- HALLWAY_RETRAIN (R219). -/
  | hallwayRetrain (l : Fin 6) (lane : Option Nat)
  /-- HALLWAY_RETRAIN_COMPLETE (R219). -/
  | hallwayRetrainComplete (l : Fin 6) (ok : Bool)
  /-- HALLWAY_DOWN (R220). -/
  | hallwayDown (l : Fin 6)
  /-- HBM_LANE_REPAIR (R224). -/
  | hbmLaneRepair (sl : SliceId) (pseudo : Bool) (lane : Nat)
  /-- HBM_ROW_REPAIR (R224). -/
  | hbmRowRepair (sl : SliceId) (row : Nat)
  /-- HBM_REPAIR_COMPLETE (R224). -/
  | hbmRepairComplete (sl : SliceId)
  /-- HBM_CHANNEL_FAILED (R225). -/
  | hbmChannelFailed (sl : SliceId)
  /-- ARM (R237). -/
  | arm (who : Requester) (st : StackId) (step : BitVec 32)
  /-- ARM_SCAN_COMPLETE (R237). -/
  | armScanComplete (st : StackId)
  /-- GRADIENT_CHUNK (R240). -/
  | gradientChunk (st : StackId) (chunk : Chunk)
  /-- NORM_Q_ARRIVAL (R250). -/
  | normQArrival (st : StackId) (step : BitVec 32) (q : LxValue)
  /-- STEP_DECISION (R251). -/
  | stepDecision (st : StackId)
  /-- CLIP_RERUN_COMPLETE (R251). -/
  | clipRerunComplete (st : StackId)
  /-- MARKER_COMMIT (R253). -/
  | markerCommit (st : StackId)
  /-- ABANDON (R255). -/
  | abandon (who : Requester) (st : StackId)
  /-- MARKER_MODE_WRITE (R263). -/
  | markerModeWrite (who : Requester) (st : StackId) (mode : BitVec 2)
  /-- COMMITTED_STEP_WRITE (R263). -/
  | committedStepWrite (who : Requester) (st : StackId) (step : BitVec 32)
  /-- INVROOT (R265). -/
  | invroot (who : Requester) (st : StackId) (side p4 : Bool) (iters : BitVec 7) (index : BitVec 17)
  /-- ORTHO (R266). -/
  | ortho (who : Requester) (st : StackId) (side : Bool) (iters : BitVec 7) (index : BitVec 17)
  /-- CALIBRATION_COMPLETE (R267). -/
  | calibrationComplete (st : StackId)
  /-- ROLL_CHECK (R268). -/
  | rollCheck (st : StackId)
  /-- HOMEWORK_RECORD_WRITE (R272). -/
  | homeworkRecordWrite (st : StackId)
  /-- HW_HEAD_WRITE (R272). -/
  | hwHeadWrite (who : Requester) (st : StackId) (off : BitVec 32)
  /-- SLIP_STATE_FETCH_COMPLETE (R259). -/
  | slipStateFetchComplete (st : StackId) (index : BitVec 17) (result : Option (List (BitVec 8)))
  /-- SLIP_APPLY (R260). -/
  | slipApply (st : StackId) (index : BitVec 17)
  /-- SLIP_WRITEBACK_COMPLETE (R260). -/
  | slipWritebackComplete (st : StackId) (index : BitVec 17) (ok : Bool)
  /-- PORT_ENABLE (R277). -/
  | portEnable (who : Requester) (p : Port)
  /-- PORT_DISABLE (R310). -/
  | portDisable (who : Requester) (p : Port)
  /-- PORT_TRAINING_COMPLETE (R277). -/
  | portTrainingComplete (p : Port) (failed : List (Fin 9))
  /-- LANE_FAILING (R278). -/
  | laneFailing (p : Port) (cause : BitVec 8) (lane : Fin 9)
  /-- RETRAIN (R282). -/
  | retrain (p : Port) (epoch cause lane : BitVec 8)
  /-- LANE_MAP (R282). -/
  | laneMap (p : Port) (epoch : BitVec 8) (lanes : List (BitVec 8)) (failed : BitVec 16)
  /-- ALIGNED (R282). -/
  | aligned (p : Port) (epoch bits : BitVec 8) (next : BitVec 12)
  /-- DOWN (R282). -/
  | down (p : Port) (cause : BitVec 8)
  /-- LINK_MESSAGE_REPEAT (R282). -/
  | linkMessageRepeat (p : Port)
  /-- RETRAIN_TIMEOUT (R279). -/
  | retrainTimeout (p : Port)
  /-- FLIT_RECEIVE (R281): a flit, and the CRC-64 its last eight bytes carry as they arrive (in place of the record's own). -/
  | flitReceive (p : Port) (f : Flit) (crc : BitVec 64)
  /-- NAK_RESEND (R281). -/
  | nakResend (p : Port) (ack : BitVec 12)
  /-- MESSAGE_SEND (R285). -/
  | messageSend (p : Port)
  /-- TAG_GROUP_CLOSE (R288). -/
  | tagGroupClose (p : Port)
  /-- TAG_FLIT_VERIFY (R288). -/
  | tagFlitVerify (p : Port) (ok : Bool)
  /-- FABRIC_REQUEST_ISSUE (R291). -/
  | fabricRequestIssue (st : StackId) (r : FabIssue)
  /-- LOAD (R297). -/
  | load (a : Arrival) (m : FabReq)
  /-- STORE (R297). -/
  | store (a : Arrival) (m : FabReq)
  /-- STORE_NOTIFY (R301). -/
  | storeNotify (a : Arrival) (m : FabReq)
  /-- FXADD32 (R300). -/
  | fxadd32 (a : Arrival) (m : FabReq)
  /-- FXADD64 (R300). -/
  | fxadd64 (a : Arrival) (m : FabReq)
  /-- FXADD32TO64 (R300). -/
  | fxadd32to64 (a : Arrival) (m : FabReq)
  /-- ADD64 (R299). -/
  | add64 (a : Arrival) (m : FabReq)
  /-- MIN64 (R299). -/
  | min64 (a : Arrival) (m : FabReq)
  /-- MAX64 (R299). -/
  | max64 (a : Arrival) (m : FabReq)
  /-- SWAP64 (R299). -/
  | swap64 (a : Arrival) (m : FabReq)
  /-- CAS64 (R299). -/
  | cas64 (a : Arrival) (m : FabReq)
  /-- ADD128 (R299). -/
  | add128 (a : Arrival) (m : FabReq)
  /-- MIN128 (R299). -/
  | min128 (a : Arrival) (m : FabReq)
  /-- MAX128 (R299). -/
  | max128 (a : Arrival) (m : FabReq)
  /-- SWAP128 (R299). -/
  | swap128 (a : Arrival) (m : FabReq)
  /-- CAS128 (R299). -/
  | cas128 (a : Arrival) (m : FabReq)
  /-- RESPONSE (R308). -/
  | response (a : Arrival) (m : FabResp)
  /-- TRANSACTION_TIMEOUT (R309). -/
  | transactionTimeout (st : StackId) (entry : Nat)
  /-- QUARANTINE_EXPIRY (R309). -/
  | quarantineExpiry (st : StackId) (entry : Nat)
  /-- SEAT_WRITE (R337). -/
  | seatWrite (who : Requester) (value : BitVec 32)
  /-- EPOCH_MESSAGE_SEND (R336). -/
  | epochMessageSend
  /-- COLLECTIVE_PACKET_SEND (R317). -/
  | collectivePacketSend (st : StackId) (coll : BitVec 10) (unit : Nat)
  /-- REDUCE (R323). -/
  | reduce (a : Arrival) (k : CollPkt)
  /-- DATA (R323). -/
  | data (a : Arrival) (k : CollPkt)
  /-- NORM (R323). -/
  | norm (a : Arrival) (k : CollPkt)
  /-- COLLECTIVE_INSTANCE_COMPLETE (R324). -/
  | collectiveInstanceComplete (st : StackId) (coll : BitVec 10)
  /-- CORRIDOR_FRAME_RECEIVE (R328): a frame, and the CRC-32C it carries as it arrives (in place of the record's own). -/
  | corridorFrameReceive (f : Frame) (crc : BitVec 32)
  /-- CORRIDOR_FRAME_TRANSMIT (R328). -/
  | corridorFrameTransmit
  /-- CORRIDOR_RESEND_TIMER (R329). -/
  | corridorResendTimer
  /-- CORRIDOR_JOIN (R330). -/
  | corridorJoin (who : Requester)
  /-- BYPASS_MOVED (R330). -/
  | bypassMoved
  /-- BELL_ARRIVE (R332). -/
  | bellArrive (k : BellMsg)
  /-- BELL_RELEASE_MESSAGE (R332). -/
  | bellReleaseMessage (k : BellMsg)
  /-- BELL_BREAK (R332). -/
  | bellBreak (k : BellMsg)
  /-- STOP_SEND (R331). -/
  | stopSend (who : Requester) (job : BitVec 32)
  /-- STOP (R331). -/
  | stop (job : BitVec 32)
  /-- STOP_CLEAR (R331). -/
  | stopClear (who : Requester) (parts : BitVec 4)
  /-- ROLL_CALL (R335). -/
  | rollCall (via : Option Port) (rc : RollCallMsg)
  /-- ROLL_CALL_SEND (R334). -/
  | rollCallSend (via : Option Port)
  /-- ROLL_CALL_MISSED (R335). -/
  | rollCallMissed (p : Port)
  /-- EPOCH (R336). -/
  | epoch (seat epoch : BitVec 12)
  /-- TIME_FRAME_SEND (R333). -/
  | timeFrameSend
  /-- TIME_FRAME (R333). -/
  | timeFrame (master : BitVec 64) (correction : BitVec 32) (seat : BitVec 12)
  /-- MGMT_FRAME (R478). -/
  | mgmtFrame (f : Frame)
  /-- HOST_LINK_LOSS (R345). -/
  | hostLinkLoss (h : HostPort)
  /-- HOST_LINK_RETURN (R367). -/
  | hostLinkReturn (h : HostPort)
  /-- LINK_HOLD_EXPIRY (R368). -/
  | linkHoldExpiry (h : HostPort)
  /-- HOT_RESET (R368). -/
  | hotReset (h : HostPort)
  /-- PERST_DEASSERT (R457). -/
  | perstDeassert (h : HostPort)
  /-- CXL_SNOOP (R343). -/
  | cxlSnoop (h : HostPort)
  /-- PRIMARY_WRITE (R344). -/
  | primaryWrite (who : Requester) (h : HostPort)
  /-- LETTERBOX_WRITE (R346). -/
  | letterboxWrite (h : HostPort) (off : BitVec 28) (data : List (Option (BitVec 8))) (tlp : TlpAttr)
  /-- LETTERBOX_READ (R346). -/
  | letterboxRead (h : HostPort) (off : BitVec 28) (len : Nat)
  /-- FLUSH (R362). -/
  | flush (h : HostPort)
  /-- DOORBELL (R358). -/
  | doorbell (who : Requester) (q : QueueId) (tail : BitVec 32)
  /-- COMMAND_FETCH_RETURN (R359). -/
  | commandFetchReturn (q : QueueId) (r : FetchReturn)
  /-- REFETCH_TIMER (R359). -/
  | refetchTimer (q : QueueId)
  /-- PLACE (R355). -/
  | place (q : QueueId)
  /-- PLACE_COMPLETE (R355). -/
  | placeComplete (q : QueueId)
  /-- EXPORT (R356). -/
  | exportCopy (q : QueueId)
  /-- EXPORT_READBACK_COMPLETE (R363). -/
  | exportReadbackComplete (src : ReadbackFor) (ok : Bool)
  /-- COMPLETION_RECORD_WRITE (R364). -/
  | completionRecordWrite (ring : RingId)
  /-- CQ_HEAD_WRITE (R364). -/
  | cqHeadWrite (who : Requester) (q : QueueId) (index : BitVec 32)
  /-- MSIX_COALESCE_TIMER (R364). -/
  | msixCoalesceTimer (ring : RingId)
  /-- QUEUE_ENABLE (R369). -/
  | queueEnable (who : Requester) (q : QueueId)
  /-- QUEUE_RESUME (R360). -/
  | queueResume (who : Requester) (q : QueueId)
  /-- QUEUE_DETACH (R368). -/
  | queueDetach (who : Requester) (q : QueueId)
  /-- STEP_RING_ENABLE (R369). -/
  | stepRingEnable (who : Requester) (part : Fin 4)
  /-- STEP_RING_DETACH (R368). -/
  | stepRingDetach (who : Requester) (part : Fin 4)
  /-- STEP_HEAD_WRITE (R365). -/
  | stepHeadWrite (who : Requester) (part : Fin 4) (index : BitVec 32)
  /-- SYLLABUS_LOAD (R386). -/
  | syllabusLoad (q : QueueId)
  /-- ACTIVATE (R388). -/
  | activate (q : QueueId)
  /-- ACTIVATE_QUIESCE_REACHED (R390). -/
  | activateQuiesceReached
  /-- ACTIVATE_QUIESCE_TIMEOUT (R389). -/
  | activateQuiesceTimeout
  /-- ACTIVATE_DIGEST_CHECKED (R390). -/
  | activateDigestChecked
  /-- ACTIVATE_APPLIED (R390). -/
  | activateApplied
  /-- RULE_STEP (R392). -/
  | ruleStep (who : Requester) (st : StackId) (step : BitVec 32)
  /-- RULE_APPLY_COMPLETE (R392). -/
  | ruleApplyComplete (st : StackId)
  /-- RECESS (R396). -/
  | recess (who : Requester) (stackSet : BitVec 4) (timeoutMs : BitVec 14)
  /-- RECESS_QUIESCE_REACHED (R396). -/
  | recessQuiesceReached
  /-- RECESS_QUIESCE_TIMEOUT (R396). -/
  | recessQuiesceTimeout
  /-- RECESS_GATED (R396). -/
  | recessGated
  /-- WAKE (R400). -/
  | wake (who : Requester) (stackSet : BitVec 4)
  /-- WAKE_COMPLETE (R400). -/
  | wakeComplete (failed : BitVec 4) (failedStep : Nat)
  /-- CAP_WRITE (R404). -/
  | capWrite (who : Requester) (watts : BitVec 13)
  /-- CAP_LOOP_TICK (R406). -/
  | capLoopTick (p : Nat)
  /-- COOLANT_LIMIT_TICK (R408). -/
  | coolantLimitTick (supply ret : Int) (flow : Nat)
  /-- COOLANT_TRIP (R408). -/
  | coolantTrip
  /-- COOLANT_TRIP_END (R408). -/
  | coolantTripEnd
  /-- RAIL_SAMPLE (R409). -/
  | railSample (st : StackId) (amps : Nat)
  /-- DROOP_DETECT (R410). -/
  | droopDetect (cl : ClusterId)
  /-- DROOP_END (R410). -/
  | droopEnd (cl : ClusterId)
  /-- HOST_LIMIT_WRITE (R411). -/
  | hostLimitWrite (who : Requester) (st : StackId) (rate : BitVec 7)
  /-- THERMAL_LOOP_TICK (R413). -/
  | thermalLoopTick (st : StackId) (readings : List (Option Int)) (tilePower : List Nat)
  /-- SENSOR_SUSPECT (R414). -/
  | sensorSuspect (st : StackId) (sensor : Fin 44)
  /-- SUSPECT_CLEAR (R414). -/
  | suspectClear (who : Requester) (st : StackId) (sensor : Fin 44)
  /-- REPORT_CARD_TICK (R416). -/
  | reportCardTick
  /-- CLUSTER_PLL_START (R419). -/
  | clusterPllStart (cl : ClusterId)
  /-- CLUSTER_PLL_LOCKED (R28). -/
  | clusterPllLocked (cl : ClusterId)
  /-- CLUSTER_PLL_STOP (R419). -/
  | clusterPllStop (cl : ClusterId)
  /-- JANITOR_SCRUB (R429). -/
  | janitorScrub (st : StackId) (hbm : Bool) (unit : Fin 256) (found : ScrubFinding)
  /-- BOND_LANE_REPAIR (R431). -/
  | bondLaneRepair (sl : SliceId) (toArray : Bool) (group : Fin 36) (lane : Fin 32)
  /-- BOND_REPAIR_COMPLETE (R431). -/
  | bondRepairComplete (sl : SliceId)
  /-- QUIZ_VISIT (R433). -/
  | quizVisit (st : StackId)
  /-- QUIZ_VISIT_END (R433). -/
  | quizVisitEnd (st : StackId) (failed : List (Bool × Nat × Nat))
  /-- SLICE_FAILURE (R434). -/
  | sliceFailure (sl : SliceId)
  /-- ARRAY_ROW_REPAIR (R435). -/
  | arrayRowRepair (sl : SliceId) (row : Nat)
  /-- ARRAY_ROW_REPAIR_COMPLETE (R435). -/
  | arrayRowRepairComplete (sl : SliceId)
  /-- TAG_UE (R426). -/
  | tagUe (sl : SliceId) (set : Nat) (way : Fin 16)
  /-- TUTOR_UE (R426). -/
  | tutorUe (st : StackId) (marker : Bool)
  /-- PROCTOR_FAULT (R426). -/
  | proctorFault
  /-- MODULE_COLD (R446). -/
  | moduleCold (who : Requester) (confirm : BitVec 16)
  /-- MODULE_WARM (R446). -/
  | moduleWarm (who : Requester) (confirm : BitVec 16)
  /-- PARTITION (R446). -/
  | partition (who : Requester) (part : BitVec 2)
  /-- STACK (R446). -/
  | stack (who : Requester) (stackSet : BitVec 4)
  /-- BASE_DIE (R446). -/
  | baseDie (who : Requester) (stackSet : BitVec 4)
  /-- RESET_TAKES_EFFECT (R448). -/
  | resetTakesEffect
  /-- BOND_DRAIN_END (R452). -/
  | bondDrainEnd (reads writes : List Nat)
  /-- RESET_COMPLETE (R454). -/
  | resetComplete
  /-- POWER_ON (R454). -/
  | powerOn
  /-- STARTUP_DONE (R454). -/
  | startupDone (failed : List (StackId × Fin 8)) (floorW : BitVec 13) (us : BitVec 32)
  /-- INPUT_POWER_LOSS (R493). -/
  | inputPowerLoss
  /-- FW_SVN_COMMIT (R464). -/
  | fwSvnCommit (who : Requester)
  /-- KEY_INSTALL (R468). -/
  | keyInstall (slot parts : BitVec 4)
  /-- KEY_REVOKE (R468). -/
  | keyRevoke (slot : BitVec 4)
  /-- IDENT (R470). -/
  | ident (p : Port) (serial : BitVec 64) (supported required : Bool)
  /-- SPDM (R470). -/
  | spdm (p : Port) (frag nfrag : Nat) (bytes : List (BitVec 8))
  /-- SESSION_SETUP_TIMEOUT (R470). -/
  | sessionSetupTimeout (p : Port)
  /-- LINK_REKEY (R470). -/
  | linkRekey (p : Port) (tx : Bool)
  /-- GET_VERSION (R466). -/
  | getVersion (t : Transport)
  /-- GET_CAPABILITIES (R466). -/
  | getCapabilities (t : Transport)
  /-- NEGOTIATE_ALGORITHMS (R466). -/
  | negotiateAlgorithms (t : Transport)
  /-- GET_DIGESTS (R466). -/
  | getDigests (t : Transport)
  /-- GET_CERTIFICATE (R466). -/
  | getCertificate (t : Transport) (slot : BitVec 8)
  /-- CHALLENGE (R466). -/
  | challenge (t : Transport) (nonce : BitVec 256)
  /-- GET_MEASUREMENTS (R467). -/
  | getMeasurements (t : Transport) (index : BitVec 8)
  /-- KEY_EXCHANGE (R466). -/
  | keyExchange (t : Transport) (chainOk : Bool)
  /-- FINISH (R466). -/
  | finish (t : Transport) (ok : Bool)
  /-- KEY_UPDATE (R466). -/
  | keyUpdate (t : Transport)
  /-- HEARTBEAT (R466). -/
  | heartbeat (t : Transport)
  /-- END_SESSION (R466). -/
  | endSession (t : Transport)
  /-- K_SET_GO (R471). -/
  | kSetGo (h : HostPort) (keySet : Bool)
  /-- IDE_INTEGRITY_FAILURE (R471). -/
  | ideIntegrityFailure (h : HostPort)
  /-- ENTDAA (R476). -/
  | entdaa (addr : BitVec 7)
  /-- SET_ENDPOINT_ID (R476). -/
  | setEndpointId (eid : BitVec 8)
  /-- REG_READ (R479). -/
  | regRead (secured : Bool) (off : Nat) (size : Nat)
  /-- REG_WRITE (R479). -/
  | regWrite (secured : Bool) (off : Nat) (size : Nat) (value : BitVec 64)
  /-- GET_SENSOR_READING (R477). -/
  | getSensorReading (id : BitVec 16)
  /-- SET_NUMERIC_EFFECTER_VALUE (R477). -/
  | setNumericEffecterValue (secured : Bool) (id : BitVec 16) (value : BitVec 32)
  /-- SET_EVENT_RECEIVER (R481). -/
  | setEventReceiver (eid : BitVec 8)
  /-- QUERY_DEVICE_IDENTIFIERS (R479). -/
  | queryDeviceIdentifiers
  /-- REQUEST_FIRMWARE_DATA (R480). -/
  | requestFirmwareData (secured : Bool) (data : List (BitVec 8))
  /-- VERIFY_COMPLETE (R480). -/
  | verifyComplete
  /-- APPLY_COMPLETE (R480). -/
  | applyComplete
  /-- ACTIVATE_FIRMWARE (R480). -/
  | activateFirmware (secured : Bool)
  /-- FIRMWARE_UPDATE_CANCEL (R480). -/
  | firmwareUpdateCancel
  /-- PLDM_EVENT_RESEND (R481). -/
  | pldmEventResend
  /-- DIARY_ENTRY_WRITE (R484). -/
  | diaryEntryWrite
  /-- DIARY_BATCH_CLOSE (R485). -/
  | diaryBatchClose
  /-- SEAL_WRITE (R485). -/
  | sealWrite
  /-- DIARY_INDEX_WRITE (R486). -/
  | diaryIndexWrite (who : Requester) (isSeal : Bool) (index : BitVec 32)
  /-- ILLEGAL_BUNDLE (R113). -/
  | illegalBundle (at' : ThreadRef) (bundle : BitVec 128)
  /-- FETCH_PAST_RANGE (R109). -/
  | fetchPastRange (at' : ThreadRef) (storeError : Bool)
  /-- ALIGNMENT_AND_FEC_LOCK (R282). -/
  | alignmentAndFecLock (p : Port) (next : BitVec 12)
  /-- HOST_LINK_UP (R345). -/
  | hostLinkUp (h : HostPort) (width : BitVec 5) (speed : BitVec 3) (cxl : Bool)
  /-- COMMIT_COMPLETE (R253). -/
  | commitComplete (st : StackId)
  /-- REFRESH_MANAGEMENT_REQUEST (R221). -/
  | refreshManagementRequest (hbm : Fin 32)
  /-- REGISTER_READ_REFUSED (R8). -/
  | registerReadRefused (who : Requester) (off size : Nat)
deriving DecidableEq, Repr

end Sys2Proof
end

