-- ==== Sys2Proof/Decode.lean ====
section
/-!
DEFINITION. The commands of this block have no binary encoding: no row of spec/opcode_table.json gives bits. (The 128-bit bundles of R104 that carry the thread operations are encoded and decoded in Machine/Encoding.lean.)
-/
namespace Sys2Proof

/-- The command that a word spells by the table's bits: none, since no row gives bits. -/
def decodeTableWord (nbits w : Nat) : Option Instr :=
  match nbits, w with
  | _, _ => none

end Sys2Proof
end

