-- ==== Sys2Proof/Config.lean ====
section
/-!
DEFINITION. What the spec leaves open or an implementation fixes: constants with no body, so that nothing can be proved of their values.
-/
namespace Sys2Proof.Config

/-- The NOTE of the STORE_NOTIFY that ends a Homework record at an offset of its ring: the spec gives it no value (R272, R301). -/
opaque homeworkNote : Nat → BitVec 32

/-- The delay in ns that a node adds to CORRECTION of a TIME frame which it passes on: its own transit and the cable into it, as measured (R333). -/
opaque forwardDelay : Nat → Nat

/-- The STATUS of a collective instance that fails because a STOP was accepted: R324 names no code for it. -/
opaque stopStatus : BitVec 4

/-- SHA-384 of a list of bytes. The spec names the function and leaves its definition to its own standard. -/
opaque sha384 : List Byte → BitVec 384

/-- Whether an ECDSA P-384 signature (r, s) of a digest verifies under a public key, X followed by Y. -/
opaque ecdsaVerify : BitVec 768 → BitVec 384 → BitVec 384 → BitVec 384 → Bool

/-- Whether a key is a point of P-384. -/
opaque onCurve : BitVec 768 → Bool

/-- POWER.INPUT.BUS at a tick of the cap loop, in units of 100 mV: the input voltage as measured (R421). -/
opaque busVoltage : Nat → BitVec 10

/-- What the register of a sensor shows, in 0.1 °C, for a sample that reads invalid: the spec gives no value (R414). -/
opaque invalidReading : Nat → Int

/-- The last 4 KiB of a resident copy: the spec gives their place and no contents (R381). -/
opaque residentTail : Nat → Nat → Byte

/-- BYTES of the record of an ACTIVATE: the spec does not say which of the writes of an activation it counts (R357, R390). -/
opaque activateBytes : Nat → Nat

/-- What a sector reads as when its cached copy has been lost with its tag: the data that HBM4 held, which the spec calls suspect (R426, R427). -/
opaque lostByte : Nat → Nat → Byte

/-- How many payload bytes a message between Tutors has on Hallway: 0 a dispatch, 1 the end of a part, 2 a fault, 3 a report of Bell arrivals. The spec gives these messages no layout (R155, R177, R218, R228). -/
opaque tutorMsgBytes : Nat → Nat
/-- How many saturations and replacements an application counts whose inputs are poisoned, by the value of `freeNext`: the spec states no values for data that cannot be used (R242, R424). -/
opaque poisonedSats : Nat → Nat
/-- A byte of another seat's memory that a fetch of the Marker brings for a roll check, by the value of `freeNext` and its place (R268). -/
opaque fetchedByte : Nat → Nat → Byte

/-! ## Link encryption (R288, R470) -/

/-- The AES-256 key of a port's direction (true: the one it sends in), by the number of the session and of the key in it. Keys are never readable. -/
opaque linkKey : Nat → Nat → Bool → Nat → BitVec 256
/-- The 32-bit salt of a port's direction, by the number of the session. -/
opaque linkSalt : Nat → Nat → Bool → BitVec 32
/-- Byte `i` of the AES-256-GCM key stream under a key and an IV. -/
opaque gcmStream : BitVec 256 → List Byte → Nat → Byte
/-- The AES-256-GCM tag under a key and an IV of additional authenticated data and a ciphertext. -/
opaque gcmTag : BitVec 256 → List Byte → List Byte → List Byte → BitVec 128

/-- The content of an SPDM request of the module after its header, by the value of `freeNext` and the code: nonces, public keys and what was negotiated (R466, R470). -/
opaque spdmRequest : Nat → Nat → List Byte
/-- Whether the receiver acknowledges within 1 s the message of an event, by the event's number in the ring and how often the message was resent (R481, log entry 50). -/
opaque eventAcknowledged : Nat → Nat → Bool
/-- Whether a certificate chain is one under the Svaene root whose leaf verifies (R470). -/
opaque chainVerifies : List Byte → Bool

/-! ## Errors, reports and accesses that no command brings (log entry 45) -/

/-- An error, a report or an access that comes of itself: a word on a lane of a bond port that is corrected (R431), symbols that go wrong in the copy of a sector that a slice or an HBM4 stack holds (R209, R223), a core store row or a Slate row whose ECC corrects an error or cannot (R89), a function table that is found uncorrectable, an instruction store error that is corrected (R118), symbols that a port's FEC corrects (R312), a transpose buffer, a hold buffer sector or an Assembly work buffer that is found uncorrectable (R423), an HBM4 stack that reports high temperature or no longer does (R221), and a diagnostic write that a Tutor or the Proctor makes to a core store window (R87). -/
inductive Upset where
  | array (addr symbols : Nat)
  | hbm (addr symbols : Nat)
  | storeRow (core row : Nat) (bad : Bool)
  | slateRow (core row : Nat) (bad : Bool)
  | table (core table : Nat)
  | istore (cluster : Nat)
  | fec (port count : Nat)
  | transpose (core : Nat)
  | hold (slice addr : Nat)
  | work (stack coll unit : Nat)
  | hot (stack : Nat) (isHot : Bool)
  | bondWord (slice : Nat) (toArray : Bool) (group lane : Nat)
  | window (addr : Nat) (data : List Byte)
deriving DecidableEq, Repr

/-- The detail word of the POISON fault of an MMA whose transpose buffer is found uncorrectable: the spec gives none (R113, R423). -/
opaque transposeDetail : Nat → Nat

/-- What comes of itself in a tick, by the value of `freeNext`. -/
opaque upsets : Nat → List Upset

/-! ## Fuses, flash and what start-up measures -/

/-- PROCTOR.SERIAL, from fuses (R465). -/
opaque serial : BitVec 64
/-- FUSED_MHZ of a physical core, from fuses (R118). -/
opaque fusedMhz : Nat → BitVec 12
/-- Whether a physical core is fused bad (R436). -/
opaque coreFusedBad : Nat → Bool
/-- THERMAL.KTH of a stack, from fuses (R414). -/
opaque kth : Nat → BitVec 16
/-- The SHA-384 digest of firmware key index k, and whether its revocation fuse is blown (R461). -/
opaque keyFuse : Nat → BitVec 384
/-- Whether the revocation fuse of a firmware key index is blown. -/
opaque keyRevoked : Nat → Bool
/-- What a firmware bank holds before any update (R462). -/
opaque flashBank : Nat → List Byte
/-- DEVICE of a bundle's header: the spec names the fields of the header and gives them no offsets. -/
opaque bundleDevice : List Byte → BitVec 32
/-- SVN of a bundle. -/
opaque bundleSvn : List Byte → BitVec 6
/-- Firmware version of a bundle. -/
opaque bundleVersion : List Byte → BitVec 32
/-- The Proctor image and the Tutor image of a bundle. -/
opaque bundleImages : List Byte → List Byte × List Byte
/-- Whether the Tutor image of a bundle passes the Proctor firmware's check (R462). -/
opaque tutorImagePasses : List Byte → Bool
/-- The Proctor's boot ROM. -/
opaque bootRom : List Byte
/-- The frequency that the ageing monitor finds for a physical core at a start-up (R420). -/
opaque delayMonitor : Nat → Nat → BitVec 12
/-- Whether a physical core passes the self-test of a start-up (R436). -/
opaque coreSelfTest : Nat → Nat → Bool
/-- Whether an Exam passes a slice, its repairs apart (R432, R434). -/
opaque examPasses : Nat → Nat → Bool
/-- The bond lanes of a slice that an Exam finds failing: direction, group and lane (R432). -/
opaque examLanes : Nat → Nat → List (Bool × Fin 36 × Fin 32)
/-- The array rows, and the columns, of a slice that a march test of the full Exam finds failing, by the value of `freeNext` (R432). -/
opaque examRows : Nat → Nat → List Nat
/-- See `examRows`. -/
opaque examColumns : Nat → Nat → List Nat
/-- The array row in which sector `k` of a slice array lies: the spec does not lay the array out in rows (R435). -/
opaque arrayRow : Nat → Nat
/-- Whether a FAILED channel passes the test of a start-up (R438). -/
opaque channelPasses : Nat → Nat → Bool
/-- HBM.DEVICE of an HBM4 stack as read at start-up (R221). -/
opaque hbmDevice : Nat → BitVec 32

/-! ## Identity and management -/

/-- The bytes over which measurement 4 or 5 is taken, from the values that it covers: the spec names the values and no layout (R467). -/
opaque measuredBytes : Nat → List Nat → List Byte
/-- The certificate chain of slot 0, whose Alias certificate depends on measurements 1 to 3 (R465, R466). -/
opaque certChain : List (BitVec 384) → List Byte
/-- A signature of a digest under the Alias key that measurements 1 to 3 give (R465, R466). -/
opaque aliasSign : List (BitVec 384) → BitVec 384 → List Byte
/-- The ECDSA P-384 signature (r, s) of a digest under the DeviceID key (R465, R485). -/
opaque deviceSign : BitVec 384 → BitVec 384 × BitVec 384

end Sys2Proof.Config
end

