-- ==== Sys2Proof/Machine/Tab.lean ====
section
/-!
DEFINITION. Sparse tables: lists of key and value with strictly rising keys, which hold no entry equal to what an unlisted key reads as.
-/
namespace Sys2Proof.Machine

/-- A sparse table: keys strictly rising. -/
abbrev Tab (V : Type) := List (Nat × V)

/-- The value at key `k`; an unlisted key reads as `d`. Keys rise, so the search ends at the first key past `k`. -/
def Tab.get {V : Type} (d : V) : Tab V → Nat → V
  | [], _ => d
  | (j, v) :: t, k => if k = j then v else if k < j then d else Tab.get d t k

/-- Writes `v` at key `k`, and removes the entry when `v` is what an unlisted key reads as. (In canonical form no later key is `k` or less, and `dropWhile` drops nothing more.) -/
def Tab.set {V : Type} [DecidableEq V] (d : V) : Tab V → Nat → V → Tab V
  | [], k, v => if v = d then [] else [(k, v)]
  | (j, w) :: t, k, v =>
    if k < j then (if v = d then (j, w) :: t else (k, v) :: (j, w) :: t)
    else if k = j then (if v = d then t.dropWhile (fun e => e.1 ≤ k) else (k, v) :: t)
    else (j, w) :: Tab.set d t k v

/-- The canonical form: every key of `t` is above `lo` where one is given, keys rise strictly, and no entry reads as `d`. -/
def Tab.wfFrom {V : Type} [DecidableEq V] (d : V) : Option Nat → Tab V → Bool
  | _, [] => true
  | lo, (k, v) :: t => (match lo with | none => true | some j => decide (j < k)) && decide (v ≠ d) && Tab.wfFrom d (some k) t

/-- The canonical form of a whole table. -/
def Tab.wf {V : Type} [DecidableEq V] (d : V) (t : Tab V) : Bool := Tab.wfFrom d none t

/-- A finite set of numbers in rising order: the poisoned sectors and rows. -/
abbrev NatSet := List Nat

/-- Adds a number to a rising list. -/
def NatSet.insert : NatSet → Nat → NatSet
  | [], k => [k]
  | j :: t, k => if k < j then k :: j :: t else if k = j then j :: t else j :: NatSet.insert t k

/-- Removes a number. -/
def NatSet.erase (s : NatSet) (k : Nat) : NatSet := s.filter (fun j => j != k)

/-- Membership. -/
def NatSet.has (s : NatSet) (k : Nat) : Bool := List.elem k s

end Sys2Proof.Machine
end

