-- ==== Sys2Proof/Machine/Types.lean ====
section
/-!
DEFINITION. The plain-data types of the units that `State` is made of: threads, cores, clusters, lessons, Bells, slices, Markers, fabric ports, Assembly engines, the Corridor, host queues, Syllabus images, power loops, and the Proctor's stores.
-/
namespace Sys2Proof.Machine

/-! ## Threads and cores -/

/-- Thread states (R92). -/
inductive TState where
  | idle | ready | waitReg | waitQueue | waitFence | waitBell | waitStream | halted | faulted
deriving DecidableEq, Repr

/-- A bundle as it issues: the operations of slot A and slot B, and its 128 bits (R104). An LI bundle has one operation. -/
structure Bundle where
  a : Op
  b : Op
  li : Bool
  word : Nat
deriving DecidableEq, Repr

/-- A hardware thread (R90). `x` lists x1 to x31; unlisted registers read 0. `pastEnd` shows that it has run sequentially past the last bundle of the instruction store, so that its PC of 20 bits has come round to 0 (R109), `seq` numbers its bundles in program order, and `waitOn` is the bundle that waits in WAIT_STREAM for the buffer of its SWAIT (R92, R172). -/
structure Thread where
  x : Tab Word
  t : Tab Word
  pc : BitVec 20
  pastEnd : Bool
  state : TState
  seq : Nat
  waitOn : Option Bundle
  waitBell : Option (BitVec 12 × Fin 32)
deriving DecidableEq, Repr

/-- An accumulator (R68): 648-bit value and the three flags. -/
structure Acc where
  value : BitVec 648
  pos : Bool
  neg : Bool
  nan : Bool
deriving DecidableEq, Repr

/-- A conversion statistics record (R57); `maxExp` none stands for 0x8000. -/
structure Stats where
  maxExp : Option Int
  nanSeen : Bool
  infSeen : Bool
  elements : Nat
  overflow : Nat
  underflow : Nat
deriving DecidableEq, Repr

/-- An engine, Slate, stream or finishing operation from its issue (R98): its thread, bundle, program-order number, global issue order, captured tile and scalar registers, and the first buffers that its stream-fed operands take (R174). -/
structure EngOp where
  thread : Fin 16
  pc : BitVec 20
  slotB : Bool
  seq : Nat
  order : Nat
  op : Op
  tD : Word
  tA : Word
  tB : Word
  xa : Word
  xb : Word
  bufA : Nat
  bufB : Nat
deriving DecidableEq, Repr

/-- An MMA whose occupancy has begun (R125): its shape, how much of K the engine input has taken, and the operand codes it has read, per output row of A and output column of B, latest first. -/
structure MmaRun where
  eng : EngOp
  m : Nat
  n : Nat
  k : Nat
  kDone : Nat
  aCodes : List (List Nat)
  bCodes : List (List Nat)
deriving DecidableEq, Repr

/-- A sector of a running GATH or SCAT (R148): tile row, byte position in the row, module address, and the bytes a SCAT carries. -/
structure GSector where
  row : Nat
  pos : Nat
  addr : Nat
  data : List Byte
  poison : Bool
deriving DecidableEq, Repr

/-- The running gather or scatter (R147, R148): sectors still to send and sectors outstanding. -/
structure GathRun where
  eng : EngOp
  toSend : List GSector
  outst : List (Nat × GSector)
deriving DecidableEq, Repr

/-- An outstanding LDX or STX (R98, R113). -/
structure Outst where
  id : Nat
  thread : Fin 16
  pc : BitVec 20
  slotB : Bool
  seq : Nat
  isLoad : Bool
  bytes : Nat
  rd : Fin 32
  addr : Nat
  data : Word
deriving DecidableEq, Repr

/-- The transfer of a stream descriptor that is in progress (R169, R170): transfer number, index in the run, requests sent and returned, whether its data are discarded (R116), and whether an ADDRESS fault keeps it from sending any more (R113). -/
structure Xfer where
  m : Nat
  t : Nat
  base : Nat
  sent : Nat
  returned : Nat
  discard : Bool
  halted : Bool
deriving DecidableEq, Repr

/-- A stream request outstanding (R170). -/
structure StreamReq where
  id : Nat
  desc : Fin 64
  m : Nat
  idx : Nat
deriving DecidableEq, Repr

/-- The state of a stream descriptor (R168, R172). Transfers are numbered from stage start (R167).
`runStart` is the number of the run's transfer 0, `started` the next to start, `done` how many of the run have completed, `armed` how many have been armed or latched, `taken` the next buffer a consumer takes, `held` the buffers a thread holds, `outPend` the buffers released to an OUT descriptor and not started, `landed` the completed transfers whose buffers nothing has taken since, and `runAt` and `latchedAt` the SARM, by PC and place in program order, that armed the run and the latched one. -/
structure StreamDyn where
  state : Fin 5
  base : Nat
  count : Nat
  latched : Option (Nat × Nat)
  runStart : Nat
  started : Nat
  done : Nat
  armed : Nat
  taken : Nat
  held : List Nat
  outPend : List Nat
  xfers : List Xfer
  landed : NatSet
  runAt : Option (BitVec 20 × Nat)
  latchedAt : Option (BitVec 20 × Nat)
deriving DecidableEq, Repr

/-- The stage running on a core (R158 to R160): its lesson, number, masks, program range, argument words, and the descriptors loaded from its record. -/
structure Stage where
  lesson : Nat
  index : Nat
  loading : Bool
  coreMask : BitVec 8
  threadMask : BitVec 16
  entryPc : BitVec 20
  progLo : Nat
  progHi : Nat
  args : List Word
  step : BitVec 32
  tregs : List Word
  tdesc : Tab (BitVec 256)
  sdesc : Tab (BitVec 512)
deriving DecidableEq, Repr

/-- An enabled core under its logical number (R84 to R98, R136, R165). `streamQ` holds the releases that the stream engine has not taken (R98, R172). Its core store, Slate and row poison belong to its physical position and stand in `State`. -/
structure Core where
  threads : Tab Thread
  owner : Tab Byte
  slateMap : Tab Byte
  slateBad : NatSet
  tableIds : Tab Nat
  tableImgs : Tab (List Byte)
  tableBad : NatSet
  mmaQ : List EngOp
  slateQ : List EngOp
  vecQ : List EngOp
  gathQ : List EngOp
  finQ : List EngOp
  streamQ : List EngOp
  mmaRun : List MmaRun
  slateRun : Option EngOp
  vecRun : List EngOp
  gathRun : Option GathRun
  finRun : Option EngOp
  outst : List Outst
  sreqs : List StreamReq
  nextId : Nat
  lastDesc : Nat
  stage : Option Stage
  streams : Tab StreamDyn
  stats : Tab Stats
  cycles25 : Nat
  testPending : Bool
  testFailed : Bool
  transposeBad : Bool
deriving DecidableEq, Repr

/-! ## Clusters, lessons, Bells -/

/-- The cluster PLL (R419). -/
inductive Pll where
  | off | locking | on
deriving DecidableEq, Repr

/-- A cluster (R84, R156, R143): the part it runs, the parts waiting in order of readiness, the logical core whose FIN is being served, and whether its lesson is being stopped. -/
structure Cluster where
  run : Option Nat
  waiting : List Nat
  finRun : Option (Fin 8)
  stopping : Bool
  pll : Pll
  droop : Bool
  istoreBad : NatSet
deriving DecidableEq, Repr

/-- Stop causes of a lesson (R182), with the detail of an abort (R183). -/
inductive StopCause where
  | aborted (detach : Bool) | faulted (bell : Bool) | timeout | clusterRetired | reset | linkDown
deriving DecidableEq, Repr

/-- The first thread fault a lesson's home Tutor accepted (R183). -/
structure FaultInfo where
  stack : Nat
  cluster : Nat
  core : Nat
  thread : Nat
  code : Nat
  pc : Nat
  detail : Nat
deriving DecidableEq, Repr

/-- A part's progress on one cluster. -/
inductive PartState where
  | notStarted | running | stopping | ended | withdrawn
deriving DecidableEq, Repr

/-- An outstanding lesson at its home Tutor (R154, R155, R180 to R183). `lost` says that its home Tutor has been reset (R450). -/
structure Lesson where
  id : Nat
  queue : QueueId
  generation : Nat
  cmdIndex : Nat
  home : StackId
  part : Nat
  lib : Nat
  tag : BitVec 32
  step : BitVec 32
  args : List Word
  nstages : Nat
  stopOnDetach : Bool
  scheduled : Bool
  position : Option Nat
  clusterMask : BitVec 64
  timeoutUs : Nat
  parts : List (Nat × PartState)
  startTime : Word
  stagesStarted : List (Nat × Nat)
  stagesEnded : List (Nat × Nat)
  wroteMemory : Bool
  handedAssembly : Bool
  bellBroken : Bool
  fault : Option FaultInfo
  cause : Option StopCause
  abortSeen : Option Bool
  retiring : Bool
  lost : Bool
  stats : List (Nat × Stats)
deriving DecidableEq, Repr

/-- A message between Tutors about a lesson part, in flight over Hallway (R155). -/
inductive PartMsg where
  | dispatch (lesson : Nat) (st : StackId)
  | ended (lesson : Nat) (cl : ClusterId) (stopped : Bool)
  | fault (lesson : Nat) (info : FaultInfo)
deriving DecidableEq, Repr

/-- A Bell group's open episode (R175 to R179): episode number, arrivals as (core, thread, xa), held arrivals, the arrivals that each other stack has reported, and seats arrived. -/
structure Bell where
  record : BitVec 256
  episode : BitVec 32
  arrivals : List (CoreId × Fin 16 × Fin 32)
  held : List (CoreId × Fin 16 × Fin 32)
  reported : Tab Nat
  firstAt : Option Word
  seats : List (BitVec 12)
  seatHeld : List (BitVec 12)
  arriveSent : Bool
deriving DecidableEq, Repr

/-! ## Slices -/

/-- A line held in a cache way (R206, R208, R211): valid and dirty bits are one per sector. -/
structure CacheLine where
  set : Nat
  way : Fin 16
  line : Nat
  valid : BitVec 4
  dirty : BitVec 4
  pinned : Bool
deriving DecidableEq, Repr

/-- A hold buffer entry (R217): line, dirty sectors, whether its write-back data has left, and what changed after it left. -/
structure HoldEntry where
  line : Nat
  valid : BitVec 4
  dirty : BitVec 4
  leaving : Bool
  again : BitVec 4
deriving DecidableEq, Repr

/-- A pin command in a slice's queue (R211). -/
structure PinCmd where
  unpin : Bool
  line : Nat
deriving DecidableEq, Repr

/-- What a request asks of a slice (R206, R214): elements of `size` bytes take contributions of `csize` bytes. -/
inductive SliceAsk where
  | read
  | write (data : List Byte) (poison : Bool)
  | ints (size csize : Nat) (xs : List Nat)
  | stats (r : Stats)
deriving DecidableEq, Repr

/-- A request that waits at a slice for a hold buffer entry (R217): its address, its traffic class, and what it asks. -/
structure SliceReq where
  addr : Nat
  cls : Nat
  ask : SliceAsk
deriving DecidableEq, Repr

/-- A read whose sector is being fetched (R206, R207): the sector, its bytes as they stood when the read reached the slice, and whether it read poisoned. -/
structure SectorRead where
  sector : Nat
  data : List Byte
  poison : Bool
deriving DecidableEq, Repr

/-- A slice (R198 to R217): its tags, replacement trees, hold buffer, requests that wait for a hold entry, oldest first, sectors being fetched, reads that wait for them, oldest first, pin queue, the array rows corrected with their times (R435), the spare columns in use (R432), and the words corrected on each bond lane with their times (R431). -/
structure Slice where
  lines : List CacheLine
  lru : Tab (BitVec 15)
  hold : List HoldEntry
  waitQ : List SliceReq
  fetching : NatSet
  reads : List SectorRead
  pinQ : List PinCmd
  bondRepairs : List (Bool × Nat × Nat)
  bondSpares : List (Bool × Nat × Nat)
  rowRepair : Option Nat
  rowsUsed : Nat
  rowHits : List (Nat × Nat)
  colSpares : List Nat
  laneWords : List ((Bool × Nat × Nat) × Nat)
  laneSpares : List (Bool × Nat)
  failed : Bool
deriving DecidableEq, Repr

/-! ## The Marker -/

/-- A PSD entry as the ARM scan read it (R230): words 0 to 7. -/
structure Psd where
  index : Nat
  words : List Word
deriving DecidableEq, Repr

/-- A late slip (R258): block, step, layer exponent, elements, and the factor and step size it takes at the decision. -/
structure Slip where
  page : Nat
  index : Nat
  step : BitVec 32
  e : Int
  data : List Int
  decided : Option (BitVec 32 × BitVec 32)
deriving DecidableEq, Repr

/-- A slow block's state stage (R259, R260): the committed half, the shadow half after an application with the step of its slip, the write-back, the half of an application that an ABANDONED step has discarded (R261, R262), and whether what the application read was poisoned. -/
structure SlipStage where
  index : Nat
  fetched : Bool
  state : List Byte
  shadow : Option (List Byte)
  appliedStep : BitVec 32
  writing : Bool
  written : Bool
  failed : Bool
  pages : Nat × Nat
  sat : Nat
  kept : Option (List Byte)
  poison : Bool
deriving DecidableEq, Repr

/-- A Calibration command in progress (R264). -/
structure CalRun where
  ortho : Bool
  side : Bool
  p4 : Bool
  iters : Nat
  index : Nat
deriving DecidableEq, Repr

/-- A Homework record waiting to be written (R269 to R272): the block, COMMITTED_STEP and COMMITS of its commit, its version then, and whether it is FULL. -/
structure HwRec where
  psd : Psd
  step : BitVec 32
  commits : Nat
  cur : Nat
  full : Bool
deriving DecidableEq, Repr

/-- A Marker (R229 to R274). -/
structure Marker where
  scan : List Psd
  hpSets : Tab (List Byte)
  lr : BitVec 32
  clip : BitVec 32
  segs : List (Nat × Nat)
  chunkE : Tab Int
  chunkWait : List Chunk
  q : Option LxValue
  qWait : List (BitVec 32 × LxValue)
  applied : NatSet
  firstShadow : NatSet
  decision : Option (Fin 5)
  commitWritten : NatSet
  slips : List Slip
  stages : List SlipStage
  withheldChunks : List Chunk
  cal : Option (CalRun × Psd)
  rollNext : Nat
  rollDue : Nat
  hwQueue : List HwRec
  hwReadback : List (List Byte)
  hwSeen : NatSet
  satStep : Nat
  withheldNs : Nat
deriving DecidableEq, Repr

/-! ## The fabric -/

/-- The session of a fabric port (R288, R470). -/
inductive Session where
  | none | identSent | required | up | skipped
deriving DecidableEq, Repr

/-- A fabric port's link layer (R277 to R288, R334, R335): the training exchange with the LINK messages that are being repeated, the transmitter's lane map, sequence numbers, retry buffer with how many of its flits have been acknowledged and stay for their group, where the partner asked to go on after a retrain, messages waiting, credit held and owed by virtual channel, tag groups (the open one as sent, and the one received, with its tag), the number of the session and of the keys installed in it, whether the idle receiving slot holds a new key, the SPDM request that waits for its answer, and the Roll call since UP. -/
structure FPort where
  trainEpoch : BitVec 8
  repeats : List LinkMsg
  actedOps : List Nat
  mapSent : Bool
  lockDone : Bool
  lanes : List (BitVec 8)
  retrainFails : Nat
  txSeq : BitVec 12
  rxSeq : BitVec 12
  nakOut : Bool
  retry : List Flit
  acked : Nat
  resumeAt : BitVec 12
  txq : List (Fin 4 × FabMsg)
  credit : List Nat
  creditOwed : List Nat
  deficit : List Nat
  groupOut : List Flit
  groupRx : List Flit
  tagFails : Nat
  txCounter : Nat
  rxCounter : Nat
  txSlot : Bool
  rxSlot : Bool
  setup : Nat
  txKeyNo : Nat
  rxKeyNo : Nat
  rxNext : Bool
  session : Session
  partnerSerial : Word
  spdmParts : List (Nat × List Byte)
  asked : Nat
  rollSent : Bool
  rollPresent : Bool
deriving DecidableEq, Repr

/-- An entry of a stack's transaction tracker (R308, R309). -/
structure TrackEntry where
  entry : Nat
  op : Option FabOp
  by' : Initiator
  seat : BitVec 12
  addr : Word
  port : Option Nat
  coll : Option (BitVec 10 × BitVec 32)
  quarantine : Bool
deriving DecidableEq, Repr

/-- A request that its initiator holds until earlier ones have responded (R303), or until the tracker has room. -/
structure HeldReq where
  st : StackId
  req : FabIssue
deriving DecidableEq, Repr

/-- A collective instance (R316 to R324), with its progress: whether all of its step is known (a packet names 16 bits of it), units with a local input, packets added to each 256-byte range, ranges whose result stands here, sends made as (range, destination), units delivered and poisoned, the LX value of a NORM_EXCHANGE, packets without a response, and whether its completion word has been written. -/
structure Instance' where
  coll : Nat
  step : BitVec 32
  whole : Bool
  e : Option Int
  rank : Option Nat
  own : NatSet
  got : Tab Nat
  final : NatSet
  sent : List (Nat × Nat)
  delivered : NatSet
  poisoned : NatSet
  norm : LxValue
  unacked : Nat
  failed : Option (BitVec 4)
  complete : Bool
deriving DecidableEq, Repr

/-- An Assembly engine (R313 to R325): its instances, the norm accumulator of each step parity, NORM instances completed by step, the steps whose accumulator has been contributed, and the contributions and packets that wait because 64 instances run (R325). -/
structure Assembly where
  insts : List Instance'
  normAcc : Tab LxValue
  normDone : Tab Nat
  normSent : NatSet
  normWait : List (BitVec 32)
  packetWait : List (Arrival × PktKind × CollPkt)
deriving DecidableEq, Repr

/-! ## The Corridor -/

/-- A frame its originator resends until it returns or is answered (R329). -/
structure Resend where
  frame : Frame
  tries : Nat
deriving DecidableEq, Repr

/-- The Corridor node of the module (R326 to R336): frames waiting with their class and whether they are in transit, frames to resend, frames acted on, sequence numbers by type, the bypass, the time still to slew, the time master that is followed, EPOCH messages to send, and the members heard by serial number and time. -/
structure Corridor where
  txq : List (Nat × Bool × Frame)
  resends : List Resend
  seen : List (BitVec 12 × BitVec 4 × BitVec 8)
  seqs : Tab (BitVec 8)
  bypassOpen : Bool
  moving : Option Bool
  slew : Int
  master : Option (BitVec 12)
  epochQueue : List (BitVec 12 × Option Nat)
  members : List (Word × Nat)
deriving DecidableEq, Repr

/-! ## Host coupling -/

/-- A running PLACE or EXPORT (R355, R356). -/
structure Copy where
  cmdIndex : Nat
  generation : Nat
  tag : BitVec 32
  opc : BitVec 8
  src : Nat
  dst : Nat
  len : Nat
  ring : Nat
  offset : Nat
  startTime : Word
  poisoned : Bool
  sent : Bool
deriving DecidableEq, Repr

/-- A command taken from a queue and not yet executed: its index, and its place among all the commands taken (R354). -/
structure Taken where
  index : Nat
  order : Nat
  generation : Nat
  entry : CmdEntry
  stopped : Bool
deriving DecidableEq, Repr

/-- A record that waits in the hold ring or in the unit that produced it (R366): the ring it goes to, its bytes, the queue generation, and whether it has been written. -/
structure HoldRec where
  ring : RingId
  generation : Nat
  bytes : List Byte
  written : Bool
deriving DecidableEq, Repr

/-- The hidden state of a command queue (R349 to R369): the last doorbell value that was valid, whether an invalid one has been written since, whether bytes 0 to 63 of the entry at SQ_HEAD are being fetched, that entry once its PHASE has proved fresh, whether its later lines are being fetched, and the re-fetches of a stale slot. -/
structure Queue where
  doorbell : BitVec 32
  badBell : Bool
  fetching : Bool
  fresh : Option CmdEntry
  restWait : Bool
  stale : Nat
  refetchDue : Nat
  taken : List Taken
  copies : List Copy
  unsignalled : Nat
deriving DecidableEq, Repr

/-- A host port (R345, R346, R471): whether its rings are still to be written again after a link loss, the vectors that wait until it may send, PERST#, and its key sets. -/
structure HPort where
  owed : Bool
  due : NatSet
  perst : Bool
  keySets : List Bool
deriving DecidableEq, Repr

/-! ## The Syllabus -/

/-- A loaded image (R386): where it lies, its length, digest and key. -/
structure Image where
  src : Nat
  len : Nat
  digest : BitVec 384
  keyId : Nat
deriving DecidableEq, Repr

/-- An ACTIVATE that has been taken (R388 to R390), and the STOPs, with their ORIGIN, that wait for its phase G (R391). -/
structure Activation where
  queue : QueueId
  generation : Nat
  cmdIndex : Nat
  tag : BitVec 32
  image : Image
  startTime : Word
  phase : Fin 3
  stops : List (BitVec 32 × Nat)
deriving DecidableEq, Repr

/-- Format rule state (R194): rung, exponent and calm count. -/
structure RuleState where
  rung : Nat
  e : Int
  calm : Nat
deriving DecidableEq, Repr

/-- What the Tutor of a stack holds of its active Syllabus (R380, R381, R392). -/
structure Tutor where
  digest : BitVec 384
  residentDigest : BitVec 384
  image : Nat
  imageLen : Nat
  libBase : Nat
  libLen : Nat
  lessonCount : Nat
  bellsLen : Nat
  progs : List (Nat × Nat × Nat)
  tableBase : Nat
  tableCount : Nat
  rules : List (BitVec 256 × List (BitVec 32))
  ruleStates : Tab RuleState
  timetable : List Word
  claimed : NatSet
  started : NatSet
  startedOn : List (Nat × Nat)
  janitorBond : Tab Nat
  janitorHbm : Tab Nat
  quizActive : Bool
deriving DecidableEq, Repr

/-! ## Power and thermal control -/

/-- A power-state command in progress (R395, R396, R400). -/
structure PowerCmd where
  stackSet : BitVec 4
  timeoutMs : Nat
  waking : Bool
  quiesced : Bool
deriving DecidableEq, Repr

/-- The control loops of one stack (R409, R413, R414). -/
structure Loops where
  nTh : Nat
  nHbm : Nat
  nRail : Nat
  railLow : Nat
  trippedTh : Bool
  trippedHbm : Bool
  prevGov : List Int
  diffCount : Tab Nat
  estGoverns : Bool
  cutSeen : Bool
deriving DecidableEq, Repr

/-! ## The Proctor -/

/-- A reset that has been accepted and waits, or is running (R446 to R448): its domain, stacks and cause, the partition that it named, whether it has taken effect and when, whether its bond drain is over (R452), and its stacks that were in FAULT as it began (R455). -/
structure ResetReq where
  domain : Fin 6
  stackSet : BitVec 4
  cause : Fin 5
  part : BitVec 2
  active : Bool
  start : Word
  drained : Bool
  faulted : BitVec 4
deriving DecidableEq, Repr

/-- A Diary entry in the Proctor's queue (R482 to R484). -/
structure DiaryEntry where
  time : Word
  origin : BitVec 8
  kind : BitVec 12
  subject : Word
  value : Word
deriving DecidableEq, Repr

/-- What the Proctor holds of the error log beyond its registers (R445): the most recent records as (record number, when they cease to take another error in). -/
structure RecentRec where
  number : Nat
  expiry : Nat
deriving DecidableEq, Repr

/-- An SPDM session of a transport (R466, R470). -/
structure SpdmSession where
  transport : Transport
  finished : Bool
deriving DecidableEq, Repr

/-- A key command that waits (R468): slot, OP and PARTS, the ORIGIN of its write, and its place among LOAD and ACTIVATE commands. -/
structure KeyCmd where
  slot : BitVec 4
  op : BitVec 2
  parts : BitVec 4
  origin : Nat
  order : Nat
deriving DecidableEq, Repr

/-- A firmware update in progress over PLDM type 5 (R480), and whether its data came in a secured session (R479). -/
structure FwUpdate where
  bytes : List Byte
  verified : Bool
  applied : Bool
  secured : Bool
deriving DecidableEq, Repr

/-- A PlatformEventMessage that no acknowledgement is known of: the number of its event in the ring, how often it was resent, and when it was last sent (R481). -/
structure EventMsg where
  event : Nat
  resent : Nat
  sentAt : Nat
deriving DecidableEq, Repr

/-- The Proctor's and the Diary's stores (R420, R463, R468, R476, R480 to R486). `banks` lists the firmware banks that have been written since power-on came first, `ageing` the last FMAX of each physical core. -/
structure Proctor where
  recent : List RecentRec
  diaryQ : List DiaryEntry
  diaryGap : Nat
  diary : Tab (List Byte)
  batchFirst : Nat
  batchCount : Nat
  closed : List (Nat × Nat × Word)
  seals : Tab (List Byte)
  lastDigest : BitVec 384
  indexes : Tab Nat
  keyCmds : List KeyCmd
  revoked : List (BitVec 384)
  sessions : List SpdmSession
  update : Option FwUpdate
  banks : Tab (List Byte)
  ageing : Tab Nat
  recovery : Bool
  eventsToSend : List EventMsg
  receiver : BitVec 8
  powered : Bool
deriving DecidableEq, Repr

/-- What leaves the module on its interfaces: register read data, interrupts, messages and replies. -/
inductive Out where
  | readData (who : Requester) (value : Word)
  | sliceData (addr : Nat) (data : List Byte) (poisoned : Bool)
  | msix (h : HostPort) (vector : Nat)
  | letterboxZeros (h : HostPort) (len : Nat)
  | snoopReply (h : HostPort)
  | fetch (q : QueueId) (index addr lines : Nat)
  | poisonedTlp (h : HostPort) (addr len : Nat)
  | hostRead (h : HostPort) (addr : Nat)
  | flit (p : Port) (f : Flit)
  | message (p : Port) (m : FabMsg)
  | frame (f : Frame)
  | sunk (st : StackId) (who : Initiator) (addr : Word) (status : Nat) (data : List Byte) (poison : BitVec 4)
  | spdm (t : Transport) (code : Nat) (payload : List Byte)
  | inBandInterrupt
  | provisionalId (id : BitVec 48)
  | pldm (completion : Nat) (payload : List Byte)
  | platformEvent (eid : BitVec 8) (payload : List Byte)
  | unsupportedRequest (h : HostPort)
deriving DecidableEq, Repr

end Sys2Proof.Machine
end

