-- ==== Sys2Proof/Machine/Defaults.lean ====
section
/-!
DEFINITION. The value of each unit's record right after reset, which is also what an unlisted entry of a table of units reads as.
-/
namespace Sys2Proof.Machine

/-- A thread that runs no stage (R92): IDLE, every register 0. -/
def Thread.init : Thread := ⟨[], [], 0, false, .idle, 0, none, none⟩

/-- A stream descriptor in state IDLE (R168). -/
def StreamDyn.init : StreamDyn := ⟨0, 0, 0, none, 0, 0, 0, 0, 0, [], [], [], [], none, none⟩

/-- A core that runs no stage: every slot FREE, every Slate row unassigned, every thread IDLE (R85). -/
def Core.init : Core :=
  { threads := [], owner := [], slateMap := [], slateBad := [], tableIds := [], tableImgs := [], tableBad := []
    mmaQ := [], slateQ := [], vecQ := [], gathQ := [], finQ := [], streamQ := [], mmaRun := [], slateRun := none, vecRun := []
    gathRun := none, finRun := none, outst := [], sreqs := [], nextId := 0, lastDesc := 63, stage := none, streams := [], stats := []
    cycles25 := 0, testPending := false, testFailed := false, transposeBad := false }

/-- A cluster that runs no lesson and whose PLL is stopped. -/
def Cluster.init : Cluster := ⟨none, [], none, false, .off, false, []⟩

/-- A Bell group between episodes, episode number 0. -/
def Bell.init : Bell := ⟨0, 0, [], [], [], none, [], [], false⟩

/-- A slice with no line, no hold entry and no queued pin command. -/
def Slice.init : Slice :=
  { lines := [], lru := [], hold := [], waitQ := [], fetching := [], reads := [], pinQ := [], bondRepairs := [], bondSpares := [], rowRepair := none
    rowsUsed := 0, rowHits := [], colSpares := [], laneWords := [], laneSpares := [], failed := false }

/-- A Marker that is IDLE. -/
def Marker.init : Marker :=
  { scan := [], hpSets := [], lr := 0, clip := 0, segs := [], chunkE := [], chunkWait := [], q := none, qWait := []
    applied := [], firstShadow := [], decision := none, commitWritten := [], slips := [], stages := []
    withheldChunks := [], cal := none, rollNext := 0, rollDue := 0, hwQueue := [], hwReadback := []
    hwSeen := [], satStep := 0, withheldNs := 0 }

/-- A port that is DISABLED. -/
def FPort.init : FPort :=
  { trainEpoch := 0, repeats := [], actedOps := [], mapSent := false, lockDone := false, lanes := [], retrainFails := 0
    txSeq := 0, rxSeq := 0, nakOut := false, retry := [], acked := 0, resumeAt := 0, txq := [], credit := [0, 0, 0, 0], creditOwed := [0, 0, 0, 0]
    deficit := [0, 0, 0, 0], groupOut := [], groupRx := [], tagFails := 0, txCounter := 0, rxCounter := 0, txSlot := false
    rxSlot := false, setup := 0, txKeyNo := 0, rxKeyNo := 0, rxNext := false, session := .none, partnerSerial := 0, spdmParts := [], asked := 0, rollSent := false, rollPresent := false }

/-- An Assembly engine with no instance. -/
def Assembly.init : Assembly := ⟨[], [], [], [], [], []⟩

/-- The Corridor node with its bypass closed (R330). -/
def Corridor.init : Corridor := ⟨[], [], [], [], false, none, 0, none, [], []⟩

/-- A queue with nothing fetched or taken. -/
def Queue.init : Queue := ⟨0, false, false, none, false, 0, 0, [], [], 0⟩

/-- A host port whose link is down. -/
def HPort.init : HPort := ⟨false, [], true, []⟩

/-- A Tutor with no Syllabus (R373). -/
def Tutor.init : Tutor :=
  { digest := 0, residentDigest := 0, image := 0, imageLen := 0, libBase := 0, libLen := 0, lessonCount := 0, bellsLen := 0, progs := []
    tableBase := 0, tableCount := 0, rules := [], ruleStates := [], timetable := [], claimed := [], started := []
    startedOn := [], janitorBond := [], janitorHbm := [], quizActive := false }

/-- The control loops at full rate (R406, R409, R413). -/
def Loops.init : Loops := ⟨64, 64, 64, 0, false, false, [], [], false, false⟩

/-- The Proctor's stores at power-on. -/
def Proctor.init : Proctor :=
  { recent := [], diaryQ := [], diaryGap := 0, diary := [], batchFirst := 0, batchCount := 0, closed := [], seals := []
    lastDigest := 0, indexes := [], keyCmds := [], revoked := [], sessions := [], update := none, banks := [], ageing := [], recovery := false
    eventsToSend := [], receiver := 0, powered := false }

end Sys2Proof.Machine
end

