-- ==== Sys2Proof/Machine/RegMap.lean ====
section
/-!
DEFINITION. The register map of the module: the blocks of R23 and every register and field that the field tables of spec/ give, with its offset, instances, width (R503), access codes (R6) and reset value.
A reset value that the table takes from fuses, flash, boot, start-up or the Syllabus is 0 here (DESIGN CHOICE, log entry 3).
-/
namespace Sys2Proof.Machine

/-- The register blocks (R23). -/
inductive Block where
  | proctor
  | sec
  | diary
  | corridor
  | power
  | thermal
  | host
  | tutor
  | queue
  | assembly
  | marker
  | psd
  | hallway
  | fabric
  | cluster
  | hbm
  | slice
  | core
deriving DecidableEq, Repr

/-- Every block, in the order of R23. -/
def Block.all : List Block :=
  [.proctor, .sec, .diary, .corridor, .power, .thermal, .host, .tutor, .queue, .assembly, .marker, .psd, .hallway, .fabric, .cluster, .hbm, .slice, .core]

/-- The base address of a block (R23). -/
def Block.base : Block → Nat
  | .proctor => 0x0
  | .sec => 0x10000
  | .diary => 0x20000
  | .corridor => 0x30000
  | .power => 0x40000
  | .thermal => 0x50000
  | .host => 0x60000
  | .tutor => 0x70000
  | .queue => 0x80000
  | .assembly => 0xc0000
  | .marker => 0xd0000
  | .psd => 0xe0000
  | .hallway => 0xf0000
  | .fabric => 0x100000
  | .cluster => 0x140000
  | .hbm => 0x150000
  | .slice => 0x180000
  | .core => 0x200000

/-- The instances of a block (R23). -/
def Block.instances : Block → Nat
  | .proctor => 1
  | .sec => 1
  | .diary => 1
  | .corridor => 1
  | .power => 4
  | .thermal => 4
  | .host => 2
  | .tutor => 4
  | .queue => 1
  | .assembly => 4
  | .marker => 4
  | .psd => 4
  | .hallway => 6
  | .fabric => 16
  | .cluster => 64
  | .hbm => 32
  | .slice => 1024
  | .core => 576

/-- The stride between the instances of a block (R23); for a block of one instance, the size of the range it stands in. -/
def Block.stride : Block → Nat
  | .proctor => 0x10000
  | .sec => 0x10000
  | .diary => 0x10000
  | .corridor => 0x10000
  | .power => 0x4000
  | .thermal => 0x4000
  | .host => 0x8000
  | .tutor => 0x4000
  | .queue => 0x40000
  | .assembly => 0x4000
  | .marker => 0x4000
  | .psd => 0x4000
  | .hallway => 0x1000
  | .fabric => 0x1000
  | .cluster => 0x400
  | .hbm => 0x800
  | .slice => 0x100
  | .core => 0x400

/-- The BLOCK code of an error record (R442). -/
def Block.code : Block → Nat
  | .proctor => 15
  | .sec => 17
  | .diary => 16
  | .corridor => 18
  | .power => 13
  | .thermal => 14
  | .host => 1
  | .tutor => 3
  | .queue => 2
  | .assembly => 10
  | .marker => 11
  | .psd => 12
  | .hallway => 8
  | .fabric => 9
  | .cluster => 4
  | .hbm => 7
  | .slice => 6
  | .core => 5

/-- The access codes of R6. -/
inductive Access where
  | rw | ro | wo | w1c | w1s | rc
deriving DecidableEq, Repr

/-- A field of a register table: its lowest bit, its width and its access code. -/
structure FieldDesc where
  lo : Nat
  width : Nat
  access : Access
deriving DecidableEq, Repr

/-- A row of a register table: block, offset in the instance, how many such registers stand in a run and how far apart, width in bits, reset value, whether only loss of power resets it, and fields. -/
structure RegDesc where
  block : Block
  off : Nat
  count : Nat
  gap : Nat
  width : Nat
  reset : Nat
  powerOn : Bool
  fields : List FieldDesc
deriving DecidableEq, Repr

/-- The registers of the tables, one name each. -/
inductive RegName where
  | proctorDeviceId
  | proctorSerial
  | proctorBoot
  | proctorFwVersion
  | proctorI3c
  | proctorEventTail
  | proctorResetCmd
  | proctorResetStatus
  | proctorStartup
  | proctorStartupTime
  | proctorColdResets
  | proctorWarmResets
  | proctorStackResets
  | proctorBaseDieResets
  | proctorErrlogTail
  | proctorErrlogOverwritten
  | proctorErrlogClass
  | proctorEvent
  | proctorErrlog
  | secPolicy
  | secFwSvn
  | secFwSvnCommit
  | secSylMinSvn
  | secKeyCmd
  | secKeyStatus
  | secHbmKeyGen
  | secKeyStage
  | secKey
  | secKeyPub
  | diaryTail
  | diaryOverwritten
  | diaryDropped
  | diarySealTail
  | diaryEntryIndex
  | diaryEntryStatus
  | diarySealIndex
  | diarySealStatus
  | diaryEntry
  | diarySeal
  | corridorState
  | corridorCtrl
  | corridorStopSend
  | corridorStopClear
  | corridorTime
  | corridorTimeMasterSeat
  | corridorFramesTx
  | corridorFramesRx
  | corridorCrcErrors
  | corridorResends
  | corridorLost
  | corridorNodes
  | corridorPeerEpoch
  | powerPstate
  | powerRate
  | powerHostLimit
  | powerLimits
  | powerRail
  | powerDroopEvents
  | powerRecessEntries
  | powerReport
  | powerCap
  | powerFloor
  | powerInput
  | powerNCap
  | powerEnergy
  | powerPstateCmd
  | powerPstateResult
  | thermalStatus
  | thermalSuspectEvents
  | thermalKth
  | thermalSensor
  | thermalCoolant
  | thermalFlow
  | thermalCoolantLimit
  | hostStatus
  | hostCtrl
  | hostLinkHold
  | hostLinkEpoch
  | hostFlush
  | hostIntakeBase
  | hostLetterboxReads
  | hostLetterboxDiscards
  | hostDetaches
  | hostEvents
  | hostIntakeLo
  | hostIntakeHi
  | hostMsix
  | hostMsixPba
  | tutorSylState
  | tutorJobId
  | tutorSeed
  | tutorDigest
  | tutorMaxSeq
  | tutorActivations
  | tutorSylError
  | tutorRuleStep
  | tutorRuleStatus
  | tutorRuleLastStep
  | tutorRules
  | tutorBellStats
  | tutorRetired
  | tutorAborted
  | tutorFaulted
  | tutorOtherStops
  | tutorBellsBroken
  | tutorRearmOverruns
  | tutorLessonLoad
  | tutorJanitorBond
  | tutorJanitorHbm
  | tutorBondPasses
  | tutorHbmPasses
  | tutorJanitorSectors
  | tutorQuizCtrl
  | tutorQuizStatus
  | tutorQuizRounds
  | tutorBondRepairs
  | tutorArrayRepairs
  | tutorSpares
  | tutorSliceFailed
  | queueConfig
  | queueSqBase
  | queueCqBase
  | queueTailAddr
  | queueSizes
  | queueCtrl
  | queueDoorbell
  | queueCqHead
  | queueState
  | queueSqHead
  | queueCqTail
  | queueOutstanding
  | queueGeneration
  | queueRefetches
  | queueDropped
  | queueCoalesce
  | queueResends
  | queueStepConfig
  | queueStepBase
  | queueStepTailAddr
  | queueStepSize
  | queueStepCtrl
  | queueStepHead
  | queueStepTail
  | queueStepState
  | queueStepDropped
  | queueHold
  | queueHoldPeak
  | assemblyState
  | assemblyCollTable
  | assemblyCollCount
  | assemblyNorm
  | assemblyNormRange
  | assemblyFailed
  | assemblyLastFail
  | assemblyPacketsSent
  | assemblyPacketsReceived
  | assemblyInstances
  | assemblyRefused
  | markerState
  | markerLr
  | markerClip
  | markerArm
  | markerArmStatus
  | markerOpenStep
  | markerCommittedStep
  | markerResult
  | markerNorm
  | markerClipFactor
  | markerExpected
  | markerArrived
  | markerStepCmd
  | markerHp
  | markerSlip
  | markerSlipPages
  | markerRoll
  | markerHwBase
  | markerHwSize
  | markerHwCtrl
  | markerHwTail
  | markerHwHead
  | markerHwHeadAddr
  | markerCalCmd
  | markerCalSrc
  | markerCalDamp
  | markerCalTol
  | markerCalStatus
  | markerCommits
  | markerSatCount
  | markerWithheldUs
  | markerRollChecked
  | markerClipReruns
  | markerNonfinite
  | markerOtherDiscards
  | markerBadChunks
  | markerDupSegments
  | markerRollMismatch
  | markerDegraded
  | psdTable
  | psdEntries
  | psdValidBlocks
  | psdFrozenBlocks
  | psdSlowBlocks
  | psdDegradedBlocks
  | psdRollFaultBlocks
  | hallwayState
  | hallwayCrcErrors
  | hallwayRetries
  | hallwayRetrains
  | hallwayBytesUp
  | hallwayBytesDown
  | fabricState
  | fabricCtrl
  | fabricVcWeight
  | fabricFecCorrected
  | fabricFecUncorrected
  | fabricCrcErrors
  | fabricRetries
  | fabricRetrains
  | fabricTagFailures
  | fabricMisrouted
  | fabricDenied
  | fabricStaleEpoch
  | fabricTxSlots
  | fabricRxSlots
  | fabricCreditStall
  | fabricPartner
  | fabricPartnerSerial
  | fabricRollState
  | fabricRollEvents
  | fabricRollSent
  | fabricRollReceived
  | fabricTracker
  | fabricTrackerPeak
  | fabricTimeout
  | fabricTimeouts
  | fabricLateResponses
  | fabricNotifyFull
  | fabricIssued
  | fabricServed
  | fabricErr
  | fabricNotifyBase
  | fabricNotifyEntries
  | fabricNotifyTail
  | fabricNotifyHeadAddr
  | fabricSeat
  | fabricNear
  | fabricFar
  | clusterCoreMap
  | clusterState
  | clusterSpareSwitches
  | clusterIstoreCorrected
  | clusterIstoreUncorrected
  | hbmState
  | hbmDevice
  | hbmCorrected
  | hbmUncorrected
  | hbmLaneRepairs
  | hbmRowRepairs
  | hbmRfmCommands
  | hbmChannel
  | hbmReadSectors
  | hbmWriteSectors
  | sliceConfig
  | slicePinCmd
  | slicePinStatus
  | slicePinRefused
  | slicePinned
  | sliceHold
  | sliceEccCorrected
  | sliceEccUncorrected
  | sliceReductions
  | sliceHoldMerges
  | sliceWritebacks
  | sliceHit
  | sliceMiss
  | sliceScratchSectors
  | coreStatus
  | coreClock
  | coreThreadState
  | coreFaultInfo
  | coreFaultAddr
  | coreFaultCount
  | coreIssueBundles
  | coreIssueIdle
  | coreWaitMem
  | coreWaitQueue
  | coreEccCorrected
  | coreEccUncorrected
  | coreSlotOwner
  | coreSlateMap
  | coreAccGroups
  | coreAccPasses
  | coreAccRange
  | coreAccFlags
deriving DecidableEq, Repr

/-- The table rows of the PROCTOR block. -/
def proctorDesc : RegName → Option RegDesc
  | .proctorDeviceId => some ⟨.proctor, 0x0, 1, 0x0, 32, 0x44001000, false, [⟨16, 16, .ro⟩, ⟨12, 4, .ro⟩, ⟨8, 4, .ro⟩]⟩
  | .proctorSerial => some ⟨.proctor, 0x8, 1, 0x0, 64, 0x0, false, [⟨0, 64, .ro⟩]⟩
  | .proctorBoot => some ⟨.proctor, 0x10, 1, 0x0, 32, 0x0, false, [⟨0, 1, .ro⟩, ⟨1, 1, .ro⟩, ⟨2, 2, .ro⟩, ⟨4, 2, .ro⟩, ⟨6, 1, .ro⟩]⟩
  | .proctorFwVersion => some ⟨.proctor, 0x14, 1, 0x0, 32, 0x0, false, [⟨0, 32, .ro⟩]⟩
  | .proctorI3c => some ⟨.proctor, 0x18, 1, 0x0, 32, 0x0, false, [⟨0, 7, .ro⟩, ⟨8, 8, .ro⟩, ⟨16, 1, .ro⟩]⟩
  | .proctorEventTail => some ⟨.proctor, 0x100, 1, 0x0, 32, 0x0, false, [⟨0, 32, .ro⟩]⟩
  | .proctorResetCmd => some ⟨.proctor, 0x2000, 1, 0x0, 32, 0x0, false, [⟨0, 3, .wo⟩, ⟨4, 4, .wo⟩, ⟨8, 2, .wo⟩, ⟨16, 16, .wo⟩]⟩
  | .proctorResetStatus => some ⟨.proctor, 0x2004, 1, 0x0, 32, 0x20, false, [⟨0, 4, .ro⟩, ⟨4, 1, .ro⟩, ⟨5, 3, .ro⟩, ⟨8, 3, .ro⟩, ⟨11, 1, .w1c⟩]⟩
  | .proctorStartup => some ⟨.proctor, 0x2008, 1, 0x0, 32, 0x0, false, [⟨0, 4, .ro⟩, ⟨4, 4, .ro⟩, ⟨8, 4, .ro⟩]⟩
  | .proctorStartupTime => some ⟨.proctor, 0x200c, 1, 0x0, 32, 0x0, false, [⟨0, 32, .ro⟩]⟩
  | .proctorColdResets => some ⟨.proctor, 0x2010, 1, 0x0, 32, 0x0, true, [⟨0, 32, .ro⟩]⟩
  | .proctorWarmResets => some ⟨.proctor, 0x2014, 1, 0x0, 32, 0x0, true, [⟨0, 32, .ro⟩]⟩
  | .proctorStackResets => some ⟨.proctor, 0x2018, 1, 0x0, 32, 0x0, true, [⟨0, 32, .ro⟩]⟩
  | .proctorBaseDieResets => some ⟨.proctor, 0x201c, 1, 0x0, 32, 0x0, true, [⟨0, 32, .ro⟩]⟩
  | .proctorErrlogTail => some ⟨.proctor, 0x2020, 1, 0x0, 32, 0x0, true, [⟨0, 32, .ro⟩]⟩
  | .proctorErrlogOverwritten => some ⟨.proctor, 0x2024, 1, 0x0, 32, 0x0, true, [⟨0, 32, .rc⟩]⟩
  | .proctorErrlogClass => some ⟨.proctor, 0x2028, 4, 0x4, 32, 0x0, true, [⟨0, 32, .rc⟩]⟩
  | .proctorEvent => some ⟨.proctor, 0x4000, 256, 0x10, 128, 0x0, false, [⟨0, 128, .ro⟩]⟩
  | .proctorErrlog => some ⟨.proctor, 0x8000, 1024, 0x20, 256, 0x0, true, [⟨0, 256, .ro⟩]⟩
  | _ => none

/-- The table rows of the SEC block. -/
def secDesc : RegName → Option RegDesc
  | .secPolicy => some ⟨.sec, 0x0, 1, 0x0, 32, 0x0, false, [⟨0, 1, .rw⟩, ⟨1, 1, .rw⟩, ⟨2, 1, .rw⟩, ⟨3, 1, .rw⟩, ⟨7, 1, .rw⟩]⟩
  | .secFwSvn => some ⟨.sec, 0x8, 1, 0x0, 32, 0x0, false, [⟨0, 6, .ro⟩, ⟨16, 6, .ro⟩]⟩
  | .secFwSvnCommit => some ⟨.sec, 0xc, 1, 0x0, 32, 0x0, false, [⟨0, 1, .wo⟩]⟩
  | .secSylMinSvn => some ⟨.sec, 0x10, 1, 0x0, 32, 0x0, false, [⟨0, 32, .rw⟩]⟩
  | .secKeyCmd => some ⟨.sec, 0x18, 1, 0x0, 32, 0x0, false, [⟨0, 4, .wo⟩, ⟨4, 2, .wo⟩, ⟨8, 4, .wo⟩]⟩
  | .secKeyStatus => some ⟨.sec, 0x1c, 1, 0x0, 32, 0x0, false, [⟨0, 2, .ro⟩, ⟨2, 1, .ro⟩]⟩
  | .secHbmKeyGen => some ⟨.sec, 0x20, 1, 0x0, 32, 0x0, false, [⟨0, 8, .ro⟩, ⟨8, 8, .ro⟩, ⟨16, 8, .ro⟩, ⟨24, 8, .ro⟩]⟩
  | .secKeyStage => some ⟨.sec, 0x80, 1, 0x0, 768, 0x0, false, [⟨0, 768, .wo⟩]⟩
  | .secKey => some ⟨.sec, 0x100, 16, 0x80, 64, 0x0, false, [⟨0, 2, .ro⟩, ⟨4, 4, .ro⟩]⟩
  | .secKeyPub => some ⟨.sec, 0x108, 16, 0x80, 768, 0x0, false, [⟨0, 768, .ro⟩]⟩
  | _ => none

/-- The table rows of the DIARY block. -/
def diaryDesc : RegName → Option RegDesc
  | .diaryTail => some ⟨.diary, 0x0, 1, 0x0, 32, 0x0, true, [⟨0, 32, .ro⟩]⟩
  | .diaryOverwritten => some ⟨.diary, 0x4, 1, 0x0, 32, 0x0, true, [⟨0, 32, .rc⟩]⟩
  | .diaryDropped => some ⟨.diary, 0x8, 1, 0x0, 32, 0x0, true, [⟨0, 32, .rc⟩]⟩
  | .diarySealTail => some ⟨.diary, 0xc, 1, 0x0, 32, 0x0, true, [⟨0, 32, .ro⟩]⟩
  | .diaryEntryIndex => some ⟨.diary, 0x10, 1, 0x0, 32, 0x0, false, [⟨0, 32, .rw⟩]⟩
  | .diaryEntryStatus => some ⟨.diary, 0x14, 1, 0x0, 32, 0x0, false, [⟨0, 1, .ro⟩]⟩
  | .diarySealIndex => some ⟨.diary, 0x18, 1, 0x0, 32, 0x0, false, [⟨0, 32, .rw⟩]⟩
  | .diarySealStatus => some ⟨.diary, 0x1c, 1, 0x0, 32, 0x0, false, [⟨0, 1, .ro⟩]⟩
  | .diaryEntry => some ⟨.diary, 0x100, 1, 0x0, 256, 0x0, false, [⟨0, 256, .ro⟩]⟩
  | .diarySeal => some ⟨.diary, 0x200, 1, 0x0, 2048, 0x0, false, [⟨0, 2048, .ro⟩]⟩
  | _ => none

/-- The table rows of the CORRIDOR block. -/
def corridorDesc : RegName → Option RegDesc
  | .corridorState => some ⟨.corridor, 0x0, 1, 0x0, 32, 0x0, false, [⟨0, 2, .ro⟩, ⟨2, 1, .ro⟩, ⟨3, 1, .w1c⟩, ⟨4, 4, .ro⟩]⟩
  | .corridorCtrl => some ⟨.corridor, 0x8, 1, 0x0, 32, 0x0, false, [⟨0, 1, .rw⟩, ⟨1, 1, .rw⟩]⟩
  | .corridorStopSend => some ⟨.corridor, 0x10, 1, 0x0, 32, 0x0, false, [⟨0, 32, .wo⟩]⟩
  | .corridorStopClear => some ⟨.corridor, 0x14, 1, 0x0, 32, 0x0, false, [⟨0, 4, .wo⟩]⟩
  | .corridorTime => some ⟨.corridor, 0x18, 1, 0x0, 64, 0x0, false, [⟨0, 64, .ro⟩]⟩
  | .corridorTimeMasterSeat => some ⟨.corridor, 0x20, 1, 0x0, 32, 0x0, false, [⟨0, 12, .ro⟩]⟩
  | .corridorFramesTx => some ⟨.corridor, 0x28, 1, 0x0, 64, 0x0, false, [⟨0, 64, .ro⟩]⟩
  | .corridorFramesRx => some ⟨.corridor, 0x30, 1, 0x0, 64, 0x0, false, [⟨0, 64, .ro⟩]⟩
  | .corridorCrcErrors => some ⟨.corridor, 0x38, 1, 0x0, 32, 0x0, false, [⟨0, 32, .rc⟩]⟩
  | .corridorResends => some ⟨.corridor, 0x3c, 1, 0x0, 32, 0x0, false, [⟨0, 32, .rc⟩]⟩
  | .corridorLost => some ⟨.corridor, 0x40, 1, 0x0, 32, 0x0, false, [⟨0, 32, .rc⟩]⟩
  | .corridorNodes => some ⟨.corridor, 0x44, 1, 0x0, 32, 0x0, false, [⟨0, 6, .ro⟩]⟩
  | .corridorPeerEpoch => some ⟨.corridor, 0x2000, 2048, 0x4, 32, 0x0, false, [⟨0, 12, .rw⟩, ⟨15, 1, .rw⟩, ⟨16, 12, .rw⟩, ⟨31, 1, .rw⟩]⟩
  | _ => none

/-- The table rows of the POWER block. -/
def powerDesc : RegName → Option RegDesc
  | .powerPstate => some ⟨.power, 0x0, 1, 0x0, 32, 0x0, false, [⟨0, 3, .ro⟩, ⟨3, 1, .ro⟩]⟩
  | .powerRate => some ⟨.power, 0x4, 1, 0x0, 32, 0x40, false, [⟨0, 7, .ro⟩, ⟨8, 8, .ro⟩]⟩
  | .powerHostLimit => some ⟨.power, 0x8, 1, 0x0, 32, 0x40, false, [⟨0, 7, .rw⟩]⟩
  | .powerLimits => some ⟨.power, 0x10, 1, 0x0, 64, 0x4040404040404040, false, [⟨0, 7, .ro⟩, ⟨8, 7, .ro⟩, ⟨16, 7, .ro⟩, ⟨24, 7, .ro⟩, ⟨32, 7, .ro⟩, ⟨40, 7, .ro⟩, ⟨48, 7, .ro⟩, ⟨56, 7, .ro⟩]⟩
  | .powerRail => some ⟨.power, 0x18, 1, 0x0, 32, 0x0, false, [⟨0, 16, .ro⟩]⟩
  | .powerDroopEvents => some ⟨.power, 0x1c, 1, 0x0, 32, 0x0, false, [⟨0, 32, .rc⟩]⟩
  | .powerRecessEntries => some ⟨.power, 0x20, 1, 0x0, 32, 0x0, false, [⟨0, 32, .ro⟩]⟩
  | .powerReport => some ⟨.power, 0x40, 8, 0x8, 64, 0x0, false, [⟨0, 64, .ro⟩]⟩
  | .powerCap => some ⟨.power, 0x1000, 1, 0x0, 32, 0x16a816a8, false, [⟨0, 13, .rw⟩, ⟨16, 13, .ro⟩, ⟨29, 1, .w1c⟩]⟩
  | .powerFloor => some ⟨.power, 0x1004, 1, 0x0, 32, 0x0, false, [⟨0, 13, .ro⟩]⟩
  | .powerInput => some ⟨.power, 0x1008, 1, 0x0, 32, 0x0, false, [⟨0, 13, .ro⟩, ⟨16, 10, .ro⟩]⟩
  | .powerNCap => some ⟨.power, 0x100c, 1, 0x0, 32, 0x40, false, [⟨0, 7, .ro⟩]⟩
  | .powerEnergy => some ⟨.power, 0x1010, 1, 0x0, 64, 0x0, false, [⟨0, 64, .ro⟩]⟩
  | .powerPstateCmd => some ⟨.power, 0x1018, 1, 0x0, 32, 0x0, false, [⟨0, 2, .wo⟩, ⟨4, 4, .wo⟩, ⟨16, 14, .wo⟩]⟩
  | .powerPstateResult => some ⟨.power, 0x101c, 1, 0x0, 32, 0x0, false, [⟨0, 3, .ro⟩, ⟨4, 4, .ro⟩]⟩
  | _ => none

/-- The table rows of the THERMAL block. -/
def thermalDesc : RegName → Option RegDesc
  | .thermalStatus => some ⟨.thermal, 0x0, 1, 0x0, 32, 0x0, false, [⟨0, 1, .ro⟩, ⟨1, 1, .ro⟩, ⟨2, 1, .ro⟩, ⟨3, 1, .w1c⟩, ⟨4, 1, .ro⟩, ⟨8, 8, .ro⟩, ⟨16, 12, .ro⟩]⟩
  | .thermalSuspectEvents => some ⟨.thermal, 0x4, 1, 0x0, 32, 0x0, false, [⟨0, 32, .rc⟩]⟩
  | .thermalKth => some ⟨.thermal, 0x8, 1, 0x0, 32, 0x0, false, [⟨0, 16, .ro⟩]⟩
  | .thermalSensor => some ⟨.thermal, 0x100, 44, 0x4, 32, 0x0, false, [⟨0, 12, .ro⟩, ⟨12, 12, .ro⟩, ⟨24, 1, .ro⟩, ⟨25, 1, .w1c⟩]⟩
  | .thermalCoolant => some ⟨.thermal, 0x1000, 1, 0x0, 32, 0x0, false, [⟨0, 12, .ro⟩, ⟨16, 12, .ro⟩]⟩
  | .thermalFlow => some ⟨.thermal, 0x1004, 1, 0x0, 32, 0x0, false, [⟨0, 12, .ro⟩, ⟨16, 1, .ro⟩, ⟨17, 1, .w1c⟩]⟩
  | .thermalCoolantLimit => some ⟨.thermal, 0x1008, 1, 0x0, 32, 0x16a8, false, [⟨0, 13, .ro⟩]⟩
  | _ => none

/-- The table rows of the HOST block. -/
def hostDesc : RegName → Option RegDesc
  | .hostStatus => some ⟨.host, 0x0, 1, 0x0, 32, 0x0, false, [⟨0, 3, .ro⟩, ⟨3, 5, .ro⟩, ⟨8, 3, .ro⟩, ⟨11, 1, .ro⟩, ⟨12, 1, .ro⟩, ⟨13, 1, .ro⟩]⟩
  | .hostCtrl => some ⟨.host, 0x8, 1, 0x0, 32, 0x0, false, [⟨0, 1, .rw⟩]⟩
  | .hostLinkHold => some ⟨.host, 0xc, 1, 0x0, 32, 0x3e8, false, [⟨0, 16, .rw⟩]⟩
  | .hostLinkEpoch => some ⟨.host, 0x10, 1, 0x0, 32, 0x0, false, [⟨0, 32, .ro⟩]⟩
  | .hostFlush => some ⟨.host, 0x18, 1, 0x0, 32, 0x0, false, [⟨0, 32, .ro⟩]⟩
  | .hostIntakeBase => some ⟨.host, 0x20, 1, 0x0, 64, 0x0, false, [⟨0, 50, .ro⟩]⟩
  | .hostLetterboxReads => some ⟨.host, 0x28, 1, 0x0, 32, 0x0, false, [⟨0, 32, .rc⟩]⟩
  | .hostLetterboxDiscards => some ⟨.host, 0x2c, 1, 0x0, 32, 0x0, false, [⟨0, 32, .rc⟩]⟩
  | .hostDetaches => some ⟨.host, 0x30, 1, 0x0, 32, 0x0, false, [⟨0, 32, .ro⟩]⟩
  | .hostEvents => some ⟨.host, 0x34, 1, 0x0, 32, 0x0, false, [⟨0, 1, .w1c⟩, ⟨1, 1, .w1c⟩, ⟨2, 1, .w1c⟩, ⟨3, 1, .w1c⟩]⟩
  | .hostIntakeLo => some ⟨.host, 0x100, 64, 0x10, 64, 0x0, false, [⟨0, 50, .ro⟩, ⟨50, 1, .ro⟩, ⟨51, 2, .ro⟩]⟩
  | .hostIntakeHi => some ⟨.host, 0x108, 64, 0x10, 64, 0x0, false, [⟨0, 50, .ro⟩]⟩
  | .hostMsix => some ⟨.host, 0x4000, 256, 0x10, 128, 0x1000000000000000000000000, false, [⟨0, 128, .rw⟩]⟩
  | .hostMsixPba => some ⟨.host, 0x5000, 1, 0x0, 256, 0x0, false, [⟨0, 256, .ro⟩]⟩
  | _ => none

/-- The table rows of the TUTOR block. -/
def tutorDesc : RegName → Option RegDesc
  | .tutorSylState => some ⟨.tutor, 0x0, 1, 0x0, 32, 0x0, false, [⟨0, 1, .ro⟩, ⟨1, 1, .ro⟩, ⟨2, 2, .ro⟩, ⟨4, 1, .ro⟩]⟩
  | .tutorJobId => some ⟨.tutor, 0x4, 1, 0x0, 32, 0x0, false, [⟨0, 32, .ro⟩]⟩
  | .tutorSeed => some ⟨.tutor, 0x8, 1, 0x0, 64, 0x0, false, [⟨0, 64, .ro⟩]⟩
  | .tutorDigest => some ⟨.tutor, 0x10, 1, 0x0, 64, 0x0, false, [⟨0, 64, .ro⟩]⟩
  | .tutorMaxSeq => some ⟨.tutor, 0x18, 1, 0x0, 32, 0x0, false, [⟨0, 24, .ro⟩]⟩
  | .tutorActivations => some ⟨.tutor, 0x1c, 1, 0x0, 32, 0x0, false, [⟨0, 32, .ro⟩]⟩
  | .tutorSylError => some ⟨.tutor, 0x20, 1, 0x0, 64, 0x0, false, [⟨0, 8, .ro⟩, ⟨16, 16, .ro⟩, ⟨32, 32, .ro⟩]⟩
  | .tutorRuleStep => some ⟨.tutor, 0x28, 1, 0x0, 32, 0x0, false, [⟨0, 32, .wo⟩]⟩
  | .tutorRuleStatus => some ⟨.tutor, 0x2c, 1, 0x0, 32, 0x0, false, [⟨0, 1, .ro⟩, ⟨1, 1, .w1c⟩, ⟨2, 1, .w1c⟩]⟩
  | .tutorRuleLastStep => some ⟨.tutor, 0x30, 1, 0x0, 32, 0x0, false, [⟨0, 32, .ro⟩]⟩
  | .tutorRules => some ⟨.tutor, 0x34, 1, 0x0, 32, 0x0, false, [⟨0, 13, .ro⟩]⟩
  | .tutorBellStats => some ⟨.tutor, 0x400, 1, 0x0, 64, 0x0, false, [⟨0, 50, .ro⟩]⟩
  | .tutorRetired => some ⟨.tutor, 0x408, 1, 0x0, 64, 0x0, false, [⟨0, 64, .ro⟩]⟩
  | .tutorAborted => some ⟨.tutor, 0x410, 1, 0x0, 32, 0x0, false, [⟨0, 32, .rc⟩]⟩
  | .tutorFaulted => some ⟨.tutor, 0x414, 1, 0x0, 32, 0x0, false, [⟨0, 32, .rc⟩]⟩
  | .tutorOtherStops => some ⟨.tutor, 0x418, 1, 0x0, 32, 0x0, false, [⟨0, 32, .rc⟩]⟩
  | .tutorBellsBroken => some ⟨.tutor, 0x41c, 1, 0x0, 32, 0x0, false, [⟨0, 32, .rc⟩]⟩
  | .tutorRearmOverruns => some ⟨.tutor, 0x420, 1, 0x0, 32, 0x0, false, [⟨0, 32, .rc⟩]⟩
  | .tutorLessonLoad => some ⟨.tutor, 0x424, 1, 0x0, 32, 0x0, false, [⟨0, 16, .ro⟩, ⟨16, 16, .ro⟩]⟩
  | .tutorJanitorBond => some ⟨.tutor, 0x800, 1, 0x0, 32, 0xe10, false, [⟨0, 32, .rw⟩]⟩
  | .tutorJanitorHbm => some ⟨.tutor, 0x804, 1, 0x0, 32, 0x15180, false, [⟨0, 32, .rw⟩]⟩
  | .tutorBondPasses => some ⟨.tutor, 0x808, 1, 0x0, 32, 0x0, false, [⟨0, 32, .ro⟩]⟩
  | .tutorHbmPasses => some ⟨.tutor, 0x80c, 1, 0x0, 32, 0x0, false, [⟨0, 32, .ro⟩]⟩
  | .tutorJanitorSectors => some ⟨.tutor, 0x810, 1, 0x0, 64, 0x0, false, [⟨0, 64, .ro⟩]⟩
  | .tutorQuizCtrl => some ⟨.tutor, 0x818, 1, 0x0, 32, 0x2580001, false, [⟨0, 1, .rw⟩, ⟨16, 16, .rw⟩]⟩
  | .tutorQuizStatus => some ⟨.tutor, 0x81c, 1, 0x0, 32, 0x0, false, [⟨0, 8, .ro⟩, ⟨8, 1, .ro⟩]⟩
  | .tutorQuizRounds => some ⟨.tutor, 0x820, 1, 0x0, 32, 0x0, false, [⟨0, 32, .ro⟩]⟩
  | .tutorBondRepairs => some ⟨.tutor, 0x824, 1, 0x0, 32, 0x0, false, [⟨0, 32, .ro⟩]⟩
  | .tutorArrayRepairs => some ⟨.tutor, 0x828, 1, 0x0, 32, 0x0, false, [⟨0, 32, .ro⟩]⟩
  | .tutorSpares => some ⟨.tutor, 0x82c, 1, 0x0, 32, 0x0, false, [⟨0, 16, .ro⟩, ⟨16, 16, .ro⟩]⟩
  | .tutorSliceFailed => some ⟨.tutor, 0x830, 4, 0x8, 64, 0x0, false, [⟨0, 64, .ro⟩]⟩
  | _ => none

/-- The table rows of the QUEUE block. -/
def queueDesc : RegName → Option RegDesc
  | .queueConfig => some ⟨.queue, 0x0, 128, 0x400, 32, 0x0, false, [⟨0, 1, .ro⟩, ⟨1, 1, .ro⟩, ⟨2, 2, .ro⟩, ⟨4, 2, .ro⟩, ⟨8, 8, .ro⟩]⟩
  | .queueSqBase => some ⟨.queue, 0x8, 128, 0x400, 64, 0x0, false, [⟨0, 64, .rw⟩]⟩
  | .queueCqBase => some ⟨.queue, 0x10, 128, 0x400, 64, 0x0, false, [⟨0, 64, .rw⟩]⟩
  | .queueTailAddr => some ⟨.queue, 0x18, 128, 0x400, 64, 0x0, false, [⟨0, 64, .rw⟩]⟩
  | .queueSizes => some ⟨.queue, 0x20, 128, 0x400, 32, 0x404, false, [⟨0, 5, .rw⟩, ⟨8, 5, .rw⟩]⟩
  | .queueCtrl => some ⟨.queue, 0x24, 128, 0x400, 32, 0x0, false, [⟨0, 1, .wo⟩, ⟨1, 1, .wo⟩, ⟨2, 1, .wo⟩]⟩
  | .queueDoorbell => some ⟨.queue, 0x28, 128, 0x400, 32, 0x0, false, [⟨0, 32, .wo⟩]⟩
  | .queueCqHead => some ⟨.queue, 0x2c, 128, 0x400, 32, 0x0, false, [⟨0, 32, .rw⟩]⟩
  | .queueState => some ⟨.queue, 0x30, 128, 0x400, 32, 0x0, false, [⟨0, 2, .ro⟩, ⟨2, 4, .ro⟩]⟩
  | .queueSqHead => some ⟨.queue, 0x34, 128, 0x400, 32, 0x0, false, [⟨0, 32, .ro⟩]⟩
  | .queueCqTail => some ⟨.queue, 0x38, 128, 0x400, 32, 0x0, false, [⟨0, 32, .ro⟩]⟩
  | .queueOutstanding => some ⟨.queue, 0x3c, 128, 0x400, 32, 0x0, false, [⟨0, 9, .ro⟩]⟩
  | .queueGeneration => some ⟨.queue, 0x40, 128, 0x400, 32, 0x0, false, [⟨0, 16, .ro⟩]⟩
  | .queueRefetches => some ⟨.queue, 0x44, 128, 0x400, 32, 0x0, false, [⟨0, 32, .rc⟩]⟩
  | .queueDropped => some ⟨.queue, 0x48, 128, 0x400, 32, 0x0, false, [⟨0, 32, .rc⟩]⟩
  | .queueCoalesce => some ⟨.queue, 0x4c, 128, 0x400, 32, 0x0, false, [⟨0, 8, .rw⟩, ⟨16, 16, .rw⟩]⟩
  | .queueResends => some ⟨.queue, 0x50, 128, 0x400, 32, 0x0, false, [⟨0, 32, .rc⟩]⟩
  | .queueStepConfig => some ⟨.queue, 0x20000, 4, 0x100, 32, 0x0, false, [⟨0, 1, .ro⟩, ⟨1, 1, .ro⟩, ⟨8, 8, .ro⟩]⟩
  | .queueStepBase => some ⟨.queue, 0x20008, 4, 0x100, 64, 0x0, false, [⟨0, 64, .rw⟩]⟩
  | .queueStepTailAddr => some ⟨.queue, 0x20010, 4, 0x100, 64, 0x0, false, [⟨0, 64, .rw⟩]⟩
  | .queueStepSize => some ⟨.queue, 0x20018, 4, 0x100, 32, 0x4, false, [⟨0, 5, .rw⟩]⟩
  | .queueStepCtrl => some ⟨.queue, 0x2001c, 4, 0x100, 32, 0x0, false, [⟨0, 1, .wo⟩, ⟨1, 1, .wo⟩]⟩
  | .queueStepHead => some ⟨.queue, 0x20020, 4, 0x100, 32, 0x0, false, [⟨0, 32, .rw⟩]⟩
  | .queueStepTail => some ⟨.queue, 0x20024, 4, 0x100, 32, 0x0, false, [⟨0, 32, .ro⟩]⟩
  | .queueStepState => some ⟨.queue, 0x20028, 4, 0x100, 32, 0x0, false, [⟨0, 2, .ro⟩]⟩
  | .queueStepDropped => some ⟨.queue, 0x2002c, 4, 0x100, 32, 0x0, false, [⟨0, 32, .rc⟩]⟩
  | .queueHold => some ⟨.queue, 0x30000, 1, 0x0, 32, 0x0, false, [⟨0, 13, .ro⟩, ⟨13, 1, .ro⟩]⟩
  | .queueHoldPeak => some ⟨.queue, 0x30004, 1, 0x0, 32, 0x0, false, [⟨0, 13, .rc⟩]⟩
  | _ => none

/-- The table rows of the ASSEMBLY block. -/
def assemblyDesc : RegName → Option RegDesc
  | .assemblyState => some ⟨.assembly, 0x0, 1, 0x0, 32, 0x0, false, [⟨0, 7, .ro⟩]⟩
  | .assemblyCollTable => some ⟨.assembly, 0x8, 1, 0x0, 64, 0x0, false, [⟨0, 50, .ro⟩]⟩
  | .assemblyCollCount => some ⟨.assembly, 0x10, 1, 0x0, 32, 0x0, false, [⟨0, 11, .ro⟩]⟩
  | .assemblyNorm => some ⟨.assembly, 0x18, 1, 0x0, 32, 0x0, false, [⟨0, 10, .ro⟩, ⟨16, 10, .ro⟩]⟩
  | .assemblyNormRange => some ⟨.assembly, 0x20, 1, 0x0, 32, 0x0, false, [⟨0, 32, .rc⟩]⟩
  | .assemblyFailed => some ⟨.assembly, 0x24, 1, 0x0, 32, 0x0, false, [⟨0, 32, .rc⟩]⟩
  | .assemblyLastFail => some ⟨.assembly, 0x28, 1, 0x0, 64, 0x0, false, [⟨0, 10, .ro⟩, ⟨16, 4, .ro⟩, ⟨32, 32, .ro⟩]⟩
  | .assemblyPacketsSent => some ⟨.assembly, 0x30, 1, 0x0, 64, 0x0, false, [⟨0, 64, .ro⟩]⟩
  | .assemblyPacketsReceived => some ⟨.assembly, 0x38, 1, 0x0, 64, 0x0, false, [⟨0, 64, .ro⟩]⟩
  | .assemblyInstances => some ⟨.assembly, 0x40, 1, 0x0, 64, 0x0, false, [⟨0, 64, .ro⟩]⟩
  | .assemblyRefused => some ⟨.assembly, 0x48, 1, 0x0, 32, 0x0, false, [⟨0, 32, .rc⟩]⟩
  | _ => none

/-- The table rows of the MARKER block. -/
def markerDesc : RegName → Option RegDesc
  | .markerState => some ⟨.marker, 0x0, 1, 0x0, 32, 0x1, false, [⟨0, 2, .rw⟩, ⟨2, 3, .ro⟩, ⟨5, 1, .ro⟩]⟩
  | .markerLr => some ⟨.marker, 0x8, 1, 0x0, 32, 0x0, false, [⟨0, 32, .rw⟩]⟩
  | .markerClip => some ⟨.marker, 0xc, 1, 0x0, 32, 0x7f800000, false, [⟨0, 32, .rw⟩]⟩
  | .markerArm => some ⟨.marker, 0x10, 1, 0x0, 32, 0x0, false, [⟨0, 32, .wo⟩]⟩
  | .markerArmStatus => some ⟨.marker, 0x14, 1, 0x0, 32, 0x0, false, [⟨0, 3, .ro⟩, ⟨8, 17, .ro⟩]⟩
  | .markerOpenStep => some ⟨.marker, 0x18, 1, 0x0, 32, 0x0, false, [⟨0, 32, .ro⟩]⟩
  | .markerCommittedStep => some ⟨.marker, 0x1c, 1, 0x0, 32, 0x0, false, [⟨0, 32, .rw⟩]⟩
  | .markerResult => some ⟨.marker, 0x20, 1, 0x0, 32, 0x0, false, [⟨0, 3, .ro⟩]⟩
  | .markerNorm => some ⟨.marker, 0x24, 1, 0x0, 32, 0x0, false, [⟨0, 32, .ro⟩]⟩
  | .markerClipFactor => some ⟨.marker, 0x28, 1, 0x0, 32, 0x0, false, [⟨0, 32, .ro⟩]⟩
  | .markerExpected => some ⟨.marker, 0x2c, 1, 0x0, 32, 0x0, false, [⟨0, 32, .ro⟩]⟩
  | .markerArrived => some ⟨.marker, 0x30, 1, 0x0, 32, 0x0, false, [⟨0, 32, .ro⟩]⟩
  | .markerStepCmd => some ⟨.marker, 0x34, 1, 0x0, 32, 0x0, false, [⟨0, 1, .wo⟩]⟩
  | .markerHp => some ⟨.marker, 0x38, 1, 0x0, 64, 0x0, false, [⟨0, 50, .ro⟩]⟩
  | .markerSlip => some ⟨.marker, 0x40, 1, 0x0, 64, 0x0, false, [⟨0, 50, .ro⟩]⟩
  | .markerSlipPages => some ⟨.marker, 0x48, 1, 0x0, 32, 0x0, false, [⟨0, 13, .ro⟩, ⟨16, 13, .ro⟩]⟩
  | .markerRoll => some ⟨.marker, 0x50, 1, 0x0, 32, 0x0, false, [⟨0, 16, .ro⟩, ⟨16, 16, .ro⟩]⟩
  | .markerHwBase => some ⟨.marker, 0x58, 1, 0x0, 64, 0x0, false, [⟨0, 64, .ro⟩]⟩
  | .markerHwSize => some ⟨.marker, 0x60, 1, 0x0, 32, 0x0, false, [⟨0, 32, .ro⟩]⟩
  | .markerHwCtrl => some ⟨.marker, 0x64, 1, 0x0, 32, 0x0, false, [⟨0, 2, .ro⟩, ⟨2, 1, .ro⟩, ⟨16, 16, .ro⟩]⟩
  | .markerHwTail => some ⟨.marker, 0x68, 1, 0x0, 32, 0x0, false, [⟨0, 32, .ro⟩]⟩
  | .markerHwHead => some ⟨.marker, 0x6c, 1, 0x0, 32, 0x0, false, [⟨0, 32, .rw⟩]⟩
  | .markerHwHeadAddr => some ⟨.marker, 0x70, 1, 0x0, 64, 0x0, false, [⟨0, 50, .ro⟩]⟩
  | .markerCalCmd => some ⟨.marker, 0x80, 1, 0x0, 64, 0x0, false, [⟨0, 2, .wo⟩, ⟨2, 1, .wo⟩, ⟨3, 1, .wo⟩, ⟨4, 7, .wo⟩, ⟨16, 17, .wo⟩]⟩
  | .markerCalSrc => some ⟨.marker, 0x88, 1, 0x0, 64, 0x0, false, [⟨0, 50, .rw⟩]⟩
  | .markerCalDamp => some ⟨.marker, 0x90, 1, 0x0, 32, 0x0, false, [⟨0, 32, .rw⟩]⟩
  | .markerCalTol => some ⟨.marker, 0x94, 1, 0x0, 32, 0x0, false, [⟨0, 32, .rw⟩]⟩
  | .markerCalStatus => some ⟨.marker, 0x98, 1, 0x0, 32, 0x0, false, [⟨0, 1, .ro⟩, ⟨1, 2, .ro⟩, ⟨3, 7, .ro⟩]⟩
  | .markerCommits => some ⟨.marker, 0xc0, 1, 0x0, 64, 0x0, false, [⟨0, 64, .ro⟩]⟩
  | .markerSatCount => some ⟨.marker, 0xc8, 1, 0x0, 64, 0x0, false, [⟨0, 64, .ro⟩]⟩
  | .markerWithheldUs => some ⟨.marker, 0xd0, 1, 0x0, 64, 0x0, false, [⟨0, 64, .ro⟩]⟩
  | .markerRollChecked => some ⟨.marker, 0xd8, 1, 0x0, 64, 0x0, false, [⟨0, 64, .ro⟩]⟩
  | .markerClipReruns => some ⟨.marker, 0xe0, 1, 0x0, 32, 0x0, false, [⟨0, 32, .rc⟩]⟩
  | .markerNonfinite => some ⟨.marker, 0xe4, 1, 0x0, 32, 0x0, false, [⟨0, 32, .rc⟩]⟩
  | .markerOtherDiscards => some ⟨.marker, 0xe8, 1, 0x0, 32, 0x0, false, [⟨0, 32, .rc⟩]⟩
  | .markerBadChunks => some ⟨.marker, 0xec, 1, 0x0, 32, 0x0, false, [⟨0, 32, .rc⟩]⟩
  | .markerDupSegments => some ⟨.marker, 0xf0, 1, 0x0, 32, 0x0, false, [⟨0, 32, .rc⟩]⟩
  | .markerRollMismatch => some ⟨.marker, 0xf4, 1, 0x0, 32, 0x0, false, [⟨0, 32, .rc⟩]⟩
  | .markerDegraded => some ⟨.marker, 0xf8, 1, 0x0, 32, 0x0, false, [⟨0, 32, .rc⟩]⟩
  | _ => none

/-- The table rows of the PSD block. -/
def psdDesc : RegName → Option RegDesc
  | .psdTable => some ⟨.psd, 0x0, 1, 0x0, 64, 0x0, false, [⟨0, 50, .ro⟩]⟩
  | .psdEntries => some ⟨.psd, 0x8, 1, 0x0, 32, 0x0, false, [⟨0, 18, .ro⟩]⟩
  | .psdValidBlocks => some ⟨.psd, 0xc, 1, 0x0, 32, 0x0, false, [⟨0, 18, .ro⟩]⟩
  | .psdFrozenBlocks => some ⟨.psd, 0x10, 1, 0x0, 32, 0x0, false, [⟨0, 18, .ro⟩]⟩
  | .psdSlowBlocks => some ⟨.psd, 0x14, 1, 0x0, 32, 0x0, false, [⟨0, 18, .ro⟩]⟩
  | .psdDegradedBlocks => some ⟨.psd, 0x18, 1, 0x0, 32, 0x0, false, [⟨0, 18, .ro⟩]⟩
  | .psdRollFaultBlocks => some ⟨.psd, 0x1c, 1, 0x0, 32, 0x0, false, [⟨0, 18, .ro⟩]⟩
  | _ => none

/-- The table rows of the HALLWAY block. -/
def hallwayDesc : RegName → Option RegDesc
  | .hallwayState => some ⟨.hallway, 0x0, 1, 0x0, 32, 0x1, false, [⟨0, 2, .ro⟩, ⟨8, 10, .ro⟩]⟩
  | .hallwayCrcErrors => some ⟨.hallway, 0x8, 1, 0x0, 32, 0x0, false, [⟨0, 32, .rc⟩]⟩
  | .hallwayRetries => some ⟨.hallway, 0xc, 1, 0x0, 32, 0x0, false, [⟨0, 32, .rc⟩]⟩
  | .hallwayRetrains => some ⟨.hallway, 0x10, 1, 0x0, 32, 0x0, false, [⟨0, 32, .ro⟩]⟩
  | .hallwayBytesUp => some ⟨.hallway, 0x18, 1, 0x0, 64, 0x0, false, [⟨0, 64, .ro⟩]⟩
  | .hallwayBytesDown => some ⟨.hallway, 0x20, 1, 0x0, 64, 0x0, false, [⟨0, 64, .ro⟩]⟩
  | _ => none

/-- The table rows of the FABRIC block. -/
def fabricDesc : RegName → Option RegDesc
  | .fabricState => some ⟨.fabric, 0x0, 1, 0x0, 32, 0xf0, false, [⟨0, 3, .ro⟩, ⟨3, 1, .ro⟩, ⟨4, 4, .ro⟩, ⟨8, 1, .ro⟩, ⟨9, 1, .ro⟩, ⟨10, 1, .w1c⟩]⟩
  | .fabricCtrl => some ⟨.fabric, 0x8, 1, 0x0, 32, 0x0, false, [⟨0, 1, .rw⟩]⟩
  | .fabricVcWeight => some ⟨.fabric, 0x10, 1, 0x0, 32, 0x10101, false, [⟨0, 8, .ro⟩, ⟨8, 8, .ro⟩, ⟨16, 8, .ro⟩]⟩
  | .fabricFecCorrected => some ⟨.fabric, 0x18, 1, 0x0, 64, 0x0, false, [⟨0, 64, .ro⟩]⟩
  | .fabricFecUncorrected => some ⟨.fabric, 0x20, 1, 0x0, 32, 0x0, false, [⟨0, 32, .rc⟩]⟩
  | .fabricCrcErrors => some ⟨.fabric, 0x24, 1, 0x0, 32, 0x0, false, [⟨0, 32, .rc⟩]⟩
  | .fabricRetries => some ⟨.fabric, 0x28, 1, 0x0, 32, 0x0, false, [⟨0, 32, .rc⟩]⟩
  | .fabricRetrains => some ⟨.fabric, 0x2c, 1, 0x0, 32, 0x0, false, [⟨0, 32, .ro⟩]⟩
  | .fabricTagFailures => some ⟨.fabric, 0x30, 1, 0x0, 32, 0x0, false, [⟨0, 32, .rc⟩]⟩
  | .fabricMisrouted => some ⟨.fabric, 0x34, 1, 0x0, 32, 0x0, false, [⟨0, 32, .rc⟩]⟩
  | .fabricDenied => some ⟨.fabric, 0x38, 1, 0x0, 32, 0x0, false, [⟨0, 32, .rc⟩]⟩
  | .fabricStaleEpoch => some ⟨.fabric, 0x3c, 1, 0x0, 32, 0x0, false, [⟨0, 32, .rc⟩]⟩
  | .fabricTxSlots => some ⟨.fabric, 0x40, 4, 0x8, 64, 0x0, false, [⟨0, 64, .ro⟩]⟩
  | .fabricRxSlots => some ⟨.fabric, 0x60, 4, 0x8, 64, 0x0, false, [⟨0, 64, .ro⟩]⟩
  | .fabricCreditStall => some ⟨.fabric, 0x80, 4, 0x8, 64, 0x0, false, [⟨0, 64, .ro⟩]⟩
  | .fabricPartner => some ⟨.fabric, 0x200, 1, 0x0, 64, 0x0, false, [⟨0, 12, .ro⟩, ⟨12, 1, .ro⟩, ⟨16, 12, .ro⟩, ⟨28, 4, .ro⟩, ⟨32, 32, .ro⟩]⟩
  | .fabricPartnerSerial => some ⟨.fabric, 0x208, 1, 0x0, 64, 0x0, false, [⟨0, 64, .ro⟩]⟩
  | .fabricRollState => some ⟨.fabric, 0x210, 1, 0x0, 32, 0x0, false, [⟨0, 2, .ro⟩, ⟨2, 2, .ro⟩]⟩
  | .fabricRollEvents => some ⟨.fabric, 0x218, 1, 0x0, 32, 0x0, false, [⟨0, 1, .w1c⟩, ⟨1, 1, .w1c⟩, ⟨2, 1, .w1c⟩]⟩
  | .fabricRollSent => some ⟨.fabric, 0x220, 1, 0x0, 64, 0x0, false, [⟨0, 64, .ro⟩]⟩
  | .fabricRollReceived => some ⟨.fabric, 0x228, 1, 0x0, 64, 0x0, false, [⟨0, 64, .ro⟩]⟩
  | .fabricTracker => some ⟨.fabric, 0x400, 1, 0x0, 32, 0x0, false, [⟨0, 17, .ro⟩]⟩
  | .fabricTrackerPeak => some ⟨.fabric, 0x404, 1, 0x0, 32, 0x0, false, [⟨0, 17, .rc⟩]⟩
  | .fabricTimeout => some ⟨.fabric, 0x408, 1, 0x0, 32, 0x7d0, false, [⟨0, 32, .ro⟩]⟩
  | .fabricTimeouts => some ⟨.fabric, 0x40c, 1, 0x0, 32, 0x0, false, [⟨0, 32, .rc⟩]⟩
  | .fabricLateResponses => some ⟨.fabric, 0x410, 1, 0x0, 32, 0x0, false, [⟨0, 32, .rc⟩]⟩
  | .fabricNotifyFull => some ⟨.fabric, 0x414, 1, 0x0, 32, 0x0, false, [⟨0, 32, .rc⟩]⟩
  | .fabricIssued => some ⟨.fabric, 0x418, 1, 0x0, 64, 0x0, false, [⟨0, 64, .ro⟩]⟩
  | .fabricServed => some ⟨.fabric, 0x420, 1, 0x0, 64, 0x0, false, [⟨0, 64, .ro⟩]⟩
  | .fabricErr => some ⟨.fabric, 0x42c, 11, 0x4, 32, 0x0, false, [⟨0, 32, .rc⟩]⟩
  | .fabricNotifyBase => some ⟨.fabric, 0x460, 1, 0x0, 64, 0x0, false, [⟨0, 50, .ro⟩]⟩
  | .fabricNotifyEntries => some ⟨.fabric, 0x468, 1, 0x0, 32, 0x0, false, [⟨0, 32, .ro⟩]⟩
  | .fabricNotifyTail => some ⟨.fabric, 0x46c, 1, 0x0, 32, 0x0, false, [⟨0, 32, .ro⟩]⟩
  | .fabricNotifyHeadAddr => some ⟨.fabric, 0x470, 1, 0x0, 64, 0x0, false, [⟨0, 50, .ro⟩]⟩
  | .fabricSeat => some ⟨.fabric, 0x800, 1, 0x0, 32, 0x0, false, [⟨0, 12, .rw⟩, ⟨12, 1, .rw⟩, ⟨16, 12, .rw⟩]⟩
  | .fabricNear => some ⟨.fabric, 0x880, 16, 0x8, 64, 0x0, false, [⟨0, 64, .rw⟩]⟩
  | .fabricFar => some ⟨.fabric, 0x900, 64, 0x8, 64, 0x0, false, [⟨0, 64, .rw⟩]⟩
  | _ => none

/-- The table rows of the CLUSTER block. -/
def clusterDesc : RegName → Option RegDesc
  | .clusterCoreMap => some ⟨.cluster, 0x0, 1, 0x0, 64, 0x0, false, [⟨0, 4, .ro⟩, ⟨4, 4, .ro⟩, ⟨8, 4, .ro⟩, ⟨12, 4, .ro⟩, ⟨16, 4, .ro⟩, ⟨20, 4, .ro⟩, ⟨24, 4, .ro⟩, ⟨28, 4, .ro⟩, ⟨32, 4, .ro⟩, ⟨36, 9, .ro⟩]⟩
  | .clusterState => some ⟨.cluster, 0x8, 1, 0x0, 32, 0x0, false, [⟨0, 1, .ro⟩, ⟨1, 1, .ro⟩, ⟨2, 1, .ro⟩]⟩
  | .clusterSpareSwitches => some ⟨.cluster, 0x10, 1, 0x0, 32, 0x0, false, [⟨0, 32, .ro⟩]⟩
  | .clusterIstoreCorrected => some ⟨.cluster, 0x18, 1, 0x0, 32, 0x0, false, [⟨0, 32, .rc⟩]⟩
  | .clusterIstoreUncorrected => some ⟨.cluster, 0x1c, 1, 0x0, 32, 0x0, false, [⟨0, 32, .rc⟩]⟩
  | _ => none

/-- The table rows of the HBM block. -/
def hbmDesc : RegName → Option RegDesc
  | .hbmState => some ⟨.hbm, 0x0, 1, 0x0, 32, 0x2, false, [⟨0, 2, .ro⟩, ⟨2, 1, .ro⟩]⟩
  | .hbmDevice => some ⟨.hbm, 0x8, 1, 0x0, 64, 0x0, false, [⟨0, 8, .ro⟩, ⟨8, 8, .ro⟩, ⟨16, 16, .ro⟩]⟩
  | .hbmCorrected => some ⟨.hbm, 0x10, 1, 0x0, 32, 0x0, false, [⟨0, 32, .rc⟩]⟩
  | .hbmUncorrected => some ⟨.hbm, 0x14, 1, 0x0, 32, 0x0, false, [⟨0, 32, .rc⟩]⟩
  | .hbmLaneRepairs => some ⟨.hbm, 0x18, 1, 0x0, 32, 0x0, false, [⟨0, 32, .ro⟩]⟩
  | .hbmRowRepairs => some ⟨.hbm, 0x1c, 1, 0x0, 32, 0x0, false, [⟨0, 32, .ro⟩]⟩
  | .hbmRfmCommands => some ⟨.hbm, 0x20, 1, 0x0, 64, 0x0, false, [⟨0, 64, .ro⟩]⟩
  | .hbmChannel => some ⟨.hbm, 0x100, 32, 0x4, 32, 0x0, false, [⟨0, 2, .ro⟩, ⟨4, 3, .ro⟩]⟩
  | .hbmReadSectors => some ⟨.hbm, 0x180, 1, 0x0, 64, 0x0, false, [⟨0, 64, .ro⟩]⟩
  | .hbmWriteSectors => some ⟨.hbm, 0x188, 1, 0x0, 64, 0x0, false, [⟨0, 64, .ro⟩]⟩
  | _ => none

/-- The table rows of the SLICE block. -/
def sliceDesc : RegName → Option RegDesc
  | .sliceConfig => some ⟨.slice, 0x0, 1, 0x0, 32, 0x10, false, [⟨0, 5, .ro⟩, ⟨8, 4, .ro⟩, ⟨12, 1, .ro⟩]⟩
  | .slicePinCmd => some ⟨.slice, 0x8, 1, 0x0, 64, 0x0, false, [⟨0, 2, .wo⟩, ⟨7, 33, .wo⟩]⟩
  | .slicePinStatus => some ⟨.slice, 0x10, 1, 0x0, 32, 0x0, false, [⟨0, 3, .ro⟩, ⟨4, 4, .ro⟩, ⟨8, 1, .w1c⟩]⟩
  | .slicePinRefused => some ⟨.slice, 0x14, 1, 0x0, 32, 0x0, false, [⟨0, 32, .rc⟩]⟩
  | .slicePinned => some ⟨.slice, 0x18, 1, 0x0, 32, 0x0, false, [⟨0, 17, .ro⟩]⟩
  | .sliceHold => some ⟨.slice, 0x1c, 1, 0x0, 32, 0x0, false, [⟨0, 6, .ro⟩, ⟨8, 6, .rc⟩]⟩
  | .sliceEccCorrected => some ⟨.slice, 0x20, 1, 0x0, 32, 0x0, false, [⟨0, 32, .rc⟩]⟩
  | .sliceEccUncorrected => some ⟨.slice, 0x24, 1, 0x0, 32, 0x0, false, [⟨0, 32, .rc⟩]⟩
  | .sliceReductions => some ⟨.slice, 0x28, 1, 0x0, 64, 0x0, false, [⟨0, 64, .ro⟩]⟩
  | .sliceHoldMerges => some ⟨.slice, 0x30, 1, 0x0, 64, 0x0, false, [⟨0, 64, .ro⟩]⟩
  | .sliceWritebacks => some ⟨.slice, 0x38, 1, 0x0, 64, 0x0, false, [⟨0, 64, .ro⟩]⟩
  | .sliceHit => some ⟨.slice, 0x40, 8, 0x8, 64, 0x0, false, [⟨0, 64, .ro⟩]⟩
  | .sliceMiss => some ⟨.slice, 0x80, 8, 0x8, 64, 0x0, false, [⟨0, 64, .ro⟩]⟩
  | .sliceScratchSectors => some ⟨.slice, 0xc0, 1, 0x0, 64, 0x0, false, [⟨0, 64, .ro⟩]⟩
  | _ => none

/-- The table rows of the CORE block. -/
def coreDesc : RegName → Option RegDesc
  | .coreStatus => some ⟨.core, 0x0, 1, 0x0, 32, 0x0, false, [⟨0, 4, .ro⟩, ⟨4, 1, .ro⟩, ⟨5, 1, .ro⟩, ⟨6, 1, .ro⟩, ⟨7, 1, .ro⟩]⟩
  | .coreClock => some ⟨.core, 0x8, 1, 0x0, 64, 0x0, false, [⟨0, 12, .ro⟩, ⟨16, 12, .ro⟩, ⟨32, 12, .ro⟩]⟩
  | .coreThreadState => some ⟨.core, 0x10, 1, 0x0, 64, 0x0, false, [⟨0, 4, .ro⟩, ⟨4, 4, .ro⟩, ⟨8, 4, .ro⟩, ⟨12, 4, .ro⟩, ⟨16, 4, .ro⟩, ⟨20, 4, .ro⟩, ⟨24, 4, .ro⟩, ⟨28, 4, .ro⟩, ⟨32, 4, .ro⟩, ⟨36, 4, .ro⟩, ⟨40, 4, .ro⟩, ⟨44, 4, .ro⟩, ⟨48, 4, .ro⟩, ⟨52, 4, .ro⟩, ⟨56, 4, .ro⟩, ⟨60, 4, .ro⟩]⟩
  | .coreFaultInfo => some ⟨.core, 0x20, 1, 0x0, 64, 0x0, false, [⟨0, 8, .ro⟩, ⟨8, 4, .ro⟩, ⟨12, 1, .ro⟩, ⟨13, 1, .ro⟩, ⟨14, 1, .ro⟩, ⟨15, 1, .w1c⟩, ⟨16, 20, .ro⟩]⟩
  | .coreFaultAddr => some ⟨.core, 0x28, 1, 0x0, 64, 0x0, false, [⟨0, 64, .ro⟩]⟩
  | .coreFaultCount => some ⟨.core, 0x30, 1, 0x0, 32, 0x0, false, [⟨0, 32, .rc⟩]⟩
  | .coreIssueBundles => some ⟨.core, 0x40, 1, 0x0, 64, 0x0, false, [⟨0, 64, .ro⟩]⟩
  | .coreIssueIdle => some ⟨.core, 0x48, 1, 0x0, 64, 0x0, false, [⟨0, 64, .ro⟩]⟩
  | .coreWaitMem => some ⟨.core, 0x50, 1, 0x0, 64, 0x0, false, [⟨0, 64, .ro⟩]⟩
  | .coreWaitQueue => some ⟨.core, 0x58, 1, 0x0, 64, 0x0, false, [⟨0, 64, .ro⟩]⟩
  | .coreEccCorrected => some ⟨.core, 0x60, 1, 0x0, 32, 0x0, false, [⟨0, 32, .rc⟩]⟩
  | .coreEccUncorrected => some ⟨.core, 0x64, 1, 0x0, 32, 0x0, false, [⟨0, 32, .rc⟩]⟩
  | .coreSlotOwner => some ⟨.core, 0x100, 16, 0x8, 64, 0x0, false, [⟨0, 8, .ro⟩, ⟨8, 8, .ro⟩, ⟨16, 8, .ro⟩, ⟨24, 8, .ro⟩, ⟨32, 8, .ro⟩, ⟨40, 8, .ro⟩, ⟨48, 8, .ro⟩, ⟨56, 8, .ro⟩]⟩
  | .coreSlateMap => some ⟨.core, 0x180, 4, 0x8, 64, 0x0, false, [⟨0, 4, .ro⟩, ⟨8, 4, .ro⟩, ⟨16, 4, .ro⟩, ⟨24, 4, .ro⟩, ⟨32, 4, .ro⟩, ⟨40, 4, .ro⟩, ⟨48, 4, .ro⟩, ⟨56, 4, .ro⟩, ⟨7, 1, .ro⟩, ⟨15, 1, .ro⟩, ⟨23, 1, .ro⟩, ⟨31, 1, .ro⟩, ⟨39, 1, .ro⟩, ⟨47, 1, .ro⟩, ⟨55, 1, .ro⟩, ⟨63, 1, .ro⟩]⟩
  | .coreAccGroups => some ⟨.core, 0x300, 1, 0x0, 64, 0x0, false, [⟨0, 64, .ro⟩]⟩
  | .coreAccPasses => some ⟨.core, 0x308, 1, 0x0, 64, 0x0, false, [⟨0, 64, .ro⟩]⟩
  | .coreAccRange => some ⟨.core, 0x310, 1, 0x0, 32, 0x0, false, [⟨0, 32, .rc⟩]⟩
  | .coreAccFlags => some ⟨.core, 0x314, 1, 0x0, 32, 0x0, false, [⟨0, 1, .w1c⟩, ⟨1, 1, .w1c⟩, ⟨2, 1, .w1c⟩]⟩
  | _ => none

/-- The names of a block's registers, by rising offset. -/
def Block.regs : Block → List RegName
  | .proctor => [.proctorDeviceId, .proctorSerial, .proctorBoot, .proctorFwVersion, .proctorI3c, .proctorEventTail, .proctorResetCmd, .proctorResetStatus, .proctorStartup, .proctorStartupTime, .proctorColdResets, .proctorWarmResets, .proctorStackResets, .proctorBaseDieResets, .proctorErrlogTail, .proctorErrlogOverwritten, .proctorErrlogClass, .proctorEvent, .proctorErrlog]
  | .sec => [.secPolicy, .secFwSvn, .secFwSvnCommit, .secSylMinSvn, .secKeyCmd, .secKeyStatus, .secHbmKeyGen, .secKeyStage, .secKey, .secKeyPub]
  | .diary => [.diaryTail, .diaryOverwritten, .diaryDropped, .diarySealTail, .diaryEntryIndex, .diaryEntryStatus, .diarySealIndex, .diarySealStatus, .diaryEntry, .diarySeal]
  | .corridor => [.corridorState, .corridorCtrl, .corridorStopSend, .corridorStopClear, .corridorTime, .corridorTimeMasterSeat, .corridorFramesTx, .corridorFramesRx, .corridorCrcErrors, .corridorResends, .corridorLost, .corridorNodes, .corridorPeerEpoch]
  | .power => [.powerPstate, .powerRate, .powerHostLimit, .powerLimits, .powerRail, .powerDroopEvents, .powerRecessEntries, .powerReport, .powerCap, .powerFloor, .powerInput, .powerNCap, .powerEnergy, .powerPstateCmd, .powerPstateResult]
  | .thermal => [.thermalStatus, .thermalSuspectEvents, .thermalKth, .thermalSensor, .thermalCoolant, .thermalFlow, .thermalCoolantLimit]
  | .host => [.hostStatus, .hostCtrl, .hostLinkHold, .hostLinkEpoch, .hostFlush, .hostIntakeBase, .hostLetterboxReads, .hostLetterboxDiscards, .hostDetaches, .hostEvents, .hostIntakeLo, .hostIntakeHi, .hostMsix, .hostMsixPba]
  | .tutor => [.tutorSylState, .tutorJobId, .tutorSeed, .tutorDigest, .tutorMaxSeq, .tutorActivations, .tutorSylError, .tutorRuleStep, .tutorRuleStatus, .tutorRuleLastStep, .tutorRules, .tutorBellStats, .tutorRetired, .tutorAborted, .tutorFaulted, .tutorOtherStops, .tutorBellsBroken, .tutorRearmOverruns, .tutorLessonLoad, .tutorJanitorBond, .tutorJanitorHbm, .tutorBondPasses, .tutorHbmPasses, .tutorJanitorSectors, .tutorQuizCtrl, .tutorQuizStatus, .tutorQuizRounds, .tutorBondRepairs, .tutorArrayRepairs, .tutorSpares, .tutorSliceFailed]
  | .queue => [.queueConfig, .queueSqBase, .queueCqBase, .queueTailAddr, .queueSizes, .queueCtrl, .queueDoorbell, .queueCqHead, .queueState, .queueSqHead, .queueCqTail, .queueOutstanding, .queueGeneration, .queueRefetches, .queueDropped, .queueCoalesce, .queueResends, .queueStepConfig, .queueStepBase, .queueStepTailAddr, .queueStepSize, .queueStepCtrl, .queueStepHead, .queueStepTail, .queueStepState, .queueStepDropped, .queueHold, .queueHoldPeak]
  | .assembly => [.assemblyState, .assemblyCollTable, .assemblyCollCount, .assemblyNorm, .assemblyNormRange, .assemblyFailed, .assemblyLastFail, .assemblyPacketsSent, .assemblyPacketsReceived, .assemblyInstances, .assemblyRefused]
  | .marker => [.markerState, .markerLr, .markerClip, .markerArm, .markerArmStatus, .markerOpenStep, .markerCommittedStep, .markerResult, .markerNorm, .markerClipFactor, .markerExpected, .markerArrived, .markerStepCmd, .markerHp, .markerSlip, .markerSlipPages, .markerRoll, .markerHwBase, .markerHwSize, .markerHwCtrl, .markerHwTail, .markerHwHead, .markerHwHeadAddr, .markerCalCmd, .markerCalSrc, .markerCalDamp, .markerCalTol, .markerCalStatus, .markerCommits, .markerSatCount, .markerWithheldUs, .markerRollChecked, .markerClipReruns, .markerNonfinite, .markerOtherDiscards, .markerBadChunks, .markerDupSegments, .markerRollMismatch, .markerDegraded]
  | .psd => [.psdTable, .psdEntries, .psdValidBlocks, .psdFrozenBlocks, .psdSlowBlocks, .psdDegradedBlocks, .psdRollFaultBlocks]
  | .hallway => [.hallwayState, .hallwayCrcErrors, .hallwayRetries, .hallwayRetrains, .hallwayBytesUp, .hallwayBytesDown]
  | .fabric => [.fabricState, .fabricCtrl, .fabricVcWeight, .fabricFecCorrected, .fabricFecUncorrected, .fabricCrcErrors, .fabricRetries, .fabricRetrains, .fabricTagFailures, .fabricMisrouted, .fabricDenied, .fabricStaleEpoch, .fabricTxSlots, .fabricRxSlots, .fabricCreditStall, .fabricPartner, .fabricPartnerSerial, .fabricRollState, .fabricRollEvents, .fabricRollSent, .fabricRollReceived, .fabricTracker, .fabricTrackerPeak, .fabricTimeout, .fabricTimeouts, .fabricLateResponses, .fabricNotifyFull, .fabricIssued, .fabricServed, .fabricErr, .fabricNotifyBase, .fabricNotifyEntries, .fabricNotifyTail, .fabricNotifyHeadAddr, .fabricSeat, .fabricNear, .fabricFar]
  | .cluster => [.clusterCoreMap, .clusterState, .clusterSpareSwitches, .clusterIstoreCorrected, .clusterIstoreUncorrected]
  | .hbm => [.hbmState, .hbmDevice, .hbmCorrected, .hbmUncorrected, .hbmLaneRepairs, .hbmRowRepairs, .hbmRfmCommands, .hbmChannel, .hbmReadSectors, .hbmWriteSectors]
  | .slice => [.sliceConfig, .slicePinCmd, .slicePinStatus, .slicePinRefused, .slicePinned, .sliceHold, .sliceEccCorrected, .sliceEccUncorrected, .sliceReductions, .sliceHoldMerges, .sliceWritebacks, .sliceHit, .sliceMiss, .sliceScratchSectors]
  | .core => [.coreStatus, .coreClock, .coreThreadState, .coreFaultInfo, .coreFaultAddr, .coreFaultCount, .coreIssueBundles, .coreIssueIdle, .coreWaitMem, .coreWaitQueue, .coreEccCorrected, .coreEccUncorrected, .coreSlotOwner, .coreSlateMap, .coreAccGroups, .coreAccPasses, .coreAccRange, .coreAccFlags]

/-- The block of a register. -/
def RegName.block : RegName → Block
  | .proctorDeviceId => .proctor
  | .proctorSerial => .proctor
  | .proctorBoot => .proctor
  | .proctorFwVersion => .proctor
  | .proctorI3c => .proctor
  | .proctorEventTail => .proctor
  | .proctorResetCmd => .proctor
  | .proctorResetStatus => .proctor
  | .proctorStartup => .proctor
  | .proctorStartupTime => .proctor
  | .proctorColdResets => .proctor
  | .proctorWarmResets => .proctor
  | .proctorStackResets => .proctor
  | .proctorBaseDieResets => .proctor
  | .proctorErrlogTail => .proctor
  | .proctorErrlogOverwritten => .proctor
  | .proctorErrlogClass => .proctor
  | .proctorEvent => .proctor
  | .proctorErrlog => .proctor
  | .secPolicy => .sec
  | .secFwSvn => .sec
  | .secFwSvnCommit => .sec
  | .secSylMinSvn => .sec
  | .secKeyCmd => .sec
  | .secKeyStatus => .sec
  | .secHbmKeyGen => .sec
  | .secKeyStage => .sec
  | .secKey => .sec
  | .secKeyPub => .sec
  | .diaryTail => .diary
  | .diaryOverwritten => .diary
  | .diaryDropped => .diary
  | .diarySealTail => .diary
  | .diaryEntryIndex => .diary
  | .diaryEntryStatus => .diary
  | .diarySealIndex => .diary
  | .diarySealStatus => .diary
  | .diaryEntry => .diary
  | .diarySeal => .diary
  | .corridorState => .corridor
  | .corridorCtrl => .corridor
  | .corridorStopSend => .corridor
  | .corridorStopClear => .corridor
  | .corridorTime => .corridor
  | .corridorTimeMasterSeat => .corridor
  | .corridorFramesTx => .corridor
  | .corridorFramesRx => .corridor
  | .corridorCrcErrors => .corridor
  | .corridorResends => .corridor
  | .corridorLost => .corridor
  | .corridorNodes => .corridor
  | .corridorPeerEpoch => .corridor
  | .powerPstate => .power
  | .powerRate => .power
  | .powerHostLimit => .power
  | .powerLimits => .power
  | .powerRail => .power
  | .powerDroopEvents => .power
  | .powerRecessEntries => .power
  | .powerReport => .power
  | .powerCap => .power
  | .powerFloor => .power
  | .powerInput => .power
  | .powerNCap => .power
  | .powerEnergy => .power
  | .powerPstateCmd => .power
  | .powerPstateResult => .power
  | .thermalStatus => .thermal
  | .thermalSuspectEvents => .thermal
  | .thermalKth => .thermal
  | .thermalSensor => .thermal
  | .thermalCoolant => .thermal
  | .thermalFlow => .thermal
  | .thermalCoolantLimit => .thermal
  | .hostStatus => .host
  | .hostCtrl => .host
  | .hostLinkHold => .host
  | .hostLinkEpoch => .host
  | .hostFlush => .host
  | .hostIntakeBase => .host
  | .hostLetterboxReads => .host
  | .hostLetterboxDiscards => .host
  | .hostDetaches => .host
  | .hostEvents => .host
  | .hostIntakeLo => .host
  | .hostIntakeHi => .host
  | .hostMsix => .host
  | .hostMsixPba => .host
  | .tutorSylState => .tutor
  | .tutorJobId => .tutor
  | .tutorSeed => .tutor
  | .tutorDigest => .tutor
  | .tutorMaxSeq => .tutor
  | .tutorActivations => .tutor
  | .tutorSylError => .tutor
  | .tutorRuleStep => .tutor
  | .tutorRuleStatus => .tutor
  | .tutorRuleLastStep => .tutor
  | .tutorRules => .tutor
  | .tutorBellStats => .tutor
  | .tutorRetired => .tutor
  | .tutorAborted => .tutor
  | .tutorFaulted => .tutor
  | .tutorOtherStops => .tutor
  | .tutorBellsBroken => .tutor
  | .tutorRearmOverruns => .tutor
  | .tutorLessonLoad => .tutor
  | .tutorJanitorBond => .tutor
  | .tutorJanitorHbm => .tutor
  | .tutorBondPasses => .tutor
  | .tutorHbmPasses => .tutor
  | .tutorJanitorSectors => .tutor
  | .tutorQuizCtrl => .tutor
  | .tutorQuizStatus => .tutor
  | .tutorQuizRounds => .tutor
  | .tutorBondRepairs => .tutor
  | .tutorArrayRepairs => .tutor
  | .tutorSpares => .tutor
  | .tutorSliceFailed => .tutor
  | .queueConfig => .queue
  | .queueSqBase => .queue
  | .queueCqBase => .queue
  | .queueTailAddr => .queue
  | .queueSizes => .queue
  | .queueCtrl => .queue
  | .queueDoorbell => .queue
  | .queueCqHead => .queue
  | .queueState => .queue
  | .queueSqHead => .queue
  | .queueCqTail => .queue
  | .queueOutstanding => .queue
  | .queueGeneration => .queue
  | .queueRefetches => .queue
  | .queueDropped => .queue
  | .queueCoalesce => .queue
  | .queueResends => .queue
  | .queueStepConfig => .queue
  | .queueStepBase => .queue
  | .queueStepTailAddr => .queue
  | .queueStepSize => .queue
  | .queueStepCtrl => .queue
  | .queueStepHead => .queue
  | .queueStepTail => .queue
  | .queueStepState => .queue
  | .queueStepDropped => .queue
  | .queueHold => .queue
  | .queueHoldPeak => .queue
  | .assemblyState => .assembly
  | .assemblyCollTable => .assembly
  | .assemblyCollCount => .assembly
  | .assemblyNorm => .assembly
  | .assemblyNormRange => .assembly
  | .assemblyFailed => .assembly
  | .assemblyLastFail => .assembly
  | .assemblyPacketsSent => .assembly
  | .assemblyPacketsReceived => .assembly
  | .assemblyInstances => .assembly
  | .assemblyRefused => .assembly
  | .markerState => .marker
  | .markerLr => .marker
  | .markerClip => .marker
  | .markerArm => .marker
  | .markerArmStatus => .marker
  | .markerOpenStep => .marker
  | .markerCommittedStep => .marker
  | .markerResult => .marker
  | .markerNorm => .marker
  | .markerClipFactor => .marker
  | .markerExpected => .marker
  | .markerArrived => .marker
  | .markerStepCmd => .marker
  | .markerHp => .marker
  | .markerSlip => .marker
  | .markerSlipPages => .marker
  | .markerRoll => .marker
  | .markerHwBase => .marker
  | .markerHwSize => .marker
  | .markerHwCtrl => .marker
  | .markerHwTail => .marker
  | .markerHwHead => .marker
  | .markerHwHeadAddr => .marker
  | .markerCalCmd => .marker
  | .markerCalSrc => .marker
  | .markerCalDamp => .marker
  | .markerCalTol => .marker
  | .markerCalStatus => .marker
  | .markerCommits => .marker
  | .markerSatCount => .marker
  | .markerWithheldUs => .marker
  | .markerRollChecked => .marker
  | .markerClipReruns => .marker
  | .markerNonfinite => .marker
  | .markerOtherDiscards => .marker
  | .markerBadChunks => .marker
  | .markerDupSegments => .marker
  | .markerRollMismatch => .marker
  | .markerDegraded => .marker
  | .psdTable => .psd
  | .psdEntries => .psd
  | .psdValidBlocks => .psd
  | .psdFrozenBlocks => .psd
  | .psdSlowBlocks => .psd
  | .psdDegradedBlocks => .psd
  | .psdRollFaultBlocks => .psd
  | .hallwayState => .hallway
  | .hallwayCrcErrors => .hallway
  | .hallwayRetries => .hallway
  | .hallwayRetrains => .hallway
  | .hallwayBytesUp => .hallway
  | .hallwayBytesDown => .hallway
  | .fabricState => .fabric
  | .fabricCtrl => .fabric
  | .fabricVcWeight => .fabric
  | .fabricFecCorrected => .fabric
  | .fabricFecUncorrected => .fabric
  | .fabricCrcErrors => .fabric
  | .fabricRetries => .fabric
  | .fabricRetrains => .fabric
  | .fabricTagFailures => .fabric
  | .fabricMisrouted => .fabric
  | .fabricDenied => .fabric
  | .fabricStaleEpoch => .fabric
  | .fabricTxSlots => .fabric
  | .fabricRxSlots => .fabric
  | .fabricCreditStall => .fabric
  | .fabricPartner => .fabric
  | .fabricPartnerSerial => .fabric
  | .fabricRollState => .fabric
  | .fabricRollEvents => .fabric
  | .fabricRollSent => .fabric
  | .fabricRollReceived => .fabric
  | .fabricTracker => .fabric
  | .fabricTrackerPeak => .fabric
  | .fabricTimeout => .fabric
  | .fabricTimeouts => .fabric
  | .fabricLateResponses => .fabric
  | .fabricNotifyFull => .fabric
  | .fabricIssued => .fabric
  | .fabricServed => .fabric
  | .fabricErr => .fabric
  | .fabricNotifyBase => .fabric
  | .fabricNotifyEntries => .fabric
  | .fabricNotifyTail => .fabric
  | .fabricNotifyHeadAddr => .fabric
  | .fabricSeat => .fabric
  | .fabricNear => .fabric
  | .fabricFar => .fabric
  | .clusterCoreMap => .cluster
  | .clusterState => .cluster
  | .clusterSpareSwitches => .cluster
  | .clusterIstoreCorrected => .cluster
  | .clusterIstoreUncorrected => .cluster
  | .hbmState => .hbm
  | .hbmDevice => .hbm
  | .hbmCorrected => .hbm
  | .hbmUncorrected => .hbm
  | .hbmLaneRepairs => .hbm
  | .hbmRowRepairs => .hbm
  | .hbmRfmCommands => .hbm
  | .hbmChannel => .hbm
  | .hbmReadSectors => .hbm
  | .hbmWriteSectors => .hbm
  | .sliceConfig => .slice
  | .slicePinCmd => .slice
  | .slicePinStatus => .slice
  | .slicePinRefused => .slice
  | .slicePinned => .slice
  | .sliceHold => .slice
  | .sliceEccCorrected => .slice
  | .sliceEccUncorrected => .slice
  | .sliceReductions => .slice
  | .sliceHoldMerges => .slice
  | .sliceWritebacks => .slice
  | .sliceHit => .slice
  | .sliceMiss => .slice
  | .sliceScratchSectors => .slice
  | .coreStatus => .core
  | .coreClock => .core
  | .coreThreadState => .core
  | .coreFaultInfo => .core
  | .coreFaultAddr => .core
  | .coreFaultCount => .core
  | .coreIssueBundles => .core
  | .coreIssueIdle => .core
  | .coreWaitMem => .core
  | .coreWaitQueue => .core
  | .coreEccCorrected => .core
  | .coreEccUncorrected => .core
  | .coreSlotOwner => .core
  | .coreSlateMap => .core
  | .coreAccGroups => .core
  | .coreAccPasses => .core
  | .coreAccRange => .core
  | .coreAccFlags => .core

/-- The table row of a register. -/
def RegName.desc (n : RegName) : RegDesc :=
  let d := match n.block with
    | .proctor => proctorDesc n
    | .sec => secDesc n
    | .diary => diaryDesc n
    | .corridor => corridorDesc n
    | .power => powerDesc n
    | .thermal => thermalDesc n
    | .host => hostDesc n
    | .tutor => tutorDesc n
    | .queue => queueDesc n
    | .assembly => assemblyDesc n
    | .marker => markerDesc n
    | .psd => psdDesc n
    | .hallway => hallwayDesc n
    | .fabric => fabricDesc n
    | .cluster => clusterDesc n
    | .hbm => hbmDesc n
    | .slice => sliceDesc n
    | .core => coreDesc n
  d.getD ⟨n.block, 0, 0, 0, 32, 0, false, []⟩

/-- A field of a named register. -/
structure RegField where
  reg : RegName
  lo : Nat
  width : Nat
deriving DecidableEq, Repr

/-- The address of a register: block base + instance × stride + offset, with `j` its place in a run (R23). -/
def RegName.addr (n : RegName) (i : Nat := 0) (j : Nat := 0) : Nat :=
  n.block.base + i * n.block.stride + n.desc.off + j * n.desc.gap

/-- Which instances of a block hold a register: the stack's FABRIC registers stand in instances 4s, the module's FABRIC, POWER and THERMAL registers in instance 0 (R312, R421, R422). -/
def RegName.inInstance (n : RegName) (i : Nat) : Bool :=
  match n.block with
  | .fabric => if n.desc.off ≥ 0x800 then i == 0 else if n.desc.off ≥ 0x400 then i % 4 == 0 else true
  | .power | .thermal => n.desc.off < 0x1000 || i == 0
  | _ => true

namespace F
/-- ProctorDeviceId.PART. -/
abbrev proctorDeviceIdPart : RegField := ⟨.proctorDeviceId, 16, 16⟩
/-- ProctorDeviceId.STEP_MAJOR. -/
abbrev proctorDeviceIdStepMajor : RegField := ⟨.proctorDeviceId, 12, 4⟩
/-- ProctorDeviceId.STEP_MINOR. -/
abbrev proctorDeviceIdStepMinor : RegField := ⟨.proctorDeviceId, 8, 4⟩
/-- ProctorSerial.SERIAL. -/
abbrev proctorSerialSerial : RegField := ⟨.proctorSerial, 0, 64⟩
/-- ProctorBoot.ACTIVE_BANK. -/
abbrev proctorBootActiveBank : RegField := ⟨.proctorBoot, 0, 1⟩
/-- ProctorBoot.PENDING. -/
abbrev proctorBootPending : RegField := ⟨.proctorBoot, 1, 1⟩
/-- ProctorBoot.BANK_A. -/
abbrev proctorBootBankA : RegField := ⟨.proctorBoot, 2, 2⟩
/-- ProctorBoot.BANK_B. -/
abbrev proctorBootBankB : RegField := ⟨.proctorBoot, 4, 2⟩
/-- ProctorBoot.FALLBACK. -/
abbrev proctorBootFallback : RegField := ⟨.proctorBoot, 6, 1⟩
/-- ProctorFwVersion.VERSION. -/
abbrev proctorFwVersionVersion : RegField := ⟨.proctorFwVersion, 0, 32⟩
/-- ProctorI3c.DYN_ADDR. -/
abbrev proctorI3cDynAddr : RegField := ⟨.proctorI3c, 0, 7⟩
/-- ProctorI3c.EID. -/
abbrev proctorI3cEid : RegField := ⟨.proctorI3c, 8, 8⟩
/-- ProctorI3c.RECEIVER. -/
abbrev proctorI3cReceiver : RegField := ⟨.proctorI3c, 16, 1⟩
/-- ProctorEventTail.COUNT. -/
abbrev proctorEventTailCount : RegField := ⟨.proctorEventTail, 0, 32⟩
/-- ProctorResetCmd.DOMAIN. -/
abbrev proctorResetCmdDomain : RegField := ⟨.proctorResetCmd, 0, 3⟩
/-- ProctorResetCmd.STACKS. -/
abbrev proctorResetCmdStacks : RegField := ⟨.proctorResetCmd, 4, 4⟩
/-- ProctorResetCmd.PARTITION. -/
abbrev proctorResetCmdPartition : RegField := ⟨.proctorResetCmd, 8, 2⟩
/-- ProctorResetCmd.CONFIRM. -/
abbrev proctorResetCmdConfirm : RegField := ⟨.proctorResetCmd, 16, 16⟩
/-- ProctorResetStatus.IN_RESET. -/
abbrev proctorResetStatusInReset : RegField := ⟨.proctorResetStatus, 0, 4⟩
/-- ProctorResetStatus.WARM. -/
abbrev proctorResetStatusWarm : RegField := ⟨.proctorResetStatus, 4, 1⟩
/-- ProctorResetStatus.LAST_DOMAIN. -/
abbrev proctorResetStatusLastDomain : RegField := ⟨.proctorResetStatus, 5, 3⟩
/-- ProctorResetStatus.LAST_CAUSE. -/
abbrev proctorResetStatusLastCause : RegField := ⟨.proctorResetStatus, 8, 3⟩
/-- ProctorResetStatus.REFUSED. -/
abbrev proctorResetStatusRefused : RegField := ⟨.proctorResetStatus, 11, 1⟩
/-- ProctorStartup.PHASE. -/
abbrev proctorStartupPhase : RegField := ⟨.proctorStartup, 0, 4⟩
/-- ProctorStartup.STACKS_OK. -/
abbrev proctorStartupStacksOk : RegField := ⟨.proctorStartup, 4, 4⟩
/-- ProctorStartup.STACKS_FAILED. -/
abbrev proctorStartupStacksFailed : RegField := ⟨.proctorStartup, 8, 4⟩
/-- ProctorStartupTime.US. -/
abbrev proctorStartupTimeUs : RegField := ⟨.proctorStartupTime, 0, 32⟩
/-- ProctorColdResets.COUNT. -/
abbrev proctorColdResetsCount : RegField := ⟨.proctorColdResets, 0, 32⟩
/-- ProctorWarmResets.COUNT. -/
abbrev proctorWarmResetsCount : RegField := ⟨.proctorWarmResets, 0, 32⟩
/-- ProctorStackResets.COUNT. -/
abbrev proctorStackResetsCount : RegField := ⟨.proctorStackResets, 0, 32⟩
/-- ProctorBaseDieResets.COUNT. -/
abbrev proctorBaseDieResetsCount : RegField := ⟨.proctorBaseDieResets, 0, 32⟩
/-- ProctorErrlogTail.COUNT. -/
abbrev proctorErrlogTailCount : RegField := ⟨.proctorErrlogTail, 0, 32⟩
/-- ProctorErrlogOverwritten.COUNT. -/
abbrev proctorErrlogOverwrittenCount : RegField := ⟨.proctorErrlogOverwritten, 0, 32⟩
/-- ProctorErrlogClass.COUNT. -/
abbrev proctorErrlogClassCount : RegField := ⟨.proctorErrlogClass, 0, 32⟩
/-- ProctorEvent.ENTRY. -/
abbrev proctorEventEntry : RegField := ⟨.proctorEvent, 0, 128⟩
/-- ProctorErrlog.RECORD. -/
abbrev proctorErrlogRecord : RegField := ⟨.proctorErrlog, 0, 256⟩
/-- SecPolicy.HOST_MODULE. -/
abbrev secPolicyHostModule : RegField := ⟨.secPolicy, 0, 1⟩
/-- SecPolicy.LUMMIR_ENC. -/
abbrev secPolicyLummirEnc : RegField := ⟨.secPolicy, 1, 1⟩
/-- SecPolicy.HOST_IDE. -/
abbrev secPolicyHostIde : RegField := ⟨.secPolicy, 2, 1⟩
/-- SecPolicy.MGMT_SECURE. -/
abbrev secPolicyMgmtSecure : RegField := ⟨.secPolicy, 3, 1⟩
/-- SecPolicy.LOCKED. -/
abbrev secPolicyLocked : RegField := ⟨.secPolicy, 7, 1⟩
/-- SecFwSvn.CURRENT. -/
abbrev secFwSvnCurrent : RegField := ⟨.secFwSvn, 0, 6⟩
/-- SecFwSvn.MIN. -/
abbrev secFwSvnMin : RegField := ⟨.secFwSvn, 16, 6⟩
/-- SecFwSvnCommit.COMMIT. -/
abbrev secFwSvnCommitCommit : RegField := ⟨.secFwSvnCommit, 0, 1⟩
/-- SecSylMinSvn.MIN. -/
abbrev secSylMinSvnMin : RegField := ⟨.secSylMinSvn, 0, 32⟩
/-- SecKeyCmd.SLOT. -/
abbrev secKeyCmdSlot : RegField := ⟨.secKeyCmd, 0, 4⟩
/-- SecKeyCmd.OP. -/
abbrev secKeyCmdOp : RegField := ⟨.secKeyCmd, 4, 2⟩
/-- SecKeyCmd.PARTS. -/
abbrev secKeyCmdParts : RegField := ⟨.secKeyCmd, 8, 4⟩
/-- SecKeyStatus.RESULT. -/
abbrev secKeyStatusResult : RegField := ⟨.secKeyStatus, 0, 2⟩
/-- SecKeyStatus.BUSY. -/
abbrev secKeyStatusBusy : RegField := ⟨.secKeyStatus, 2, 1⟩
/-- SecHbmKeyGen.GEN_0. -/
abbrev secHbmKeyGenGen0 : RegField := ⟨.secHbmKeyGen, 0, 8⟩
/-- SecHbmKeyGen.GEN_1. -/
abbrev secHbmKeyGenGen1 : RegField := ⟨.secHbmKeyGen, 8, 8⟩
/-- SecHbmKeyGen.GEN_2. -/
abbrev secHbmKeyGenGen2 : RegField := ⟨.secHbmKeyGen, 16, 8⟩
/-- SecHbmKeyGen.GEN_3. -/
abbrev secHbmKeyGenGen3 : RegField := ⟨.secHbmKeyGen, 24, 8⟩
/-- SecKeyStage.KEY. -/
abbrev secKeyStageKey : RegField := ⟨.secKeyStage, 0, 768⟩
/-- SecKey.STATE. -/
abbrev secKeyState : RegField := ⟨.secKey, 0, 2⟩
/-- SecKey.PARTS. -/
abbrev secKeyParts : RegField := ⟨.secKey, 4, 4⟩
/-- SecKeyPub.KEY. -/
abbrev secKeyPubKey : RegField := ⟨.secKeyPub, 0, 768⟩
/-- DiaryTail.SEQ. -/
abbrev diaryTailSeq : RegField := ⟨.diaryTail, 0, 32⟩
/-- DiaryOverwritten.COUNT. -/
abbrev diaryOverwrittenCount : RegField := ⟨.diaryOverwritten, 0, 32⟩
/-- DiaryDropped.COUNT. -/
abbrev diaryDroppedCount : RegField := ⟨.diaryDropped, 0, 32⟩
/-- DiarySealTail.COUNT. -/
abbrev diarySealTailCount : RegField := ⟨.diarySealTail, 0, 32⟩
/-- DiaryEntryIndex.SEQ. -/
abbrev diaryEntryIndexSeq : RegField := ⟨.diaryEntryIndex, 0, 32⟩
/-- DiaryEntryStatus.VALID. -/
abbrev diaryEntryStatusValid : RegField := ⟨.diaryEntryStatus, 0, 1⟩
/-- DiarySealIndex.SEAL. -/
abbrev diarySealIndexSeal : RegField := ⟨.diarySealIndex, 0, 32⟩
/-- DiarySealStatus.VALID. -/
abbrev diarySealStatusValid : RegField := ⟨.diarySealStatus, 0, 1⟩
/-- DiaryEntry.ENTRY. -/
abbrev diaryEntryEntry : RegField := ⟨.diaryEntry, 0, 256⟩
/-- DiarySeal.SEAL. -/
abbrev diarySealSeal : RegField := ⟨.diarySeal, 0, 2048⟩
/-- CorridorState.RING. -/
abbrev corridorStateRing : RegField := ⟨.corridorState, 0, 2⟩
/-- CorridorState.TIME_VALID. -/
abbrev corridorStateTimeValid : RegField := ⟨.corridorState, 2, 1⟩
/-- CorridorState.TIME_CONFLICT. -/
abbrev corridorStateTimeConflict : RegField := ⟨.corridorState, 3, 1⟩
/-- CorridorState.STOPPED. -/
abbrev corridorStateStopped : RegField := ⟨.corridorState, 4, 4⟩
/-- CorridorCtrl.JOIN. -/
abbrev corridorCtrlJoin : RegField := ⟨.corridorCtrl, 0, 1⟩
/-- CorridorCtrl.TIME_MASTER. -/
abbrev corridorCtrlTimeMaster : RegField := ⟨.corridorCtrl, 1, 1⟩
/-- CorridorStopSend.JOB. -/
abbrev corridorStopSendJob : RegField := ⟨.corridorStopSend, 0, 32⟩
/-- CorridorStopClear.PARTS. -/
abbrev corridorStopClearParts : RegField := ⟨.corridorStopClear, 0, 4⟩
/-- CorridorTime.NS. -/
abbrev corridorTimeNs : RegField := ⟨.corridorTime, 0, 64⟩
/-- CorridorTimeMasterSeat.SEAT. -/
abbrev corridorTimeMasterSeatSeat : RegField := ⟨.corridorTimeMasterSeat, 0, 12⟩
/-- CorridorFramesTx.COUNT. -/
abbrev corridorFramesTxCount : RegField := ⟨.corridorFramesTx, 0, 64⟩
/-- CorridorFramesRx.COUNT. -/
abbrev corridorFramesRxCount : RegField := ⟨.corridorFramesRx, 0, 64⟩
/-- CorridorCrcErrors.COUNT. -/
abbrev corridorCrcErrorsCount : RegField := ⟨.corridorCrcErrors, 0, 32⟩
/-- CorridorResends.COUNT. -/
abbrev corridorResendsCount : RegField := ⟨.corridorResends, 0, 32⟩
/-- CorridorLost.COUNT. -/
abbrev corridorLostCount : RegField := ⟨.corridorLost, 0, 32⟩
/-- CorridorNodes.COUNT. -/
abbrev corridorNodesCount : RegField := ⟨.corridorNodes, 0, 6⟩
/-- CorridorPeerEpoch.EPOCH_A. -/
abbrev corridorPeerEpochEpochA : RegField := ⟨.corridorPeerEpoch, 0, 12⟩
/-- CorridorPeerEpoch.KNOWN_A. -/
abbrev corridorPeerEpochKnownA : RegField := ⟨.corridorPeerEpoch, 15, 1⟩
/-- CorridorPeerEpoch.EPOCH_B. -/
abbrev corridorPeerEpochEpochB : RegField := ⟨.corridorPeerEpoch, 16, 12⟩
/-- CorridorPeerEpoch.KNOWN_B. -/
abbrev corridorPeerEpochKnownB : RegField := ⟨.corridorPeerEpoch, 31, 1⟩
/-- PowerPstate.STATE. -/
abbrev powerPstateState : RegField := ⟨.powerPstate, 0, 3⟩
/-- PowerPstate.WAKE_HELD. -/
abbrev powerPstateWakeHeld : RegField := ⟨.powerPstate, 3, 1⟩
/-- PowerRate.N. -/
abbrev powerRateN : RegField := ⟨.powerRate, 0, 7⟩
/-- PowerRate.BINDING. -/
abbrev powerRateBinding : RegField := ⟨.powerRate, 8, 8⟩
/-- PowerHostLimit.RATE. -/
abbrev powerHostLimitRate : RegField := ⟨.powerHostLimit, 0, 7⟩
/-- PowerLimits.LIMIT_0. -/
abbrev powerLimitsLimit0 : RegField := ⟨.powerLimits, 0, 7⟩
/-- PowerLimits.LIMIT_1. -/
abbrev powerLimitsLimit1 : RegField := ⟨.powerLimits, 8, 7⟩
/-- PowerLimits.LIMIT_2. -/
abbrev powerLimitsLimit2 : RegField := ⟨.powerLimits, 16, 7⟩
/-- PowerLimits.LIMIT_3. -/
abbrev powerLimitsLimit3 : RegField := ⟨.powerLimits, 24, 7⟩
/-- PowerLimits.LIMIT_4. -/
abbrev powerLimitsLimit4 : RegField := ⟨.powerLimits, 32, 7⟩
/-- PowerLimits.LIMIT_5. -/
abbrev powerLimitsLimit5 : RegField := ⟨.powerLimits, 40, 7⟩
/-- PowerLimits.LIMIT_6. -/
abbrev powerLimitsLimit6 : RegField := ⟨.powerLimits, 48, 7⟩
/-- PowerLimits.LIMIT_7. -/
abbrev powerLimitsLimit7 : RegField := ⟨.powerLimits, 56, 7⟩
/-- PowerRail.AMPS. -/
abbrev powerRailAmps : RegField := ⟨.powerRail, 0, 16⟩
/-- PowerDroopEvents.COUNT. -/
abbrev powerDroopEventsCount : RegField := ⟨.powerDroopEvents, 0, 32⟩
/-- PowerRecessEntries.COUNT. -/
abbrev powerRecessEntriesCount : RegField := ⟨.powerRecessEntries, 0, 32⟩
/-- PowerReport.US. -/
abbrev powerReportUs : RegField := ⟨.powerReport, 0, 64⟩
/-- PowerCap.REQUESTED_W. -/
abbrev powerCapRequestedW : RegField := ⟨.powerCap, 0, 13⟩
/-- PowerCap.EFFECTIVE_W. -/
abbrev powerCapEffectiveW : RegField := ⟨.powerCap, 16, 13⟩
/-- PowerCap.BELOW_FLOOR. -/
abbrev powerCapBelowFloor : RegField := ⟨.powerCap, 29, 1⟩
/-- PowerFloor.W. -/
abbrev powerFloorW : RegField := ⟨.powerFloor, 0, 13⟩
/-- PowerInput.POWER_W. -/
abbrev powerInputPowerW : RegField := ⟨.powerInput, 0, 13⟩
/-- PowerInput.BUS. -/
abbrev powerInputBus : RegField := ⟨.powerInput, 16, 10⟩
/-- PowerNCap.N. -/
abbrev powerNCapN : RegField := ⟨.powerNCap, 0, 7⟩
/-- PowerEnergy.UJ. -/
abbrev powerEnergyUj : RegField := ⟨.powerEnergy, 0, 64⟩
/-- PowerPstateCmd.OP. -/
abbrev powerPstateCmdOp : RegField := ⟨.powerPstateCmd, 0, 2⟩
/-- PowerPstateCmd.STACKS. -/
abbrev powerPstateCmdStacks : RegField := ⟨.powerPstateCmd, 4, 4⟩
/-- PowerPstateCmd.TIMEOUT_MS. -/
abbrev powerPstateCmdTimeoutMs : RegField := ⟨.powerPstateCmd, 16, 14⟩
/-- PowerPstateResult.RESULT. -/
abbrev powerPstateResultResult : RegField := ⟨.powerPstateResult, 0, 3⟩
/-- PowerPstateResult.STACKS. -/
abbrev powerPstateResultStacks : RegField := ⟨.powerPstateResult, 4, 4⟩
/-- ThermalStatus.STACK_THROTTLE. -/
abbrev thermalStatusStackThrottle : RegField := ⟨.thermalStatus, 0, 1⟩
/-- ThermalStatus.HBM_THROTTLE. -/
abbrev thermalStatusHbmThrottle : RegField := ⟨.thermalStatus, 1, 1⟩
/-- ThermalStatus.SUSPECT. -/
abbrev thermalStatusSuspect : RegField := ⟨.thermalStatus, 2, 1⟩
/-- ThermalStatus.TRIP. -/
abbrev thermalStatusTrip : RegField := ⟨.thermalStatus, 3, 1⟩
/-- ThermalStatus.SHUTDOWN. -/
abbrev thermalStatusShutdown : RegField := ⟨.thermalStatus, 4, 1⟩
/-- ThermalStatus.HOTTEST. -/
abbrev thermalStatusHottest : RegField := ⟨.thermalStatus, 8, 8⟩
/-- ThermalStatus.HOTTEST_T. -/
abbrev thermalStatusHottestT : RegField := ⟨.thermalStatus, 16, 12⟩
/-- ThermalSuspectEvents.COUNT. -/
abbrev thermalSuspectEventsCount : RegField := ⟨.thermalSuspectEvents, 0, 32⟩
/-- ThermalKth.MC_PER_W. -/
abbrev thermalKthMcPerW : RegField := ⟨.thermalKth, 0, 16⟩
/-- ThermalSensor.T. -/
abbrev thermalSensorT : RegField := ⟨.thermalSensor, 0, 12⟩
/-- ThermalSensor.EST. -/
abbrev thermalSensorEst : RegField := ⟨.thermalSensor, 12, 12⟩
/-- ThermalSensor.VALID. -/
abbrev thermalSensorValid : RegField := ⟨.thermalSensor, 24, 1⟩
/-- ThermalSensor.SUSPECT. -/
abbrev thermalSensorSuspect : RegField := ⟨.thermalSensor, 25, 1⟩
/-- ThermalCoolant.SUPPLY_T. -/
abbrev thermalCoolantSupplyT : RegField := ⟨.thermalCoolant, 0, 12⟩
/-- ThermalCoolant.RETURN_T. -/
abbrev thermalCoolantReturnT : RegField := ⟨.thermalCoolant, 16, 12⟩
/-- ThermalFlow.FLOW. -/
abbrev thermalFlowFlow : RegField := ⟨.thermalFlow, 0, 12⟩
/-- ThermalFlow.TRIP. -/
abbrev thermalFlowTrip : RegField := ⟨.thermalFlow, 16, 1⟩
/-- ThermalFlow.TRIPPED. -/
abbrev thermalFlowTripped : RegField := ⟨.thermalFlow, 17, 1⟩
/-- ThermalCoolantLimit.W. -/
abbrev thermalCoolantLimitW : RegField := ⟨.thermalCoolantLimit, 0, 13⟩
/-- HostStatus.LINK. -/
abbrev hostStatusLink : RegField := ⟨.hostStatus, 0, 3⟩
/-- HostStatus.WIDTH. -/
abbrev hostStatusWidth : RegField := ⟨.hostStatus, 3, 5⟩
/-- HostStatus.SPEED. -/
abbrev hostStatusSpeed : RegField := ⟨.hostStatus, 8, 3⟩
/-- HostStatus.CXL. -/
abbrev hostStatusCxl : RegField := ⟨.hostStatus, 11, 1⟩
/-- HostStatus.IDE. -/
abbrev hostStatusIde : RegField := ⟨.hostStatus, 12, 1⟩
/-- HostStatus.PRIMARY. -/
abbrev hostStatusPrimary : RegField := ⟨.hostStatus, 13, 1⟩
/-- HostCtrl.PRIMARY. -/
abbrev hostCtrlPrimary : RegField := ⟨.hostCtrl, 0, 1⟩
/-- HostLinkHold.MS. -/
abbrev hostLinkHoldMs : RegField := ⟨.hostLinkHold, 0, 16⟩
/-- HostLinkEpoch.COUNT. -/
abbrev hostLinkEpochCount : RegField := ⟨.hostLinkEpoch, 0, 32⟩
/-- HostFlush.EPOCH. -/
abbrev hostFlushEpoch : RegField := ⟨.hostFlush, 0, 32⟩
/-- HostIntakeBase.ADDR. -/
abbrev hostIntakeBaseAddr : RegField := ⟨.hostIntakeBase, 0, 50⟩
/-- HostLetterboxReads.COUNT. -/
abbrev hostLetterboxReadsCount : RegField := ⟨.hostLetterboxReads, 0, 32⟩
/-- HostLetterboxDiscards.COUNT. -/
abbrev hostLetterboxDiscardsCount : RegField := ⟨.hostLetterboxDiscards, 0, 32⟩
/-- HostDetaches.COUNT. -/
abbrev hostDetachesCount : RegField := ⟨.hostDetaches, 0, 32⟩
/-- HostEvents.DETACHED. -/
abbrev hostEventsDetached : RegField := ⟨.hostEvents, 0, 1⟩
/-- HostEvents.PARKED. -/
abbrev hostEventsParked : RegField := ⟨.hostEvents, 1, 1⟩
/-- HostEvents.HOLD_FULL. -/
abbrev hostEventsHoldFull : RegField := ⟨.hostEvents, 2, 1⟩
/-- HostEvents.LINK_LOST. -/
abbrev hostEventsLinkLost : RegField := ⟨.hostEvents, 3, 1⟩
/-- HostIntakeLo.LO. -/
abbrev hostIntakeLoLo : RegField := ⟨.hostIntakeLo, 0, 50⟩
/-- HostIntakeLo.VALID. -/
abbrev hostIntakeLoValid : RegField := ⟨.hostIntakeLo, 50, 1⟩
/-- HostIntakeLo.PART. -/
abbrev hostIntakeLoPart : RegField := ⟨.hostIntakeLo, 51, 2⟩
/-- HostIntakeHi.HI. -/
abbrev hostIntakeHiHi : RegField := ⟨.hostIntakeHi, 0, 50⟩
/-- HostMsix.ENTRY. -/
abbrev hostMsixEntry : RegField := ⟨.hostMsix, 0, 128⟩
/-- HostMsixPba.PENDING. -/
abbrev hostMsixPbaPending : RegField := ⟨.hostMsixPba, 0, 256⟩
/-- TutorSylState.ACTIVE. -/
abbrev tutorSylStateActive : RegField := ⟨.tutorSylState, 0, 1⟩
/-- TutorSylState.ACTIVATING. -/
abbrev tutorSylStateActivating : RegField := ⟨.tutorSylState, 1, 1⟩
/-- TutorSylState.PART. -/
abbrev tutorSylStatePart : RegField := ⟨.tutorSylState, 2, 2⟩
/-- TutorSylState.RESIDENT_BAD. -/
abbrev tutorSylStateResidentBad : RegField := ⟨.tutorSylState, 4, 1⟩
/-- TutorJobId.ID. -/
abbrev tutorJobIdId : RegField := ⟨.tutorJobId, 0, 32⟩
/-- TutorSeed.SEED. -/
abbrev tutorSeedSeed : RegField := ⟨.tutorSeed, 0, 64⟩
/-- TutorDigest.HEAD. -/
abbrev tutorDigestHead : RegField := ⟨.tutorDigest, 0, 64⟩
/-- TutorMaxSeq.TOKENS. -/
abbrev tutorMaxSeqTokens : RegField := ⟨.tutorMaxSeq, 0, 24⟩
/-- TutorActivations.COUNT. -/
abbrev tutorActivationsCount : RegField := ⟨.tutorActivations, 0, 32⟩
/-- TutorSylError.STATUS. -/
abbrev tutorSylErrorStatus : RegField := ⟨.tutorSylError, 0, 8⟩
/-- TutorSylError.SECTION. -/
abbrev tutorSylErrorSection : RegField := ⟨.tutorSylError, 16, 16⟩
/-- TutorSylError.OFFSET. -/
abbrev tutorSylErrorOffset : RegField := ⟨.tutorSylError, 32, 32⟩
/-- TutorRuleStep.STEP. -/
abbrev tutorRuleStepStep : RegField := ⟨.tutorRuleStep, 0, 32⟩
/-- TutorRuleStatus.BUSY. -/
abbrev tutorRuleStatusBusy : RegField := ⟨.tutorRuleStatus, 0, 1⟩
/-- TutorRuleStatus.REFUSED. -/
abbrev tutorRuleStatusRefused : RegField := ⟨.tutorRuleStatus, 1, 1⟩
/-- TutorRuleStatus.POISON. -/
abbrev tutorRuleStatusPoison : RegField := ⟨.tutorRuleStatus, 2, 1⟩
/-- TutorRuleLastStep.STEP. -/
abbrev tutorRuleLastStepStep : RegField := ⟨.tutorRuleLastStep, 0, 32⟩
/-- TutorRules.COUNT. -/
abbrev tutorRulesCount : RegField := ⟨.tutorRules, 0, 13⟩
/-- TutorBellStats.BASE. -/
abbrev tutorBellStatsBase : RegField := ⟨.tutorBellStats, 0, 50⟩
/-- TutorRetired.COUNT. -/
abbrev tutorRetiredCount : RegField := ⟨.tutorRetired, 0, 64⟩
/-- TutorAborted.COUNT. -/
abbrev tutorAbortedCount : RegField := ⟨.tutorAborted, 0, 32⟩
/-- TutorFaulted.COUNT. -/
abbrev tutorFaultedCount : RegField := ⟨.tutorFaulted, 0, 32⟩
/-- TutorOtherStops.COUNT. -/
abbrev tutorOtherStopsCount : RegField := ⟨.tutorOtherStops, 0, 32⟩
/-- TutorBellsBroken.COUNT. -/
abbrev tutorBellsBrokenCount : RegField := ⟨.tutorBellsBroken, 0, 32⟩
/-- TutorRearmOverruns.COUNT. -/
abbrev tutorRearmOverrunsCount : RegField := ⟨.tutorRearmOverruns, 0, 32⟩
/-- TutorLessonLoad.WAITING. -/
abbrev tutorLessonLoadWaiting : RegField := ⟨.tutorLessonLoad, 0, 16⟩
/-- TutorLessonLoad.RUNNING. -/
abbrev tutorLessonLoadRunning : RegField := ⟨.tutorLessonLoad, 16, 16⟩
/-- TutorJanitorBond.PASS_S. -/
abbrev tutorJanitorBondPassS : RegField := ⟨.tutorJanitorBond, 0, 32⟩
/-- TutorJanitorHbm.PASS_S. -/
abbrev tutorJanitorHbmPassS : RegField := ⟨.tutorJanitorHbm, 0, 32⟩
/-- TutorBondPasses.COUNT. -/
abbrev tutorBondPassesCount : RegField := ⟨.tutorBondPasses, 0, 32⟩
/-- TutorHbmPasses.COUNT. -/
abbrev tutorHbmPassesCount : RegField := ⟨.tutorHbmPasses, 0, 32⟩
/-- TutorJanitorSectors.COUNT. -/
abbrev tutorJanitorSectorsCount : RegField := ⟨.tutorJanitorSectors, 0, 64⟩
/-- TutorQuizCtrl.ENABLE. -/
abbrev tutorQuizCtrlEnable : RegField := ⟨.tutorQuizCtrl, 0, 1⟩
/-- TutorQuizCtrl.PERIOD_S. -/
abbrev tutorQuizCtrlPeriodS : RegField := ⟨.tutorQuizCtrl, 16, 16⟩
/-- TutorQuizStatus.NEXT_SLICE. -/
abbrev tutorQuizStatusNextSlice : RegField := ⟨.tutorQuizStatus, 0, 8⟩
/-- TutorQuizStatus.PAUSED. -/
abbrev tutorQuizStatusPaused : RegField := ⟨.tutorQuizStatus, 8, 1⟩
/-- TutorQuizRounds.COUNT. -/
abbrev tutorQuizRoundsCount : RegField := ⟨.tutorQuizRounds, 0, 32⟩
/-- TutorBondRepairs.COUNT. -/
abbrev tutorBondRepairsCount : RegField := ⟨.tutorBondRepairs, 0, 32⟩
/-- TutorArrayRepairs.COUNT. -/
abbrev tutorArrayRepairsCount : RegField := ⟨.tutorArrayRepairs, 0, 32⟩
/-- TutorSpares.BOND_FREE. -/
abbrev tutorSparesBondFree : RegField := ⟨.tutorSpares, 0, 16⟩
/-- TutorSpares.ROW_FREE. -/
abbrev tutorSparesRowFree : RegField := ⟨.tutorSpares, 16, 16⟩
/-- TutorSliceFailed.FAILED. -/
abbrev tutorSliceFailedFailed : RegField := ⟨.tutorSliceFailed, 0, 64⟩
/-- QueueConfig.VALID. -/
abbrev queueConfigValid : RegField := ⟨.queueConfig, 0, 1⟩
/-- QueueConfig.PORT. -/
abbrev queueConfigPort : RegField := ⟨.queueConfig, 1, 1⟩
/-- QueueConfig.PART. -/
abbrev queueConfigPart : RegField := ⟨.queueConfig, 2, 2⟩
/-- QueueConfig.HOME. -/
abbrev queueConfigHome : RegField := ⟨.queueConfig, 4, 2⟩
/-- QueueConfig.VECTOR. -/
abbrev queueConfigVector : RegField := ⟨.queueConfig, 8, 8⟩
/-- QueueSqBase.ADDR. -/
abbrev queueSqBaseAddr : RegField := ⟨.queueSqBase, 0, 64⟩
/-- QueueCqBase.ADDR. -/
abbrev queueCqBaseAddr : RegField := ⟨.queueCqBase, 0, 64⟩
/-- QueueTailAddr.ADDR. -/
abbrev queueTailAddrAddr : RegField := ⟨.queueTailAddr, 0, 64⟩
/-- QueueSizes.SQ_LOG2. -/
abbrev queueSizesSqLog2 : RegField := ⟨.queueSizes, 0, 5⟩
/-- QueueSizes.CQ_LOG2. -/
abbrev queueSizesCqLog2 : RegField := ⟨.queueSizes, 8, 5⟩
/-- QueueCtrl.ENABLE. -/
abbrev queueCtrlEnable : RegField := ⟨.queueCtrl, 0, 1⟩
/-- QueueCtrl.RESUME. -/
abbrev queueCtrlResume : RegField := ⟨.queueCtrl, 1, 1⟩
/-- QueueCtrl.DETACH. -/
abbrev queueCtrlDetach : RegField := ⟨.queueCtrl, 2, 1⟩
/-- QueueDoorbell.TAIL. -/
abbrev queueDoorbellTail : RegField := ⟨.queueDoorbell, 0, 32⟩
/-- QueueCqHead.INDEX. -/
abbrev queueCqHeadIndex : RegField := ⟨.queueCqHead, 0, 32⟩
/-- QueueState.STATE. -/
abbrev queueStateState : RegField := ⟨.queueState, 0, 2⟩
/-- QueueState.PARK_CAUSE. -/
abbrev queueStateParkCause : RegField := ⟨.queueState, 2, 4⟩
/-- QueueSqHead.INDEX. -/
abbrev queueSqHeadIndex : RegField := ⟨.queueSqHead, 0, 32⟩
/-- QueueCqTail.INDEX. -/
abbrev queueCqTailIndex : RegField := ⟨.queueCqTail, 0, 32⟩
/-- QueueOutstanding.COUNT. -/
abbrev queueOutstandingCount : RegField := ⟨.queueOutstanding, 0, 9⟩
/-- QueueGeneration.COUNT. -/
abbrev queueGenerationCount : RegField := ⟨.queueGeneration, 0, 16⟩
/-- QueueRefetches.COUNT. -/
abbrev queueRefetchesCount : RegField := ⟨.queueRefetches, 0, 32⟩
/-- QueueDropped.COUNT. -/
abbrev queueDroppedCount : RegField := ⟨.queueDropped, 0, 32⟩
/-- QueueCoalesce.COUNT. -/
abbrev queueCoalesceCount : RegField := ⟨.queueCoalesce, 0, 8⟩
/-- QueueCoalesce.US. -/
abbrev queueCoalesceUs : RegField := ⟨.queueCoalesce, 16, 16⟩
/-- QueueResends.COUNT. -/
abbrev queueResendsCount : RegField := ⟨.queueResends, 0, 32⟩
/-- QueueStepConfig.VALID. -/
abbrev queueStepConfigValid : RegField := ⟨.queueStepConfig, 0, 1⟩
/-- QueueStepConfig.PORT. -/
abbrev queueStepConfigPort : RegField := ⟨.queueStepConfig, 1, 1⟩
/-- QueueStepConfig.VECTOR. -/
abbrev queueStepConfigVector : RegField := ⟨.queueStepConfig, 8, 8⟩
/-- QueueStepBase.ADDR. -/
abbrev queueStepBaseAddr : RegField := ⟨.queueStepBase, 0, 64⟩
/-- QueueStepTailAddr.ADDR. -/
abbrev queueStepTailAddrAddr : RegField := ⟨.queueStepTailAddr, 0, 64⟩
/-- QueueStepSize.LOG2. -/
abbrev queueStepSizeLog2 : RegField := ⟨.queueStepSize, 0, 5⟩
/-- QueueStepCtrl.ENABLE. -/
abbrev queueStepCtrlEnable : RegField := ⟨.queueStepCtrl, 0, 1⟩
/-- QueueStepCtrl.DETACH. -/
abbrev queueStepCtrlDetach : RegField := ⟨.queueStepCtrl, 1, 1⟩
/-- QueueStepHead.INDEX. -/
abbrev queueStepHeadIndex : RegField := ⟨.queueStepHead, 0, 32⟩
/-- QueueStepTail.INDEX. -/
abbrev queueStepTailIndex : RegField := ⟨.queueStepTail, 0, 32⟩
/-- QueueStepState.STATE. -/
abbrev queueStepStateState : RegField := ⟨.queueStepState, 0, 2⟩
/-- QueueStepDropped.COUNT. -/
abbrev queueStepDroppedCount : RegField := ⟨.queueStepDropped, 0, 32⟩
/-- QueueHold.IN_USE. -/
abbrev queueHoldInUse : RegField := ⟨.queueHold, 0, 13⟩
/-- QueueHold.FULL. -/
abbrev queueHoldFull : RegField := ⟨.queueHold, 13, 1⟩
/-- QueueHoldPeak.PEAK. -/
abbrev queueHoldPeakPeak : RegField := ⟨.queueHoldPeak, 0, 13⟩
/-- AssemblyState.ACTIVE. -/
abbrev assemblyStateActive : RegField := ⟨.assemblyState, 0, 7⟩
/-- AssemblyCollTable.BASE. -/
abbrev assemblyCollTableBase : RegField := ⟨.assemblyCollTable, 0, 50⟩
/-- AssemblyCollCount.COUNT. -/
abbrev assemblyCollCountCount : RegField := ⟨.assemblyCollCount, 0, 11⟩
/-- AssemblyNorm.COLL. -/
abbrev assemblyNormColl : RegField := ⟨.assemblyNorm, 0, 10⟩
/-- AssemblyNorm.EXPECT. -/
abbrev assemblyNormExpect : RegField := ⟨.assemblyNorm, 16, 10⟩
/-- AssemblyNormRange.COUNT. -/
abbrev assemblyNormRangeCount : RegField := ⟨.assemblyNormRange, 0, 32⟩
/-- AssemblyFailed.COUNT. -/
abbrev assemblyFailedCount : RegField := ⟨.assemblyFailed, 0, 32⟩
/-- AssemblyLastFail.COLL. -/
abbrev assemblyLastFailColl : RegField := ⟨.assemblyLastFail, 0, 10⟩
/-- AssemblyLastFail.STATUS. -/
abbrev assemblyLastFailStatus : RegField := ⟨.assemblyLastFail, 16, 4⟩
/-- AssemblyLastFail.STEP. -/
abbrev assemblyLastFailStep : RegField := ⟨.assemblyLastFail, 32, 32⟩
/-- AssemblyPacketsSent.COUNT. -/
abbrev assemblyPacketsSentCount : RegField := ⟨.assemblyPacketsSent, 0, 64⟩
/-- AssemblyPacketsReceived.COUNT. -/
abbrev assemblyPacketsReceivedCount : RegField := ⟨.assemblyPacketsReceived, 0, 64⟩
/-- AssemblyInstances.COUNT. -/
abbrev assemblyInstancesCount : RegField := ⟨.assemblyInstances, 0, 64⟩
/-- AssemblyRefused.COUNT. -/
abbrev assemblyRefusedCount : RegField := ⟨.assemblyRefused, 0, 32⟩
/-- MarkerState.MODE. -/
abbrev markerStateMode : RegField := ⟨.markerState, 0, 2⟩
/-- MarkerState.STEP_STATE. -/
abbrev markerStateStepState : RegField := ⟨.markerState, 2, 3⟩
/-- MarkerState.WITHHOLD. -/
abbrev markerStateWithhold : RegField := ⟨.markerState, 5, 1⟩
/-- MarkerLr.VALUE. -/
abbrev markerLrValue : RegField := ⟨.markerLr, 0, 32⟩
/-- MarkerClip.TAU. -/
abbrev markerClipTau : RegField := ⟨.markerClip, 0, 32⟩
/-- MarkerArm.STEP. -/
abbrev markerArmStep : RegField := ⟨.markerArm, 0, 32⟩
/-- MarkerArmStatus.RESULT. -/
abbrev markerArmStatusResult : RegField := ⟨.markerArmStatus, 0, 3⟩
/-- MarkerArmStatus.INDEX. -/
abbrev markerArmStatusIndex : RegField := ⟨.markerArmStatus, 8, 17⟩
/-- MarkerOpenStep.STEP. -/
abbrev markerOpenStepStep : RegField := ⟨.markerOpenStep, 0, 32⟩
/-- MarkerCommittedStep.STEP. -/
abbrev markerCommittedStepStep : RegField := ⟨.markerCommittedStep, 0, 32⟩
/-- MarkerResult.LAST. -/
abbrev markerResultLast : RegField := ⟨.markerResult, 0, 3⟩
/-- MarkerNorm.VALUE. -/
abbrev markerNormValue : RegField := ⟨.markerNorm, 0, 32⟩
/-- MarkerClipFactor.VALUE. -/
abbrev markerClipFactorValue : RegField := ⟨.markerClipFactor, 0, 32⟩
/-- MarkerExpected.COUNT. -/
abbrev markerExpectedCount : RegField := ⟨.markerExpected, 0, 32⟩
/-- MarkerArrived.COUNT. -/
abbrev markerArrivedCount : RegField := ⟨.markerArrived, 0, 32⟩
/-- MarkerStepCmd.ABANDON. -/
abbrev markerStepCmdAbandon : RegField := ⟨.markerStepCmd, 0, 1⟩
/-- MarkerHp.BASE. -/
abbrev markerHpBase : RegField := ⟨.markerHp, 0, 50⟩
/-- MarkerSlip.BASE. -/
abbrev markerSlipBase : RegField := ⟨.markerSlip, 0, 50⟩
/-- MarkerSlipPages.PAGES. -/
abbrev markerSlipPagesPages : RegField := ⟨.markerSlipPages, 0, 13⟩
/-- MarkerSlipPages.FREE. -/
abbrev markerSlipPagesFree : RegField := ⟨.markerSlipPages, 16, 13⟩
/-- MarkerRoll.PERIOD. -/
abbrev markerRollPeriod : RegField := ⟨.markerRoll, 0, 16⟩
/-- MarkerRoll.BLOCKS. -/
abbrev markerRollBlocks : RegField := ⟨.markerRoll, 16, 16⟩
/-- MarkerHwBase.ADDR. -/
abbrev markerHwBaseAddr : RegField := ⟨.markerHwBase, 0, 64⟩
/-- MarkerHwSize.BYTES. -/
abbrev markerHwSizeBytes : RegField := ⟨.markerHwSize, 0, 32⟩
/-- MarkerHwCtrl.MODE. -/
abbrev markerHwCtrlMode : RegField := ⟨.markerHwCtrl, 0, 2⟩
/-- MarkerHwCtrl.DEST. -/
abbrev markerHwCtrlDest : RegField := ⟨.markerHwCtrl, 2, 1⟩
/-- MarkerHwCtrl.FULL_EVERY. -/
abbrev markerHwCtrlFullEvery : RegField := ⟨.markerHwCtrl, 16, 16⟩
/-- MarkerHwTail.OFFSET. -/
abbrev markerHwTailOffset : RegField := ⟨.markerHwTail, 0, 32⟩
/-- MarkerHwHead.OFFSET. -/
abbrev markerHwHeadOffset : RegField := ⟨.markerHwHead, 0, 32⟩
/-- MarkerHwHeadAddr.ADDR. -/
abbrev markerHwHeadAddrAddr : RegField := ⟨.markerHwHeadAddr, 0, 50⟩
/-- MarkerCalCmd.OP. -/
abbrev markerCalCmdOp : RegField := ⟨.markerCalCmd, 0, 2⟩
/-- MarkerCalCmd.SIDE. -/
abbrev markerCalCmdSide : RegField := ⟨.markerCalCmd, 2, 1⟩
/-- MarkerCalCmd.P4. -/
abbrev markerCalCmdP4 : RegField := ⟨.markerCalCmd, 3, 1⟩
/-- MarkerCalCmd.ITERS. -/
abbrev markerCalCmdIters : RegField := ⟨.markerCalCmd, 4, 7⟩
/-- MarkerCalCmd.INDEX. -/
abbrev markerCalCmdIndex : RegField := ⟨.markerCalCmd, 16, 17⟩
/-- MarkerCalSrc.ADDR. -/
abbrev markerCalSrcAddr : RegField := ⟨.markerCalSrc, 0, 50⟩
/-- MarkerCalDamp.VALUE. -/
abbrev markerCalDampValue : RegField := ⟨.markerCalDamp, 0, 32⟩
/-- MarkerCalTol.VALUE. -/
abbrev markerCalTolValue : RegField := ⟨.markerCalTol, 0, 32⟩
/-- MarkerCalStatus.BUSY. -/
abbrev markerCalStatusBusy : RegField := ⟨.markerCalStatus, 0, 1⟩
/-- MarkerCalStatus.RESULT. -/
abbrev markerCalStatusResult : RegField := ⟨.markerCalStatus, 1, 2⟩
/-- MarkerCalStatus.ITERS_USED. -/
abbrev markerCalStatusItersUsed : RegField := ⟨.markerCalStatus, 3, 7⟩
/-- MarkerCommits.COUNT. -/
abbrev markerCommitsCount : RegField := ⟨.markerCommits, 0, 64⟩
/-- MarkerSatCount.COUNT. -/
abbrev markerSatCountCount : RegField := ⟨.markerSatCount, 0, 64⟩
/-- MarkerWithheldUs.COUNT. -/
abbrev markerWithheldUsCount : RegField := ⟨.markerWithheldUs, 0, 64⟩
/-- MarkerRollChecked.COUNT. -/
abbrev markerRollCheckedCount : RegField := ⟨.markerRollChecked, 0, 64⟩
/-- MarkerClipReruns.COUNT. -/
abbrev markerClipRerunsCount : RegField := ⟨.markerClipReruns, 0, 32⟩
/-- MarkerNonfinite.COUNT. -/
abbrev markerNonfiniteCount : RegField := ⟨.markerNonfinite, 0, 32⟩
/-- MarkerOtherDiscards.COUNT. -/
abbrev markerOtherDiscardsCount : RegField := ⟨.markerOtherDiscards, 0, 32⟩
/-- MarkerBadChunks.COUNT. -/
abbrev markerBadChunksCount : RegField := ⟨.markerBadChunks, 0, 32⟩
/-- MarkerDupSegments.COUNT. -/
abbrev markerDupSegmentsCount : RegField := ⟨.markerDupSegments, 0, 32⟩
/-- MarkerRollMismatch.COUNT. -/
abbrev markerRollMismatchCount : RegField := ⟨.markerRollMismatch, 0, 32⟩
/-- MarkerDegraded.COUNT. -/
abbrev markerDegradedCount : RegField := ⟨.markerDegraded, 0, 32⟩
/-- PsdTable.BASE. -/
abbrev psdTableBase : RegField := ⟨.psdTable, 0, 50⟩
/-- PsdEntries.COUNT. -/
abbrev psdEntriesCount : RegField := ⟨.psdEntries, 0, 18⟩
/-- PsdValidBlocks.COUNT. -/
abbrev psdValidBlocksCount : RegField := ⟨.psdValidBlocks, 0, 18⟩
/-- PsdFrozenBlocks.COUNT. -/
abbrev psdFrozenBlocksCount : RegField := ⟨.psdFrozenBlocks, 0, 18⟩
/-- PsdSlowBlocks.COUNT. -/
abbrev psdSlowBlocksCount : RegField := ⟨.psdSlowBlocks, 0, 18⟩
/-- PsdDegradedBlocks.COUNT. -/
abbrev psdDegradedBlocksCount : RegField := ⟨.psdDegradedBlocks, 0, 18⟩
/-- PsdRollFaultBlocks.COUNT. -/
abbrev psdRollFaultBlocksCount : RegField := ⟨.psdRollFaultBlocks, 0, 18⟩
/-- HallwayState.LINK. -/
abbrev hallwayStateLink : RegField := ⟨.hallwayState, 0, 2⟩
/-- HallwayState.SPARES_USED. -/
abbrev hallwayStateSparesUsed : RegField := ⟨.hallwayState, 8, 10⟩
/-- HallwayCrcErrors.COUNT. -/
abbrev hallwayCrcErrorsCount : RegField := ⟨.hallwayCrcErrors, 0, 32⟩
/-- HallwayRetries.COUNT. -/
abbrev hallwayRetriesCount : RegField := ⟨.hallwayRetries, 0, 32⟩
/-- HallwayRetrains.COUNT. -/
abbrev hallwayRetrainsCount : RegField := ⟨.hallwayRetrains, 0, 32⟩
/-- HallwayBytesUp.COUNT. -/
abbrev hallwayBytesUpCount : RegField := ⟨.hallwayBytesUp, 0, 64⟩
/-- HallwayBytesDown.COUNT. -/
abbrev hallwayBytesDownCount : RegField := ⟨.hallwayBytesDown, 0, 64⟩
/-- FabricState.LINK. -/
abbrev fabricStateLink : RegField := ⟨.fabricState, 0, 3⟩
/-- FabricState.SPARE_IN_USE. -/
abbrev fabricStateSpareInUse : RegField := ⟨.fabricState, 3, 1⟩
/-- FabricState.FAILED_LANE. -/
abbrev fabricStateFailedLane : RegField := ⟨.fabricState, 4, 4⟩
/-- FabricState.ENCRYPTED. -/
abbrev fabricStateEncrypted : RegField := ⟨.fabricState, 8, 1⟩
/-- FabricState.VC3_WITHHELD. -/
abbrev fabricStateVc3Withheld : RegField := ⟨.fabricState, 9, 1⟩
/-- FabricState.PROTOCOL_ERROR. -/
abbrev fabricStateProtocolError : RegField := ⟨.fabricState, 10, 1⟩
/-- FabricCtrl.ENABLE. -/
abbrev fabricCtrlEnable : RegField := ⟨.fabricCtrl, 0, 1⟩
/-- FabricVcWeight.W1. -/
abbrev fabricVcWeightW1 : RegField := ⟨.fabricVcWeight, 0, 8⟩
/-- FabricVcWeight.W2. -/
abbrev fabricVcWeightW2 : RegField := ⟨.fabricVcWeight, 8, 8⟩
/-- FabricVcWeight.W3. -/
abbrev fabricVcWeightW3 : RegField := ⟨.fabricVcWeight, 16, 8⟩
/-- FabricFecCorrected.COUNT. -/
abbrev fabricFecCorrectedCount : RegField := ⟨.fabricFecCorrected, 0, 64⟩
/-- FabricFecUncorrected.COUNT. -/
abbrev fabricFecUncorrectedCount : RegField := ⟨.fabricFecUncorrected, 0, 32⟩
/-- FabricCrcErrors.COUNT. -/
abbrev fabricCrcErrorsCount : RegField := ⟨.fabricCrcErrors, 0, 32⟩
/-- FabricRetries.COUNT. -/
abbrev fabricRetriesCount : RegField := ⟨.fabricRetries, 0, 32⟩
/-- FabricRetrains.COUNT. -/
abbrev fabricRetrainsCount : RegField := ⟨.fabricRetrains, 0, 32⟩
/-- FabricTagFailures.COUNT. -/
abbrev fabricTagFailuresCount : RegField := ⟨.fabricTagFailures, 0, 32⟩
/-- FabricMisrouted.COUNT. -/
abbrev fabricMisroutedCount : RegField := ⟨.fabricMisrouted, 0, 32⟩
/-- FabricDenied.COUNT. -/
abbrev fabricDeniedCount : RegField := ⟨.fabricDenied, 0, 32⟩
/-- FabricStaleEpoch.COUNT. -/
abbrev fabricStaleEpochCount : RegField := ⟨.fabricStaleEpoch, 0, 32⟩
/-- FabricTxSlots.COUNT. -/
abbrev fabricTxSlotsCount : RegField := ⟨.fabricTxSlots, 0, 64⟩
/-- FabricRxSlots.COUNT. -/
abbrev fabricRxSlotsCount : RegField := ⟨.fabricRxSlots, 0, 64⟩
/-- FabricCreditStall.COUNT. -/
abbrev fabricCreditStallCount : RegField := ⟨.fabricCreditStall, 0, 64⟩
/-- FabricPartner.SEAT. -/
abbrev fabricPartnerSeat : RegField := ⟨.fabricPartner, 0, 12⟩
/-- FabricPartner.SEAT_VALID. -/
abbrev fabricPartnerSeatValid : RegField := ⟨.fabricPartner, 12, 1⟩
/-- FabricPartner.EPOCH. -/
abbrev fabricPartnerEpoch : RegField := ⟨.fabricPartner, 16, 12⟩
/-- FabricPartner.PORT. -/
abbrev fabricPartnerPort : RegField := ⟨.fabricPartner, 28, 4⟩
/-- FabricPartner.CAPS. -/
abbrev fabricPartnerCaps : RegField := ⟨.fabricPartner, 32, 32⟩
/-- FabricPartnerSerial.SERIAL. -/
abbrev fabricPartnerSerialSerial : RegField := ⟨.fabricPartnerSerial, 0, 64⟩
/-- FabricRollState.STATE. -/
abbrev fabricRollStateState : RegField := ⟨.fabricRollState, 0, 2⟩
/-- FabricRollState.MISSED. -/
abbrev fabricRollStateMissed : RegField := ⟨.fabricRollState, 2, 2⟩
/-- FabricRollEvents.ARRIVED. -/
abbrev fabricRollEventsArrived : RegField := ⟨.fabricRollEvents, 0, 1⟩
/-- FabricRollEvents.LEFT. -/
abbrev fabricRollEventsLeft : RegField := ⟨.fabricRollEvents, 1, 1⟩
/-- FabricRollEvents.CHANGED. -/
abbrev fabricRollEventsChanged : RegField := ⟨.fabricRollEvents, 2, 1⟩
/-- FabricRollSent.COUNT. -/
abbrev fabricRollSentCount : RegField := ⟨.fabricRollSent, 0, 64⟩
/-- FabricRollReceived.COUNT. -/
abbrev fabricRollReceivedCount : RegField := ⟨.fabricRollReceived, 0, 64⟩
/-- FabricTracker.IN_USE. -/
abbrev fabricTrackerInUse : RegField := ⟨.fabricTracker, 0, 17⟩
/-- FabricTrackerPeak.PEAK. -/
abbrev fabricTrackerPeakPeak : RegField := ⟨.fabricTrackerPeak, 0, 17⟩
/-- FabricTimeout.US. -/
abbrev fabricTimeoutUs : RegField := ⟨.fabricTimeout, 0, 32⟩
/-- FabricTimeouts.COUNT. -/
abbrev fabricTimeoutsCount : RegField := ⟨.fabricTimeouts, 0, 32⟩
/-- FabricLateResponses.COUNT. -/
abbrev fabricLateResponsesCount : RegField := ⟨.fabricLateResponses, 0, 32⟩
/-- FabricNotifyFull.COUNT. -/
abbrev fabricNotifyFullCount : RegField := ⟨.fabricNotifyFull, 0, 32⟩
/-- FabricIssued.COUNT. -/
abbrev fabricIssuedCount : RegField := ⟨.fabricIssued, 0, 64⟩
/-- FabricServed.COUNT. -/
abbrev fabricServedCount : RegField := ⟨.fabricServed, 0, 64⟩
/-- FabricErr.COUNT. -/
abbrev fabricErrCount : RegField := ⟨.fabricErr, 0, 32⟩
/-- FabricNotifyBase.ADDR. -/
abbrev fabricNotifyBaseAddr : RegField := ⟨.fabricNotifyBase, 0, 50⟩
/-- FabricNotifyEntries.COUNT. -/
abbrev fabricNotifyEntriesCount : RegField := ⟨.fabricNotifyEntries, 0, 32⟩
/-- FabricNotifyTail.COUNT. -/
abbrev fabricNotifyTailCount : RegField := ⟨.fabricNotifyTail, 0, 32⟩
/-- FabricNotifyHeadAddr.ADDR. -/
abbrev fabricNotifyHeadAddrAddr : RegField := ⟨.fabricNotifyHeadAddr, 0, 50⟩
/-- FabricSeat.SEAT. -/
abbrev fabricSeatSeat : RegField := ⟨.fabricSeat, 0, 12⟩
/-- FabricSeat.SEAT_VALID. -/
abbrev fabricSeatSeatValid : RegField := ⟨.fabricSeat, 12, 1⟩
/-- FabricSeat.EPOCH. -/
abbrev fabricSeatEpoch : RegField := ⟨.fabricSeat, 16, 12⟩
/-- FabricNear.ENTRY. -/
abbrev fabricNearEntry : RegField := ⟨.fabricNear, 0, 64⟩
/-- FabricFar.ENTRY. -/
abbrev fabricFarEntry : RegField := ⟨.fabricFar, 0, 64⟩
/-- ClusterCoreMap.PHYS_0. -/
abbrev clusterCoreMapPhys0 : RegField := ⟨.clusterCoreMap, 0, 4⟩
/-- ClusterCoreMap.PHYS_1. -/
abbrev clusterCoreMapPhys1 : RegField := ⟨.clusterCoreMap, 4, 4⟩
/-- ClusterCoreMap.PHYS_2. -/
abbrev clusterCoreMapPhys2 : RegField := ⟨.clusterCoreMap, 8, 4⟩
/-- ClusterCoreMap.PHYS_3. -/
abbrev clusterCoreMapPhys3 : RegField := ⟨.clusterCoreMap, 12, 4⟩
/-- ClusterCoreMap.PHYS_4. -/
abbrev clusterCoreMapPhys4 : RegField := ⟨.clusterCoreMap, 16, 4⟩
/-- ClusterCoreMap.PHYS_5. -/
abbrev clusterCoreMapPhys5 : RegField := ⟨.clusterCoreMap, 20, 4⟩
/-- ClusterCoreMap.PHYS_6. -/
abbrev clusterCoreMapPhys6 : RegField := ⟨.clusterCoreMap, 24, 4⟩
/-- ClusterCoreMap.PHYS_7. -/
abbrev clusterCoreMapPhys7 : RegField := ⟨.clusterCoreMap, 28, 4⟩
/-- ClusterCoreMap.SPARE. -/
abbrev clusterCoreMapSpare : RegField := ⟨.clusterCoreMap, 32, 4⟩
/-- ClusterCoreMap.RETIRED. -/
abbrev clusterCoreMapRetired : RegField := ⟨.clusterCoreMap, 36, 9⟩
/-- ClusterState.CLOCK_ON. -/
abbrev clusterStateClockOn : RegField := ⟨.clusterState, 0, 1⟩
/-- ClusterState.RETIRED. -/
abbrev clusterStateRetired : RegField := ⟨.clusterState, 1, 1⟩
/-- ClusterState.BUSY. -/
abbrev clusterStateBusy : RegField := ⟨.clusterState, 2, 1⟩
/-- ClusterSpareSwitches.COUNT. -/
abbrev clusterSpareSwitchesCount : RegField := ⟨.clusterSpareSwitches, 0, 32⟩
/-- ClusterIstoreCorrected.COUNT. -/
abbrev clusterIstoreCorrectedCount : RegField := ⟨.clusterIstoreCorrected, 0, 32⟩
/-- ClusterIstoreUncorrected.COUNT. -/
abbrev clusterIstoreUncorrectedCount : RegField := ⟨.clusterIstoreUncorrected, 0, 32⟩
/-- HbmState.MODE. -/
abbrev hbmStateMode : RegField := ⟨.hbmState, 0, 2⟩
/-- HbmState.HOT_REFRESH. -/
abbrev hbmStateHotRefresh : RegField := ⟨.hbmState, 2, 1⟩
/-- HbmDevice.HEIGHT. -/
abbrev hbmDeviceHeight : RegField := ⟨.hbmDevice, 0, 8⟩
/-- HbmDevice.DIE_GBIT. -/
abbrev hbmDeviceDieGbit : RegField := ⟨.hbmDevice, 8, 8⟩
/-- HbmDevice.MAKER. -/
abbrev hbmDeviceMaker : RegField := ⟨.hbmDevice, 16, 16⟩
/-- HbmCorrected.COUNT. -/
abbrev hbmCorrectedCount : RegField := ⟨.hbmCorrected, 0, 32⟩
/-- HbmUncorrected.COUNT. -/
abbrev hbmUncorrectedCount : RegField := ⟨.hbmUncorrected, 0, 32⟩
/-- HbmLaneRepairs.COUNT. -/
abbrev hbmLaneRepairsCount : RegField := ⟨.hbmLaneRepairs, 0, 32⟩
/-- HbmRowRepairs.COUNT. -/
abbrev hbmRowRepairsCount : RegField := ⟨.hbmRowRepairs, 0, 32⟩
/-- HbmRfmCommands.COUNT. -/
abbrev hbmRfmCommandsCount : RegField := ⟨.hbmRfmCommands, 0, 64⟩
/-- HbmChannel.STATE. -/
abbrev hbmChannelState : RegField := ⟨.hbmChannel, 0, 2⟩
/-- HbmChannel.SPARES_USED. -/
abbrev hbmChannelSparesUsed : RegField := ⟨.hbmChannel, 4, 3⟩
/-- HbmReadSectors.COUNT. -/
abbrev hbmReadSectorsCount : RegField := ⟨.hbmReadSectors, 0, 64⟩
/-- HbmWriteSectors.COUNT. -/
abbrev hbmWriteSectorsCount : RegField := ⟨.hbmWriteSectors, 0, 64⟩
/-- SliceConfig.CACHE_WAYS. -/
abbrev sliceConfigCacheWays : RegField := ⟨.sliceConfig, 0, 5⟩
/-- SliceConfig.PIN_CAP. -/
abbrev sliceConfigPinCap : RegField := ⟨.sliceConfig, 8, 4⟩
/-- SliceConfig.CHANNEL_FAILED. -/
abbrev sliceConfigChannelFailed : RegField := ⟨.sliceConfig, 12, 1⟩
/-- SlicePinCmd.OP. -/
abbrev slicePinCmdOp : RegField := ⟨.slicePinCmd, 0, 2⟩
/-- SlicePinCmd.LINE. -/
abbrev slicePinCmdLine : RegField := ⟨.slicePinCmd, 7, 33⟩
/-- SlicePinStatus.LAST_RESULT. -/
abbrev slicePinStatusLastResult : RegField := ⟨.slicePinStatus, 0, 3⟩
/-- SlicePinStatus.QUEUED. -/
abbrev slicePinStatusQueued : RegField := ⟨.slicePinStatus, 4, 4⟩
/-- SlicePinStatus.OVERRUN. -/
abbrev slicePinStatusOverrun : RegField := ⟨.slicePinStatus, 8, 1⟩
/-- SlicePinRefused.COUNT. -/
abbrev slicePinRefusedCount : RegField := ⟨.slicePinRefused, 0, 32⟩
/-- SlicePinned.COUNT. -/
abbrev slicePinnedCount : RegField := ⟨.slicePinned, 0, 17⟩
/-- SliceHold.IN_USE. -/
abbrev sliceHoldInUse : RegField := ⟨.sliceHold, 0, 6⟩
/-- SliceHold.PEAK. -/
abbrev sliceHoldPeak : RegField := ⟨.sliceHold, 8, 6⟩
/-- SliceEccCorrected.COUNT. -/
abbrev sliceEccCorrectedCount : RegField := ⟨.sliceEccCorrected, 0, 32⟩
/-- SliceEccUncorrected.COUNT. -/
abbrev sliceEccUncorrectedCount : RegField := ⟨.sliceEccUncorrected, 0, 32⟩
/-- SliceReductions.COUNT. -/
abbrev sliceReductionsCount : RegField := ⟨.sliceReductions, 0, 64⟩
/-- SliceHoldMerges.COUNT. -/
abbrev sliceHoldMergesCount : RegField := ⟨.sliceHoldMerges, 0, 64⟩
/-- SliceWritebacks.COUNT. -/
abbrev sliceWritebacksCount : RegField := ⟨.sliceWritebacks, 0, 64⟩
/-- SliceHit.COUNT. -/
abbrev sliceHitCount : RegField := ⟨.sliceHit, 0, 64⟩
/-- SliceMiss.COUNT. -/
abbrev sliceMissCount : RegField := ⟨.sliceMiss, 0, 64⟩
/-- SliceScratchSectors.COUNT. -/
abbrev sliceScratchSectorsCount : RegField := ⟨.sliceScratchSectors, 0, 64⟩
/-- CoreStatus.PHYS. -/
abbrev coreStatusPhys : RegField := ⟨.coreStatus, 0, 4⟩
/-- CoreStatus.ENABLED. -/
abbrev coreStatusEnabled : RegField := ⟨.coreStatus, 4, 1⟩
/-- CoreStatus.SPARE. -/
abbrev coreStatusSpare : RegField := ⟨.coreStatus, 5, 1⟩
/-- CoreStatus.RETIRED. -/
abbrev coreStatusRetired : RegField := ⟨.coreStatus, 6, 1⟩
/-- CoreStatus.BUSY. -/
abbrev coreStatusBusy : RegField := ⟨.coreStatus, 7, 1⟩
/-- CoreClock.FUSED_MHZ. -/
abbrev coreClockFusedMhz : RegField := ⟨.coreClock, 0, 12⟩
/-- CoreClock.FMAX_MHZ. -/
abbrev coreClockFmaxMhz : RegField := ⟨.coreClock, 16, 12⟩
/-- CoreClock.FCLK_MHZ. -/
abbrev coreClockFclkMhz : RegField := ⟨.coreClock, 32, 12⟩
/-- CoreThreadState.STATE_0. -/
abbrev coreThreadStateState0 : RegField := ⟨.coreThreadState, 0, 4⟩
/-- CoreThreadState.STATE_1. -/
abbrev coreThreadStateState1 : RegField := ⟨.coreThreadState, 4, 4⟩
/-- CoreThreadState.STATE_2. -/
abbrev coreThreadStateState2 : RegField := ⟨.coreThreadState, 8, 4⟩
/-- CoreThreadState.STATE_3. -/
abbrev coreThreadStateState3 : RegField := ⟨.coreThreadState, 12, 4⟩
/-- CoreThreadState.STATE_4. -/
abbrev coreThreadStateState4 : RegField := ⟨.coreThreadState, 16, 4⟩
/-- CoreThreadState.STATE_5. -/
abbrev coreThreadStateState5 : RegField := ⟨.coreThreadState, 20, 4⟩
/-- CoreThreadState.STATE_6. -/
abbrev coreThreadStateState6 : RegField := ⟨.coreThreadState, 24, 4⟩
/-- CoreThreadState.STATE_7. -/
abbrev coreThreadStateState7 : RegField := ⟨.coreThreadState, 28, 4⟩
/-- CoreThreadState.STATE_8. -/
abbrev coreThreadStateState8 : RegField := ⟨.coreThreadState, 32, 4⟩
/-- CoreThreadState.STATE_9. -/
abbrev coreThreadStateState9 : RegField := ⟨.coreThreadState, 36, 4⟩
/-- CoreThreadState.STATE_10. -/
abbrev coreThreadStateState10 : RegField := ⟨.coreThreadState, 40, 4⟩
/-- CoreThreadState.STATE_11. -/
abbrev coreThreadStateState11 : RegField := ⟨.coreThreadState, 44, 4⟩
/-- CoreThreadState.STATE_12. -/
abbrev coreThreadStateState12 : RegField := ⟨.coreThreadState, 48, 4⟩
/-- CoreThreadState.STATE_13. -/
abbrev coreThreadStateState13 : RegField := ⟨.coreThreadState, 52, 4⟩
/-- CoreThreadState.STATE_14. -/
abbrev coreThreadStateState14 : RegField := ⟨.coreThreadState, 56, 4⟩
/-- CoreThreadState.STATE_15. -/
abbrev coreThreadStateState15 : RegField := ⟨.coreThreadState, 60, 4⟩
/-- CoreFaultInfo.CODE. -/
abbrev coreFaultInfoCode : RegField := ⟨.coreFaultInfo, 0, 8⟩
/-- CoreFaultInfo.THREAD. -/
abbrev coreFaultInfoThread : RegField := ⟨.coreFaultInfo, 8, 4⟩
/-- CoreFaultInfo.SLOT_B. -/
abbrev coreFaultInfoSlotB : RegField := ⟨.coreFaultInfo, 12, 1⟩
/-- CoreFaultInfo.ENGINE. -/
abbrev coreFaultInfoEngine : RegField := ⟨.coreFaultInfo, 13, 1⟩
/-- CoreFaultInfo.MORE. -/
abbrev coreFaultInfoMore : RegField := ⟨.coreFaultInfo, 14, 1⟩
/-- CoreFaultInfo.VALID. -/
abbrev coreFaultInfoValid : RegField := ⟨.coreFaultInfo, 15, 1⟩
/-- CoreFaultInfo.PC. -/
abbrev coreFaultInfoPc : RegField := ⟨.coreFaultInfo, 16, 20⟩
/-- CoreFaultAddr.DETAIL. -/
abbrev coreFaultAddrDetail : RegField := ⟨.coreFaultAddr, 0, 64⟩
/-- CoreFaultCount.COUNT. -/
abbrev coreFaultCountCount : RegField := ⟨.coreFaultCount, 0, 32⟩
/-- CoreIssueBundles.COUNT. -/
abbrev coreIssueBundlesCount : RegField := ⟨.coreIssueBundles, 0, 64⟩
/-- CoreIssueIdle.COUNT. -/
abbrev coreIssueIdleCount : RegField := ⟨.coreIssueIdle, 0, 64⟩
/-- CoreWaitMem.COUNT. -/
abbrev coreWaitMemCount : RegField := ⟨.coreWaitMem, 0, 64⟩
/-- CoreWaitQueue.COUNT. -/
abbrev coreWaitQueueCount : RegField := ⟨.coreWaitQueue, 0, 64⟩
/-- CoreEccCorrected.COUNT. -/
abbrev coreEccCorrectedCount : RegField := ⟨.coreEccCorrected, 0, 32⟩
/-- CoreEccUncorrected.COUNT. -/
abbrev coreEccUncorrectedCount : RegField := ⟨.coreEccUncorrected, 0, 32⟩
/-- CoreSlotOwner.OWNER_0. -/
abbrev coreSlotOwnerOwner0 : RegField := ⟨.coreSlotOwner, 0, 8⟩
/-- CoreSlotOwner.OWNER_1. -/
abbrev coreSlotOwnerOwner1 : RegField := ⟨.coreSlotOwner, 8, 8⟩
/-- CoreSlotOwner.OWNER_2. -/
abbrev coreSlotOwnerOwner2 : RegField := ⟨.coreSlotOwner, 16, 8⟩
/-- CoreSlotOwner.OWNER_3. -/
abbrev coreSlotOwnerOwner3 : RegField := ⟨.coreSlotOwner, 24, 8⟩
/-- CoreSlotOwner.OWNER_4. -/
abbrev coreSlotOwnerOwner4 : RegField := ⟨.coreSlotOwner, 32, 8⟩
/-- CoreSlotOwner.OWNER_5. -/
abbrev coreSlotOwnerOwner5 : RegField := ⟨.coreSlotOwner, 40, 8⟩
/-- CoreSlotOwner.OWNER_6. -/
abbrev coreSlotOwnerOwner6 : RegField := ⟨.coreSlotOwner, 48, 8⟩
/-- CoreSlotOwner.OWNER_7. -/
abbrev coreSlotOwnerOwner7 : RegField := ⟨.coreSlotOwner, 56, 8⟩
/-- CoreSlateMap.THREAD_0. -/
abbrev coreSlateMapThread0 : RegField := ⟨.coreSlateMap, 0, 4⟩
/-- CoreSlateMap.THREAD_1. -/
abbrev coreSlateMapThread1 : RegField := ⟨.coreSlateMap, 8, 4⟩
/-- CoreSlateMap.THREAD_2. -/
abbrev coreSlateMapThread2 : RegField := ⟨.coreSlateMap, 16, 4⟩
/-- CoreSlateMap.THREAD_3. -/
abbrev coreSlateMapThread3 : RegField := ⟨.coreSlateMap, 24, 4⟩
/-- CoreSlateMap.THREAD_4. -/
abbrev coreSlateMapThread4 : RegField := ⟨.coreSlateMap, 32, 4⟩
/-- CoreSlateMap.THREAD_5. -/
abbrev coreSlateMapThread5 : RegField := ⟨.coreSlateMap, 40, 4⟩
/-- CoreSlateMap.THREAD_6. -/
abbrev coreSlateMapThread6 : RegField := ⟨.coreSlateMap, 48, 4⟩
/-- CoreSlateMap.THREAD_7. -/
abbrev coreSlateMapThread7 : RegField := ⟨.coreSlateMap, 56, 4⟩
/-- CoreSlateMap.VALID_0. -/
abbrev coreSlateMapValid0 : RegField := ⟨.coreSlateMap, 7, 1⟩
/-- CoreSlateMap.VALID_1. -/
abbrev coreSlateMapValid1 : RegField := ⟨.coreSlateMap, 15, 1⟩
/-- CoreSlateMap.VALID_2. -/
abbrev coreSlateMapValid2 : RegField := ⟨.coreSlateMap, 23, 1⟩
/-- CoreSlateMap.VALID_3. -/
abbrev coreSlateMapValid3 : RegField := ⟨.coreSlateMap, 31, 1⟩
/-- CoreSlateMap.VALID_4. -/
abbrev coreSlateMapValid4 : RegField := ⟨.coreSlateMap, 39, 1⟩
/-- CoreSlateMap.VALID_5. -/
abbrev coreSlateMapValid5 : RegField := ⟨.coreSlateMap, 47, 1⟩
/-- CoreSlateMap.VALID_6. -/
abbrev coreSlateMapValid6 : RegField := ⟨.coreSlateMap, 55, 1⟩
/-- CoreSlateMap.VALID_7. -/
abbrev coreSlateMapValid7 : RegField := ⟨.coreSlateMap, 63, 1⟩
/-- CoreAccGroups.COUNT. -/
abbrev coreAccGroupsCount : RegField := ⟨.coreAccGroups, 0, 64⟩
/-- CoreAccPasses.COUNT. -/
abbrev coreAccPassesCount : RegField := ⟨.coreAccPasses, 0, 64⟩
/-- CoreAccRange.COUNT. -/
abbrev coreAccRangeCount : RegField := ⟨.coreAccRange, 0, 32⟩
/-- CoreAccFlags.RANGE. -/
abbrev coreAccFlagsRange : RegField := ⟨.coreAccFlags, 0, 1⟩
/-- CoreAccFlags.INF_DEPOSIT. -/
abbrev coreAccFlagsInfDeposit : RegField := ⟨.coreAccFlags, 1, 1⟩
/-- CoreAccFlags.NAN_DEPOSIT. -/
abbrev coreAccFlagsNanDeposit : RegField := ⟨.coreAccFlags, 2, 1⟩

end F

end Sys2Proof.Machine
end

