-- ==== Sys2Proof/Machine/State.lean ====
section
/-!
DEFINITION. The state of the module, the ways a command can stop, and the state right after reset.
-/
namespace Sys2Proof.Machine

/-- Why a command stops with a fault. No command of this block does: a fault of a thread is recorded in State (R113 to R115), and an error is recorded by the Proctor (R441). -/
inductive Fault where
  /-- Raised by nobody; kept so that the type has a name to give. Safe. -/
  | none
deriving DecidableEq, Repr

/-- Why a command is refused. -/
inductive Refusal where
  /-- Raised by the dispatch for a command whose meaning is not written. Safe. -/
  | notModelled (mnemonic : String)
deriving DecidableEq, Repr

/-- The state of the module.
`pending` is the queue of commands that wait, first in, first out. `regs` is the register file by register-space address. `halves` holds the lower half that each requester wrote (R26). `mem` is module memory: the keys below 2^50 are module addresses (R19), and the spaces above hold core stores and lesson instruction stores by physical place. `hostMem` is host memory by bus address. `poison` lists the poisoned sectors by address / 32, `hidden` the sectors whose copy in HBM4 differs in its poison mark from the copy that the slice holds, `arrayErr` and `hbmErr` how many symbols have gone wrong in a sector's copy in its slice and in HBM4 since that copy was last checked (R209, R223), `rowPoison` the poisoned core store rows, and `slate` the accumulators, by physical core. `hallwayFails` counts the retrains of each Hallway link that have failed in a row (R220). -/
structure State where
  pending : List Instr
  regs : Tab Nat
  halves : Tab (Nat × Nat)
  mem : List Host.Cell
  hostMem : List Host.Cell
  poison : NatSet
  hidden : NatSet
  arrayErr : Tab Nat
  hbmErr : Tab Nat
  rowPoison : NatSet
  slate : Tab Acc
  cores : Tab Core
  clusters : Tab Cluster
  lessons : List Lesson
  lessonNext : Nat
  partMsgs : List PartMsg
  bells : Tab Bell
  slices : Tab Slice
  hallwayFails : Tab Nat
  markers : Tab Marker
  ports : Tab FPort
  trackers : List TrackEntry
  heldReqs : List HeldReq
  assemblies : Tab Assembly
  corridor : Corridor
  queues : Tab Queue
  hports : Tab HPort
  holdRing : List HoldRec
  holdWait : List HoldRec
  images : List Image
  activation : Option Activation
  tutors : Tab Tutor
  powerCmd : Option PowerCmd
  loops : Tab Loops
  capTicks : Nat
  capSum : Nat
  coolTicks : Nat
  warmTicks : Nat
  issueOrder : Nat
  resets : List ResetReq
  proctor : Proctor
  freeNext : Nat
  outbox : List Out
deriving DecidableEq, Repr

/-- The module right after reset: every register at its reset value, no memory listed, every unit idle. -/
def State.reset : State :=
  { pending := [], regs := [], halves := [], mem := [], hostMem := [], poison := [], hidden := [], arrayErr := [], hbmErr := [], rowPoison := []
    slate := [], cores := [], clusters := [], lessons := [], lessonNext := 0, partMsgs := [], bells := [], slices := [], hallwayFails := []
    markers := [], ports := [], trackers := [], heldReqs := [], assemblies := [], corridor := Corridor.init, queues := []
    hports := [], holdRing := [], holdWait := [], images := [], activation := none, tutors := [], powerCmd := none
    loops := [], capTicks := 0, capSum := 0, coolTicks := 0, warmTicks := 0, issueOrder := 0, resets := [], proctor := Proctor.init
    freeNext := 0, outbox := [] }

end Sys2Proof.Machine
end

