-- ==== Sys2Proof/Machine/Ops.lean ====
section
/-!
DEFINITION. The named operations over the state that every unit uses: registers and their fields, the records of the units, bytes of memory, addresses and partitions, the error log, events and the Diary's queue.
-/
namespace Sys2Proof.Machine

/-! ## Registers -/

/-- The value of a register: instance `i`, and place `j` in its run. -/
def State.reg (s : State) (n : RegName) (i : Nat := 0) (j : Nat := 0) : Nat :=
  Tab.get n.desc.reset s.regs (n.addr i j)

/-- Sets a register; bits beyond its width are dropped. -/
def State.setReg (s : State) (n : RegName) (i j v : Nat) : State :=
  { s with regs := Tab.set n.desc.reset s.regs (n.addr i j) (v % 2 ^ n.desc.width) }

/-- The value of a field. -/
def State.fld (s : State) (f : RegField) (i : Nat := 0) (j : Nat := 0) : Nat :=
  bits (s.reg f.reg i j) f.lo f.width

/-- A word with bits [lo+w-1:lo] replaced. -/
def putBits (x lo w v : Nat) : Nat :=
  x % 2 ^ lo + (v % 2 ^ w) * 2 ^ lo + x / 2 ^ (lo + w) * 2 ^ (lo + w)

/-- Sets a field. -/
def State.setFld (s : State) (f : RegField) (i j v : Nat) : State :=
  s.setReg f.reg i j (putBits (s.reg f.reg i j) f.lo f.width v)

/-- Adds to a counter that wraps. -/
def State.bump (s : State) (f : RegField) (i j n : Nat) : State := s.setFld f i j (s.fld f i j + n)

/-- Adds to a counter that stops at all ones. -/
def State.bumpSat (s : State) (f : RegField) (i j n : Nat) : State :=
  s.setFld f i j (min (s.fld f i j + n) (2 ^ f.width - 1))

/-- A Boolean as a field value. -/
def bit (b : Bool) : Nat := if b then 1 else 0

/-! ## The records of the units -/

/-- An enabled core of the module. -/
def State.core (s : State) (c : CoreId) : Core := Tab.get Core.init s.cores c.val
/-- Replaces a core. -/
def State.setCore (s : State) (c : CoreId) (v : Core) : State := { s with cores := Tab.set Core.init s.cores c.val v }
/-- A thread of a core. -/
def Core.thread (c : Core) (n : Nat) : Thread := Tab.get Thread.init c.threads n
/-- Replaces a thread. -/
def Core.setThread (c : Core) (n : Nat) (t : Thread) : Core := { c with threads := Tab.set Thread.init c.threads n t }
/-- A cluster of the module. -/
def State.cluster (s : State) (c : Nat) : Cluster := Tab.get Cluster.init s.clusters c
/-- Replaces a cluster. -/
def State.setCluster (s : State) (c : Nat) (v : Cluster) : State := { s with clusters := Tab.set Cluster.init s.clusters c v }
/-- A slice of the module. -/
def State.slice (s : State) (n : Nat) : Slice := Tab.get Slice.init s.slices n
/-- Replaces a slice. -/
def State.setSlice (s : State) (n : Nat) (v : Slice) : State := { s with slices := Tab.set Slice.init s.slices n v }
/-- A Bell group. -/
def State.bell (s : State) (g : Nat) : Bell := Tab.get Bell.init s.bells g
/-- Replaces a Bell group. -/
def State.setBell (s : State) (g : Nat) (v : Bell) : State := { s with bells := Tab.set Bell.init s.bells g v }
/-- The Marker of a stack. -/
def State.marker (s : State) (st : StackId) : Marker := Tab.get Marker.init s.markers st.val
/-- Replaces a Marker. -/
def State.setMarker (s : State) (st : StackId) (v : Marker) : State := { s with markers := Tab.set Marker.init s.markers st.val v }
/-- A fabric port. -/
def State.port (s : State) (p : Nat) : FPort := Tab.get FPort.init s.ports p
/-- Replaces a fabric port. -/
def State.setPort (s : State) (p : Nat) (v : FPort) : State := { s with ports := Tab.set FPort.init s.ports p v }
/-- The Assembly engine of a stack. -/
def State.assembly (s : State) (st : Nat) : Assembly := Tab.get Assembly.init s.assemblies st
/-- Replaces an Assembly engine. -/
def State.setAssembly (s : State) (st : Nat) (v : Assembly) : State := { s with assemblies := Tab.set Assembly.init s.assemblies st v }
/-- A command queue. -/
def State.queue (s : State) (q : Nat) : Queue := Tab.get Queue.init s.queues q
/-- Replaces a command queue. -/
def State.setQueue (s : State) (q : Nat) (v : Queue) : State := { s with queues := Tab.set Queue.init s.queues q v }
/-- A host port. -/
def State.hport (s : State) (h : Nat) : HPort := Tab.get HPort.init s.hports h
/-- Replaces a host port. -/
def State.setHPort (s : State) (h : Nat) (v : HPort) : State := { s with hports := Tab.set HPort.init s.hports h v }
/-- What a Tutor holds of its Syllabus. -/
def State.tutor (s : State) (st : Nat) : Tutor := Tab.get Tutor.init s.tutors st
/-- Replaces it. -/
def State.setTutor (s : State) (st : Nat) (v : Tutor) : State := { s with tutors := Tab.set Tutor.init s.tutors st v }
/-- The control loops of a stack. -/
def State.loop (s : State) (st : Nat) : Loops := Tab.get Loops.init s.loops st
/-- Replaces them. -/
def State.setLoop (s : State) (st : Nat) (v : Loops) : State := { s with loops := Tab.set Loops.init s.loops st v }
/-- Adds to what leaves the module. -/
def State.emit (s : State) (o : Out) : State := { s with outbox := s.outbox ++ [o] }
/-- Takes `f` over each item in order. -/
def State.each {α : Type} (s : State) (l : List α) (f : State → α → State) : State := l.foldl f s

/-! ## Places -/

/-- The stack of a cluster, a core and a slice (R18, R23). -/
def stackOfCluster (c : Nat) : Nat := c / 16
/-- The stack of a core. -/
def stackOfCore (c : Nat) : Nat := c / 128
/-- The cluster of a core. -/
def clusterOfCore (c : Nat) : Nat := c / 8
/-- The logical number of a core in its cluster. -/
def logicalCore (c : Nat) : Nat := c % 8
/-- The CORE block instance of logical core `c` of the module: 144 × stack + 9 × cluster + slot (R23). -/
def coreInst (c : Nat) : Nat := 9 * (c / 8) + c % 8

/-- The CORE_MAP field of a logical core (R118). -/
def State.physOf (s : State) (cl logical : Nat) : Nat := bits (s.reg .clusterCoreMap cl) (4 * logical) 4
/-- The physical core behind a logical one, numbered 9 × cluster + position. -/
def State.physCore (s : State) (c : Nat) : Nat := 9 * clusterOfCore c + s.physOf (clusterOfCore c) (logicalCore c)

/-- The partition that holds a stack (R17, R474). -/
def State.partOf (s : State) (st : Nat) : Nat := s.fld F.tutorSylStatePart st
/-- The stacks of a partition. -/
def State.stacksOf (s : State) (p : Nat) : List Nat := [0, 1, 2, 3].filter (fun st => s.partOf st == p)
/-- The two stacks that a Hallway link joins (R11). -/
def hallwayEnds : Nat → Nat × Nat
  | 0 => (0, 1) | 1 => (0, 2) | 2 => (0, 3) | 3 => (1, 2) | 4 => (1, 3) | _ => (2, 3)
/-- The Hallway link between two stacks; none within one stack (R11, R12). -/
def hallwayLink (a b : Nat) : Option Nat :=
  [0, 1, 2, 3, 4, 5].find? (fun l => hallwayEnds l == (a, b) || hallwayEnds l == (b, a))
/-- Whether the Hallway link between two stacks is DOWN (R220). -/
def State.hallwayDown (s : State) (a b : Nat) : Bool :=
  match hallwayLink a b with
  | none => false
  | some l => s.fld F.hallwayStateLink l == 2

/-- Common time, ns (R333). -/
def State.now (s : State) : Nat := s.reg .corridorTime

/-- Whether a stack is in partition, stack or base-die reset, or in a module warm reset (R458). -/
def State.inReset (s : State) (st : Nat) : Bool :=
  bitOf (s.fld F.proctorResetStatusInReset) st || s.fld F.proctorResetStatusWarm == 1
/-- Whether a stack is out of service: its blocks do not answer (R27). WAKING counts as out of service (DESIGN CHOICE, log entry 11: R27 and R394 name Recess, resets and FAULT, and R400 brings the blocks up step by step). -/
def State.outOfService (s : State) (st : Nat) : Bool :=
  s.inReset st || s.fld F.powerPstateState st ≥ 2
/-- Whether a stack answers inbound fabric requests with OFFLINE: it is out of service, in phases B to F of an activation, or past the quiesce point of a Recess (R305, R390, R396). -/
def State.offline (s : State) (st : Nat) : Bool :=
  s.outOfService st || s.fld F.tutorSylStateActivating st == 1
    || (match s.powerCmd with | some c => !c.waking && c.quiesced && bitOf c.stackSet.toNat st | none => false)
/-- Whether the Proctor's firmware runs: the module has power, is not in recovery, and 45 ms of a start-up sequence in progress have passed (R454, R457, R463). -/
def State.firmwareRuns (s : State) : Bool :=
  s.proctor.powered && !s.proctor.recovery && s.resets.all (fun r => r.domain.val != 1 || decide (r.start.toNat + 45000000 ≤ s.now))
/-- Whether the start-up sequence has reached DONE (R454). -/
def State.started (s : State) : Bool := s.fld F.proctorStartupPhase == 7

/-! ## Bytes of memory -/

/-- A byte of module memory; one that nothing has written reads 0 (R454: HBM4 and the arrays are zeroed). -/
def State.byte (s : State) (a : Nat) : Byte := Tab.get 0 s.mem a
/-- Writes a byte. -/
def State.setByte (s : State) (a : Nat) (b : Byte) : State := { s with mem := Tab.set 0 s.mem a b }
/-- `n` bytes from `a`. -/
def State.bytes (s : State) (a n : Nat) : List Byte := (List.range n).map (fun i => s.byte (a + i))
/-- Writes bytes from `a`, one by one. -/
def State.setBytes (s : State) (a : Nat) : List Byte → State
  | [] => s
  | b :: bs => State.setBytes (s.setByte a b) (a + 1) bs
/-- The little-endian number of `n` bytes from `a` (R4). -/
def State.num (s : State) (a n : Nat) : Nat := ofBytes (s.bytes a n)
/-- Writes the `n` bytes of a number (R4). -/
def State.setNum (s : State) (a n v : Nat) : State := s.setBytes a (toBytes n v)
/-- A byte of host memory. -/
def State.hostByte (s : State) (a : Nat) : Byte := Tab.get 0 s.hostMem a
/-- Writes host memory. -/
def State.setHostBytes (s : State) (a : Nat) : List Byte → State
  | [] => s
  | b :: bs => State.setHostBytes { s with hostMem := Tab.set 0 s.hostMem a b } (a + 1) bs

/-- Where the core store of a physical core lies in `mem`: above the module addresses, 2 MiB each (R87). -/
def coreStoreKey (phys off : Nat) : Nat := 2 ^ 50 + phys * 0x200000 + off % 0x200000
/-- Where the lesson instruction store of a cluster lies in `mem`, 1 MiB each. -/
def istoreKey (cl off : Nat) : Nat := 2 ^ 51 + cl * 0x100000 + off % 0x100000
/-- The row number of a core store row among all cores, for `rowPoison`. -/
def rowKey (phys off : Nat) : Nat := phys * 16384 + off / 128

/-! ## Addresses (R18 to R20, R203, R204, R348) -/

/-- The regions of a stack-local address space (R18). -/
inductive Region where
  | hbm | scratch | coreStore | control | reserved
deriving DecidableEq, Repr

/-- The stack bits of a module address. -/
def addrStack (a : Nat) : Nat := bits a 48 2
/-- The stack-local address. -/
def addrLocal (a : Nat) : Nat := bits a 0 48

/-- The region of a module address (R18, R19). -/
def regionOf (a : Nat) : Region :=
  let l := addrLocal a
  if a ≥ 2 ^ 50 then .reserved
  else if l < 0x10000000000 then .hbm
  else if l < 0x10100000000 then .scratch
  else if 0x10100000000 ≤ l ∧ l < 0x10110000000 then .coreStore
  else if 0x10200000000 ≤ l ∧ l < 0x10200400000 then .control
  else .reserved

/-- The slice hash of a stack-local address (R200). -/
def sliceHash (l : Nat) : Nat :=
  bits l 7 8 ^^^ bits l 15 8 ^^^ bits l 23 8 ^^^ bits l 31 8 ^^^ bits l 39 8 ^^^ bits l 47 1
/-- The home slice of a module address, 256 × stack + slice (R200, R201). -/
def homeSlice (a : Nat) : Nat := 256 * addrStack a + sliceHash (addrLocal a)
/-- The set of an address in its slice (R201, R203). -/
def setOf (a : Nat) : Nat := bits a 15 13
/-- Whether a scratch address is backed (R203). -/
def State.scratchBacked (s : State) (a : Nat) : Bool :=
  bits a 28 4 + s.fld F.sliceConfigCacheWays (homeSlice a) < 16
/-- Whether an address lies in a staging area (R348). -/
def State.inStaging (s : State) (a : Nat) : Bool :=
  [0, 1].any (fun h => s.reg .hostIntakeBase h ≤ a && a < s.reg .hostIntakeBase h + 0x10000000)
/-- Whether an address is ordinary memory: HBM4 or backed scratch, outside the staging areas. -/
def State.isMemory (s : State) (a : Nat) : Bool :=
  match regionOf a with
  | .hbm => !s.inStaging a
  | .scratch => s.scratchBacked a
  | _ => false
/-- Whether every sector of a range is ordinary memory of one region of one stack. -/
def State.rangeIsMemory (s : State) (a n : Nat) : Bool :=
  n != 0 && regionOf a == regionOf (a + n - 1) && addrStack a == addrStack (a + n - 1)
    && (List.range ((a % 32 + n + 31) / 32)).all (fun k => s.isMemory (a / 32 * 32 + 32 * k))
/-- Whether a range lies in one HBM4 or bonded scratch region of a partition (R353, R355, R356), staging areas apart. -/
def State.rangeInRegion (s : State) (part a n : Nat) : Bool :=
  n != 0 && (regionOf a == .hbm || regionOf a == .scratch) && regionOf a == regionOf (a + n - 1)
    && addrStack a == addrStack (a + n - 1) && s.partOf (addrStack a) == part
    && (regionOf a == .hbm || (List.range ((a % 32 + n + 31) / 32)).all (fun k => s.scratchBacked (a / 32 * 32 + 32 * k)))

/-- Whether a range overlaps a staging area (R348, R355). -/
def State.overStaging (s : State) (a n : Nat) : Bool :=
  [0, 1].any (fun h => let b := s.reg .hostIntakeBase h; a < b + 0x10000000 && b < a + n)

/-! ## MSI-X and events (R344, R481) -/

/-- Whether a host port may send: its link is UP and, where HOST_IDE asks for it, its IDE stream is active (R367, R471). -/
def State.portOpen (s : State) (h : Nat) : Bool :=
  s.fld F.hostStatusLink h == 2 && (s.fld F.secPolicyHostIde == 0 || s.fld F.hostStatusIde h == 1)
/-- A memory request of a host to BAR0 or BAR2: it reaches the module while the port's link is UP, and is answered with Unsupported Request while HOST_IDE asks for an IDE stream that is not active (R345, R471). -/
def State.onBar (s : State) (h : HostPort) (f : State → State) : State :=
  if s.fld F.hostStatusLink h.val != 2 then s
  else if s.portOpen h.val then f s else s.emit (.unsupportedRequest h)
/-- Signals an MSI-X vector: a masked vector becomes pending (R371), and one raised while the port may not send, its link UP or HELD, goes once it may (R367, R471). -/
def State.signalMsix (s : State) (h : Fin 2) (v : Nat) : State :=
  if bitOf (s.reg .hostMsix h.val v) 96 then
    s.setReg .hostMsixPba h.val 0 (putBits (s.reg .hostMsixPba h.val) v 1 1)
  else if s.portOpen h.val then s.emit (.msix h v)
  else if s.fld F.hostStatusLink h.val ≥ 2 then s.setHPort h.val { s.hport h.val with due := NatSet.insert (s.hport h.val).due v }
  else s
/-- Signals vector 0 on the primary port, or on both while neither is primary (R344). -/
def State.signalEvent (s : State) : State :=
  let p (h : Fin 2) : Bool := s.fld F.hostCtrlPrimary h.val == 1
  if p 0 then s.signalMsix 0 0 else if p 1 then s.signalMsix 1 0 else (s.signalMsix 0 0).signalMsix 1 0

/-- An MCTP message of the management port is pending: an in-band interrupt, and the message (R476). -/
def State.mctp (s : State) (o : Out) : State := (s.emit .inBandInterrupt).emit o

/-- Appends an event to the ring and signals it; a management event also goes to the PLDM event receiver, with `data` after the entry (R481). -/
def State.event (s : State) (mgmt : Bool) (ref kind block inst code : Nat) (data : List Byte) : State :=
  let tail := s.reg .proctorEventTail
  let entry := s.now % 2 ^ 64 + ref % 2 ^ 32 * 2 ^ 64 + kind * 2 ^ 96 + block * 2 ^ 98 + inst * 2 ^ 106 + code * 2 ^ 116
  let s := s.setReg .proctorEvent 0 (tail % 256) entry
  let s := s.setReg .proctorEventTail 0 0 (tail + 1)
  let s := s.signalEvent
  if mgmt && s.fld F.proctorI3cReceiver == 1 then
    let s := s.mctp (.platformEvent s.proctor.receiver (toBytes 16 entry ++ data))
    { s with proctor := { s.proctor with eventsToSend := s.proctor.eventsToSend ++ [⟨tail, 0, s.now⟩] } }
  else s
/-- An event of KIND OTHER (R481). -/
def State.eventOther (s : State) (mgmt : Bool) (b : Block) (inst code : Nat) : State :=
  s.event mgmt 0 2 b.code inst code (List.replicate 32 0)

/-! ## The error log (R441 to R445) -/

/-- The classes of error records (R442). -/
abbrev notice : Nat := 0
/-- DEFERRED. -/
abbrev deferred : Nat := 1
/-- UNCORRECTED. -/
abbrev uncorrected : Nat := 2
/-- FATAL. -/
abbrev fatal : Nat := 3

/-- Which fields of two records must be equal for a merge (R445): BLOCK, INSTANCE, CLASS and CODE. -/
def recordKey (r : Nat) : Nat := bits r 64 32
/-- Whether a recent record takes in a new event: same key, written less than 1 ms earlier (R445). -/
def State.mergesInto (s : State) (key : Nat) (r : RecentRec) : Bool :=
  recordKey (s.reg .proctorErrlog 0 (r.number % 1024)) == key && s.now < r.expiry

/-- Writes an error record, or merges it into a recent one, and raises a management event for a record of class UNCORRECTED or FATAL (R441, R442, R445, R481). -/
def State.logError (s : State) (b : Block) (inst cls code d0 d1 : Nat) : State :=
  let s := s.bumpSat F.proctorErrlogClassCount 0 cls 1
  let key := b.code + inst % 1024 * 2 ^ 8 + cls * 2 ^ 18 + code * 2 ^ 20
  match s.proctor.recent.find? (s.mergesInto key) with
  | some r =>
    let old := s.reg .proctorErrlog 0 (r.number % 1024)
    s.setReg .proctorErrlog 0 (r.number % 1024) (putBits old 96 16 (min (bits old 96 16 + 1) 0xFFFF))
  | none =>
    let tail := s.reg .proctorErrlogTail
    let r := s.now % 2 ^ 64 + key * 2 ^ 64 + d0 % 2 ^ 64 * 2 ^ 128 + d1 % 2 ^ 64 * 2 ^ 192
    let s := if s.reg .proctorErrlog 0 (tail % 1024) = 0 then s else s.bumpSat F.proctorErrlogOverwrittenCount 0 0 1
    let s := s.setReg .proctorErrlog 0 (tail % 1024) r
    let s := s.setReg .proctorErrlogTail 0 0 (tail + 1)
    let s := { s with proctor := { s.proctor with
      recent := (s.proctor.recent ++ [RecentRec.mk tail (s.now + 1000000)]).drop (s.proctor.recent.length - 15) } }
    if cls ≥ 2 then s.event true tail 0 b.code inst code (toBytes 32 r) else s

/-- The code of a requester in an ACCESS record and in a Diary ORIGIN (R444, R483). -/
def requesterCode : Requester → Nat
  | .h0 => 0 | .h1 => 1 | .tutor st => 2 + st.val | .proctor => 6 | .i3c => 7

/-- The block instance whose offsets hold a register address (R23, R444). -/
def blockAt (off : Nat) : Option (Block × Nat) :=
  match Block.all.find? (fun b => b.base ≤ off && off < b.base + b.instances * b.stride) with
  | some b => some (b, (off - b.base) / b.stride)
  | none => none

/-- Records an access error (R8, R10, R24, R475). -/
def State.accessError (s : State) (who : Requester) (off : Nat) : State :=
  let (b, i) := (blockAt off).getD (.proctor, 0)
  s.logError b i uncorrected 0x001 off (requesterCode who)

/-! ## The Diary's queue (R482 to R484) -/

/-- The kinds of Diary entries (R482). -/
inductive DiaryKind where
  | regWrite | syllabusActivated | keySlot | firmware | capBelowFloor | fmaxLowered | partnerArrived | partnerLeft
  | partnerChanged | precondDegraded | stopAccepted | session | ide | gap
deriving DecidableEq, Repr

/-- Their codes, 0x001 to 0x00E in that order (R482). -/
def DiaryKind.code (k : DiaryKind) : BitVec 12 := BitVec.ofNat 12 (k.ctorIdx + 1)

/-- Queues a Diary entry, or drops it when 64 are queued (R484). Entries of one command take their numbers in the order in which their changes took effect (R483). -/
def State.diary (s : State) (origin : Nat) (k : DiaryKind) (subject value : Nat) : State :=
  if s.proctor.diaryQ.length < 64 then
    { s with proctor := { s.proctor with diaryQ := s.proctor.diaryQ ++
      [⟨BitVec.ofNat 64 s.now, BitVec.ofNat 8 origin, k.code, BitVec.ofNat 64 subject, BitVec.ofNat 64 value⟩] } }
  else
    let s := s.bumpSat F.diaryDroppedCount 0 0 1
    { s with proctor := { s.proctor with diaryGap := s.proctor.diaryGap + 1 } }

/-- ORIGIN of a change that the module makes by itself (R483). -/
abbrev originModule : Nat := 10

end Sys2Proof.Machine
end

