-- ==== Sys2Proof/Machine/Windows.lean ====
section
/-!
DEFINITION. Seats, fabric addresses and the near and far tables (R20, R289 to R294).
-/
namespace Sys2Proof.Machine

/-- The module's seat (R289). -/
def State.seat (s : State) : Nat := s.fld F.fabricSeatSeat
/-- Whether the module has a valid seat. -/
def State.seatValid (s : State) : Bool := s.fld F.fabricSeatSeatValid == 1
/-- The module's seat epoch. -/
def State.seatEpoch (s : State) : Nat := s.fld F.fabricSeatEpoch

/-- The window type of a fabric address (R290). -/
def fabWindow (a : Nat) : Nat := bits a 60 4
/-- Its destination seat. -/
def fabSeat (a : Nat) : Nat := bits a 48 12
/-- The module address of a fabric local field (R20). -/
def fabModule (local' : Nat) : Nat := bits local' 46 2 * 2 ^ 48 + bits local' 0 46
/-- The fabric local form of a module address (R20). -/
def moduleFab (a : Nat) : Nat := addrStack a * 2 ^ 46 + bits a 0 46

/-- The entries of the near table, or of the far table (R291). -/
def State.windowTable (s : State) (far : Bool) : List Nat :=
  if far then (List.range 64).map (fun k => s.reg .fabricFar 0 k) else (List.range 16).map (fun k => s.reg .fabricNear 0 k)
/-- Whether an entry is valid and owned by a partition. -/
def winOf (part e : Nat) : Bool := bitOf e 0 && bits e 3 2 == part
/-- Whether an entry covers a seat. -/
def winCovers (seat e : Nat) : Bool := bits e 8 12 ≤ seat && seat ≤ bits e 20 12
/-- The PORTS of an entry. -/
def winPorts (e : Nat) : Nat := bits e 32 16
/-- The entry that a request of a partition uses, if there is one (R291). -/
def State.outEntry (s : State) (part a : Nat) : Option Nat :=
  if fabWindow a == 1 ∨ fabWindow a == 2 then
    (s.windowTable (fabWindow a == 2)).find? (fun e => winOf part e && bitOf e 1 && winCovers (fabSeat a) e)
  else none
/-- The set bits of a port mask, in rising order. -/
def portList (ports : Nat) : List Nat := (List.range 16).filter (fun p => bitOf ports p)
/-- The port that a request leaves on (R292). -/
def choosePort (ports local' : Nat) : Option Nat :=
  let l := portList ports
  l[sliceHash local' % l.length]?
/-- The stack of a fabric port (R11). -/
def stackOfPort (p : Nat) : Nat := p / 4
/-- The partition of a fabric port: that of its stack. -/
def State.partOfPort (s : State) (p : Nat) : Nat := s.partOf (stackOfPort p)
/-- An entry without its reserved bits [7:5] and [63:50] (R7, R291). -/
def winDefined (e : Nat) : Nat := putBits (putBits e 5 3 0) 50 14 0
/-- Whether STAGES of an entry is defined for its table: 0 or 1 near, 2 or 3 far (R291). -/
def stagesOk (far : Bool) (e : Nat) : Bool := bitOf e 49 == far
/-- Whether an entry meets the constraints of R291 by itself: a near entry covers one seat, a far entry a range, STAGES is defined for the table, and PORTS names ports of its partition only. An entry that is not valid meets them (DESIGN CHOICE, log entry 11: the reset value 0 names no port, and must be a value that a write can give back). -/
def State.entryOk (s : State) (far : Bool) (e : Nat) : Bool :=
  !bitOf e 0 || ((if far then decide (bits e 8 12 ≤ bits e 20 12) else bits e 8 12 == bits e 20 12) && stagesOk far e
    && winPorts e != 0 && (portList (winPorts e)).all (fun p => s.partOfPort p == bits e 3 2))
/-- Whether two entries are both valid, of one partition, and cover one seat. -/
def entriesClash (a b : Nat) : Bool :=
  bitOf a 0 && bitOf b 0 && bits a 3 2 == bits b 3 2
    && decide (bits a 8 12 ≤ bits b 20 12) && decide (bits b 8 12 ≤ bits a 20 12)
/-- The recorded epoch of a seat; none where KNOWN is 0. -/
def State.peerEpoch (s : State) (seat : Nat) : Option Nat :=
  let w := bits (s.reg .corridorPeerEpoch 0 (seat / 2)) (seat % 2 * 16) 16
  if bitOf w 15 then some (bits w 0 12) else none

end Sys2Proof.Machine
end

