-- ==== Sys2Proof/Machine/Messages.lean ====
section
/-!
DEFINITION. Sending on the two control paths: Corridor frames into the node's queue, and VC0 messages into a port's queue (R291, R292, R326 to R329).
-/
namespace Sys2Proof.Machine

/-- Control message types (R327). -/
abbrev tBELL_ARRIVE : Nat := 0
/-- BELL_RELEASE. -/
abbrev tBELL_RELEASE : Nat := 1
/-- STOP. -/
abbrev tSTOP : Nat := 2
/-- BELL_BREAK. -/
abbrev tBELL_BREAK : Nat := 3
/-- ROLL_CALL. -/
abbrev tROLL_CALL : Nat := 4
/-- EPOCH. -/
abbrev tEPOCH : Nat := 5
/-- TIME. -/
abbrev tTIME : Nat := 6
/-- MGMT. -/
abbrev tMGMT : Nat := 7

/-- The transmission class of a frame type, the most urgent first (R328). -/
def frameClass (t : Nat) : Nat :=
  if t == tSTOP then 0 else if t == tBELL_ARRIVE || t == tBELL_RELEASE || t == tBELL_BREAK then 1 else if t == tMGMT then 3 else 2

/-- A payload of 32 bytes, unused bytes 0 (R327). -/
def payload32 (l : List Byte) : List Byte := (l ++ List.replicate 32 0).take 32

/-- The payload of the Bell messages (R327). -/
def bellPayload (group episode seat : Nat) : List Byte :=
  payload32 (toBytes 2 group ++ [0, 0] ++ toBytes 4 episode ++ toBytes 2 seat)

/-- Originates a Corridor frame: the next SEQ of its type; a broadcast, or a BELL_ARRIVE, is kept for resending (R326, R329). A module that is bypassed originates nothing, and one without a valid seat only ROLL_CALL (R327, R330). -/
def State.sendFrame (s : State) (type dest : Nat) (bcast : Bool) (payload : List Byte) : State :=
  if s.corridor.bypassOpen && (s.seatValid || type == tROLL_CALL) then
    let k := s.corridor
    let f : Frame := ⟨BitVec.ofNat 4 type, BitVec.ofNat 12 s.seat, BitVec.ofNat 12 dest, bcast, 0, Tab.get 0 k.seqs type, payload32 payload, 0⟩
    { s with corridor := { k with
      txq := k.txq ++ [(frameClass type, false, f)]
      resends := if bcast || type == tBELL_ARRIVE then k.resends ++ [⟨f, 0⟩] else k.resends
      seqs := Tab.set 0 k.seqs type (Tab.get 0 k.seqs type + 1) } }
  else s

/-- LINK codes of a fabric port (R312). -/
abbrev lDISABLED : Nat := 0
/-- TRAINING. -/
abbrev lTRAINING : Nat := 1
/-- UP. -/
abbrev lUP : Nat := 2
/-- RETRAINING. -/
abbrev lRETRAINING : Nat := 3
/-- DOWN. -/
abbrev lDOWN : Nat := 4

/-- The link state of a fabric port. -/
def State.link (s : State) (p : Nat) : Nat := s.fld F.fabricStateLink p

/-- Queues a message on a port's virtual channel; a port that is neither UP nor RETRAINING sends nothing. -/
def State.portSend (s : State) (p : Nat) (vc : Fin 4) (m : FabMsg) : State :=
  if s.link p == lUP || s.link p == lRETRAINING then
    let fp := s.port p
    s.setPort p { fp with txq := fp.txq ++ [(vc, m)] }
  else s

/-- The valid entry of a partition that covers a seat and carries OUT, or IN, of either table (R291, R305). -/
def State.coverEntry (s : State) (part seat : Nat) (dir : Nat → Bool) : Option Nat :=
  (s.windowTable false ++ s.windowTable true).find? (fun e => winOf part e && dir e && winCovers seat e)

/-- Sends a control message on VC0 to a seat, on the lowest port of the partition's OUT entry that covers it (R292, R327). -/
def State.sendVc0 (s : State) (part type dest : Nat) (payload : List Byte) : State :=
  if s.seatValid then
    match s.coverEntry part dest (fun e => bitOf e 1) with
    | some e =>
      match portList (winPorts e) with
      | p :: _ => s.portSend p 0 (.control (BitVec.ofNat 4 type) (BitVec.ofNat 12 dest) (BitVec.ofNat 12 s.seat) (payload32 payload)
        (BitVec.ofNat 12 ((s.peerEpoch dest).getD 0)) (BitVec.ofNat 12 s.seatEpoch))
      | [] => s
    | none => s
  else s

end Sys2Proof.Machine
end

