-- ==== Sys2Proof/Machine/NumFmt.lean ====
section
/-!
DEFINITION. Exact values, the number formats, the one rounding of every conversion, scales, stochastic noise and conversion statistics (R29 to R58).
-/
namespace Sys2Proof.Machine

/-! ## Exact values -/

/-- The magnitude of an exact non-zero value: `rat p q e` is p / q × 2^e, and `root p q e` is its square root. -/
inductive Mag where
  | rat (p q : Nat) (e : Int)
  | root (p q : Nat) (e : Int)
deriving DecidableEq, Repr

/-- An exact value before its rounding (R44): NaN, a signed infinity, a signed zero, or a signed non-zero magnitude. -/
inductive Val where
  | nan
  | inf (neg : Bool)
  | zero (neg : Bool)
  | num (neg : Bool) (m : Mag)
deriving DecidableEq, Repr

/-- The integer square root, found bit by bit from bit `k - 1` down. -/
def isqrtFrom (n : Nat) : Nat → Nat → Nat
  | 0, r => r
  | k + 1, r => let c := r + 2 ^ k; isqrtFrom n k (if c * c ≤ n then c else r)

/-- The largest r with r² ≤ n. -/
def isqrt (n : Nat) : Nat := isqrtFrom n (n.log2 / 2 + 1) 0

/-- p / q × 2^k as a fraction of natural numbers. -/
def scaleFrac (p q : Nat) (k : Int) : Nat × Nat :=
  if 0 ≤ k then (p * 2 ^ k.toNat, q) else (p, q * 2 ^ (-k).toNat)

/-- floor(m × 2^k), and whether that floor is short of the exact value. -/
def Mag.floorMul : Mag → Int → Nat × Bool
  | .rat p q e, k => let f := scaleFrac p q (e + k); (f.1 / f.2, f.1 % f.2 != 0)
  | .root p q e, k =>
    let f := scaleFrac p q (e + 2 * k)
    let y := f.1 / f.2
    let r := isqrt y
    (r, f.1 % f.2 != 0 || r * r != y)

/-- floor(log2(p / q × 2^e)). -/
def ratLog2 (p q : Nat) (e : Int) : Int :=
  let c : Int := (p.log2 : Int) - (q.log2 : Int)
  let f := scaleFrac p q (-c)
  if f.2 ≤ f.1 then c + e else c - 1 + e

/-- floor(log2 m). -/
def Mag.log2 : Mag → Int
  | .rat p q e => ratLog2 p q e
  | .root p q e => (ratLog2 p q e).fdiv 2

/-- m × 2^k. -/
def Mag.scale : Mag → Int → Mag
  | .rat p q e, k => .rat p q (e + k)
  | .root p q e, k => .root p q (e + 2 * k)

/-- z × 2^e, an exact zero being +0. -/
def Val.dyadic (z e : Int) : Val :=
  if z = 0 then .zero false else .num (decide (z < 0)) (.rat z.natAbs 1 e)

/-- Whether a value has its sign bit set. -/
def Val.sign : Val → Bool
  | .nan => false
  | .inf n => n
  | .zero n => n
  | .num n _ => n

/-- The value with its sign changed (R129, NEG). -/
def Val.neg : Val → Val
  | .nan => .nan
  | .inf n => .inf !n
  | .zero n => .zero !n
  | .num n m => .num (!n) m

/-- The magnitude (R129, ABS). -/
def Val.abs : Val → Val
  | .nan => .nan
  | .inf _ => .inf false
  | .zero _ => .zero false
  | .num _ m => .num false m

/-- v × 2^k: a power-of-two scale (R40). -/
def Val.scale (v : Val) (k : Int) : Val :=
  match v with
  | .num n m => .num n (m.scale k)
  | w => w

/-- The numerator over a common denominator and exponent; roots are results only and never operands. -/
def Mag.parts : Mag → Nat × Nat × Int
  | .rat p q e => (p, q, e)
  | .root p q e => (p, q, e)

/-- The exact product of two non-zero magnitudes. -/
def Mag.mul (a b : Mag) : Mag :=
  let (p, q, e) := a.parts
  let (p', q', e') := b.parts
  .rat (p * p') (q * q') (e + e')

/-- The exact quotient of two non-zero magnitudes. -/
def Mag.div (a b : Mag) : Mag :=
  let (p, q, e) := a.parts
  let (p', q', e') := b.parts
  .rat (p * q') (q * p') (e - e')

/-- The exact sum of two signed non-zero magnitudes; an exact zero is +0 (R129). -/
def Mag.addSigned (na : Bool) (a : Mag) (nb : Bool) (b : Mag) : Val :=
  let (p, q, e) := a.parts
  let (p', q', e') := b.parts
  let lo := min e e'
  let x : Int := (p * q' * 2 ^ (e - lo).toNat : Nat)
  let y : Int := (p' * q * 2 ^ (e' - lo).toNat : Nat)
  let z := (if na then -x else x) + (if nb then -y else y)
  if z = 0 then .zero false else .num (decide (z < 0)) (.rat z.natAbs (q * q') lo)

/-- The product rules of R65 and R129. -/
def Val.mul : Val → Val → Val
  | .nan, _ => .nan
  | _, .nan => .nan
  | .inf _, .zero _ => .nan
  | .zero _, .inf _ => .nan
  | .inf a, b => .inf (a != b.sign)
  | a, .inf b => .inf (a.sign != b)
  | .zero a, b => .zero (a != b.sign)
  | a, .zero b => .zero (a.sign != b)
  | .num a m, .num b n => .num (a != b) (m.mul n)

/-- The exact sum under R129: an exact zero is +0, and opposite infinities give NaN. -/
def Val.add : Val → Val → Val
  | .nan, _ => .nan
  | _, .nan => .nan
  | .inf a, .inf b => if a = b then .inf a else .nan
  | .inf a, _ => .inf a
  | _, .inf b => .inf b
  | .zero _, .zero _ => .zero false
  | .zero _, .num b n => .num b n
  | .num a m, .zero _ => .num a m
  | .num a m, .num b n => Mag.addSigned a m b n

/-- a − b. -/
def Val.sub (a b : Val) : Val := a.add b.neg

/-- DIV under R129. -/
def Val.div : Val → Val → Val
  | .nan, _ => .nan
  | _, .nan => .nan
  | .inf _, .inf _ => .nan
  | .zero _, .zero _ => .nan
  | .inf a, b => .inf (a != b.sign)
  | a, .inf b => .zero (a.sign != b)
  | .zero a, b => .zero (a != b.sign)
  | a, .zero b => .inf (a.sign != b)
  | .num a m, .num b n => .num (a != b) (m.div n)

/-- SQRT under R129. -/
def Val.sqrt : Val → Val
  | .nan => .nan
  | .inf n => if n then .nan else .inf false
  | .zero n => .zero n
  | .num n m => if n then .nan else let (p, q, e) := m.parts; .num false (.root p q e)

/-- RSQRT under R129. -/
def Val.rsqrt : Val → Val
  | .nan => .nan
  | .inf n => if n then .nan else .zero false
  | .zero n => .inf n
  | .num n m => if n then .nan else let (p, q, e) := m.parts; .num false (.root q p (-e))

/-- Whether magnitude `a` is below magnitude `b`. -/
def Mag.lt (a b : Mag) : Bool :=
  match Mag.addSigned false a true b with
  | .num n _ => n
  | _ => false

/-- a < b for values that are not NaN, −0 being smaller than +0 (R129). -/
def Val.lt : Val → Val → Bool
  | .nan, _ => false
  | _, .nan => false
  | .inf a, .inf b => a && !b
  | .inf a, _ => a
  | _, .inf b => !b
  | .zero a, .zero b => a && !b
  | .zero _, .num b _ => !b
  | .num a _, .zero _ => a
  | .num a m, .num b n => if a != b then a else if a then n.lt m else m.lt n

/-- MIN under R129. -/
def Val.min (a b : Val) : Val :=
  if a = .nan ∨ b = .nan then .nan else if b.lt a then b else a

/-- MAX under R129. -/
def Val.max (a b : Val) : Val :=
  if a = .nan ∨ b = .nan then .nan else if a.lt b then b else a

/-- floor(log2 |v|) of a finite non-zero value. -/
def Val.log2 : Val → Option Int
  | .num _ m => some m.log2
  | _ => none

/-! ## Formats (R29, R32, R36 to R39) -/

/-- The parameters of a floating-point format (R32): exponent and fraction bits, bias, emax, the largest significand at emax, whether infinity exists, and the canonical NaN where one exists (R34). -/
structure FloatFmt where
  eb : Nat
  fb : Nat
  bias : Int
  emax : Int
  maxSig : Nat
  hasInf : Bool
  nan : Option Nat
deriving DecidableEq, Repr

/-- The floating-point formats by FMT code (R29, R32). -/
def floatFmt : Nat → Option FloatFmt
  | 0 => some ⟨8, 23, 127, 127, 0xFFFFFF, true, some 0x7FC00000⟩
  | 1 => some ⟨8, 7, 127, 127, 0xFF, true, some 0x7FC0⟩
  | 2 => some ⟨5, 10, 15, 15, 0x7FF, true, some 0x7E00⟩
  | 3 => some ⟨4, 3, 7, 8, 14, false, some 0x7F⟩
  | 4 => some ⟨5, 2, 15, 15, 7, true, some 0x7E⟩
  | 5 => some ⟨3, 2, 3, 4, 7, false, none⟩
  | 6 => some ⟨2, 3, 1, 2, 15, false, none⟩
  | 7 => some ⟨2, 1, 1, 2, 3, false, none⟩
  | _ => none

/-- The width of the integer and FXG formats (R29). -/
def intWidth : Nat → Option Nat
  | 8 => some 8
  | 9 => some 32
  | 0xA => some 32
  | 0xB => some 16
  | 0xC => some 64
  | _ => none

/-- Whether a format is FXG, and so carries a layer exponent (R37). -/
def isFxg (fmt : Nat) : Bool := fmt == 0xA || fmt == 0xB || fmt == 0xC

/-- The width in bits of an element (R29). -/
def fmtWidth : Nat → Nat
  | 0 => 32 | 1 => 16 | 2 => 16 | 3 => 8 | 4 => 8 | 5 => 6 | 6 => 6 | 7 => 4
  | 8 => 8 | 9 => 32 | 0xA => 32 | 0xB => 16 | 0xC => 64 | 0xD => 640 | 0xE => 8 | _ => 0

/-- The Scaled column of R29: whether a tensor of the format may be unscaled, and whether it may be scaled. -/
def mayBeUnscaled (fmt : Nat) : Bool := !(fmt == 5 || fmt == 6 || fmt == 7) && fmt < 0xF
/-- Whether a tensor of the format may carry scales (R29). -/
def mayBeScaled (fmt : Nat) : Bool := fmt == 3 || fmt == 4 || fmt == 5 || fmt == 6 || fmt == 7 || fmt == 8

/-- FMT codes by name (R29). -/
abbrev fmtFP32 : Nat := 0
/-- FMT code of INT32. -/
abbrev fmtINT32 : Nat := 9
/-- FMT code of LX. -/
abbrev fmtLX : Nat := 0xD
/-- FMT code of E8M0. -/
abbrev fmtE8M0 : Nat := 0xE

/-- The exact value of a floating-point code (R32, R33): subnormals at their exact value, every NaN alike (R34). -/
def decodeFloat (f : FloatFmt) (code : Nat) : Val :=
  let frac := bits code 0 f.fb
  let ef := bits code f.fb f.eb
  let neg := bitOf code (f.fb + f.eb)
  let top := 2 ^ f.eb - 1
  if f.hasInf && ef == top then (if frac == 0 then .inf neg else .nan)
  else if !f.hasInf && f.nan.isSome && ef == top && frac == 2 ^ f.fb - 1 then .nan
  else if ef == 0 then
    if frac == 0 then .zero neg else .num neg (.rat frac 1 (1 - f.bias - f.fb))
  else .num neg (.rat (2 ^ f.fb + frac) 1 ((ef : Int) - f.bias - f.fb))

/-- The exact value of an E8M0 code (R39). -/
def decodeE8M0 (code : Nat) : Val :=
  if code % 256 == 0xFF then .nan else .num false (.rat 1 1 ((code % 256 : Nat) - 127))

/-- The exact value of an element code, unscaled; `e` is the layer exponent of an FXG tensor (R32, R36, R37, R39). -/
def decodeElem (fmt : Nat) (e : Int) (code : Nat) : Val :=
  match floatFmt fmt with
  | some f => decodeFloat f code
  | none =>
    match intWidth fmt with
    | some w => .dyadic (signed w code) (if isFxg fmt then e else 0)
    | none => if fmt == fmtE8M0 then decodeE8M0 code else .nan

/-- The value of an FP32 code. -/
def decodeFp32 (code : Nat) : Val := decodeElem fmtFP32 0 code

/-! ## Rounding (R44 to R52) -/

/-- The rounding settings of a conversion: RND and OVF (R45). -/
structure Rounding where
  rnd : BitVec 2
  ovf : Bool
deriving DecidableEq, Repr

/-- Round to nearest even, saturating. -/
def rne : Rounding := ⟨0, false⟩

/-- A rounded element: its code, and whether it overflowed (R46) or underflowed (R47). -/
structure Rounded where
  code : Nat
  overflow : Bool
  underflow : Bool
deriving DecidableEq, Repr

/-- m / 2^k rounded to an integer under RND (R45, R52): `noise` is the 32-bit noise of the destination element. -/
def roundMag (r : BitVec 2) (noise : Nat) (m : Mag) (k : Int) : Nat :=
  let f := m.floorMul (1 - k)
  let n := f.1 / 2
  if r = 1 then n
  else if r = 2 then (if noise < (m.floorMul (32 - k)).1 % 2 ^ 32 then n + 1 else n)
  else if f.1 % 2 == 1 && (f.2 || n % 2 == 1) then n + 1 else n

/-- The largest finite code of a floating-point format, its sign apart. -/
def FloatFmt.maxCode (f : FloatFmt) : Nat :=
  f.maxSig + (f.emax + f.bias - 1).toNat * 2 ^ f.fb

/-- The code of infinity of a format that has one. -/
def FloatFmt.infCode (f : FloatFmt) : Nat := (2 ^ f.eb - 1) * 2 ^ f.fb

/-- The sign bit of a format in place. -/
def FloatFmt.signBit (f : FloatFmt) (neg : Bool) : Nat := if neg then 2 ^ (f.fb + f.eb) else 0

/-- The largest finite value as significand × 2^k. -/
def FloatFmt.overflows (f : FloatFmt) (n : Nat) (k : Int) : Bool :=
  let k' := f.emax - f.fb
  if 0 ≤ k - k' then f.maxSig < n * 2 ^ (k - k').toNat else f.maxSig * 2 ^ (k' - k).toNat < n

/-- One rounding into a floating-point format (R45 to R48). -/
def roundFloat (f : FloatFmt) (r : Rounding) (noise : Nat) : Val → Rounded
  | .nan => ⟨f.nan.getD 0, false, false⟩
  | .inf n => ⟨f.signBit n + (if f.hasInf then f.infCode else f.maxCode), false, false⟩
  | .zero n => ⟨f.signBit n, false, false⟩
  | .num n m =>
    let emin := 1 - f.bias
    let k := max m.log2 emin - f.fb
    let q := roundMag r.rnd noise m k
    if f.overflows q k then
      ⟨f.signBit n + (if r.ovf && f.hasInf then f.infCode else f.maxCode), true, false⟩
    else ⟨f.signBit n + q + (k - (emin - f.fb)).toNat * 2 ^ f.fb, false, q == 0⟩

/-- One rounding into a two's complement format of `w` bits with weight 2^e (R36, R37, R50). -/
def roundInt (w : Nat) (e : Int) (r : Rounding) (noise : Nat) : Val → Rounded
  | .nan => ⟨0, false, false⟩
  | .inf n => let top : Int := 2 ^ (w - 1) - 1; ⟨unsigned w (if n then -top else top), false, false⟩
  | .zero _ => ⟨0, false, false⟩
  | .num n m =>
    let q := roundMag r.rnd noise m e
    let top : Nat := 2 ^ (w - 1) - 1
    let big := decide (top < q)
    let c : Int := (if big then top else q : Nat)
    ⟨unsigned w (if n then -c else c), big, q == 0⟩

/-- The E8M0 code of a value (R48, R49). -/
def roundE8M0 : Val → Rounded
  | .nan => ⟨0xFF, false, false⟩
  | .inf _ => ⟨0xFF, false, false⟩
  | .zero _ => ⟨0, false, false⟩
  | .num _ m =>
    let x := m.log2
    ⟨(max (-127) (min 127 x) + 127).toNat, decide (127 < x), decide (x < -127)⟩

/-- One rounding of an exact value into an element of format `fmt`, scales apart (R44). -/
def roundElem (fmt : Nat) (e : Int) (r : Rounding) (noise : Nat) (v : Val) : Rounded :=
  match floatFmt fmt with
  | some f => roundFloat f r noise v
  | none =>
    match intWidth fmt with
    | some w => roundInt w (if isFxg fmt then e else 0) r noise v
    | none => roundE8M0 v

/-- Round to nearest even into FP32. -/
def toFp32 (v : Val) : BitVec 32 := BitVec.ofNat 32 (roundElem fmtFP32 0 rne 0 v).code

/-! ## Stochastic noise (R53, R55) -/

/-- One pass of the rounding noise function (R55). -/
def noisePass : BitVec 32 × BitVec 32 × BitVec 32 × BitVec 32 → BitVec 32 × BitVec 32 × BitVec 32 × BitVec 32
  | (a, b, c, d) =>
    let a := a + b; let d := (d ^^^ a).rotateLeft 16
    let c := c + d; let b := (b ^^^ c).rotateLeft 12
    let a := a + b; let d := (d ^^^ a).rotateLeft 8
    let c := c + d; let b := (b ^^^ c).rotateLeft 7
    (a, b, c, d)

/-- The state of the rounding noise function before its first pass. -/
def noiseStart (seed : Word) (tag step : BitVec 32) (index : Nat) : BitVec 32 × BitVec 32 × BitVec 32 × BitVec 32 :=
  (seed.extractLsb' 0 32 ^^^ BitVec.ofNat 32 index,
   seed.extractLsb' 32 32 ^^^ BitVec.ofNat 32 (bits index 32 16),
   tag ^^^ 0x9e3779b9, step ^^^ 0x7f4a7c15)

/-- The rounding noise of a destination element (R53, R55). -/
def roundNoise (seed : Word) (tag step : BitVec 32) (index : Nat) : BitVec 32 :=
  let r := noisePass (noisePass (noiseStart seed tag step index))
  r.1 ^^^ r.2.2.2

/-! ## Statistics (R57, R58) -/

/-- The empty contribution. -/
def Stats.zero : Stats := ⟨none, false, false, 0, 0, 0⟩

/-- The larger of two MAX_EXP values, none being 0x8000 (R58). -/
def maxExpOf : Option Int → Option Int → Option Int
  | none, b => b
  | a, none => a
  | some a, some b => some (max a b)

/-- A count that stops at 2^64 − 1 (R57). -/
def satAdd64 (a b : Nat) : Nat := min (a + b) (2 ^ 64 - 1)

/-- Two contributions combined (R58). -/
def Stats.combine (a b : Stats) : Stats :=
  { maxExp := maxExpOf a.maxExp b.maxExp
    nanSeen := a.nanSeen || b.nanSeen
    infSeen := a.infSeen || b.infSeen
    elements := satAdd64 a.elements b.elements
    overflow := satAdd64 a.overflow b.overflow
    underflow := satAdd64 a.underflow b.underflow }

/-- The contribution of one converted element: its exact value and its rounding (R57, R48). -/
def Stats.ofElem (v : Val) (r : Rounded) : Stats :=
  { maxExp := v.log2
    nanSeen := v == .nan
    infSeen := match v with | .inf _ => true | _ => false
    elements := 1
    overflow := if r.overflow then 1 else 0
    underflow := if r.underflow then 1 else 0 }

/-- The 256-bit record of a contribution (R57). -/
def Stats.encode (s : Stats) : Nat :=
  (match s.maxExp with | none => 0x8000 | some e => unsigned 16 e)
  + (if s.nanSeen then 2 ^ 16 else 0) + (if s.infSeen then 2 ^ 17 else 0)
  + s.elements * 2 ^ 64 + s.overflow * 2 ^ 128 + s.underflow * 2 ^ 192

/-- The contribution a record holds. -/
def Stats.decode (x : Nat) : Stats :=
  { maxExp := if bits x 0 16 == 0x8000 then none else some (signed 16 (bits x 0 16))
    nanSeen := bitOf x 16
    infSeen := bitOf x 17
    elements := bits x 64 64
    overflow := bits x 128 64
    underflow := bits x 192 64 }

/-! ## Scales (R40 to R43) -/

/-- emax and the largest finite value (as significand and exponent) that R41 uses for a format. -/
def scaleLimits (fmt : Nat) : Int × Nat × Int :=
  match floatFmt fmt with
  | some f => (f.emax, f.maxSig, f.emax - f.fb)
  | none => (6, 127, 0)

/-- The largest magnitude among the finite values of a row; none where every finite value is zero. -/
def maxMag : List Val → Option Mag
  | [] => none
  | v :: vs =>
    match v, maxMag vs with
    | .num _ m, none => some m
    | .num _ m, some n => some (if m.lt n then n else m)
    | _, r => r

/-- Whether a magnitude exceeds sig × 2^k. -/
def Mag.exceeds (m : Mag) (sig : Nat) (k : Int) : Bool :=
  let f := m.floorMul (-k)
  decide (sig < f.1) || (f.1 == sig && f.2)

/-- The scale code that R41 chooses for a row. -/
def chooseScale (fmt : Nat) (row : List Val) : Nat :=
  if row.any (fun v => v == .nan || (fmt != 4 && match v with | .inf _ => true | _ => false)) then 0xFF
  else match maxMag row with
    | none => 0
    | some m =>
      let (emax, sig, k) := scaleLimits fmt
      let x := m.log2 - emax
      let x := if m.exceeds sig (k + x) then x + 1 else x
      (max (-127) (min 127 x) + 127).toNat

/-- One element converted with its row's scale code (R41, R127): code 0xFF writes code 0. Such an element counts as no underflow (DESIGN CHOICE, log entry 48: R47 does not say, and the element is not rounded). -/
def roundScaled (fmt : Nat) (scale : Nat) (r : Rounding) (noise : Nat) (v : Val) : Rounded :=
  if scale == 0xFF then ⟨0, false, false⟩
  else roundElem fmt 0 r noise (v.scale (127 - (scale : Int)))

/-- A whole-zero row is written with every element +0 (R42), whatever the signs of its zeros. -/
def chosenElem (fmt : Nat) (scale : Nat) (zeroRow : Bool) (r : Rounding) (noise : Nat) (v : Val) : Rounded :=
  match zeroRow, v with
  | true, .zero _ => ⟨0, false, false⟩
  | _, w => roundScaled fmt scale r noise w

/-- The exact value of an element with its scale code (R40). -/
def decodeScaled (fmt : Nat) (e : Int) (scale : Option Nat) (code : Nat) : Val :=
  match scale with
  | none => decodeElem fmt e code
  | some s => if s == 0xFF then .nan else (decodeElem fmt e code).scale ((s : Int) - 127)

end Sys2Proof.Machine
end

