-- ==== Sys2Proof/Machine/Slice.lean ====
section
/-!
DEFINITION. The slices: caching, poison, pins, reductions and the hold buffer (R198 to R217), and the accesses to module memory that every unit makes through them.
The value of memory is the value at its home slice, the one point of order (R207); the tags, the hold buffer and the counters stand beside it.
-/
namespace Sys2Proof.Machine

/-! ## Tags -/

/-- The cached line of a slice, where it is held. -/
def Slice.find (sl : Slice) (line : Nat) : Option CacheLine := sl.lines.find? (fun l => l.line == line)
/-- The hold buffer entry of a line. -/
def Slice.findHold (sl : Slice) (line : Nat) : Option HoldEntry := sl.hold.find? (fun h => h.line == line)
/-- Replaces a cached line. -/
def Slice.putLine (sl : Slice) (l : CacheLine) : Slice :=
  { sl with lines := sl.lines.map (fun k => if k.line == l.line then l else k) }
/-- Replaces a hold entry. -/
def Slice.putHold (sl : Slice) (h : HoldEntry) : Slice :=
  { sl with hold := sl.hold.map (fun k => if k.line == h.line then h else k) }

/-- The bit of a sector in a valid or dirty mask. -/
def sectorBit (a : Nat) : BitVec 4 := BitVec.ofNat 4 (2 ^ (a / 32 % 4))
/-- Whether the sector of `a` is set in a mask. -/
def hasSector (m : BitVec 4) (a : Nat) : Bool := m &&& sectorBit a != 0
/-- How many sectors a mask holds. -/
def sectorCount (m : BitVec 4) : Nat := (m.getLsbD 0).toNat + (m.getLsbD 1).toNat + (m.getLsbD 2).toNat + (m.getLsbD 3).toNat

/-- The number of cache ways of a slice; a failed slice serves its channel in bypass (R202, R434). -/
def State.cacheWays (s : State) (n : Nat) : Nat :=
  if (s.slice n).failed then 0 else s.fld F.sliceConfigCacheWays n

/-- Whether a way may be given to a new line: a cache way that no pinned line holds (R208). -/
def Slice.wayFree (sl : Slice) (ways set w : Nat) : Bool :=
  w < ways && !sl.lines.any (fun l => l.set == set && l.way.val == w && l.pinned)

/-- The walk down the replacement tree of a set: each node's bit names the half used less recently; a half with no free way is passed over (R208; DESIGN CHOICE, the choice of way affects timing only). -/
def lruVictim (tree : BitVec 15) (free : Nat → Bool) : Nat → Nat → Nat → Nat
  | 0, _, w => w
  | d + 1, node, w =>
    let half := 2 ^ d
    let leftOk := (List.range half).any (fun k => free (w + k))
    let rightOk := (List.range half).any (fun k => free (w + half + k))
    let goRight := if leftOk && rightOk then tree.getLsbD node else rightOk
    if goRight then lruVictim tree free d (2 * node + 2) (w + half) else lruVictim tree free d (2 * node + 1) w

/-- Points every node on a way's path at the other half. -/
def lruTouch (w : Nat) : Nat → Nat → Nat → BitVec 15 → BitVec 15
  | 0, _, _, tree => tree
  | d + 1, node, lo, tree =>
    let right := lo + 2 ^ d ≤ w
    let tree := if right then tree &&& ~~~(1#15 <<< node) else tree ||| (1#15 <<< node)
    if right then lruTouch w d (2 * node + 2) (lo + 2 ^ d) tree else lruTouch w d (2 * node + 1) lo tree

/-- Marks a way as just used. -/
def Slice.touch (sl : Slice) (set : Nat) (w : Fin 16) : Slice :=
  { sl with lru := Tab.set 0 sl.lru set (lruTouch w.val 4 0 0 (Tab.get 0 sl.lru set)) }

/-- The HOLD register after a change of the hold buffer (R226). -/
def State.noteHold (s : State) (n : Nat) : State :=
  let k := (s.slice n).hold.length
  (s.setFld F.sliceHoldInUse n 0 k).setFld F.sliceHoldPeak n 0 (max k (s.fld F.sliceHoldPeak n))

/-- The HBM4 instance of a slice (R201). -/
def hbmOf (n : Nat) : Nat := n / 32

/-- A hold entry's write-back leaves for HBM4 (R217). -/
def State.countWriteback (s : State) (n : Nat) (dirty : BitVec 4) : State :=
  (s.bump F.sliceWritebacksCount n 0 (sectorCount dirty)).bump F.hbmWriteSectorsCount (hbmOf n) 0 (sectorCount dirty)

/-- A slice lets go of sectors of a line: those written back leave HBM4 as the slice held them, and a clean one reads again as HBM4 holds it, its poison mark with it. -/
def State.leaveSlice (s : State) (line : Nat) (valid dirty : BitVec 4) : State :=
  s.each [0, 1, 2, 3] (fun s k =>
    let sec := 4 * line + k
    if NatSet.has s.hidden sec && (valid ||| dirty).getLsbD k then
      let s := { s with hidden := NatSet.erase s.hidden sec }
      if dirty.getLsbD k then s
      else { s with poison := if NatSet.has s.poison sec then NatSet.erase s.poison sec else NatSet.insert s.poison sec }
    else s)

/-- The kinds of access to a sector. -/
inductive AccessKind where
  | read | whole | part | reduce
deriving DecidableEq, Repr

/-- Marks or clears the poison of a sector. -/
def State.setPoison (s : State) (a : Nat) (p : Bool) : State :=
  { s with poison := if p then NatSet.insert s.poison (a / 32) else NatSet.erase s.poison (a / 32) }

/-- An error beyond correction in the copy of a sector in HBM4 is counted and recorded (R223). -/
def State.hbmReport (s : State) (a d1 : Nat) : State :=
  (s.bumpSat F.hbmUncorrectedCount (hbmOf (homeSlice a)) 0 1).logError .hbm (hbmOf (homeSlice a)) deferred 0x007 (addrLocal a / 32 * 32) d1

/-- A sector whose copy in HBM4 holds an error beyond correction is poisoned (R223). -/
def State.hbmBad (s : State) (a d1 : Nat) : State := (s.setPoison a true).hbmReport a d1

/-- A sector is read from HBM4 and checked: up to two wrong symbols are corrected, more poison it (R223). -/
def State.hbmCheck (s : State) (a : Nat) : State :=
  let e := Tab.get 0 s.hbmErr (a / 32)
  let s := { s with hbmErr := Tab.set 0 s.hbmErr (a / 32) 0 }
  if e = 0 then s else if e ≤ 2 then s.bumpSat F.hbmCorrectedCount (hbmOf (homeSlice a)) 0 1 else s.hbmBad a 0

/-- The place in its slice's array of the copy of a sector, way, set and sector together; none for one in the hold buffer, or that the slice does not hold (R198, R203). -/
def State.arrayIndex (s : State) (a : Nat) : Option Nat :=
  match regionOf a with
  | .scratch =>
    let off := addrLocal a - 0x10000000000
    some ((15 - off / 2 ^ 28) * 32768 + off % 2 ^ 28 / 2 ^ 15 * 4 + a / 32 % 4)
  | .hbm => ((s.slice (homeSlice a)).find (a / 128)).map (fun l => l.way.val * 32768 + l.set * 4 + a / 32 % 4)
  | _ => none

/-- 24 hours in ns. -/
abbrev dayNs : Nat := 86400000000000

/-- A sector of array row `row` of a slice has needed a correction; corrections are remembered for 24 hours (R435). -/
def State.rowHit (s : State) (n row : Nat) : State :=
  let sl := s.slice n
  s.setSlice n { sl with rowHits := sl.rowHits.filter (fun x => decide (s.now < x.2 + dayNs)) ++ [(row, s.now)] }

/-- Whether the sectors of an array row have needed 2 or more corrections within 24 hours (R435). -/
def State.rowDue (s : State) (n row : Nat) : Bool :=
  decide (2 ≤ ((s.slice n).rowHits.filter (fun x => x.1 == row && decide (s.now < x.2 + dayNs))).length)

/-- An error of the array at sector `k` is corrected (R209, R435). -/
def State.arrayCorrected (s : State) (n : Nat) (k : Option Nat) : State :=
  let s := s.bumpSat F.sliceEccCorrectedCount n 0 1
  match k with
  | some k => s.rowHit n (Config.arrayRow k)
  | none => s

/-- The slice's own copy of a sector is checked as an access uses it: one wrong symbol is corrected, more poison the sector (R209). A write of the whole sector replaces the copy unread. -/
def State.arrayCheck (s : State) (a : Nat) (k : AccessKind) : State :=
  let n := homeSlice a
  let e := Tab.get 0 s.arrayErr (a / 32)
  let s := { s with arrayErr := Tab.set 0 s.arrayErr (a / 32) 0 }
  if e = 0 ∨ k = .whole then s
  else if e = 1 then s.arrayCorrected n (s.arrayIndex a)
  else ((s.setPoison a true).bumpSat F.sliceEccUncorrectedCount n 0 1).logError .slice n deferred 0x006 (addrLocal a / 32 * 32)
    (2 * bit ((s.slice n).findHold (a / 128)).isSome)

/-- A line leaves its way: its dirty sectors are read from the array and checked, and what went wrong in the others goes with them (R206, R209). -/
def State.readLine (s : State) (line : Nat) (dirty : BitVec 4) : State :=
  s.each [0, 1, 2, 3] (fun s k => s.arrayCheck (128 * line + 32 * k) (if dirty.getLsbD k then .read else .whole))

/-- A write-back replaces the copies of sectors in HBM4. -/
def State.replaceHbm (s : State) (line : Nat) (dirty : BitVec 4) : State :=
  s.each [0, 1, 2, 3] (fun s k => if dirty.getLsbD k then { s with hbmErr := Tab.set 0 s.hbmErr (4 * line + k) 0 } else s)

/-- The oldest hold entry completes its write-backs and is freed: what an access that cannot be put off waits for (R217). -/
def State.freeOldest (s : State) (n : Nat) : State :=
  match (s.slice n).hold with
  | [] => s
  | h :: rest =>
    let s := if h.again = 0 then s else s.countWriteback n h.again
    let s := (s.leaveSlice h.line h.valid (h.dirty ||| h.again)).replaceHbm h.line (h.dirty ||| h.again)
    (s.setSlice n { s.slice n with hold := rest }).noteHold n

/-- Adds a hold entry and starts its write-back (R217). With all 32 in use a request waits, `none`; an access of a unit inside one command, which `wait` does not let wait, first sees the oldest entry freed: the wait is time only (DESIGN CHOICE, log entry 10). The entry's data leave as it is made, so every later change makes a second write-back (DESIGN CHOICE, log entry 10: R217 does not say when they leave). -/
def State.addHold (s : State) (n line : Nat) (valid dirty : BitVec 4) (wait : Bool) : Option State :=
  if (s.slice n).hold.length ≥ 32 ∧ wait then none
  else
    let s := if (s.slice n).hold.length ≥ 32 then s.freeOldest n else s
    let s := s.setSlice n { s.slice n with hold := (s.slice n).hold ++ [⟨line, valid, dirty, true, 0⟩] }
    some ((s.countWriteback n dirty).noteHold n)

/-- A way for a new line (R208): `none` while an eviction waits for the hold buffer, `some (s, none)` in bypass. -/
def State.allocate (s : State) (n line set : Nat) (wait : Bool) : Option (State × Option (Fin 16)) :=
  let sl := s.slice n
  let ways := s.cacheWays n
  let free := sl.wayFree ways set
  match (List.range ways).find? (fun w => !sl.lines.any (fun l => l.set == set && l.way.val == w)) with
  | some w =>
    let w : Fin 16 := Fin.ofNat 16 w
    some (s.setSlice n { sl with lines := sl.lines ++ [⟨set, w, line, 0, 0, false⟩] }, some w)
  | none =>
    if (List.range ways).any free then
      let w := lruVictim (Tab.get 0 sl.lru set) free 4 0 0
      match sl.lines.find? (fun l => l.set == set && l.way.val == w) with
      | some old =>
        let s' := (s.setSlice n { sl with
          lines := sl.lines.filter (fun l => l.line != old.line) ++ [⟨set, old.way, line, 0, 0, false⟩] }).readLine old.line old.dirty
        if old.dirty = 0 then some (s'.leaveSlice old.line old.valid 0, some old.way)
        else (s'.addHold n old.line old.valid old.dirty wait).map (fun t => (t, some old.way))
      | none => some (s, none)
    else some (s, none)

/-- A hit or a miss of a class (R213). -/
def State.countHit (s : State) (n cls : Nat) (hit : Bool) : State :=
  if hit then s.bump F.sliceHitCount n cls 1 else s.bump F.sliceMissCount n cls 1

/-- A sector is read from HBM4 (R223, R227). -/
def State.countFetch (s : State) (a : Nat) : State := (s.bump F.hbmReadSectorsCount (hbmOf (homeSlice a)) 0 1).hbmCheck a

/-- Marks the access in a hold entry (R217). -/
def holdTouched (h : HoldEntry) (a : Nat) (k : AccessKind) : HoldEntry :=
  let b := sectorBit a
  if k = .read then { h with valid := h.valid ||| b }
  else { h with valid := h.valid ||| b, dirty := h.dirty ||| b, again := if h.leaving then h.again ||| b else h.again }

/-- Marks the access in a cached line: a pending fetch leaves the sector not valid until it returns (R206). -/
def lineTouched (l : CacheLine) (a : Nat) (k : AccessKind) (pend : Bool) : CacheLine :=
  let b := sectorBit a
  let valid := if k = .whole || !pend then l.valid ||| b else l.valid
  if k = .read then { l with valid := valid } else { l with valid := valid, dirty := l.dirty ||| b }

/-- One access to one sector of an HBM4 address at its home slice: tags, hold buffer, checks and counters (R206, R208, R209, R213, R216, R217). `pend` leaves a missing sector's fetch outstanding until SECTOR_FETCH_RETURN, and lets the access wait for a hold entry, which `none` shows. -/
def State.cacheAccess (s : State) (a cls : Nat) (k : AccessKind) (pend : Bool) : Option State :=
  let n := homeSlice a
  let line := a / 128
  let sl := s.slice n
  match sl.findHold line with
  | some h =>
    let hit := hasSector h.valid a
    let s := (s.countHit n cls hit).arrayCheck a k
    let s := if hit || k = .whole then s else s.countFetch a
    let s := if k = .reduce then s.bump F.sliceHoldMergesCount n 0 1 else s
    some (s.setSlice n ((s.slice n).putHold (holdTouched h a k)))
  | none =>
    let fetch (s : State) (hit : Bool) : State :=
      if hit || k = .whole then s
      else if pend then let sl := s.slice n; s.setSlice n { sl with fetching := NatSet.insert sl.fetching (a / 32) }
      else s.countFetch a
    match sl.find line with
    | some l =>
      let hit := hasSector l.valid a
      let s := fetch ((s.countHit n cls hit).arrayCheck a k) hit
      let sl := (s.slice n).putLine (lineTouched l a k (pend && !hit))
      some (s.setSlice n (sl.touch l.set l.way))
    | none =>
      match s.allocate n line (setOf a) pend with
      | none => none
      | some (s, some w) =>
        let s := fetch (s.countHit n cls false) false
        let sl := (s.slice n).putLine (lineTouched ⟨setOf a, w, line, 0, 0, false⟩ a k pend)
        some (s.setSlice n (sl.touch (setOf a) w))
      | some (s, none) =>
        if k = .read then some (fetch (s.countHit n cls false) false)
        else
          match s.addHold n line (sectorBit a) (sectorBit a) pend with
          | none => none
          | some s =>
            let s := s.countHit n cls false
            let s := if k = .whole then s else s.countFetch a
            some (if k = .reduce then s.bump F.sliceHoldMergesCount n 0 1 else s)

/-- One access to one sector of memory: a scratch access is served from the array (R203, R213). -/
def State.sectorAccess (s : State) (a cls : Nat) (k : AccessKind) (pend : Bool) : Option State :=
  match regionOf a with
  | .scratch => some ((s.bump F.sliceScratchSectorsCount (homeSlice a) 0 1).arrayCheck a k)
  | .hbm => if s.fld F.sliceConfigChannelFailed (homeSlice a) == 1 then some s else s.cacheAccess a cls k pend
  | _ => some s

/-! ## Values and poison -/

/-- Whether the sector of an address reads poisoned (R209, R223, R225, R434). -/
def State.poisoned (s : State) (a : Nat) : Bool :=
  NatSet.has s.poison (a / 32)
    || (regionOf a == .hbm && s.fld F.sliceConfigChannelFailed (homeSlice a) == 1)
    || (regionOf a == .scratch && (s.slice (homeSlice a)).failed)

/-- Whether a write to an address is discarded: a FAILED channel, or the scratch of a failed slice (R225, R434). -/
def State.discards (s : State) (a : Nat) : Bool :=
  (regionOf a == .hbm && s.fld F.sliceConfigChannelFailed (homeSlice a) == 1)
    || (regionOf a == .scratch && (s.slice (homeSlice a)).failed)

/-- Records a discarded write or reduction (R444). -/
def State.recordDiscard (s : State) (a : Nat) : State :=
  s.logError .slice (homeSlice a) uncorrected 0x00F (addrLocal a) (if regionOf a == .hbm then 0 else 1)

/-- The pieces of a range, sector by sector: address and length (R206). -/
def sectorPieces (a n : Nat) : List (Nat × Nat) :=
  (List.range ((a % 32 + n + 31) / 32)).map (fun k =>
    let lo := max a (a / 32 * 32 + 32 * k)
    (lo, min (a + n) (a / 32 * 32 + 32 * k + 32) - lo))

/-- Writes the bytes of one piece of a sector: a write of the whole sector sets its poison to `p`, a partial write leaves a poisoned sector poisoned (R209, R424). -/
def State.writePiece (s : State) (cls a : Nat) (data : List Byte) (p : Bool) (pend : Bool) : Option State :=
  if s.discards a then some (s.recordDiscard a)
  else
    let whole := data.length == 32 && a % 32 == 0
    match s.sectorAccess a cls (if whole then .whole else .part) pend with
    | none => none
    | some s =>
      let s := s.setBytes a data
      some (if whole || p then s.setPoison a p else s)

/-! ## Reductions (R214 to R216) -/

/-- One element summed modulo 2^(8·size) with a contribution of `csize` bytes, sign-extended. -/
def reduceElem (size csize : Nat) (old : List Byte) (x : Nat) : List Byte :=
  toBytes size (unsigned (8 * size) ((ofBytes old : Int) + signed (8 * csize) x))

/-- Adds contributions to consecutive elements of memory (R214). -/
def State.applyInts (s : State) (a size csize : Nat) (xs : List Nat) : State :=
  s.each (xs.zipIdx) (fun s xi =>
    let b := a + size * xi.2
    s.setBytes b (reduceElem size csize (s.bytes b size) xi.1))

/-- Merges a statistics record into the one in memory (R58, R214). -/
def State.applyStats (s : State) (a : Nat) (r : Stats) : State :=
  s.setNum a 32 ((Stats.decode (s.num a 32)).combine r).encode

/-- A reduction of integer contributions into consecutive elements within one sector (R214). -/
def State.reduceInts (s : State) (cls a size csize : Nat) (xs : List Nat) (pend : Bool) : Option State :=
  if s.discards a then some (s.recordDiscard a)
  else
    match s.sectorAccess a cls .reduce pend with
    | none => none
    | some s => some ((s.bump F.sliceReductionsCount (homeSlice a) 0 1).applyInts a size csize xs)

/-- A statistics record merged into memory (R58, R214). -/
def State.reduceStats (s : State) (cls a : Nat) (r : Stats) (pend : Bool) : Option State :=
  if s.discards a then some (s.recordDiscard a)
  else
    match s.sectorAccess a cls .reduce pend with
    | none => none
    | some s => some ((s.bump F.sliceReductionsCount (homeSlice a) 0 1).applyStats a r)

/-- The pieces of a run of elements, one per sector: address and contributions. -/
def elemPieces (size : Nat) : Nat → Nat → List Nat → List (Nat × List Nat)
  | 0, _, _ => []
  | fuel + 1, a, xs =>
    match xs with
    | [] => []
    | _ =>
      let k := (32 - a % 32) / size
      (a, xs.take k) :: elemPieces size fuel (a + size * k) (xs.drop k)

/-! ## Requests that wait for a hold entry (R217) -/

/-- The pieces of a write of one line, one after the other. -/
def State.writePieces (s : State) (cls a : Nat) (data : List Byte) (p pend : Bool) : Option State :=
  (sectorPieces a data.length).foldl (fun (r : Option State) pc =>
    r.bind (fun s => s.writePiece cls pc.1 ((data.drop (pc.1 - a)).take pc.2) p pend)) (some s)

/-- Whether a slice holds the sector of an address, in a line or in its hold buffer. -/
def Slice.holds (sl : Slice) (a : Nat) : Bool :=
  (sl.find (a / 128)).any (fun l => hasSector l.valid a) || (sl.findHold (a / 128)).any (fun h => hasSector h.valid a)

/-- A slice answers a read of a sector, with the data of the moment at which the read reached it (R207): at once, or with the fetch of a sector that it does not hold. -/
def State.answerRead (s : State) (a : Nat) : State :=
  let sl := s.slice (homeSlice a)
  let data := s.bytes (a / 32 * 32) 32
  if NatSet.has sl.fetching (a / 32) && !sl.holds a then
    s.setSlice (homeSlice a) { sl with reads := sl.reads ++ [⟨a / 32, data, s.poisoned a⟩] }
  else s.emit (.sliceData (a / 32 * 32) data (s.poisoned a))

/-- A slice performs a request; `none` where it waits for a hold entry. -/
def State.serveReq (s : State) (r : SliceReq) : Option State :=
  match r.ask with
  | .read => (s.sectorAccess r.addr r.cls .read true).map (fun s => s.answerRead r.addr)
  | .write d p => s.writePieces r.cls r.addr d p true
  | .ints size csize xs => s.reduceInts r.cls r.addr size csize xs true
  | .stats st => s.reduceStats r.cls r.addr st true

/-- Whether a request for an address waits at its slice behind one for the same set. A scratch access waits for nothing. -/
def State.setWaits (s : State) (a : Nat) : Bool :=
  regionOf a == .hbm && (s.slice (homeSlice a)).waitQ.any (fun r => setOf r.addr == setOf a)

/-- A request that has reached its slice: it is performed, or it waits, and so do later requests to its set (R207, R217). -/
def State.takeReq (s : State) (r : SliceReq) : State :=
  let wait : State := s.setSlice (homeSlice r.addr) { s.slice (homeSlice r.addr) with waitQ := (s.slice (homeSlice r.addr)).waitQ ++ [r] }
  if s.setWaits r.addr then wait else (s.serveReq r).getD wait

/-- The requests that wait at a slice are taken again in their order. -/
def State.retryWaiting (s : State) (n : Nat) : State :=
  (s.setSlice n { s.slice n with waitQ := [] }).each (s.slice n).waitQ State.takeReq

/-- What an access made inside one command waits for: while requests for its set wait, hold entries are freed and those requests served, oldest first (R207, R217). -/
def State.settle (s : State) (a : Nat) : Nat → State
  | 0 => s
  | k + 1 => if s.setWaits a then State.settle ((s.freeOldest (homeSlice a)).retryWaiting (homeSlice a)) a k else s

/-- An access waits its turn at its slice: each freed entry serves one waiting request at least. -/
def State.turn (s : State) (a : Nat) : State := s.settle a (s.slice (homeSlice a)).waitQ.length

/-! ## Accesses of the units (R206, R209) -/

/-- Writes a range of memory through the slices (R206). -/
def State.memWrite (s : State) (cls a : Nat) (data : List Byte) (p : Bool) : State :=
  s.each (sectorPieces a data.length) (fun s pc =>
    let s := s.turn pc.1
    (s.writePiece cls pc.1 ((data.drop (pc.1 - a)).take pc.2) p false).getD s)

/-- A read of a range at the slices: tags, counters and checks. -/
def State.memTouch (s : State) (cls a n : Nat) : State :=
  s.each (sectorPieces a n) (fun s pc =>
    let s := s.turn pc.1
    (s.sectorAccess pc.1 cls .read false).getD s)

/-- Whether any sector of a range is poisoned. -/
def State.anyPoison (s : State) (a n : Nat) : Bool := (sectorPieces a n).any (fun pc => s.poisoned pc.1)

/-- A read of memory through the slices: the state after it, the bytes, and whether any sector was poisoned (R206, R209). -/
def State.memRead (s : State) (cls a n : Nat) : State × List Byte × Bool :=
  let t := s.memTouch cls a n
  (t, t.bytes a n, t.anyPoison a n)

/-- A reduction of a run of elements, made sector by sector (R214, R216). -/
def State.memReduce (s : State) (cls a size csize : Nat) (xs : List Nat) : State :=
  s.each (elemPieces size xs.length a xs) (fun s p =>
    let s := s.turn p.1
    (s.reduceInts cls p.1 size csize p.2 false).getD s)

/-- A statistics record merged by a Tutor (R165, R214). -/
def State.memStats (s : State) (a : Nat) (r : Stats) : State :=
  let s := s.turn a
  (s.reduceStats 7 a r false).getD s

/-! ## Accesses over Hallway (R12, R218, R220, R228) -/

/-- Counts payload bytes that cross Hallway from one stack to another (R228); none cross a link that is DOWN. -/
def State.countHallway (s : State) (src dst n : Nat) : State :=
  if s.hallwayDown src dst then s else
  match hallwayLink src dst with
  | none => s
  | some l => if src < dst then s.bump F.hallwayBytesUpCount l 0 n else s.bump F.hallwayBytesDownCount l 0 n

/-- A write of a unit that is no thread's is dropped at a DOWN link, and recorded as R220 records those of threads (DESIGN CHOICE, log entry 27: R220 names an ADDRESS fault of a thread alone). -/
def State.dropAtLink (s : State) (src dst : Nat) : State :=
  match hallwayLink src dst with
  | none => s
  | some l => s.logError .hallway l uncorrected 0x010 1 0

/-- A unit of stack `st` that belongs to no thread reads `n` bytes. Over a DOWN link the data are poisoned, and their values free (R220; DESIGN CHOICE, log entry 27). -/
def State.readFrom (s : State) (st cls a n : Nat) : State × List Byte × Bool :=
  if s.hallwayDown st (addrStack a) then
    ({ s with freeNext := s.freeNext + 1 }, (List.range n).map (Config.lostByte s.freeNext), true)
  else
    let r := s.memRead cls a n
    (r.1.countHallway (addrStack a) st n, r.2.1, r.2.2)

/-- A unit of stack `st` that belongs to no thread writes bytes. -/
def State.writeFrom (s : State) (st cls a : Nat) (data : List Byte) (p : Bool) : State :=
  if s.hallwayDown st (addrStack a) then s.dropAtLink st (addrStack a)
  else (s.memWrite cls a data p).countHallway st (addrStack a) data.length

/-- A unit of stack `st` that belongs to no thread adds contributions of `csize` bytes to consecutive elements of `size` bytes. -/
def State.reduceFrom (s : State) (st cls a size csize : Nat) (xs : List Nat) : State :=
  if s.hallwayDown st (addrStack a) then s.dropAtLink st (addrStack a)
  else (s.memReduce cls a size csize xs).countHallway st (addrStack a) (csize * xs.length)

/-- The Tutor of stack `st` merges a statistics record at its home slice. -/
def State.statsFrom (s : State) (st a : Nat) (r : Stats) : State :=
  if s.hallwayDown st (addrStack a) then s.dropAtLink st (addrStack a)
  else (s.memStats a r).countHallway st (addrStack a) 32

/-! ## Requests, fetches and write-backs -/

/-- Whether the stack of an address is in service and the address is memory that a slice serves. -/
def State.served (s : State) (a : Nat) : Bool :=
  !s.outOfService (addrStack a) && (regionOf a == .hbm || (regionOf a == .scratch && s.scratchBacked a))

/-- A slice serves a read of the sector that holds `a` (R206, R209). -/
def sliceRead (s : State) (a cls : Nat) : State := if s.served a then s.takeReq ⟨a, cls, .read⟩ else s

/-- A slice performs a write within one line (R206, R207, R209). -/
def sliceWrite (s : State) (a : Nat) (data : List Byte) (p : Bool) (cls : Nat) : State :=
  if s.served a && a / 128 == (a + data.length - 1) / 128 && data.length != 0 then
    s.takeReq ⟨a, cls, .write data p⟩
  else s

/-- A slice performs a reduction of naturally aligned elements within one sector (R214). -/
def sliceReduce (s : State) (a size csize : Nat) (xs : List Nat) (cls : Nat) : State :=
  if s.served a && a % size == 0 && a % 32 + size * xs.length ≤ 32 && xs.length != 0 then
    s.takeReq ⟨a, cls, .ints size csize xs⟩
  else s

/-- How many wrong symbols of HBM4 a finding of the check stands for: two are corrected, three are not (R223). -/
def hbmSymbols : ScrubFinding → Nat
  | .clean => 0 | .corrected => 1 | .uncorrectable => 3
/-- How many wrong symbols of an array sector a finding stands for: one is corrected, two are not (R209). -/
def arraySymbols : ScrubFinding → Nat
  | .clean => 0 | .corrected => 1 | .uncorrectable => 2

/-- The reads that wait for a sector leave with its data, which `bad` says could not be corrected, in the order in which they came. -/
def State.replyReads (s : State) (n sector : Nat) (bad : Bool) : State :=
  let sl := s.slice n
  (s.setSlice n { sl with reads := sl.reads.filter (fun r => r.sector != sector) }).each
    (sl.reads.filter (fun r => r.sector == sector)) (fun s r => s.emit (.sliceData (32 * sector) r.data (r.poison || bad)))

/-- The sector of an address has been fetched: it is valid where the slice holds its line. -/
def Slice.fetched (sl : Slice) (a : Nat) : Slice :=
  { sl with
    fetching := NatSet.erase sl.fetching (a / 32)
    lines := sl.lines.map (fun l => if l.line == a / 128 then { l with valid := l.valid ||| sectorBit a } else l)
    hold := sl.hold.map (fun h => if h.line == a / 128 then { h with valid := h.valid ||| sectorBit a } else h) }

/-- The fetch of a sector returns (R206, R216, R223): what the check of its symbols found is added to what has gone wrong in the copy before. Data that cannot be corrected poison the sector, unless a write of the whole sector has replaced it since, and the reads that wait for them leave poisoned. -/
def sectorFetchReturn (s : State) (a : Nat) (found : ScrubFinding) : State :=
  let n := homeSlice a
  if NatSet.has (s.slice n).fetching (a / 32) then
    let wrong := Tab.get 0 s.hbmErr (a / 32) + hbmSymbols found
    let s := { s with hbmErr := Tab.set 0 s.hbmErr (a / 32) wrong }
    let poison := s.poison
    let kept := (s.slice n).holds a
    let s := s.countFetch a
    let s := if kept then { s with poison := poison } else s
    (s.setSlice n ((s.slice n).fetched a)).replyReads n (a / 32) (decide (2 < wrong))
  else s

/-- A write-back of a hold entry completes: the entry is freed unless something changed after its data left, and requests that wait for an entry are taken (R217). -/
def holdWritebackComplete (s : State) (n line : Nat) : State :=
  let sl := s.slice n
  match sl.findHold line with
  | none => s
  | some h =>
    let s := (s.leaveSlice line (if h.again = 0 then h.valid else 0) (h.dirty &&& ~~~h.again)).replaceHbm line (h.dirty &&& ~~~h.again)
    if h.again = 0 then ((s.setSlice n { sl with hold := sl.hold.filter (fun k => k.line != line) }).noteHold n).retryWaiting n
    else (s.setSlice n (sl.putHold { h with dirty := h.again, again := 0 })).countWriteback n h.again

/-- The hold buffer of a slice writes back whole, and the requests that waited for it are taken (R217). -/
def State.drainSlice (s : State) (n : Nat) : State := (s.each (s.slice n).hold (fun s _ => s.freeOldest n)).retryWaiting n

/-- Whether a slice can write back: its channel has not FAILED and its HBM4 has power (R449). -/
def State.writesBack (s : State) (n : Nat) : Bool := s.fld F.sliceConfigChannelFailed n != 1 && s.fld F.hbmStateMode (hbmOf n) != 2
/-- A line leaves a slice that cannot write it back: its dirty sectors are poisoned in HBM4, and each is recorded as lost (R449). -/
def State.loseLine (s : State) (l : CacheLine) : State :=
  let s := s.each [0, 1, 2, 3] (fun s k => if l.dirty.getLsbD k then (s.setPoison (128 * l.line + 32 * k) true).recordDiscard (128 * l.line + 32 * k) else s)
  s.leaveSlice l.line l.valid l.dirty

/-- Writes back and drops every cache line and hold entry of a slice that `keep` does not keep (R205, R222, R449). -/
def State.flushSlice (s : State) (n : Nat) (keep : CacheLine → Bool) : State :=
  let sl := s.slice n
  let gone := sl.lines.filter (fun l => !keep l)
  let s := s.each gone (fun s l =>
    if s.writesBack n then (((s.readLine l.line l.dirty).countWriteback n l.dirty).leaveSlice l.line l.valid l.dirty).replaceHbm l.line l.dirty
    else s.loseLine l)
  let s := s.each sl.hold (fun s _ => s.freeOldest n)
  ((s.setSlice n { (s.slice n) with lines := sl.lines.filter keep, fetching := [], reads := [] }).noteHold n).retryWaiting n

/-! ## Pins (R210 to R212) -/

/-- The module address of a pin command's line on the slice's own stack. -/
def pinAddr (n line : Nat) : Nat := n / 256 * 2 ^ 48 + line * 128
/-- The pinned lines of a set. -/
def Slice.pinnedIn (sl : Slice) (set : Nat) : Nat := (sl.lines.filter (fun l => l.set == set && l.pinned)).length
/-- The PINNED count (R226). -/
def State.notePins (s : State) (n : Nat) : State :=
  s.setFld F.slicePinnedCount n 0 ((s.slice n).lines.filter (fun l => l.pinned)).length

/-- The sectors of a line that a mask does not hold are fetched. -/
def State.fetchRest (s : State) (line : Nat) (valid : BitVec 4) : State :=
  s.each [0, 1, 2, 3] (fun s k => if valid.getLsbD k then s else s.countFetch (128 * line + 32 * k))

/-- Every sector of a line fetched where it is absent, and the line pinned (R211); `none` while its eviction waits for the hold buffer. -/
def State.pinInstall (s : State) (n a : Nat) (wait : Bool) : Option State :=
  let line := a / 128
  match (s.slice n).find line with
  | some l =>
    let s := s.fetchRest line l.valid
    some ((s.setSlice n ((s.slice n).putLine { l with valid := 15, pinned := true })).notePins n)
  | none =>
    match s.allocate n line (setOf a) wait with
    | some (s, some w) =>
      let s := s.fetchRest line 0
      some ((s.setSlice n ((s.slice n).putLine ⟨setOf a, w, line, 15, 0, true⟩)).notePins n)
    | _ => none

/-- The end of the pin command at the front of a slice's queue, with its result (R211). -/
def State.pinDone (s : State) (n result : Nat) : State :=
  let sl := s.slice n
  let s := s.setSlice n { sl with pinQ := sl.pinQ.drop 1 }
  (s.setFld F.slicePinStatusLastResult n 0 result).setFld F.slicePinStatusQueued n 0 (sl.pinQ.length - 1)

/-- A queued PIN is served (R211). A pin of a line in the hold buffer waits. -/
def pinServe (s : State) (n : Nat) : State :=
  let sl := s.slice n
  match sl.pinQ with
  | [] => s
  | c :: _ =>
    let a := pinAddr n c.line
    if c.unpin then s
    else if regionOf a != .hbm || homeSlice a != n then s.pinDone n 2
    else if (sl.find (a / 128)).any (fun l => l.pinned) then s.pinDone n 0
    else if s.fld F.sliceConfigPinCap n ≤ sl.pinnedIn (setOf a) then
      (s.pinDone n 1).bumpSat F.slicePinRefusedCount n 0 1
    else if (sl.findHold (a / 128)).isSome then s
    else
      match s.pinInstall n a true with
      | some s => s.pinDone n 0
      | none => s

/-- A queued UNPIN is served (R211, R212). -/
def unpinServe (s : State) (n : Nat) : State :=
  let sl := s.slice n
  match sl.pinQ with
  | [] => s
  | c :: _ =>
    let a := pinAddr n c.line
    if !c.unpin then s
    else if regionOf a != .hbm || homeSlice a != n then s.pinDone n 2
    else
      match sl.find (a / 128) with
      | some l =>
        if l.pinned then ((s.setSlice n (sl.putLine { l with pinned := false })).notePins n).pinDone n 0
        else s.pinDone n 3
      | none => s.pinDone n 3

/-- A write of SLICE.PIN_CMD: the command is queued, or discarded with OVERRUN while 8 are queued (R211). -/
def pinCommand (s : State) (n : Nat) (unpin : Bool) (line : Nat) : State :=
  let sl := s.slice n
  if sl.pinQ.length < 8 then
    (s.setSlice n { sl with pinQ := sl.pinQ ++ [⟨unpin, line⟩] }).setFld F.slicePinStatusQueued n 0 (sl.pinQ.length + 1)
  else s.setFld F.slicePinStatusOverrun n 0 1

/-! ## The commands -/

/-- SLICE_READ (R206). -/
def execSliceRead (addr : Nat) (cls : Fin 8) (s : State) : Host.Outcome State Fault Refusal := .next (sliceRead s addr cls.val)
/-- SLICE_WRITE (R206). -/
def execSliceWrite (addr : Nat) (data : List Byte) (poison : Bool) (cls : Fin 8) (s : State) : Host.Outcome State Fault Refusal :=
  .next (sliceWrite s addr data poison cls.val)
/-- REDUCE_ADD32 (R214). -/
def execReduceAdd32 (addr : Nat) (data : List (BitVec 32)) (cls : Fin 8) (s : State) : Host.Outcome State Fault Refusal :=
  .next (sliceReduce s addr 4 4 (data.map BitVec.toNat) cls.val)
/-- REDUCE_ADD64 (R214). -/
def execReduceAdd64 (addr : Nat) (data : List Word) (cls : Fin 8) (s : State) : Host.Outcome State Fault Refusal :=
  .next (sliceReduce s addr 8 8 (data.map BitVec.toNat) cls.val)
/-- REDUCE_ADD32TO64 (R214). -/
def execReduceAdd32to64 (addr : Nat) (data : List (BitVec 32)) (cls : Fin 8) (s : State) : Host.Outcome State Fault Refusal :=
  .next (sliceReduce s addr 8 4 (data.map BitVec.toNat) cls.val)
/-- REDUCE_STATS (R214): the home Tutor's merge, traffic class INTAKE (R213). -/
def execReduceStats (addr : Nat) (r : BitVec 256) (s : State) : Host.Outcome State Fault Refusal :=
  .next (if s.served addr && addr % 32 == 0 then s.takeReq ⟨addr, 7, .stats (Stats.decode r.toNat)⟩ else s)
/-- SECTOR_FETCH_RETURN (R206, R223). -/
def execSectorFetchReturn (addr : Nat) (found : ScrubFinding) (s : State) : Host.Outcome State Fault Refusal :=
  .next (sectorFetchReturn s addr found)
/-- HOLD_WRITEBACK_COMPLETE (R217). -/
def execHoldWritebackComplete (sl : SliceId) (line : Nat) (s : State) : Host.Outcome State Fault Refusal :=
  .next (holdWritebackComplete s sl.val line)
/-- PIN (R211). -/
def execPin (sl : SliceId) (s : State) : Host.Outcome State Fault Refusal := .next (pinServe s sl.val)
/-- UNPIN (R211). -/
def execUnpin (sl : SliceId) (s : State) : Host.Outcome State Fault Refusal := .next (unpinServe s sl.val)

end Sys2Proof.Machine
end

