-- ==== Sys2Proof/Machine/Fabric.lean ====
section
/-!
DEFINITION. The transaction layer of Lummir: the tracker, requests and their checks, the operations at the home slice, responses, timeouts and quarantine (R289 to R310).
-/
namespace Sys2Proof.Machine

/-! ## Statuses (R306) -/

/-- OK. -/
abbrev fOK : Nat := 0
/-- ADDRESS. -/
abbrev fADDRESS : Nat := 1
/-- DENIED. -/
abbrev fDENIED : Nat := 2
/-- POISON. -/
abbrev fPOISON : Nat := 3
/-- EPOCH. -/
abbrev fEPOCH : Nat := 4
/-- NO_ROUTE. -/
abbrev fNO_ROUTE : Nat := 5
/-- LINK_DOWN. -/
abbrev fLINK_DOWN : Nat := 6
/-- TIMEOUT. -/
abbrev fTIMEOUT : Nat := 7
/-- UNSUPPORTED. -/
abbrev fUNSUPPORTED : Nat := 8
/-- MEMORY_FAILED. -/
abbrev fMEMORY_FAILED : Nat := 9
/-- OFFLINE. -/
abbrev fOFFLINE : Nat := 0xA
/-- NOTIFY_FULL. -/
abbrev fNOTIFY_FULL : Nat := 0xB

/-! ## The peer epoch table (R336) -/

/-- Records an epoch for a seat. -/
def State.setPeerEpoch (s : State) (seat e : Nat) : State :=
  s.setReg .corridorPeerEpoch 0 (seat / 2) (putBits (s.reg .corridorPeerEpoch 0 (seat / 2)) (seat % 2 * 16) 16 (e % 4096 + 2 ^ 15))
/-- A received epoch replaces the recorded one where none is known, or where it lies 1 to 2,047 ahead. -/
def State.learnEpoch (s : State) (seat e : Nat) : State :=
  match s.peerEpoch seat with
  | none => s.setPeerEpoch seat e
  | some r =>
    let d := (e + 4096 - r) % 4096
    if 1 ≤ d ∧ d ≤ 2047 then s.setPeerEpoch seat e else s

/-! ## Failing a collective instance (R324) -/

/-- An instance that is running fails with a status: the counters, the record, and its status kept for the completion word. -/
def State.failInstance (s : State) (st coll : Nat) (step : BitVec 32) (status : Nat) : State :=
  let a := s.assembly st
  if a.insts.any (fun i => i.coll == coll && i.step == step && i.failed.isNone && !i.complete) then
    let s := s.setAssembly st { a with insts := a.insts.map (fun i =>
      if i.coll == coll && i.step == step && !i.complete then { i with failed := some (BitVec.ofNat 4 status) } else i) }
    let s := s.bumpSat F.assemblyFailedCount st 0 1
    let s := s.setReg .assemblyLastFail st 0 (coll + status * 2 ^ 16 + step.toNat * 2 ^ 32)
    s.logError .assembly st uncorrected 0x013 coll (status + step.toNat * 2 ^ 32)
  else s

/-- A packet of a collective has had its response: OK, or the instance that sent it fails (R324). An instance that a packet began knows bits [15:0] of its step until a local input names all of it, so the instance is found by those (R322). -/
def State.packetDone (s : State) (st coll : Nat) (step : BitVec 32) (status : Nat) : State :=
  let a := s.assembly st
  let it (i : Instance') : Bool := i.coll == coll && i.step.setWidth 16 == step.setWidth 16
  let s := s.setAssembly st { a with insts := a.insts.map (fun i => if it i then { i with unacked := i.unacked - 1 } else i) }
  if status == fOK then s else s.each (a.insts.filter it) (fun s i => s.failInstance st coll i.step status)

/-! ## The tracker (R308, R309) -/

/-- A response's status, data and POISON bits. -/
abbrev Answer := Nat × List Byte × BitVec 4

/-- The stack of a TID (R296). -/
def tidStack (tid : Nat) : Nat := tid / 2 ^ 16 % 4
/-- The entries of a stack. -/
def State.entriesOf (s : State) (st : Nat) : List TrackEntry := s.trackers.filter (fun t => tidStack t.entry == st)
/-- The least entry of a stack that is free, as a TID; none where all 65,536 are in use. -/
def State.freeTid (s : State) (st : Nat) : Option Nat :=
  let used := s.entriesOf st
  ((List.range (min (used.length + 1) 65536)).map (fun k => st * 2 ^ 16 + k)).find? (fun t => !used.any (fun u => u.entry == t))
/-- TRACKER and TRACKER_PEAK after a change. -/
def State.noteTracker (s : State) (st : Nat) : State :=
  let n := (s.entriesOf st).length
  (s.setFld F.fabricTrackerInUse (4 * st) 0 n).setFld F.fabricTrackerPeakPeak (4 * st) 0 (max n (s.fld F.fabricTrackerPeakPeak (4 * st)))

/-- A status other than OK is counted and recorded (R306, R444). One that R306 never sends has no count (DESIGN CHOICE, log entry 28). -/
def State.countStatus (s : State) (st addr status : Nat) : State :=
  if status == fOK then s
  else (if status ≤ fNOTIFY_FULL then s.bumpSat F.fabricErrCount (4 * st) (status - 1) 1 else s).logError .fabric (4 * st) uncorrected 0x012 addr status

/-- A transaction of a stack completes at its initiator, which receives its status, and its data where it has any: a collective packet reports to its instance (R306, R308, R324). -/
def State.finishTrans (s : State) (st : Nat) (by' : Initiator) (addr : Nat) (coll : Option (BitVec 10 × BitVec 32)) (r : Answer) : State :=
  let s := s.countStatus st addr r.1
  match coll with
  | some (c, step) => s.packetDone st c.toNat step r.1
  | none => s.emit (.sunk (Fin.ofNat 4 st) by' (BitVec.ofNat 64 addr) r.1 r.2.1 r.2.2)

/-- The entry of a TID completes, and is freed: its status and data go to the place that the entry holds, its initiator's for the address it named (R308). -/
def State.sinkTid (s : State) (tid : Nat) (r : Answer) : State :=
  match s.trackers.find? (fun t => t.entry == tid && !t.quarantine) with
  | none => s
  | some t =>
    let s := { s with trackers := s.trackers.filter (fun u => u.entry != tid) }
    (s.noteTracker (tidStack tid)).finishTrans (tidStack tid) t.by' t.addr.toNat t.coll r

/-- The entry of a TID completes with a status and no data. -/
def State.completeTid (s : State) (tid status : Nat) : State := s.sinkTid tid (status, [], 0)

/-! ## Shapes of requests (R297, R298) -/

/-- The bytes of memory a request names. -/
def reqBytes (len : BitVec 4) : Nat := 8 * (len.toNat + 1)
/-- Whether `n` bytes from an address stay in one 128-byte line. -/
def inLine (a n : Nat) : Bool := a / 128 == (a + n - 1) / 128
/-- The kinds of operation (R297): 0 LOAD, 1 STORE and STORE_NOTIFY, 2 reductions, 3 atomics of 64 bits, 4 of 128 bits. -/
def opClass : FabOp → Nat
  | .load => 0
  | .store | .storeNotify => 1
  | .fxadd32 | .fxadd64 | .fxadd32to64 => 2
  | .add64 | .min64 | .max64 | .swap64 | .cas64 => 3
  | .add128 | .min128 | .max128 | .swap128 | .cas128 => 4
/-- Whether a request has a shape that R298 supports. -/
def reqShape (op : FabOp) (len : BitVec 4) (addr : Nat) : Bool :=
  match op with
  | .fxadd32to64 => 1 ≤ len.toNat && reqBytes len % 16 == 0 && addr % 16 == 0 && inLine addr (reqBytes len)
  | _ =>
    match opClass op with
    | 3 => len == 0 && addr % 8 == 0
    | 4 => len == 1 && addr % 16 == 0
    | _ => addr % 8 == 0 && inLine addr (reqBytes len)
/-- The data slots of a request (R297). -/
def reqSlots (op : FabOp) (len : BitVec 4) : Nat :=
  match op with
  | .load => 0
  | .storeNotify => (reqBytes len + 15) / 16 + 1
  | .fxadd32to64 => (reqBytes len + 31) / 32
  | .cas128 => 2
  | .add64 | .min64 | .max64 | .swap64 | .cas64 | .add128 | .min128 | .max128 | .swap128 => 1
  | .store | .fxadd32 | .fxadd64 => (reqBytes len + 15) / 16
/-- The data slots of the response to an operation. -/
def respBytes (op : FabOp) (len : BitVec 4) : Nat :=
  match opClass op with
  | 0 => reqBytes len
  | 3 => 8
  | 4 => 16
  | _ => 0

/-! ## Performing a request at the home slice (R299 to R302, R307) -/

/-- The POISON bits of a read: bit k for the k-th sector that it touches (R296). -/
def State.poisonBits (s : State) (a n : Nat) : BitVec 4 :=
  BitVec.ofNat 4 (((sectorPieces a n).zipIdx.map (fun p => if s.poisoned p.1.1 then 2 ^ p.2 else 0)).sum)

/-- The new value of an atomic of `w` bits; a CAS takes compare in `x` and swap in `y` (R299). -/
def atomicNew (op : FabOp) (w old x y : Nat) : Nat :=
  match op with
  | .add64 | .add128 => (old + x) % 2 ^ w
  | .min64 | .min128 => if signed w x < signed w old then x else old
  | .max64 | .max128 => if signed w old < signed w x then x else old
  | .swap64 | .swap128 => x
  | .cas64 | .cas128 => if old == x then y else old
  | _ => old

/-- The sectors of a write whose POISON bit is set. -/
def poisonedPieces (a n : Nat) (p : BitVec 4) : List (Nat × Nat) :=
  ((sectorPieces a n).zipIdx.filter (fun x => p.getLsbD x.2)).map (fun x => x.1)

/-- Writes the data of a STORE, its poisoned sectors written poisoned (R307). -/
def State.fabStore (s : State) (a : Nat) (data : List Byte) (p : BitVec 4) : State :=
  let bad := poisonedPieces a data.length p
  s.each (sectorPieces a data.length) (fun s pc =>
    s.memWrite 6 pc.1 ((data.drop (pc.1 - a)).take pc.2) (bad.elem pc))

/-- A notification record (R301). -/
def notifyRecord (local' : Nat) (len src srcEpoch note : Nat) : Nat :=
  local' % 2 ^ 48 + len * 2 ^ 48 + src * 2 ^ 64 + srcEpoch * 2 ^ 76 + note * 2 ^ 96

/-- Appends a notification record to the notify ring of a stack, or answers NOTIFY_FULL (R301, R302). A count of records read that reads poisoned shows no room (DESIGN CHOICE, log entry 28). -/
def State.notify (s : State) (st : Nat) (rec' : Nat) : State × Nat :=
  let i := 4 * st
  let tail := s.reg .fabricNotifyTail i
  let n := s.reg .fabricNotifyEntries i
  let base := s.reg .fabricNotifyBase i
  let (s, head, bad) := s.readFrom st 6 (s.reg .fabricNotifyHeadAddr i) 8
  if bad || idxDiff' tail (ofBytes head) == n then (s.bumpSat F.fabricNotifyFullCount i 0 1, fNOTIFY_FULL)
  else ((s.writeFrom st 6 (base + 16 * (tail % n)) (toBytes 16 rec') false).setReg .fabricNotifyTail i 0 (tail + 1), fOK)
where
  /-- The records not yet read, modulo 2^32. -/
  idxDiff' (a b : Nat) : Nat := (a + 2 ^ 32 - b % 2 ^ 32) % 2 ^ 32

/-- A list of bytes taken as elements of `n` bytes. -/
def elemsOf (n : Nat) (b : List Byte) : List Nat := (List.range (b.length / n)).map (fun k => ofBytes ((b.drop (n * k)).take n))

/-- Performs a LOAD at module address `a` (R302): an error that the access finds has poisoned its sector before the data leave (R209). -/
def State.performLoad (s : State) (a : Nat) (m : FabReq) : State × Answer :=
  let n := reqBytes m.len
  let t := s.memTouch 6 a n
  let p := t.poisonBits a n
  (t, if p = 0 then fOK else fPOISON, t.bytes a n, p)

/-- The notification of a STORE_NOTIFY (R301); a STORE has none. -/
def State.noteStore (s : State) (note : Bool) (a : Nat) (m : FabReq) : State × Nat :=
  if note then s.notify (addrStack a) (notifyRecord m.addr.toNat m.len.toNat m.src.toNat m.srcEpoch.toNat m.note.toNat) else (s, fOK)

/-- The data of a STORE or STORE_NOTIFY, then its notification (R301, R302). -/
def State.storeAndNote (s : State) (note : Bool) (a : Nat) (m : FabReq) : State × Nat :=
  (s.fabStore a (m.data.take (reqBytes m.len)) m.poison).noteStore note a m

/-- Performs a STORE, or a STORE_NOTIFY with its record (R301, R302). -/
def State.performStore (s : State) (note : Bool) (a : Nat) (m : FabReq) : State × Answer :=
  if s.discards a then (s.recordDiscard a, fMEMORY_FAILED, [], 0)
  else
    let r := s.storeAndNote note a m
    (r.1, if r.2 != fOK then r.2 else if m.poison = 0 then fOK else fPOISON, [], 0)

/-- The contributions of a reduction, added to memory (R300). -/
def State.fxReduce (s : State) (op : FabOp) (a n : Nat) (data : List Byte) : State :=
  match op with
  | .fxadd32 => s.memReduce 6 a 4 4 (elemsOf 4 (data.take n))
  | .fxadd64 => s.memReduce 6 a 8 8 (elemsOf 8 (data.take n))
  | _ => s.memReduce 6 a 8 4 (elemsOf 4 (data.take (n / 2)))

/-- Performs a reduction (R300, R307). -/
def State.performReduce (s : State) (op : FabOp) (a : Nat) (m : FabReq) : State × Answer :=
  if s.discards a then (s.recordDiscard a, fMEMORY_FAILED, [], 0)
  else
    let n := reqBytes m.len
    let t := s.fxReduce op a n m.data
    (t.each (poisonedPieces a n m.poison) (fun s pc => s.setPoison pc.1 true),
      if t.anyPoison a n || m.poison != 0 then fPOISON else fOK, [], 0)

/-- Performs an atomic, one access to its sector (R299, R307); one whose own data are poisoned makes none. -/
def State.performAtomic (s : State) (op : FabOp) (a : Nat) (m : FabReq) : State × Answer :=
  let w := if opClass op == 4 then 16 else 8
  if s.discards a then (s.recordDiscard a, fMEMORY_FAILED, List.replicate w 0, 0)
  else if m.poison != 0 then (s, fPOISON, List.replicate w 0, 0)
  else
    let s := s.turn a
    let t := (s.sectorAccess a 6 .part false).getD s
    let old := t.num a w
    if t.poisoned a then (t, fPOISON, List.replicate w 0, 0)
    else (t.setBytes a (toBytes w (atomicNew op (8 * w) old (ofBytes (m.data.take w)) (ofBytes ((m.data.drop w).take w)))), fOK, toBytes w old, 0)

/-- Performs an operation at module address `a` (R299 to R302, R307). -/
def State.perform (s : State) (op : FabOp) (a : Nat) (m : FabReq) : State × Answer :=
  let s := s.bump F.fabricServedCount (4 * addrStack a) 0 1
  match op with
  | .load => s.performLoad a m
  | .store => s.performStore false a m
  | .storeNotify => s.performStore true a m
  | .fxadd32 | .fxadd64 | .fxadd32to64 => s.performReduce op a m
  | .add64 | .min64 | .max64 | .swap64 | .cas64 | .add128 | .min128 | .max128 | .swap128 | .cas128 => s.performAtomic op a m

/-! ## The checks of an inbound request (R305) -/

/-- The home stack of the address that a request names. -/
def reqHome (m : FabReq) : Nat := addrStack (fabModule m.addr.toNat)

/-- Steps 5 to 9 for a request that enters at a stack of a partition: the status of the first check that fails, or none. -/
def State.reqRefusal (s : State) (atStack part : Nat) (op : FabOp) (m : FabReq) : Option Nat :=
  if !reqShape op m.len m.addr.toNat then some fUNSUPPORTED
  else if s.partOf (reqHome m) != part then some fDENIED
  else if s.offline (reqHome m) then some fOFFLINE
  else if !s.rangeIsMemory (fabModule m.addr.toNat) (reqBytes m.len) then some fADDRESS
  else if s.hallwayDown atStack (reqHome m) then some fLINK_DOWN
  else none

/-- An answer with a status and no result: each data byte that its operation returns is 0 (R296). -/
def refused (op : FabOp) (m : FabReq) (status : Nat) : Answer := (status, List.replicate (respBytes op m.len) 0, 0)

/-- Step 10: what a request carries crosses Hallway to its home stack, where it is performed (R218, R228). -/
def State.performFrom (s : State) (atStack : Nat) (op : FabOp) (m : FabReq) : State × Answer :=
  (s.countHallway atStack (reqHome m) m.data.length).perform op (fabModule m.addr.toNat) m

/-- Steps 1 to 3, which discard a message without a response; the message passes where the answer is true (R305). -/
def State.admitMessage (s : State) (p : Port) (dst src srcEpoch : Nat) (needEntry : Bool) : State × Bool :=
  if !s.seatValid then (s, false)
  else if dst != s.seat then (s.bumpSat F.fabricMisroutedCount p 0 1, false)
  else if needEntry && (s.coverEntry (s.partOfPort p) src (fun e => bitOf e 2)).isNone then (s.bumpSat F.fabricDeniedCount p 0 1, false)
  else if s.peerEpoch src != some srcEpoch then (s.bumpSat F.fabricStaleEpochCount p 0 1, false)
  else (s, true)

/-- Sends the response to a message that arrived on a port, from the stack `home` that answers it to the stack of the port that it leaves by; discarded where no entry covers its seat, its port is not UP, or the Hallway link between the two is DOWN (R218, R292, R305; the link: DESIGN CHOICE, log entry 27). -/
def State.respond (s : State) (p : Port) (home local' : Nat) (r : FabResp) : State :=
  match s.coverEntry (s.partOfPort p) r.dst.toNat (fun _ => true) with
  | none => s
  | some e =>
    match choosePort (winPorts e) local' with
    | some q => if s.hallwayDown home (stackOfPort q) then s else (s.countHallway home (stackOfPort q) r.data.length).portSend q 2 (.response r)
    | none => s

/-- The response that carries an answer back to a request's sender (R296). -/
def reqAnswer (m : FabReq) (s : State) (r : Answer) : FabResp :=
  ⟨m.src, BitVec.ofNat 12 s.seat, m.tid, m.len, m.srcEpoch, BitVec.ofNat 12 s.seatEpoch, BitVec.ofNat 4 r.1, r.2.2, r.2.1⟩

/-- An inbound request of any operation (R305): on a port, or looped back from an initiator's stack, whose tracker entry then completes. -/
def inbound (s : State) (a : Arrival) (op : FabOp) (m : FabReq) : State :=
  match a with
  | .loop st =>
    match s.reqRefusal st.val (s.partOf st.val) op m with
    | some f => s.sinkTid m.tid.toNat (refused op m f)
    | none =>
      let (s, answer) := s.performFrom st.val op m
      (s.countHallway (reqHome m) st.val answer.2.1.length).sinkTid m.tid.toNat answer
  | .port p =>
    let (s, ok) := s.admitMessage p m.dst.toNat m.src.toNat m.srcEpoch.toNat true
    if ok then
      let refusal := if m.dstEpoch.toNat != s.seatEpoch then some fEPOCH else s.reqRefusal (stackOfPort p) (s.partOfPort p) op m
      match refusal with
      | some f => s.respond p (stackOfPort p) m.addr.toNat (reqAnswer m s (refused op m f))
      | none =>
        let (s, answer) := s.performFrom (stackOfPort p) op m
        s.respond p (reqHome m) m.addr.toNat (reqAnswer m s answer)
    else s

/-! ## Issue (R289 to R294, R303, R308) -/

/-- Whether an operation is a write that a later STORE_NOTIFY of its initiator follows (R303). -/
def FabOp.before : FabOp → Bool
  | .store | .storeNotify | .fxadd32 | .fxadd64 | .fxadd32to64 => true
  | _ => false

/-- Whether a request has to wait: a STORE_NOTIFY for earlier requests of its initiator to the seat, any request for a free tracker entry (R303, R308). -/
def State.mustHold (s : State) (st : StackId) (r : FabIssue) : Bool :=
  (r.op == .storeNotify && s.trackers.any (fun t => tidStack t.entry == st.val && t.by' == r.by' && t.seat.toNat == fabSeat r.addr.toNat
      && !t.quarantine && (t.op.map FabOp.before).getD false))
    || (s.freeTid st).isNone

/-- A request is sent, or completes at once with NO_ROUTE or LINK_DOWN, or is looped back and performed (R291 to R294). To a port of another stack it crosses Hallway (R218); over a link that is DOWN it completes LINK_DOWN (DESIGN CHOICE, log entry 27). -/
def State.issueNow (s : State) (st : StackId) (r : FabIssue) : State :=
  let addr := r.addr.toNat
  let part := s.partOf st.val
  let fail (s : State) (status : Nat) : State := s.finishTrans st.val r.by' addr none (status, [], 0)
  let s := s.bump F.fabricIssuedCount (4 * st.val) 0 1
  let msg (tid de : Nat) : FabReq :=
    ⟨BitVec.ofNat 12 (fabSeat addr), BitVec.ofNat 12 s.seat, BitVec.ofNat 18 tid, r.len, r.bulk, BitVec.ofNat 48 addr,
      BitVec.ofNat 12 de, BitVec.ofNat 12 s.seatEpoch, r.poison, r.data, r.note⟩
  let track (s : State) (tid : Nat) (port : Option Nat) : State :=
    ({ s with trackers := s.trackers ++ [TrackEntry.mk tid (some r.op) r.by' (BitVec.ofNat 12 (fabSeat addr)) r.addr port none false] }).noteTracker st.val
  match s.freeTid st with
  | none => s
  | some tid =>
    if !s.seatValid || !(fabWindow addr == 1 || fabWindow addr == 2) then fail s fNO_ROUTE
    else if fabSeat addr == s.seat then inbound (track s tid none) (.loop st) r.op (msg tid s.seatEpoch)
    else
      match s.outEntry part addr with
      | none => fail s fNO_ROUTE
      | some e =>
        match choosePort (winPorts e) (bits addr 0 48) with
        | none => fail s fNO_ROUTE
        | some p =>
          if s.hallwayDown st.val (stackOfPort p) then fail s fLINK_DOWN
          else if s.link p == lUP || s.link p == lRETRAINING then
            ((track s tid (some p)).countHallway st.val (stackOfPort p) r.data.length).portSend p (if r.bulk then 3 else 1)
              (.request r.op (msg tid ((s.peerEpoch (fabSeat addr)).getD 0)))
          else fail s fLINK_DOWN

/-- Requests that were held are issued, in order, where nothing holds them any longer. -/
def State.retryHeld (s : State) : State :=
  let held := s.heldReqs
  ({ s with heldReqs := [] }).each held (fun s h =>
    if s.mustHold h.st h.req || s.heldReqs.any (fun k => k.st == h.st && k.req.by' == h.req.by') then { s with heldReqs := s.heldReqs ++ [h] }
    else s.issueNow h.st h.req)

/-- FABRIC_REQUEST_ISSUE: an initiator never sends a request that R298 does not support (R291, R298, R303, R308). -/
def fabricRequestIssue (s : State) (st : StackId) (r : FabIssue) : State :=
  if !reqShape r.op r.len (bits r.addr.toNat 0 48) then s
  else if s.mustHold st r || s.heldReqs.any (fun k => k.st == st && k.req.by' == r.by') then { s with heldReqs := s.heldReqs ++ [⟨st, r⟩] }
  else (s.issueNow st r).retryHeld

/-! ## Responses, timeouts, quarantine (R305, R308, R309) -/

/-- RESPONSE: checked under steps 1 and 3, then matched by TID; late ones are counted (R305, R308, R309). -/
def response (s : State) (a : Arrival) (m : FabResp) : State :=
  let go (s : State) : State :=
    if s.trackers.any (fun t => t.entry == m.tid.toNat && !t.quarantine) then (s.sinkTid m.tid.toNat (m.status.toNat, m.data, m.poison)).retryHeld
    else s.bumpSat F.fabricLateResponsesCount (4 * tidStack m.tid.toNat) 0 1
  match a with
  | .loop _ => go s
  | .port p =>
    let (s, ok) := s.admitMessage p m.dst.toNat m.src.toNat m.srcEpoch.toNat false
    let st := tidStack m.tid.toNat
    if !ok || s.hallwayDown (stackOfPort p) st then s else go (s.countHallway (stackOfPort p) st m.data.length)

/-- TRANSACTION_TIMEOUT: the entry completes TIMEOUT and stays quarantined (R309). -/
def transactionTimeout (s : State) (st : StackId) (n : Nat) : State :=
  let tid := st.val * 2 ^ 16 + n
  match s.trackers.find? (fun t => t.entry == tid && !t.quarantine) with
  | none => s
  | some t =>
    let s := { s with trackers := s.trackers.map (fun (u : TrackEntry) => if u.entry == tid then { u with quarantine := true } else u) }
    ((s.bumpSat F.fabricTimeoutsCount (4 * st.val) 0 1).finishTrans st.val t.by' t.addr.toNat t.coll (fTIMEOUT, [], 0)).retryHeld

/-- QUARANTINE_EXPIRY: the entry becomes free (R309). -/
def quarantineExpiry (s : State) (st : StackId) (n : Nat) : State :=
  let tid := st.val * 2 ^ 16 + n
  (({ s with trackers := s.trackers.filter (fun t => !(t.entry == tid && t.quarantine)) }).noteTracker st.val).retryHeld

/-! ## The commands -/

/-- FABRIC_REQUEST_ISSUE (R291). -/
def execFabricRequestIssue (st : StackId) (r : FabIssue) (s : State) : Host.Outcome State Fault Refusal := .next (fabricRequestIssue s st r)
/-- LOAD (R297). -/
def execLoad (a : Arrival) (m : FabReq) (s : State) : Host.Outcome State Fault Refusal := .next (inbound s a .load m)
/-- STORE (R297). -/
def execStore (a : Arrival) (m : FabReq) (s : State) : Host.Outcome State Fault Refusal := .next (inbound s a .store m)
/-- STORE_NOTIFY (R301). -/
def execStoreNotify (a : Arrival) (m : FabReq) (s : State) : Host.Outcome State Fault Refusal := .next (inbound s a .storeNotify m)
/-- FXADD32 (R300). -/
def execFxadd32 (a : Arrival) (m : FabReq) (s : State) : Host.Outcome State Fault Refusal := .next (inbound s a .fxadd32 m)
/-- FXADD64 (R300). -/
def execFxadd64 (a : Arrival) (m : FabReq) (s : State) : Host.Outcome State Fault Refusal := .next (inbound s a .fxadd64 m)
/-- FXADD32TO64 (R300). -/
def execFxadd32to64 (a : Arrival) (m : FabReq) (s : State) : Host.Outcome State Fault Refusal := .next (inbound s a .fxadd32to64 m)
/-- ADD64 (R299). -/
def execAdd64 (a : Arrival) (m : FabReq) (s : State) : Host.Outcome State Fault Refusal := .next (inbound s a .add64 m)
/-- MIN64 (R299). -/
def execMin64 (a : Arrival) (m : FabReq) (s : State) : Host.Outcome State Fault Refusal := .next (inbound s a .min64 m)
/-- MAX64 (R299). -/
def execMax64 (a : Arrival) (m : FabReq) (s : State) : Host.Outcome State Fault Refusal := .next (inbound s a .max64 m)
/-- SWAP64 (R299). -/
def execSwap64 (a : Arrival) (m : FabReq) (s : State) : Host.Outcome State Fault Refusal := .next (inbound s a .swap64 m)
/-- CAS64 (R299). -/
def execCas64 (a : Arrival) (m : FabReq) (s : State) : Host.Outcome State Fault Refusal := .next (inbound s a .cas64 m)
/-- ADD128 (R299). -/
def execAdd128 (a : Arrival) (m : FabReq) (s : State) : Host.Outcome State Fault Refusal := .next (inbound s a .add128 m)
/-- MIN128 (R299). -/
def execMin128 (a : Arrival) (m : FabReq) (s : State) : Host.Outcome State Fault Refusal := .next (inbound s a .min128 m)
/-- MAX128 (R299). -/
def execMax128 (a : Arrival) (m : FabReq) (s : State) : Host.Outcome State Fault Refusal := .next (inbound s a .max128 m)
/-- SWAP128 (R299). -/
def execSwap128 (a : Arrival) (m : FabReq) (s : State) : Host.Outcome State Fault Refusal := .next (inbound s a .swap128 m)
/-- CAS128 (R299). -/
def execCas128 (a : Arrival) (m : FabReq) (s : State) : Host.Outcome State Fault Refusal := .next (inbound s a .cas128 m)
/-- RESPONSE (R308). -/
def execResponse (a : Arrival) (m : FabResp) (s : State) : Host.Outcome State Fault Refusal := .next (response s a m)
/-- TRANSACTION_TIMEOUT (R309). -/
def execTransactionTimeout (st : StackId) (entry : Nat) (s : State) : Host.Outcome State Fault Refusal := .next (transactionTimeout s st entry)
/-- QUARANTINE_EXPIRY (R309). -/
def execQuarantineExpiry (st : StackId) (entry : Nat) (s : State) : Host.Outcome State Fault Refusal := .next (quarantineExpiry s st entry)

end Sys2Proof.Machine
end

