-- ==== Sys2Proof/Machine/Accum.lean ====
section
/-!
DEFINITION. Exact dot products: operand pieces, products, the window adder, accumulators and LX tiles (R60 to R75).
-/
namespace Sys2Proof.Machine

/-! ## Pieces and products (R62 to R65) -/

/-- A signed significand, its exponent and its width (R62). -/
structure Piece where
  m : Int
  q : Int
  w : Nat
deriving DecidableEq, Repr

/-- A decoded matrix operand: its value, and its pieces where it is finite (R62, R63). -/
structure Operand where
  val : Val
  pieces : List Piece
deriving DecidableEq, Repr

/-- The piece widths of R62. -/
def pieceWidth : Nat → Nat
  | 0 => 8 | 1 => 8 | 2 => 11 | 3 => 4 | 4 => 3 | 5 => 3 | 6 => 4 | 7 => 2 | _ => 8

/-- The formats of R62: the operands the matrix engine accepts. -/
def mmaFormat (fmt : Nat) : Bool := fmt ≤ 8

/-- The signed significand and exponent of a floating-point code (R62). -/
def floatSig (f : FloatFmt) (code : Nat) : Int × Int :=
  let frac := bits code 0 f.fb
  let ef := bits code f.fb f.eb
  let m : Int := if ef == 0 then frac else (2 ^ f.fb + frac : Nat)
  let q : Int := if ef == 0 then 1 - f.bias - f.fb else ef - f.bias - f.fb
  (if bitOf code (f.fb + f.eb) then -m else m, q)

/-- The pieces of an element code: three for FP32, one for every other format (R62, R63). -/
def decodeOperand (fmt : Nat) (code : Nat) : Operand :=
  match floatFmt fmt with
  | some f =>
    let (m, q) := floatSig f code
    let s : Int := if m < 0 then -1 else 1
    let a := m.natAbs
    ⟨decodeFloat f code,
      if fmt == fmtFP32 then
        [⟨s * bits a 16 8, q + 16, 8⟩, ⟨s * bits a 8 8, q + 8, 8⟩, ⟨s * bits a 0 8, q, 8⟩]
      else [⟨m, q, pieceWidth fmt⟩]⟩
  | none => ⟨.dyadic (signed 8 code) 0, [⟨signed 8 code, 0, 8⟩]⟩

/-- The zero operand that pads k to a multiple of 32 (R66). -/
def zeroOperand (n : Nat) : Operand := ⟨.zero false, List.replicate n ⟨0, 0, 1⟩⟩

/-- Whether a value is NaN or infinite. -/
def Val.special : Val → Bool
  | .nan => true
  | .inf _ => true
  | _ => false

/-- The special product of two elements, where there is one (R65). -/
def specialProduct (a b : Val) : Option Val :=
  if a.special || b.special then some (a.mul b) else none

/-- The product of two pieces (R65). -/
def Piece.mul (a b : Piece) : Piece := ⟨a.m * b.m, a.q + b.q, a.w + b.w⟩

/-! ## The window adder (R66) -/

/-- window × 2^(base + 320), exact. -/
def depositShift (window base : Int) : Int :=
  if 0 ≤ base + 320 then window * 2 ^ (base + 320).toNat else window.fdiv (2 ^ (-(base + 320)).toNat)

/-- The largest top weight of a list of products. -/
def topWeight : List Piece → Int
  | [] => 0
  | [p] => p.q + p.w
  | p :: ps => max (p.q + p.w) (topWeight ps)

/-- The loop of deposit_group (R66), with at most `fuel` passes: what is added to the value, and the passes taken. A group takes at most 32. -/
def depositLoop : Nat → List Piece → Int → Nat → Int × Nat
  | 0, _, sum, passes => (sum, passes)
  | fuel + 1, remaining, sum, passes =>
    match remaining with
    | [] => (sum, passes)
    | _ =>
      let base := topWeight remaining - 90
      let taken := remaining.filter (fun p => decide (base ≤ p.q))
      let window := (taken.map (fun p => p.m * 2 ^ (p.q - base).toNat)).sum
      depositLoop fuel (remaining.filter (fun p => decide (p.q < base))) (sum + depositShift window base) (passes + 1)

/-- What a group adds to the accumulator's value, and passes(g) (R66). -/
def depositGroup (products : List Piece) : Int × Nat :=
  let r := depositLoop 32 (products.filter (fun p => p.m != 0)) 0 0
  (r.1, max r.2 1)

/-! ## Accumulators (R68 to R75) -/

/-- An accumulator as INIT mode leaves it (R68). -/
def Acc.zero : Acc := ⟨0, false, false, false⟩

/-- A special product sets a flag (R69). -/
def Acc.flag (a : Acc) : Val → Acc
  | .nan => { a with nan := true }
  | .inf n => if n then { a with neg := true } else { a with pos := true }
  | _ => a

/-- An integer multiple of 2^−320 is added modulo 2^648 (R68). -/
def Acc.add (a : Acc) (z : Int) : Acc := { a with value := a.value + BitVec.ofInt 648 z }

/-- What the accumulator reads as (R69); an exact zero is +0 (R77). -/
def Acc.read (a : Acc) : Val :=
  if a.nan || (a.pos && a.neg) then .nan
  else if a.pos then .inf false
  else if a.neg then .inf true
  else .dyadic a.value.toInt (-320)

/-- Whether a value lies in the LX range of R38. -/
def lxInRange (z : Int) : Bool := decide (-(2 ^ 639 : Int) ≤ z) && decide (z < 2 ^ 639)

/-- The LX value that a save writes (R74): bits [639:0], the flags, and the flag of its sign on a range exit. -/
def lxSave (z : Int) (pos neg nan : Bool) : LxValue :=
  { value := signed 640 (unsigned 640 z)
    pos := pos || (!lxInRange z && decide (0 ≤ z))
    neg := neg || (!lxInRange z && decide (z < 0))
    nan := nan }

/-- An accumulator saved. -/
def Acc.save (a : Acc) : LxValue := lxSave a.value.toInt a.pos a.neg a.nan

end Sys2Proof.Machine
namespace Sys2Proof
open Machine

/-- An LX value restored into a 648-bit accumulator (R74). -/
def LxValue.restore (v : LxValue) : Acc := ⟨BitVec.ofInt 648 v.value, v.pos, v.neg, v.nan⟩

/-- The zero LX value. -/
def LxValue.zero : LxValue := ⟨0, false, false, false⟩

/-- Addition of LX values (R75): flags by OR, values exactly, and the range check of R74 at the write. -/
def LxValue.add (a b : LxValue) : LxValue :=
  lxSave (a.value + b.value) (a.pos || b.pos) (a.neg || b.neg) (a.nan || b.nan)

/-- −b as R132 forms it: the value negated, POS and NEG exchanged. -/
def LxValue.negate (b : LxValue) : LxValue := ⟨-b.value, b.neg, b.pos, b.nan⟩

/-- What an LX value reads as (R69). -/
def LxValue.read (v : LxValue) : Val :=
  if v.nan || (v.pos && v.neg) then .nan
  else if v.pos then .inf false
  else if v.neg then .inf true
  else .dyadic v.value (-320)

/-- The bytes an LX tile holds of accumulator p: 80 value bytes and a flag byte (R73). -/
def LxValue.valueBytes (v : LxValue) : List Byte := toBytes 80 (unsigned 640 v.value)

/-- The flag byte (R73). -/
def LxValue.flagByte (v : LxValue) : Byte :=
  BitVec.ofNat 8 ((if v.pos then 1 else 0) + (if v.neg then 2 else 0) + (if v.nan then 4 else 0))

/-- An LX value from its value bytes and flag byte. -/
def LxValue.ofBytes (value : List Byte) (flag : Byte) : LxValue :=
  ⟨signed 640 (Sys2Proof.ofBytes value), bitOf flag.toNat 0, bitOf flag.toNat 1, bitOf flag.toNat 2⟩

end Sys2Proof
namespace Sys2Proof.Machine

/-- A value as an exact multiple of 2^−320, where it is one (R38, R506). -/
def Val.lxExact : Val → Option Int
  | .zero _ => some 0
  | .num n (.rat p q e) =>
    let f := scaleFrac p q (e + 320)
    if f.1 % f.2 == 0 then some (if n then -((f.1 / f.2 : Nat) : Int) else ((f.1 / f.2 : Nat) : Int)) else none
  | _ => none

/-- A finite or special value as an LX contribution (R69, R506): a value that is no multiple of 2^−320 sets the NAN flag. -/
def Val.toLx (v : Val) : LxValue :=
  match v with
  | .nan => ⟨0, false, false, true⟩
  | .inf n => ⟨0, !n, n, false⟩
  | w => match w.lxExact with
    | some z => ⟨z, false, false, false⟩
    | none => ⟨0, false, false, true⟩

end Sys2Proof.Machine
end

