-- ==== Sys2Proof/Machine/Access.lean ====
section
/-!
DEFINITION. Register accesses: which register an offset names, whether its block answers, and which requester may read or write it (R8, R23 to R27, R457, R474, R475, R503).
-/
namespace Sys2Proof.Machine

/-- The register that a 32-bit aligned offset names: register, block instance, place in its run, and which 32-bit part of it. -/
structure Place where
  name : RegName
  inst : Nat
  idx : Nat
  part : Nat
deriving DecidableEq, Repr

/-- Whether a table row holds offset `r` of its instance: place in the run and 32-bit part. -/
def RegDesc.hit (d : RegDesc) (r : Nat) : Option (Nat × Nat) :=
  if d.off ≤ r then
    let k := if d.gap = 0 then 0 else (r - d.off) / d.gap
    let rest := r - d.off - k * d.gap
    if k < d.count ∧ rest < d.width / 8 then some (k, rest / 4) else none
  else none

/-- The register at an offset of the register space; none at a reserved offset (R23, R24). -/
def placeAt (off : Nat) : Option Place :=
  match blockAt off with
  | none => none
  | some (b, i) =>
    b.regs.findSome? (fun n =>
      if n.inInstance i then ((n.desc.hit ((off - b.base) % b.stride)).map (fun kp => ⟨n, i, kp.1, kp.2⟩)) else none)

/-- The offset of a place's register. -/
def Place.addr (p : Place) : Nat := p.name.addr p.inst p.idx
/-- Whether a register is 64 bits wide (R503). -/
def Place.wide (p : Place) : Bool := p.name.desc.width == 64

/-- The stacks to which a block instance belongs, for R27. -/
def blockStacks (b : Block) (i : Nat) : List Nat :=
  match b with
  | .tutor | .assembly | .marker | .psd => [i]
  | .cluster => [i / 16]
  | .hbm => [i / 8]
  | .slice => [i / 256]
  | .core => [i / 144]
  | .fabric => [i / 4]
  | .hallway => [(hallwayEnds i).1, (hallwayEnds i).2]
  | .proctor | .sec | .diary | .corridor | .power | .thermal | .host | .queue => []

/-- The blocks that answer a host before start-up is DONE (R454, R457). -/
def earlyBlock (b : Block) : Bool :=
  match b with
  | .proctor | .sec | .diary | .corridor | .power | .thermal | .host => true
  | _ => false

/-- Whether a requester is a host port. -/
def Requester.isHost : Requester → Bool
  | .h0 | .h1 => true
  | _ => false

/-- Whether a block instance answers a requester (R27, R457). QUEUE answers in a module warm reset too, as it does in every reset but a cold one. -/
def State.answers (s : State) (who : Requester) (b : Block) (i : Nat) : Bool :=
  !(blockStacks b i).any s.outOfService
    && (!Requester.isHost who || earlyBlock b || s.started || (b == .queue && s.fld F.proctorResetStatusWarm == 1))

/-- Whether no activation has come yet: no stack holds an active Syllabus, and partition 0 holds every instance (R474). -/
def State.neverActivated (s : State) : Bool := [0, 1, 2, 3].all (fun st => s.fld F.tutorSylStateActive st == 0)
/-- The scope of a register instance (R474): none for MODULE, or the partition. -/
def State.scope (s : State) (p : Place) : Option Nat :=
  match p.name.block with
  | .proctor | .sec | .diary | .corridor => none
  | .power | .thermal => if p.name.desc.off ≥ 0x1000 then none else some (s.partOf p.inst)
  | .fabric => if p.name.desc.off ≥ 0x800 then none else some (s.partOf (p.inst / 4))
  | .queue =>
    if p.name.desc.off ≥ 0x30000 then none
    else if p.name.desc.off ≥ 0x20000 then some (if s.neverActivated then 0 else p.idx)
    else some (s.fld F.queueConfigPart 0 p.idx)
  | .host => if p.name == .hostCtrl then none else some (s.partOf (2 * p.inst))
  | .hallway =>
    let e := hallwayEnds p.inst
    if s.partOf e.1 == s.partOf e.2 then some (s.partOf e.1) else none
  | b => some (s.partOf ((blockStacks b p.inst).headD 0))

/-- The stack of a host port (R343). -/
def hostStack (h : Nat) : Nat := 2 * h
/-- Whether a host port serves a partition (R474). -/
def State.serves (s : State) (h part : Nat) : Bool :=
  s.partOf (hostStack h) == part
    || (List.range 128).any (fun q => s.fld F.queueConfigValid 0 q == 1 && s.fld F.queueConfigPort 0 q == h && s.fld F.queueConfigPart 0 q == part)

/-- Whether a requester may read a place (R475). -/
def State.mayRead (s : State) (who : Requester) (p : Place) : Bool :=
  let host (h : Nat) : Bool := match s.scope p with | none => true | some part => s.serves h part
  match who with
  | .h0 => host 0
  | .h1 => host 1
  | .tutor _ | .proctor | .i3c => true

/-- The stacks that a PSTATE_CMD or RESET_CMD value names, where R475 lets it follow the PARTITION column. -/
def State.namedStacks (s : State) (p : Place) (v : Nat) : Option (List Nat) :=
  let set (w : Nat) : List Nat := [0, 1, 2, 3].filter (bitOf w)
  match p.name with
  | .powerPstateCmd => some (set (bits v 4 4))
  | .proctorResetCmd =>
    (match bits v 0 3 with
     | 3 => some (s.stacksOf (bits v 8 2))
     | 4 | 5 => some (set (bits v 4 4))
     | _ => none)
  | _ => none

/-- Whether management over I3C may write: in the clear while MGMT_SECURE is 0, otherwise only with a secured session (R475, R479). -/
def State.i3cOpen (s : State) : Bool :=
  s.fld F.secPolicyMgmtSecure == 0 || s.proctor.sessions.any (fun x => x.transport == .i3c && x.finished)

/-- Whether a host port may write a place (R475). -/
def State.hostMayWrite (s : State) (h : Nat) (p : Place) (v : Nat) : Bool :=
  if p.name == .secFwSvnCommit then false
  else match s.scope p with
    | some part => s.serves h part
    | none =>
      (match s.namedStacks p v with
       | some l => l.all (fun st => s.serves h (s.partOf st))
       | none => false)
        || (s.fld F.secPolicyHostModule == 1 && (p.name != .secPolicy || s.fld F.secPolicyLocked == 0))

/-- Whether the Tutor of a stack applies an activation: phase B has passed, and the stack is of the set. Phases C to F, of which E is the one that writes registers, are not told apart (R390, R475). DESIGN CHOICE (log entry 50). -/
def State.appliesImage (s : State) (st : Nat) : Bool :=
  s.fld F.tutorSylStateActivating st == 1 && s.activation.any (fun a => a.phase == 2)

/-- Whether a requester may write value `v` to a place (R475). -/
def State.mayWrite (s : State) (who : Requester) (p : Place) (v : Nat) : Bool :=
  match who with
  | .h0 => s.hostMayWrite 0 p v
  | .h1 => s.hostMayWrite 1 p v
  | .tutor st =>
    p.name != .secFwSvnCommit &&
      (match s.scope p with
       | some part => s.partOf st.val == part
       | none => s.appliesImage st.val)
  | .proctor => p.name != .secFwSvnCommit
  | .i3c => s.i3cOpen

/-- Whether an access has a size and alignment that the module takes (R8). -/
def aligned (off size : Nat) : Bool := (size == 4 || size == 8) && off % size == 0

/-- A write's outcome: the state, and whether the write was accepted. A refused write has made its own report already. -/
abbrev Written := State × Bool

/-- A write that is accepted. -/
def accept (s : State) : Written := (s, true)
/-- The offset of an access: of its register, or of the 32-bit part that it names (R444). -/
def Place.accessOff (p : Place) : Nat := p.addr + 4 * p.part
/-- A write refused under R10 with no report of the chapter's own: an access error at the offset of the access (R444). -/
def State.refuse (s : State) (who : Requester) (p : Place) : Written := (s.accessError who p.accessOff, false)

/-- Accepts where there is a next state, and refuses otherwise. -/
def State.takeOr (s : State) (who : Requester) (p : Place) (r : Option State) : Written :=
  match r with
  | some s => accept s
  | none => s.refuse who p

end Sys2Proof.Machine
end

