-- ==== Sys2Proof/Machine/Records.lean ====
section
/-!
DEFINITION. Completion rings, step rings and the hold ring (R350, R357, R364 to R366).
-/
namespace Sys2Proof.Machine

/-! ## Rings -/

/-- Queue states (R369). -/
abbrev qDISABLED : Nat := 0
/-- ACTIVE. -/
abbrev qACTIVE : Nat := 1
/-- PARKED. -/
abbrev qPARKED : Nat := 2
/-- DETACHED. -/
abbrev qDETACHED : Nat := 3

/-- The state of a ring. -/
def State.ringState (s : State) : RingId → Nat
  | .queue q => s.fld F.queueStateState 0 q
  | .step p => s.fld F.queueStepStateState 0 p
/-- The host port of a ring. -/
def State.ringPort (s : State) : RingId → Fin 2
  | .queue q => Fin.ofNat 2 (s.fld F.queueConfigPort 0 q)
  | .step p => Fin.ofNat 2 (s.fld F.queueStepConfigPort 0 p)
/-- The MSI-X vector of a ring. -/
def State.ringVector (s : State) : RingId → Nat
  | .queue q => s.fld F.queueConfigVector 0 q
  | .step p => s.fld F.queueStepConfigVector 0 p
/-- The host address of a ring. -/
def State.ringBase (s : State) : RingId → Nat
  | .queue q => s.reg .queueCqBase 0 q
  | .step p => s.reg .queueStepBase 0 p
/-- The number of entries of a ring. -/
def State.ringSize (s : State) : RingId → Nat
  | .queue q => 2 ^ s.fld F.queueSizesCqLog2 0 q
  | .step p => 2 ^ s.fld F.queueStepSizeLog2 0 p
/-- The tail index. -/
def State.ringTail (s : State) : RingId → Nat
  | .queue q => s.reg .queueCqTail 0 q
  | .step p => s.reg .queueStepTail 0 p
/-- Sets the tail index. -/
def State.setRingTail (s : State) (r : RingId) (v : Nat) : State :=
  match r with
  | .queue q => s.setReg .queueCqTail 0 q v
  | .step p => s.setReg .queueStepTail 0 p v
/-- The head index. -/
def State.ringHead (s : State) : RingId → Nat
  | .queue q => s.reg .queueCqHead 0 q
  | .step p => s.reg .queueStepHead 0 p
/-- Sets the head index. -/
def State.setRingHead (s : State) (r : RingId) (v : Nat) : State :=
  match r with
  | .queue q => s.setReg .queueCqHead 0 q v
  | .step p => s.setReg .queueStepHead 0 p v
/-- The host address of a ring's tail word. -/
def State.ringTailAddr (s : State) : RingId → Nat
  | .queue q => s.reg .queueTailAddr 0 q
  | .step p => s.reg .queueStepTailAddr 0 p
/-- The tail word: CQ_TAIL and SQ_HEAD, or STEP_TAIL (R350, R365). -/
def State.tailWord (s : State) : RingId → Nat
  | .queue q => s.reg .queueCqTail 0 q + s.reg .queueSqHead 0 q * 2 ^ 32
  | .step p => s.reg .queueStepTail 0 p
/-- Writes bytes into a ring of host memory from an offset, going round at its end. -/
def State.setHostRing (s : State) (base size off : Nat) : List Byte → State
  | [] => s
  | b :: bs => State.setHostRing (s.setHostBytes (base + off % size) [b]) base size (off + 1) bs
/-- Writes a ring's tail word. -/
def State.writeTailWord (s : State) (r : RingId) : State := s.setHostBytes (s.ringTailAddr r) (toBytes 8 (s.tailWord r))
/-- The difference of two indices, modulo 2^32. -/
def idxDiff (a b : Nat) : Nat := (a + 2 ^ 32 - b % 2 ^ 32) % 2 ^ 32

/-! ## The hold ring (R366) -/

/-- Capacity of the hold ring. -/
abbrev holdRingSize : Nat := 4096

/-- A queue event flag on a port, signalled as a module event (R344, R371). -/
def State.hostEvent (s : State) (f : RegField) (h : Nat) : State := (s.setFld f h 0 1).signalEvent

/-- The hold registers after a change; HOLD_FULL is set on both ports as the ring becomes full (R366). -/
def State.noteHoldRing (s : State) : State :=
  let n := s.holdRing.length
  let full := n ≥ holdRingSize
  let was := s.fld F.queueHoldFull == 1
  let s := ((s.setFld F.queueHoldInUse 0 0 n).setFld F.queueHoldFull 0 0 (bit full)).setFld F.queueHoldPeakPeak 0 0 (max n (s.fld F.queueHoldPeakPeak))
  if full && !was then ((s.setFld F.hostEventsHoldFull 0 0 1).setFld F.hostEventsHoldFull 1 0 1).signalEvent else s

/-- A record enters the hold ring; the command of a queue record has then completed (R354, R366). -/
def State.admitRec (s : State) (h : HoldRec) : State :=
  let s := { s with holdRing := s.holdRing ++ [h] }
  let s := match h.ring with
    | .queue q => s.setReg .queueOutstanding 0 q (s.reg .queueOutstanding 0 q - 1)
    | .step _ => s
  s.noteHoldRing

/-- A record is produced: it enters the hold ring, or waits while that is full (R366). -/
def State.enterRec (s : State) (h : HoldRec) : State :=
  if s.holdRing.length < holdRingSize ∧ s.holdWait = [] then s.admitRec h
  else { s with holdWait := s.holdWait ++ [h] }

/-- Records that wait enter the hold ring in the order in which they came, `n` at most. -/
def State.admitWaiting (s : State) : Nat → State
  | 0 => s
  | n + 1 =>
    match s.holdWait with
    | [] => s
    | h :: rest => if s.holdRing.length < holdRingSize then State.admitWaiting ({ s with holdWait := rest }.admitRec h) n else s

/-- The record of a command of a queue; one of an earlier generation is discarded and counted (R368). -/
def State.completeRec (s : State) (q : QueueId) (gen : Nat) (bytes : List Byte) : State :=
  if gen == s.reg .queueGeneration 0 q then s.enterRec ⟨.queue q, gen, bytes, false⟩
  else s.bumpSat F.queueDroppedCount 0 q 1

/-- `n` step records or host-bound Homework records of a partition are discarded and counted; each block's next Homework record is then FULL (R365). -/
def State.stepDrop (s : State) (part n : Nat) : State :=
  (s.bumpSat F.queueStepDroppedCount 0 part n).each (s.stacksOf part) (fun s st =>
    let k : StackId := Fin.ofNat 4 st
    s.setMarker k { s.marker k with hwSeen := [] })

/-- A step record of a partition: discarded while its ring is not ACTIVE (R365). -/
def State.stepRec (s : State) (part : Nat) (bytes : List Byte) : State :=
  let p : Fin 4 := Fin.ofNat 4 part
  if s.ringState (.step p) == qACTIVE then s.enterRec ⟨.step p, 0, bytes, false⟩ else s.stepDrop p 1

/-- A queue record (R357). -/
def State.queueRecord (s : State) (tag opc index status start bytes : Nat) : List Byte :=
  toBytes 64 (tag % 2 ^ 32 + 0xFFFE * 2 ^ 32 + status * 2 ^ 48 + opc % 256 * 2 ^ 56 + index % 2 ^ 32 * 2 ^ 64
    + start * 2 ^ 96 + s.now * 2 ^ 160 + bytes * 2 ^ 224)

/-- A command of a queue completes with a queue record. -/
def State.completeQueue (s : State) (q : QueueId) (gen tag opc index status start bytes : Nat) : State :=
  s.completeRec q gen (s.queueRecord tag opc index status start bytes)

/-- Signals a queue's vector and starts counting anew (R364). -/
def State.signalRing (s : State) (r : RingId) : State :=
  let s := match r with
    | .queue q => s.setQueue q { s.queue q with unsignalled := 0 }
    | .step _ => s
  s.signalMsix (s.ringPort r) (s.ringVector r)

/-- A record has been written: the vector is signalled at COALESCE.COUNT records, at every record where it is 0 (R364). -/
def State.coalesce (s : State) (r : RingId) : State :=
  match r with
  | .queue q =>
    let n := (s.queue q).unsignalled + 1
    if n ≥ s.fld F.queueCoalesceCount 0 q then s.signalRing r
    else s.setQueue q { s.queue q with unsignalled := n }
  | .step _ => s.signalRing r

/-- Marks the first record of a ring that has not been written. -/
def markWritten (r : RingId) : List HoldRec → List HoldRec
  | [] => []
  | h :: t => if h.ring == r && !h.written then { h with written := true } :: t else h :: markWritten r t

/-- COMPLETION_RECORD_WRITE: the oldest held record of a ring is written at its slot, then the tail word, then the vector is signalled, while the ring has room and its port is open (R361, R364). -/
def completionRecordWrite (s : State) (r : RingId) : State :=
  let st := s.ringState r
  match s.holdRing.find? (fun h => h.ring == r && !h.written) with
  | none => s
  | some h =>
    let tail := s.ringTail r
    if (st == qACTIVE || st == qPARKED) && s.portOpen (s.ringPort r) && idxDiff tail (s.ringHead r) != s.ringSize r then
      let s := s.setHostBytes (s.ringBase r + tail % s.ringSize r * 64) h.bytes
      let s := { s with holdRing := markWritten r s.holdRing }
      ((s.setRingTail r (tail + 1)).writeTailWord r).coalesce r
    else s

/-- Drops the first `n` written records of a ring. -/
def dropWritten (r : RingId) : Nat → List HoldRec → List HoldRec
  | 0, l => l
  | _, [] => []
  | n + 1, h :: t => if h.ring == r && h.written then dropWritten r n t else h :: dropWritten r (n + 1) t

/-- The host's head index of a ring moves to `v`: entries are freed, and waiting records enter (R364, R366). A value that moves it backwards or past the tail is not taken. -/
def State.moveHead (s : State) (r : RingId) (v : Nat) : Option State :=
  let head := s.ringHead r
  let n := idxDiff v head
  if n ≤ idxDiff (s.ringTail r) head then
    let s := s.setRingHead r v
    let s := { s with holdRing := dropWritten r n s.holdRing }
    some ((s.noteHoldRing.admitWaiting s.holdWait.length))
  else none

/-- The hold ring loses every record of a ring, waiting ones too; records of other rings that wait may enter. -/
def State.dropRing (s : State) (r : RingId) : State :=
  let s := { s with holdRing := s.holdRing.filter (fun h => h.ring != r), holdWait := s.holdWait.filter (fun h => h.ring != r) }
  s.noteHoldRing.admitWaiting s.holdWait.length

/-- MSIX_COALESCE_TIMER: COALESCE.US µs have passed since the first unsignalled record (R364). -/
def msixCoalesceTimer (s : State) (r : RingId) : State :=
  match r with
  | .queue q => if (s.queue q).unsignalled = 0 then s else s.signalRing r
  | .step _ => s

/-- COMPLETION_RECORD_WRITE (R364). -/
def execCompletionRecordWrite (ring : RingId) (s : State) : Host.Outcome State Fault Refusal := .next (completionRecordWrite s ring)
/-- MSIX_COALESCE_TIMER (R364). -/
def execMsixCoalesceTimer (ring : RingId) (s : State) : Host.Outcome State Fault Refusal := .next (msixCoalesceTimer s ring)

end Sys2Proof.Machine
end

