-- ==== Sys2Proof/Machine/Marker.lean ====
section
/-!
DEFINITION. The Markers: parameter state, the update rules, steps and their decision, the late-slip tier, Calibration and the roll check (R229 to R275).
-/
namespace Sys2Proof.Machine

/-! ## PSD entries and their regions (R230, R233, R234) -/

/-- A count of bytes padded to whole 128-byte lines (R233). -/
def padLine (n : Nat) : Nat := (n + 127) / 128 * 128

namespace Psd
/-- Word `k` of an entry. -/
def word (p : Psd) (k : Nat) : Nat := (p.words.getD k 0).toNat
/-- VALID. -/
def valid (p : Psd) : Bool := bitOf (p.word 1) 0
/-- FROZEN. -/
def frozen (p : Psd) : Bool := bitOf (p.word 1) 1
/-- SLOW. -/
def slow (p : Psd) : Bool := bitOf (p.word 1) 2
/-- WSR. -/
def wsr (p : Psd) : Bool := bitOf (p.word 1) 3
/-- RULE. -/
def rule (p : Psd) : Nat := bits (p.word 1) 4 4
/-- WFMT; its codes 0 to 4 are the FMT codes of the same formats (R29). -/
def wfmt (p : Psd) : Nat := bits (p.word 1) 8 4
/-- VSLOTS. -/
def vslots (p : Psd) : Nat := bits (p.word 1) 12 3
/-- DM1. -/
def dm1 (p : Psd) : Nat := bits (p.word 1) 16 3
/-- PRECOND: bit 0 is the left side, bit 1 the right. -/
def precond (p : Psd) : Nat := bits (p.word 1) 19 2
/-- HP. -/
def hp (p : Psd) : Nat := bits (p.word 1) 24 8
/-- ROWS. -/
def rows (p : Psd) : Nat := bits (p.word 1) 32 10 + 1
/-- COLS. -/
def cols (p : Psd) : Nat := bits (p.word 1) 48 16 + 1
/-- TAG. -/
def tag (p : Psd) : BitVec 32 := BitVec.ofNat 32 (p.word 2)
/-- EBASE. -/
def ebase (p : Psd) : Nat := bits (p.word 3) 0 48
/-- STATE. -/
def stateAt (p : Psd) : Nat := p.word 4
/-- VERS. -/
def vers (p : Psd) : Nat := bits (p.word 5) 0 50
/-- GRAD. -/
def grad (p : Psd) : Nat := bits (p.word 6) 0 50
/-- PRE. -/
def pre (p : Psd) : Nat := bits (p.word 7) 0 50
/-- NELEM. -/
def nelem (p : Psd) : Nat := p.rows * p.cols
/-- The segments of a block (R239). -/
def nsegs (p : Psd) : Nat := (p.nelem + 255) / 256
/-- Bytes of an element of the working copy. -/
def wbytes (p : Psd) : Nat := fmtWidth p.wfmt / 8
/-- Whether the working copy carries row scales. -/
def wscaled (p : Psd) : Bool := p.wfmt ≥ 3
/-- NBYTES: the working copy before padding (R233, R270). -/
def nbytes (p : Psd) : Nat := p.nelem * p.wbytes + (if p.wscaled then p.rows else 0)
/-- WS: the size of a version slot. -/
def ws (p : Psd) : Nat := padLine p.nbytes
/-- The offset of m in a state half. -/
def offM (p : Psd) : Nat := padLine (4 * p.nelem)
/-- The offset of v. -/
def offV (p : Psd) : Nat := p.offM + padLine (if p.rule == 2 then p.nelem else 4 * p.nelem)
/-- The offset of the m row scales (RULE 2). -/
def offMs (p : Psd) : Nat := p.offV + padLine p.nelem
/-- The offset of the v row scales (RULE 2). -/
def offVs (p : Psd) : Nat := p.offMs + padLine p.rows
/-- The offset of the tail line (R233, R234). -/
def offTail (p : Psd) : Nat :=
  if p.rule == 2 then p.offVs + padLine p.rows
  else if p.rule == 1 || p.rule == 3 then p.offV + padLine (4 * p.nelem)
  else p.offV
/-- HS: the size of a state half. -/
def hs (p : Psd) : Nat := p.offTail + 128
/-- The offset of side R of the preconditioners. -/
def offR (p : Psd) : Nat := if bitOf p.precond 0 then padLine (4 * p.rows * p.rows) else 0
/-- The size of the PRE region. -/
def preSize (p : Psd) : Nat :=
  (if bitOf p.precond 0 then padLine (4 * p.rows * p.rows) else 0) + (if bitOf p.precond 1 then padLine (4 * p.cols * p.cols) else 0)
/-- The zeros that pad `n` bytes of an array at `off` to whole lines (R233). -/
def padAt (off n : Nat) : Nat × List Byte := (off + n, List.replicate (padLine n - n) 0)
/-- The zeros that pad the arrays of a state half (R233, R234). -/
def statePads (p : Psd) : List (Nat × List Byte) :=
  let f := 4 * p.nelem
  padAt 0 f :: (if p.rule == 2 then [padAt p.offM p.nelem, padAt p.offV p.nelem, padAt p.offMs p.rows, padAt p.offVs p.rows]
    else if p.rule == 1 || p.rule == 3 then [padAt p.offM f, padAt p.offV f] else [padAt p.offM f])
/-- The zeros that pad a version slot. -/
def slotPads (p : Psd) : List (Nat × List Byte) := [padAt 0 p.nbytes]
/-- Whether the step updates the block (R237). -/
def trained (p : Psd) : Bool := p.valid && !p.frozen
end Psd

/-- The address of PSD entry `i` of a stack (R229). -/
def State.psdAt (s : State) (st i : Nat) : Nat := s.reg .psdTable st + 64 * i
/-- Word 0 of a PSD entry as memory holds it now. -/
def State.psdWord0 (s : State) (st i : Nat) : Nat := s.num (s.psdAt st i) 8
/-- A PSD entry as memory holds it now. -/
def State.readPsd (s : State) (st i : Nat) : Psd :=
  ⟨i, (List.range 8).map (fun k => BitVec.ofNat 64 (s.num (s.psdAt st i + 8 * k) 8))⟩
/-- CUR of a block. -/
def State.psdCur (s : State) (st i : Nat) : Nat := bits (s.psdWord0 st i) 0 3
/-- SSEL of a block. -/
def State.psdSsel (s : State) (st i : Nat) : Nat := bits (s.psdWord0 st i) 3 1
/-- Writes word 0 of a PSD entry: one aligned 64-bit write at the home slice (R231). -/
def State.writeWord0 (s : State) (st i v : Nat) : State := s.memWrite 5 (s.psdAt st i) (toBytes 8 v) false

/-- Whether a reserved bit of an entry is set (R230). -/
def Psd.reservedSet (p : Psd) : Bool :=
  p.word 0 &&& 0xC0 != 0 || p.word 1 &&& (2 ^ 15 + 7 * 2 ^ 21 + 63 * 2 ^ 42) != 0 || p.word 2 / 2 ^ 32 != 0
    || p.word 3 / 2 ^ 48 != 0 || p.word 5 / 2 ^ 50 != 0 || p.word 6 / 2 ^ 50 != 0 || p.word 7 / 2 ^ 50 != 0

/-! ## Hyperparameters (R236) -/

/-- The bytes of hyperparameter set `j` in memory. -/
def State.hpBytes (s : State) (st j : Nat) : List Byte := s.bytes (s.reg .markerHp st + 32 * j) 32
/-- FP32 field `k` of a set. -/
def hpVal (h : List Byte) (k : Nat) : Val := decodeFp32 (ofBytes ((h.drop (4 * k)).take 4))
/-- Whether a field is finite and 0 or above. -/
def hpNonneg : Val → Bool
  | .zero _ => true
  | .num n _ => !n
  | _ => false
/-- Whether a field is finite and above 0. -/
def hpPos : Val → Bool
  | .num n _ => !n
  | _ => false
/-- The value 1. -/
def oneVal : Val := .num false (.rat 1 1 0)
/-- Whether a field lies in [0, 1). -/
def hpBelow1 (v : Val) : Bool := hpNonneg v && v.lt oneVal
/-- Whether a set is valid for a rule; fields that the rule does not use are not checked (R236). -/
def hpOk (h : List Byte) (rule : Nat) : Bool :=
  hpNonneg (hpVal h 0) && hpNonneg (hpVal h 4)
    && (rule == 0 || (hpBelow1 (hpVal h 1) && hpBelow1 (hpVal h 2)))
    && (rule == 0 || rule == 4 || hpPos (hpVal h 3))
    && (rule != 0 || (hpBelow1 (hpVal h 5) && (h.getD 28 0).toNat < 2))
    && (rule != 3 || hpPos (hpVal h 6))

/-! ## The checks of the ARM scan (R232, R348) -/

/-- Whether an address starts a region of a block: 128-byte aligned, HBM4 or bonded scratch of the partition, and clear of the staging areas. -/
def State.blockRegion (s : State) (part a n : Nat) : Bool :=
  a % 128 == 0 && s.rangeInRegion part a 1 && !s.overStaging a n
/-- Whether a slow block's STATE names a reachable seat in a near or far window (R232); `n` bytes of the module itself keep clear of the staging areas (R348). -/
def State.slowState (s : State) (part a n : Nat) : Bool :=
  a % 128 == 0 && (fabWindow a == 1 || fabWindow a == 2)
    && (if fabSeat a == s.seat then !s.overStaging (fabModule a) n else (s.outEntry part a).isSome)
/-- Whether bytes cannot be read for a stack: they lie beyond a DOWN link, or are poisoned. -/
def State.unreadable (s : State) (st a n : Nat) : Bool := s.hallwayDown st (addrStack a) || s.anyPoison a n
/-- Whether an entry with VALID = 1 passes the scan (R232). A hyperparameter set that cannot be read fails it (DESIGN CHOICE, log entry 22). -/
def State.psdOk (s : State) (st : Nat) (p : Psd) : Bool :=
  let part := s.partOf st
  !p.reservedSet && p.rule ≤ 4 && p.wfmt ≤ 4 && p.nelem ≤ 65536 && 2 ≤ p.vslots && p.vslots ≤ 5
    && !(bitOf p.precond 0 && p.rows > 1024) && !(bitOf p.precond 1 && p.cols > 1024)
    && (if p.slow then s.slowState part p.stateAt (2 * p.hs) && !s.overStaging p.vers (p.vslots * p.ws)
        else p.dm1 == 0 && s.blockRegion part p.stateAt (2 * p.hs) && s.blockRegion part p.vers (p.vslots * p.ws)
          && s.blockRegion part p.grad (8 * p.nelem))
    && (p.precond == 0 || (s.rangeInRegion part p.pre 1 && !s.overStaging p.pre p.preSize))
    && !s.unreadable st (s.reg .markerHp st + 32 * p.hp) 32 && hpOk (s.hpBytes st p.hp) p.rule

/-! ## Exact values in the rules (R242) -/

/-- A computation that counts saturations and replacements. -/
abbrev Sat (α : Type) := StateM Nat α
/-- Counts one where `b` holds. -/
def satIf (b : Bool) : Sat Unit := modify (fun n => n + bit b)
/-- The largest finite FP32 value of a sign. -/
def maxFinite (neg : Bool) : Val := .num neg (.rat 0xFFFFFF 1 104)
/-- A value that the Marker reads from memory, made finite. -/
def finite : Val → Sat Val
  | .nan => do satIf true; pure (.zero false)
  | .inf n => do satIf true; pure (maxFinite n)
  | v => pure v
/-- rn(x): one rounding into FP32 under RNE with SAT, an exact zero giving +0. -/
def rn (x : Val) : Sat Val := do
  let r := roundElem fmtFP32 0 rne 0 (match x with | .zero _ => .zero false | v => v)
  satIf r.overflow
  pure (decodeFp32 r.code)
/-- rn(a / d), a zero divisor giving the largest finite value of the dividend's sign, or +0. -/
def rnQuot (a d : Val) : Sat Val :=
  match d with
  | .zero _ => do
    satIf true
    pure (match a with | .zero _ => .zero false | v => maxFinite v.sign)
  | _ => rn (a.div d)
/-- rn(sqrt(x)), the root of a negative value being +0. -/
def rnSqrt (x : Val) : Sat Val :=
  match x with
  | .num true _ => do satIf true; pure (.zero false)
  | .zero _ => pure (.zero false)
  | v => rn v.sqrt
/-- The FP32 code of a value that FP32 holds. -/
def fp32Code (v : Val) : Nat := (toFp32 v).toNat
/-- Reads `n` FP32 values from bytes and makes them finite. -/
def finiteFp32s (b : List Byte) : Nat → Sat (List Val)
  | 0 => pure []
  | n + 1 => do
    let v ← finite (decodeFp32 (ofBytes (b.take 4)))
    let vs ← finiteFp32s (b.drop 4) n
    pure (v :: vs)

/-! ## The update rules (R243 to R247) -/

/-- What a rule computes with: its hyperparameters and the step size of the set. -/
structure RuleCtx where
  rule : Nat
  hp : List Byte
  lr : Val
  p1 : Val
  p2 : Val
deriving Repr

/-- An element: master, m and v. -/
structure Elem where
  w : Val
  m : Val
  v : Val
deriving Repr

/-- SGD_MOMENTUM (R243). -/
def ruleSgd (c : RuleCtx) (e : Elem) (g : Val) : Sat Elem := do
  let mu := hpVal c.hp 5
  let wd := hpVal c.hp 4
  let m ← rn (((mu.mul e.m).add g).add (wd.mul e.w))
  let d ← if bitOf (c.hp.getD 28 0).toNat 0 then rn ((g.add (wd.mul e.w)).add (mu.mul m)) else pure m
  let w ← rn (e.w.sub (c.lr.mul d))
  pure ⟨w, m, e.v⟩

/-- m_new, v_new and u of R244; `c.p1` and `c.p2` are the new P1 and P2. -/
def adamU (c : RuleCtx) (e : Elem) (g : Val) : Sat (Elem × Val) := do
  let b1 := hpVal c.hp 1
  let b2 := hpVal c.hp 2
  let m ← rn ((b1.mul e.m).add ((oneVal.sub b1).mul g))
  let v ← rn ((b2.mul e.v).add (((oneVal.sub b2).mul g).mul g))
  let mh ← rnQuot m (oneVal.sub c.p1)
  let vh ← rnQuot v (oneVal.sub c.p2)
  let r ← rnSqrt vh
  let den ← rn (r.add (hpVal c.hp 3))
  let u ← rnQuot mh den
  pure (⟨e.w, m, v⟩, u)

/-- ADAMW and the lines of ADAM8 (R244, R245). -/
def ruleAdam (c : RuleCtx) (e : Elem) (g : Val) : Sat Elem := do
  let r ← adamU c e g
  let w ← rn ((e.w.sub (c.lr.mul r.2)).sub ((c.lr.mul (hpVal c.hp 4)).mul e.w))
  pure { r.1 with w := w }

/-- LION (R247). -/
def ruleLion (c : RuleCtx) (e : Elem) (g : Val) : Sat Elem := do
  let b1 := hpVal c.hp 1
  let b2 := hpVal c.hp 2
  let k ← rn ((b1.mul e.m).add ((oneVal.sub b1).mul g))
  let sgn : Val := match k with | .num n _ => .num n (.rat 1 1 0) | _ => .zero false
  let w ← rn ((e.w.sub (c.lr.mul sgn)).sub ((c.lr.mul (hpVal c.hp 4)).mul e.w))
  let m ← rn ((b2.mul e.m).add ((oneVal.sub b2).mul g))
  pure ⟨w, m, e.v⟩

/-- The exact sum of squares of a list. -/
def sumSquares (l : List Val) : Val := l.foldl (fun a x => a.add (x.mul x)) (.zero false)

/-- LAMB over the whole block (R246). -/
def ruleLamb (c : RuleCtx) (es : List Elem) (gs : List Val) : Sat (List Elem) := do
  let us ← (es.zip gs).mapM (fun p => do
    let r ← adamU c p.1 p.2
    let q ← rn (r.2.add ((hpVal c.hp 4).mul p.1.w))
    pure (r.1, q))
  let wsq := sumSquares (es.map (fun e => e.w))
  let rsq := sumSquares (us.map (fun u => u.2))
  let t ← match wsq, rsq with
    | .num _ _, .num _ _ => do
      let q ← rn (wsq.div rsq).sqrt
      pure ((hpVal c.hp 6).min q)
    | _, _ => pure oneVal
  us.mapM (fun u => do
    let w ← rn (u.1.w.sub ((c.lr.mul t).mul u.2))
    pure { u.1 with w := w })

/-- A rule over a run of elements; LAMB's run is the whole block. -/
def applyRule (c : RuleCtx) (es : List Elem) (gs : List Val) : Sat (List Elem) :=
  if c.rule == 3 then ruleLamb c es gs
  else (es.zip gs).mapM (fun p =>
    if c.rule == 0 then ruleSgd c p.1 p.2 else if c.rule == 4 then ruleLion c p.1 p.2 else ruleAdam c p.1 p.2)

/-! ## Preconditioning (R248) -/

/-- Matrices as rows of values. -/
abbrev Matrix := List (List Val)
/-- A flat list as rows of `c` elements. -/
def toRows (c : Nat) : Nat → List Val → Matrix
  | 0, _ => []
  | r + 1, l => l.take c :: toRows c r (l.drop c)
/-- The transpose of a matrix with `c` columns. -/
def transpose (c : Nat) (m : Matrix) : Matrix := (List.range c).map (fun j => m.map (fun r => r.getD j (.zero false)))
/-- An exact dot product. -/
def dotVal (a b : List Val) : Val := (a.zip b).foldl (fun s p => s.add (p.1.mul p.2)) (.zero false)
/-- The exact product of two matrices; the second has `c` columns. -/
def matMul (c : Nat) (a b : Matrix) : Matrix :=
  let bt := transpose c b
  a.map (fun r => bt.map (dotVal r))
/-- A matrix rounded element by element. -/
def rnMatrix (m : Matrix) : Sat Matrix := m.mapM (fun r => r.mapM rn)
/-- The gradient of a block under its preconditioners: the exact double sum, rounded once. -/
def precondition (p : Psd) (l r : List Val) (g : List Val) : Sat (List Val) := do
  let G := toRows p.cols p.rows g
  let G := if bitOf p.precond 0 then matMul p.cols (toRows p.rows p.rows l) G else G
  let G := if bitOf p.precond 1 then matMul p.cols G (toRows p.cols p.cols r) else G
  let gp ← rnMatrix G
  pure gp.flatten

/-! ## State halves and working copies -/

/-- Elements [lo, hi) of a state half, made finite; `rd` reads bytes of the half (R233, R242, R245). -/
def readElems (p : Psd) (rd : Nat → Nat → List Byte) (lo n : Nat) : Sat (List Elem) := do
  let ws ← finiteFp32s (rd (4 * lo) (4 * n)) n
  if p.rule == 2 then
    let dec (off offs k : Nat) : Sat Val :=
      let sc := ((rd (offs + (lo + k) / p.cols) 1).getD 0 0).toNat
      let code := ((rd (off + lo + k) 1).getD 0 0).toNat
      finite (decodeScaled 3 0 (some sc) code)
    let ms ← (List.range n).mapM (dec p.offM p.offMs)
    let vs ← (List.range n).mapM (dec p.offV p.offVs)
    pure ((ws.zip (ms.zip vs)).map (fun x => ⟨x.1, x.2.1, x.2.2⟩))
  else
    let ms ← finiteFp32s (rd (p.offM + 4 * lo) (4 * n)) n
    let vs ← if p.rule == 0 || p.rule == 4 then pure (List.replicate n (.zero false)) else finiteFp32s (rd (p.offV + 4 * lo) (4 * n)) n
    pure ((ws.zip (ms.zip vs)).map (fun x => ⟨x.1, x.2.1, x.2.2⟩))

/-- One row converted into a scaled 8-bit format: element codes and scale code (R41). -/
def convertRow (fmt : Nat) (r : Rounding) (noise : Nat → Nat) (row : List Val) : Sat (List Byte × Byte) := do
  let scale := chooseScale fmt row
  let zeroRow := (maxMag row).isNone
  let codes ← row.zipIdx.mapM (fun x => do
    let q := chosenElem fmt scale zeroRow r (noise x.2) x.1
    satIf q.overflow
    pure (BitVec.ofNat 8 q.code))
  pure (codes, BitVec.ofNat 8 scale)

/-- Bytes to be written, each run with its offset. -/
abbrev Writes := List (Nat × List Byte)
/-- FP32 values as bytes. -/
def fp32Bytes (l : List Val) : List Byte := l.flatMap (fun v => toBytes 4 (fp32Code v))
/-- The rows of a moment array of ADAM8, from row `r0` (R245). -/
def adam8Rows (off offs cols r0 : Nat) (rows : Matrix) : Sat Writes := do
  let l ← rows.zipIdx.mapM (fun x => do
    let c ← convertRow 3 rne (fun _ => 0) x.1
    pure [(off + (r0 + x.2) * cols, c.1), (offs + r0 + x.2, [c.2])])
  pure l.flatten
/-- The writes of new elements [lo, lo + n) into the other state half. -/
def writeElems (p : Psd) (lo : Nat) (es : List Elem) : Sat Writes := do
  let ws := [(4 * lo, fp32Bytes (es.map (fun e => e.w)))]
  if p.rule == 2 then
    let rows := es.length / p.cols
    let ms ← adam8Rows p.offM p.offMs p.cols (lo / p.cols) (toRows p.cols rows (es.map (fun e => e.m)))
    let vs ← adam8Rows p.offV p.offVs p.cols (lo / p.cols) (toRows p.cols rows (es.map (fun e => e.v)))
    pure (ws ++ ms ++ vs)
  else
    let ms := [(p.offM + 4 * lo, fp32Bytes (es.map (fun e => e.m)))]
    let vs := if p.rule == 0 || p.rule == 4 then [] else [(p.offV + 4 * lo, fp32Bytes (es.map (fun e => e.v)))]
    pure (ws ++ ms ++ vs)

/-- The rounding of a working copy (R249). -/
def wcRounding (p : Psd) : Rounding := ⟨if p.wsr then 2 else 0, false⟩
/-- The noise of element `i` of a block (R249, R53). An index beyond 48 bits is taken modulo 2^48 (DESIGN CHOICE, log entry 48: R232 checks no EBASE and no operation of the Marker raises the fault of R53). -/
def wcNoise (p : Psd) (seed : Word) (step : BitVec 32) (i : Nat) : Nat := (roundNoise seed p.tag step (p.ebase + i)).toNat
/-- The working copy of elements [lo, lo + n) in a format without scales (R249). -/
def wcElems (p : Psd) (seed : Word) (step : BitVec 32) (lo : Nat) (ws : List Val) : Sat Writes := do
  let l ← ws.zipIdx.mapM (fun x => do
    let q := roundElem p.wfmt 0 (wcRounding p) (wcNoise p seed step (lo + x.2)) x.1
    satIf q.overflow
    pure (toBytes p.wbytes q.code))
  pure [(lo * p.wbytes, l.flatten)]
/-- The working copy of row `r` in a scaled format. -/
def wcRow (p : Psd) (seed : Word) (step : BitVec 32) (r : Nat) (ws : List Val) : Sat Writes := do
  let c ← convertRow p.wfmt (wcRounding p) (fun j => wcNoise p seed step (r * p.cols + j)) ws
  pure [(r * p.cols, c.1), (p.nelem + r, [c.2])]
/-- The working copy of whole rows, or of a run of elements where the format has no scales. -/
def wcRun (p : Psd) (seed : Word) (step : BitVec 32) (lo : Nat) (ws : List Val) : Sat Writes :=
  if p.wscaled then do
    let l ← (toRows p.cols (ws.length / p.cols) ws).zipIdx.mapM (fun x => wcRow p seed step (lo / p.cols + x.2) x.1)
    pure l.flatten
  else wcElems p seed step lo ws

/-- g = rn(q × 2^E × c) for each element (R242). -/
def gradients (c : Val) (e : Int) (qs : List Int) : Sat (List Val) := qs.mapM (fun q => rn ((Val.dyadic q e).mul c))

/-- P1 and P2 of a half, made finite, and their new values (R244). -/
def newPs (p : Psd) (hp : List Byte) (rd : Nat → Nat → List Byte) : Sat (Val × Val) := do
  let p1 ← finite (decodeFp32 (ofBytes (rd p.offTail 4)))
  let p2 ← finite (decodeFp32 (ofBytes (rd (p.offTail + 4) 4)))
  let a ← rn (p1.mul (hpVal hp 1))
  let b ← rn (p2.mul (hpVal hp 2))
  pure (a, b)

/-- Whether a rule keeps P1 and P2. -/
def usesPs (rule : Nat) : Bool := rule == 1 || rule == 2 || rule == 3

/-- The tail line of the other half: P1, P2 and zeros (R233). -/
def tailWrites (p : Psd) (ps : Val × Val) : Writes :=
  if usesPs p.rule then [(p.offTail, fp32Bytes [ps.1, ps.2] ++ List.replicate 120 0)] else []

/-- One whole-block application: what is written to the other half and to the shadow slot (R241 to R249). `pre` holds the bytes of the PRE region. -/
def applyBlock (p : Psd) (hp : List Byte) (lr c : Val) (e : Int) (seed : Word) (step : BitVec 32)
    (rd : Nat → Nat → List Byte) (pre : List Byte) (qs : List Int) : Sat (Writes × Writes) := do
  let ps ← if usesPs p.rule then newPs p hp rd else pure (.zero false, .zero false)
  let es ← readElems p rd 0 p.nelem
  let g ← gradients c e qs
  let l ← if bitOf p.precond 0 then finiteFp32s pre (p.rows * p.rows) else pure []
  let r ← if bitOf p.precond 1 then finiteFp32s (pre.drop p.offR) (p.cols * p.cols) else pure []
  let g ← if p.precond == 0 then pure g else precondition p l r g
  let ns ← applyRule ⟨p.rule, hp, lr, ps.1, ps.2⟩ es g
  let a ← writeElems p 0 ns
  let b ← wcRun p seed step 0 (ns.map (fun x => x.w))
  pure (a ++ tailWrites p ps ++ p.statePads, b ++ p.slotPads)

/-! ## The step (R237 to R241) -/

/-- STEP_STATE codes (R238). -/
abbrev mIDLE : Nat := 0
/-- SCANNING. -/
abbrev mSCANNING : Nat := 1
/-- OPEN. -/
abbrev mOPEN : Nat := 2
/-- RERUN. -/
abbrev mRERUN : Nat := 3
/-- COMMITTING. -/
abbrev mCOMMITTING : Nat := 4

/-- The step state of a Marker. -/
def State.stepState (s : State) (st : Nat) : Nat := s.fld F.markerStateStepState st
/-- Sets it. -/
def State.setStepState (s : State) (st : StackId) (v : Nat) : State := s.setFld F.markerStateStepState st 0 v
/-- The entry of a block as the scan read it, where it is VALID. -/
def State.scanned (s : State) (st : StackId) (i : Nat) : Option Psd := (s.marker st).scan.find? (fun p => p.index == i && p.valid)
/-- The hyperparameter set of a block as the scan copied it. -/
def State.hpOf (s : State) (st : StackId) (p : Psd) : List Byte := Tab.get [] (s.marker st).hpSets p.hp
/-- The step size of a set: lr_e = rn(LR × LRMULT) (R242). -/
def lrOf (lr : BitVec 32) (hp : List Byte) : Sat Val := rn ((decodeFp32 lr.toNat).mul (hpVal hp 0))
/-- The seed of the stack's active Syllabus. -/
def State.seedOf (s : State) (st : Nat) : Word := BitVec.ofNat 64 (s.reg .tutorSeed st)

/-- Counts saturations: SAT_COUNT, and those of the applications that the step commits (R242, R254). -/
def State.countSat (s : State) (st : StackId) (n : Nat) : State :=
  if n = 0 then s
  else (s.bump F.markerSatCountCount st 0 n).setMarker st { s.marker st with satStep := (s.marker st).satStep + n }

/-- The key in `firstShadow` that says a set's step size has been computed in the step. -/
def lrKey (j : Nat) : Nat := 2 ^ 17 + j
/-- The key that says the re-run has ended. -/
def rerunKey : Nat := 2 ^ 18

/-- The step size of a block's set, counted the first time in a step. -/
def State.stepLr (s : State) (st : StackId) (p : Psd) : State × Val :=
  let m := s.marker st
  let (v, n) := (lrOf m.lr (s.hpOf st p)).run 0
  if NatSet.has m.firstShadow (lrKey p.hp) then (s, v)
  else ((s.setMarker st { m with firstShadow := NatSet.insert m.firstShadow (lrKey p.hp) }).countSat st n, v)

/-- Reads runs of bytes as the Marker of a stack (traffic class 5, R213): the state after them, and whether any came poisoned. -/
def State.markerReads (s : State) (st : StackId) (l : List (Nat × Nat)) : State × Bool :=
  l.foldl (fun r x => let q := r.1.readFrom st 5 x.1 x.2; (q.1, r.2 || q.2.2)) (s, false)

/-- Writes runs of bytes from an address as the Marker of a stack (traffic class 5, R213). What was computed from poisoned inputs, which `bad` says, is written poisoned, and its values are free (R424; DESIGN CHOICE, log entry 22). -/
def State.markerWrites (s : State) (st : StackId) (base : Nat) (ws : Writes) (bad : Bool) : State :=
  s.each ws (fun s w =>
    if bad then { s with freeNext := s.freeNext + 1 }.writeFrom st 5 (base + w.1) ((List.range w.2.length).map (Config.lostByte s.freeNext)) true
    else s.writeFrom st 5 (base + w.1) w.2 false)

/-- The saturations that an application counts: a free number where its inputs were poisoned. -/
def State.satsOf (s : State) (bad : Bool) (n : Nat) : State × Nat :=
  if bad then ({ s with freeNext := s.freeNext + 1 }, Config.poisonedSats s.freeNext) else (s, n)

/-- The version slots that a waiting Homework record needs (R235, R272): its version, and the one before where it is a DELTA, which the first record of a block is not (`seen`). -/
def HwRec.needs (h : HwRec) (seen : Bool) (slot : Nat) : Bool :=
  h.cur == slot || (!h.full && seen && (h.cur + h.psd.vslots - 1) % h.psd.vslots == slot)
/-- Whether a waiting record of block `i` needs a slot. -/
def hwHolds (i slot : Nat) : Bool → List HwRec → Bool
  | _, [] => false
  | seen, h :: t => if h.psd.index == i then h.needs seen slot || hwHolds i slot true t else hwHolds i slot seen t
/-- Whether the shadow slot of a block is held back by Homework of an earlier commit (R235). -/
def State.shadowHeld (s : State) (st : StackId) (p : Psd) : Bool :=
  let slot := (s.psdCur st p.index + 1) % p.vslots
  hwHolds p.index slot (NatSet.has (s.marker st).hwSeen p.index) (s.marker st).hwQueue

/-- The retained gradients of elements [lo, lo + n). -/
def State.retained (s : State) (p : Psd) (lo n : Nat) : List Int :=
  (List.range n).map (fun k => signed 64 (s.num (p.grad + 8 * (lo + k)) 8))

/-- The bytes of half `h` of a block that is not slow. -/
def State.halfBytes (s : State) (p : Psd) (h : Nat) (off n : Nat) : List Byte := s.bytes (p.stateAt + h * p.hs + off) n
/-- The address of the shadow slot (R233, R235). -/
def State.shadowSlot (s : State) (st : Nat) (p : Psd) : Nat := p.vers + (s.psdCur st p.index + 1) % p.vslots * p.ws

/-- The runs of a state half that elements [lo, lo + n) and the tail are read from (R233, R234). -/
def Psd.elemRuns (p : Psd) (lo n : Nat) : List (Nat × Nat) :=
  (4 * lo, 4 * n) ::
    (if p.rule == 2 then
      let r := lo / p.cols
      let rows := (n + p.cols - 1) / p.cols
      [(p.offM + lo, n), (p.offV + lo, n), (p.offMs + r, rows), (p.offVs + r, rows)]
    else (p.offM + 4 * lo, 4 * n) :: (if p.rule == 0 || p.rule == 4 then [] else [(p.offV + 4 * lo, 4 * n)]))
    ++ (if usesPs p.rule then [(p.offTail, 8)] else [])
/-- The preconditioners of a block. -/
def Psd.preRuns (p : Psd) : List (Nat × Nat) :=
  (if bitOf p.precond 0 then [(p.pre, 4 * p.rows * p.rows)] else []) ++ (if bitOf p.precond 1 then [(p.pre + p.offR, 4 * p.cols * p.cols)] else [])
/-- What an application of elements [lo, hi) reads: the committed half, the retained gradient and the preconditioners. -/
def State.unitRuns (s : State) (st : StackId) (p : Psd) (lo hi : Nat) : List (Nat × Nat) :=
  let half := p.stateAt + s.psdSsel st p.index * p.hs
  (p.elemRuns lo (hi - lo)).map (fun r => (half + r.1, r.2)) ++ [(p.grad + 8 * lo, 8 * (hi - lo))] ++ p.preRuns

/-- Whether a segment of a block has been accepted in the step. -/
def Marker.hasSeg (m : Marker) (i k : Nat) : Bool := m.segs.elem (i, k)
/-- Whether every segment that covers elements [lo, hi) has been accepted. -/
def Marker.hasElems (m : Marker) (i lo hi : Nat) : Bool :=
  (List.range ((hi + 255) / 256 - lo / 256)).all (fun k => m.hasSeg i (lo / 256 + k))

/-- The units in which a block is applied: 0 segment by segment, 1 row by row, 2 the whole block (R241). -/
def Psd.grain (p : Psd) : Nat :=
  if p.precond != 0 || p.rule == 3 then 2 else if p.rule == 2 then 1 else 0
/-- The elements of unit `k` of a block: first and end. -/
def Psd.unit (p : Psd) (k : Nat) : Nat × Nat :=
  if p.grain == 0 then (256 * k, min (256 * k + 256) p.nelem) else if p.grain == 1 then (k * p.cols, (k + 1) * p.cols) else (0, p.nelem)
/-- The number of units of a block. -/
def Psd.units (p : Psd) : Nat := if p.grain == 0 then p.nsegs else if p.grain == 1 then p.rows else 1
/-- The key of a unit in `applied`. -/
def unitKey (i k : Nat) : Nat := i * 2048 + k

/-- The runs of elements whose working copy is due once elements [lo, hi) have been applied: the elements themselves, or the rows that are now whole. `done` says whether an element's unit has been applied. -/
def Psd.wcDue (p : Psd) (lo hi : Nat) (done : Nat → Nat → Bool) : List (Nat × Nat) :=
  if p.wscaled then
    (List.range ((hi - 1) / p.cols + 1 - lo / p.cols)).filterMap (fun k =>
      let r := lo / p.cols + k
      if done (r * p.cols) ((r + 1) * p.cols) then some (r * p.cols, (r + 1) * p.cols) else none)
  else [(lo, hi)]

/-- Whether the units that cover elements [lo, hi) have been applied. -/
def Marker.unitsDone (m : Marker) (p : Psd) (lo hi : Nat) : Bool :=
  (List.range p.units).all (fun k => let u := p.unit k; u.2 ≤ lo || hi ≤ u.1 || NatSet.has m.applied (unitKey p.index k))

/-- A unit's key joins those that have been applied in the step, and its block those whose shadows have been begun. -/
def State.markUnit (s : State) (st : StackId) (p : Psd) (k : Nat) : State :=
  let m := s.marker st
  s.setMarker st { m with applied := NatSet.insert m.applied (unitKey p.index k), firstShadow := NatSet.insert m.firstShadow p.index }

/-- Applies a block as a whole into its shadows (R246, R248). -/
def State.applyWhole (s : State) (st : StackId) (p : Psd) (c lr : Val) : State :=
  let ssel := s.psdSsel st p.index
  let step := BitVec.ofNat 32 (s.reg .markerOpenStep st)
  let ((a, b), n) := (applyBlock p (s.hpOf st p) lr c (Tab.get 0 (s.marker st).chunkE p.index) (s.seedOf st) step (s.halfBytes p ssel)
    (s.bytes p.pre p.preSize) (s.retained p 0 p.nelem)).run 0
  let slot := s.shadowSlot st p
  let (s, bad) := s.markerReads st (s.unitRuns st p 0 p.nelem)
  let (s, n) := ((s.markerWrites st (p.stateAt + (1 - ssel) * p.hs) a bad).markerWrites st slot b bad).satsOf bad n
  (s.countSat st n).markUnit st p 0

/-- The working copy of the elements of a run, converted from their new masters in the other half; it is poisoned where one of them is. -/
def State.copyRun (s : State) (st : StackId) (p : Psd) (step : BitVec 32) (r : Nat × Nat) : State :=
  let a := p.stateAt + (1 - s.psdSsel st p.index) * p.hs + 4 * r.1
  let (ws, n) := (wcRun p (s.seedOf st) step r.1 ((List.range (r.2 - r.1)).map (fun j => decodeFp32 (s.num (a + 4 * j) 4)))).run 0
  let bad := s.unreadable st a (4 * (r.2 - r.1))
  let (s, n) := (s.markerWrites st (s.shadowSlot st p) ws bad).satsOf bad n
  s.countSat st n

/-- Applies unit `k`, elements [lo, hi), of a block that is applied in parts: the new elements, the tail, and the working copy of what is now whole. The zeros that pad the arrays are written with the block's first unit. -/
def State.applyPart (s : State) (st : StackId) (p : Psd) (c lr : Val) (k lo hi : Nat) : State :=
  let ssel := s.psdSsel st p.index
  let step := BitVec.ofNat 32 (s.reg .markerOpenStep st)
  let hp := s.hpOf st p
  let rd := s.halfBytes p ssel
  let first := !NatSet.has (s.marker st).firstShadow p.index
  let other := p.stateAt + (1 - ssel) * p.hs
  let (ps, n0) := ((if usesPs p.rule then newPs p hp rd else pure (.zero false, .zero false) : Sat (Val × Val))).run 0
  let (a, n1) := (do
    let es ← readElems p rd lo (hi - lo)
    let g ← gradients c (Tab.get 0 (s.marker st).chunkE p.index) (s.retained p lo (hi - lo))
    let ns ← applyRule ⟨p.rule, hp, lr, ps.1, ps.2⟩ es g
    writeElems p lo ns : Sat Writes).run 0
  let (s, bad) := s.markerReads st (s.unitRuns st p lo hi)
  let s := s.markerWrites st other (a ++ tailWrites p ps) bad
  let s := if first then (s.markerWrites st other p.statePads false).markerWrites st (s.shadowSlot st p) p.slotPads false else s
  let (s, n) := s.satsOf bad ((if first then n0 else 0) + n1)
  let s := (s.countSat st n).markUnit st p k
  s.each (p.wcDue lo hi ((s.marker st).unitsDone p)) (fun s r => s.copyRun st p step r)

/-- Applies one unit of a block that is not slow into its shadows with clip factor `c` (R241 to R249). -/
def State.applyUnit (s : State) (st : StackId) (p : Psd) (c : Val) (k : Nat) : State :=
  let (s, lr) := s.stepLr st p
  if p.grain == 2 then s.applyWhole st p c lr else s.applyPart st p c lr k (p.unit k).1 (p.unit k).2

/-- Applies every unit of a block whose segments have arrived and that has not been applied, unless its shadow slot is held back. -/
def State.applyReady (s : State) (st : StackId) (p : Psd) (c : Val) : State :=
  if s.shadowHeld st p then s
  else s.each (List.range p.units) (fun s k =>
    let m := s.marker st
    let (lo, hi) := p.unit k
    if !NatSet.has m.applied (unitKey p.index k) && m.hasElems p.index lo hi then s.applyUnit st p c k else s)

/-- The blocks of the step that are applied from their retained gradients, in PSD index order. -/
def Marker.fastBlocks (m : Marker) : List Psd := m.scan.filter (fun p => p.trained && !p.slow)

/-- In an open step without a decision to re-run, applies what waited for Homework (R235). -/
def State.applyWaiting (s : State) (st : StackId) : State :=
  if s.stepState st == mOPEN then s.each (s.marker st).fastBlocks (fun s p => s.applyReady st p oneVal) else s

/-! ## The late-slip pool (R257 to R259) -/

/-- Whether a slip's page has been freed: its application has been written back (R260). -/
def Marker.pageFreed (m : Marker) (sl : Slip) : Bool :=
  m.stages.any (fun g => g.index == sl.index && g.shadow.isSome && g.written && g.appliedStep == sl.step)
/-- The pages in use: one for each slip, two for each stage. -/
def Marker.usedPages (m : Marker) : List Nat :=
  (m.slips.filter (fun sl => !m.pageFreed sl)).map (fun sl => sl.page) ++ m.stages.flatMap (fun g => [g.pages.1, g.pages.2])
/-- How many pages are in use. -/
def Marker.pages (m : Marker) : Nat := m.usedPages.length
/-- The free pages of a pool of `total`, in ascending order. -/
def Marker.freePages (m : Marker) (total : Nat) : List Nat :=
  let used := m.usedPages
  (List.range total).filter (fun k => !used.elem k)
/-- SLIP_PAGES.FREE after a change. -/
def State.notePages (s : State) (st : StackId) : State :=
  s.setFld F.markerSlipPagesFree st 0 (s.fld F.markerSlipPagesPages st - (s.marker st).pages)

/-- What the header of a page of the pool says. The layout of a page belongs to the Marker (R257): data from byte 0, and a header of 64 bytes at byte 0xF0000 (DESIGN CHOICE, log entry 22). KIND is 0 for a free page, 1 for a slip, 2 and 3 for the committed and the shadow half of a stage. -/
structure PageHead where
  kind : Nat
  flags : Nat
  index : Nat
  step : Nat
  e : Nat
  c : Nat
  lr : Nat
  other : Nat
  len : Nat
deriving DecidableEq, Repr

/-- The header of a free page. -/
def PageHead.free : PageHead := ⟨0, 0, 0, 0, 0, 0, 0, 0, 0⟩
/-- The bytes of a header. -/
def PageHead.bytes (h : PageHead) : List Byte :=
  toBytes 1 h.kind ++ toBytes 1 h.flags ++ toBytes 2 0 ++ toBytes 4 h.index ++ toBytes 4 h.step ++ toBytes 4 h.e ++ toBytes 4 h.c
    ++ toBytes 4 h.lr ++ toBytes 4 h.other ++ toBytes 4 h.len ++ List.replicate 32 0
/-- The header of a slip's page. -/
def Slip.head (sl : Slip) : PageHead :=
  let d := sl.decided.getD (0, 0)
  ⟨1, bit sl.decided.isSome, sl.index, sl.step.toNat, unsigned 32 sl.e, d.1.toNat, d.2.toNat, 0, sl.data.length⟩
/-- The header of a stage's first page. -/
def SlipStage.head (g : SlipStage) : PageHead :=
  ⟨2, bit g.fetched + 2 * bit g.shadow.isSome + 4 * bit g.written + 8 * bit g.kept.isSome + 16 * bit g.poison, g.index, g.appliedStep.toNat, 0, g.sat, 0, g.pages.2, g.state.length⟩
/-- The header of page `k`. -/
def Marker.head (m : Marker) (k : Nat) : PageHead :=
  match m.slips.find? (fun sl => sl.page == k && !m.pageFreed sl), m.stages.find? (fun g => g.pages.1 == k), m.stages.find? (fun g => g.pages.2 == k) with
  | some sl, _, _ => sl.head
  | none, some g, _ => g.head
  | none, none, some g => ⟨3, 0, g.index, 0, 0, 0, 0, g.pages.1, 0⟩
  | none, none, none => PageHead.free

/-- The address of page `k` of a pool. -/
def State.pageAddr (s : State) (st k : Nat) : Nat := s.reg .markerSlip st + 2 ^ 20 * k
/-- Writes bytes of a page of the pool. -/
def State.putPage (s : State) (st k off : Nat) (data : List Byte) : State :=
  if k < s.fld F.markerSlipPagesPages st then s.memWrite 5 (s.pageAddr st k + off) data false else s
/-- The header of page `k` as HBM4 holds it; one that reads poisoned says nothing (DESIGN CHOICE, log entry 22). -/
def State.pageHead (s : State) (st k : Nat) : PageHead :=
  let f (off n : Nat) : Nat := s.num (s.pageAddr st k + 0xF0000 + off) n
  if s.anyPoison (s.pageAddr st k + 0xF0000) 64 then PageHead.free
  else ⟨f 0 1, f 1 1, f 4 4, f 8 4, f 12 4, f 16 4, f 20 4, f 24 4, f 28 4⟩
/-- Slips and stages change; the headers of the pages follow in HBM4. -/
def State.setPool (s : State) (st : StackId) (m : Marker) : State :=
  let old := s.marker st
  (s.setMarker st m).each (old.usedPages ++ m.usedPages).eraseDups (fun s k =>
    if old.head k == m.head k then s else s.putPage st k 0xF0000 (m.head k).bytes)

/-- A slip joins a list in the order of the steps. -/
def Slip.insert (sl : Slip) : List Slip → List Slip
  | [] => [sl]
  | x :: t => if sl.step.toNat < x.step.toNat then sl :: x :: t else x :: Slip.insert sl t
/-- The slip of a page, as HBM4 holds it. -/
def State.pageSlip (s : State) (st k : Nat) (h : PageHead) : Slip :=
  ⟨k, h.index, BitVec.ofNat 32 h.step, signed 32 h.e, (List.range h.len).map (fun j => signed 64 (s.num (s.pageAddr st k + 8 * j) 8)),
    if bitOf h.flags 0 then some (BitVec.ofNat 32 h.c, BitVec.ofNat 32 h.lr) else none⟩
/-- The stage of a page, as HBM4 holds it. -/
def State.pageStage (s : State) (st k : Nat) (h : PageHead) : SlipStage :=
  let half (b : Bool) : Option (List Byte) := if b then some (s.bytes (s.pageAddr st h.other) h.len) else none
  ⟨h.index, bitOf h.flags 0, s.bytes (s.pageAddr st k) h.len, half (bitOf h.flags 1), BitVec.ofNat 32 h.step,
    bitOf h.flags 1 && !bitOf h.flags 2, bitOf h.flags 2, false, (k, h.other), h.c, half (bitOf h.flags 3), bitOf h.flags 4⟩
/-- What is read of a pool: the header of every page, and the data of the pages in use. -/
def poolRuns (at' : Nat → Nat) (heads : List (Nat × PageHead)) : List (Nat × Nat) :=
  heads.map (fun x => (at' x.1 + 0xF0000, 64))
    ++ (heads.filter (fun x => x.2.kind == 1)).map (fun x => (at' x.1, 8 * x.2.len))
    ++ (heads.filter (fun x => x.2.kind == 2)).map (fun x => (at' x.1, x.2.len))
/-- The slips and stages become those that the pool in HBM4 holds, as after a checkpoint has been copied into it (R257). A slip whose page is freed stays while the application that freed it stands in its stage as it did (R260, R262). -/
def State.loadPool (s : State) (st : StackId) : State :=
  let m := s.marker st
  let heads := (List.range (s.fld F.markerSlipPagesPages st)).map (fun k => (k, s.pageHead st k))
  let stages := (heads.filter (fun x => x.2.kind == 2)).map (fun x => s.pageStage st x.1 x.2)
  let stands (sl : Slip) : Bool := m.pageFreed sl && m.stages.any (fun g => g.index == sl.index && stages.elem { g with failed := false })
  let slips := (heads.filter (fun x => x.2.kind == 1)).foldl (fun l x => Slip.insert (s.pageSlip st x.1 x.2) l) (m.slips.filter stands)
  let s := (s.markerReads st (poolRuns (s.pageAddr st) heads)).1
  (s.setMarker st { m with slips := slips, stages := stages }).notePages st

/-- Adds a chunk's elements to a slip from its first element (R258). -/
def addAt (data : List Int) (lo : Nat) (xs : List Int) : List Int :=
  data.zipIdx.map (fun d => d.1 + (if lo ≤ d.2 then xs.getD (d.2 - lo) 0 else 0))

/-- The elements of segment `seg` of a slip, in its page. -/
def State.putSegment (s : State) (st : StackId) (k : Nat) (data : List Int) (seg n : Nat) : State :=
  s.putPage st k (8 * 256 * seg) (((data.drop (256 * seg)).take n).flatMap (fun q => toBytes 8 (unsigned 64 q)))

/-- Requests on VC1 for the lines of a slow-tier half at another seat: LOADs that fetch it, or STOREs that write `data` (R259, R260, R291). -/
def State.slowRequests (s : State) (st : StackId) (op : FabOp) (a n : Nat) (data : List Byte) (bad : Bool) : State :=
  s.each (List.range ((n + 127) / 128)) (fun s k =>
    fabricRequestIssue s st ⟨.marker, op, BitVec.ofNat 64 (a + 128 * k), 15, false, (data.drop (128 * k)).take 128, if bad then 15 else 0, 0⟩)

/-- A request of a Marker for one line of the module itself, which is looped back and completes at once (R293, R306). -/
def State.ownRequest (s : State) (st : StackId) (op : FabOp) (a : Nat) (data : List Byte) (bad : Bool) : State × Answer :=
  let m : FabReq := ⟨BitVec.ofNat 12 s.seat, BitVec.ofNat 12 s.seat, 0, 15, false, BitVec.ofNat 48 a, BitVec.ofNat 12 s.seatEpoch,
    BitVec.ofNat 12 s.seatEpoch, if bad then 15 else 0, data, 0⟩
  let s := s.bump F.fabricIssuedCount (4 * st.val) 0 1
  match (if s.seatValid then s.reqRefusal st.val (s.partOf st.val) op m else some fNO_ROUTE) with
  | some f => (s.countStatus st.val a f, refused op m f)
  | none =>
    let (s, r) := s.performFrom st.val op m
    ((s.countHallway (reqHome m) st.val r.2.1.length).countStatus st.val a r.1, r)

/-- A slow-tier half of the module itself is read, line by line: its bytes, and whether every request was OK (R259). -/
def State.ownRead (s : State) (st : StackId) (a n : Nat) : State × List Byte × Bool :=
  (List.range ((n + 127) / 128)).foldl (fun r k =>
    let q := r.1.ownRequest st .load (a + 128 * k) [] false
    (q.1, r.2.1 ++ q.2.2.1, r.2.2 && q.2.1 == fOK)) (s, [], true)

/-- A slow-tier half of the module itself is written, line by line, and whether every request was OK (R260). -/
def State.ownWrite (s : State) (st : StackId) (a : Nat) (data : List Byte) (bad : Bool) : State × Bool :=
  (List.range ((data.length + 127) / 128)).foldl (fun r k =>
    let q := r.1.ownRequest st .store (a + 128 * k) ((data.drop (128 * k)).take 128) bad
    (q.1, r.2 && q.2.1 == fOK)) (s, true)

/-- Whether a slow block's state lies in the module itself (R293). -/
def State.ownSeat (s : State) (p : Psd) : Bool := fabSeat p.stateAt == s.seat
/-- The slow-tier address of a block's half. -/
def State.slowHalf (s : State) (st : StackId) (p : Psd) (other : Bool) : Nat :=
  let h := s.psdSsel st p.index
  p.stateAt + (if other then 1 - h else h) * p.hs

/-- A segment of a slow block is added into its slip of the step; none where no page is free (R258). The first slip of a block without a stage allocates one, and its committed half is fetched (R259): from another seat by LOADs, which leave at once. -/
def State.addSlip (s : State) (st : StackId) (p : Psd) (ch : Chunk) : Option State :=
  let m := s.marker st
  let step := BitVec.ofNat 32 (s.reg .markerOpenStep st)
  match m.slips.find? (fun sl => sl.index == p.index && sl.step == step) with
  | some sl =>
    let data := addAt sl.data (256 * ch.seg) ch.data
    some ((s.setPool st { m with slips := m.slips.map (fun x => if x == sl then { x with data := data } else x) }).putSegment st sl.page
      data ch.seg ch.data.length)
  | none =>
    let staged := m.stages.any (fun g => g.index == p.index)
    match m.freePages (s.fld F.markerSlipPagesPages st), staged with
    | k :: _, true =>
      let data := addAt (List.replicate p.nelem 0) (256 * ch.seg) ch.data
      some (((s.setPool st { m with slips := m.slips ++ [⟨k, p.index, step, ch.e, data, none⟩] }).putSegment st k data 0 p.nelem).notePages st)
    | k :: a :: b :: _, false =>
      let data := addAt (List.replicate p.nelem 0) (256 * ch.seg) ch.data
      let g : SlipStage := ⟨p.index, false, [], none, 0, false, false, false, (a, b), 0, none, false⟩
      let s := ((s.setPool st { m with slips := m.slips ++ [⟨k, p.index, step, ch.e, data, none⟩], stages := m.stages ++ [g] }).putSegment st k data 0
        p.nelem).notePages st
      some (if s.ownSeat p then s else s.slowRequests st .load (s.slowHalf st p false) p.hs [] false)
    | _, _ => none

/-- The ports of a stack show that VC3 credit is withheld, or no longer (R258, R286). -/
def State.setWithhold (s : State) (st : StackId) (b : Bool) : State :=
  let s := s.setFld F.markerStateWithhold st 0 (bit b)
  s.each [0, 1, 2, 3] (fun s k => s.setFld F.fabricStateVc3Withheld (4 * st.val + k) 0 (bit b))

/-! ## Chunks and Q (R239, R240, R250) -/

/-- A discarded chunk or Q (R240, R250, R444). -/
def State.badChunk (s : State) (st : StackId) (i : Nat) (step : BitVec 32) : State :=
  (s.bumpSat F.markerBadChunksCount st 0 1).logError .marker st uncorrected 0x014 i step.toNat

/-- The number of elements that segments [seg, seg + n) of a block hold. -/
def Psd.segElems (p : Psd) (seg n : Nat) : Nat := min (256 * (seg + n)) p.nelem - min (256 * seg) p.nelem

/-- Whether a chunk is discarded as bad, for a block that the scan found (R240). -/
def State.chunkBad (s : State) (st : StackId) (p : Psd) (c : Chunk) : Bool :=
  let m := s.marker st
  s.stepState st != mOPEN || c.step.toNat != s.reg .markerOpenStep st || !p.trained || c.seg + c.nseg > p.nsegs
    || !isFxg c.fmt.toNat || (m.segs.any (fun x => x.1 == p.index) && Tab.get 0 m.chunkE p.index != c.e)
    || c.data.length != p.segElems c.seg c.nseg || c.poisoned

/-- A chunk is judged: discarded, counted as duplicate, or accepted (R240, R241, R258). -/
def State.takeChunk (s : State) (st : StackId) (c : Chunk) : State :=
  match s.scanned st c.index.toNat with
  | none => s.badChunk st c.index.toNat c.step
  | some p =>
    let m := s.marker st
    let segs := (List.range c.nseg).map (fun k => (p.index, c.seg + k))
    if s.chunkBad st p c then s.badChunk st p.index c.step
    else if segs.any (fun x => m.hasSeg x.1 x.2) then s.bumpSat F.markerDupSegmentsCount st 0 1
    else
      let accept (s : State) : State :=
        let m := s.marker st
        (s.setMarker st { m with segs := m.segs ++ segs, chunkE := Tab.set 0 m.chunkE p.index c.e }).bump F.markerArrivedCount st 0 c.nseg
      if p.slow then
        match s.addSlip st p c with
        | some s => accept s
        | none => ((s.setWithhold st true).setMarker st { m with withheldChunks := m.withheldChunks ++ [c] })
      else
        let s := s.markerWrites st (p.grad + 8 * 256 * c.seg) [(0, c.data.flatMap (fun q => toBytes 8 (unsigned 64 q)))] false
        let s := accept (if c.seg + c.nseg = p.nsegs then s.markerWrites st p.grad [Psd.padAt 0 (8 * p.nelem)] false else s)
        s.applyReady st p oneVal

/-- GRADIENT_CHUNK: a chunk waits during SCANNING and while credit is withheld (R240, R258). -/
def gradientChunk (s : State) (st : StackId) (c : Chunk) : State :=
  let m := s.marker st
  if s.stepState st == mSCANNING then s.setMarker st { m with chunkWait := m.chunkWait ++ [c] }
  else if s.fld F.markerStateWithhold st == 1 then s.setMarker st { m with withheldChunks := m.withheldChunks ++ [c] }
  else s.takeChunk st c

/-- A page has been freed: credit is given again, and the chunks held back are taken in order (R258). -/
def State.pageFree (s : State) (st : StackId) : State :=
  let s := s.notePages st
  let m := s.marker st
  if s.fld F.markerStateWithhold st == 1 then
    let s := s.setWithhold st false
    (s.setMarker st { m with withheldChunks := [] }).each m.withheldChunks (fun s c => gradientChunk s st c)
  else s

/-- A Q is kept or discarded (R250). -/
def State.takeQ (s : State) (st : StackId) (step : BitVec 32) (q : LxValue) : State :=
  let m := s.marker st
  if s.stepState st != mIDLE && step.toNat == s.reg .markerOpenStep st && m.q.isNone then s.setMarker st { m with q := some q }
  else s.badChunk st 0 step

/-- NORM_Q_ARRIVAL: a Q that arrives during SCANNING waits (R250). -/
def normQArrival (s : State) (st : StackId) (step : BitVec 32) (q : LxValue) : State :=
  if s.stepState st == mSCANNING then s.setMarker st { s.marker st with qWait := (s.marker st).qWait ++ [(step, q)] }
  else s.takeQ st step q

/-- Chunks and Qs that waited for the scan. -/
def State.drainScan (s : State) (st : StackId) : State :=
  let m := s.marker st
  let s := s.setMarker st { m with chunkWait := [], qWait := [] }
  let s := s.each m.chunkWait (fun s c => gradientChunk s st c)
  s.each m.qWait (fun s x => s.takeQ st x.1 x.2)

/-! ## ARM (R237) -/

/-- Whether a step record of a Marker waits for the hold ring (R366). -/
def State.stepRecordWaits (s : State) (st : StackId) : Bool :=
  s.holdWait.any (fun h => (match h.ring with | .step _ => true | .queue _ => false)
    && h.bytes.length == 64 && bits (ofBytes h.bytes) 35 2 == st.val)

/-- ARM: the scan starts, or the ARM is refused BUSY (R237, R366). -/
def arm (s : State) (st : StackId) (step : BitVec 32) : State :=
  if s.stepState st != mIDLE || s.stepRecordWaits st then s.setFld F.markerArmStatusResult st 0 1
  else
    let m := s.marker st
    let s := s.setReg .markerArm st 0 step.toNat
    (s.setMarker st { m with lr := BitVec.ofNat 32 (s.reg .markerLr st), clip := BitVec.ofNat 32 (s.reg .markerClip st) }).setStepState st mSCANNING

/-- The entries of the PSD with VALID = 1, in index order, as the scan reads them. -/
def State.scanPsd (s : State) (st : Nat) : List Psd :=
  ((List.range (s.reg .psdEntries st)).map (fun i => s.readPsd st i)).filter (fun p => p.valid)

/-- The PSD counters at a scan (R275). -/
def State.countPsd (s : State) (st : Nat) (l : List Psd) : State :=
  let n (f : Psd → Bool) : Nat := (l.filter f).length
  ((((s.setReg .psdValidBlocks st 0 l.length).setReg .psdFrozenBlocks st 0 (n Psd.frozen)).setReg .psdSlowBlocks st 0 (n Psd.slow)).setReg
    .psdDegradedBlocks st 0 (n (fun p => bitOf (p.word 0) 4))).setReg .psdRollFaultBlocks st 0 (n (fun p => bitOf (p.word 0) 5))

/-- The hyperparameter sets that valid entries name. -/
def State.copyHp (s : State) (st : Nat) (l : List Psd) : Tab (List Byte) :=
  l.foldl (fun t p => Tab.set [] t p.hp (s.hpBytes st p.hp)) []

/-- Whether an entry refuses the ARM: it fails R232, or cannot be read (DESIGN CHOICE, log entry 22). -/
def State.entryFails (s : State) (st i : Nat) : Bool :=
  s.anyPoison (s.psdAt st i) 64 || ((s.readPsd st i).valid && !s.psdOk st (s.readPsd st i))
/-- The hyperparameter sets that valid entries name, as the scan reads them. -/
def State.hpRuns (s : State) (st : Nat) (l : List Psd) : List (Nat × Nat) :=
  ((l.map Psd.hp).eraseDups).map (fun j => (s.reg .markerHp st + 32 * j, 32))

/-- ARM_SCAN_COMPLETE: BAD_ENTRY, SLIP_SHORT, or the step opens (R232, R237). -/
def armScanComplete (s : State) (st : StackId) : State :=
  if s.stepState st != mSCANNING then s
  else
    let s := (s.markerReads st [(s.reg .psdTable st, 64 * s.reg .psdEntries st)]).1
    let l := s.scanPsd st
    let s := ((s.markerReads st (s.hpRuns st l)).1).countPsd st l
    match (List.range (s.reg .psdEntries st)).find? (s.entryFails st) with
    | some i =>
      (((s.setReg .markerArmStatus st 0 (2 + i * 2 ^ 8))).setStepState st mIDLE).drainScan st
    | none =>
      if s.fld F.markerSlipPagesPages st < ((l.filter Psd.slow).map (fun p => p.dm1 + 3)).sum then
        ((s.setReg .markerArmStatus st 0 3).setStepState st mIDLE).drainScan st
      else
        let s := (s.setReg .markerArmStatus st 0 0).setReg .markerOpenStep st 0 (s.reg .markerArm st)
        let s := (s.setReg .markerExpected st 0 ((l.filter Psd.trained).map Psd.nsegs).sum).setReg .markerArrived st 0 0
        let s := s.setMarker st { s.marker st with
          scan := l, hpSets := s.copyHp st l, segs := [], chunkE := [], q := none, applied := [], firstShadow := []
          decision := none, commitWritten := [], satStep := 0 }
        (s.setStepState st mOPEN).drainScan st

/-! ## Decision, commit and records (R251 to R256) -/

/-- Stages that hold no slip and no uncommitted application are released (R259). -/
def State.releaseStages (s : State) (st : StackId) : State :=
  let m := s.marker st
  (s.setPool st { m with stages := m.stages.filter (fun g => g.shadow.isSome || m.slips.any (fun sl => sl.index == g.index)) }).pageFree st

/-- The end of a step: the step record, its result, and IDLE (R254). `norm` and `clip` are those of the record. -/
def State.endStep (s : State) (st : StackId) (result norm clip blocks slips sat : Nat) : State :=
  let step := if s.stepState st == mSCANNING then s.reg .markerArm st else s.reg .markerOpenStep st
  let v := step + result * 2 ^ 32 + st.val * 2 ^ 35 + norm * 2 ^ 64 + clip * 2 ^ 96 + blocks * 2 ^ 128 + slips * 2 ^ 160
    + sat % 2 ^ 64 * 2 ^ 192 + s.now % 2 ^ 64 * 2 ^ 256
  let s := (s.setFld F.markerResultLast st 0 result).setStepState st mIDLE
  let s := s.setMarker st { s.marker st with
    segs := [], chunkE := [], q := none, applied := [], firstShadow := [], decision := none, commitWritten := [], satStep := 0 }
  (s.stepRec (s.partOf st) (toBytes 64 v)).drainScan st

/-- The slips of a step are discarded, and their pages freed (R258). -/
def State.dropSlips (s : State) (st : StackId) (step : Nat) : State :=
  let m := s.marker st
  (s.setPool st { m with slips := m.slips.filter (fun sl => sl.step.toNat != step) }).releaseStages st

/-- A step ends without a commit, with the effects of R252; its slips are discarded where `drop` says so, once it has ended, so that a chunk held back by R258 is not taken into it. A step that is still SCANNING has no slips. -/
def State.discardStep (s : State) (st : StackId) (result norm clip : Nat) (drop : Bool) : State :=
  let step := s.reg .markerOpenStep st
  let drop := drop && s.stepState st != mSCANNING
  let s := s.endStep st result norm clip 0 0 0
  if drop then s.dropSlips st step else s.releaseStages st

/-- The uncommitted application of a stage is discarded (R262). Where `keep` says so, what it computed is kept aside, and the slip takes it when it is applied again (R261). -/
def SlipStage.discard (g : SlipStage) (keep : Bool) : SlipStage :=
  let held := if keep then (if g.shadow.isSome && !g.poison then g.shadow else g.kept) else none
  { g with shadow := none, writing := false, written := false, sat := if held.isSome then g.sat else 0, kept := held, poison := false }

/-- The uncommitted applications of slow blocks are discarded, and their slips kept (R262): a slip whose page has been freed and given away takes a free one. -/
def State.dropShadows (s : State) (st : StackId) (keep : Bool) : State :=
  let m := s.marker st
  let freed := m.slips.filter m.pageFreed
  let m1 := { m with stages := m.stages.map (fun g => g.discard keep) }
  let total := s.fld F.markerSlipPagesPages st
  let m2 := freed.foldl (fun k sl =>
    let page := if m.usedPages.elem sl.page then (k.freePages total).headD total else sl.page
    { k with slips := k.slips.map (fun x => if x == sl then { x with page := page } else x) }) m1
  ((s.setPool st m2).each (m2.slips.filter (fun sl => freed.any (fun x => x.index == sl.index && x.step == sl.step))) (fun s sl =>
    s.putSegment st sl.page sl.data 0 sl.data.length)).notePages st

/-- A step ends ABANDONED, with the effects of R252 (R255). Uncommitted applications of slow blocks are discarded, as R262 says, and what they computed is kept for the next step that commits, as R261 says (DEDUCED, log entry 22). -/
def State.abandonStep (s : State) (st : StackId) : State :=
  ((s.bumpSat F.markerOtherDiscardsCount st 0 1).dropShadows st true).discardStep st 3 0 0 true

/-- A fetch or write-back has failed: the open step ends STATE_FAULT, uncommitted applications of slow blocks are discarded, and slips are kept (R262). -/
def State.stateFault (s : State) (st : StackId) (addr : Nat) : State :=
  let s := s.logError .marker st uncorrected 0x015 addr (s.reg .markerOpenStep st)
  let k := s.stepState st
  if k == mOPEN || k == mRERUN then ((s.bumpSat F.markerOtherDiscardsCount st 0 1).dropShadows st false).discardStep st 4 0 0 false
  else s

/-- The slips of the open step take its factor and step size (R258). -/
def State.decideSlips (s : State) (st : StackId) (c : BitVec 32) : State :=
  let step := s.reg .markerOpenStep st
  s.each ((s.marker st).slips.filter (fun sl => sl.step.toNat == step)) (fun s sl =>
    match s.scanned st sl.index with
    | none => s
    | some p =>
      let (s, lr) := s.stepLr st p
      let m := s.marker st
      s.setPool st { m with slips := m.slips.map (fun k =>
        if k.index == sl.index && k.step == sl.step then { k with decided := some (c, BitVec.ofNat 32 (fp32Code lr)) } else k) })

/-- STEP_DECISION (R251, R252). -/
def stepDecision (s : State) (st : StackId) : State :=
  let m := s.marker st
  match m.q with
  | none => s
  | some q =>
    if s.stepState st != mOPEN || m.decision.isSome || s.reg .markerArrived st != s.reg .markerExpected st then s
    else
      let set (s : State) (norm clip : Nat) : State := (s.setReg .markerNorm st 0 norm).setReg .markerClipFactor st 0 clip
      let bad : Bool := match q.read with | .zero _ => false | .num n _ => n | _ => true
      if bad then
        let s := (set s 0x7FC00000 0x7FC00000).bumpSat F.markerNonfiniteCount st 0 1
        s.discardStep st 2 0x7FC00000 0x7FC00000 true
      else
        let qv := q.read
        let tau := decodeFp32 m.clip.toNat
        let norm := fp32Code ((rnSqrt qv).run 0).1
        if (tau.mul tau).lt qv then
          let c := ((rn ((tau.mul tau).div qv).sqrt).run 0).1
          let s := (set s norm (fp32Code c)).bumpSat F.markerClipRerunsCount st 0 1
          let s := s.setMarker st { m with
            decision := some 1, applied := [], satStep := 0
            firstShadow := m.firstShadow.filter (fun k => decide (2 ^ 17 ≤ k)) }
          (s.decideSlips st (BitVec.ofNat 32 (fp32Code c))).setStepState st mRERUN
        else
          let s := (set s norm 0x3F800000).setMarker st { m with decision := some 0 }
          s.decideSlips st 0x3F800000#32

/-- CLIP_RERUN_COMPLETE: every update of the step has been recomputed with c, in PSD index order (R251). It waits while Homework holds back a shadow. -/
def clipRerunComplete (s : State) (st : StackId) : State :=
  let m := s.marker st
  if s.stepState st == mRERUN && !NatSet.has m.firstShadow rerunKey && !m.fastBlocks.any (fun p => s.shadowHeld st p) then
    let c := decodeFp32 (s.reg .markerClipFactor st)
    let s := s.each m.fastBlocks (fun s p => s.applyReady st p c)
    s.setMarker st { s.marker st with firstShadow := NatSet.insert (s.marker st).firstShadow rerunKey }
  else s

/-- The oldest slip of a block. -/
def Marker.oldest (m : Marker) (i : Nat) : Option Slip := m.slips.find? (fun sl => sl.index == i)
/-- The slip of a stage's block that is due and decided while its shadow is free (R260). -/
def State.dueSlip (s : State) (st : StackId) (p : Psd) (g : SlipStage) : Option Slip :=
  match (s.marker st).oldest p.index with
  | some sl => if p.slow && g.shadow.isNone && sl.decided.isSome && sl.step.toNat + p.dm1 + 1 ≤ s.reg .markerOpenStep st then some sl else none
  | none => none
/-- Whether a slow block has a slip that the open step still has to apply (R260). -/
def State.slipDue (s : State) (st : StackId) (g : SlipStage) : Bool :=
  match s.scanned st g.index with
  | some p => (s.dueSlip st p g).isSome
  | none => false

/-- Whether the shadows and write-backs of a decided step have been written, and every due slip has been applied (R253, step 1; R260). -/
def State.commitReady (s : State) (st : StackId) : Bool :=
  let m := s.marker st
  m.decision.isSome && (s.stepState st == mOPEN || (s.stepState st == mRERUN && NatSet.has m.firstShadow rerunKey))
    && m.fastBlocks.all (fun p => m.unitsDone p 0 p.nelem) && m.stages.all (fun g => (g.shadow.isNone || g.written) && !s.slipDue st g)

/-- Word 0 of a block after a commit of a step (R253). -/
def committedWord0 (w vslots step : Nat) : Nat :=
  (bits w 0 3 + 1) % vslots + (1 - bits w 3 1) * 2 ^ 3 + bits w 4 4 * 2 ^ 4 + min (bits w 8 24 + 1) 0xFFFFFF * 2 ^ 8 + step * 2 ^ 32

/-- The slow block of a stage commits its application: the shadow becomes the committed state, its slip is done, and its saturations are those of the step that commits it (R254, R261). -/
def State.commitStage (s : State) (st : StackId) (g : SlipStage) : State :=
  let m := s.marker st
  let b := g.shadow.getD g.state
  (s.setPool st { m with
    slips := m.slips.filter (fun sl => !(sl.index == g.index && sl.step == g.appliedStep))
    satStep := m.satStep + g.sat
    stages := m.stages.map (fun h => if h.index == g.index then
      { h.discard false with state := b } else h) }).putPage st g.pages.1 0 b

/-- MARKER_COMMIT: word 0 of every updated block, in ascending PSD index, then COMMITTED_STEP (R253). -/
def markerCommit (s : State) (st : StackId) : State :=
  if !s.commitReady st then s
  else
    let m := s.marker st
    let step := s.reg .markerOpenStep st
    let s := s.setStepState st mCOMMITTING
    let s := s.each m.scan (fun s p =>
      let put (s : State) (n : Nat) : State :=
        let s := s.writeWord0 st p.index (committedWord0 (s.psdWord0 st p.index) p.vslots n)
        s.setMarker st { s.marker st with commitWritten := NatSet.insert (s.marker st).commitWritten p.index }
      if p.slow then
        match m.stages.find? (fun g => g.index == p.index && g.shadow.isSome) with
        | some g => (put s g.appliedStep.toNat).commitStage st g
        | none => s
      else if p.trained then put s step else s)
    s.setReg .markerCommittedStep st 0 step

/-- Whether the commit makes the Homework record of a block FULL; none where no record is sent (R269). A block's first record is FULL too, which is decided as it is written. -/
def State.hwFullNow (s : State) (st : StackId) : Option Bool :=
  let every := s.fld F.markerHwCtrlFullEvery st
  match s.fld F.markerHwCtrlMode st with
  | 1 => some (every != 0 && s.reg .markerCommittedStep st % every == 0)
  | 2 => if every != 0 && s.reg .markerCommits st % every == 0 then some true else none
  | _ => none

/-- The Homework records of a commit join the queue, in ascending PSD index (R269). -/
def State.queueHomework (s : State) (st : StackId) (l : List Psd) : State :=
  s.each l (fun s p =>
    match s.hwFullNow st with
    | none => s
    | some full =>
      let m := s.marker st
      let h : HwRec := ⟨p, BitVec.ofNat 32 (s.reg .markerCommittedStep st), bits (s.psdWord0 st p.index) 8 24, s.psdCur st p.index, full⟩
      s.setMarker st { m with hwQueue := m.hwQueue ++ [h] })

/-- COMMIT_COMPLETE: the step record is issued and the Marker returns to IDLE (R253, R254); a roll check and Homework may now follow (R268, R269). -/
def commitComplete (s : State) (st : StackId) : State :=
  if s.stepState st != mCOMMITTING then s
  else
    let m := s.marker st
    let done := m.scan.filter (fun p => NatSet.has m.commitWritten p.index)
    let s := (s.bump F.markerCommitsCount st 0 1).queueHomework st done
    let period := s.fld F.markerRollPeriod st
    let s := if period != 0 && s.reg .markerCommittedStep st % period == 0 then
      s.setMarker st { s.marker st with rollDue := (s.marker st).rollDue + s.fld F.markerRollBlocks st } else s
    let result := (m.decision.getD 0).val
    (s.endStep st result (s.reg .markerNorm st) (s.reg .markerClipFactor st) done.length (done.filter Psd.slow).length m.satStep).releaseStages st

/-! ## The slow tier (R259 to R262) -/

/-- Changes the stage of a block. -/
def State.onStage (s : State) (st : StackId) (i : Nat) (f : SlipStage → SlipStage) : State :=
  let m := s.marker st
  s.setPool st { m with stages := m.stages.map (fun g => if g.index == i then f g else g) }
/-- SLIP_STATE_FETCH_COMPLETE: the half comes from the module's own memory where STATE names its own seat, and with the command otherwise (R259, R262). -/
def slipStateFetchComplete (s : State) (st : StackId) (i : Nat) (result : Option (List Byte)) : State :=
  match (s.marker st).stages.find? (fun g => g.index == i), s.scanned st i with
  | some g, some p =>
    if g.fetched then s
    else
      let bad (s : State) : State := (s.stateFault st (s.slowHalf st p false)).onStage st i (fun g => { g with failed := true })
      let put (s : State) (b : List Byte) : State :=
        (s.onStage st i (fun g => { g with fetched := true, state := b, failed := false })).putPage st g.pages.1 0 b
      match result with
      | none => bad s
      | some b =>
        if s.ownSeat p then
          let (s, b, ok) := s.ownRead st (s.slowHalf st p false) p.hs
          if ok then put s (b.take p.hs) else bad s
        else if b.length == p.hs then put s b else s
  | _, _ => s

/-- Bytes with a run of writes laid over them. -/
def overlay (b : List Byte) (ws : Writes) : List Byte :=
  ws.foldl (fun b w => b.take w.1 ++ w.2 ++ b.drop (w.1 + w.2.length)) b

/-- What an application of a slip gives: the other half, the writes of the shadow slot, and its saturations (R260, R261). One that an ABANDONED step discarded is not computed again, but for the working copy, which its master alone decides (R249, R261). -/
def State.slipResult (s : State) (st : StackId) (p : Psd) (g : SlipStage) (sl : Slip) : List Byte × Writes × Nat :=
  let seed := s.seedOf st
  let rd (off n : Nat) : List Byte := (g.state.drop off).take n
  match (if g.appliedStep == sl.step then g.kept else none) with
  | some half =>
    let ((ws : Writes), _) := (do let l ← finiteFp32s half p.nelem; wcRun p seed sl.step 0 l : Sat Writes).run 0
    (half, ws ++ p.slotPads, g.sat)
  | none =>
    let (c, lr) := sl.decided.getD (0, 0)
    let ((a, b), n) := (applyBlock p (s.hpOf st p) (decodeFp32 lr.toNat) (decodeFp32 c.toNat) sl.e seed sl.step rd (s.bytes p.pre p.preSize) sl.data).run 0
    (overlay g.state a, b, n)

/-- What an application of a slip reads: the stage's first page, the slip's page and the preconditioners. -/
def State.slipRuns (s : State) (st : StackId) (p : Psd) (g : SlipStage) (sl : Slip) : List (Nat × Nat) :=
  [(s.pageAddr st g.pages.1, p.hs), (s.pageAddr st sl.page, 8 * p.nelem)] ++ p.preRuns

/-- SLIP_APPLY: the oldest due slip of a slow block whose shadow is free is applied into the stage's shadow and the shadow slot, and its write-back starts (R260, R261): to another seat by STOREs, which leave at once. Its saturations are counted at once in SAT_COUNT, the first time that it is computed, and in the record of the step that commits it. -/
def slipApply (s : State) (st : StackId) (i : Nat) : State :=
  let m := s.marker st
  match m.stages.find? (fun g => g.index == i), s.scanned st i with
  | some g, some p =>
    match s.dueSlip st p g with
    | none => s
    | some sl =>
      if (s.stepState st == mOPEN || s.stepState st == mRERUN) && g.fetched && !s.shadowHeld st p then
        let again := g.kept.isSome && g.appliedStep == sl.step
        let (half, ws, n) := s.slipResult st p g sl
        let slot := s.shadowSlot st p
        let (s, bad) := s.markerReads st (if again then [] else s.slipRuns st p g sl)
        let half := if bad then (List.range half.length).map (Config.lostByte s.freeNext) else half
        let (s, n) := ((if bad then { s with freeNext := s.freeNext + 1 } else s).markerWrites st slot ws bad).satsOf bad n
        let s := s.bump F.markerSatCountCount st 0 (if again then 0 else n)
        let s := s.onStage st i (fun g =>
          { g with shadow := some half, appliedStep := sl.step, writing := true, written := false, sat := n, kept := none, poison := bad })
        let s := s.putPage st g.pages.2 0 half
        if s.ownSeat p then s else s.slowRequests st .store (s.slowHalf st p true) half.length half bad
      else s
  | _, _ => s

/-- SLIP_WRITEBACK_COMPLETE: the shadow state stands in half 1 − SSEL, in the module's own memory where STATE names its own seat, and the gradient page is freed (R260). A write-back that fails, or whose data are poisoned, ends the step STATE_FAULT (R262). -/
def slipWritebackComplete (s : State) (st : StackId) (i : Nat) (ok : Bool) : State :=
  match (s.marker st).stages.find? (fun g => g.index == i), s.scanned st i with
  | some g, some p =>
    if !g.writing then s
    else
      let a := s.slowHalf st p true
      let (s, done) := if ok && s.ownSeat p then s.ownWrite st a (g.shadow.getD []) g.poison else (s, ok)
      if done && !g.poison then (s.onStage st i (fun g => { g with writing := false, written := true })).pageFree st
      else s.stateFault st a
  | _, _ => s

/-! ## Register commands of a step (R255, R263) -/

/-- The effect of a write of 1 to STEP_CMD.ABANDON; none where it is refused (R255). -/
def abandonWrite (s : State) (st : StackId) : Option State :=
  let k := s.stepState st
  if k == mIDLE || k == mCOMMITTING then none else some (s.abandonStep st)

/-! ## Calibration (R264 to R267) -/

/-- Whether an FP32 code is finite. -/
def fp32Finite (c : Nat) : Bool := match decodeFp32 c with | .zero _ => true | .num _ _ => true | _ => false

/-- Whether a Calibration command for a block is accepted (R264). -/
def State.calOk (s : State) (st : StackId) (c : CalRun) (p : Psd) : Bool :=
  let n := if c.side then p.cols else p.rows
  let damp := decodeFp32 (s.reg .markerCalDamp st)
  s.fld F.markerStateMode st == 1 && s.stepState st == mIDLE && s.fld F.markerCalStatusBusy st == 0
    && c.index < s.reg .psdEntries st && p.valid && bitOf p.precond (bit c.side) && n ≤ 1024 && 1 ≤ c.iters && c.iters ≤ 64
    && hpNonneg damp && hpPos (decodeFp32 (s.reg .markerCalTol st))
    && s.rangeInRegion (s.partOf st) (s.reg .markerCalSrc st) (4 * n * n) && !s.overStaging (s.reg .markerCalSrc st) (4 * n * n)

/-- The start of a Calibration command, or its refusal (R264). Words 1 to 7 of the entry are those that the last accepted ARM scan read (R231); an entry that no such scan found VALID is refused (DEDUCED, log entry 24). -/
def calStart (s : State) (st : StackId) (c : CalRun) : State :=
  match s.scanned st c.index with
  | some p =>
    if s.calOk st c p then (s.setMarker st { s.marker st with cal := some (c, p) }).setFld F.markerCalStatusBusy st 0 1
    else s.setFld F.markerCalStatusResult st 0 2
  | none => s.setFld F.markerCalStatusResult st 0 2

/-- ceil(log2 v) of a positive value. -/
def ceilLog2 (v : Val) : Int :=
  match v with
  | .num _ m => if (Mag.lt (.rat 1 1 m.log2) m) then m.log2 + 1 else m.log2
  | _ => 0
/-- The smallest integer k with 2^(d·k) ≥ v. -/
def leastPow (d : Int) (v : Val) : Int := -((-(ceilLog2 v)).fdiv d)
/-- The n × n identity. -/
def identity (n : Nat) : Matrix := (List.range n).map (fun i => (List.range n).map (fun j => if i == j then oneVal else .zero false))
/-- A matrix taken element by element. -/
def mapMatrix (f : Val → Val) (m : Matrix) : Matrix := m.map (fun r => r.map f)
/-- Two matrices taken element by element. -/
def zipMatrix (f : Val → Val → Val) (a b : Matrix) : Matrix := (a.zip b).map (fun r => (r.1.zip r.2).map (fun x => f x.1 x.2))
/-- Whether every element of a matrix is within `tol` of the identity. -/
def nearIdentity (n : Nat) (tol : Val) (m : Matrix) : Bool :=
  (zipMatrix Val.sub m (identity n)).all (fun r => r.all (fun x => !tol.lt x.abs))
/-- A rounded matrix, the count of saturations left aside. -/
def rnMat (m : Matrix) : Matrix := ((rnMatrix m).run 0).1
/-- A product, rounded. -/
def rnMul (n : Nat) (a b : Matrix) : Matrix := rnMat (matMul n a b)
/-- An integer as a value. -/
def intVal (z : Int) : Val := .dyadic z 0

/-- The loop of INVROOT from iteration `it` (R265). -/
def invrootLoop (n p : Nat) (tol : Val) : Nat → Nat → Matrix → Matrix → Option (Matrix × Nat)
  | 0, _, _, _ => none
  | fuel + 1, it, x, mm =>
    let t := rnMat (mapMatrix (fun v => v.div (intVal p)) (zipMatrix Val.sub (mapMatrix (fun v => (intVal (p + 1)).mul v) (identity n)) mm))
    let x := rnMul n x t
    let mm := if p == 2 then rnMul n t (rnMul n t mm) else let t2 := rnMul n t t; rnMul n t2 (rnMul n t2 mm)
    if nearIdentity n tol mm then some (x, it) else invrootLoop n p tol fuel (it + 1) x mm

/-- INVROOT (R265). -/
def invrootOf (n p iters : Nat) (damp tol : Val) (a : Matrix) : Option (Matrix × Nat) :=
  let ad := a.zipIdx.map (fun r => r.1.zipIdx.map (fun x => if x.2 == r.2 then ((rn (x.1.add damp)).run 0).1 else x.1))
  match sumSquares ad.flatten with
  | .num sg m =>
    let k := leastPow (2 * p) (.num sg m)
    invrootLoop n p tol iters 1 (mapMatrix (fun v => v.scale (-k)) (identity n)) (rnMat (mapMatrix (fun v => v.scale (-k * p)) ad))
  | _ => none

/-- The loop of ORTHO (R266). -/
def orthoLoop (n : Nat) (tol : Val) : Nat → Nat → Matrix → Option (Matrix × Nat)
  | 0, _, _ => none
  | fuel + 1, it, x =>
    let y := rnMul n x (transpose n x)
    if nearIdentity n tol y then some (x, it)
    else
      let h : Val := .num false (.rat 1 1 (-1))
      orthoLoop n tol fuel (it + 1) (rnMat (zipMatrix (fun a b => ((intVal 3).mul h |>.mul a).sub (h.mul b)) x (matMul n y x)))

/-- ORTHO (R266). -/
def orthoOf (n iters : Nat) (tol : Val) (g : Matrix) : Option (Matrix × Nat) :=
  match sumSquares g.flatten with
  | .num sg m =>
    let k := leastPow 2 (.num sg m)
    orthoLoop n tol iters 1 (rnMat (mapMatrix (fun v => v.scale (-k)) g))
  | _ => none

/-- CALIBRATION_COMPLETE: the preconditioner, or the identity with PRECOND_DEGRADED (R267). A source that reads poisoned gives no preconditioner (DESIGN CHOICE, log entry 24). -/
def calibrationComplete (s : State) (st : StackId) : State :=
  match (s.marker st).cal with
  | none => s
  | some (c, p) =>
    let n := if c.side then p.cols else p.rows
    let src := s.reg .markerCalSrc st
    let (s, bytes, bad) := s.readFrom st 5 src (4 * n * n)
    let a := toRows n n ((finiteFp32s bytes (n * n)).run 0).1
    let tol := decodeFp32 (s.reg .markerCalTol st)
    let r := if bad then none else if c.ortho then orthoOf n c.iters tol a
      else invrootOf n (if c.p4 then 4 else 2) c.iters (decodeFp32 (s.reg .markerCalDamp st)) tol a
    let x := match r with | some (x, _) => x | none => identity n
    let s := s.markerWrites st (p.pre + (if c.side then p.offR else 0)) [(0, fp32Bytes x.flatten), Psd.padAt 0 (4 * n * n)] false
    let w := s.psdWord0 st c.index
    let s := s.writeWord0 st c.index (putBits w 4 1 (bit r.isNone))
    let s := s.setMarker st { s.marker st with cal := none }
    match r with
    | some (_, it) => s.setReg .markerCalStatus st 0 (it * 2 ^ 3)
    | none =>
      let s := (s.setReg .markerCalStatus st 0 (1 * 2 + c.iters * 2 ^ 3)).bumpSat F.markerDegradedCount st 0 1
      s.diary originModule .precondDegraded (st.val + c.index * 2 ^ 32) c.iters

/-! ## The roll check (R268) -/

/-- The master of a block in its committed half, and whether it could not be read. One in the slow tier is that of its stage; without a stage it is fetched, from the module's own memory, or from another seat as bytes that the model leaves free (log entry 23). -/
def State.masterBytes (s : State) (st : StackId) (p : Psd) : State × List Byte × Bool :=
  let n := 4 * p.nelem
  if !p.slow then s.readFrom st 5 (p.stateAt + s.psdSsel st p.index * p.hs) n
  else match (s.marker st).stages.find? (fun g => g.index == p.index && g.fetched) with
    | some g => let r := s.markerReads st [(s.pageAddr st g.pages.1, n)]; (r.1, g.state.take n, r.2)
    | none =>
      let a := s.slowHalf st p false
      if s.ownSeat p then let r := s.ownRead st a n; (r.1, r.2.1.take n, !r.2.2)
      else ({ s with freeNext := s.freeNext + 1 }.slowRequests st .load a n [] false, (List.range n).map (Config.fetchedByte s.freeNext), false)

/-- The working copy that R249 gives for a master, as the bytes of a version. -/
def rolledCopy (p : Psd) (seed : Word) (step : BitVec 32) (master : List Byte) : List Byte :=
  let (ws, _) := (do let l ← finiteFp32s master p.nelem; wcRun p seed step 0 l : Sat Writes).run 0
  overlay (List.replicate p.nbytes 0) ws

/-- One block is checked; a mismatch marks and reports it, and repairs nothing. A master or a version that cannot be read does not match (DESIGN CHOICE, log entry 23). -/
def State.rollBlock (s : State) (st : StackId) (p : Psd) : State :=
  let s := s.bump F.markerRollCheckedCount st 0 1
  let w := s.psdWord0 st p.index
  let last := bits w 32 32
  let (s, b, lost) := s.masterBytes st p
  let (s, v, bad) := s.readFrom st 5 (p.vers + bits w 0 3 * p.ws) p.nbytes
  if !lost && !bad && rolledCopy p (s.seedOf st) (BitVec.ofNat 32 last) b == v then s
  else
    let s := (s.writeWord0 st p.index (putBits w 5 1 1)).bumpSat F.markerRollMismatchCount st 0 1
    s.logError .marker st uncorrected 0x016 p.index last

/-- ROLL_CHECK: the next ROLL.BLOCKS valid blocks in round-robin PSD index order, while IDLE or OPEN (R268). -/
def rollCheck (s : State) (st : StackId) : State :=
  let m := s.marker st
  let l := m.scan.filter Psd.valid
  if m.rollDue = 0 || l.isEmpty || !(s.stepState st == mIDLE || s.stepState st == mOPEN) then s
  else
    let from' := (l.filter (fun p => m.rollNext ≤ p.index)) ++ (l.filter (fun p => p.index < m.rollNext))
    let go := (List.range m.rollDue).filterMap (fun k => from'[k % from'.length]?)
    let s := s.each go (fun s p => s.rollBlock st p)
    s.setMarker st { s.marker st with rollDue := 0, rollNext := ((go.getLast?.map (fun p => p.index + 1)).getD 0) }

/-! ## The commands -/

/-- GRADIENT_CHUNK (R240). -/
def execGradientChunk (st : StackId) (chunk : Chunk) (s : State) : Host.Outcome State Fault Refusal := .next (gradientChunk s st chunk)
/-- NORM_Q_ARRIVAL (R250). -/
def execNormQArrival (st : StackId) (step : BitVec 32) (q : LxValue) (s : State) : Host.Outcome State Fault Refusal := .next (normQArrival s st step q)
/-- STEP_DECISION (R251). -/
def execStepDecision (st : StackId) (s : State) : Host.Outcome State Fault Refusal := .next (stepDecision s st)
/-- CLIP_RERUN_COMPLETE (R251). -/
def execClipRerunComplete (st : StackId) (s : State) : Host.Outcome State Fault Refusal := .next (clipRerunComplete s st)
/-- MARKER_COMMIT (R253). -/
def execMarkerCommit (st : StackId) (s : State) : Host.Outcome State Fault Refusal := .next (markerCommit s st)
/-- COMMIT_COMPLETE (R253). -/
def execCommitComplete (st : StackId) (s : State) : Host.Outcome State Fault Refusal := .next (commitComplete s st)
/-- CALIBRATION_COMPLETE (R267). -/
def execCalibrationComplete (st : StackId) (s : State) : Host.Outcome State Fault Refusal := .next (calibrationComplete s st)
/-- ROLL_CHECK (R268). -/
def execRollCheck (st : StackId) (s : State) : Host.Outcome State Fault Refusal := .next (rollCheck s st)
/-- SLIP_STATE_FETCH_COMPLETE (R259). -/
def execSlipStateFetchComplete (st : StackId) (index : BitVec 17) (result : Option (List Byte)) (s : State) : Host.Outcome State Fault Refusal :=
  .next (slipStateFetchComplete s st index.toNat result)
/-- SLIP_APPLY (R260). -/
def execSlipApply (st : StackId) (index : BitVec 17) (s : State) : Host.Outcome State Fault Refusal := .next (slipApply s st index.toNat)
/-- SLIP_WRITEBACK_COMPLETE (R260). -/
def execSlipWritebackComplete (st : StackId) (index : BitVec 17) (ok : Bool) (s : State) : Host.Outcome State Fault Refusal :=
  .next (slipWritebackComplete s st index.toNat ok)

end Sys2Proof.Machine
end

