-- ==== Sys2Proof/Machine/Encoding.lean ====
section
/-!
DEFINITION. Bundles and slots as bits (R104 to R107): the encoding of every slot operation and its decoding, which refuses reserved opcodes and reserved bits.
-/
namespace Sys2Proof

/-- The field layouts of R106, as the list of a field's lowest bit and value. -/
def packFields (fs : List (Nat × Nat)) : Nat := (fs.map (fun f => f.2 * 2 ^ f.1)).sum

/-- OPC of an ALU operation of the RR layout (R107). -/
def AluOp.rrOpc (o : AluOp) : Nat := o.ctorIdx

/-- OPC of an ALU operation with an immediate, where there is one (R107). -/
def AluOp.riOpc : AluOp → Option Nat
  | .add => some 0x10 | .and => some 0x12 | .or => some 0x13 | .xor => some 0x14 | .shl => some 0x15
  | .shr => some 0x16 | .sra => some 0x17 | .slt => some 0x1C | .sltu => some 0x1D | .seq => some 0x1E
  | .sub | .mul | .mulhu | .min | .max => none

/-- OPC of an E-layout operation (R107). -/
def EngKind.opc : EngKind → Nat
  | .save => 0x60 | .rest => 0x61 | .rnd => 0x62 | .varith => 0x70 | .vfn => 0x71 | .vder => 0x72 | .vcvt => 0x73
  | .vlx => 0x74 | .vred => 0x75 | .vstat => 0x76 | .gath => 0x80 | .scat => 0x81 | .fin => 0xB0

/-- OPC of a load or store by its width in bytes and its base code. -/
def sizeOpc (base : Nat) : Nat → Option Nat
  | 1 => some base | 2 => some (base + 1) | 4 => some (base + 2) | 8 => some (base + 3) | _ => none

/-- The RR layout. -/
def rr (opc : Nat) (rd ra rb : Nat) : Nat := packFields [(54, opc), (49, rd), (44, ra), (39, rb)]
/-- The RI layout. -/
def ri (opc : Nat) (rd ra : Nat) (imm : BitVec 32) : Nat := packFields [(54, opc), (49, rd), (44, ra), (12, imm.toNat)]
/-- The BR layout. -/
def br (opc : Nat) (rd ra rb : Nat) (off : BitVec 20) : Nat :=
  packFields [(54, opc), (49, rd), (44, ra), (39, rb), (19, off.toNat)]
/-- The M layout. -/
def mLayout (m : MFields) : Nat :=
  packFields [(54, 0x50), (50, m.tA), (46, m.tB), (41, m.srow), (36, m.mrows), (35, m.accumulate.toNat), (34, m.ta.toNat),
    (33, m.tb.toNat), (17, m.kf.toNat)]
/-- The E layout. -/
def eLayout (opc : Nat) (e : EFields) : Nat :=
  packFields [(54, opc), (50, e.tD), (46, e.tA), (42, e.tB), (37, e.xa), (32, e.xb), (30, e.rnd.toNat), (29, e.ovf.toNat),
    (17, e.func.toNat)]
/-- The S layout. -/
def sLayout (opc : Nat) (f : SFields) : Nat :=
  packFields [(54, opc), (48, f.desc), (43, f.rd), (38, f.xa), (26, f.func.toNat)]

/-- The 62 bits of a slot; none for an operation that no slot encodes. -/
def encodeSlot : Op → Option Nat
  | .alu o rd ra rb => some (rr o.rrOpc rd ra rb)
  | .aluImm o rd ra imm => o.riOpc.map (fun c => ri c rd ra imm)
  | .csrr rd imm => some (ri 0x1F rd 0 imm)
  | .ld n rd ra imm => (sizeOpc 0x20 n).map (fun c => ri c rd ra imm)
  | .st n rs ra imm => (sizeOpc 0x24 n).map (fun c => ri c rs ra imm)
  | .ldx n rd ra imm => if n = 8 then some (ri 0x28 rd ra imm) else if n = 4 then some (ri 0x2A rd ra imm) else none
  | .stx n rs ra imm => if n = 8 then some (ri 0x29 rs ra imm) else if n = 4 then some (ri 0x2B rs ra imm) else none
  | .branch c ra rb off => some (br (0x30 + c.ctorIdx) 0 ra rb off)
  | .jal rd off => some (br 0x36 rd 0 0 off)
  | .jalr rd ra imm => some (ri 0x37 rd ra imm)
  | .fence => some (rr 0x38 0 0 0)
  | .halt => some (rr 0x39 0 0 0)
  | .trap imm => some (ri 0x3A 0 0 imm)
  | .tset td ra => some (rr 0x40 td ra 0)
  | .tget rd ta => some (rr 0x41 rd ta 0)
  | .tslot td ta imm => some (ri 0x42 td ta imm)
  | .li _ _ => none
  | .tli _ _ => none
  | .mma m => some (mLayout m)
  | .eng k e => some (eLayout k.opc e)
  | .stream k f => some (sLayout (0x90 + k.ctorIdx) f)
  | .bell g xa => some (packFields [(54, 0xA0), (42, g.toNat), (37, xa)])

/-- The opcode class of a slot operation, bits [7:4] of OPC (R105). -/
def Op.cls : Op → Nat
  | .alu .. => 0
  | .aluImm .. | .csrr .. | .li .. => 1
  | .ld .. | .st .. | .ldx .. | .stx .. => 2
  | .branch .. | .jal .. | .jalr .. | .fence | .halt | .trap .. => 3
  | .tset .. | .tget .. | .tslot .. | .tli .. => 4
  | .mma .. => 5
  | .eng k _ => k.opc / 16
  | .stream .. => 9
  | .bell .. => 0xA

/-- Whether an operation may stand in slot A (R105). -/
def Op.slotAOk (o : Op) : Bool :=
  match o with
  | .li .. | .tli .. => false
  | _ => o.cls == 0 || o.cls == 1 || o.cls == 2 || o.cls == 4
/-- Whether an operation may stand in slot B of an SS or an SE bundle (R105). -/
def Op.slotBOk (o : Op) : Bool :=
  match o with
  | .li .. | .tli .. => false
  | _ => true

/-- FORM of a bundle of two slots: SE where slot B holds classes 0x5 to 0xB, otherwise SS (R104, R105). -/
def formOf (b : Op) : Nat := if b.cls ≥ 5 then 2 else 1

/-- The 128 bits of a bundle of two slots (R104). -/
def encodeBundle (a b : Op) : Nat := formOf b + (encodeSlot a).getD 0 * 2 ^ 4 + (encodeSlot b).getD 0 * 2 ^ 66

/-- The 128 bits of an LI bundle (R104). -/
def encodeLi (opc dst : Nat) (imm : Word) : Nat := 3 + opc * 2 ^ 4 + dst * 2 ^ 12 + imm.toNat * 2 ^ 64

/-! ## Decoding -/

/-- A five-bit field as a register. -/
def regAt (w lo : Nat) : Fin 32 := Fin.ofNat 32 (bits w lo 5)
/-- A four-bit field as a tile register. -/
def tileAt (w lo : Nat) : Fin 16 := Fin.ofNat 16 (bits w lo 4)
/-- The ALU operation of an index. -/
def aluAt (n : Nat) : AluOp :=
  [AluOp.add, .sub, .and, .or, .xor, .shl, .shr, .sra, .mul, .mulhu, .min, .max, .slt, .sltu, .seq].getD n .add
/-- The condition of an index. -/
def condAt (n : Nat) : Cond := [Cond.eq, .ne, .lt, .ge, .ltu, .geu].getD n .eq
/-- The stream operation of an index. -/
def streamAt (n : Nat) : StreamKind := [StreamKind.arm, .wait, .rel, .qry].getD n .arm
/-- The E-layout operation of an OPC. -/
def engAt (opc : Nat) : Option EngKind :=
  [EngKind.save, .rest, .rnd, .varith, .vfn, .vder, .vcvt, .vlx, .vred, .vstat, .gath, .scat, .fin].find? (fun k => k.opc == opc)
/-- The ALU operation with an immediate of an OPC. -/
def riAluAt (opc : Nat) : Option AluOp :=
  [AluOp.add, .and, .or, .xor, .shl, .shr, .sra, .slt, .sltu, .seq].find? (fun o => o.riOpc == some opc)

/-- The operation that 62 bits of a slot encode; none for a reserved OPC or a non-zero reserved bit (R105 to R107). -/
def decodeSlot (w : Nat) : Option Op :=
  let opc := bits w 54 8
  let rd := regAt w 49
  let ra := regAt w 44
  let rb := regAt w 39
  let imm : BitVec 32 := BitVec.ofNat 32 (bits w 12 32)
  let off : BitVec 20 := BitVec.ofNat 20 (bits w 19 20)
  let rrOk := bits w 0 39 == 0
  let riOk := bits w 0 12 == 0
  let brOk := bits w 0 19 == 0
  let e : EFields := ⟨tileAt w 50, tileAt w 46, tileAt w 42, regAt w 37, regAt w 32, BitVec.ofNat 2 (bits w 30 2), bitOf w 29,
    BitVec.ofNat 12 (bits w 17 12)⟩
  if opc ≤ 0x0E then (if rrOk then some (.alu (aluAt opc) rd ra rb) else none)
  else if opc == 0x1F then (if riOk then some (.csrr rd imm) else none)
  else if 0x10 ≤ opc && opc ≤ 0x1E then
    (match riAluAt opc with
     | some o => if riOk then some (.aluImm o rd ra imm) else none
     | none => none)
  else if 0x20 ≤ opc && opc ≤ 0x23 then (if riOk then some (.ld (2 ^ (opc - 0x20)) rd ra imm) else none)
  else if 0x24 ≤ opc && opc ≤ 0x27 then (if riOk then some (.st (2 ^ (opc - 0x24)) rd ra imm) else none)
  else if opc == 0x28 || opc == 0x2A then (if riOk then some (.ldx (if opc == 0x28 then 8 else 4) rd ra imm) else none)
  else if opc == 0x29 || opc == 0x2B then (if riOk then some (.stx (if opc == 0x29 then 8 else 4) rd ra imm) else none)
  else if 0x30 ≤ opc && opc ≤ 0x35 then
    (if brOk && rd == 0 then some (.branch (condAt (opc - 0x30)) ra rb off) else none)
  else if opc == 0x36 then (if brOk then some (.jal rd off) else none)
  else if opc == 0x37 then (if riOk then some (.jalr rd ra imm) else none)
  else if opc == 0x38 then (if bits w 0 54 == 0 then some .fence else none)
  else if opc == 0x39 then (if bits w 0 54 == 0 then some .halt else none)
  else if opc == 0x3A then (if riOk && rd == 0 && ra == 0 then some (.trap imm) else none)
  else if opc == 0x40 then (if rrOk && rd.val < 16 then some (.tset (Fin.ofNat 16 rd) ra) else none)
  else if opc == 0x41 then (if rrOk && ra.val < 16 then some (.tget rd (Fin.ofNat 16 ra)) else none)
  else if opc == 0x42 then
    (if riOk && rd.val < 16 && ra.val < 16 then some (.tslot (Fin.ofNat 16 rd) (Fin.ofNat 16 ra) imm) else none)
  else if opc == 0x50 then
    (if bits w 0 17 == 0 then
      some (.mma ⟨tileAt w 50, tileAt w 46, regAt w 41, regAt w 36, bitOf w 35, bitOf w 34, bitOf w 33, BitVec.ofNat 16 (bits w 17 16)⟩)
     else none)
  else if 0x90 ≤ opc && opc ≤ 0x93 then
    (if bits w 0 26 == 0 then
      some (.stream (streamAt (opc - 0x90)) ⟨Fin.ofNat 64 (bits w 48 6), regAt w 43, regAt w 38, BitVec.ofNat 12 (bits w 26 12)⟩)
     else none)
  else if opc == 0xA0 then
    (if bits w 0 37 == 0 then some (.bell (BitVec.ofNat 12 (bits w 42 12)) (regAt w 37)) else none)
  else match engAt opc with
    | some k => if bits w 0 17 == 0 then some (.eng k e) else none
    | none => none

/-- The two operations of a bundle; none where FORM is reserved, a slot does not decode, or a form holds an operation that it may not (R104, R105). An LI bundle reads as its operation alone. -/
def decodeBundle (w : Nat) : Option (Op × Option Op) :=
  let form := bits w 0 4
  if form == 1 || form == 2 then
    match decodeSlot (bits w 4 62), decodeSlot (bits w 66 62) with
    | some a, some b => if a.slotAOk && (formOf b == form) then some (a, some b) else none
    | _, _ => none
  else if form == 3 then
    let opc := bits w 4 8
    let dst := bits w 12 5
    let imm : Word := BitVec.ofNat 64 (bits w 64 64)
    if bits w 17 47 != 0 then none
    else if opc == 0x11 then some (.li (Fin.ofNat 32 dst) imm, none)
    else if opc == 0x43 && dst < 16 then some (.tli (Fin.ofNat 16 dst) imm, none)
    else none
  else none

end Sys2Proof
end

