-- ==== Sys2Proof/Machine/Operands.lean ====
section
/-!
DEFINITION. Every operand form of the thread operations: tile registers, tensor and stream descriptors, tiles in the core store, scale vectors, LX tiles, and which slots and Slate rows an operation reads and writes (R87 to R103, R164, R166, R167).
-/
namespace Sys2Proof.Machine

/-! ## Registers of a thread (R90) -/

/-- A scalar register; x0 reads 0. -/
def Thread.rx (t : Thread) (r : Fin 32) : Word := if r = 0 then 0 else Tab.get 0 t.x r.val
/-- Writes a scalar register; a write to x0 is discarded. -/
def Thread.wx (t : Thread) (r : Fin 32) (v : Word) : Thread := if r = 0 then t else { t with x := Tab.set 0 t.x r.val v }
/-- The PC as a byte offset: 2^20 for a thread that has run past the end of the instruction store (R90, R109). -/
def Thread.at' (t : Thread) : Nat := t.pc.toNat + 2 ^ 20 * bit t.pastEnd
/-- A tile register. -/
def Thread.rt (t : Thread) (r : Fin 16) : Word := Tab.get 0 t.t r.val
/-- Writes a tile register. -/
def Thread.wt (t : Thread) (r : Fin 16) (v : Word) : Thread := { t with t := Tab.set 0 t.t r.val v }

/-! ## Descriptors -/

/-- A tensor descriptor (R164). -/
structure TensorDesc where
  fmt : Nat
  saxis : Nat
  valid : Bool
  statsEn : Bool
  e : Int
  tag : BitVec 32
  l : Nat
  statsAddr : Nat
deriving DecidableEq, Repr

/-- The fields of a tensor descriptor's 256 bits (R164). -/
def tensorDesc (w : Nat) : TensorDesc :=
  ⟨bits w 0 4, bits w 4 2, bitOf w 6, bitOf w 7, signed 16 (bits w 16 16), BitVec.ofNat 32 (bits w 32 32), bits w 64 32,
   bits w 128 50⟩

/-- Whether an operation may use a tensor of this descriptor's format, scale axis and layer exponent (R29, R30, R37, R164). -/
def TensorDesc.legal (d : TensorDesc) : Bool :=
  d.fmt != 0xF && d.saxis != 3 && (if d.saxis == 0 then mayBeUnscaled d.fmt else mayBeScaled d.fmt)
    && (!isFxg d.fmt || (decide (-320 ≤ d.e) && decide (d.e ≤ 256)))

/-- A tile register (R99). -/
structure TileReg where
  slot : Nat
  span : Nat
  rows : Nat
  tdesc : Nat
  sslot : Nat
  srow : Nat
  stream : Option Nat
deriving DecidableEq, Repr

/-- The fields of a tile register; `rows` and `span` are counts (R99). -/
def tileReg (w : Nat) : TileReg :=
  ⟨bits w 0 7, bits w 7 5 + 1, bits w 12 7 + 1, bits w 20 6, bits w 26 7, bits w 33 7,
   if bitOf w 40 then some (bits w 41 6) else none⟩

/-- Whether a reserved bit of a tile register is set (R99). -/
def tileReserved (w : Nat) : Bool := bitOf w 19 || bits w 47 17 != 0

/-- A stream descriptor (R166). -/
structure StreamDesc where
  dir : Nat
  target : Nat
  engine : Bool
  autoArm : Bool
  valid : Bool
  owner : Nat
  nbuf : Nat
  pfd : Nat
  buftile : Nat
  rb : Nat
  base : Nat
  baseArg : Nat
  rstride : Int
  tstride : Int
  sbase : Nat
  ststride : Int
  count : Nat
  linkStage : Nat
  linkDesc : Nat
deriving DecidableEq, Repr

/-- The fields of a stream descriptor's 512 bits (R166). -/
def streamDesc (w : Nat) : StreamDesc :=
  ⟨bits w 0 2, bits w 2 2, bitOf w 4, bitOf w 5, bitOf w 6, bits w 8 4, bits w 12 3 + 1, bits w 16 4, bits w 32 64, bits w 96 16,
   bits w 128 50, bits w 178 3, signed 64 (bits w 192 64), signed 64 (bits w 256 64), bits w 320 50, signed 32 (bits w 384 32),
   bits w 416 32, bits w 448 3, bits w 456 6⟩

/-- A tensor descriptor as the module takes it: one whose VALID is 0 is absent, and its other fields are ignored (R504). -/
def tensorOf (w : Nat) : TensorDesc := if (tensorDesc w).valid then tensorDesc w else tensorDesc 0

/-- A tensor descriptor of the running stage (R100). -/
def Stage.tensor (g : Stage) (d : Nat) : TensorDesc := tensorOf (Tab.get 0 g.tdesc d).toNat
/-- A stream descriptor of the running stage. -/
def Stage.stream (g : Stage) (d : Nat) : StreamDesc := streamDesc (Tab.get 0 g.sdesc d).toNat
/-- The run-time state of a stream descriptor. -/
def Core.dyn (c : Core) (d : Nat) : StreamDyn := Tab.get StreamDyn.init c.streams d
/-- Replaces it. -/
def Core.setDyn (c : Core) (d : Nat) (v : StreamDyn) : Core := { c with streams := Tab.set StreamDyn.init c.streams d v }

/-! ## Tiles -/

/-- Elements per slot row (R101). -/
def perRow : Nat → Nat
  | 0 => 32 | 9 => 32 | 0xA => 32 | 1 => 64 | 2 => 64 | 0xB => 64 | 3 => 128 | 4 => 128 | 8 => 128 | 0xE => 128
  | 5 => 128 | 6 => 128 | 7 => 256 | 0xC => 16 | _ => 1

/-- A tile in the core store: its slots, rows, descriptor and scale vector (R99 to R102). -/
structure Tile where
  slot : Nat
  span : Nat
  rows : Nat
  tdesc : Nat
  d : TensorDesc
  sslot : Nat
  srow : Nat
deriving DecidableEq, Repr

/-- The columns of a tile: (SPAN + 1) × P. -/
def Tile.cols (t : Tile) : Nat := t.span * perRow t.d.fmt
/-- The length of its scale vector (R102). -/
def Tile.scaleLen (t : Tile) : Nat := if t.d.saxis == 1 then t.rows else if t.d.saxis == 2 then t.cols else 0
/-- The byte offset of its scale vector. -/
def Tile.scaleOff (t : Tile) : Nat := t.sslot * 16384 + t.srow * 128
/-- The slots of its elements. -/
def Tile.slots (t : Tile) : List Nat := (List.range t.span).map (fun k => t.slot + k)
/-- The slots that `n` bytes of its scale vector lie in. -/
def Tile.scaleSlots (t : Tile) (n : Nat) : List Nat :=
  if n == 0 then [] else
    (List.range ((t.scaleOff + n - 1) / 16384 + 1 - t.sslot)).map (fun k => t.sslot + k)

/-- Buffer `m` of a stream descriptor as a tile register word: BUFTILE moved by its buffer number (R167). -/
def bufferReg (g : Stage) (sd : StreamDesc) (m : Nat) : Nat :=
  let r := tileReg sd.buftile
  let b := m % sd.nbuf
  let td := g.tensor r.tdesc
  let t : Tile := ⟨r.slot, r.span, r.rows, r.tdesc, td, r.sslot, r.srow⟩
  let start := r.sslot * 128 + r.srow + (t.scaleLen + 127) / 128 * b
  putBits (putBits (putBits sd.buftile 0 7 (r.slot + b * r.span)) 26 7 (start / 128)) 33 7 (start % 128)

/-- The tile a tile register names; a stream-fed register takes its shape from buffer `m` and its tensor from its own descriptor (R99, R126). -/
def resolveTile (g : Stage) (w : Nat) (m : Nat) : Tile :=
  let r := tileReg w
  let p := match r.stream with
    | none => r
    | some d => tileReg (bufferReg g (g.stream d) m)
  ⟨p.slot, p.span, p.rows, r.tdesc, g.tensor r.tdesc, p.sslot, p.srow⟩

/-! ## The core store -/

/-- A byte of a core's store. -/
def State.storeByte (s : State) (c off : Nat) : Byte := s.byte (coreStoreKey (s.physCore c) off)
/-- `n` bytes of a core's store as a number (R4). -/
def State.storeNum (s : State) (c off n : Nat) : Nat := s.num (coreStoreKey (s.physCore c) off) n
/-- Whether the row of an offset is poisoned (R89). -/
def State.rowPoisoned (s : State) (c off : Nat) : Bool := NatSet.has s.rowPoison (rowKey (s.physCore c) off)
/-- Marks or clears a row's poison. -/
def State.setRowPoison (s : State) (c off : Nat) (p : Bool) : State :=
  let k := rowKey (s.physCore c) off
  { s with rowPoison := if p then NatSet.insert s.rowPoison k else NatSet.erase s.rowPoison k }
/-- Writes bytes within one core store row: a write of the whole row clears its poison, a partial one leaves it, and poisoned data poison it (R89). -/
def State.storeWrite (s : State) (c off : Nat) (data : List Byte) (p : Bool) : State :=
  let s := s.setBytes (coreStoreKey (s.physCore c) off) data
  if p then s.setRowPoison c off true
  else if data.length == 128 && off % 128 == 0 then s.setRowPoison c off false else s

/-- The row parts of a byte range that starts at `off`: offset and length, row by row. -/
def rowParts (off n : Nat) : List (Nat × Nat) :=
  (List.range ((off % 128 + n + 127) / 128)).map (fun k =>
    let lo := max off (off / 128 * 128 + 128 * k)
    (lo, min (off + n) (off / 128 * 128 + 128 * k + 128) - lo))
/-- Writes a byte range of a core store, row by row. -/
def State.storeWriteRange (s : State) (c off : Nat) (data : List Byte) : State :=
  s.each (rowParts off data.length) (fun s p => s.storeWrite c p.1 ((data.drop (p.1 - off)).take p.2) false)

/-- The offset of slot row `r` of the tile's k-th slot. -/
def Tile.rowOff (t : Tile) (k r : Nat) : Nat := (t.slot + k) * 16384 + r * 128

/-- The element codes of one slot row (R31, R101). -/
def unpackRow (fmt x : Nat) : List Nat := (List.range (perRow fmt)).map (fun i => bits x (fmtWidth fmt * i) (fmtWidth fmt))
/-- The 128 bytes of one slot row; reserved bytes of an FP6 row are 0 (R101). -/
def packRow (fmt : Nat) (codes : List Nat) : List Byte :=
  toBytes 128 ((codes.zipIdx.map (fun c => c.1 % 2 ^ fmtWidth fmt * 2 ^ (fmtWidth fmt * c.2))).sum)

/-- The code of element (r, c) (R101). -/
def State.elemCode (s : State) (c : Nat) (t : Tile) (r col : Nat) : Nat :=
  let p := perRow t.d.fmt
  let w := fmtWidth t.d.fmt
  bits (s.storeNum c (t.rowOff (col / p) r) 128) (w * (col % p)) w

/-- The codes of row `r`, all columns. -/
def State.rowCodes (s : State) (c : Nat) (t : Tile) (r : Nat) : List Nat :=
  ((List.range t.span).map (fun k => unpackRow t.d.fmt (s.storeNum c (t.rowOff k r) 128))).flatten

/-- Entry `i` of a scale vector (R102). -/
def State.scaleAt (s : State) (c : Nat) (t : Tile) (i : Nat) : Nat := (s.storeByte c (t.scaleOff + i)).toNat

/-- The exact values of row `r`, scales included (R40, R126). -/
def State.rowVals (s : State) (c : Nat) (t : Tile) (r : Nat) : List Val :=
  (s.rowCodes c t r).zipIdx.map (fun x =>
    let sc := if t.d.saxis == 1 then some (s.scaleAt c t r) else if t.d.saxis == 2 then some (s.scaleAt c t x.2) else none
    decodeScaled t.d.fmt t.d.e sc x.1)

/-- The exact values of a tile, row by row. -/
def State.tileVals (s : State) (c : Nat) (t : Tile) : List (List Val) := (List.range t.rows).map (s.rowVals c t)

/-- Writes element codes into a tile: slot rows written whole clear their poison, other elements are left unchanged (R89, R101). `f r col` gives the code to write, or none. -/
def State.writeTile (s : State) (c : Nat) (t : Tile) (f : Nat → Nat → Option Nat) : State :=
  let p := perRow t.d.fmt
  s.each (List.range t.rows) (fun s r => s.each (List.range t.span) (fun s k =>
    let codes := (List.range p).map (fun i => f r (k * p + i))
    if codes.all Option.isNone then s
    else if codes.all Option.isSome then s.storeWrite c (t.rowOff k r) (packRow t.d.fmt (codes.map (fun o => o.getD 0))) false
    else
      let old := unpackRow t.d.fmt (s.storeNum c (t.rowOff k r) 128)
      let new := packRow t.d.fmt ((codes.zip old).map (fun o => o.1.getD o.2))
      s.setBytes (coreStoreKey (s.physCore c) (t.rowOff k r)) new))

/-- The first poisoned row among the rows that `parts` names by offset: slot × 128 + row (R113). -/
def State.firstPoison (s : State) (c : Nat) (offs : List Nat) : Option Nat :=
  (offs.find? (s.rowPoisoned c)).map (fun o => o / 128)

/-- The row offsets of a tile's elements. -/
def Tile.rowOffs (t : Tile) : List Nat :=
  ((List.range t.rows).map (fun r => (List.range t.span).map (fun k => t.rowOff k r))).flatten
/-- The row offsets of the first `n` bytes of its scale vector. -/
def Tile.scaleOffs (t : Tile) (n : Nat) : List Nat := (rowParts t.scaleOff n).map (fun p => p.1)

/-! ## LX tiles (R73) -/

/-- Accumulator p of an LX tile. -/
def State.lxAt (s : State) (c slot p : Nat) : LxValue :=
  let base := slot * 16384
  ⟨signed 640 (s.storeNum c (base + 80 * p) 80), bitOf (s.storeByte c (base + 10240 + p)).toNat 0,
   bitOf (s.storeByte c (base + 10240 + p)).toNat 1, bitOf (s.storeByte c (base + 10240 + p)).toNat 2⟩
/-- Whether a flag byte has a reserved bit set (R74). -/
def State.lxFlagBad (s : State) (c slot p : Nat) : Bool := bits (s.storeByte c (slot * 16384 + 10240 + p)).toNat 3 5 != 0
/-- The bytes of an LX tile of 128 accumulators: values, flag bytes, zeros (R73). -/
def lxTileBytes (f : Nat → LxValue) : List Byte :=
  ((List.range 128).map (fun p => (f p).valueBytes)).flatten ++ (List.range 128).map (fun p => (f p).flagByte)
    ++ List.replicate 6016 0
/-- Writes an LX tile, all 16 KiB of its slot. -/
def State.writeLx (s : State) (c slot : Nat) (f : Nat → LxValue) : State :=
  s.storeWriteRange c (slot * 16384) (lxTileBytes f)
/-- The rows of an LX tile that hold values and flags. -/
def lxOffs (slot : Nat) : List Nat := (List.range 81).map (fun r => slot * 16384 + r * 128)

/-! ## The Slate (R68) -/

/-- Accumulator `n` of a core. -/
def State.acc (s : State) (c n : Nat) : Acc := Tab.get Acc.zero s.slate (s.physCore c * 4096 + n)
/-- Replaces an accumulator. -/
def State.setAcc (s : State) (c n : Nat) (a : Acc) : State :=
  { s with slate := Tab.set Acc.zero s.slate (s.physCore c * 4096 + n) a }

/-! ## What an operation names -/

end Sys2Proof.Machine
namespace Sys2Proof
open Machine

/-- Which of its tile registers an engine operation uses: (tD, tA, tB). -/
def Op.usesTiles : Op → Bool × Bool × Bool
  | .mma _ => (false, true, true)
  | .eng k e =>
    let f := e.func.toNat
    match k with
    | .save => (true, false, false)
    | .rest => (false, true, false)
    | .rnd => (true, true, true)
    | .varith => (true, true, decide (f / 256 ≤ 6) && bits f 6 2 != 3)
    | .vfn => (true, true, false)
    | .vder => (true, true, true)
    | .vcvt => (true, true, false)
    | .vlx => (true, true, decide (f / 256 ≤ 1))
    | .vred => (true, true, false)
    | .vstat => (true, true, false)
    | .gath => (true, true, false)
    | .scat => (false, true, true)
    | .fin => (true, true, true)
  | _ => (false, false, false)

/-- The Slate rows an operation names: first row and count, cut at row 31 (R71, R106, R107). -/
def Op.slateRows : Op → List Nat
  | .mma m => (List.range (m.mrows.val + 1)).map (fun k => m.srow.val + k) |>.filter (fun r => decide (r < 32))
  | .eng .save e => [bits e.func.toNat 7 5]
  | .eng .rest e => [bits e.func.toNat 7 5]
  | .eng .rnd e => (List.range (bits e.func.toNat 2 5 + 1)).map (fun k => bits e.func.toNat 7 5 + k) |>.filter (fun r => decide (r < 32))
  | _ => []

/-- SMODE of an operation that has one: true for GIVEN (R127, R133). -/
def Op.given : Op → Bool
  | .eng k e => (k == .varith || k == .vfn || k == .vder || k == .vcvt || k == .vred || k == .vstat || k == .fin) && bitOf e.func.toNat 0
  | _ => false

end Sys2Proof
namespace Sys2Proof.Machine

/-- How many entries of tA's (0) or tB's (1) scale vector a RND reads: one per destination row that it feeds, and one per destination column that its Slate rows reach (R76, R505). Columns of a row-scaled tD from its L on, which are written +0, are among them (DESIGN CHOICE, log entry 48: R76 does not say whether their entries of tB count as read). -/
def EngOp.rndEntries (g : Stage) (o : EngOp) (which : Nat) : Nat :=
  let t := resolveTile g o.tD.toNat 0
  match o.op with
  | .eng .rnd e =>
    let b := (t.cols + 127) / 128
    if which == 0 then (if b == 0 then 0 else (bits e.func.toNat 2 5 + b) / b) else min t.cols (128 * (bits e.func.toNat 2 5 + 1))
  | _ => 0

/-- The slots an engine operation reads and the slots it writes, scale vectors included (R88); stream-fed operands are read from buffers of their descriptor and are not among them.
GATH and SCAT move element rows only, and yet the scale-vector slots of a scaled tD or tB count among theirs (DESIGN CHOICE, log entry 48: R88 includes scale vectors, and R146 does not say whether a tile whose scales are not touched has them). -/
def EngOp.slots (g : Stage) (o : EngOp) : List Nat × List Nat :=
  let (uD, uA, uB) := o.op.usesTiles
  let src (use : Bool) (w : Word) : List Nat :=
    if use && (tileReg w.toNat).stream.isNone then
      let t := resolveTile g w.toNat 0
      match o.op with
      | .eng .rnd _ => []
      | _ => t.slots ++ t.scaleSlots t.scaleLen
    else []
  let dT := resolveTile g o.tD.toNat 0
  let rnd := match o.op with
    | .eng .rnd _ =>
      let part (which : Nat) (w : Word) : List Nat :=
        let t := resolveTile g w.toNat 0
        if t.d.saxis == 0 || (tileReg w.toNat).stream.isSome then [] else t.scaleSlots (o.rndEntries g which)
      part 0 o.tA ++ part 1 o.tB
    | _ => []
  let dScale := if uD then dT.scaleSlots dT.scaleLen else []
  let dRead := match o.op with
    | .eng .varith e => if e.func.toNat / 256 == 3 then dT.slots ++ dScale else []
    | .eng .vred e => if bitOf e.func.toNat 2 then dT.slots ++ dScale else []
    | _ => []
  let given := if o.op.given then dScale else []
  let written := match o.op with
    | .eng .vstat _ => []
    | _ => if uD then dT.slots ++ (if o.op.given then [] else dScale) else []
  (src uA o.tA ++ src uB o.tB ++ rnd ++ dRead ++ given, written)

/-- The source tiles of an operation. -/
def EngOp.srcA (g : Stage) (o : EngOp) : Tile := resolveTile g o.tA.toNat o.bufA
/-- tB. -/
def EngOp.srcB (g : Stage) (o : EngOp) : Tile := resolveTile g o.tB.toNat o.bufB
/-- tD. -/
def EngOp.dst (g : Stage) (o : EngOp) : Tile := resolveTile g o.tD.toNat 0

/-- Whether two lists share a member. -/
def meets (a b : List Nat) : Bool := a.any (fun x => b.elem x)

/-- Whether two operations of one thread conflict on a slot (R96). -/
def slotConflict (a b : List Nat × List Nat) : Bool := meets a.2 (b.1 ++ b.2) || meets b.2 (a.1 ++ a.2)

/-- Whether a later operation must wait for an earlier one of its thread: a slot that one writes and the other uses, or a Slate row that both name, an ACCUMULATE MMA after an MMA excepted (R72, R96). -/
def EngOp.waitsFor (g : Stage) (later earlier : EngOp) : Bool :=
  earlier.thread == later.thread && earlier.order < later.order &&
    (slotConflict (earlier.slots g) (later.slots g)
     || (meets earlier.op.slateRows later.op.slateRows &&
         !(match earlier.op, later.op with | .mma _, .mma m => m.accumulate | _, _ => false)))

/-- Every operation of a core that has not finished. -/
def Core.unfinished (c : Core) : List EngOp :=
  c.mmaQ ++ c.slateQ ++ c.vecQ ++ c.gathQ ++ c.finQ ++ c.mmaRun.map (fun r => r.eng) ++ c.slateRun.toList ++ c.vecRun ++ c.finRun.toList
    ++ (match c.gathRun with | some r => [r.eng] | none => [])

end Sys2Proof.Machine
end

