-- ==== Sys2Proof/Machine/Faults.lean ====
section
/-!
DEFINITION. Thread faults: the core's fault record, the FAULTED state and what becomes of the thread's later operations (R113 to R115).
-/
namespace Sys2Proof.Machine

/-- Fault codes (R113). -/
abbrev cILLEGAL : Nat := 0x01
/-- FETCH. -/
abbrev cFETCH : Nat := 0x02
/-- FORMAT. -/
abbrev cFORMAT : Nat := 0x03
/-- ADDRESS. -/
abbrev cADDRESS : Nat := 0x04
/-- SLOT. -/
abbrev cSLOT : Nat := 0x05
/-- SLATE. -/
abbrev cSLATE : Nat := 0x06
/-- DESCRIPTOR. -/
abbrev cDESCRIPTOR : Nat := 0x07
/-- POISON. -/
abbrev cPOISON : Nat := 0x08
/-- MEMORY. -/
abbrev cMEMORY : Nat := 0x09
/-- BELL. -/
abbrev cBELL : Nat := 0x0A
/-- TRAP. -/
abbrev cTRAP : Nat := 0x0B

/-- A fault as it is detected: the thread, where, and the detail word (R113). -/
structure ThreadFault where
  thread : Fin 16
  pc : BitVec 20
  slotB : Bool
  engine : Bool
  code : Nat
  detail : Nat
deriving DecidableEq, Repr

/-- The fault record of a core: written only while VALID is 0, otherwise MORE is set and FAULT_COUNT rises (R115). -/
def State.recordFault (s : State) (c : Nat) (f : ThreadFault) : State :=
  let i := coreInst c
  if s.fld F.coreFaultInfoValid i == 0 then
    let v := f.code + f.thread.val * 2 ^ 8 + bit f.slotB * 2 ^ 12 + bit f.engine * 2 ^ 13 + 2 ^ 15 + f.pc.toNat * 2 ^ 16
    (s.setReg .coreFaultInfo i 0 v).setReg .coreFaultAddr i 0 (f.detail % 2 ^ 64)
  else (s.setFld F.coreFaultInfoMore i 0 1).bumpSat F.coreFaultCountCount i 0 1

/-- The operations of a queue that a fault of `n` at bundle `seq` leaves: its later ones that have not started are discarded (R114). One of the same bundle, such as slot B's beside an LDX whose data return poisoned, counts among the later ones (DESIGN CHOICE, log entry 49: R114 speaks of those before and after the bundle). -/
def keepAfterFault (n : Fin 16) (seq : Nat) (q : List EngOp) : List EngOp :=
  q.filter (fun o => o.thread != n || o.seq < seq)

/-- The lesson that runs on a cluster. -/
def State.lessonOn (s : State) (cl : Nat) : Option Nat := (s.cluster cl).run

/-- A thread raises a fault: it enters FAULTED with its PC at the bundle concerned, its later operations that have not started are discarded, the record is written, and the sequencer reports to the lesson's home Tutor (R114, R115). `seq` is the bundle's place in the thread's program order. -/
def State.raise (s : State) (c : CoreId) (seq : Nat) (f : ThreadFault) : State :=
  let co := s.core c
  let t := co.thread f.thread
  let t := { t with state := .faulted, pc := f.pc, waitOn := none, waitBell := none }
  let co := { (co.setThread f.thread t) with
    mmaQ := keepAfterFault f.thread seq co.mmaQ
    slateQ := keepAfterFault f.thread seq co.slateQ
    vecQ := keepAfterFault f.thread seq co.vecQ
    gathQ := keepAfterFault f.thread seq co.gathQ
    finQ := keepAfterFault f.thread seq co.finQ
    streamQ := keepAfterFault f.thread seq co.streamQ }
  let s := (s.setCore c co).recordFault c f
  match s.lessonOn (clusterOfCore c) with
  | none => s
  | some l => { s with partMsgs := s.partMsgs ++
      [.fault l ⟨stackOfCore c, clusterOfCore c % 16, logicalCore c, f.thread.val, f.code, f.pc.toNat, f.detail % 2 ^ 64⟩] }

/-- An engine operation faults (R113): it writes nothing. -/
def State.raiseEngine (s : State) (c : CoreId) (o : EngOp) (code detail : Nat) : State :=
  s.raise c o.seq ⟨o.thread, o.pc, o.slotB, true, code, detail⟩

/-- The detail word of a FORMAT fault: FMT, TDESC, and 0 for tA, 1 for tB, 2 for tD (R113). -/
def formatDetail (g : Stage) (w : Word) (which : Nat) : Nat :=
  let r := tileReg w.toNat
  (g.tensor r.tdesc).fmt + r.tdesc * 2 ^ 8 + which * 2 ^ 14

end Sys2Proof.Machine
end

