-- ==== Sys2Proof/Machine/Streams.lean ====
section
/-!
DEFINITION. Stream descriptors at run time: runs, transfers, requests, buffers and the stream operations (R166 to R174).
-/
namespace Sys2Proof.Machine

/-! ## Buffers and runs -/

/-- DIR codes (R166). -/
abbrev dirIn : Nat := 0
/-- OUT. -/
abbrev dirOut : Nat := 1
/-- LINK_IN. -/
abbrev dirLinkIn : Nat := 2

/-- Whether buffer `m` of a descriptor that is filled is free for its fill: the buffer's previous transfer is neither landed, held nor in progress (R168). -/
def StreamDyn.fillFree (y : StreamDyn) (nbuf m : Nat) : Bool :=
  m < nbuf || (!NatSet.has y.landed (m - nbuf) && !y.held.elem (m - nbuf) && !y.xfers.any (fun x => x.m == m - nbuf))

/-- Whether the consumer's next buffer, `taken`, is there to take: filled, or for OUT empty and owned by the descriptor (R172). -/
def StreamDyn.nextReady (y : StreamDyn) (sd : StreamDesc) : Bool :=
  if sd.dir == dirOut then y.taken < sd.nbuf || NatSet.has y.landed (y.taken - sd.nbuf) else NatSet.has y.landed y.taken

/-- The READY count of SQRY (R172). -/
def StreamDyn.ready (y : StreamDyn) (sd : StreamDesc) : Nat :=
  if sd.dir == dirOut then sd.nbuf - y.held.length - y.outPend.length - y.xfers.length
  else (y.landed.filter (fun m => decide (y.taken ≤ m))).length

/-- The SQRY status word (R172). -/
def StreamDyn.status (y : StreamDyn) (sd : StreamDesc) : Nat :=
  y.state.val + y.ready sd % 16 * 2 ^ 3 + y.done % 2 ^ 32 * 2 ^ 8

/-- A run of `count` transfers from `base` starts (R168): its transfers follow those armed before. `by'` is the SARM that armed it. -/
def StreamDyn.startRun (y : StreamDyn) (base count : Nat) (by' : Option (BitVec 20 × Nat)) : StreamDyn :=
  { y with state := 1, base := base, count := count, runStart := y.runStart + y.count, done := 0, runAt := by' }

/-- SARM (R168): the status it returns and what it does. `by'` is its bundle's PC and place in program order. -/
def StreamDyn.arm (y : StreamDyn) (base count : Nat) (by' : BitVec 20 × Nat) : Nat × StreamDyn :=
  if y.state = 1 then (1, { y with state := 2, latched := some (base, count), latchedAt := some by', armed := y.armed + count })
  else if y.state = 2 then (2, y)
  else (0, { y.startRun base count (some by') with armed := y.armed + count })

/-- A transfer of the run completes; with the last of them the run is done, or the latched run starts at once (R168). -/
def StreamDyn.complete (y : StreamDyn) (m : Nat) : StreamDyn :=
  let y := { y with xfers := y.xfers.filter (fun x => x.m != m), landed := NatSet.insert y.landed m, done := y.done + 1 }
  if y.state = 4 then y
  else if y.done = y.count then
    match y.latched with
    | some (b, k) => { y.startRun b k y.latchedAt with latched := none, latchedAt := none }
    | none => { y with state := 3 }
  else y

/-- The tile of a descriptor's buffer. -/
def bufferTile (g : Stage) (sd : StreamDesc) (m : Nat) : Tile :=
  let r := tileReg (bufferReg g sd m)
  ⟨r.slot, r.span, r.rows, r.tdesc, g.tensor r.tdesc, r.sslot, r.srow⟩

/-- The slots of buffer `m`, scale rows included. -/
def bufferSlots (g : Stage) (sd : StreamDesc) (m : Nat) : List Nat :=
  let t := bufferTile g sd m
  t.slots ++ t.scaleSlots t.scaleLen

/-- Sets the owner byte of slots (R88). -/
def Core.setOwner (c : Core) (slots : List Nat) (o : Byte) : Core :=
  { c with owner := slots.foldl (fun w sl => Tab.set 0 w sl o) c.owner }

/-- A thread takes the next buffer: its slots, and its tile register into t(rd) (R172). -/
def Core.takeBuffer (c : Core) (g : Stage) (d : Nat) (n : Fin 16) (td : Nat) : Core :=
  let sd := g.stream d
  let y := c.dyn d
  let m := y.taken
  let y := { y with
    taken := m + 1
    held := y.held ++ [m]
    landed := NatSet.erase y.landed (if sd.dir == dirOut then m - sd.nbuf else m) }
  let y := if sd.dir == dirOut && m < sd.nbuf then { y with landed := (c.dyn d).landed } else y
  let t := c.thread n
  let t := { t with t := Tab.set 0 t.t td (BitVec.ofNat 64 (bufferReg g sd m)) }
  ((c.setDyn d y).setOwner (bufferSlots g sd m) (BitVec.ofNat 8 (0x10 + n.val))).setThread n t

/-- A release: the oldest buffer that the thread holds goes back to the descriptor, for OUT to be sent (R172). -/
def Core.release (c : Core) (g : Stage) (d : Nat) : Core :=
  let sd := g.stream d
  let y := c.dyn d
  match y.held with
  | [] => c
  | m :: rest =>
    let y := if sd.dir == dirOut then { y with held := rest, outPend := y.outPend ++ [m] } else { y with held := rest }
    (c.setDyn d y).setOwner (bufferSlots g sd m) (BitVec.ofNat 8 (0x40 + d))

/-- The descriptor of a stream operation. -/
def streamDescOf (e : EngOp) : Nat := match e.op with | .stream _ f => f.desc.val | _ => 0

/-- Whether the stream engine can take a release: no earlier release of the thread waits, and every earlier engine operation of the thread on the buffer's slots has finished (R96, R172). -/
def Core.releaseReady (c : Core) (g : Stage) (e : EngOp) : Bool :=
  let slots := match (c.dyn (streamDescOf e)).held with | m :: _ => bufferSlots g (g.stream (streamDescOf e)) m | [] => []
  !c.streamQ.any (fun o => o.thread == e.thread && o.order < e.order)
    && !c.unfinished.any (fun o => o.thread == e.thread && o.order < e.order && meets slots ((o.slots g).1 ++ (o.slots g).2))

/-- The stream engine takes every release that it can (R98). Releases of different threads do not wait for each other (DESIGN CHOICE, log entry 16). -/
def Core.takeReleases (c : Core) (g : Stage) : Core :=
  c.streamQ.foldl (fun (c : Core) (e : EngOp) =>
    if c.releaseReady g e then { c.release g (streamDescOf e) with streamQ := c.streamQ.filter (fun o => o.order != e.order) } else c) c

/-- The core as its queued releases leave it: what the checks of R88 and R173 see, which depend on program order alone. -/
def Core.projected (c : Core) (g : Stage) : Core := c.streamQ.foldl (fun c e => c.release g (streamDescOf e)) c

/-- A core whose stream engine has taken the releases that it can. -/
def State.takeReleases (s : State) (c : CoreId) : State :=
  match (s.core c).stage with
  | none => s
  | some g => s.setCore c ((s.core c).takeReleases g)

/-- An engine has read buffer `m` of a descriptor: it is released (R122, R174). -/
def Core.engineRelease (c : Core) (d m : Nat) : Core :=
  let y := c.dyn d
  c.setDyn d { y with landed := NatSet.erase y.landed m }

/-- Whether a buffer has been armed for a consumer: a LINK_IN has no count until it is CLOSED (R171, R173). A stream-fed engine operation is refused on a CLOSED LINK_IN without such a buffer as a SWAIT is, and one that was queued before the close waits (DESIGN CHOICE, log entry 49: R173 names SWAIT alone). -/
def StreamDyn.armedFor (y : StreamDyn) (sd : StreamDesc) (m : Nat) : Bool :=
  if sd.dir == dirLinkIn then y.state != 4 || NatSet.has y.landed m else m < y.armed

/-! ## Requests (R169, R170) -/

/-- An integer as an address; a negative one lies in no region. -/
def intAddr (z : Int) : Nat := if z < 0 then 2 ^ 63 else z.toNat

/-- The sectors of each tile row that a transfer moves: module address, core store offset and length (R169). A base of SARM or of an argument word that is no multiple of 32 moves unaligned pieces of 32 bytes (DESIGN CHOICE, log entry 49: R169 says that it must be one, and names no outcome). -/
def xferRows (g : Stage) (sd : StreamDesc) (x : Xfer) : List (List (Nat × Nat × Nat)) :=
  let tile := bufferTile g sd x.m
  (List.range tile.rows).map (fun (row : Nat) => (List.range (sd.rb / 32)).map (fun (k : Nat) =>
    let i : Nat := 32 * k
    (intAddr ((x.base : Int) + x.t * sd.tstride + row * sd.rstride + i), tile.rowOff (i / 128) row + i % 128, 32)))

/-- The sectors of its scale vector (R169). -/
def xferScale (g : Stage) (sd : StreamDesc) (x : Xfer) : List (Nat × Nat × Nat) :=
  let tile := bufferTile g sd x.m
  let n := tile.scaleLen
  (List.range ((n + 31) / 32)).map (fun (k : Nat) =>
    (intAddr ((sd.sbase : Int) + x.t * sd.ststride + 32 * k), tile.scaleOff + 32 * k, min 32 (n - 32 * k)))

/-- Every sector of a transfer, in the order its requests go. -/
def xferSectors (g : Stage) (sd : StreamDesc) (x : Xfer) : List (Nat × Nat × Nat) := (xferRows g sd x).flatten ++ xferScale g sd x

/-- Sectors grouped into requests: the parts of one row or scale vector within one 128-byte line (R170). -/
def groupRequests : List (Nat × Nat × Nat) → List (List (Nat × Nat × Nat))
  | [] => []
  | p :: ps =>
    match groupRequests ps with
    | (q :: qs) :: rest => if q.1 == p.1 + 32 && p.1 / 128 == q.1 / 128 then (p :: q :: qs) :: rest else [p] :: (q :: qs) :: rest
    | rest => [p] :: rest

/-- The requests of a transfer: those of each row in turn, then those of its scale vector. -/
def xferRequests (g : Stage) (sd : StreamDesc) (x : Xfer) : List (List (Nat × Nat × Nat)) :=
  ((xferRows g sd x).map groupRequests).flatten ++ groupRequests (xferScale g sd x)

/-- Whether a core may reach an address: memory of a stack of its partition, over a Hallway link that is not DOWN (R17, R108, R170, R220). -/
def State.coreReaches (s : State) (c a : Nat) : Bool :=
  s.isMemory a && s.partOf (addrStack a) == s.partOf (stackOfCore c) && !s.hallwayDown (stackOfCore c) (addrStack a)

/-- Touches the lines of transfer t + PFD of an IN run (R170): dropped for scratch and for an address that would fault. -/
def State.touchAhead (s : State) (c : Nat) (g : Stage) (sd : StreamDesc) (y : StreamDyn) (t : Nat) : State :=
  if sd.dir == dirIn && sd.pfd != 0 && t + sd.pfd < y.count then
    let x : Xfer := ⟨y.runStart + t + sd.pfd, t + sd.pfd, y.base, 0, 0, false, false⟩
    s.each (xferSectors g sd x) (fun s p =>
      if s.coreReaches c p.1 && regionOf p.1 == .hbm then s.memTouch 3 p.1 32 else s)
  else s

/-- STREAM_TRANSFER_START: the descriptor's next transfer starts, once its buffer is owned by the descriptor and the previous transfer has sent its last request (R168). -/
def streamTransferStart (s : State) (c : CoreId) (d : Nat) : State :=
  let s := s.takeReleases c
  let co := s.core c
  match co.stage with
  | none => s
  | some g =>
    let sd := g.stream d
    let y := co.dyn d
    let m := y.started
    let total (x : Xfer) : Nat := (xferRequests g sd x).length
    let due := (y.state = 1 ∨ y.state = 2) ∧ m < y.runStart + y.count ∧ sd.valid ∧ !g.loading
    let idle := y.xfers.all (fun x => x.sent == total x)
    let own := if sd.dir == dirIn then y.fillFree sd.nbuf m else sd.dir == dirOut && sd.target == 0 && y.outPend.head? == some m
    if due ∧ idle ∧ own then
      let x : Xfer := ⟨m, m - y.runStart, y.base, 0, 0, false, false⟩
      let y' := { y with started := m + 1, xfers := y.xfers ++ [x], outPend := y.outPend.filter (fun k => k != m) }
      (s.setCore c (co.setDyn d y')).touchAhead c g sd y (m - y.runStart)
    else s

/-- The descriptor whose turn it is: the next after the last one served, upward, among those with a request to send (R170). -/
def nextSender (g : Stage) (co : Core) : Option (Nat × Xfer) :=
  ((List.range 64).map (fun k => (co.lastDesc + 1 + k) % 64)).findSome? (fun d =>
    ((co.dyn d).xfers.find? (fun x => !x.halted && x.sent < (xferRequests g (g.stream d) x).length)).map (fun x => (d, x)))

/-- Replaces a transfer in progress. -/
def StreamDyn.putXfer (y : StreamDyn) (x : Xfer) : StreamDyn :=
  { y with xfers := y.xfers.map (fun k => if k.m == x.m then x else k) }

/-- Marks on the lesson that runs on a cluster what its work has done (R183). -/
def State.markLesson (s : State) (cl : Nat) (f : Lesson → Lesson) : State :=
  match s.lessonOn cl with
  | none => s
  | some l => { s with lessons := s.lessons.map (fun k => if k.id == l then f k else k) }

/-- The PC and the place in program order of the bundle that a stream fault of descriptor `d` concerns: the SARM that armed the run (R114); for a run that no bundle of the owner armed, such as an AUTO_ARM run, the owner's present ones (DESIGN CHOICE, log entry 49). -/
def Core.streamAt (co : Core) (d : Nat) (n : Fin 16) : BitVec 20 × Nat :=
  ((co.dyn d).runAt).getD ((co.thread n).pc, (co.thread n).seq)

/-- A stream fault of descriptor `d` at an address, as a fault of its owner (R113, R170). -/
def State.raiseStream (s : State) (c : CoreId) (g : Stage) (d a : Nat) : State :=
  let n : Fin 16 := Fin.ofNat 16 (g.stream d).owner
  let w := (s.core c).streamAt d n
  s.raise c w.2 ⟨n, w.1, true, true, cADDRESS, a⟩

/-- A request of a transfer of descriptor `d` is sent; one with an address that the core does not reach raises ADDRESS there as a fault of the owner instead, and the transfer sends no more (R113, R170). -/
def State.sendRequest (s : State) (c : CoreId) (g : Stage) (d : Nat) (x : Xfer) (bad : Option Nat) : State :=
  match bad with
  | some a =>
    let co := s.core c
    (s.setCore c (co.setDyn d ((co.dyn d).putXfer { x with halted := true }))).raiseStream c g d a
  | none =>
    let co := s.core c
    let y := (co.dyn d).putXfer { x with sent := x.sent + 1 }
    let s := s.setCore c { (co.setDyn d y) with
      sreqs := co.sreqs ++ [⟨co.nextId, Fin.ofNat 64 d, x.m, x.sent⟩], nextId := co.nextId + 1, lastDesc := d }
    if (g.stream d).dir == dirOut then s.markLesson (clusterOfCore c) (fun l => { l with wroteMemory := true }) else s

/-- The first address of a transfer's next request that the core does not reach. -/
def State.unreached (s : State) (c : CoreId) (g : Stage) (d : Nat) (x : Xfer) : Option Nat :=
  (((xferRequests g (g.stream d) x).getD x.sent []).find? (fun p => !s.coreReaches c p.1)).map (fun p => p.1)

/-- STREAM_REQUEST_SEND: the stream engine sends one request, at most 256 outstanding, each checked as an engine access (R113, R170). -/
def streamRequestSend (s : State) (c : CoreId) : State :=
  match (s.core c).stage with
  | none => s
  | some g =>
    if (s.core c).sreqs.length ≥ 256 then s
    else match nextSender g (s.core c) with
      | none => s
      | some (d, x) => s.sendRequest c g d x (s.unreached c g d x)

/-- Moves one sector between memory and the core store: poison travels with it, and a read over a link that has gone DOWN returns poisoned (R169, R170, R220, R424). -/
def State.moveSector (s : State) (c : Nat) (out : Bool) (p : Nat × Nat × Nat) : State :=
  let (a, off, len) := p
  let here := stackOfCore c
  if out then
    let bad := s.rowPoisoned c off
    let data := s.bytes (coreStoreKey (s.physCore c) off) len
    (s.memWrite 1 a data bad).countHallway here (addrStack a) len
  else
    let lost := s.hallwayDown here (addrStack a)
    let (s, data, bad) := s.memRead 1 a len
    (s.storeWrite c off data (bad || lost)).countHallway (addrStack a) here len

/-- The core store rows that a request covers whole (R89). A fill whose source is not aligned to 128 bytes covers a row by two requests, neither of which clears its poison (DESIGN CHOICE, log entry 49). -/
def wholeRows (req : List (Nat × Nat × Nat)) : List Nat :=
  (req.map (fun p => p.2.1)).filter (fun off =>
    off % 128 == 0 && [0, 32, 64, 96].all (fun k => req.any (fun p => p.2.1 == off + k && p.2.2 == 32)))

/-- STREAM_REQUEST_RETURN: the data of a request land, or its write is accepted at the home slice (R170). -/
def streamRequestReturn (s : State) (c : CoreId) (id : Nat) : State :=
  let co := s.core c
  match co.stage, co.sreqs.find? (fun r => r.id == id) with
  | some g, some r =>
    let sd := g.stream r.desc
    let y := co.dyn r.desc
    let co := { co with sreqs := co.sreqs.filter (fun k => k.id != id) }
    match y.xfers.find? (fun x => x.m == r.m) with
    | none => s.setCore c co
    | some x =>
      let req := (xferRequests g sd x).getD r.idx []
      if req.any (fun p => s.outOfService (addrStack p.1) || NatSet.has (s.slice (homeSlice p.1)).fetching (p.1 / 32)) then s
      else
        let s := s.setCore c (co.setDyn r.desc (y.putXfer { x with returned := x.returned + 1 }))
        if x.discard then s
        else
          let s := if sd.dir == dirOut then s else s.each (wholeRows req) (fun s off => s.setRowPoison c off false)
          s.each req (fun s p => s.moveSector c (sd.dir == dirOut) p)
  | _, _ => s

/-! ## The stream operations -/

/-- The refusals of R172 and R173 for a stream operation of thread `n`: code and detail. -/
def Core.streamRefusal (c : Core) (g : Stage) (n : Fin 16) (k : StreamKind) (f : SFields) : Option (Nat × Nat) :=
  let d := f.desc.val
  let sd := g.stream d
  let y := c.dyn d
  let bad : Option (Nat × Nat) := some (cDESCRIPTOR, d)
  if !sd.valid || sd.owner != n.val then bad
  else match k with
    | .arm => if sd.dir == dirLinkIn then bad else none
    | .wait => if (sd.dir != dirOut && sd.engine) || !y.armedFor sd y.taken then bad else none
    | .rel => if (sd.dir != dirOut && sd.engine) || y.held.isEmpty then bad else none
    | .qry => none

/-- A stream operation other than SREL takes effect (R172). `xa` is the value read from x[xa], and `by'` the bundle's PC and place in program order. The result for rd, where it has one, and the core; `overrun` says that a SARM was refused. -/
def Core.streamOp (c : Core) (g : Stage) (n : Fin 16) (k : StreamKind) (f : SFields) (xa : Word) (by' : BitVec 20 × Nat)
    : Option Word × Core × Bool :=
  let d := f.desc.val
  let sd := g.stream d
  let y := c.dyn d
  match k with
  | .arm =>
    let base := if bitOf f.func.toNat 11 then bits xa.toNat 0 50 else (match y.latched with | some (b, _) => b | none => y.base)
    let count := if bits f.func.toNat 0 11 == 0 then sd.count else bits f.func.toNat 0 11
    let (r, y) := y.arm base count by'
    (some (BitVec.ofNat 64 r), c.setDyn d y, r == 2)
  | .wait => (none, c.takeBuffer g d n (f.rd.val % 16), false)
  | .rel => (none, c, false)
  | .qry => (some (BitVec.ofNat 64 (y.status sd)), c, false)

/-- Whether a SWAIT of a thread has no buffer to take yet (R172). -/
def Core.waitsStream (c : Core) (g : Stage) : Op → Bool
  | .stream .wait f => !(c.dyn f.desc.val).nextReady (g.stream f.desc.val)
  | _ => false

/-- Whether a transfer of `n` requests is over: all have been sent, or an ADDRESS fault keeps it from sending more, and all that were sent have returned (R170). -/
def Xfer.over (x : Xfer) (n : Nat) : Bool := (x.halted || x.sent == n) && x.returned == x.sent

/-- STREAM_TRANSFER_COMPLETE: every request of a transfer has been sent and has returned (R170). A fill that a stop discards, and a transfer that a fault has cut short, leave nothing behind (R116). -/
def streamTransferEnd (s : State) (c : CoreId) (d : Nat) : State :=
  let co := s.core c
  match co.stage with
  | none => s
  | some g =>
    let y := co.dyn d
    match y.xfers.find? (fun x => x.over (xferRequests g (g.stream d) x).length) with
    | none => s
    | some x =>
      if x.discard || x.halted then s.setCore c (co.setDyn d { y with xfers := y.xfers.filter (fun k => k.m != x.m) })
      else s.setCore c (co.setDyn d (y.complete x.m))

/-- The run of a descriptor with AUTO_ARM begins at the end of the load; a LINK_IN runs until CLOSED (R160, R168, R171), from the stage's start and whatever its AUTO_ARM (DESIGN CHOICE, log entry 49). -/
def StreamDyn.atStageStart (sd : StreamDesc) (args : List Word) : StreamDyn :=
  let arg := if sd.baseArg == 0 then 0 else (args.getD (sd.baseArg - 1) 0).toNat
  let y := { StreamDyn.init with base := (sd.base + arg) % 2 ^ 50 }
  if !sd.valid then StreamDyn.init
  else if sd.dir == dirLinkIn then { y with state := 1 }
  else if sd.autoArm then { y.startRun y.base sd.count none with armed := sd.count } else y

/-- Whether a thread's stores and stream buffers have all reached memory (R97, R172): no STX outstanding, no SCAT unfinished, no released OUT buffer that has not completed, nor a release of one that waits. -/
def Core.fenceClear (c : Core) (g : Stage) (n : Fin 16) : Bool :=
  !c.outst.any (fun o => o.thread == n && !o.isLoad)
    && !c.unfinished.any (fun o => o.thread == n && (match o.op with | .eng .scat _ => true | _ => false))
    && !c.streamQ.any (fun o => o.thread == n && (g.stream (streamDescOf o)).dir == dirOut)
    && (List.range 64).all (fun d =>
        let sd := g.stream d
        sd.owner != n.val || sd.dir != dirOut || !sd.valid || ((c.dyn d).outPend.isEmpty && (c.dyn d).xfers.isEmpty))

end Sys2Proof.Machine
end

