-- ==== Sys2Proof/Machine/Timetable.lean ====
section
/-!
DEFINITION. The lesson library of a stack's resident copy and the Timetable of a partition: claims, positions and passes (R153, R156, R158, R379 to R381).
-/
namespace Sys2Proof.Machine

/-! ## The library -/

/-- The address of lesson record `i` in a stack's resident copy: the section begins with an offset for each lesson (R377, R381). -/
def State.lessonAddr (s : State) (st i : Nat) : Nat :=
  let t := s.tutor st
  t.libBase + s.num (t.libBase + 4 * i) 4
/-- Bits of a lesson record's 64-byte header (R153). -/
def State.lessonBits (s : State) (st i lo w : Nat) : Nat := bits (s.num (s.lessonAddr st i) 64) lo w
/-- NSTAGES of a lesson. -/
def State.lessonStages (s : State) (st i : Nat) : Nat := s.lessonBits st i 0 4
/-- CLUSTER_MASK of a lesson. -/
def State.lessonClusters (s : State) (st i : Nat) : Nat := s.lessonBits st i 64 64
/-- The address of stage record `k` (R153, R158). -/
def State.stageAddr (s : State) (st i k : Nat) : Nat := s.lessonAddr st i + 64 + 6528 * k
/-- CORE_MASK of a stage. -/
def State.stageCores (s : State) (st i k : Nat) : Nat := s.num (s.stageAddr st i k) 1

/-! ## The Timetable (R379, R380) -/

/-- The stack that stands for a partition: its lowest. -/
def State.firstStack (s : State) (part : Nat) : Nat := (s.stacksOf part).headD 0
/-- The lesson that an entry names. -/
def entryLesson (w : Word) : Nat := bits w.toNat 0 16
/-- The lowest entry of the pass that names a lesson and is not claimed. -/
def Tutor.freeEntry (t : Tutor) (lesson : Nat) : Option Nat :=
  (List.range t.timetable.length).find? (fun j => entryLesson (t.timetable.getD j 0) == lesson && !NatSet.has t.claimed j)
/-- Whether an entry counts as started on a cluster: its part has started there, or its lesson was withdrawn. -/
def Tutor.entryStarted (t : Tutor) (j cl : Nat) : Bool := NatSet.has t.started j || t.startedOn.elem (j, cl)

/-- Whether entry `j` of the pass has started on every cluster of its lesson. -/
def State.entryDone (s : State) (part j : Nat) : Bool :=
  let st := s.firstStack part
  let t := s.tutor st
  let mask := s.lessonClusters st (entryLesson (t.timetable.getD j 0))
  (List.range 64).all (fun cl => !bitOf mask cl || t.entryStarted j cl)

/-- Whether the position of entry `p` has come on a cluster: every earlier entry whose lesson runs there has started there (R380). -/
def State.positionCome (s : State) (part p cl : Nat) : Bool :=
  let st := s.firstStack part
  let t := s.tutor st
  (List.range p).all (fun j => !bitOf (s.lessonClusters st (entryLesson (t.timetable.getD j 0))) cl || t.entryStarted j cl)

/-- A SCHEDULED lesson of the partition claims its entry of the pass, where there is one (R380). -/
def State.claim (s : State) (part id : Nat) : State :=
  let st := s.firstStack part
  let t := s.tutor st
  match s.lessons.find? (fun l => l.id == id) with
  | none => s
  | some l =>
    if !l.scheduled || l.position.isSome || l.cause.isSome then s
    else
      match t.freeEntry l.lib with
      | none => s
      | some j =>
        let s := s.setTutor st { t with claimed := NatSet.insert t.claimed j }
        { s with lessons := s.lessons.map (fun k => if k.id == id then { k with position := some j } else k) }

/-- The pass ends when every entry is claimed and every claimed part has started; the next begins at entry 0, and the commands that waited for it claim in the order taken (R380). -/
def State.passEnd (s : State) (part : Nat) : State :=
  let st := s.firstStack part
  let t := s.tutor st
  let n := t.timetable.length
  if n != 0 && (List.range n).all (fun j => NatSet.has t.claimed j && s.entryDone part j) then
    let s := s.setTutor st { t with claimed := [], started := [], startedOn := [] }
    s.each (s.lessons.filter (fun l => l.part == part && l.scheduled && l.position.isNone)) (fun s l => s.claim part l.id)
  else s

/-- The entry of a lesson that is withdrawn counts as started (R380, R182). -/
def State.withdrawEntry (s : State) (l : Lesson) : State :=
  match l.position with
  | none => s
  | some p =>
    let st := s.firstStack l.part
    let t := s.tutor st
    (s.setTutor st { t with started := NatSet.insert t.started p }).passEnd l.part

/-- A part of a lesson starts on a cluster: its entry has started there. -/
def State.entryStarts (s : State) (l : Lesson) (cl : Nat) : State :=
  match l.position with
  | none => s
  | some p =>
    let st := s.firstStack l.part
    let t := s.tutor st
    (s.setTutor st { t with startedOn := t.startedOn ++ [(p, cl)] }).passEnd l.part

end Sys2Proof.Machine
end

