-- ==== Sys2Proof/Machine/Bells.lean ====
section
/-!
DEFINITION. Bell groups: arrivals, the levels that count them, release, break, and the messages of job-level groups (R175 to R179, R332); and how a home Tutor accepts a stop cause (R182).
-/
namespace Sys2Proof.Machine

/-! ## Stop causes (R181, R182) -/

/-- An outstanding lesson. -/
def State.lesson (s : State) (id : Nat) : Option Lesson := s.lessons.find? (fun l => l.id == id)
/-- Changes an outstanding lesson. -/
def State.onLesson (s : State) (id : Nat) (f : Lesson → Lesson) : State :=
  { s with lessons := s.lessons.map (fun l => if l.id == id then f l else l) }

/-- The parts that have not started are withdrawn from the Timetable (R181, R182). -/
def Lesson.withdraw (l : Lesson) : Lesson :=
  { l with parts := l.parts.map (fun p => if p.2 = .notStarted then (p.1, .withdrawn) else p) }

/-- The home Tutor accepts a stop cause, the first one deciding the status; none once the lesson retires. An abort or a detach is kept apart, since it outranks every other cause (R181, R182). -/
def Lesson.accept (l : Lesson) (c : StopCause) : Lesson :=
  if l.retiring then l
  else
    let l := match c with
      | .aborted d => { l with abortSeen := some (l.abortSeen.getD d) }
      | _ => l
    { (if l.cause.isNone then { l with cause := some c } else l) with parts := l.withdraw.parts }

/-- A lesson accepts a stop cause; its waiting parts leave the clusters' queues, and its entry of the Timetable counts as started where a part had not started (R181, R182, R380). -/
def State.stopLesson (s : State) (id : Nat) (c : StopCause) : State :=
  match s.lesson id with
  | none => s
  | some l =>
    if l.retiring then s
    else
      let s := s.onLesson id (fun l => l.accept c)
      let s := s.each l.parts (fun s p =>
        let cl := s.cluster p.1
        s.setCluster p.1 { cl with waiting := cl.waiting.filter (fun w => w != id) })
      if l.parts.any (fun p => p.2 == .notStarted) then s.withdrawEntry l else s

/-! ## The record of a group (R175) -/

/-- The fields of a Bell record. -/
structure BellRec where
  level : Nat
  vc0 : Bool
  valid : Bool
  threads : Nat
  coreMask : Nat
  clusters : Nat
  seats : Nat
  leader : Nat
  timeoutUs : Nat
deriving DecidableEq, Repr

/-- The fields of 256 bits (R175). -/
def bellRec (r : BitVec 256) : BellRec :=
  let w := r.toNat
  ⟨bits w 0 2, bitOf w 2, bitOf w 7, bits w 8 4 + 1, bits w 16 8, bits w 32 64, bits w 96 16, bits w 112 12, bits w 128 32⟩

/-- Whether a core is a member (R175, R176). -/
def BellRec.member (r : BellRec) (c : Nat) : Bool := r.valid && bitOf r.coreMask (logicalCore c) && bitOf r.clusters (clusterOfCore c)
/-- The member cores of a stack. -/
def BellRec.coresOf (r : BellRec) (st : Nat) : List Nat := (List.range 128).map (fun k => 128 * st + k) |>.filter r.member
/-- The member stacks. -/
def BellRec.stackList (r : BellRec) : List Nat := [0, 1, 2, 3].filter (fun st => bits r.clusters (16 * st) 16 != 0)
/-- The stack whose cluster sequencer or Tutor counts the group: the lowest member stack (R177). -/
def BellRec.counting (r : BellRec) : Nat := r.stackList.headD 0

/-- How many arrivals of the open episode lie on a stack. -/
def Bell.arrivedOn (b : Bell) (st : Nat) : Nat := (b.arrivals.filter (fun a => stackOfCore a.1 == st)).length
/-- How many the counting level has seen: its own stack's at once, another's as reported (R177). -/
def Bell.seen (b : Bell) (r : BellRec) (st : Nat) : Nat := if st == r.counting then b.arrivedOn st else Tab.get 0 b.reported st
/-- Whether every member core of this module has contributed its arrivals, as the counting level sees it. -/
def Bell.complete (b : Bell) : Bool :=
  let r := bellRec b.record
  r.stackList != [] && r.stackList.all (fun st => b.seen r st == (r.coresOf st).length * r.threads)

/-! ## Arrival -/

/-- One arrival is counted in the open episode, or held (R176). -/
def Bell.arrive (b : Bell) (now : Word) (a : CoreId × Fin 16 × Fin 32) : Bell :=
  if (b.arrivals.filter (fun x => x.1 == a.1)).length < (bellRec b.record).threads then
    { b with arrivals := b.arrivals ++ [a], firstAt := some (b.firstAt.getD now) }
  else { b with held := b.held ++ [a] }

/-- The partition of a group. -/
def State.bellPart (s : State) (r : BellRec) : Nat := s.partOf r.counting

/-- Sends a Bell message to a seat on the group's path. -/
def State.sendBell (s : State) (r : BellRec) (type dest : Nat) (bcast : Bool) (p : List Byte) : State :=
  if r.vc0 then s.sendVc0 (s.bellPart r) type dest p else s.sendFrame type dest bcast p

/-- Once every arrival of this module is in, a job-level group reports it to the LEADER seat, once per episode; the leader counts its own (R177, R332). -/
def State.bellReport (s : State) (g : Nat) : State :=
  let b := s.bell g
  let r := bellRec b.record
  if r.level == 3 && b.complete && !b.arriveSent then
    let s := s.setBell g { b with
      arriveSent := true
      seats := if r.leader == s.seat && !b.seats.elem (BitVec.ofNat 12 s.seat) then b.seats ++ [BitVec.ofNat 12 s.seat] else b.seats }
    if r.leader == s.seat then s
    else s.sendBell r tBELL_ARRIVE r.leader false (bellPayload g b.episode.toNat s.seat)
  else s

/-- A thread arrives in its group's current episode (R176). -/
def bellArrive (s : State) (c : CoreId) (n : Fin 16) (group : BitVec 12) (xa : Fin 32) : State :=
  (s.setBell group.toNat ((s.bell group.toNat).arrive (BitVec.ofNat 64 s.now) (c, n, xa))).bellReport group.toNat

/-! ## Release (R176, R179) -/

/-- CORE_ID bits [8:0] (R110). -/
def coreIdLow (c : Nat) : Nat := stackOfCore c + clusterOfCore c % 16 * 4 + logicalCore c * 64

/-- The Bell statistics entry after a release (R179): `wait` in ns, whether the last arrival was on this module, and who it was. -/
def bellStats (old wait : Nat) (self : Bool) (last : Nat) : Nat :=
  let w := min (max (bits old 128 32) wait) 0xFFFFFFFF
  (bits old 0 64 + 1) % 2 ^ 64 + (bits old 64 64 + wait) % 2 ^ 64 * 2 ^ 64 + w * 2 ^ 128
    + (bits old 160 32 + bit self) % 2 ^ 32 * 2 ^ 160 + last % 2 ^ 12 * 2 ^ 192

/-- A thread waiting at the group becomes READY and receives the episode number (R176). -/
def State.wakeBell (s : State) (group : Nat) (episode : BitVec 32) (a : CoreId × Fin 16 × Fin 32) : State :=
  let co := s.core a.1
  let t := co.thread a.2.1
  if t.state = .waitBell && t.waitBell.map (fun w => w.1.toNat) == some group then
    s.setCore a.1 (co.setThread a.2.1 { (t.wx a.2.2 (episode.setWidth 64)) with state := .ready, waitBell := none })
  else s

/-- A group between episodes: held arrivals start the next one (R176). -/
def Bell.next (b : Bell) (episode : BitVec 32) (now : Word) (held : List (CoreId × Fin 16 × Fin 32)) : Bell :=
  held.foldl (fun b a => b.arrive now a)
    { b with episode := episode, arrivals := [], held := [], reported := [], firstAt := none, seats := b.seatHeld, seatHeld := [], arriveSent := false }

/-- A member stops resending its BELL_ARRIVE of an episode (R329). -/
def State.endArrive (s : State) (g : Nat) : State :=
  { s with corridor := { s.corridor with
    resends := s.corridor.resends.filter (fun r => !(r.frame.type.toNat == tBELL_ARRIVE && ofBytes (r.frame.payload.take 2) == g)) } }

/-- The episode of a group is released at this module; `last` is the seat that arrived last, for a job-level group (R176, R179). -/
def State.releaseBell (s : State) (g : Nat) (last : Option Nat) : State :=
  let b := s.bell g
  let r := bellRec b.record
  let now := s.now
  let wait := match b.firstAt with | some f => now - f.toNat | none => 0
  let lastCore := match b.arrivals.getLast? with | some a => coreIdLow a.1 | none => 0
  let self := match last with | some x => x == s.seat | none => true
  let a := s.fld F.tutorBellStatsBase r.counting + 32 * g
  let (s, old, bad) := s.readFrom r.counting 7 a 32
  let s := s.writeFrom r.counting 7 a (toBytes 32 (bellStats (ofBytes old) wait self (last.getD lastCore))) bad
  let s := s.each b.arrivals (fun s x => s.wakeBell g b.episode x)
  let s := s.setBell g (b.next (b.episode + 1) (BitVec.ofNat 64 now) b.held)
  (s.endArrive g).bellReport g

/-- BELL_RELEASE: the counting level, or the leader of a job-level group, releases the episode once every arrival is in (R176, R177, R332). -/
def bellRelease (s : State) (g : Nat) : State :=
  let b := s.bell g
  let r := bellRec b.record
  if !r.valid then s
  else if r.level ≤ 2 then (if b.complete then s.releaseBell g none else s)
  else if r.leader == s.seat && s.seatValid && b.seats.length ≥ r.seats then
    let last := (b.seats.getLast?.map BitVec.toNat).getD 0
    let p := bellPayload g b.episode.toNat last
    let s := if r.vc0 then s.each (b.seats.filter (fun x => x.toNat != s.seat)) (fun s x => s.sendBell r tBELL_RELEASE x.toNat false p)
      else s.sendBell r tBELL_RELEASE 0 true p
    s.releaseBell g (some last)
  else s

/-- A BELL_RELEASE message releases the member's episode of that number (R332). -/
def bellReleaseMessage (s : State) (k : BellMsg) : State :=
  let g := k.group.toNat
  let b := s.bell g
  let r := bellRec b.record
  if s.seatValid && r.valid && r.level == 3 && r.leader != s.seat && b.arriveSent && k.episode == b.episode then s.releaseBell g (some (k.seat.toNat % 4096))
  else s

/-- A BELL_ARRIVE message: the leader counts each distinct seat once per episode and holds an arrival for the next one (R332). -/
def bellArriveMessage (s : State) (k : BellMsg) : State :=
  let g := k.group.toNat
  let b := s.bell g
  let r := bellRec b.record
  let seat := k.seat.setWidth 12
  if r.valid && r.level == 3 && r.leader == s.seat && s.seatValid then
    if k.episode == b.episode then (if b.seats.elem seat then s else s.setBell g { b with seats := b.seats ++ [seat] })
    else if k.episode == b.episode + 1 then (if b.seatHeld.elem seat then s else s.setBell g { b with seatHeld := b.seatHeld ++ [seat] })
    else s
  else s

/-! ## Break (R178) -/

/-- Whether an episode's release is due at the level that counts it: every arrival is in, and at the leader of a job-level group every seat (R176, R332). A break that comes then is discarded, and the release stands (R178). -/
def State.releaseDue (s : State) (g : Nat) : Bool :=
  let b := s.bell g
  let r := bellRec b.record
  if r.level ≤ 2 then b.complete else r.leader == s.seat && decide (r.seats ≤ b.seats.length)

/-- Whether an episode is open: from its first arrival until its release or break. -/
def Bell.open' (b : Bell) : Bool := !b.arrivals.isEmpty || !b.seats.isEmpty

/-- A group's open episode is broken at this module: the lessons with a thread waiting in it are stopped, lessons with member cores are marked (on an idle cluster, those whose parts are to start there), and held arrivals of lessons that go on start a new episode with the same number. -/
def State.breakBell (s : State) (g : Nat) : State :=
  let b := s.bell g
  let r := bellRec b.record
  let members := (List.range 64).filter (fun cl => bitOf r.clusters cl)
  let had := members.flatMap (fun cl => match s.lessonOn cl with
    | some id => [id]
    | none => (s.lessons.filter (fun l => l.parts.any (fun p => p.1 == cl && p.2 == .notStarted))).map (fun l => l.id))
  let waiting := b.arrivals.filterMap (fun a => s.lessonOn (clusterOfCore a.1))
  let s := s.each had (fun s id => s.onLesson id (fun l => { l with bellBroken := true }))
  let s := s.each waiting (fun s id => s.stopLesson id (.faulted true))
  let stops (a : CoreId × Fin 16 × Fin 32) : Bool :=
    match s.lessonOn (clusterOfCore a.1) with
    | some id => (s.lesson id).any (fun l => l.cause.isSome)
    | none => true
  let s := s.setBell g { (b.next b.episode (BitVec.ofNat 64 s.now) (b.held.filter (fun a => !stops a))) with seats := [], seatHeld := b.seatHeld }
  ((s.bumpSat F.tutorBellsBrokenCount r.counting 0 1).endArrive g).bellReport g

/-- The seat that arrived last in a group's open episode, as far as this module knows it: the leader's list, or at a member its own seat once it has reported; 0 where none has arrived (R327; DESIGN CHOICE, log entry 19, for what a member knows and for none). -/
def State.lastSeat (s : State) (g : Nat) : Nat :=
  let b := s.bell g
  if (bellRec b.record).leader == s.seat then (b.seats.getLast?.map BitVec.toNat).getD 0
  else if b.arriveSent then s.seat else 0

/-- The leader passes a break on as it would a release (R178, R332). -/
def State.leaderBreak (s : State) (g : Nat) : State :=
  let b := s.bell g
  let r := bellRec b.record
  let p := bellPayload g b.episode.toNat (s.lastSeat g)
  if r.vc0 then s.each (b.seats.filter (fun x => x.toNat != s.seat)) (fun s x => s.sendBell r tBELL_BREAK x.toNat false p)
  else s.sendBell r tBELL_BREAK 0 true p

/-- This module breaks a group's open episode, unless its release is due: a member of a job-level group reports the break to its leader (R178). -/
def State.ownBreak (s : State) (g : Nat) : State :=
  let b := s.bell g
  let r := bellRec b.record
  if !r.valid || !b.open' || s.releaseDue g then s
  else
    let s := if r.level != 3 then s
      else if r.leader == s.seat then s.leaderBreak g
      else s.sendBell r tBELL_BREAK r.leader false (bellPayload g b.episode.toNat (s.lastSeat g))
    s.breakBell g

/-- BELL_TIMEOUT: TIMEOUT_US, other than 0, has elapsed since the episode's first arrival. A release that is due stands (R178). -/
def bellTimeout (s : State) (g : Nat) : State :=
  let b := s.bell g
  let r := bellRec b.record
  if r.timeoutUs == 0 then s else s.ownBreak g

/-- A BELL_BREAK message: the leader forwards it, whether or not a seat has arrived there yet, unless its release is due; and an open episode of that number is broken (R178, R332). -/
def bellBreakMessage (s : State) (k : BellMsg) : State :=
  let g := k.group.toNat
  let b := s.bell g
  let r := bellRec b.record
  if s.seatValid && r.valid && r.level == 3 && k.episode == b.episode && !s.releaseDue g then
    let s := if r.leader == s.seat then s.leaderBreak g else s
    if b.open' then s.breakBell g else s
  else s

/-- BELL_ARRIVAL_REPORT: a Tutor's report of its stack's arrivals reaches the counting Tutor over Hallway (R177). -/
def bellArrivalReport (s : State) (g : Nat) (st : Nat) : State :=
  let b := s.bell g
  let r := bellRec b.record
  if r.valid && r.level ≥ 2 && st != r.counting && r.stackList.elem st && !s.hallwayDown st r.counting then
    ((s.setBell g { b with reported := Tab.set 0 b.reported st (b.arrivedOn st) }).bellReport g).countHallway st r.counting (Config.tutorMsgBytes 3)
  else s

/-- The groups that a stopping lesson breaks: those in whose open episode a member core of a cluster takes part (R178). -/
def State.groupsOn (s : State) (cl : Nat) : List Nat :=
  (s.bells.filter (fun e => let r := bellRec e.2.record; r.valid && bitOf r.clusters cl && r.coreMask != 0 && e.2.open')).map (fun e => e.1)

/-! ## The commands -/

/-- BELL_ARRIVAL_REPORT (R177). -/
def execBellArrivalReport (group : BitVec 12) (st : StackId) (s : State) : Host.Outcome State Fault Refusal :=
  .next (bellArrivalReport s group.toNat st.val)
/-- BELL_RELEASE (R176). -/
def execBellRelease (group : BitVec 12) (s : State) : Host.Outcome State Fault Refusal := .next (bellRelease s group.toNat)
/-- BELL_TIMEOUT (R178). -/
def execBellTimeout (group : BitVec 12) (s : State) : Host.Outcome State Fault Refusal := .next (bellTimeout s group.toNat)
/-- BELL_ARRIVE (R332). -/
def execBellArrive (k : BellMsg) (s : State) : Host.Outcome State Fault Refusal := .next (bellArriveMessage s k)
/-- BELL_RELEASE as a message (R332). -/
def execBellReleaseMessage (k : BellMsg) (s : State) : Host.Outcome State Fault Refusal := .next (bellReleaseMessage s k)
/-- BELL_BREAK (R332). -/
def execBellBreak (k : BellMsg) (s : State) : Host.Outcome State Fault Refusal := .next (bellBreakMessage s k)

end Sys2Proof.Machine
end

