-- ==== Sys2Proof/Machine/Threads.lean ====
section
/-!
DEFINITION. Issue: when a bundle may issue, what its encoding and its checks refuse, what a scalar operation computes, and what each operation of a bundle does when it issues (R90 to R113).
-/
namespace Sys2Proof.Machine

/-! ## Scalar operations (R107, R108) -/

/-- 1 or 0. -/
def wordOf (b : Bool) : Word := if b then 1 else 0

/-- The scalar operations of R107 on 64-bit values (R108). -/
def aluEval : AluOp → Word → Word → Word
  | .add, a, b => a + b
  | .sub, a, b => a - b
  | .and, a, b => a &&& b
  | .or, a, b => a ||| b
  | .xor, a, b => a ^^^ b
  | .shl, a, b => a <<< (b.toNat % 64)
  | .shr, a, b => a >>> (b.toNat % 64)
  | .sra, a, b => a.sshiftRight (b.toNat % 64)
  | .mul, a, b => a * b
  | .mulhu, a, b => BitVec.ofNat 64 (a.toNat * b.toNat / 2 ^ 64)
  | .min, a, b => if a.toInt ≤ b.toInt then a else b
  | .max, a, b => if a.toInt ≤ b.toInt then b else a
  | .slt, a, b => wordOf (decide (a.toInt < b.toInt))
  | .sltu, a, b => wordOf (decide (a.toNat < b.toNat))
  | .seq, a, b => wordOf (decide (a = b))

/-- The conditions of R107; BLT and BGE compare signed, BLTU and BGEU unsigned (R108). -/
def condHolds : Cond → Word → Word → Bool
  | .eq, a, b => decide (a = b)
  | .ne, a, b => decide (a ≠ b)
  | .lt, a, b => decide (a.toInt < b.toInt)
  | .ge, a, b => decide (b.toInt ≤ a.toInt)
  | .ltu, a, b => decide (a.toNat < b.toNat)
  | .geu, a, b => decide (b.toNat ≤ a.toNat)

/-- A sign-extended 32-bit immediate (R106). -/
def sext32 (imm : BitVec 32) : Word := imm.signExtend 64
/-- The offset or address of a scalar access: ra + imm32 modulo 2^64. -/
def accessAddr (t : Thread) (ra : Fin 32) (imm : BitVec 32) : Nat := (t.rx ra + sext32 imm).toNat

/-- The matrix-engine issue rate in force on a cluster: 1 while a droop cuts it, the stack's n otherwise (R403, R410). -/
def State.issueRate (s : State) (cl : Nat) : Nat :=
  if (s.cluster cl).droop then 1 else s.fld F.powerRateN (stackOfCluster cl)

/-- The system values of CSRR (R110); none for any other number. -/
def csrValue (s : State) (c : CoreId) (n : Fin 16) (g : Stage) (num : Nat) : Option Word :=
  let i := coreInst c
  let v : Option Nat := match num with
    | 0 => some (stackOfCore c + clusterOfCore c % 16 * 4 + logicalCore c * 64 + s.physOf (clusterOfCore c) (logicalCore c) * 512)
    | 1 => some n.val
    | 2 => some g.step.toNat
    | 3 => some (s.fld F.fabricSeatSeat)
    | 4 => some ((s.core c).cycles25 / 25)
    | 5 => some s.now
    | 6 => some (s.fld F.coreClockFmaxMhz i)
    | 7 => some (s.fld F.coreClockFmaxMhz i)
    | 8 => some (s.issueRate (clusterOfCore c))
    | _ => none
  v.map (BitVec.ofNat 64)

/-! ## What an operation reads and writes -/

end Sys2Proof.Machine
namespace Sys2Proof
open Machine

/-- Whether an operation rounds under SR, and so reads xa (R103). -/
def EFields.sr (e : EFields) : Bool := e.rnd == 2

/-- The scalar registers an operation reads. -/
def Op.sources : Op → List (Fin 32)
  | .alu _ _ ra rb => [ra, rb]
  | .aluImm _ _ ra _ => [ra]
  | .ld _ _ ra _ => [ra]
  | .st _ rs ra _ => [rs, ra]
  | .ldx _ _ ra _ => [ra]
  | .stx _ rs ra _ => [rs, ra]
  | .branch _ ra rb _ => [ra, rb]
  | .jalr _ ra _ => [ra]
  | .tset _ ra => [ra]
  | .stream .arm f => if bitOf f.func.toNat 11 then [f.xa] else []
  | .eng k e =>
    match k with
    | .gath => [e.xa, e.xb]
    | .scat => [e.xa, e.xb]
    | .varith => (if e.sr then [e.xa] else []) ++ (if bits e.func.toNat 6 2 == 3 then [e.xb] else [])
    | .fin => (if e.sr then [e.xa] else []) ++ (if e.func.toNat / 256 == 4 then [e.xb] else [])
    | _ => if e.sr then [e.xa] else []
  | .csrr .. | .jal .. | .fence | .halt | .trap _ | .tget .. | .tslot .. | .li .. | .tli .. | .mma _ | .stream .. | .bell .. => []

/-- The scalar register an operation writes; x0 is none. -/
def Op.dest : Op → Option (Fin 32)
  | .alu _ rd _ _ | .aluImm _ rd _ _ | .csrr rd _ | .ld _ rd _ _ | .ldx _ rd _ _ | .jal rd _ | .jalr rd _ _ | .tget rd _
  | .li rd _ | .bell _ rd => if rd = 0 then none else some rd
  | .stream .arm f | .stream .qry f => if f.rd = 0 then none else some f.rd
  | .st .. | .stx .. | .branch .. | .fence | .halt | .trap _ | .tset .. | .tslot .. | .tli .. | .mma _ | .eng .. | .stream .. => none

/-- The tile register an operation writes. -/
def Op.tileDest : Op → Option (Fin 16)
  | .tset td _ | .tslot td _ _ | .tli td _ => some td
  | .stream .wait f => some (Fin.ofNat 16 f.rd.val)
  | _ => none

/-- The operation code in FUNC[11:8]. -/
def EFields.code (e : EFields) : Nat := e.func.toNat / 256

/-- K of an MMA (R106). -/
def MFields.kLen (m : MFields) : Nat := 32 * (m.kf.toNat + 1)
/-- The Slate row of a SAVE or REST, and the first of a RND. -/
def EFields.slateRow (e : EFields) : Nat := bits e.func.toNat 7 5
/-- How many Slate rows a RND reads. -/
def EFields.slateCount (e : EFields) : Nat := bits e.func.toNat 2 5 + 1
/-- An E-layout operation with its operation code in FUNC[11:8]. -/
def EFields.withCode (e : EFields) (code : Nat) : EFields := { e with func := BitVec.ofNat 12 (putBits e.func.toNat 8 4 code) }
/-- BMODE (R128): 0 tile, 1 row vector, 2 column vector, 3 scalar. -/
def EFields.bmode (e : EFields) : Nat := bits e.func.toNat 6 2
/-- SMODE as a Boolean (R127). -/
def EFields.smode (e : EFields) : Bool := bitOf e.func.toNat 0
/-- VRED's axis bit: true reduces each column (R131). -/
def EFields.byColumn (e : EFields) : Bool := bitOf e.func.toNat 3
/-- VRED's mode bit: true accumulates. -/
def EFields.accum (e : EFields) : Bool := bitOf e.func.toNat 2

/-- Whether the fields of an operation are encodings that its definition gives a meaning, its tile registers and descriptors apart (R45, R106, R107, R110, R128 to R133, R140, R144, R146, R150, R172). -/
def Op.fieldsOk (o : Op) : Bool :=
  match o with
  | .csrr _ imm => decide (imm.toNat ≤ 8)
  | .aluImm op .. => op.riOpc.isSome
  | .ld n .. | .st n .. => n == 1 || n == 2 || n == 4 || n == 8
  | .ldx n .. | .stx n .. => n == 4 || n == 8
  | .stream k f =>
    (match k with
     | .arm => true
     | .wait => f.func == 0 && decide (f.rd.val < 16)
     | .qry => f.func == 0
     | .rel => f.func == 0 && f.rd == 0 && f.xa == 0)
  | .eng k e =>
    let f := e.func.toNat
    let plain := e.rnd == 0 && !e.ovf
    (match k with
     | .save => plain && bits f 0 7 == 0
     | .rest => plain && bits f 0 7 == 0
     | .rnd => bits f 0 2 == 0
     | .varith => decide (e.code ≤ 0xA) && bits f 1 5 == 0
     | .vfn => bits f 1 7 == 0
     | .vder => bits f 1 7 == 0
     | .vcvt => bits f 1 11 == 0
     | .vlx => decide (e.code ≤ 3) && bits f 0 8 == 0 && (e.code == 3 || plain)
     | .vred => decide (e.code ≤ 5) && !bitOf f 1 && (e.code == 5 || bits f 4 4 == 0) && (decide (2 ≤ e.code) || plain)
     | .vstat => bits f 1 7 == 0
     | .gath => plain && bits f 0 5 == 0
     | .scat => plain && bits f 0 3 == 0 && decide (bits f 3 2 ≤ 1) && e.tD == 0
     | .fin => decide (e.code ≤ 5) && bits f 1 7 == 0)
  | _ => true

/-- The tile registers an operation names, with the field of each: 2 for tD, 0 for tA, 1 for tB (R113). -/
def Op.tiles : Op → List (Nat × Fin 16)
  | .mma m => [(0, m.tA), (1, m.tB)]
  | .eng k e =>
    let u := Op.usesTiles (.eng k e)
    (if u.1 then [(2, e.tD)] else []) ++ (if u.2.1 then [(0, e.tA)] else []) ++ (if u.2.2 then [(1, e.tB)] else [])
  | _ => []

/-- Whether an operation has an SMODE bit (R127, R133). -/
def Op.smode : Op → Bool
  | .eng k e =>
    (k == .varith || k == .vfn || k == .vder || k == .vcvt || k == .vred || k == .vstat || k == .fin) && bitOf e.func.toNat 0
  | _ => false

/-- The function table an operation names (R140). -/
def Op.table : Op → Option Nat
  | .eng .vfn e => some e.code
  | .eng .vder e => some e.code
  | _ => none

end Sys2Proof
namespace Sys2Proof.Machine

/-! ## Encoding checks (ILLEGAL) -/

/-- Whether an operation's encoding is illegal for this thread and stage: a reserved field, a reserved bit of a tile register that it uses, SMODE 1 on an unscaled tD, or a function table that the stage has not loaded (R99, R105, R106, R127, R136). -/
def Core.illegal (c : Core) (g : Stage) (t : Thread) (o : Op) : Bool :=
  !o.fieldsOk || o.tiles.any (fun r => tileReserved (t.rt r.2).toNat)
    || (o.smode && o.tiles.any (fun r => r.1 == 2 &&
          (let d := g.tensor (tileReg (t.rt r.2).toNat).tdesc; d.valid && d.saxis == 0)))
    || (match o.table with | some k => Tab.get 0xFFFF c.tableIds k == 0xFFFF | none => false)

/-- The bundle in which an operation issues with the other slot's operation. -/
def bundleOf (i : Issue) (o : Op) : Bundle :=
  if i.slotB then ⟨i.other, o, false, encodeBundle i.other o⟩ else ⟨o, i.other, false, encodeBundle o i.other⟩

/-- The bundle of an LI or TLI. -/
def liBundle (o : Op) : Bundle :=
  match o with
  | .li rd imm => ⟨o, .nop, true, encodeLi 0x11 rd imm⟩
  | .tli td imm => ⟨o, .nop, true, encodeLi 0x43 td imm⟩
  | _ => ⟨o, .nop, true, 0⟩

/-- Whether both slots write one scalar or tile register (R105). -/
def Bundle.sameDest (b : Bundle) : Bool :=
  (b.a.dest.isSome && b.a.dest == b.b.dest) || (b.a.tileDest.isSome && b.a.tileDest == b.b.tileDest)

/-- Whether one slot makes a bundle illegal: slot B where `slotB`; two slots that write one register count as slot B (R105, R115). -/
def Core.slotIllegal (c : Core) (g : Stage) (t : Thread) (b : Bundle) (slotB : Bool) : Bool :=
  if slotB then (!b.li && !b.b.slotBOk) || c.illegal g t b.b || b.sameDest
  else (!b.li && !b.a.slotAOk) || c.illegal g t b.a

/-- The slot that makes a bundle illegal, where one does: true for slot B (R105, R115). -/
def Core.illegalSlot (c : Core) (g : Stage) (t : Thread) (b : Bundle) : Option Bool :=
  if c.slotIllegal g t b false then some false else if c.slotIllegal g t b true then some true else none

/-! ## Waits before issue (R93, R96, R98) -/

/-- Whether a register awaits the data of an LDX; x0 awaits none. -/
def Core.pendingReg (c : Core) (n : Fin 16) (r : Fin 32) : Bool :=
  r != 0 && c.outst.any (fun o => o.isLoad && o.thread == n && o.rd == r)
/-- Whether a bundle's registers await a result; a later write of a pending register waits too (R96). -/
def Core.regsWait (c : Core) (n : Fin 16) (b : Bundle) : Bool :=
  (b.a.sources ++ b.b.sources ++ b.a.dest.toList ++ b.b.dest.toList).any (c.pendingReg n)

/-- Whether the engine queue that an operation needs has a free entry (R98). -/
def Core.queueFree (c : Core) : Op → Bool
  | .mma _ => c.mmaQ.length < 8
  | .eng k _ =>
    (match k with
     | .save | .rest | .rnd => decide (c.slateQ.length < 8)
     | .gath | .scat => decide (c.gathQ.length < 16)
     | .fin => decide (c.finQ.length < 4)
     | .varith | .vfn | .vder | .vcvt | .vlx | .vred | .vstat => decide (c.vecQ.length < 16))
  | .stream .. => decide (c.streamQ.length < 16)
  | _ => true

/-- How many outstanding-access entries an operation needs. -/
def accessEntries : Op → Nat
  | .ldx .. | .stx .. => 1
  | _ => 0

/-- Whether a bundle has the queue entries and outstanding-access entries it needs (R93, R98). -/
def Core.entriesFree (c : Core) (n : Fin 16) (b : Bundle) : Bool :=
  let k := accessEntries b.a + accessEntries b.b
  c.queueFree b.b && (k == 0 || (decide ((c.outst.filter (fun o => o.thread == n)).length + k ≤ 4) && decide (c.outst.length + k ≤ 64)))

/-- Whether a scalar access to the core store waits behind an earlier engine operation of its thread on that slot (R96). -/
def Core.storeWaits (c : Core) (g : Stage) (n : Fin 16) (t : Thread) (o : Op) : Bool :=
  let slot (ra : Fin 32) (imm : BitVec 32) : Nat := accessAddr t ra imm / 16384
  match o with
  | .ld _ _ ra imm => c.unfinished.any (fun e => e.thread == n && (e.slots g).2.elem (slot ra imm))
  | .st _ _ ra imm => c.unfinished.any (fun e => e.thread == n && ((e.slots g).1 ++ (e.slots g).2).elem (slot ra imm))
  | _ => false

/-! ## Checks at issue (R93, R113) -/

/-- Whether thread `n` may read a slot (R88). -/
def Core.mayRead (c : Core) (n : Fin 16) (sl : Nat) : Bool :=
  let o := (Tab.get 0 c.owner sl).toNat
  o == 0x10 + n.val || o == 0x20
/-- Whether thread `n` may write a slot (R88). -/
def Core.mayWrite (c : Core) (n : Fin 16) (sl : Nat) : Bool := (Tab.get 0 c.owner sl).toNat == 0x10 + n.val

/-- Whether a Slate row is assigned to thread `n` (R71, R117). -/
def Core.slateMine (c : Core) (n : Fin 16) (row : Nat) : Bool :=
  let b := (Tab.get 0 c.slateMap row).toNat
  bitOf b 7 && b % 16 == n.val

/-- How many buffers an operation takes from a stream-fed source: K / kb for an MMA, one otherwise (R122, R174). -/
def buffersTaken (g : Stage) (o : Op) (which : Nat) (w : Word) : Nat :=
  match (tileReg w.toNat).stream, o with
  | none, _ => 0
  | some d, .mma m =>
    let t := resolveTile g w.toNat (g.stream d).nbuf
    let kb := if (if which == 0 then m.ta else m.tb) then t.rows else t.cols
    if kb == 0 then 1 else max 1 ((32 * (m.kf.toNat + 1) + kb - 1) / kb)
  | some _, _ => 1

/-- The refusals of a tile register's descriptors (R99, R100, R166, R173): the descriptor number. `ahead` counts the buffers that this operation's other register takes first from the same descriptor. -/
def Core.descRefusal (c : Core) (g : Stage) (n : Fin 16) (o : Op) (which : Nat) (w : Word) (ahead : Nat) : Option Nat :=
  let r := tileReg w.toNat
  match r.stream with
  | some d =>
    let sd := g.stream d
    let y := c.dyn d
    if which == 2 then some d
    else if !sd.valid || sd.owner != n.val || sd.dir == dirOut || sd.dir == 3 || !sd.engine then some d
    else if !y.armedFor sd (y.taken + ahead + buffersTaken g o which w - 1) then some d
    else if !(g.tensor r.tdesc).valid then some r.tdesc else none
  | none => if !(g.tensor r.tdesc).valid then some r.tdesc else none

/-- The buffers that the tA register takes before tB where both name one descriptor. -/
def takenAhead (g : Stage) (o : Op) (t : Thread) (which : Nat) (w : Word) : Nat :=
  if which == 1 then
    match o.tiles.find? (fun r => r.1 == 0) with
    | some (_, a) => if (tileReg (t.rt a).toNat).stream == (tileReg w.toNat).stream then buffersTaken g o 0 (t.rt a) else 0
    | none => 0
  else 0

/-- A resident tile register whose block or scale vector runs past slot 127: the slot concerned (R99, R102). -/
def overrun (g : Stage) (w : Word) : Option Nat :=
  let r := tileReg w.toNat
  if r.stream.isSome then none
  else
    let t := resolveTile g w.toNat 0
    if r.slot + r.span - 1 > 127 then some r.slot
    else if t.d.saxis != 0 && t.scaleLen != 0 && (t.scaleOff + t.scaleLen - 1) / 16384 > 127 then some r.sslot
    else none

/-- The engine operation that an issue makes, with its captured registers. -/
def engOpOf (s : State) (c : CoreId) (n : Fin 16) (t : Thread) (slotB : Bool) (o : Op) : EngOp :=
  let next (w : Word) (ahead : Nat) : Nat :=
    match (tileReg w.toNat).stream with
    | none => 0
    | some d => ((s.core c).dyn d).taken + ahead
  let base : EngOp := ⟨n, t.pc, slotB, t.seq, s.issueOrder, o, 0, 0, 0, 0, 0, 0, 0⟩
  match o with
  | .mma m =>
    let a := t.rt m.tA
    let b := t.rt m.tB
    let ahead := match (s.core c).stage with | some g => takenAhead g o t 1 b | none => 0
    { base with tA := a, tB := b, bufA := next a 0, bufB := next b ahead }
  | .eng _ e =>
    let a := t.rt e.tA
    let b := t.rt e.tB
    let ahead := match (s.core c).stage with | some g => takenAhead g o t 1 b | none => 0
    { base with tD := t.rt e.tD, tA := a, tB := b, xa := t.rx e.xa, xb := t.rx e.xb, bufA := next a 0, bufB := next b ahead }
  | _ => base

/-- Whether a core is a member of a Bell group (R175, R176). -/
def bellMember (rec' : BitVec 256) (c : CoreId) : Bool :=
  let w := rec'.toNat
  bitOf w 7 && bitOf w (16 + logicalCore c) && bitOf w (32 + clusterOfCore c)

/-- The next PC of a control operation that transfers control (R107). -/
def opTarget (t : Thread) : Op → Option Int
  | .branch cd ra rb off => if condHolds cd (t.rx ra) (t.rx rb) then some ((t.pc.toNat : Int) + 16 * off.toInt) else none
  | .jal _ off => some ((t.pc.toNat : Int) + 16 * off.toInt)
  | .jalr _ ra imm => some ((accessAddr t ra imm : Nat) : Int)
  | _ => none

/-- Whether a PC lies in the stage's program range and is a multiple of 16 (R109). -/
def pcOk (g : Stage) (z : Int) : Bool := decide ((g.progLo : Int) ≤ z) && decide (z < (g.progHi : Int)) && z % 16 == 0

/-- The address check of LDX and STX (R108). -/
def State.ldxOk (s : State) (c : CoreId) (a bytes : Nat) : Bool := a % bytes == 0 && decide (a < 2 ^ 50) && s.coreReaches c a

/-- The fault that one slot's checks find at issue: code and detail (R108, R109, R113). -/
def checkSlot (s : State) (c : CoreId) (n : Fin 16) (g : Stage) (t : Thread) (o : Op) : Option (Nat × Nat) :=
  let co := (s.core c).projected g
  match o with
  | .ld bytes _ ra imm =>
    let off := accessAddr t ra imm
    if off ≥ 0x200000 || off % bytes != 0 then some (cADDRESS, off)
    else if !co.mayRead n (off / 16384) then some (cSLOT, off / 16384)
    else if s.rowPoisoned c off then some (cPOISON, off / 128)
    else none
  | .st bytes _ ra imm =>
    let off := accessAddr t ra imm
    if off ≥ 0x200000 || off % bytes != 0 then some (cADDRESS, off)
    else if !co.mayWrite n (off / 16384) then some (cSLOT, off / 16384)
    else none
  | .ldx bytes _ ra imm =>
    let a := accessAddr t ra imm
    if s.ldxOk c a bytes then none else some (cADDRESS, a)
  | .stx bytes _ ra imm =>
    let a := accessAddr t ra imm
    if s.ldxOk c a bytes then none else some (cADDRESS, a)
  | .branch .. | .jal .. | .jalr .. =>
    (match opTarget t o with
     | some z => if pcOk g z then none else some (cFETCH, unsigned 64 z)
     | none => none)
  | .trap imm => some (cTRAP, imm.toNat)
  | .bell group _ => if bellMember (s.bell group.toNat).record c then none else some (cBELL, group.toNat)
  | .stream k f => co.streamRefusal g n k f
  | .mma _ | .eng .. =>
    let e := engOpOf s c n t true o
    match o.tiles.findSome? (fun r => co.descRefusal g n o r.1 (t.rt r.2) (takenAhead g o t r.1 (t.rt r.2))) with
    | some d => some (cDESCRIPTOR, d)
    | none =>
      match o.tiles.findSome? (fun r => overrun g (t.rt r.2)) with
      | some sl => some (cSLOT, sl)
      | none =>
        let (rd, wr) := e.slots g
        let past (which : Nat) (r : Tile) : Option Nat :=
          let k := e.rndEntries g which
          if r.d.saxis != 0 && k != 0 && (r.scaleOff + k - 1) / 16384 > 127 then some r.sslot else none
        match (past 0 (e.srcA g)).or (past 1 (e.srcB g)) with
        | some sl => some (cSLOT, sl)
        | none =>
          match rd.find? (fun sl => !co.mayRead n sl), wr.find? (fun sl => !co.mayWrite n sl) with
          | some sl, _ => some (cSLOT, sl)
          | none, some sl => some (cSLOT, sl)
          | none, none =>
            match o.slateRows.find? (fun r => !co.slateMine n r) with
            | some r => some (cSLATE, r)
            | none => none
  | _ => none

/-- The fault of one slot of a bundle at issue: an encoding that is not allowed, or what its checks find (R113). -/
def slotFault (s : State) (c : CoreId) (n : Fin 16) (g : Stage) (t : Thread) (b : Bundle) (slotB : Bool) : Option ThreadFault :=
  let mk (code detail : Nat) : ThreadFault := ⟨n, t.pc, slotB, false, code, detail⟩
  if (s.core c).slotIllegal g t b slotB then some (mk cILLEGAL (b.word % 2 ^ 64))
  else (checkSlot s c n g t (if slotB then b.b else b.a)).map (fun x => mk x.1 x.2)

/-- The fault of a bundle at issue, slot A before slot B (R115). -/
def checkBundle (s : State) (c : CoreId) (n : Fin 16) (g : Stage) (t : Thread) (b : Bundle) : Option ThreadFault :=
  (slotFault s c n g t b false).or (slotFault s c n g t b true)

/-- Slot B's fault, where both slots of a bundle have one: it is simultaneous with slot A's (R115). -/
def secondFault (s : State) (c : CoreId) (n : Fin 16) (g : Stage) (t : Thread) (b : Bundle) : Option ThreadFault :=
  if (slotFault s c n g t b false).isSome then slotFault s c n g t b true else none

/-! ## Effects at issue -/

/-- Changes a thread. -/
def State.onThread (s : State) (c : CoreId) (n : Fin 16) (f : Thread → Thread) : State :=
  let co := s.core c
  s.setCore c (co.setThread n (f (co.thread n)))

/-- An outstanding LDX or STX takes an entry (R98). -/
def State.addOutst (s : State) (c : CoreId) (f : Nat → Outst) : State :=
  let co := s.core c
  s.setCore c { co with outst := co.outst ++ [f co.nextId], nextId := co.nextId + 1 }

/-- The stream-fed sources of an operation advance past the buffers it takes (R174). -/
def Core.takeFed (co : Core) (g : Stage) (o : Op) (t : Thread) : Core :=
  o.tiles.foldl (fun co r =>
    match (tileReg (t.rt r.2).toNat).stream with
    | some d => if r.1 == 2 then co else
        let y := co.dyn d
        co.setDyn d { y with taken := y.taken + buffersTaken g o r.1 (t.rt r.2) }
    | none => co) co

/-- An engine, Slate, gather or finishing operation enters its queue with its captured registers (R98). -/
def State.enqueue (s : State) (c : CoreId) (n : Fin 16) (g : Stage) (t0 : Thread) (slotB : Bool) (o : Op) : State :=
  let e := engOpOf s c n t0 slotB o
  let co := (s.core c).takeFed g o t0
  let co := match o with
    | .mma _ => { co with mmaQ := co.mmaQ ++ [e] }
    | .eng .save _ | .eng .rest _ | .eng .rnd _ => { co with slateQ := co.slateQ ++ [e] }
    | .eng .gath _ | .eng .scat _ => { co with gathQ := co.gathQ ++ [e] }
    | .eng .fin _ => { co with finQ := co.finQ ++ [e] }
    | _ => { co with vecQ := co.vecQ ++ [e] }
  { (s.setCore c co) with issueOrder := s.issueOrder + 1 }

/-- The TSLOT result: SLOT increased modulo 128 (R107; DEDUCED: the field is 7 bits wide). -/
def tslotWord (w : Word) (imm : BitVec 32) : Word :=
  BitVec.ofNat 64 (putBits w.toNat 0 7 (w.toNat % 128 + (sext32 imm).toNat))

/-- A thread at a Bell whose fence is clear arrives; another waits in WAIT_FENCE first (R97, R176). -/
def State.atBell (s : State) (c : CoreId) (n : Fin 16) (g : Stage) (group : BitVec 12) (xa : Fin 32)
    : State :=
  if (s.core c).fenceClear g n then
    bellArrive (s.onThread c n (fun t => { t with state := .waitBell, waitBell := some (group, xa) })) c n group xa
  else s.onThread c n (fun t => { t with state := .waitFence, waitBell := some (group, xa) })

/-- What one operation does when its bundle issues. `t0` is the thread before the bundle: both slots read their registers from it (R105). -/
def effect (s : State) (c : CoreId) (n : Fin 16) (g : Stage)
    (t0 : Thread) (slotB : Bool) (o : Op) : State :=
  let wx (s : State) (rd : Fin 32) (v : Word) : State := s.onThread c n (fun t => t.wx rd v)
  let wt (s : State) (td : Fin 16) (v : Word) : State := s.onThread c n (fun t => t.wt td v)
  match o with
  | .alu op rd ra rb => wx s rd (aluEval op (t0.rx ra) (t0.rx rb))
  | .aluImm op rd ra imm => wx s rd (aluEval op (t0.rx ra) (sext32 imm))
  | .li rd imm => wx s rd imm
  | .csrr rd imm => wx s rd ((csrValue s c n g imm.toNat).getD 0)
  | .ld bytes rd ra imm => wx s rd (BitVec.ofNat 64 (s.storeNum c (accessAddr t0 ra imm) bytes))
  | .st bytes rs ra imm => s.storeWrite c (accessAddr t0 ra imm) (toBytes bytes (t0.rx rs).toNat) false
  | .ldx bytes rd ra imm => s.addOutst c (fun id => ⟨id, n, t0.pc, slotB, t0.seq, true, bytes, rd, accessAddr t0 ra imm, 0⟩)
  | .stx bytes rs ra imm =>
    (s.addOutst c (fun id => ⟨id, n, t0.pc, slotB, t0.seq, false, bytes, 0, accessAddr t0 ra imm, t0.rx rs⟩)).markLesson
      (clusterOfCore c) (fun l => { l with wroteMemory := true })
  | .branch .. => s
  | .jal rd _ => wx s rd (BitVec.ofNat 64 (t0.pc.toNat + 16))
  | .jalr rd _ _ => wx s rd (BitVec.ofNat 64 (t0.pc.toNat + 16))
  | .fence => s.onThread c n (fun t => { t with state := .waitFence })
  | .halt => s.onThread c n (fun t => { t with state := .halted })
  | .trap _ => s
  | .tset td ra => wt s td (t0.rx ra)
  | .tget rd ta => wx s rd (t0.rt ta)
  | .tslot td ta imm => wt s td (tslotWord (t0.rt ta) imm)
  | .tli td imm => wt s td imm
  | .mma _ => s.enqueue c n g t0 slotB o
  | .eng .. => s.enqueue c n g t0 slotB o
  | .stream .rel _ =>
    let co := s.core c
    { s.setCore c { co with streamQ := co.streamQ ++ [engOpOf s c n t0 slotB o] } with issueOrder := s.issueOrder + 1 }
  | .stream k f =>
    let (r, co, overrun) := (s.core c).streamOp g n k f (t0.rx f.xa) (t0.pc, t0.seq)
    let s := s.setCore c co
    let s := match r with | some v => wx s f.rd v | none => s
    if overrun then s.bumpSat F.tutorRearmOverrunsCount (stackOfCore c) 0 1 else s
  | .bell group xa => s.atBell c n g group xa

/-- Whether the thread scheduler may take the thread's next bundle: a stage runs on the core and is loaded, its lesson is not being stopped, the PC is in range, and the thread waits for nothing but a register or a queue entry (R92, R93, R109, R116). -/
def State.runnable (s : State) (c : CoreId) (n : Fin 16) : Option (Stage × Thread) :=
  let t := (s.core c).thread n
  match (s.core c).stage with
  | none => none
  | some g =>
    if !g.loading && !(s.cluster (clusterOfCore c)).stopping && !s.outOfService (stackOfCore c)
        && (t.state == .ready || t.state == .waitReg || t.state == .waitQueue) && pcOk g t.at'
    then some (g, t) else none

/-- The thread after its bundle's operations: its PC, and its place in program order (R90, R107). -/
def advanced (t0 : Thread) (b : Bundle) (t : Thread) : Thread :=
  { t with
    pc := match opTarget t0 b.b with | some z => BitVec.ofInt 20 z | none => t0.pc + 16
    pastEnd := (opTarget t0 b.b).isNone && t0.pc == 0xFFFF0
    seq := t0.seq + 1 }

/-- The effects of a bundle that issues: slot A, then slot B, then the PC (R105). -/
def issued (s : State) (c : CoreId) (n : Fin 16) (g : Stage)
    (t0 : Thread) (b : Bundle) : State :=
  let s := s.onThread c n (fun t => advanced t0 b { t with state := .ready })
  let s := effect s c n g t0 false b.a
  let s := if b.li then s else effect s c n g t0 true b.b
  s.bump F.coreIssueBundlesCount (coreInst c) 0 1

/-- A bundle is refused whole: the fault of its first slot that has one is raised, and another slot's is recorded beside it (R113, R115). -/
def State.refuseBundle (s : State) (c : CoreId) (n : Fin 16) (g : Stage) (t : Thread) (b : Bundle) (f : ThreadFault) : State :=
  let u := s.raise c t.seq f
  match secondFault s c n g t b with
  | some k => u.recordFault c k
  | none => u

/-- A bundle comes to issue (R93): it waits, or a check refuses it whole, or it takes effect. One that waits for an outstanding-access entry shows WAIT_QUEUE (DESIGN CHOICE, log entry 49: R92 names no state for it). A bundle with a SWAIT whose buffer is not there waits whole in WAIT_STREAM, with no effect before it issues (R92, R172; DESIGN CHOICE, log entry 16, for the other slot's operation). -/
def issueBundle (s : State) (at' : ThreadRef) (b : Bundle) : State :=
  let c := at'.core
  let n := at'.thread
  let s := s.takeReleases c
  match s.runnable c n with
  | none => s
  | some (g, t) =>
    let co := s.core c
    if co.regsWait n b then s.onThread c n (fun t => { t with state := .waitReg })
    else if !co.entriesFree n b then s.onThread c n (fun t => { t with state := .waitQueue })
    else if co.storeWaits g n t b.a || co.storeWaits g n t b.b then s
    else match checkBundle s c n g t b with
      | some f => s.refuseBundle c n g t b f
      | none =>
        if co.waitsStream g b.a || co.waitsStream g b.b then s.onThread c n (fun t => { t with state := .waitStream, waitOn := some b })
        else issued s c n g t b

/-- A thread that waits in WAIT_STREAM comes to issue again (R92, R172). -/
def State.retryWait (s : State) (c : CoreId) (n : Fin 16) : State :=
  match ((s.core c).thread n).state, ((s.core c).thread n).waitOn with
  | .waitStream, some b =>
    let s' := s.onThread c n (fun t => { t with state := .ready, waitOn := none })
    if (s'.runnable c n).isSome then issueBundle s' ⟨c, n⟩ b else s
  | _, _ => s

/-- The threads of a core that wait for a stream buffer come to issue again, once a buffer has been filled, sent or closed. -/
def State.wakeStreams (s : State) (c : CoreId) : State := s.each (List.finRange 16) (fun s n => s.retryWait c n)

end Sys2Proof.Machine
end

