-- ==== Sys2Proof/Machine/Assembly.lean ====
section
/-!
DEFINITION. The Assembly engines: collectives, their instances and schedules, exact sums, delivery, norms and packets (R313 to R325).
-/
namespace Sys2Proof.Machine

/-! ## Collective records (R313, R314) -/

/-- The fields of a collective record. -/
structure Coll where
  kind : Nat
  sched : Nat
  norm : Bool
  valid : Bool
  inFmt : Nat
  sumFmt : Nat
  srcMem : Bool
  marker : Bool
  root : Nat
  p : Nat
  ports : Nat
  members : Nat
  nunit : Nat
  srcAddr : Nat
  destAddr : Nat
  work : Nat
  doneAddr : Nat
deriving DecidableEq, Repr

/-- Collective `k` of a stack, as memory holds its record; none beyond COLL_COUNT or where VALID is 0. -/
def State.coll (s : State) (st k : Nat) : Option Coll :=
  let a := s.reg .assemblyCollTable st + 64 * k
  let w := s.num a 8
  if k < s.reg .assemblyCollCount st && bitOf w 7 then
    some ⟨bits w 0 4, bits w 4 2, bitOf w 6, true, bits w 8 4, bits w 12 4, bitOf w 16, bits w 17 2 == 1, bits w 19 13, bits w 32 13,
      bits w 48 16, bits (s.num (a + 8) 8) 0 50, bits (s.num (a + 16) 8) 0 32, bits (s.num (a + 24) 8) 0 50,
      bits (s.num (a + 32) 8) 0 50, bits (s.num (a + 40) 8) 0 50, bits (s.num (a + 48) 8) 0 50⟩
  else none

/-- KIND codes: REDUCE_SCATTER. -/
abbrev kRS : Nat := 0
/-- ALL_GATHER. -/
abbrev kAG : Nat := 1
/-- ALL_REDUCE. -/
abbrev kAR : Nat := 2
/-- BROADCAST. -/
abbrev kBC : Nat := 3
/-- ALL_TO_ALL. -/
abbrev kA2A : Nat := 4
/-- NORM_EXCHANGE. -/
abbrev kNE : Nat := 5
/-- CHECK, the status of a failed check (R324). -/
abbrev fCHECK : Nat := 0xF

namespace Coll
/-- The reduce kinds. -/
def reduces (c : Coll) : Bool := c.kind == kRS || c.kind == kAR || c.kind == kNE
/-- TREE schedule. -/
def tree (c : Coll) : Bool := c.sched == 1
/-- Bytes of an element in SUM_FMT. -/
def sumBytes (c : Coll) : Nat := fmtWidth c.sumFmt / 8
/-- Bytes of an element in IN_FMT. -/
def inBytes (c : Coll) : Nat := fmtWidth c.inFmt / 8
/-- 256-byte ranges in a unit of the work half. -/
def perUnit (c : Coll) : Nat := if c.kind != kNE && c.reduces then c.sumBytes else 1
/-- Units of the flat vector; a NORM_EXCHANGE has one LX value. -/
def units (c : Coll) : Nat := if c.kind == kNE then 1 else c.nunit
/-- 256-byte ranges of a work half. -/
def ranges (c : Coll) : Nat := c.units * c.perUnit
/-- Bytes of one unit of a local input (R315). -/
def unitBytes (c : Coll) : Nat := if c.reduces then 256 * c.inBytes else 256
/-- The work half of a step (R316). -/
def half (c : Coll) (step : BitVec 32) : Nat := c.work + step.toNat % 2 * (c.ranges * 256)
/-- The shard of a unit (R314, R317). -/
def shardOf (c : Coll) (u : Nat) : Nat := if c.kind == kNE then 0 else ((u + 1) * c.p + c.nunit - 1) / c.nunit - 1
/-- The unit of a range. -/
def unitOf (c : Coll) (rng : Nat) : Nat := rng / c.perUnit
/-- The children of a rank in a tree (R318). -/
def children (c : Coll) (r : Nat) : List Nat := [2 * r + 1, 2 * r + 2].filter (fun x => x < c.p)
/-- How many partial sums reach a rank for a shard (R317, R318). -/
def preds (c : Coll) (r sh : Nat) : Nat :=
  if c.tree then (c.children r).length else if r == (sh + 1) % c.p then 0 else 1
/-- Whether a reduction of a shard ends at a rank. -/
def top (c : Coll) (r sh : Nat) : Bool := if c.tree then r == 0 else r == sh
/-- Whether rank `x` lies in the subtree below rank `r`. -/
def below (c : Coll) (r x : Nat) : Bool := go r c.p x
where
  /-- Climbs from `x` to its parents, at most `fuel` times. -/
  go (r : Nat) : Nat → Nat → Bool
    | 0, _ => false
    | fuel + 1, y => if y == 0 then false else if (y - 1) / 2 == r then true else go r fuel ((y - 1) / 2)
end Coll

/-- Member `r` of a collective: seat and stack (R314). -/
def State.member (s : State) (c : Coll) (r : Nat) : Nat × Nat :=
  let w := s.num (c.members + 2 * r) 2
  (bits w 0 12, bits w 12 2)
/-- The rank of a stack of this module: the one entry that matches; none where none or several do (R314). -/
def State.rankOf (s : State) (st : Nat) (c : Coll) : Option Nat :=
  match (List.range c.p).filter (fun r => s.member c r == (s.seat, st)) with
  | [r] => some r
  | _ => none

/-! ## Instances (R316) -/

/-- An instance as it begins. -/
def newInstance (k : Nat) (step : BitVec 32) (whole : Bool) (rank : Option Nat) : Instance' :=
  ⟨k, step, whole, none, rank, [], [], [], [], [], [], LxValue.zero, 0, none, false⟩

/-- Whether an instance is of a collective and of the work half of a step. -/
def Instance'.inHalf (i : Instance') (k : Nat) (step : BitVec 32) : Bool := i.coll == k && i.step.toNat % 2 == step.toNat % 2
/-- The instance of a collective's work half. -/
def State.inst (s : State) (st k : Nat) (step : BitVec 32) : Option Instance' := (s.assembly st).insts.find? (fun i => i.inHalf k step)
/-- Its parts are read from the record and the member list in memory as it begins: whether any read poisoned (R314). -/
def State.readColl (s : State) (st k : Nat) (c : Coll) : State × Bool :=
  let r := s.readFrom st 4 (s.reg .assemblyCollTable st + 64 * k) 64
  let q := r.1.readFrom st 4 c.members (2 * c.p)
  (q.1, r.2.2 || q.2.2)
/-- Changes it. -/
def State.onInst (s : State) (st k : Nat) (step : BitVec 32) (f : Instance' → Instance') : State :=
  let a := s.assembly st
  s.setAssembly st { a with insts := a.insts.map (fun i => if i.inHalf k step then f i else i) }
/-- STATE.ACTIVE after a change. -/
def State.noteActive (s : State) (st : Nat) : State :=
  s.setFld F.assemblyStateActive st 0 ((s.assembly st).insts.filter (fun i => !i.complete)).length

/-- Whether the half of a step is ready for a contribution: `ok` where its instance runs, `other` where it holds an unfinished instance of another step or a finished one of this step, `wait` while 64 instances run (R316, R325). -/
inductive Begin where
  | ok | other | wait
deriving DecidableEq, Repr

/-- Whether the instance that a half holds is that of a step. A packet knows only bits [15:0] of the step; where the instance and the contribution both know all of it, all of it is compared (R316, R322). -/
def Instance'.ofStep (i : Instance') (step : BitVec 32) (whole : Bool) : Bool :=
  if whole && i.whole then i.step == step else i.step.setWidth 16 == step.setWidth 16

/-- The instance of a step begins with its first contribution (R314, R316); `whole` says that the contribution is local and names the whole step. One whose record or member list reads poisoned fails with CHECK, as one that finds no rank does (DESIGN CHOICE, log entry 29). -/
def State.beginInst (s : State) (st k : Nat) (c : Coll) (step : BitVec 32) (whole : Bool) : State × Begin :=
  let a := s.assembly st
  let start (s : State) : State × Begin :=
    if ((s.assembly st).insts.filter (fun i => !i.complete)).length ≥ 64 then (s, .wait)
    else
      let (s, bad) := s.readColl st k c
      let rank := if bad then none else s.rankOf st c
      let a := s.assembly st
      let s := s.setAssembly st { a with insts := a.insts.filter (fun i => !i.inHalf k step) ++ [newInstance k step whole rank] }
      let s := s.noteActive st
      if rank.isNone then (s.failInstance st k step fCHECK, .other) else (s, .ok)
  match a.insts.find? (fun i => i.inHalf k step) with
  | none => start s
  | some i =>
    if i.ofStep step whole then
      if i.complete || i.failed.isSome then (s, .other)
      else ((if whole then s.onInst st k step (fun i => { i with step := step, whole := true }) else s), .ok)
    else if i.complete then start s
    else (s.failInstance st k i.step fCHECK, .other)

/-- Every input of an instance carries one E; a mismatch fails it with CHECK (R316). -/
def State.checkE (s : State) (st k : Nat) (step : BitVec 32) (e : Int) : State × Bool :=
  match s.inst st k step with
  | none => (s, false)
  | some i =>
    match i.e with
    | none => (s.onInst st k step (fun i => { i with e := some e }), true)
    | some x => if x == e then (s, true) else (s.failInstance st k i.step fCHECK, false)

/-! ## Delivery (R320, R321) -/

/-- The search of a block list for the entry that holds a unit: the entry and the unit's segment in that block, or `bad` where an entry on the way reads poisoned (R320). -/
inductive BlockFound where
  | block (w seg : Nat) | absent | bad
deriving DecidableEq, Repr

/-- Reads a block list from its entry `j` on for the entry that holds unit `g` (R320). -/
def State.blockOf (s : State) (st addr : Nat) : Nat → Nat → Nat → State × BlockFound
  | 0, _, _ => (s, .absent)
  | fuel + 1, j, g =>
    let r := s.readFrom st 4 (addr + 8 * j) 8
    let w := ofBytes r.2.1
    let n := bits w 32 16 + 1
    if r.2.2 then (r.1, .bad) else if g < n then (r.1, .block w g) else State.blockOf r.1 st addr fuel (j + 1) (g - n)

/-- The elements of a unit read from a work half, as signed numbers. -/
def unitElems (c : Coll) (data : List Byte) : List Int := (elemsOf c.sumBytes data).map (signed (8 * c.sumBytes))

/-- The squares of a unit's elements are taken into the stack's accumulator of the step's parity (R321). -/
def State.takeNorm (s : State) (st : Nat) (step : BitVec 32) (e : Int) (poisoned : Bool) (qs : List Int) : State :=
  let a := s.assembly st
  let k := step.toNat % 2
  let old := Tab.get LxValue.zero a.normAcc k
  if poisoned || e < -160 || 96 < e then
    (s.setAssembly st { a with normAcc := Tab.set LxValue.zero a.normAcc k { old with nan := true } }).bumpSat F.assemblyNormRangeCount st 0 qs.length
  else
    let sum : Int := (qs.map (fun q => q * q)).sum * 2 ^ (2 * e + 320).toNat
    s.setAssembly st { a with normAcc := Tab.set LxValue.zero a.normAcc k (old.add ⟨sum, false, false, false⟩) }

/-- A segment goes to the Marker of its block's stack as a chunk, over Hallway where that is another stack (R239, R320). -/
def State.handSegment (s : State) (st : Nat) (c : Coll) (i : Instance') (w seg : Nat) (qs : List Int) (bad : Bool) : State :=
  let there : StackId := Fin.ofNat 4 (bits w 17 2)
  if s.hallwayDown st there.val then s.dropAtLink st there.val
  else gradientChunk (s.countHallway st there.val (qs.length * c.sumBytes)) there
    ⟨BitVec.ofNat 17 (bits w 0 17), seg, 1, i.step, BitVec.ofNat 4 c.sumFmt, i.e.getD 0, qs, bad⟩

/-- A unit whose ranges are all final is handed to its Marker, and its squares are taken where it lies in the rank's own shard (R320, R321). A block list that reads poisoned fails the instance with CHECK (DESIGN CHOICE, log entry 29). -/
def State.deliverUnit (s : State) (st k : Nat) (c : Coll) (i : Instance') (u : Nat) : State :=
  let (s, data, lost) := s.readFrom st 4 (c.half i.step + u * 256 * c.sumBytes) (256 * c.sumBytes)
  let bad := NatSet.has i.poisoned u || lost
  let norm (s : State) (qs : List Int) : State :=
    if c.norm && i.rank == some (c.shardOf u) then s.takeNorm st i.step (i.e.getD 0) bad qs else s
  let done (s : State) : State := s.onInst st k i.step (fun i => { i with delivered := NatSet.insert i.delivered u })
  if c.marker then
    match s.blockOf st c.destAddr c.nunit 0 u with
    | (s, .bad) => s.failInstance st k i.step fCHECK
    | (s, .absent) => done s
    | (s, .block w seg) =>
      let qs := (unitElems c data).take (if seg == bits w 32 16 then bits w 48 8 + 1 else 256)
      done (norm (s.handSegment st c i w seg qs bad) qs)
  else done (norm s (unitElems c data))

/-- A range of the work half is written to its place in the result (R320). -/
def State.writeResult (s : State) (st : Nat) (c : Coll) (i : Instance') (rng : Nat) : State :=
  let (s, data, lost) := s.readFrom st 4 (c.half i.step + 256 * rng) 256
  s.writeFrom st 4 (c.destAddr + 256 * rng) data (NatSet.has i.poisoned (c.unitOf rng) || lost)

/-- A range becomes final at this rank: it is written to DEST_ADDR, and a unit that is whole is delivered (R320). A REDUCE_SCATTER delivers only the rank's own shard. -/
def State.finalRange (s : State) (st k : Nat) (c : Coll) (step : BitVec 32) (rng : Nat) : State :=
  match s.inst st k step with
  | none => s
  | some i =>
    if NatSet.has i.final rng || i.failed.isSome then s
    else
      let u := c.unitOf rng
      let s := s.onInst st k step (fun i => { i with final := NatSet.insert i.final rng })
      if c.kind == kNE || (c.kind == kRS && i.rank != some (c.shardOf u)) then s
      else
        let s := if c.marker then s else s.writeResult st c i rng
        match s.inst st k step with
        | none => s
        | some i =>
          if c.reduces && (List.range c.perUnit).all (fun j => NatSet.has i.final (u * c.perUnit + j)) then s.deliverUnit st k c i u else s

/-- Whether every contribution to a range has been added here (R317, R318). -/
def Instance'.summed (i : Instance') (c : Coll) (r rng : Nat) : Bool :=
  NatSet.has i.own (c.unitOf rng) && c.preds r (c.shardOf (c.unitOf rng)) ≤ Tab.get 0 i.got rng

/-- A range becomes final where its path ends or begins at this rank. -/
def State.settleRange (s : State) (st k : Nat) (c : Coll) (step : BitVec 32) (rng : Nat) : State :=
  match s.inst st k step with
  | none => s
  | some i =>
    match i.rank with
    | none => s
    | some r =>
      let sh := c.shardOf (c.unitOf rng)
      let own := NatSet.has i.own (c.unitOf rng)
      let done :=
        if c.reduces then i.summed c r rng && c.top r sh
        else if c.kind == kAG then (if c.tree then r == 0 && ((own && sh == 0) || 0 < Tab.get 0 i.got rng) else r == sh && own)
        else c.kind == kBC && r == c.root && own
      if done then s.finalRange st k c step rng else s

/-! ## Local inputs (R315, R319, R321) -/

/-- Whether a rank's local bytes of a unit go into its work half: every unit of a kind that reduces and of ALL_TO_ALL, of ALL_GATHER those of its own shard, of BROADCAST those of the root. The other units come in packets (R317, R318). -/
def Coll.takesOwn (c : Coll) (rank : Option Nat) (u : Nat) : Bool :=
  if c.kind == kAG then rank == some (c.shardOf u) else if c.kind == kBC then rank == some c.root else true

/-- One unit of local input is added, widened to the elements of the sum, or placed, into the work half (R315, R319). -/
def State.addUnit (s : State) (st k : Nat) (c : Coll) (step : BitVec 32) (u : Nat) (raw : List Byte) (bad : Bool) : State :=
  let takes := c.takesOwn ((s.inst st k step).bind (fun i => i.rank)) u
  let s :=
    if c.reduces then
      let xs := (elemsOf c.inBytes raw).map (fun x => unsigned (8 * c.sumBytes) (signed (8 * c.inBytes) x))
      s.reduceFrom st 4 (c.half step + u * 256 * c.sumBytes) c.sumBytes c.sumBytes xs
    else if takes then s.writeFrom st 4 (c.half step + u * 256) raw bad
    else s
  let s := s.onInst st k step (fun i => { i with own := NatSet.insert i.own u, poisoned := if bad && takes then NatSet.insert i.poisoned u else i.poisoned })
  s.each (List.range c.perUnit) (fun s j => s.settleRange st k c step (u * c.perUnit + j))

/-- The stack's norm accumulator becomes the input of the NORM_EXCHANGE collective that NORM.COLL names, once a step; 0x3FF names none (R321, R340). It waits while 64 instances run (R325). -/
def State.contributeNorm (s : State) (st : Nat) (step : BitVec 32) : State :=
  let a := s.assembly st
  let k := s.fld F.assemblyNormColl st
  match s.coll st k with
  | none => s
  | some c =>
    if NatSet.has a.normSent step.toNat || c.kind != kNE || k == 0x3FF then s
    else
      match s.beginInst st k c step true with
      | (s, .wait) => s.setAssembly st { s.assembly st with normWait := (s.assembly st).normWait ++ [step] }
      | (s, b) =>
        let s := s.setAssembly st { s.assembly st with normSent := NatSet.insert (s.assembly st).normSent step.toNat }
        if b == .ok then
          let v := Tab.get LxValue.zero a.normAcc (step.toNat % 2)
          (s.onInst st k step (fun i => { i with own := [0], norm := i.norm.add v })).settleRange st k c step 0
        else s

/-- The data of a buffer: rows 0 to ROWS, RB bytes each, and whether each byte's row is poisoned. -/
def State.bufferBytes (s : State) (c : CoreId) (g : Stage) (sd : StreamDesc) (m : Nat) : List (Byte × Bool) :=
  let r := tileReg (bufferReg g sd m)
  let t : Tile := ⟨r.slot, r.span, r.rows, r.tdesc, g.tensor r.tdesc, r.sslot, r.srow⟩
  (List.range t.rows).flatMap (fun row => (List.range sd.rb).map (fun i =>
    let off := t.rowOff (i / 128) row + i % 128
    (s.storeByte c off, s.rowPoisoned c off)))

/-- The units of a buffer are added to its instance, or, for a collective that reads memory, all the units of its source (R315). -/
def State.addBuffer (s : State) (st k : Nat) (co : Coll) (step : BitVec 32) (u0 n : Nat) (data : List (Byte × Bool)) : State :=
  let ub := co.unitBytes
  if co.srcMem then
    s.each (List.range co.units) (fun s u =>
      let r := s.readFrom st 4 (co.srcAddr + u * ub) ub
      r.1.addUnit st k co step u r.2.1 r.2.2)
  else
    s.each (List.range n) (fun s j =>
      let part := (data.drop (j * ub)).take ub
      s.addUnit st k co step (u0 + j) (part.map (fun x => x.1)) (part.any (fun x => x.2)))

/-- A buffer meets its instance: it fails it with CHECK, or its exponent is checked and its units are added (R315). -/
def State.meetBuffer (s : State) (st k : Nat) (co : Coll) (d : TensorDesc) (step : BitVec 32) (u0 : Int) (bad : Bool) (data : List (Byte × Bool)) : State :=
  if bad then s.failInstance st k step fCHECK
  else
    let r := if isFxg d.fmt then s.checkE st k step d.e else (s, true)
    if r.2 then r.1.addBuffer st k co step u0.toNat (data.length / co.unitBytes) data else r.1

/-- Whether a buffer does not fit its collective: format, whole units, and the units' place (R315). For a collective that reads memory the buffer carries only the step: its data and their place are not looked at (DESIGN CHOICE, log entry 29: R315 speaks of a buffer of zero rows, and no descriptor has fewer than one). -/
def bufferBad (co : Coll) (d : TensorDesc) (tstride u0 : Int) (len : Nat) : Bool :=
  let ub := co.unitBytes
  co.kind == kNE || d.fmt != co.inFmt
    || (!co.srcMem && (len % ub != 0 || tstride.emod ub != 0 || u0 < 0 || decide ((co.units : Int) < u0 + (len / ub : Nat))))

/-- What a buffer does at the engine: its units are added, or its instance fails with CHECK; `none` while the engine has no room. The Boolean says whether the buffer was accepted (R183, R315). -/
def State.handBuffer (s : State) (st : Nat) (c : CoreId) (g : Stage) (sd : StreamDesc) (base m t : Nat) : Option (State × Bool) :=
  let k := bits base 0 10
  match s.coll st k with
  | none => some (s, false)
  | some co =>
    let d := g.tensor (tileReg (bufferReg g sd m)).tdesc
    let u0 : Int := (bits base 16 32 : Nat) + t * sd.tstride.fdiv co.unitBytes
    match s.beginInst st k co g.step true with
    | (_, .wait) => none
    | (s, .other) => some (s, false)
    | (s, .ok) =>
      let data := s.bufferBytes c g sd m
      let bad := bufferBad co d sd.tstride u0 data.length
      some (s.meetBuffer st k co d g.step u0 bad data, !bad)

/-- ASSEMBLY_BUFFER_ACCEPT: the engine of the core's stack accepts the oldest released buffer of an OUT descriptor, and its transfer completes (R170, R315). -/
def assemblyBufferAccept (s : State) (c : CoreId) (d : Nat) : State :=
  let s := s.takeReleases c
  let co := s.core c
  match co.stage with
  | none => s
  | some g =>
    let sd := g.stream d
    let y := co.dyn d
    match y.outPend with
    | [] => s
    | m :: rest =>
      if sd.valid ∧ sd.dir = dirOut ∧ sd.target = 2 ∧ (y.state = 1 ∨ y.state = 2) ∧ m < y.runStart + y.count ∧ !g.loading then
        match s.handBuffer (stackOfCore c) c g sd y.base m (m - y.runStart) with
        | none => s
        | some (s, accepted) =>
          let y' := { y with started := m + 1, outPend := rest }
          let s := (s.setCore c ((s.core c).setDyn d (y'.complete m))).wakeStreams c
          if accepted then s.markLesson (clusterOfCore c) (fun l => { l with handedAssembly := true }) else s
      else s

/-! ## Sends (R317, R318, R322) -/

/-- The sends that a range owes: destination rank, packet kind, and whether it carries a result. -/
def Instance'.due (i : Instance') (c : Coll) (rng : Nat) : List (Nat × PktKind × Bool) :=
  match i.rank with
  | none => []
  | some r =>
    let u := c.unitOf rng
    let sh := c.shardOf u
    let nx := (r + 1) % c.p
    let up : PktKind := if c.kind == kNE then .norm else .reduce
    let dn : PktKind := if c.kind == kNE then .norm else .data
    let fin := NatSet.has i.final rng
    let down : List (Nat × PktKind × Bool) :=
      if !fin then []
      else if c.tree then
        (if c.kind == kRS then (if r == 0 && sh != 0 then [(sh, dn, true)] else []) else (c.children r).map (fun x => (x, dn, true)))
      else if c.kind == kRS || nx == (if c.kind == kBC then c.root else sh) then [] else [(nx, dn, true)]
    if c.kind == kA2A then (if NatSet.has i.own u then [(u / (c.nunit / c.p), dn, false)] else [])
    else if c.reduces then
      (if i.summed c r rng && !c.top r sh then [(if c.tree then (r - 1) / 2 else nx, up, false)] else []) ++ down
    else if c.kind == kAG && c.tree && r != 0 then
      (if (sh == r && NatSet.has i.own u) || 0 < Tab.get 0 i.got rng then [((r - 1) / 2, dn, false)] else []) ++ down
    else down

/-- The key of a send in `sent`. -/
def sendKey (x : Nat × PktKind × Bool) : Nat := x.1 + (if x.2.2 then 8192 else 0)
/-- The sends of a range not yet made. -/
def Instance'.unsent (i : Instance') (c : Coll) (rng : Nat) : List (Nat × PktKind × Bool) :=
  (i.due c rng).filter (fun x => !i.sent.elem (rng, sendKey x))

/-- Whether a packet kind belongs to a collective (R322, R323). -/
def Coll.uses (c : Coll) : PktKind → Bool
  | .norm => c.kind == kNE
  | .reduce => c.kind == kRS || c.kind == kAR
  | .data => c.kind == kAG || c.kind == kAR || c.kind == kBC || c.kind == kA2A || (c.kind == kRS && c.tree)

/-- A packet that is valid is added or placed in the work half, with the data slots that DLEN counts, and answered OK (R322, R323). A poisoned contribution to a NORM_EXCHANGE makes the value NaN (DEDUCED, log entry 29). In an ALL_TO_ALL the poison of what arrives goes with its place in the result, and not with the parts that this rank sends. -/
def State.takePacket (s : State) (st k : Nat) (c : Coll) (kind : PktKind) (m : CollPkt) (step : BitVec 32) : State :=
  let rng := m.offset.toNat
  let u := c.unitOf rng
  let s := s.bump F.assemblyPacketsReceivedCount st 0 1
  match s.inst st k step with
  | none => s
  | some i =>
    let r := i.rank.getD 0
    let at' := c.half i.step + 256 * rng
    let data := m.data.take (16 * (m.dlen.toNat + 1))
    let mark (s : State) : State := if m.poisoned then s.onInst st k step (fun i => { i with poisoned := NatSet.insert i.poisoned u }) else s
    let count (s : State) : State := s.onInst st k step (fun i => { i with got := Tab.set 0 i.got rng (Tab.get 0 i.got rng + 1) })
    match kind with
    | .reduce => (count (mark (s.reduceFrom st 4 at' c.sumBytes c.sumBytes (elemsOf c.sumBytes data)))).settleRange st k c step rng
    | .norm =>
      let w := LxValue.ofBytes (m.data.take 80) (m.data.getD 80 0)
      let v := if m.poisoned then { w with nan := true } else w
      let s := mark s
      if Tab.get 0 i.got 0 < c.preds r 0 then
        (count (s.onInst st k step (fun i => { i with norm := i.norm.add v }))).settleRange st k c step 0
      else (s.onInst st k step (fun i => { i with norm := v })).finalRange st k c step 0
    | .data =>
      if c.kind == kA2A then
        if c.marker then s else
          (s.writeFrom st 4 (c.destAddr + 256 * rng) data m.poisoned).onInst st k step (fun i => { i with final := NatSet.insert i.final rng })
      else
        let s := mark (s.writeFrom st 4 at' data m.poisoned)
        if c.kind == kAG && c.tree && c.below r (c.shardOf u) && Tab.get 0 i.got rng == 0 then (count s).settleRange st k c step rng
        else s.finalRange st k c step rng

/-- The engine's checks of a packet, and its answer (R316, R323). An instance for which a packet is refused fails with CHECK (R324). `none` while 64 instances run and the packet would begin another (R325). -/
def State.packetAnswer (s : State) (st : Nat) (kind : PktKind) (m : CollPkt) : Option (State × Nat) :=
  let k := m.coll.toNat
  let refuse (s : State) (status : Nat) : Option (State × Nat) :=
    some ((s.each ((s.assembly st).insts.filter (fun i => i.coll == k && i.step.setWidth 16 == m.step)) (fun s i => s.failInstance st k i.step fCHECK)).bumpSat
      F.assemblyRefusedCount st 0 1, status)
  if s.offline st then some (s, fOFFLINE)
  else match s.coll st k with
  | none => refuse s fUNSUPPORTED
  | some c =>
    let step := m.step.setWidth 32
    if !c.uses kind || c.ranges ≤ m.offset.toNat || (kind == .norm && m.dlen.toNat != 5) then refuse s fUNSUPPORTED
    else
      match s.beginInst st k c step false with
      | (_, .wait) => none
      | (s, .other) => refuse s fDENIED
      | (s, .ok) =>
        let (s, ok) := if kind == .reduce then s.checkE st k step (signed 10 m.e.toNat) else (s, true)
        if ok then some (s.takePacket st k c kind m step, fOK) else refuse s fDENIED

/-- The answer to a packet reaches its sender: over the tracker entry of a loopback, or as a response. -/
def State.answerPacket (s : State) (a : Arrival) (m : CollPkt) (status : Nat) : State :=
  match a with
  | .loop _ => s.completeTid m.tid.toNat status
  | .port p => s.respond p m.dstStack 0 ⟨m.src, BitVec.ofNat 12 s.seat, m.tid, 0, m.srcEpoch, BitVec.ofNat 12 s.seatEpoch, BitVec.ofNat 4 status, 0, []⟩

/-- A packet meets the engine of its stack, or waits there (R323, R325). -/
def State.meetPacket (s : State) (a : Arrival) (kind : PktKind) (m : CollPkt) : State :=
  match s.packetAnswer m.dstStack kind m with
  | none => s.setAssembly m.dstStack { s.assembly m.dstStack with packetWait := (s.assembly m.dstStack).packetWait ++ [(a, kind, m)] }
  | some (s, status) => s.answerPacket a m status

/-- The stack at which a message comes into the module's network: its port's, or its initiator's. -/
def arrivalStack : Arrival → Nat
  | .loop st => st.val
  | .port p => stackOfPort p

/-- A packet goes over Hallway to the engine of its stack; over a link that is DOWN its answer is LINK_DOWN (R218, R305 step 9). -/
def State.carryPacket (s : State) (a : Arrival) (kind : PktKind) (m : CollPkt) : State :=
  if s.hallwayDown (arrivalStack a) m.dstStack && !s.offline m.dstStack then
    match a with
    | .loop _ => s.completeTid m.tid.toNat fLINK_DOWN
    | .port p => s.respond p (stackOfPort p) 0 ⟨m.src, BitVec.ofNat 12 s.seat, m.tid, 0, m.srcEpoch, BitVec.ofNat 12 s.seatEpoch, BitVec.ofNat 4 fLINK_DOWN, 0, []⟩
  else (s.countHallway (arrivalStack a) m.dstStack m.data.length).meetPacket a kind m

/-- An inbound collective packet: R305 steps 1 to 3, the way to its stack, the engine's checks, and the answer (R323). -/
def collPacket (s : State) (a : Arrival) (kind : PktKind) (m : CollPkt) : State :=
  match a with
  | .loop _ => s.carryPacket a kind m
  | .port p =>
    let (s, ok) := s.admitMessage p m.dst.toNat m.src.toNat m.srcEpoch.toNat true
    if ok then s.carryPacket a kind m else s

/-- What waited for an instance to end is tried again (R325). -/
def State.retryInsts (s : State) (st : Nat) : State :=
  let a := s.assembly st
  let s := s.setAssembly st { a with normWait := [], packetWait := [] }
  (s.each a.packetWait (fun s x => s.meetPacket x.1 x.2.1 x.2.2)).each a.normWait (fun s step => s.contributeNorm st step)

/-- The fabric address that stands for a packet's destination in records. -/
def packetAddr (seat rng : Nat) : Nat := seat * 2 ^ 48 + rng * 256

/-- A packet's transaction is tracked (R308, R317). -/
def State.trackPacket (s : State) (st : StackId) (tid seat addr : Nat) (port : Option Nat) (link : BitVec 10 × BitVec 32) : State :=
  ({ s with trackers := s.trackers ++
      [TrackEntry.mk tid none .assembly (BitVec.ofNat 12 seat) (BitVec.ofNat 64 addr) port (some link) false] }).noteTracker st.val

/-- A packet leaves for its seat: looped back inside the module, or on a port of the collective (R292, R293, R317). -/
def State.sendPacket (s : State) (st : StackId) (c : Coll) (kind : PktKind) (m : CollPkt) (step : BitVec 32) : State :=
  let seat := m.dst.toNat
  let off := m.offset.toNat
  let link := (m.coll, step)
  let addr := packetAddr seat off
  let n := (portList c.ports).length
  if !s.seatValid then s.finishTrans st.val .assembly addr (some link) (fNO_ROUTE, [], 0)
  else if seat == s.seat then
    (s.trackPacket st m.tid.toNat seat addr none link).carryPacket (.loop st) kind m
  else
    match (portList c.ports)[off % n]?, s.coverEntry (s.partOf st.val) seat (fun e => bitOf e 1) with
    | some p, some e =>
      if !bitOf (winPorts e) p then s.finishTrans st.val .assembly addr (some link) (fNO_ROUTE, [], 0)
      else if s.hallwayDown st.val (stackOfPort p) then s.finishTrans st.val .assembly addr (some link) (fLINK_DOWN, [], 0)
      else if s.link p == lUP || s.link p == lRETRAINING then
        ((s.trackPacket st m.tid.toNat seat addr (some p) link).countHallway st.val (stackOfPort p) m.data.length).portSend p 3 (.packet kind m)
      else s.finishTrans st.val .assembly addr (some link) (fLINK_DOWN, [], 0)
    | _, _ => s.finishTrans st.val .assembly addr (some link) (fNO_ROUTE, [], 0)

/-- What the packet of a range carries: the bytes of the range in the work half, or the LX value of a NORM_EXCHANGE, and whether they are poisoned (R322). -/
def State.packetData (s : State) (st : Nat) (c : Coll) (i : Instance') (rng : Nat) (kind : PktKind) : State × List Byte × Bool :=
  let bad := NatSet.has i.poisoned (c.unitOf rng)
  if kind == .norm then (s, i.norm.valueBytes ++ [i.norm.flagByte] ++ List.replicate 15 0, bad)
  else
    let r := s.readFrom st 4 (c.half i.step + 256 * rng) 256
    (r.1, r.2.1, bad || r.2.2)

/-- The packet that carries a range of an instance to a rank (R322). -/
def State.makePacket (s : State) (c : Coll) (i : Instance') (k rng tid : Nat) (kind : PktKind) (seat stack : Nat) (data : List Byte) (bad : Bool) : CollPkt :=
  let u := c.unitOf rng
  let off := if c.kind == kA2A then (let q := c.nunit / c.p; (i.rank.getD 0) * q + u % q) else rng
  ⟨BitVec.ofNat 12 seat, BitVec.ofNat 12 s.seat, BitVec.ofNat 18 tid, if kind == .norm then 5 else 15, BitVec.ofNat 10 k,
    i.step.setWidth 16, BitVec.ofNat 26 off, if kind == .reduce then BitVec.ofInt 10 (i.e.getD 0) else 0,
    BitVec.ofNat 12 s.seatEpoch, Fin.ofNat 4 stack, data, bad⟩

/-- A range of an instance is sent to the next rank that it is owed to (R317). -/
def State.sendRange (s : State) (st : StackId) (c : Coll) (i : Instance') (k rng tid : Nat) : State :=
  match i.unsent c rng with
  | [] => s
  | x :: _ =>
    let d := s.member c x.1
    let (s, data, bad) := s.packetData st c i rng x.2.1
    let m := s.makePacket c i k rng tid x.2.1 d.1 d.2 data bad
    let s := s.onInst st k i.step (fun i => { i with sent := i.sent ++ [(rng, sendKey x)], unacked := i.unacked + 1 })
    ((s.bump F.assemblyPacketsSentCount st 0 1).bump F.fabricIssuedCount (4 * st.val) 0 1).sendPacket st c x.2.1 m i.step

/-- COLLECTIVE_PACKET_SEND: a range whose contributions are all in is sent to the next rank that it is owed to (R317, R318, R322). -/
def collectivePacketSend (s : State) (st : StackId) (k rng : Nat) : State :=
  match s.coll st k with
  | none => s
  | some c =>
    match (s.assembly st).insts.find? (fun i => i.coll == k && i.failed.isNone && !i.complete && !(i.unsent c rng).isEmpty), s.freeTid st with
    | some i, some tid => s.sendRange st c i k rng tid
    | _, _ => s

/-! ## Completion (R321, R324) -/

/-- Whether a range's result has to stand at this rank before its instance ends: every range of the result, and those that a reduction brings to this rank to be sent on (R317, R318). -/
def Instance'.awaits (i : Instance') (c : Coll) (rng : Nat) : Bool :=
  match i.rank with
  | some r => c.kind != kRS || c.shardOf (c.unitOf rng) == r || c.top r (c.shardOf (c.unitOf rng))
  | none => false

/-- Whether an instance has delivered its result and made every send, all answered. -/
def Instance'.finished (i : Instance') (c : Coll) : Bool :=
  i.unacked == 0 && (List.range c.ranges).all (fun rng =>
    (!i.awaits c rng || NatSet.has i.final rng) && (i.unsent c rng).isEmpty
      && (!(c.reduces || c.kind == kA2A) || (NatSet.has i.own (c.unitOf rng)
        && (c.kind == kA2A || c.top (i.rank.getD 0) (c.shardOf (c.unitOf rng)) || !(i.due c rng).isEmpty))))

/-- COLLECTIVE_INSTANCE_COMPLETE: the completion word is written, the work half is cleared, and a norm goes on its way (R316, R321, R324). -/
def collectiveInstanceComplete (s : State) (st : StackId) (k : Nat) : State :=
  match s.coll st k with
  | none => s
  | some c =>
    match (s.assembly st).insts.find? (fun i => i.coll == k && !i.complete && (i.failed.isSome || i.finished c)) with
    | none => s
    | some i =>
      let status := (i.failed.map BitVec.toNat).getD fOK
      let s := s.writeFrom st 4 c.doneAddr (toBytes 8 (i.step.toNat % 2 ^ 16 + status * 2 ^ 16)) false
      let s := if c.kind == kNE then s else s.writeFrom st 4 (c.half i.step) (List.replicate (c.ranges * 256) 0) false
      let s := ((s.onInst st k i.step (fun i => { i with complete := true })).noteActive st).retryInsts st
      if i.failed.isSome then s
      else
        let s := s.bump F.assemblyInstancesCount st 0 1
        let a := s.assembly st
        if c.kind == kNE then
          let s := s.setAssembly st { a with normAcc := Tab.set LxValue.zero a.normAcc (i.step.toNat % 2) LxValue.zero }
          normQArrival s st i.step i.norm
        else if c.norm then
          let n := Tab.get 0 a.normDone i.step.toNat + 1
          let s := s.setAssembly st { a with normDone := Tab.set 0 a.normDone i.step.toNat n }
          let expect := s.fld F.assemblyNormExpect st
          if expect != 0 && n == expect then s.contributeNorm st i.step else s
        else s

/-- ARM_SCAN_COMPLETE: with EXPECT 0, an accepted ARM makes the stack contribute its accumulator (R237, R321). -/
def armScanAndNorm (s : State) (st : StackId) : State :=
  let was := s.stepState st
  let s := armScanComplete s st
  if was == mSCANNING && s.stepState st == mOPEN && s.fld F.assemblyNormExpect st == 0 then
    s.contributeNorm st (BitVec.ofNat 32 (s.reg .markerOpenStep st))
  else s

/-! ## The commands -/

/-- ARM_SCAN_COMPLETE (R237). -/
def execArmScanComplete (st : StackId) (s : State) : Host.Outcome State Fault Refusal := .next (armScanAndNorm s st)
/-- ASSEMBLY_BUFFER_ACCEPT (R315). -/
def execAssemblyBufferAccept (c : CoreId) (d : Fin 64) (s : State) : Host.Outcome State Fault Refusal := .next (assemblyBufferAccept s c d)
/-- COLLECTIVE_PACKET_SEND (R317). -/
def execCollectivePacketSend (st : StackId) (coll : BitVec 10) (unit : Nat) (s : State) : Host.Outcome State Fault Refusal :=
  .next (collectivePacketSend s st coll.toNat unit)
/-- REDUCE (R323). -/
def execReduce (a : Arrival) (k : CollPkt) (s : State) : Host.Outcome State Fault Refusal := .next (collPacket s a .reduce k)
/-- DATA (R323). -/
def execData (a : Arrival) (k : CollPkt) (s : State) : Host.Outcome State Fault Refusal := .next (collPacket s a .data k)
/-- NORM (R323). -/
def execNorm (a : Arrival) (k : CollPkt) (s : State) : Host.Outcome State Fault Refusal := .next (collPacket s a .norm k)
/-- COLLECTIVE_INSTANCE_COMPLETE (R324). -/
def execCollectiveInstanceComplete (st : StackId) (coll : BitVec 10) (s : State) : Host.Outcome State Fault Refusal :=
  .next (collectiveInstanceComplete s st coll.toNat)

end Sys2Proof.Machine
end

