-- ==== Sys2Proof/Machine/Wire.lean ====
section
/-!
DEFINITION. What travels on the wires: the slots of messages and the bytes of their headers, LINK messages, flits with their CRC-64, and Corridor frames with their CRC-32C (R280, R282 to R284, R288, R296, R297, R322, R326, R327, R470).
-/
namespace Sys2Proof

/-! ## Messages and their slots (R283, R284, R297) -/

/-- The virtual channel of a message (R284). -/
def FabMsg.vc : FabMsg → Fin 4
  | .control .. => 0
  | .request _ m => if m.bulk then 3 else 1
  | .response _ => 2
  | .packet .. => 3

/-- The slots of a message: its header and its data slots (R283). -/
def FabMsg.slots : FabMsg → Nat
  | .control .. => 3
  | .request op m => 1 + Machine.reqSlots op m.len
  | .response m => 1 + (m.data.length + 15) / 16
  | .packet _ m => 2 + m.dlen.toNat

/-- Whether a message is a Roll call (R327). -/
def FabMsg.isRollCall : FabMsg → Bool
  | .control t _ _ _ _ _ => t.toNat == Machine.tROLL_CALL
  | _ => false

/-- The flits that a message takes by itself, 15 slots each. -/
def FabMsg.flits (m : FabMsg) : Nat := (m.slots + 14) / 15

/-- The slots of a message, its header first. -/
def FabMsg.parts (m : FabMsg) : List Slot := (List.range m.slots).map (Slot.part m)

/-- The messages whose last slot a flit carries. -/
def Flit.msgs (f : Flit) : List FabMsg :=
  f.slots.filterMap (fun x => match x with | .part m k => if k + 1 = m.slots then some m else none | _ => none)

/-- Whether a flit has a slot whose OPC is reserved (R283). -/
def Flit.badSlot (f : Flit) : Bool := f.slots.any (fun x => match x with | .reserved _ => true | _ => false)

/-- The opcode of an operation (R297). -/
def FabOp.opc : FabOp → Nat
  | .load => 0x01
  | .store => 0x02
  | .storeNotify => 0x03
  | .fxadd32 => 0x04
  | .fxadd64 => 0x05
  | .fxadd32to64 => 0x06
  | .add64 => 0x10
  | .min64 => 0x11
  | .max64 => 0x12
  | .swap64 => 0x13
  | .cas64 => 0x14
  | .add128 => 0x18
  | .min128 => 0x19
  | .max128 => 0x1A
  | .swap128 => 0x1B
  | .cas128 => 0x1C
/-- The opcode of a collective packet (R322). -/
def PktKind.opc : PktKind → Nat
  | .reduce => 0x40
  | .data => 0x41
  | .norm => 0x42
/-- The opcode of a message (R297, R327). -/
def FabMsg.opc : FabMsg → Nat
  | .request op _ => op.opc
  | .response _ => 0x80
  | .packet k _ => k.opc
  | .control t _ _ _ _ _ => 0xC0 + t.toNat
/-- Whether an OPC is reserved (R297). -/
def opcReserved (n : Nat) : Bool :=
  !(decide (n ≤ 0x06) || (decide (0x10 ≤ n) && decide (n ≤ 0x14)) || (decide (0x18 ≤ n) && decide (n ≤ 0x1C))
    || (decide (0x40 ≤ n) && decide (n ≤ 0x4F)) || n == 0x80 || (decide (0xC0 ≤ n) && decide (n ≤ 0xCF)))

end Sys2Proof

namespace Sys2Proof.Machine

/-! ## Header slots (R296, R322, R327) -/

/-- The fields that every header slot begins with: OPC, DST, SRC, TID, and LEN or DLEN. -/
def headRoute (opc : Nat) (dst src : BitVec 12) (tid : BitVec 18) (len : BitVec 4) : Nat :=
  opc + dst.toNat * 2 ^ 8 + src.toNat * 2 ^ 20 + tid.toNat * 2 ^ 32 + len.toNat * 2 ^ 50
/-- The header slot of a message as a 128-bit number. The layouts of a request and of a collective packet leave no bits for the POISON of R307, which travels beside them (DESIGN CHOICE, log entry 28). -/
def headerSlot : FabMsg → Nat
  | .request op m =>
    headRoute op.opc m.dst m.src m.tid m.len + bit m.bulk * 2 ^ 54 + m.addr.toNat * 2 ^ 56 + m.dstEpoch.toNat * 2 ^ 104 + m.srcEpoch.toNat * 2 ^ 116
  | .response m =>
    headRoute 0x80 m.dst m.src m.tid m.len + m.status.toNat * 2 ^ 56 + m.poison.toNat * 2 ^ 60 + m.dstEpoch.toNat * 2 ^ 104 + m.srcEpoch.toNat * 2 ^ 116
  | .packet k m =>
    headRoute k.opc m.dst m.src m.tid m.dlen + m.coll.toNat * 2 ^ 54 + m.step.toNat * 2 ^ 64 + m.offset.toNat * 2 ^ 80 + m.e.toNat * 2 ^ 106
      + m.srcEpoch.toNat * 2 ^ 116
  | .control t dst src _ de se => headRoute (0xC0 + t.toNat) dst src 0 3 + de.toNat * 2 ^ 104 + se.toNat * 2 ^ 116

/-- Bytes padded with zeros to whole slots (R297). -/
def padSlots (l : List Byte) : List Byte := l ++ List.replicate ((16 - l.length % 16) % 16) 0
/-- The data slots of a message; those of a STORE_NOTIFY end with the notify slot, NOTE and zeros (R301). -/
def dataSlots : FabMsg → List Byte
  | .request .storeNotify m => padSlots m.data ++ toBytes 4 m.note.toNat ++ List.replicate 12 0
  | .request _ m => padSlots m.data
  | .response m => padSlots m.data
  | .packet _ m => padSlots m.data
  | .control _ _ _ p _ _ => padSlots p
/-- The bytes of a message, 16 to a slot. -/
def msgBytes (m : FabMsg) : List Byte := toBytes 16 (headerSlot m) ++ dataSlots m
/-- The 16 bytes of a slot. -/
def slotBytes : Slot → List Byte
  | .null => List.replicate 16 0
  | .part m k => ((msgBytes m ++ List.replicate 16 0).drop (16 * k)).take 16
  | .reserved opc => toBytes 16 opc.toNat

/-! ## LINK messages (R282, R470) -/

/-- LINK_OP of a link message. -/
def linkOp : LinkMsg → Nat
  | .retrain .. => 0x0001
  | .laneMap .. => 0x0002
  | .aligned .. => 0x0003
  | .down .. => 0x0004
  | .spdm .. => 0x0010
  | .ident .. => 0x0011
  | .reserved op => op.toNat
/-- Slot bytes 10 on of a LINK flit. -/
def linkFields : LinkMsg → List Byte
  | .retrain e c l => toBytes 1 e.toNat ++ [0] ++ toBytes 1 c.toNat ++ toBytes 1 l.toNat
  | .laneMap e lanes failed => toBytes 1 e.toNat ++ [0] ++ (lanes ++ List.replicate 8 0).take 8 ++ toBytes 2 failed.toNat
  | .aligned e b next => toBytes 1 e.toNat ++ [0] ++ toBytes 1 b.toNat ++ [0] ++ toBytes 2 next.toNat
  | .down e c => toBytes 1 e.toNat ++ [0] ++ toBytes 1 c.toNat
  | .spdm k n b => toBytes 2 k ++ toBytes 2 n ++ toBytes 2 b.length ++ b
  | .ident serial sup req => List.replicate 6 0 ++ toBytes 8 serial.toNat ++ toBytes 1 (bit sup + 2 * bit req)
  | .reserved _ => []
/-- Whether a LINK_OP is listed; any other is reserved. -/
def linkOpKnown (n : Nat) : Bool := (decide (1 ≤ n) && decide (n ≤ 4)) || n == 0x10 || n == 0x11

/-! ## Flits (R280) -/

/-- `n` bytes from a list, zeros where it is shorter. -/
def fixBytes (n : Nat) (l : List Byte) : List Byte := (l ++ List.replicate n 0).take n

end Sys2Proof.Machine

namespace Sys2Proof

/-- The 8 header bytes of a flit. -/
def Flit.head (f : Flit) : List Byte :=
  toBytes 8 (f.type.toNat + f.seq.toNat * 2 ^ 4 + f.ack.toNat * 2 ^ 16 + Machine.bit f.nak * 2 ^ 28 + Machine.bit f.key * 2 ^ 29 + f.cvc.toNat * 2 ^ 30
    + f.credit.toNat * 2 ^ 32)
/-- Bytes 8 to 247 of a flit before encryption. -/
def Flit.body (f : Flit) : List Byte :=
  Machine.fixBytes 240 (match f.link, f.tag with
    | some m, _ => toBytes 2 (Machine.linkOp m) ++ Machine.linkFields m
    | none, some (t, n) => toBytes 16 t.toNat ++ toBytes 8 n.toNat
    | none, none => f.slots.flatMap Machine.slotBytes)

end Sys2Proof

namespace Sys2Proof.Machine

/-- One bit of the CRC-64. -/
def crc64Bit (c : Nat) : Nat := if 2 ^ 63 ≤ c then (2 * c % 2 ^ 64) ^^^ 0x42F0E1EBA9EA3693 else 2 * c
/-- One byte of the CRC-64. -/
def crc64Byte (c : Nat) (b : Byte) : Nat :=
  crc64Bit (crc64Bit (crc64Bit (crc64Bit (crc64Bit (crc64Bit (crc64Bit (crc64Bit (c ^^^ (b.toNat * 2 ^ 56)))))))))
/-- CRC-64 of ECMA-182: polynomial 0x42F0_E1EB_A9EA_3693, the most significant bit first, from 0 (R280; PRESUMED for order and start, log entry 26). -/
def crc64 (l : List Byte) : Nat := l.foldl crc64Byte 0

/-- Bytes 8 to 247 of a flit as they travel (R280, R288). -/
def flitPayload (f : Flit) : List Byte := if f.cipher.isEmpty then f.body else fixBytes 240 f.cipher
/-- The CRC-64 that a flit must carry. -/
def flitCrc (f : Flit) : BitVec 64 := BitVec.ofNat 64 (crc64 (f.head ++ flitPayload f))
/-- A flit with its CRC, as a port sends it. -/
def flitSealed (f : Flit) : Flit := { f with crc := flitCrc f }
/-- Whether the CRC of a flit that a port has received is right (R281). -/
def flitGood (f : Flit) : Bool := f.crc == flitCrc f

/-- The IV of a tag group: salt and group counter (R288). -/
def gcmIv (salt : BitVec 32) (counter : Nat) : List Byte := toBytes 4 salt.toNat ++ toBytes 8 counter
/-- The key of the direction in which a port sends. -/
def FPort.linkKey (fp : FPort) (p : Nat) : BitVec 256 := Config.linkKey p fp.setup true fp.txKeyNo
/-- The IV of the open group of that direction. -/
def FPort.iv (fp : FPort) (p : Nat) : List Byte := gcmIv (Config.linkSalt p fp.setup true) fp.txCounter
/-- A DATA flit as the next of the open group: under a session its slots are encrypted (R288). -/
def FPort.encrypted (fp : FPort) (p : Nat) (f : Flit) : Flit :=
  if fp.session == .up then
    { f with cipher := f.body.zipIdx.map (fun x => x.1 ^^^ Config.gcmStream (fp.linkKey p) (fp.iv p) (240 * fp.groupOut.length + x.2)) }
  else f
/-- The tag of the open group over its headers and ciphertexts (R288). -/
def FPort.groupTag (fp : FPort) (p : Nat) : BitVec 128 :=
  Config.gcmTag (fp.linkKey p) (fp.iv p) (fp.groupOut.flatMap Flit.head) (fp.groupOut.flatMap flitPayload)

/-! ## Corridor frames (R326) -/

/-- One bit of CRC-32C, the least significant bit first. -/
def crcBit (c : Nat) : Nat := if c % 2 == 1 then (c / 2) ^^^ 0x82F63B78 else c / 2
/-- One byte. -/
def crcByte (c : Nat) (b : Byte) : Nat :=
  let x := c ^^^ b.toNat
  crcBit (crcBit (crcBit (crcBit (crcBit (crcBit (crcBit (crcBit x)))))))
/-- CRC-32C (polynomial 0x1EDC_6F41) of a list of bytes (PRESUMED: reflected, all ones in and out, log entry 25). -/
def crc32c (l : List Byte) : Nat := (l.foldl crcByte 0xFFFFFFFF) ^^^ 0xFFFFFFFF

/-- The header and payload of a frame, 40 bytes. -/
def frameBody (f : Frame) : List Byte :=
  toBytes 8 (f.type.toNat + f.origin.toNat * 2 ^ 4 + f.dest.toNat * 2 ^ 16 + bit f.bcast * 2 ^ 28 + f.hops.toNat * 2 ^ 29 + f.seq.toNat * 2 ^ 35)
    ++ fixBytes 32 f.payload
/-- A frame with its CRC, as a node sends it. -/
def frameSealed (f : Frame) : Frame := { f with crc := BitVec.ofNat 32 (crc32c (frameBody f)) }
/-- Whether the CRC of a frame is right. -/
def frameGood (f : Frame) : Bool := f.crc == BitVec.ofNat 32 (crc32c (frameBody f))

end Sys2Proof.Machine
end

