-- ==== Sys2Proof/Machine/Link.lean ====
section
/-!
DEFINITION. The link layer of a fabric port: enabling and training, lane maps and retrains, flits, credit, retry, tag groups, the session, DOWN, and the Roll call events of a port (R277 to R288, R310, R335, R470).
-/
namespace Sys2Proof.Machine

/-- The receive buffer of a virtual channel, in slots (R284). -/
def vcBuffer (vc : Nat) : Nat := [64, 2048, 4096, 8192].getD vc 0

/-- Adds to one place of a list of counts. -/
def vcAdd (l : List Nat) (i n : Nat) : List Nat := l.set i (l.getD i 0 + n)
/-- Takes from one place of a list of counts. -/
def vcSub (l : List Nat) (i n : Nat) : List Nat := l.set i (l.getD i 0 - n)

/-! ## Flits (R280 to R282) -/

/-- Flit TYPE codes: DATA. -/
abbrev fDATA : Nat := 0
/-- IDLE. -/
abbrev fIDLE : Nat := 1
/-- TAG. -/
abbrev fTAG : Nat := 2
/-- LINK. -/
abbrev fLINK : Nat := 3

/-- Whether the lanes of a port stand in low-power idle, which it leaves only to send its Roll calls, and in which it returns no credit: its stack is in Recess, or WAKING, at whose end the credit is returned (R286, R398, R400). -/
def State.lanesIdle (s : State) (p : Nat) : Bool :=
  s.fld F.powerPstateState (stackOfPort p) == 2 || s.fld F.powerPstateState (stackOfPort p) == 3

/-- Whether a port may return credit on a virtual channel (R286). -/
def State.mayReturn (s : State) (p vc : Nat) : Bool :=
  !s.lanesIdle p && !(vc == 3 && s.fld F.fabricStateVc3Withheld p == 1)

/-- The virtual channel whose credit the next header returns: the first that is owed some and may return it. -/
def State.returnVc (s : State) (p : Nat) : Nat :=
  ([0, 1, 2, 3].find? (fun vc => decide (0 < (s.port p).creditOwed.getD vc 0) && s.mayReturn p vc)).getD 0

/-- The highest SEQ that a port acknowledges: the last received in order; a TAG flit, and what follows it, only once its group has verified, since the group may have to be asked for again (R280, R288; DEDUCED, log entry 26). -/
def FPort.ackSeq (fp : FPort) : BitVec 12 :=
  match fp.groupRx.find? (fun f => f.type.toNat == fTAG) with
  | some t => t.seq - 1
  | none => fp.rxSeq - 1

/-- A header for the next flit of a port: what it acknowledges, whether it asks for a resend, and credit that it returns (R280, R281). -/
def State.header (s : State) (p type : Nat) : State × Flit :=
  let fp := s.port p
  let vc := s.returnVc p
  let n := if s.mayReturn p vc then min (fp.creditOwed.getD vc 0) 4095 else 0
  (s.setPort p { fp with nakOut := false, creditOwed := vcSub fp.creditOwed vc n },
    { type := BitVec.ofNat 4 type, seq := fp.txSeq, ack := fp.ackSeq, nak := fp.nakOut, key := fp.txSlot, cvc := BitVec.ofNat 2 vc
      credit := BitVec.ofNat 12 n, slots := [], tag := none, link := none, crc := 0 })

/-- How many DATA flits the open tag group of a port has. -/
def FPort.groupTx (fp : FPort) : Nat := fp.groupOut.length

/-- Sends a DATA or TAG flit with its CRC; it takes a SEQ and stays in the retry buffer until it is acknowledged. -/
def State.sendSeq (s : State) (p type : Nat) (slots : List Slot) (tag : Option (BitVec 128 × BitVec 64)) : State :=
  let (s, f) := s.header p type
  let fp := s.port p
  let f := { f with slots := slots, tag := tag }
  let f := flitSealed (if type == fDATA then fp.encrypted p f else f)
  (s.setPort p { fp with txSeq := fp.txSeq + 1, retry := fp.retry ++ [f] }).emit (.flit (Fin.ofNat 16 p) f)

/-- Sends a LINK flit, and remembers a message that is repeated until it is answered (R280, R282). -/
def State.sendLink (s : State) (p : Nat) (m : LinkMsg) (repeated : Bool) : State :=
  let s := if repeated then s.setPort p { s.port p with repeats := (s.port p).repeats ++ [m] } else s
  let (s, f) := s.header p fLINK
  s.emit (.flit (Fin.ofNat 16 p) (flitSealed { f with seq := 0, link := some m }))

/-- What the TAG flit of a port's open group carries: its tag and its counter (R288). -/
def FPort.tagOf (fp : FPort) (p : Nat) : Option (BitVec 128 × BitVec 64) := some (fp.groupTag p, BitVec.ofNat 64 fp.txCounter)

/-- The open group ends; the next one has the next counter (R288). -/
def FPort.nextGroup (fp : FPort) : FPort := { fp with groupOut := [], txCounter := fp.txCounter + 1 }

/-- The end of a tag group: its TAG flit is sent (R288). -/
def State.closeGroup (s : State) (p : Nat) : State :=
  let fp := s.port p
  if fp.session = .up && fp.groupTx != 0 then
    let s := s.sendSeq p fTAG [] (fp.tagOf p)
    s.setPort p (s.port p).nextGroup
  else s

/-- A DATA flit that has been sent joins the open group of a session (R288). -/
def State.joinGroup (s : State) (p : Nat) (f : Flit) : State :=
  if (s.port p).session = .up then s.setPort p { s.port p with groupOut := (s.port p).groupOut ++ [f] } else s

/-- Sends one DATA flit; under a session a group closes at 31 flits (R288). -/
def State.sendData (s : State) (p : Nat) (slots : List Slot) : State :=
  let s := s.sendSeq p fDATA slots none
  let fp := s.port p
  let s := match fp.retry.getLast? with | some f => s.joinGroup p f | none => s
  if (s.port p).groupTx ≥ 31 then s.closeGroup p else s

/-! ## Acknowledgement and resends (R281, R288) -/

/-- How many flits at the front of a retry buffer have a SEQ up to `ack`; a SEQ outside the buffer acknowledges none. -/
def ackedCount (ack : BitVec 12) : List Flit → Nat
  | [] => 0
  | f :: t => let n := (ack + 1 - f.seq).toNat; if n ≤ t.length + 1 then n else 0

/-- The length of a list of flits up to its last TAG flit. -/
def wholeGroups (l : List Flit) : Nat := l.length - (l.reverse.takeWhile (fun f => f.type.toNat != fTAG)).length

/-- Flits with a SEQ up to `ack` are acknowledged and leave the retry buffer; under a session those of a group stay until its TAG flit is acknowledged, for the group may be asked for again from its first SEQ (R281, R288). -/
def FPort.ackTo (fp : FPort) (ack : BitVec 12) : FPort :=
  let n := ackedCount ack fp.retry
  let m := if fp.session = .up then wholeGroups (fp.retry.take n) else n
  { fp with retry := fp.retry.drop m, acked := n - m }

/-- Flits are encrypted anew in groups with new counters, and sent: those that a list holds (R288). -/
def State.recrypt (s : State) (p : Nat) : List Flit → State × List Flit
  | [] => (s, [])
  | f :: t =>
    let fp := s.port p
    let g := flitSealed (if f.type.toNat == fTAG then { f with tag := fp.tagOf p } else fp.encrypted p f)
    let s := (if f.type.toNat == fTAG then s.setPort p fp.nextGroup else s.joinGroup p g).emit (.flit (Fin.ofNat 16 p) g)
    let r := State.recrypt s p t
    (r.1, g :: r.2)

/-- Resends every flit of a retry buffer but the first `k`, in order, each with the header it had (R281). Under a session flits from the start of a group on take new counters, so that no IV is used twice under one key; from within a group they go as they were, for the partner holds the group's first flits (R288; DEDUCED, log entry 26). -/
def State.resendAfter (s : State) (p k : Nat) : State :=
  let fp := s.port p
  let l := fp.retry.drop k
  let s := s.bumpSat F.fabricRetriesCount p 0 l.length
  if fp.session = .up && wholeGroups (fp.retry.take k) == k then
    let s := if fp.groupTx != 0 then s.setPort p (s.port p).nextGroup else s
    let r := s.recrypt p l
    r.1.setPort p { r.1.port p with retry := fp.retry.take k ++ r.2 }
  else s.each l (fun s f => s.emit (.flit (Fin.ofNat 16 p) f))

/-- Resends every flit that has not been acknowledged. -/
def State.resendAll (s : State) (p : Nat) : State := s.resendAfter p (s.port p).acked

/-! ## Roll call events (R335) -/

/-- The SUBJECT of a PARTNER entry of the Diary (R482). -/
def State.partnerSubject (s : State) (p : Nat) : Nat :=
  p + s.fld F.fabricPartnerSeat p * 2 ^ 16 + s.fld F.fabricPartnerEpoch p * 2 ^ 28

/-- ORIGIN of what came over Lummir (R483). -/
abbrev originLummir : Nat := 9
/-- ORIGIN of what came over the Corridor. -/
abbrev originCorridor : Nat := 8

/-- A Roll call event of a port: its bit, and a Diary entry. -/
def State.rollEvent (s : State) (p : Nat) (f : RegField) (k : DiaryKind) : State :=
  (s.setFld f p 0 1).diary originLummir k (s.partnerSubject p) (s.reg .fabricPartnerSerial p)

/-- A SECURITY event of a port, and the Diary entry of a session that failed (R470, R481, R482). -/
def State.sessionFailed (s : State) (p : Nat) : State :=
  (s.eventOther true .fabric p 0x008).diary originLummir .session p (s.port p).partnerSerial.toNat

/-! ## Leaving UP (R279, R310) -/

/-- The tracker entries whose requests a port holds: unacknowledged in its retry buffer, or not yet sent. -/
def FPort.tids (fp : FPort) : List Nat :=
  ((fp.retry.drop fp.acked).flatMap Flit.msgs ++ fp.txq.map (fun x => x.2)).filterMap (fun m =>
    match m with
    | .request _ r => some r.tid.toNat
    | .packet _ k => some k.tid.toNat
    | _ => none)

/-- A port leaves UP: its unacknowledged requests complete with LINK_DOWN, its partner has left, and its link layer starts afresh (R310, R335). -/
def State.leaveUp (s : State) (p link : Nat) : State :=
  let tids := (s.port p).tids
  let was := s.link p
  let s := (s.setFld F.fabricStateLink p 0 link).setFld F.fabricStateEncrypted p 0 0
  let s := s.setPort p FPort.init
  if was == lUP || was == lRETRAINING then
    let s := s.rollEvent p F.fabricRollEventsLeft .partnerLeft
    let s := (s.setFld F.fabricRollStateState p 0 0).setFld F.fabricRollStateMissed p 0 0
    (s.each tids (fun s t => s.completeTid t fLINK_DOWN)).retryHeld
  else s

/-- Causes of DOWN (R282). -/
abbrev dLANES : Nat := 0
/-- Three retrains failed. -/
abbrev dRETRAINS : Nat := 1
/-- A protocol error. -/
abbrev dPROTOCOL : Nat := 2
/-- Disabled. -/
abbrev dDISABLED : Nat := 3
/-- Security. -/
abbrev dSECURITY : Nat := 4

/-- A port enters DOWN: the partner is told, and the error is recorded (R279, R282, R444). A port that is DISABLED or DOWN stays as it is. R444 lists causes 0 to 2: a cause of security, or one that is reserved, is recorded as a protocol error (DESIGN CHOICE, log entry 26). -/
def State.goDown (s : State) (p cause : Nat) (tell : Bool) : State :=
  if s.link p == lDISABLED || s.link p == lDOWN then s
  else
    let e := (s.port p).trainEpoch
    let m := LinkMsg.down e (BitVec.ofNat 8 cause)
    let s := if tell then ((s.sendLink p m false).sendLink p m false).sendLink p m false else s
    let s := s.setFld F.fabricStateProtocolError p 0 (bit (cause == dPROTOCOL))
    let s := if cause == dDISABLED then s else s.logError .fabric p uncorrected 0x011 (min cause dPROTOCOL) 0
    s.leaveUp p lDOWN

/-- A protocol error (R279). -/
def State.protocolError (s : State) (p : Nat) : State := s.goDown p dPROTOCOL true

/-- Clearing ENABLE takes the port to DISABLED at once (R277, R310). -/
def State.portDisable (s : State) (p : Nat) : State :=
  let s := s.setFld F.fabricCtrlEnable p 0 0
  if s.link p == lDISABLED then s
  else
    let m := LinkMsg.down (s.port p).trainEpoch (BitVec.ofNat 8 dDISABLED)
    let s := if s.link p == lDOWN then s else ((s.sendLink p m false).sendLink p m false).sendLink p m false
    s.leaveUp p lDISABLED

/-! ## Training (R277, R282) -/

/-- Setting ENABLE from 0 starts a full training (R277, R279). -/
def State.portEnable (s : State) (p : Nat) : State :=
  if s.fld F.fabricCtrlEnable p == 1 then s
  else
    let s := (s.setFld F.fabricCtrlEnable p 0 1).setFld F.fabricStateLink p 0 lTRAINING
    let s := (s.setFld F.fabricStateSpareInUse p 0 0).setFld F.fabricStateFailedLane p 0 0xF
    s.setPort p FPort.init

/-- The lane map that a port asks for: each logical lane on its own physical lane, a failed one on the spare, lane 8 (R277, R282). -/
def State.laneMapOf (s : State) (p : Nat) : LinkMsg :=
  let f := s.fld F.fabricStateFailedLane p
  .laneMap (s.port p).trainEpoch ((List.range 8).map (fun k => if k == f then (8 : BitVec 8) else BitVec.ofNat 8 k))
    (if f ≤ 8 then BitVec.ofNat 16 (2 ^ f) else 0)

/-- A port sends its own LANE_MAP. -/
def State.sendLaneMap (s : State) (p : Nat) : State :=
  let s := s.sendLink p (s.laneMapOf p) true
  s.setPort p { s.port p with mapSent := true }

/-- A lane is taken out of use; it moves onto the spare where it is not the spare itself (R277). -/
def State.moveLane (s : State) (p lane : Nat) : State :=
  (s.setFld F.fabricStateFailedLane p 0 lane).setFld F.fabricStateSpareInUse p 0 (bit (lane < 8))

/-- Whether the spare lane can take a failing lane. -/
def State.spareFree (s : State) (p : Nat) : Bool := s.fld F.fabricStateFailedLane p == 0xF

/-- A port reaches UP from training: the partner's buffers are empty, and IDENT is sent before any other message (R277, R284, R470). -/
def State.trained (s : State) (p : Nat) : State :=
  let s := s.setFld F.fabricStateLink p 0 lUP
  let s := s.setPort p { s.port p with credit := [0, 1, 2, 3].map vcBuffer, session := .identSent, rollSent := false, rollPresent := false }
  s.sendLink p (.ident (BitVec.ofNat 64 (s.reg .proctorSerial)) true (s.fld F.secPolicyLummirEnc == 1)) false

/-- The end of the exchange of lane maps and alignment, once this receiver has lock and the partner's ALIGNED has come: a training reaches UP, and so does a retrain, after which what the partner has not received is sent again (R278, R282). -/
def State.endExchange (s : State) (p : Nat) : State :=
  let fp := s.port p
  if fp.lockDone && fp.actedOps.elem 3 then
    if s.link p == lTRAINING then s.trained p
    else if s.link p == lRETRAINING then
      let s := (s.setFld F.fabricStateLink p 0 lUP).setPort p { fp with retrainFails := 0 }
      s.resendAfter p (ackedCount (fp.resumeAt - 1) fp.retry)
    else s
  else s

/-- PORT_TRAINING_COMPLETE: the lanes have been tested. Two failed ones take the port to DOWN, one is mapped onto the spare; this end asks for its map, and the port is UP once the exchange of R282 is over (R277). -/
def portTrainingComplete (s : State) (p : Nat) (failed : List (Fin 9)) : State :=
  if s.link p != lTRAINING then s
  else if 2 ≤ failed.dedup.length then s.goDown p dLANES true
  else if (s.port p).mapSent then s.endExchange p
  else
    let s := s.each failed.dedup (fun s f => s.moveLane p f.val)
    (s.sendLaneMap p).endExchange p

/-! ## Retrains (R278, R282) -/

/-- A retrain begins in a new EPOCH, and counts. -/
def State.beginRetrain (s : State) (p : Nat) (epoch : BitVec 8) : State :=
  let s := (s.bump F.fabricRetrainsCount p 0 1).setFld F.fabricStateLink p 0 lRETRAINING
  s.setPort p { s.port p with trainEpoch := epoch, repeats := [], actedOps := [], mapSent := false, lockDone := false }

/-- This end asks for a retrain (R278, R282). -/
def State.askRetrain (s : State) (p : Nat) (cause lane : BitVec 8) : State :=
  let e := (s.port p).trainEpoch + 1
  (s.beginRetrain p e).sendLink p (.retrain e cause lane) true

/-- LANE_FAILING: a receiver of a port that is UP or RETRAINING detects a cause of R278. Causes 0 and 3 name a lane: it moves onto the spare, or the port goes DOWN where the spare is in use (R279). The lane that the spare already stands for is in use no longer. -/
def laneFailing (s : State) (p : Nat) (cause lane : Nat) : State :=
  if s.link p != lUP && s.link p != lRETRAINING then s
  else if cause == 0 || cause == 3 then
    if s.spareFree p then (s.moveLane p lane).askRetrain p (BitVec.ofNat 8 cause) (BitVec.ofNat 8 lane)
    else if s.fld F.fabricStateFailedLane p == lane then s
    else s.goDown p dLANES true
  else if s.link p != lUP then s
  else
    let s := if cause == 2 then s.bumpSat F.fabricFecUncorrectedCount p 0 1 else s
    s.askRetrain p (BitVec.ofNat 8 cause) 0xFF

/-- The messages of a kind are answered, and repeated no more (R282). -/
def State.answered (s : State) (p op : Nat) : State :=
  s.setPort p { s.port p with repeats := (s.port p).repeats.filter (fun m => linkOp m != op) }

/-- Whether a link message of an EPOCH has not yet been acted on. -/
def FPort.fresh (fp : FPort) (op : Nat) (epoch : BitVec 8) : Bool := epoch == fp.trainEpoch && !fp.actedOps.elem op

/-- RETRAIN: the partner asks for a retrain. This end joins it, in the EPOCH of the message, and answers with its own lane map (R282). -/
def retrainReceived (s : State) (p : Nat) (epoch : BitVec 8) : State :=
  if s.link p == lUP || s.link p == lRETRAINING then
    let fp := s.port p
    if epoch == fp.trainEpoch && (s.link p == lUP || fp.actedOps.elem 1) then s
    else
      let s := if epoch == fp.trainEpoch then s else s.beginRetrain p epoch
      let s := s.setPort p { s.port p with actedOps := 1 :: (s.port p).actedOps }
      if (s.port p).mapSent then s else s.sendLaneMap p
  else s

/-- LANE_MAP: the transmitter moves to the given map, and in a retrain this end sends its own map if it has not; in a training it does so once its lanes are tested (R277, R282). -/
def laneMapReceived (s : State) (p : Nat) (epoch : BitVec 8) (lanes : List (BitVec 8)) : State :=
  if (s.link p == lTRAINING || s.link p == lRETRAINING) && (s.port p).fresh 2 epoch then
    let fp := s.port p
    let s := (s.setPort p { fp with lanes := lanes, actedOps := 2 :: fp.actedOps }).answered p 1
    if fp.mapSent || s.link p == lTRAINING then s else s.sendLaneMap p
  else s

/-- ALIGNED: the partner's receiver has alignment and lock. Once the link is UP the transmitter resends from the SEQ it gives (R278, R282). -/
def alignedReceived (s : State) (p : Nat) (epoch bits' : BitVec 8) (next : BitVec 12) : State :=
  if (s.link p == lTRAINING || s.link p == lRETRAINING) && (s.port p).fresh 3 epoch && bits'.getLsbD 0 && bits'.getLsbD 1 then
    ((s.setPort p { s.port p with actedOps := 3 :: (s.port p).actedOps, resumeAt := next }).answered p 2).endExchange p
  else s

/-- ALIGNMENT_AND_FEC_LOCK: this receiver has both on the map that it sent, and says so with the next SEQ that it expects (R282). -/
def alignmentAndFecLock (s : State) (p : Nat) (next : BitVec 12) : State :=
  let fp := s.port p
  if (s.link p == lTRAINING || s.link p == lRETRAINING) && fp.mapSent && !fp.lockDone && next == fp.rxSeq then
    let s := s.setPort p { fp with lockDone := true }
    (s.sendLink p (.aligned fp.trainEpoch 3 next) true).endExchange p
  else s

/-- LINK_MESSAGE_REPEAT: each RETRAIN, LANE_MAP or ALIGNED that is unanswered is sent again (R282). -/
def linkMessageRepeat (s : State) (p : Nat) : State := s.each (s.port p).repeats (fun s m => s.sendLink p m false)

/-- RETRAIN_TIMEOUT: 20 µs have passed without UP. The third in a row takes the port DOWN; otherwise a new retrain starts (R278, R279). -/
def retrainTimeout (s : State) (p : Nat) : State :=
  if s.link p != lRETRAINING then s
  else
    let n := (s.port p).retrainFails + 1
    if n ≥ 3 then s.goDown p dRETRAINS true
    else
      (s.setPort p { s.port p with retrainFails := n }).askRetrain p 3 0xFF

/-- DOWN: the partner takes the link down, and so this end too (R282). -/
def downReceived (s : State) (p cause : Nat) : State := s.goDown p cause false

/-! ## SPDM messages on a link (R466, R470) -/

/-- The bytes of an SPDM message: version 1.3, its code, two parameters, and what follows (PRESUMED, log entry 31: the layout and the codes of SPDM 1.3). -/
def spdmBytes (code : Nat) (payload : List Byte) : List Byte := [0x13, BitVec.ofNat 8 code, 0, 0] ++ payload

/-- An SPDM message leaves on a link in fragments of up to 232 bytes (R470). -/
def State.sendSpdm (s : State) (p code : Nat) (payload : List Byte) : State :=
  let b := spdmBytes code payload
  let n := (b.length + 231) / 232
  s.each (List.range n) (fun s k => s.sendLink p (.spdm k n ((b.drop (232 * k)).take 232)) false)

/-- The module asks its partner on a link. -/
def State.askSpdm (s : State) (p code : Nat) : State :=
  let s := { s with freeNext := s.freeNext + 1 }
  (s.setPort p { s.port p with asked := code }).sendSpdm p code (Config.spdmRequest (s.freeNext - 1) code)

/-- SPDM request codes: GET_VERSION. -/
abbrev rGET_VERSION : Nat := 0x84
/-- KEY_UPDATE. -/
abbrev rKEY_UPDATE : Nat := 0xE9
/-- FINISH. -/
abbrev rFINISH : Nat := 0xE5
/-- GET_CERTIFICATE. -/
abbrev rGET_CERTIFICATE : Nat := 0x82

/-- The request that follows an answered one as a link session is set up: GET_VERSION, GET_CAPABILITIES, NEGOTIATE_ALGORITHMS, GET_DIGESTS, GET_CERTIFICATE, KEY_EXCHANGE, FINISH. -/
def nextRequest (code : Nat) : Option Nat :=
  match code with
  | 0x84 => some 0xE1
  | 0xE1 => some 0xE3
  | 0xE3 => some 0x81
  | 0x81 => some 0x82
  | 0x82 => some 0xE4
  | 0xE4 => some 0xE5
  | _ => none

/-! ## The session (R277, R288, R470) -/

/-- The session of a port is up: both directions use key slot 0, from group counter 0, under keys of their own (R470). -/
def State.sessionUp (s : State) (p : Nat) : State :=
  let fp := s.port p
  let s := s.setPort p { fp with
    session := .up, txSlot := false, rxSlot := false, txCounter := 0, rxCounter := 0, groupOut := [], groupRx := []
    setup := s.freeNext, txKeyNo := 0, rxKeyNo := 0, rxNext := false }
  let s := { s with freeNext := s.freeNext + 1 }
  (s.setFld F.fabricStateEncrypted p 0 1).diary originLummir .session (p + 2 ^ 8) fp.partnerSerial.toNat

/-- IDENT: whether a session is set up, the port taken DOWN, or traffic goes in clear. This module supports link encryption, and asks first where its SERIAL is the smaller (R334, R470). -/
def identReceived (s : State) (p : Nat) (serial : Word) (supported required : Bool) : State :=
  let mine := s.fld F.secPolicyLummirEnc == 1
  if s.link p == lUP && (s.port p).session = .identSent then
    let s := s.setPort p { s.port p with partnerSerial := serial }
    if mine && !supported then (s.sessionFailed p).protocolError p
    else if (mine || required) && supported then
      let s := s.setPort p { s.port p with session := .required }
      if s.reg .proctorSerial < serial.toNat then s.askSpdm p rGET_VERSION else s
    else s.setPort p { s.port p with session := .skipped }
  else s

/-- SESSION_SETUP_TIMEOUT: no session within 20 ms of UP (R470). -/
def sessionSetupTimeout (s : State) (p : Nat) : State :=
  let fp := s.port p
  if (s.link p == lUP || s.link p == lRETRAINING) && (fp.session = .identSent || fp.session = .required) then
    (s.sessionFailed p).goDown p dSECURITY true
  else s

/-- The group counter at which a direction is re-keyed (R470). -/
abbrev rekeyAt : Nat := 2 ^ 47
/-- The group counter at which a port goes DOWN (R288). -/
abbrev counterEnd : Nat := 2 ^ 48

/-- A new key stands in the idle slot of the direction in which a port receives; it takes effect with the first group whose KEY names it (R288). -/
def State.installRx (s : State) (p : Nat) : State := s.setPort p { s.port p with rxNext := true }

/-- LINK_REKEY: at 2^47 groups the sender of a direction tells its partner by KEY_UPDATE and takes the key of its idle slot, at a group boundary; the receiver has the new key in its idle slot (R288, R470). -/
def linkRekey (s : State) (p : Nat) (tx : Bool) : State :=
  if (s.port p).session != .up then s
  else if tx then
    if (s.port p).txCounter < rekeyAt then s
    else
      let s := (s.askSpdm p rKEY_UPDATE).closeGroup p
      s.setPort p { s.port p with txSlot := !(s.port p).txSlot, txCounter := 0, txKeyNo := (s.port p).txKeyNo + 1 }
  else if (s.port p).rxCounter < rekeyAt then s
  else s.installRx p

/-- A port whose group counter reaches 2^48 under one key enters DOWN (R288). -/
def State.counterCheck (s : State) (p : Nat) : State :=
  if (s.port p).txCounter ≥ counterEnd || (s.port p).rxCounter ≥ counterEnd then s.goDown p dSECURITY true else s

/-- TAG_GROUP_CLOSE: 16 ns have passed since the first flit of the open group (R288). -/
def tagGroupClose (s : State) (p : Nat) : State :=
  if s.link p == lUP then (s.closeGroup p).counterCheck p else s

/-! ## Sending (R284, R285) -/

/-- Whether the session of a port lets messages through. -/
def FPort.sessionOpen (fp : FPort) : Bool := fp.session == .up || fp.session == .skipped
/-- Whether the first Roll call exchange is over (R277). -/
def FPort.rollDone (fp : FPort) : Bool := fp.rollSent && fp.rollPresent

/-- Whether the retry buffer of 512 flits has room for `n` slots, with the TAG flits that they bring under a session (R276, R281). -/
def FPort.room (fp : FPort) (n : Nat) : Bool :=
  let k := (n + 14) / 15
  decide (fp.retry.length + k + (if fp.session = .up then (fp.groupTx + k + 30) / 31 else 0) ≤ 512)

/-- The first message of a virtual channel that may go after `done` slots: it has credit for all its slots and room in the retry buffer, and until the Roll call exchange only Roll calls go. -/
def FPort.ready (fp : FPort) (done : Nat) (vc : Fin 4) : Option FabMsg :=
  match fp.txq.find? (fun x => x.1 == vc && (fp.rollDone || x.2.isRollCall)) with
  | some (_, m) => if m.slots ≤ fp.credit.getD vc.val 0 && fp.room (done + m.slots) then some m else none
  | none => none

/-- The weight of VC1 to VC3 (R285). -/
def State.vcWeight (s : State) (p vc : Nat) : Nat := bits (s.reg .fabricVcWeight p) (8 * (vc - 1)) 8

/-- Deficit round robin over VC1 to VC3: the first ready channel whose deficit covers its message, after as many rounds as it takes; a message has at most 17 slots (R283, R285). -/
def State.drr (s : State) (p done : Nat) (fp : FPort) : Nat → Option (Fin 4 × FabMsg × List Nat)
  | 0 => none
  | n + 1 =>
    let cand : List (Fin 4 × FabMsg) := [(1 : Fin 4), 2, 3].filterMap (fun vc => (fp.ready done vc).map (fun m => (vc, m)))
    match cand.find? (fun c => decide (c.2.slots ≤ fp.deficit.getD c.1.val 0)) with
    | some (vc, m) => some (vc, m, vcSub fp.deficit vc.val m.slots)
    | none =>
      if cand.isEmpty then none
      else State.drr s p done { fp with deficit := cand.foldl (fun (d : List Nat) (c : Fin 4 × FabMsg) => vcAdd d c.1.val (s.vcWeight p c.1.val)) fp.deficit } n

/-- The next message after `done` slots, and the deficits after it: VC0 first (R285). From low-power idle only Roll calls go (R398). A channel with nothing waiting keeps no deficit. -/
def State.pickAfter (s : State) (p done : Nat) : Option (Fin 4 × FabMsg × List Nat) :=
  let fp := s.port p
  let fp := { fp with
    deficit := fp.deficit.zipIdx.map (fun (x : Nat × Nat) => if fp.txq.any (fun y => y.1.val == x.2) then x.1 else 0)
    rollPresent := fp.rollPresent && !s.lanesIdle p }
  match fp.ready done 0 with
  | some m => some (0, m, fp.deficit)
  | none => s.drr p done fp 18
/-- The message that goes first in a flit. -/
def State.pick (s : State) (p : Nat) : Option (Fin 4 × FabMsg × List Nat) := s.pickAfter p 0

/-- Takes the first message of a virtual channel that equals `m` out of a queue. -/
def dequeue (vc : Fin 4) (m : FabMsg) : List (Fin 4 × FabMsg) → List (Fin 4 × FabMsg)
  | [] => []
  | x :: t => if x == (vc, m) then t else x :: dequeue vc m t

/-- A message leaves its queue, and its slots' credit is spent (R284). -/
def State.takeMsg (s : State) (p : Nat) (vc : Fin 4) (m : FabMsg) (d : List Nat) : State :=
  let fp := s.port p
  (s.setPort p { fp with txq := dequeue vc m fp.txq, credit := vcSub fp.credit vc.val m.slots, deficit := d }).bump F.fabricTxSlotsCount p vc.val m.slots

/-- While the last flit has slots free and a message may go, that message follows in the next slots (R283, R285). -/
def State.packMore (s : State) (p : Nat) : Nat → List Slot → State × List Slot
  | 0, acc => (s, acc)
  | n + 1, acc =>
    if acc.length % 15 = 0 then (s, acc)
    else
      match s.pickAfter p acc.length with
      | none => (s, acc)
      | some (vc, m, d) => State.packMore (s.takeMsg p vc m d) p n (acc ++ m.parts)

/-- Slots are sent, 15 to a flit, the last flit filled up with NULL (R283). -/
def State.sendSlots (s : State) (p : Nat) (l : List Slot) : State :=
  s.each (List.range ((l.length + 14) / 15)) (fun s k => s.sendData p (((l.drop (15 * k)) ++ List.replicate 14 Slot.null).take 15))

/-- MESSAGE_SEND: the chosen message is sent whole, and others follow it in the slots that its last flit has free; with none to send, an IDLE flit returns credit and acknowledgements (R280, R283, R285). -/
def messageSend (s : State) (p : Nat) : State :=
  if s.link p != lUP then s
  else
    match (if (s.port p).sessionOpen then s.pick p else none) with
    | some (vc, m, d) =>
      let r := (s.takeMsg p vc m d).packMore p (s.port p).txq.length m.parts
      (r.1.sendSlots p r.2).counterCheck p
    | none =>
      if s.lanesIdle p then s else
      let (s, f) := s.header p fIDLE
      s.emit (.flit (Fin.ofNat 16 p) (flitSealed { f with seq := 0 }))

/-- NAK_RESEND: the partner asks for every flit after `ack` (R281). -/
def nakResend (s : State) (p : Nat) (ack : BitVec 12) : State :=
  if s.link p == lUP then (s.setPort p ((s.port p).ackTo ack)).resendAll p else s

/-! ## The commands -/

/-- PORT_TRAINING_COMPLETE (R277). -/
def execPortTrainingComplete (p : Port) (failed : List (Fin 9)) (s : State) : Host.Outcome State Fault Refusal := .next (portTrainingComplete s p failed)
/-- LANE_FAILING (R278). -/
def execLaneFailing (p : Port) (cause : BitVec 8) (lane : Fin 9) (s : State) : Host.Outcome State Fault Refusal := .next (laneFailing s p cause.toNat lane)
/-- RETRAIN (R282). -/
def execRetrain (p : Port) (epoch _cause _lane : BitVec 8) (s : State) : Host.Outcome State Fault Refusal := .next (retrainReceived s p epoch)
/-- LANE_MAP (R282). -/
def execLaneMap (p : Port) (epoch : BitVec 8) (lanes : List (BitVec 8)) (_failed : BitVec 16) (s : State) : Host.Outcome State Fault Refusal :=
  .next (laneMapReceived s p epoch lanes)
/-- ALIGNED (R282). -/
def execAligned (p : Port) (epoch bits : BitVec 8) (next : BitVec 12) (s : State) : Host.Outcome State Fault Refusal := .next (alignedReceived s p epoch bits next)
/-- DOWN (R282). -/
def execDown (p : Port) (cause : BitVec 8) (s : State) : Host.Outcome State Fault Refusal := .next (downReceived s p cause.toNat)
/-- LINK_MESSAGE_REPEAT (R282). -/
def execLinkMessageRepeat (p : Port) (s : State) : Host.Outcome State Fault Refusal := .next (linkMessageRepeat s p)
/-- RETRAIN_TIMEOUT (R279). -/
def execRetrainTimeout (p : Port) (s : State) : Host.Outcome State Fault Refusal := .next (retrainTimeout s p)
/-- NAK_RESEND (R281). -/
def execNakResend (p : Port) (ack : BitVec 12) (s : State) : Host.Outcome State Fault Refusal := .next (nakResend s p ack)
/-- MESSAGE_SEND (R285). -/
def execMessageSend (p : Port) (s : State) : Host.Outcome State Fault Refusal := .next (messageSend s p)
/-- TAG_GROUP_CLOSE (R288). -/
def execTagGroupClose (p : Port) (s : State) : Host.Outcome State Fault Refusal := .next (tagGroupClose s p)
/-- ALIGNMENT_AND_FEC_LOCK (R282). -/
def execAlignmentAndFecLock (p : Port) (next : BitVec 12) (s : State) : Host.Outcome State Fault Refusal := .next (alignmentAndFecLock s p next)
/-- IDENT (R470). -/
def execIdent (p : Port) (serial : Word) (supported required : Bool) (s : State) : Host.Outcome State Fault Refusal := .next (identReceived s p serial supported required)
/-- SESSION_SETUP_TIMEOUT (R470). -/
def execSessionSetupTimeout (p : Port) (s : State) : Host.Outcome State Fault Refusal := .next (sessionSetupTimeout s p)
/-- LINK_REKEY (R470). -/
def execLinkRekey (p : Port) (tx : Bool) (s : State) : Host.Outcome State Fault Refusal := .next (linkRekey s p tx)

end Sys2Proof.Machine
end

