-- ==== Sys2Proof/Machine/Scalar.lean ====
section
/-!
DEFINITION. The scalar rows: ALU operations, loads and stores, branches, FENCE, HALT, TRAP, the tile-register moves, and the returns and waits that complete them (R90 to R116).
-/
namespace Sys2Proof.Machine

/-- The outcome of every command of this block: it goes on. -/
abbrev go (s : State) : Host.Outcome State Fault Refusal := .next s

/-- Issues an operation with the other slot of its bundle (R93, R105). -/
def issue (b : Issue) (o : Op) (s : State) : State := issueBundle s b.at' (bundleOf b o)
/-- Issues an LI bundle (R104). -/
def issueLi (at' : ThreadRef) (o : Op) (s : State) : State := issueBundle s at' (liBundle o)

/-! ## The data of LDX and STX (R97, R98, R113) -/

/-- Whether an earlier access of the same thread to the same bytes is still outstanding (R97). -/
def Core.accessBehind (c : Core) (o : Outst) : Bool :=
  c.outst.any (fun e => e.thread == o.thread && (e.seq < o.seq || (e.seq == o.seq && !e.slotB && o.slotB))
    && decide (e.addr < o.addr + o.bytes) && decide (o.addr < e.addr + e.bytes))

/-- Whether the home slice of an access can serve it now: its stack answers and the sector is not being fetched. -/
def State.sliceReady (s : State) (a : Nat) : Bool :=
  !s.outOfService (addrStack a) && !NatSet.has (s.slice (homeSlice a)).fetching (a / 32)

/-- An outstanding access that may complete now. -/
def State.accessDue (s : State) (c : CoreId) (id : Nat) (load : Bool) : Option Outst :=
  let co := s.core c
  match co.outst.find? (fun o => o.id == id) with
  | some o => if o.isLoad == load && !co.accessBehind o && s.sliceReady o.addr then some o else none
  | none => none

/-- An outstanding-access entry is freed. -/
def State.freeAccess (s : State) (c : CoreId) (id : Nat) : State :=
  let co := s.core c
  s.setCore c { co with outst := co.outst.filter (fun o => o.id != id) }

/-- A thread that waits for a register or a queue entry is ready again. -/
def Thread.wake (t : Thread) : Thread :=
  if t.state = .waitReg ∨ t.state = .waitQueue then { t with state := .ready } else t

/-- LDX_RETURN: the data of an LDX return and are written to its register, or POISON is raised (R98, R113, R220). -/
def ldxReturn (s : State) (c : CoreId) (id : Nat) : State :=
  match s.accessDue c id true with
  | none => s
  | some o =>
    let lost := s.hallwayDown (stackOfCore c) (addrStack o.addr)
    let (s, data, bad) := s.memRead 0 o.addr o.bytes
    let s := (s.freeAccess c id).countHallway (addrStack o.addr) (stackOfCore c) o.bytes
    if bad || lost then s.raise c o.seq ⟨o.thread, o.pc, o.slotB, false, cPOISON, o.addr⟩
    else s.onThread c o.thread (fun t => (t.wx o.rd (BitVec.ofNat 64 (ofBytes data))).wake)

/-- STX_ACCEPTED: the write of an STX is accepted at its home slice (R97, R98). -/
def stxAccepted (s : State) (c : CoreId) (id : Nat) : State :=
  match s.accessDue c id false with
  | none => s
  | some o =>
    let s := (s.memWrite 0 o.addr (toBytes o.bytes o.data.toNat) false).countHallway (stackOfCore c) (addrStack o.addr) o.bytes
    (s.freeAccess c id).onThread c o.thread Thread.wake

/-! ## FENCE, fetch faults and illegal bundles -/

/-- FENCE_COMPLETE: every earlier memory write of a waiting thread has landed; a thread on its way to a Bell arrives there (R97, R176). A thread of a lesson that is being stopped goes no further (R116). -/
def fenceComplete (s : State) (c : CoreId) (n : Fin 16) : State :=
  let s := s.takeReleases c
  let co := s.core c
  let t := co.thread n
  match co.stage with
  | none => s
  | some g =>
    if t.state = .waitFence ∧ co.fenceClear g n ∧ !(s.cluster (clusterOfCore c)).stopping ∧ !s.outOfService (stackOfCore c) then
      match t.waitBell with
      | some (group, xa) => bellArrive (s.onThread c n (fun t => { t with state := .waitBell })) c n group xa
      | none => s.onThread c n (fun t => { t with state := .ready })
    else s

/-- Whether a thread of a running stage would fetch its next bundle. -/
def State.fetches (s : State) (c : CoreId) (n : Fin 16) : Bool :=
  let co := s.core c
  let t := co.thread n
  match co.stage with
  | none => false
  | some g => !g.loading && !(s.cluster (clusterOfCore c)).stopping && !s.outOfService (stackOfCore c)
      && (t.state == .ready || t.state == .waitReg || t.state == .waitQueue)

/-- FETCH_PAST_RANGE: a thread runs sequentially past its range, or the instruction store has an uncorrectable error at its PC (R109, R113, R437). -/
def fetchPastRange (s : State) (c : CoreId) (n : Fin 16) (storeError : Bool) : State :=
  let co := s.core c
  let t := co.thread n
  let past := match co.stage with | some g => !pcOk g t.at' | none => false
  if s.fetches c n then
    if storeError then
      let cl := s.cluster (clusterOfCore c)
      let s := s.setCluster (clusterOfCore c) { cl with istoreBad := NatSet.insert cl.istoreBad t.pc.toNat }
      (s.bumpSat F.clusterIstoreUncorrectedCount (clusterOfCore c) 0 1).raise c t.seq ⟨n, t.pc, false, false, cMEMORY, t.pc.toNat⟩
    else if past then s.raise c t.seq ⟨n, t.pc, false, false, cFETCH, t.at'⟩
    else s
  else s

/-- Which slots make 128 bits an illegal bundle for a thread: slot A, and slot B. A reserved FORM counts as slot A, and so does a first slot that is none of slot A's; a second slot that does not decode, or does not fit the FORM, counts as slot B (R104 to R107, R113). -/
def Core.illegalSlots (c : Core) (g : Stage) (t : Thread) (w : Nat) : Bool × Bool :=
  let both (b : Bundle) : Bool × Bool := (c.slotIllegal g t b false, c.slotIllegal g t b true)
  match decodeBundle w with
  | some (a, some b) => both ⟨a, b, false, w⟩
  | some (a, none) => both ⟨a, .nop, true, w⟩
  | none =>
    let form := bits w 0 4
    if form == 1 || form == 2 then
      (!(decodeSlot (bits w 4 62)).any (fun o => o.slotAOk && !c.illegal g t o),
       !(decodeSlot (bits w 66 62)).any (fun o => o.slotBOk && formOf o == form && !c.illegal g t o))
    else (true, false)

/-- The slot that an illegal bundle's fault names, where the bundle is illegal: slot A before slot B (R115). -/
def Core.illegalWord (c : Core) (g : Stage) (t : Thread) (w : Nat) : Option Bool :=
  let x := c.illegalSlots g t w
  if x.1 then some false else if x.2 then some true else none

/-- ILLEGAL_BUNDLE: a fetched bundle that R104 to R107 do not allow raises ILLEGAL and has no other effect (R113); with both slots illegal, slot B's fault is simultaneous with slot A's (R115). -/
def illegalBundle (s : State) (c : CoreId) (n : Fin 16) (w : BitVec 128) : State :=
  match s.runnable c n with
  | none => s
  | some (g, t) =>
    let mk (slotB : Bool) : ThreadFault := ⟨n, t.pc, slotB, false, cILLEGAL, w.toNat % 2 ^ 64⟩
    match (s.core c).illegalSlots g t w.toNat with
    | (false, false) => s
    | (false, true) => s.raise c t.seq (mk true)
    | (true, false) => s.raise c t.seq (mk false)
    | (true, true) => (s.raise c t.seq (mk false)).recordFault c (mk true)

/-! ## The commands -/

/-- ADD (R108). -/
def execAdd (b : Issue) (rd ra rb : Fin 32) (s : State) : Host.Outcome State Fault Refusal :=
  go (issue b (.alu .add rd ra rb) s)
/-- SUB (R108). -/
def execSub (b : Issue) (rd ra rb : Fin 32) (s : State) : Host.Outcome State Fault Refusal :=
  go (issue b (.alu .sub rd ra rb) s)
/-- AND (R108). -/
def execAnd (b : Issue) (rd ra rb : Fin 32) (s : State) : Host.Outcome State Fault Refusal :=
  go (issue b (.alu .and rd ra rb) s)
/-- OR (R108). -/
def execOr (b : Issue) (rd ra rb : Fin 32) (s : State) : Host.Outcome State Fault Refusal :=
  go (issue b (.alu .or rd ra rb) s)
/-- XOR (R108). -/
def execXor (b : Issue) (rd ra rb : Fin 32) (s : State) : Host.Outcome State Fault Refusal :=
  go (issue b (.alu .xor rd ra rb) s)
/-- SHL (R108). -/
def execShl (b : Issue) (rd ra rb : Fin 32) (s : State) : Host.Outcome State Fault Refusal :=
  go (issue b (.alu .shl rd ra rb) s)
/-- SHR (R108). -/
def execShr (b : Issue) (rd ra rb : Fin 32) (s : State) : Host.Outcome State Fault Refusal :=
  go (issue b (.alu .shr rd ra rb) s)
/-- SRA (R108). -/
def execSra (b : Issue) (rd ra rb : Fin 32) (s : State) : Host.Outcome State Fault Refusal :=
  go (issue b (.alu .sra rd ra rb) s)
/-- MUL (R108). -/
def execMul (b : Issue) (rd ra rb : Fin 32) (s : State) : Host.Outcome State Fault Refusal :=
  go (issue b (.alu .mul rd ra rb) s)
/-- MULHU (R108). -/
def execMulhu (b : Issue) (rd ra rb : Fin 32) (s : State) : Host.Outcome State Fault Refusal :=
  go (issue b (.alu .mulhu rd ra rb) s)
/-- MIN (R108). -/
def execMin (b : Issue) (rd ra rb : Fin 32) (s : State) : Host.Outcome State Fault Refusal :=
  go (issue b (.alu .min rd ra rb) s)
/-- MAX (R108). -/
def execMax (b : Issue) (rd ra rb : Fin 32) (s : State) : Host.Outcome State Fault Refusal :=
  go (issue b (.alu .max rd ra rb) s)
/-- SLT (R108). -/
def execSlt (b : Issue) (rd ra rb : Fin 32) (s : State) : Host.Outcome State Fault Refusal :=
  go (issue b (.alu .slt rd ra rb) s)
/-- SLTU (R108). -/
def execSltu (b : Issue) (rd ra rb : Fin 32) (s : State) : Host.Outcome State Fault Refusal :=
  go (issue b (.alu .sltu rd ra rb) s)
/-- SEQ (R108). -/
def execSeq (b : Issue) (rd ra rb : Fin 32) (s : State) : Host.Outcome State Fault Refusal :=
  go (issue b (.alu .seq rd ra rb) s)
/-- ADDI (R107, R108). -/
def execAddi (b : Issue) (rd ra : Fin 32) (imm : BitVec 32) (s : State) : Host.Outcome State Fault Refusal :=
  go (issue b (.aluImm .add rd ra imm) s)
/-- ANDI (R107, R108). -/
def execAndi (b : Issue) (rd ra : Fin 32) (imm : BitVec 32) (s : State) : Host.Outcome State Fault Refusal :=
  go (issue b (.aluImm .and rd ra imm) s)
/-- ORI (R107, R108). -/
def execOri (b : Issue) (rd ra : Fin 32) (imm : BitVec 32) (s : State) : Host.Outcome State Fault Refusal :=
  go (issue b (.aluImm .or rd ra imm) s)
/-- XORI (R107, R108). -/
def execXori (b : Issue) (rd ra : Fin 32) (imm : BitVec 32) (s : State) : Host.Outcome State Fault Refusal :=
  go (issue b (.aluImm .xor rd ra imm) s)
/-- SHLI (R107, R108). -/
def execShli (b : Issue) (rd ra : Fin 32) (imm : BitVec 32) (s : State) : Host.Outcome State Fault Refusal :=
  go (issue b (.aluImm .shl rd ra imm) s)
/-- SHRI (R107, R108). -/
def execShri (b : Issue) (rd ra : Fin 32) (imm : BitVec 32) (s : State) : Host.Outcome State Fault Refusal :=
  go (issue b (.aluImm .shr rd ra imm) s)
/-- SRAI (R107, R108). -/
def execSrai (b : Issue) (rd ra : Fin 32) (imm : BitVec 32) (s : State) : Host.Outcome State Fault Refusal :=
  go (issue b (.aluImm .sra rd ra imm) s)
/-- SLTI (R107, R108). -/
def execSlti (b : Issue) (rd ra : Fin 32) (imm : BitVec 32) (s : State) : Host.Outcome State Fault Refusal :=
  go (issue b (.aluImm .slt rd ra imm) s)
/-- SLTIU (R107, R108). -/
def execSltiu (b : Issue) (rd ra : Fin 32) (imm : BitVec 32) (s : State) : Host.Outcome State Fault Refusal :=
  go (issue b (.aluImm .sltu rd ra imm) s)
/-- SEQI (R107, R108). -/
def execSeqi (b : Issue) (rd ra : Fin 32) (imm : BitVec 32) (s : State) : Host.Outcome State Fault Refusal :=
  go (issue b (.aluImm .seq rd ra imm) s)
/-- LI (R104). -/
def execLi (at' : ThreadRef) (rd : Fin 32) (imm : BitVec 64) (s : State) : Host.Outcome State Fault Refusal :=
  go (issueLi at' (.li rd imm) s)
/-- CSRR (R110). -/
def execCsrr (b : Issue) (rd : Fin 32) (imm : BitVec 32) (s : State) : Host.Outcome State Fault Refusal :=
  go (issue b (.csrr rd imm) s)
/-- LD8U (R107, R108). -/
def execLd8u (b : Issue) (rd ra : Fin 32) (imm : BitVec 32) (s : State) : Host.Outcome State Fault Refusal :=
  go (issue b (.ld 1 rd ra imm) s)
/-- LD16U (R107, R108). -/
def execLd16u (b : Issue) (rd ra : Fin 32) (imm : BitVec 32) (s : State) : Host.Outcome State Fault Refusal :=
  go (issue b (.ld 2 rd ra imm) s)
/-- LD32U (R107, R108). -/
def execLd32u (b : Issue) (rd ra : Fin 32) (imm : BitVec 32) (s : State) : Host.Outcome State Fault Refusal :=
  go (issue b (.ld 4 rd ra imm) s)
/-- LD64 (R107, R108). -/
def execLd64 (b : Issue) (rd ra : Fin 32) (imm : BitVec 32) (s : State) : Host.Outcome State Fault Refusal :=
  go (issue b (.ld 8 rd ra imm) s)
/-- ST8 (R107, R108). -/
def execSt8 (b : Issue) (rd ra : Fin 32) (imm : BitVec 32) (s : State) : Host.Outcome State Fault Refusal :=
  go (issue b (.st 1 rd ra imm) s)
/-- ST16 (R107, R108). -/
def execSt16 (b : Issue) (rd ra : Fin 32) (imm : BitVec 32) (s : State) : Host.Outcome State Fault Refusal :=
  go (issue b (.st 2 rd ra imm) s)
/-- ST32 (R107, R108). -/
def execSt32 (b : Issue) (rd ra : Fin 32) (imm : BitVec 32) (s : State) : Host.Outcome State Fault Refusal :=
  go (issue b (.st 4 rd ra imm) s)
/-- ST64 (R107, R108). -/
def execSt64 (b : Issue) (rd ra : Fin 32) (imm : BitVec 32) (s : State) : Host.Outcome State Fault Refusal :=
  go (issue b (.st 8 rd ra imm) s)
/-- LDX64 (R107, R108). -/
def execLdx64 (b : Issue) (rd ra : Fin 32) (imm : BitVec 32) (s : State) : Host.Outcome State Fault Refusal :=
  go (issue b (.ldx 8 rd ra imm) s)
/-- LDX32U (R107, R108). -/
def execLdx32u (b : Issue) (rd ra : Fin 32) (imm : BitVec 32) (s : State) : Host.Outcome State Fault Refusal :=
  go (issue b (.ldx 4 rd ra imm) s)
/-- STX64 (R107, R108). -/
def execStx64 (b : Issue) (rd ra : Fin 32) (imm : BitVec 32) (s : State) : Host.Outcome State Fault Refusal :=
  go (issue b (.stx 8 rd ra imm) s)
/-- STX32 (R107, R108). -/
def execStx32 (b : Issue) (rd ra : Fin 32) (imm : BitVec 32) (s : State) : Host.Outcome State Fault Refusal :=
  go (issue b (.stx 4 rd ra imm) s)
/-- LDX_RETURN (R98, R113). -/
def execLdxReturn (c : CoreId) (id : Nat) (s : State) : Host.Outcome State Fault Refusal :=
  go (ldxReturn s c id)
/-- STX_ACCEPTED (R98). -/
def execStxAccepted (c : CoreId) (id : Nat) (s : State) : Host.Outcome State Fault Refusal :=
  go (stxAccepted s c id)
/-- BEQ (R107, R109). -/
def execBeq (b : Issue) (ra rb : Fin 32) (off : BitVec 20) (s : State) : Host.Outcome State Fault Refusal :=
  go (issue b (.branch .eq ra rb off) s)
/-- BNE (R107, R109). -/
def execBne (b : Issue) (ra rb : Fin 32) (off : BitVec 20) (s : State) : Host.Outcome State Fault Refusal :=
  go (issue b (.branch .ne ra rb off) s)
/-- BLT (R107, R109). -/
def execBlt (b : Issue) (ra rb : Fin 32) (off : BitVec 20) (s : State) : Host.Outcome State Fault Refusal :=
  go (issue b (.branch .lt ra rb off) s)
/-- BGE (R107, R109). -/
def execBge (b : Issue) (ra rb : Fin 32) (off : BitVec 20) (s : State) : Host.Outcome State Fault Refusal :=
  go (issue b (.branch .ge ra rb off) s)
/-- BLTU (R107, R109). -/
def execBltu (b : Issue) (ra rb : Fin 32) (off : BitVec 20) (s : State) : Host.Outcome State Fault Refusal :=
  go (issue b (.branch .ltu ra rb off) s)
/-- BGEU (R107, R109). -/
def execBgeu (b : Issue) (ra rb : Fin 32) (off : BitVec 20) (s : State) : Host.Outcome State Fault Refusal :=
  go (issue b (.branch .geu ra rb off) s)
/-- JAL (R107, R109). -/
def execJal (b : Issue) (rd : Fin 32) (off : BitVec 20) (s : State) : Host.Outcome State Fault Refusal :=
  go (issue b (.jal rd off) s)
/-- JALR (R107, R109). -/
def execJalr (b : Issue) (rd ra : Fin 32) (imm : BitVec 32) (s : State) : Host.Outcome State Fault Refusal :=
  go (issue b (.jalr rd ra imm) s)
/-- FENCE (R97). -/
def execFence (b : Issue) (s : State) : Host.Outcome State Fault Refusal :=
  go (issue b .fence s)
/-- FENCE_COMPLETE (R97). -/
def execFenceComplete (at' : ThreadRef) (s : State) : Host.Outcome State Fault Refusal :=
  go (fenceComplete s at'.core at'.thread)
/-- HALT (R107). -/
def execHalt (b : Issue) (s : State) : Host.Outcome State Fault Refusal :=
  go (issue b .halt s)
/-- TRAP (R113). -/
def execTrap (b : Issue) (imm : BitVec 32) (s : State) : Host.Outcome State Fault Refusal :=
  go (issue b (.trap imm) s)
/-- TSET (R107). -/
def execTset (b : Issue) (td : Fin 16) (ra : Fin 32) (s : State) : Host.Outcome State Fault Refusal :=
  go (issue b (.tset td ra) s)
/-- TGET (R107). -/
def execTget (b : Issue) (rd : Fin 32) (ta : Fin 16) (s : State) : Host.Outcome State Fault Refusal :=
  go (issue b (.tget rd ta) s)
/-- TSLOT (R107). -/
def execTslot (b : Issue) (td ta : Fin 16) (imm : BitVec 32) (s : State) : Host.Outcome State Fault Refusal :=
  go (issue b (.tslot td ta imm) s)
/-- TLI (R104). -/
def execTli (at' : ThreadRef) (td : Fin 16) (imm : BitVec 64) (s : State) : Host.Outcome State Fault Refusal :=
  go (issueLi at' (.tli td imm) s)
/-- BELL (R176). -/
def execBell (b : Issue) (group : BitVec 12) (xa : Fin 32) (s : State) : Host.Outcome State Fault Refusal :=
  go (issue b (.bell group xa) s)
/-- ILLEGAL_BUNDLE (R113). -/
def execIllegalBundle (at' : ThreadRef) (bundle : BitVec 128) (s : State) : Host.Outcome State Fault Refusal :=
  go (illegalBundle s at'.core at'.thread bundle)
/-- FETCH_PAST_RANGE (R109). -/
def execFetchPastRange (at' : ThreadRef) (storeError : Bool) (s : State) : Host.Outcome State Fault Refusal :=
  go (fetchPastRange s at'.core at'.thread storeError)

end Sys2Proof.Machine
end

