-- ==== Sys2Proof/Machine/Convert.lean ====
section
/-!
DEFINITION. Conversions of exact values into a tile, shared by RND, the vector engine and the finishing unit: scale choice, noise, the codes written and the statistics contribution (R40 to R58, R76 to R81, R103, R127, R134).
-/
namespace Sys2Proof.Machine

/-- What a conversion makes: the code of each element to write, the leading entries of the scale vector where it is written, and the statistics contribution. -/
structure Converted where
  codes : List (List (Option Nat))
  scales : List Byte
  stats : Stats
deriving DecidableEq, Repr

/-- The settings of a conversion: format, layer exponent, scale axis, logical row length, RND and OVF, and the given scales where SMODE is GIVEN (R127). -/
structure ConvertTo where
  fmt : Nat
  e : Int
  saxis : Nat
  l : Nat
  rounding : Rounding
  given : Option (List Nat)
deriving DecidableEq, Repr

/-- Whether every value of a list is zero (R42). A scaled E5M2 row of zeros and infinities is no whole-zero row: its zeros keep their signs, as R48 says of E5M2 (DESIGN CHOICE, log entry 48: R41 would write +0 in every element of it, infinities too). -/
def allZero (l : List Val) : Bool := l.all (fun v => match v with | .zero _ => true | _ => false)

/-- The scale that CHOOSE takes for the results of one row or column (R41, R42). -/
def ConvertTo.choose (k : ConvertTo) (l : List Val) : Nat := chooseScale k.fmt l

/-- The results of a row that take part in the choice: those in columns below L (R127). -/
def ConvertTo.rowResults (k : ConvertTo) (row : List (Option Val)) : List Val := (row.take k.l).filterMap id

/-- The results of column `c`. -/
def columnResults (rows : List (List (Option Val))) (c : Nat) : List Val := rows.filterMap (fun r => (r.getD c none))

/-- One element of a conversion: its code, and its rounding where it counts. `scale` is none for an unscaled target. -/
def ConvertTo.elem (k : ConvertTo) (scale : Option Nat) (zeroRow : Bool) (noise : Nat) (v : Val) : Rounded :=
  match scale with
  | none => roundElem k.fmt k.e k.rounding noise v
  | some sc => if k.given.isSome then roundScaled k.fmt sc k.rounding noise v else chosenElem k.fmt sc zeroRow k.rounding noise v

/-- The conversion of a tile's exact results. An element with no result keeps its code, or is written +0 under CHOOSE into a scaled target; so is every column from L under a row-scaled CHOOSE (R44, R127, R507). -/
def ConvertTo.convert (k : ConvertTo) (noise : Nat → Nat → Nat) (rows : List (List (Option Val))) : Converted :=
  let cols := (rows.headD []).length
  let choosing := k.saxis != 0 && k.given.isNone
  let rowInfo : List (Nat × Bool) := if k.saxis == 1 && choosing then rows.map (fun r => (k.choose (k.rowResults r), allZero (k.rowResults r))) else []
  let colInfo : List (Nat × Bool) := if k.saxis == 2 && choosing then (List.range cols).map (fun c => (k.choose (columnResults rows c), allZero (columnResults rows c))) else []
  let given := k.given.getD []
  let out := rows.zipIdx.map (fun rr => rr.1.zipIdx.map (fun cc =>
    let r := rr.2
    let c := cc.2
    let info : Option (Nat × Bool) :=
      if k.saxis == 0 then none
      else if choosing then some (if k.saxis == 1 then rowInfo.getD r (0, true) else colInfo.getD c (0, true))
      else some (given.getD (if k.saxis == 1 then r else c) 0, false)
    match cc.1 with
    | none => ((if choosing then some 0 else none : Option Nat), Stats.zero)
    | some v =>
      if choosing && k.saxis == 1 && c ≥ k.l then (some 0, Stats.zero)
      else
        let x := k.elem (info.map Prod.fst) (match info with | some i => i.2 | none => false) (noise r c) v
        (some x.code, Stats.ofElem v x)))
  { codes := out.map (fun r => r.map (fun x => x.1))
    scales := if choosing then (if k.saxis == 1 then rowInfo else colInfo).map (fun (i : Nat × Bool) => BitVec.ofNat 8 i.1) else []
    stats := out.foldl (fun a r => r.foldl (fun a x => a.combine x.2) a) Stats.zero }

/-- The seed of the stack's active Syllabus (R53). -/
def State.srSeed (s : State) (c : Nat) : Word := BitVec.ofNat 64 (s.fld F.tutorSeedSeed (stackOfCore c))

/-- The noise of destination element (r, col) of a tile whose element (0, 0) has index xa[47:0] (R53, R103). -/
def elemNoise (seed : Word) (d : TensorDesc) (step : BitVec 32) (xa : Word) (r col : Nat) : Nat :=
  (roundNoise seed d.tag step (bits xa.toNat 0 48 + r * d.l + col)).toNat

/-- The settings of a conversion into a tile under an operation's fields. -/
def State.convertTo (s : State) (c : Nat) (t : Tile) (e : EFields) (given : Bool) : ConvertTo :=
  ⟨t.d.fmt, t.d.e, t.d.saxis, t.d.l, ⟨e.rnd, e.ovf⟩,
   if given && t.d.saxis != 0 then some ((List.range t.scaleLen).map (s.scaleAt c t)) else none⟩

/-- Adds a contribution to a core's private record of a tensor whose STATS_EN is 1 (R57, R165). -/
def State.addStats (s : State) (c : CoreId) (tdesc : Nat) (d : TensorDesc) (x : Stats) : State :=
  if d.statsEn then
    let co := s.core c
    s.setCore c { co with stats := Tab.set Stats.zero co.stats tdesc ((Tab.get Stats.zero co.stats tdesc).combine x) }
  else s

/-- Writes a conversion into its tile: elements, scale vector and statistics. -/
def State.putConverted (s : State) (c : CoreId) (t : Tile) (k : Converted) : State :=
  let s := s.writeTile c t (fun r col => (k.codes.getD r []).getD col none)
  let s := if k.scales.isEmpty then s else s.storeWriteRange c t.scaleOff k.scales
  s.addStats c t.tdesc t.d k.stats

/-- Converts exact results into the tile of an engine operation (R44, R127, R134). -/
def State.convertInto (s : State) (c : CoreId) (g : Stage) (o : EngOp) (e : EFields) (t : Tile) (given : Bool) (rows : List (List (Option Val))) : State :=
  let k := s.convertTo c t e given
  let noise := elemNoise (s.srSeed c) t.d g.step o.xa
  s.putConverted c t (k.convert (if e.rnd == 2 then noise else fun _ _ => 0) rows)

/-! ## Format checks (R30, R45, R53, R103) -/

/-- Which operand of an operation breaks a format rule: 0 tA, 1 tB, 2 tD (R113). -/
abbrev FormatFault := Option Nat

/-- The first fault of a list of checks: operand and whether it is broken. -/
def firstFault (l : List (Nat × Bool)) : FormatFault := (l.find? (fun x => x.2)).map (fun x => x.1)

/-- Whether the rounding fields and the SR index range of a destination are legal (R45, R53, R103). -/
def roundingLegal (t : Tile) (e : EFields) (xa : Word) : Bool :=
  e.rnd != 3 && (e.rnd != 2 || decide (bits xa.toNat 0 48 + (t.rows - 1) * t.d.l + t.cols ≤ 2 ^ 48))

/-- The word of the tile register that a fault names. -/
def EngOp.word (o : EngOp) (which : Nat) : Word := if which == 0 then o.tA else if which == 1 then o.tB else o.tD

/-- A fault that an engine finds when an operation starts (R113): a format rule, with the operand and a format code of its own where the operation names one; a poisoned row; an address; an uncorrectable error in the Slate or in a function table (R423). -/
inductive EngFault where
  | format (which : Nat) (fmt : Option Nat)
  | poison (row : Nat)
  | address (a : Nat)
  | memory (detail : Nat)
  | table (k : Nat)
deriving DecidableEq, Repr

/-- The detail word of a FORMAT fault under another format code. -/
def withFmt (detail : Nat) : Option Nat → Nat
  | none => detail
  | some f => putBits detail 0 4 f

/-- An engine operation faults as it starts: it writes nothing (R113). -/
def State.engFault (s : State) (c : CoreId) (g : Stage) (o : EngOp) : EngFault → State
  | .format w f => s.raiseEngine c o cFORMAT (withFmt (formatDetail g (o.word w) w) f)
  | .poison p => s.raiseEngine c o cPOISON p
  | .address a => s.raiseEngine c o cADDRESS a
  | .memory d => (s.logError .core (coreInst c) uncorrected 0x003 d 0).raiseEngine c o cMEMORY d
  | .table k => (s.logError .core (coreInst c) uncorrected 0x004 k 0).raiseEngine c o cPOISON k

/-- A format fault of an operand, where there is one. -/
def fmtFault (f : FormatFault) : Option EngFault := f.map (fun w => .format w none)

/-- A POISON fault, where a row of a list is poisoned (R89). -/
def State.poisonFault (s : State) (c : Nat) (offs : List Nat) : Option EngFault := (s.firstPoison c offs).map .poison

/-- Whether an LX tile register is one: format LX, unscaled, one slot (R101). -/
def Tile.isLx (t : Tile) : Bool := t.d.fmt == fmtLX && t.d.saxis == 0 && t.span == 1

/-! ## Queues of engine operations -/

/-- Whether an operation's waits are met: no unfinished earlier operation of its thread conflicts with it (R72, R96). -/
def Core.clear (c : Core) (g : Stage) (o : EngOp) : Bool := !c.unfinished.any (fun e => o.waitsFor g e)

/-- Whether the next buffer of each stream-fed source has landed (R174). -/
def Core.fedReady (c : Core) (o : EngOp) : Bool :=
  let ready (use : Bool) (w : Word) (buf : Nat) : Bool :=
    !use || (match (tileReg w.toNat).stream with | some d => NatSet.has (c.dyn d).landed buf | none => true)
  ready o.op.usesTiles.2.1 o.tA o.bufA && ready o.op.usesTiles.2.2 o.tB o.bufB

/-- The threads that wait for a queue entry are ready again (R92). -/
def Core.wakeQueue (c : Core) : Core :=
  (List.range 16).foldl (fun c n =>
    if (c.thread n).state = .waitQueue then c.setThread n { (c.thread n) with state := .ready } else c) c

/-- The buffers that an operation has read are released (R122, R174). -/
def Core.releaseFed (c : Core) (o : EngOp) : Core :=
  let rel (c : Core) (use : Bool) (w : Word) (buf : Nat) : Core :=
    match use, (tileReg w.toNat).stream with
    | true, some d => c.engineRelease d buf
    | _, _ => c
  rel (rel c o.op.usesTiles.2.1 o.tA o.bufA) o.op.usesTiles.2.2 o.tB o.bufB

/-- Every row of a tile and of its scale vector. -/
def Tile.allOffs (t : Tile) : List Nat := t.rowOffs ++ t.scaleOffs t.scaleLen

/-- Does something on a core that has a stage. -/
def State.withStage (s : State) (c : CoreId) (f : Core → Stage → State) : State :=
  match (s.core c).stage with
  | none => s
  | some g => f (s.core c) g

end Sys2Proof.Machine
end

