-- ==== Sys2Proof/Machine/Matrix.lean ====
section
/-!
DEFINITION. The matrix engine and the Slate unit: MMA from its occupancy to its last deposit, SAVE, REST and RND (R60 to R83, R119 to R125, R505).
-/
namespace Sys2Proof.Machine

/-! ## Checks of an MMA (R64, R79, R119 to R122) -/

/-- Whether two operand formats pair (R119). -/
def pairs (a b : Nat) : Bool := (a == 8 && b == 8) || (a < 8 && b < 8)

/-- The k extent of an operand tile (R120). -/
def kExtent (t : Tile) (turned : Bool) : Nat := if turned then t.rows else t.cols
/-- The output extent of tB. -/
def nExtent (t : Tile) (turned : Bool) : Nat := if turned then t.cols else t.rows

/-- Whether K fits an operand: a resident one holds it, a stream-fed one takes whole buffers (R120, R122). -/
def kFits (t : Tile) (turned fed : Bool) (k : Nat) : Bool :=
  let e := kExtent t turned
  if fed then e != 0 && k % e == 0 else decide (k ≤ e)

/-- The stored scale axis that an operand must not have: the one along k (R79, R120). -/
def badAxis (t : Tile) (turned : Bool) : Bool := t.d.saxis == (if turned then 1 else 2)

/-- The format rules of an MMA, in the order of R119 to R122; the operand that a fault names where both could is tA (DEDUCED). -/
def mmaFault (ta tb : Tile) (m : MFields) (fedA fedB : Bool) : FormatFault :=
  let n := nExtent tb m.tb
  let b := (n + 127) / 128
  let rows := m.mrows.val + 1
  let mm := rows / b
  firstFault
    [(0, !ta.d.legal || !mmaFormat ta.d.fmt), (1, !tb.d.legal || !mmaFormat tb.d.fmt), (1, !pairs ta.d.fmt tb.d.fmt),
     (0, badAxis ta m.ta), (1, badAxis tb m.tb), (1, decide (4096 < n)), (0, rows % b != 0 || mm == 0),
     (0, if m.ta then decide (ta.cols < mm) else mm != ta.rows), (0, !kFits ta m.ta fedA m.kLen), (1, !kFits tb m.tb fedB m.kLen),
     (0, decide (31 < m.srow.val + m.mrows.val))]

/-- The row offsets that an MMA reads of an operand: slot rows of `outs` outputs and k indices below `k` (R125). -/
def mmaRowOffs (t : Tile) (turned : Bool) (outs k : Nat) : List Nat :=
  let p := perRow t.d.fmt
  let rows := if turned then k else outs
  let cols := if turned then outs else k
  let elems := ((List.range rows).map (fun r => (List.range ((cols + p - 1) / p)).map (fun sl => t.rowOff sl r))).flatten
  elems ++ (if t.d.saxis == 0 then [] else t.scaleOffs outs)

/-- The codes of an operand tile: per output, k in ascending order (R120). -/
def State.mmaCodes (s : State) (c : Nat) (t : Tile) (turned : Bool) (outs k : Nat) : List (List Nat) :=
  (List.range outs).map (fun i => (List.range k).map (fun j => if turned then s.elemCode c t j i else s.elemCode c t i j))

/-! ## Feeding (R122, R174) -/

/-- One operand of a running MMA. -/
structure MmaSide where
  turned : Bool
  outs : Nat
  first : Nat
  reg : Word
deriving DecidableEq, Repr

/-- The sides of a running MMA. -/
def MmaRun.sideA (r : MmaRun) (m : MFields) : MmaSide := ⟨m.ta, r.m, r.eng.bufA, r.eng.tA⟩
/-- tB's side. -/
def MmaRun.sideB (r : MmaRun) (m : MFields) : MmaSide := ⟨m.tb, r.n, r.eng.bufB, r.eng.tB⟩

/-- Joins codes output by output. -/
def joinCodes (a b : List (List Nat)) : List (List Nat) := if a.isEmpty then b else (a.zip b).map (fun x => x.1 ++ x.2)

/-- Takes the operand data that are there, at most `fuel` buffers: the codes so far, and the first poisoned row. -/
def feedSide (c : CoreId) (g : Stage) (k : Nat) (x : MmaSide) : Nat → State → List (List Nat) → State × List (List Nat) × Option Nat
  | 0, s, codes => (s, codes, none)
  | fuel + 1, s, codes =>
    let have' := (codes.headD []).length
    if have' ≥ k then (s, codes, none)
    else match (tileReg x.reg.toNat).stream with
      | none =>
        let t := resolveTile g x.reg.toNat 0
        match s.firstPoison c (mmaRowOffs t x.turned x.outs k) with
        | some p => (s, codes, some p)
        | none => (s, s.mmaCodes c t x.turned x.outs k, none)
      | some d =>
        let e := kExtent (resolveTile g x.reg.toNat x.first) x.turned
        let buf := x.first + have' / e
        if e == 0 || !NatSet.has ((s.core c).dyn d).landed buf then (s, codes, none)
        else
          let t := resolveTile g x.reg.toNat buf
          match s.firstPoison c (mmaRowOffs t x.turned x.outs e) with
          | some p => (s, codes, some p)
          | none =>
            let codes := joinCodes codes (s.mmaCodes c t x.turned x.outs e)
            feedSide c g k x fuel (s.setCore c ((s.core c).engineRelease d buf)) codes

/-- Replaces a running MMA. -/
def Core.putMma (c : Core) (r : MmaRun) : Core :=
  { c with mmaRun := c.mmaRun.map (fun x => if x.eng.order == r.eng.order then r else x) }

/-- The running MMA takes what has arrived of its operands; a poisoned row raises POISON and the operation writes nothing (R113, R122). -/
def mmaAdvance (s : State) (c : CoreId) (order : Nat) : State :=
  s.withStage c (fun co g =>
    match co.mmaRun.find? (fun r => r.eng.order == order) with
    | none => s
    | some r =>
      match r.eng.op with
      | .mma m =>
        let (s, a, pa) := feedSide c g r.k (r.sideA m) 8 s r.aCodes
        let (s, b, pb) := feedSide c g r.k (r.sideB m) 8 s r.bCodes
        match pa.or pb with
        | some p =>
          let co := s.core c
          (s.setCore c { co with mmaRun := co.mmaRun.filter (fun x => x.eng.order != order) }).raiseEngine c r.eng cPOISON p
        | none =>
          let done := min (a.headD []).length (b.headD []).length
          s.setCore c ((s.core c).putMma { r with aCodes := a, bCodes := b, kDone := done })
      | _ => s)

/-- The MMA at the engine input, whose operands have not all been taken. -/
def Core.mmaAtInput (c : Core) : Option MmaRun := c.mmaRun.find? (fun r => r.kDone < r.k)

/-- A buffer has landed on a core: an MMA whose occupancy it stalls goes on (R125). -/
def mmaFeed (s : State) (c : CoreId) : State :=
  match (s.core c).mmaAtInput with
  | some r => mmaAdvance s c r.eng.order
  | none => s

/-- The first Slate row that an operation reads and whose contents an uncorrectable error has spoiled (R113, R423). A REST and an MMA in INIT mode read none: they replace what stands there (R68, R74). -/
def State.badSlate (s : State) (c : CoreId) (o : Op) : Option Nat :=
  let reads := match o with
    | .mma m => m.accumulate
    | .eng .rest _ => false
    | _ => true
  if reads then o.slateRows.find? (NatSet.has (s.core c).slateBad) else none

/-- Slate rows are written anew, and hold no error any more. -/
def State.healSlate (s : State) (c : CoreId) (rows : List Nat) : State :=
  s.setCore c { s.core c with slateBad := rows.foldl NatSet.erase (s.core c).slateBad }

/-- An MMA meets an error beyond correction in its transpose buffer (R423): POISON at the engine, with a detail that the spec leaves open. -/
def State.transposeFault (s : State) (c : CoreId) (o : EngOp) : State :=
  let s := s.setCore c { s.core c with transposeBad := false }
  ({ s with freeNext := s.freeNext + 1 }).raiseEngine c o cPOISON (Config.transposeDetail s.freeNext)

/-- MMA_OCCUPANCY_START: the engine input takes the next MMA of its queue, once its waits are met and its first buffers have landed; a format fault refuses it (R119 to R125). -/
def mmaOccupancyStart (s : State) (c : CoreId) : State :=
  s.withStage c (fun co g =>
    match co.mmaQ with
    | [] => s
    | o :: rest =>
      match o.op with
      | .mma m =>
        if co.mmaAtInput.isNone && co.clear g o && co.fedReady o then
          let s := s.setCore c ({ co with mmaQ := rest }).wakeQueue
          let ta := o.srcA g
          let tb := o.srcB g
          match mmaFault ta tb m (tileReg o.tA.toNat).stream.isSome (tileReg o.tB.toNat).stream.isSome with
          | some w => s.engFault c g o (.format w none)
          | none =>
            match s.badSlate c o.op with
            | some r => s.engFault c g o (.memory r)
            | none =>
              if co.transposeBad && (m.ta || m.tb) then s.transposeFault c o
              else
              let n := nExtent tb m.tb
              let r : MmaRun := ⟨o, (m.mrows.val + 1) / ((n + 127) / 128), n, m.kLen, 0, [], []⟩
              let s := if m.accumulate then s else s.healSlate c o.op.slateRows
              let co := s.core c
              mmaAdvance (s.setCore c { co with mmaRun := co.mmaRun ++ [r] }) c o.order
        else s
      | _ => s)

/-! ## Deposits (R65, R66, R69) -/

/-- What a dot product adds to an accumulator: its value, groups and passes, and whether infinite and NaN products were deposited. -/
structure DotSum where
  acc : Acc
  groups : Nat
  passes : Nat
  inf : Bool
  nan : Bool
deriving DecidableEq, Repr

/-- One group of element pairs: special products set flags, each pair of pieces of the finite ones forms a group of its own (R66). -/
def DotSum.group (d : DotSum) (na nb : Nat) (ps : List (Operand × Operand)) : DotSum :=
  let specials := ps.filterMap (fun p => specialProduct p.1.val p.2.val)
  let finite := ps.filter (fun p => (specialProduct p.1.val p.2.val).isNone)
  let d := { d with
    acc := specials.foldl Acc.flag d.acc
    inf := d.inf || specials.any (fun v => v != .nan)
    nan := d.nan || specials.any (fun v => v == .nan) }
  (List.range (na * nb)).foldl (fun d x =>
    let products := finite.map (fun p => (p.1.pieces.getD (x / nb) ⟨0, 0, 1⟩).mul (p.2.pieces.getD (x % nb) ⟨0, 0, 1⟩))
    let r := depositGroup products
    { d with acc := d.acc.add r.1, groups := d.groups + 1, passes := d.passes + r.2 }) d

/-- Every group of 32 of a dot product (R66). -/
def DotSum.deposit (na nb : Nat) : Nat → List (Operand × Operand) → DotSum → DotSum
  | 0, _, d => d
  | n + 1, ps, d => DotSum.deposit na nb n (ps.drop 32) (d.group na nb (ps.take 32))

/-- The pieces of an operand of a format. -/
def piecesOf (fmt : Nat) : Nat := if fmt == fmtFP32 then 3 else 1

/-- One output element: the exact sum of a row of A and a column of B into an accumulator. -/
def dotInto (acc : Acc) (fa fb : Nat) (a b : List Nat) : DotSum :=
  let ps := (a.map (decodeOperand fa)).zip (b.map (decodeOperand fb))
  DotSum.deposit (piecesOf fa) (piecesOf fb) ((ps.length + 31) / 32) ps ⟨acc, 0, 0, false, false⟩

/-- The accumulator of output element (i, j) (R121). -/
def outAcc (srow b i j : Nat) : Nat := 128 * (srow + i * b + j / 128) + j % 128

/-- Every output element of a finished MMA is deposited; INIT clears every accumulator it names first (R68, R121). -/
def State.depositAll (s : State) (c : CoreId) (m : MFields) (r : MmaRun) (fa fb : Nat) : State :=
  let b := (r.n + 127) / 128
  let s := if m.accumulate then s
    else s.each (List.range (128 * (m.mrows.val + 1))) (fun s p => s.setAcc c (128 * m.srow.val + p) Acc.zero)
  let i := coreInst c
  s.each (List.range (r.m * r.n)) (fun s x =>
    let n := outAcc m.srow.val b (x / r.n) (x % r.n)
    let d := dotInto (s.acc c n) fa fb (r.aCodes.getD (x / r.n) []) (r.bCodes.getD (x % r.n) [])
    let s := ((s.setAcc c n d.acc).bump F.coreAccGroupsCount i 0 d.groups).bump F.coreAccPassesCount i 0 d.passes
    let s := if d.inf then s.setFld F.coreAccFlagsInfDeposit i 0 1 else s
    if d.nan then s.setFld F.coreAccFlagsNanDeposit i 0 1 else s)

/-- MMA_LAST_DEPOSIT: the oldest MMA whose operands have all been taken has made its last deposit (R66, R83, R125). -/
def mmaLastDeposit (s : State) (c : CoreId) : State :=
  s.withStage c (fun co g =>
    match co.mmaRun with
    | [] => s
    | r :: rest =>
      match r.eng.op with
      | .mma m =>
        if r.k ≤ r.kDone then
          (s.depositAll c m r (r.eng.srcA g).d.fmt (r.eng.srcB g).d.fmt).setCore c { co with mmaRun := rest }
        else s
      | _ => s)

/-! ## SAVE, REST and RND (R74, R76, R80, R505) -/


/-- The format rules of a RND (R30, R37, R45, R53, R76, R80, R107, R505). -/
def rndFault (t ta tb : Tile) (e : EFields) (xa : Word) : FormatFault :=
  let b := (t.cols + 127) / 128
  let k := e.slateCount
  firstFault
    [(2, !t.d.legal || t.d.fmt == fmtLX || t.d.saxis == 2), (0, !ta.d.legal), (1, !tb.d.legal),
     (2, !roundingLegal t e xa), (2, decide (31 < e.slateRow + k - 1)), (2, b == 0 || decide (t.rows ≤ (k - 1) / b)),
     (2, t.d.saxis == 1 && (decide (t.cols < t.d.l) || decide (4096 < t.d.l) || k % b != 0))]

/-- The value of accumulator `n` under the scale entries of destination element (r, c) (R76). -/
def State.rndValue (s : State) (c : Nat) (ta tb : Tile) (n r col : Nat) : Val :=
  let sa := if ta.d.saxis == 0 then 127 else s.scaleAt c ta r
  let sb := if tb.d.saxis == 0 then 127 else s.scaleAt c tb col
  if sa == 0xFF || sb == 0xFF then .nan else (s.acc c n).read.scale (((sa : Int) - 127) + ((sb : Int) - 127))

/-- The exact results of a RND, row by row; an element that it does not cover has none (R505). -/
def State.rndRows (s : State) (c : Nat) (t ta tb : Tile) (e : EFields) : List (List (Option Val)) :=
  let b := (t.cols + 127) / 128
  (List.range ((e.slateCount + b - 1) / b)).map (fun r => (List.range t.cols).map (fun col =>
    let k := r * b + col / 128
    if k < e.slateCount then some (s.rndValue c ta tb (128 * (e.slateRow + k) + col % 128) r col) else none))

/-- The fault of a Slate operation as it starts (R74, R76, R89, R101, R505). -/
def slateFault (s : State) (c : CoreId) (g : Stage) (o : EngOp) : Option EngFault :=
  let bad := (s.badSlate c o.op).map EngFault.memory
  match o.op with
  | .eng .save _ => if (o.dst g).isLx then bad else some (.format 2 none)
  | .eng .rest _ =>
    let ta := o.srcA g
    if !ta.isLx then some (.format 0 none)
    else (s.poisonFault c (lxOffs ta.slot)).or (if (List.range 128).any (s.lxFlagBad c ta.slot) then some (.format 0 none) else none)
  | .eng .rnd e =>
    let ta := o.srcA g
    let tb := o.srcB g
    let offs (x : Tile) (n : Nat) : List Nat := if x.d.saxis == 0 then [] else x.scaleOffs n
    ((fmtFault (rndFault (o.dst g) ta tb e o.xa)).or (s.poisonFault c (offs ta (o.rndEntries g 0) ++ offs tb (o.rndEntries g 1)))).or bad
  | _ => none

/-- SLATE_OP_START: the Slate unit takes the next SAVE, REST or RND once the one before has finished and its waits are met; a fault refuses it (R72, R98). -/
def slateOpStart (s : State) (c : CoreId) : State :=
  s.withStage c (fun co g =>
    match co.slateRun, co.slateQ with
    | none, o :: rest =>
      if co.clear g o && co.fedReady o then
        let s := s.setCore c ({ co with slateQ := rest }).wakeQueue
        match slateFault s c g o with
        | some f => s.engFault c g o f
        | none => s.setCore c { (s.core c) with slateRun := some o }
      else s
    | _, _ => s)

/-- SAVE writes one Slate row into its LX tile and counts range exits (R73, R74, R83). -/
def State.saveRow (s : State) (c : CoreId) (t : Tile) (row : Nat) : State :=
  let exits := ((List.range 128).filter (fun p => !lxInRange (s.acc c (128 * row + p)).value.toInt)).length
  let i := coreInst c
  let s' := s.writeLx c t.slot (fun p => (s.acc c (128 * row + p)).save)
  if exits = 0 then s' else (s'.bumpSat F.coreAccRangeCount i 0 exits).setFld F.coreAccFlagsRange i 0 1

/-- REST reads an LX tile into a Slate row (R74). -/
def State.restRow (s : State) (c : CoreId) (t : Tile) (row : Nat) : State :=
  (s.each (List.range 128) (fun s p => s.setAcc c (128 * row + p) (s.lxAt c t.slot p).restore)).healSlate c [row]

/-- SLATE_OP_COMPLETE: the running SAVE, REST or RND has written its row or tile (R74, R76, R81). -/
def slateOpComplete (s : State) (c : CoreId) : State :=
  s.withStage c (fun co g =>
    match co.slateRun with
    | none => s
    | some o =>
      let s := match o.op with
        | .eng .save e => s.saveRow c (o.dst g) e.slateRow
        | .eng .rest e => s.restRow c (o.srcA g) e.slateRow
        | .eng .rnd e => s.convertInto c g o e (o.dst g) false (s.rndRows c (o.dst g) (o.srcA g) (o.srcB g) e)
        | _ => s
      s.setCore c (({ (s.core c) with slateRun := none }).releaseFed o))

/-! ## The commands -/


/-- MMA (R121). -/
def execMma (b : Issue) (m : MFields) (s : State) : Host.Outcome State Fault Refusal := go (issue b (.mma m) s)
/-- MMA_OCCUPANCY_START (R125). -/
def execMmaOccupancyStart (c : CoreId) (s : State) : Host.Outcome State Fault Refusal := go (mmaOccupancyStart s c)
/-- MMA_LAST_DEPOSIT (R125). -/
def execMmaLastDeposit (c : CoreId) (s : State) : Host.Outcome State Fault Refusal := go (mmaLastDeposit s c)
/-- SAVE (R74). -/
def execSave (b : Issue) (e : EFields) (s : State) : Host.Outcome State Fault Refusal := go (issue b (.eng .save e) s)
/-- REST (R74). -/
def execRest (b : Issue) (e : EFields) (s : State) : Host.Outcome State Fault Refusal := go (issue b (.eng .rest e) s)
/-- RND (R505). -/
def execRnd (b : Issue) (e : EFields) (s : State) : Host.Outcome State Fault Refusal := go (issue b (.eng .rnd e) s)
/-- SLATE_OP_START (R98). -/
def execSlateOpStart (c : CoreId) (s : State) : Host.Outcome State Fault Refusal := go (slateOpStart s c)
/-- SLATE_OP_COMPLETE (R76). -/
def execSlateOpComplete (c : CoreId) (s : State) : Host.Outcome State Fault Refusal := go (slateOpComplete s c)

end Sys2Proof.Machine
end

