-- ==== Sys2Proof/Machine/StreamRows.lean ====
section
/-!
DEFINITION. The stream commands: the operations of R172 as they issue, the transfers of R168 to R170, and the LINK hand-over of R171.
-/
namespace Sys2Proof.Machine

/-! ## LINK streams (R171) -/

/-- The logical cores of a mask, in order. -/
def coresOfMask (m : Nat) : List Nat := (List.range 8).filter (bitOf m)
/-- The rank of a logical core within a mask. -/
def rankIn (m core : Nat) : Nat := ((coresOfMask m).filter (fun k => k < core)).length
/-- The core of a cluster at a rank within a mask. -/
def coreAtRank (cl m rank : Nat) : Option CoreId := ((coresOfMask m).getD rank 8 |> fun k => if k < 8 then some (Fin.ofNat 512 (8 * cl + k)) else none)

/-- The consumer core of a producer core's LINK descriptor: the core of the cluster that runs stage LINK_STAGE and has the same rank in its mask, once that stage has started. -/
def State.linkConsumer (s : State) (c : CoreId) (g : Stage) (sd : StreamDesc) : Option (CoreId × Stage) :=
  let cl := clusterOfCore c
  let rank := rankIn g.coreMask.toNat (logicalCore c)
  (List.range 8).findSome? (fun k =>
    let d : CoreId := Fin.ofNat 512 (8 * cl + k)
    match (s.core d).stage with
    | some h =>
      if h.lesson == g.lesson && h.index == sd.linkStage && !h.loading && rankIn h.coreMask.toNat k == rank then some (d, h) else none
    | none => none)

/-- The bytes of one tile row between the two buffers, 128 at a time: source and destination core store offsets and length. -/
def linkRow (src dst : Tile) (rb row : Nat) : List (Nat × Nat × Nat) :=
  (List.range ((rb + 127) / 128)).map (fun k => (src.rowOff k row, dst.rowOff k row, min 128 (rb - 128 * k)))

/-- LINK_BUFFER_MOVE: the oldest buffer that a producer has released moves into the consumer's next buffer, once that is owned by the LINK_IN descriptor and the consumer's stage has started. -/
def linkBufferMove (s : State) (c : CoreId) (d : Nat) : State :=
  let s := s.takeReleases c
  let co := s.core c
  match co.stage with
  | none => s
  | some g =>
    let sd := g.stream d
    let y := co.dyn d
    match y.outPend, s.linkConsumer c g sd with
    | m :: _, some (e, h) =>
      let p := sd.linkDesc
      let pd := h.stream p
      let s := s.takeReleases e
      let w := (s.core e).dyn p
      let due := (y.state = 1 ∨ y.state = 2) ∧ m < y.runStart + y.count
      if sd.valid ∧ sd.dir = dirOut ∧ sd.target = 1 ∧ due ∧ pd.valid ∧ pd.dir = dirLinkIn ∧ w.fillFree pd.nbuf w.started then
        let src := bufferTile g sd m
        let dst := bufferTile h pd w.started
        let rows := (List.range src.rows).flatMap (linkRow src dst sd.rb)
        let scale := (rowParts src.scaleOff src.scaleLen).map (fun q => (q.1, dst.scaleOff + (q.1 - src.scaleOff), q.2))
        let s := s.each (rows ++ scale) (fun s r =>
          s.storeWrite e r.2.1 (s.bytes (coreStoreKey (s.physCore c) r.1) r.2.2) (s.rowPoisoned c r.1))
        let co := s.core c
        let y' := { y with started := m + 1, outPend := y.outPend.drop 1 }
        let s := (s.setCore c (co.setDyn d (y'.complete m))).wakeStreams c
        let ce := s.core e
        let w' := { w with landed := NatSet.insert w.landed w.started, started := w.started + 1, done := w.done + 1 }
        mmaFeed ((s.setCore e (ce.setDyn p w')).wakeStreams e) e
      else s
    | _, _ => s

/-- STREAM_TRANSFER_COMPLETE: a transfer is over; a thread that waits for its buffer goes on, and so does an MMA that it feeds (R170, R172, R174). -/
def streamTransferComplete (s : State) (c : CoreId) (d : Nat) : State := mmaFeed ((streamTransferEnd s c d).wakeStreams c) c

/-! ## The commands -/

/-- SARM (R172). -/
def execSarm (b : Issue) (f : SFields) (s : State) : Host.Outcome State Fault Refusal := go (issue b (.stream .arm f) s)
/-- SWAIT (R172). -/
def execSwait (b : Issue) (f : SFields) (s : State) : Host.Outcome State Fault Refusal := go (issue b (.stream .wait f) s)
/-- SREL (R172). -/
def execSrel (b : Issue) (f : SFields) (s : State) : Host.Outcome State Fault Refusal := go (issue b (.stream .rel f) s)
/-- SQRY (R172). -/
def execSqry (b : Issue) (f : SFields) (s : State) : Host.Outcome State Fault Refusal := go (issue b (.stream .qry f) s)
/-- STREAM_TRANSFER_START (R168). -/
def execStreamTransferStart (c : CoreId) (d : Fin 64) (s : State) : Host.Outcome State Fault Refusal := .next (streamTransferStart s c d)
/-- STREAM_REQUEST_SEND (R170). -/
def execStreamRequestSend (c : CoreId) (s : State) : Host.Outcome State Fault Refusal := .next (streamRequestSend s c)
/-- STREAM_REQUEST_RETURN (R170). -/
def execStreamRequestReturn (c : CoreId) (n : Nat) (s : State) : Host.Outcome State Fault Refusal := .next (streamRequestReturn s c n)
/-- STREAM_TRANSFER_COMPLETE (R170). -/
def execStreamTransferComplete (c : CoreId) (d : Fin 64) (s : State) : Host.Outcome State Fault Refusal :=
  .next (streamTransferComplete s c d)
/-- LINK_BUFFER_MOVE (R171). -/
def execLinkBufferMove (c : CoreId) (d : Fin 64) (s : State) : Host.Outcome State Fault Refusal := .next (linkBufferMove s c d)

end Sys2Proof.Machine
end

