-- ==== Sys2Proof/Machine/Lessons.lean ====
section
/-!
DEFINITION. Lessons: dispatch, parts and stages on clusters, stop, the retire point and completion records, and the repair of cores and instruction stores between lessons (R85, R86, R116, R153 to R165, R180 to R183, R353, R436, R437).
-/
namespace Sys2Proof
open Machine

/-- OPC of a command entry (R351). -/
def CmdEntry.opc (e : CmdEntry) : Nat := bits e.dw0.toNat 0 8
/-- FENCE. -/
def CmdEntry.fence (e : CmdEntry) : Bool := bitOf e.dw0.toNat 9
/-- PHASE. -/
def CmdEntry.phase (e : CmdEntry) : Bool := bitOf e.dw0.toNat 8
/-- INLINE_LEN. -/
def CmdEntry.inlineLen (e : CmdEntry) : Nat := bits e.dw0.toNat 16 9
/-- LESSON. -/
def CmdEntry.lesson (e : CmdEntry) : Nat := bits e.dw3.toNat 0 16
/-- ARG k. -/
def CmdEntry.arg (e : CmdEntry) (k : Nat) : Nat := (e.args.getD k 0).toNat

end Sys2Proof
namespace Sys2Proof.Machine

/-- The opcodes of R352. -/
abbrev opLESSON : Nat := 0x01
/-- ABORT. -/
abbrev opABORT : Nat := 0x02
/-- PLACE. -/
abbrev opPLACE : Nat := 0x03
/-- EXPORT. -/
abbrev opEXPORT : Nat := 0x04
/-- LOAD. -/
abbrev opLOAD : Nat := 0x10
/-- ACTIVATE. -/
abbrev opACTIVATE : Nat := 0x11

/-- The earliest command that a queue has taken and not executed, among some opcodes. -/
def State.takenFirst (s : State) (q : Nat) (ops : List Nat) : Option Taken := (s.queue q).taken.find? (fun t => ops.elem t.entry.opc)
/-- A command leaves its queue's list of those not executed. -/
def State.dropTaken (s : State) (q : Nat) (t : Taken) : State :=
  let k := s.queue q
  s.setQueue q { k with taken := k.taken.filter (fun x => x.order != t.order) }

/-! ## Completion records (R182, R183) -/

/-- STATUS codes of lessons (R183). -/
def stopStatus : StopCause → Nat
  | .aborted _ => 1
  | .faulted _ => 2
  | .clusterRetired => 3
  | .timeout => 4
  | .reset => 5
  | .linkDown => 7

/-- The cause that decides a lesson's status: an abort or a detach, else the first accepted (R182). -/
def Lesson.decided (l : Lesson) : Option StopCause :=
  match l.abortSeen with
  | some d => some (.aborted d)
  | none => l.cause

/-- CAUSE of the record. -/
def stopDetail : StopCause → Nat
  | .aborted d => bit d
  | .faulted b => bit b
  | _ => 0

/-- The cores on which a stage of a lesson is placed. -/
def Lesson.placed (l : Lesson) (s : State) (k : Nat) : List Nat :=
  let mask := s.stageCores l.home.val l.lib k
  (List.range 512).filter (fun c => bitOf l.clusterMask.toNat (clusterOfCore c) && bitOf mask (logicalCore c))

/-- STAGE_STATE of a stage: 0 started nowhere, 2 ended on every core it is placed on, 1 otherwise. -/
def Lesson.stageState (l : Lesson) (s : State) (k : Nat) : Nat :=
  if !l.stagesStarted.any (fun x => x.1 == k) then 0
  else if (l.placed s k).all (fun c => l.stagesEnded.elem (k, c)) then 2
  else 1

/-- The fault fields of a completion record, bits [383:256]. -/
def faultBits : Option FaultInfo → Nat
  | none => 0
  | some f => f.stack + f.cluster * 2 ^ 2 + f.core * 2 ^ 6 + f.thread * 2 ^ 9 + f.code * 2 ^ 13 + f.pc * 2 ^ 21 + f.detail * 2 ^ 64

/-- The completion record of a lesson (R183). One whose home Tutor has been reset claims the worst case (R450). -/
def State.lessonRecord (s : State) (l : Lesson) (ok : Bool) : List Byte :=
  let cause := if ok then none else l.decided
  let stages := if l.lost then 0x5555 else (List.range l.nstages).foldl (fun a k => a + l.stageState s k * 2 ^ (2 * k)) 0
  toBytes 64 (l.tag.toNat + l.lib * 2 ^ 32
    + (match cause with | some c => stopStatus c | none => 0) * 2 ^ 48
    + (match cause with | some c => stopDetail c | none => 0) * 2 ^ 56
    + l.step.toNat * 2 ^ 64 + (if l.lost then 0 else l.startTime.toNat) * 2 ^ 96 + s.now * 2 ^ 160 + stages * 2 ^ 224
    + bit (l.lost || l.wroteMemory) * 2 ^ 240 + bit (l.lost || l.handedAssembly) * 2 ^ 241 + bit ok * 2 ^ 242 + bit l.fault.isSome * 2 ^ 243
    + bit l.bellBroken * 2 ^ 244 + faultBits l.fault * 2 ^ 256)

/-- A record that names no running lesson: NO_SUCH_LESSON and the abort completions (R154, R181, R183). -/
def State.shortRecord (s : State) (tag lesson status step : Nat) : List Byte :=
  toBytes 64 (tag + lesson * 2 ^ 32 + status * 2 ^ 48 + step * 2 ^ 64 + s.now * 2 ^ 160)

/-! ## LESSON (R154, R155, R353) -/

/-- The parts that a Tutor has been told of wait on their clusters. -/
def State.dispatchParts (s : State) (id st : Nat) : State :=
  match s.lesson id with
  | none => s
  | some l =>
    if l.cause.isSome then s
    else s.each l.parts (fun s p =>
      let cl := s.cluster p.1
      if stackOfCluster p.1 == st && p.2 = .notStarted && !cl.waiting.elem id && cl.run != some id then
        s.setCluster p.1 { cl with waiting := cl.waiting ++ [id] }
      else s)

/-- The lesson that a LESSON command starts, from its header `h` in the library (R154). -/
def newLesson (q : QueueId) (home : StackId) (part : Nat) (t : Taken) (h : Nat) : Lesson :=
  { id := t.order, queue := q, generation := t.generation, cmdIndex := t.index, home := home, part := part, lib := t.entry.lesson
    tag := t.entry.tag, step := t.entry.step, args := (t.entry.args ++ List.replicate 6 0).take 6, nstages := bits h 0 4
    stopOnDetach := bitOf h 4, scheduled := bitOf h 5, position := none, clusterMask := BitVec.ofNat 64 (bits h 64 64)
    timeoutUs := bits h 128 32, parts := ((List.range 64).filter (bitOf (bits h 64 64))).map (fun c => (c, PartState.notStarted))
    startTime := 0, stagesStarted := [], stagesEnded := [], wroteMemory := false, handedAssembly := false
    bellBroken := false, fault := none, cause := none, abortSeen := none, retiring := false, lost := false, stats := [] }

/-- Whether a lesson has parts on two stacks whose Hallway link is DOWN (R220). -/
def State.acrossDown (s : State) (l : Lesson) : Bool :=
  let on (st : Nat) : Bool := l.parts.any (fun p => stackOfCluster p.1 == st)
  [0, 1, 2, 3, 4, 5].any (fun k => s.fld F.hallwayStateLink k == 2 && on (hallwayEnds k).1 && on (hallwayEnds k).2)

/-- A LESSON command that is accepted: its inline payload is placed, the lesson is outstanding, and its parts are dispatched (R154, R155). One that a STOP or a detach found waiting is stopped at once, with no payload placed (R181, R331), and so is one with parts on both ends of a DOWN link (R220). -/
def State.startLesson (s : State) (q : QueueId) (home : StackId) (part : Nat) (t : Taken) : State :=
  let e := t.entry
  let s := if e.inlineLen == 0 || t.stopped then s
    else s.writeFrom home.val 7 (bits (e.arg 5) 0 50) ((e.inline ++ List.replicate 448 0).take e.inlineLen) false
  let h := s.num (s.lessonAddr home e.lesson) 64
  let s := { s with lessons := s.lessons ++ [newLesson q home part t h] }
  let s := s.claim part t.order
  if t.stopped then s.stopLesson t.order (.aborted false)
  else if s.acrossDown (newLesson q home part t h) then s.stopLesson t.order .linkDown
  else s.each ([0, 1, 2, 3].filter (fun st => bits (bits h 64 64) (16 * st) 16 != 0)) (fun s st =>
    if st == home.val then s.dispatchParts t.order st
    else { s with partMsgs := s.partMsgs ++ [.dispatch t.order (Fin.ofNat 4 st)] })

/-- LESSON: the earliest LESSON command that the queue has taken is carried out. -/
def lessonCommand (s : State) (q : QueueId) : State :=
  match s.takenFirst q [opLESSON] with
  | none => s
  | some t =>
    let e := t.entry
    let s := s.dropTaken q t
    let home : StackId := Fin.ofNat 4 (s.fld F.queueConfigHome 0 q)
    let part := s.fld F.queueConfigPart 0 q
    let dest := bits (e.arg 5) 0 50
    if s.fld F.tutorSylStateActive home.val == 0 || (s.tutor home).lessonCount ≤ e.lesson then
      s.completeRec q t.generation (s.shortRecord e.tag.toNat e.lesson 6 e.step.toNat)
    else if e.inlineLen != 0 && (bits (e.arg 5) 50 14 != 0 || dest % 32 != 0 || !s.rangeInRegion part dest e.inlineLen || s.overStaging dest e.inlineLen) then
      s.completeQueue q t.generation e.tag.toNat opLESSON t.index 0x21 0 0
    else s.startLesson q home part t

/-! ## Parts -/

/-- Sets the state of a lesson's part. -/
def State.setPart (s : State) (id cl : Nat) (p : PartState) : State :=
  s.onLesson id (fun l => { l with parts := l.parts.map (fun x => if x.1 == cl then (cl, p) else x) })

/-- The lesson that a message between Tutors is about. -/
def PartMsg.about : PartMsg → Nat
  | .dispatch id _ => id
  | .ended id .. => id
  | .fault id _ => id
/-- Whether a report about a lesson is on its way to its home Tutor. -/
def State.reportsFor (s : State) (id : Nat) : Bool :=
  s.partMsgs.any (fun m => m.about == id && (match m with | .dispatch .. => false | _ => true))

/-- A lesson reaches its retire point: every part has ended, the home Tutor has handled every report, and no stop cause was accepted. From then on it cannot be stopped (R180, R181). -/
def State.noteRetire (s : State) (id : Nat) : State :=
  if s.reportsFor id then s
  else s.onLesson id (fun l => if l.cause.isNone && l.parts.all (fun p => p.2 == .ended) then { l with retiring := true } else l)

/-- A part has ended on a cluster: its Tutor tells the home Tutor (R155). -/
def State.reportEnd (s : State) (id : Nat) (cl : ClusterId) (stopped : Bool) : State :=
  match s.lesson id with
  | none => s
  | some l =>
    if stackOfCluster cl == l.home.val then (s.setPart id cl .ended).noteRetire id
    else { s with partMsgs := s.partMsgs ++ [.ended id cl stopped] }

/-- The two stacks between which a message passes, and its kind. -/
def State.msgPath (s : State) (m : PartMsg) : Nat × Nat × Nat :=
  let home := match s.lesson m.about with | some l => l.home.val | none => 0
  match m with
  | .dispatch _ st => (home, st.val, 0)
  | .ended _ cl _ => (stackOfCluster cl, home, 1)
  | .fault _ i => (i.stack, home, 2)

/-- A message about a lesson is handled by its Tutor. One that dispatches a part cannot cross a DOWN link, and its lesson is stopped; a report is handled all the same (R155, R220; DESIGN CHOICE, log entry 17: a lesson always completes). -/
def State.handleMsg (s : State) (m : PartMsg) : State :=
  let p := s.msgPath m
  let s' := s.countHallway p.1 p.2.1 (Config.tutorMsgBytes p.2.2)
  match m with
  | .dispatch id st => if s.hallwayDown p.1 p.2.1 then s.stopLesson id .linkDown else s'.dispatchParts id st.val
  | .ended id cl _ => (s'.setPart id cl .ended).noteRetire id
  | .fault id info => ((s'.onLesson id (fun l => { l with fault := some (l.fault.getD info) })).stopLesson id (.faulted false)).noteRetire id

/-- TUTOR_PART_MESSAGE: a message about a lesson reaches its Tutor (R155, R181). -/
def tutorPartMessage (s : State) (n : Nat) : State :=
  match s.partMsgs[n]? with
  | none => s
  | some m => { s with partMsgs := s.partMsgs.eraseIdx n }.handleMsg m

/-! ## Stages (R158 to R162) -/

/-- A stage record read from the resident copy of a stack. -/
def State.readStage (s : State) (l : Lesson) (st k : Nat) : Stage :=
  let a := s.stageAddr st l.lib k
  let h := s.num a 64
  { lesson := l.id, index := k, loading := true, coreMask := BitVec.ofNat 8 h, threadMask := BitVec.ofNat 16 (bits h 16 16)
    entryPc := BitVec.ofNat 20 (bits h 32 20), progLo := bits h 64 20, progHi := bits h 96 21, args := l.args, step := l.step
    tregs := (List.range 16).map (fun i => BitVec.ofNat 64 (s.num (a + 0x100 + 8 * i) 8))
    tdesc := (List.range 64).foldl (fun t i => Tab.set 0 t i (BitVec.ofNat 256 (s.num (a + 0x180 + 32 * i) 32))) []
    sdesc := (List.range 64).foldl (fun t i => Tab.set 0 t i (BitVec.ofNat 512 (s.num (a + 0x980 + 64 * i) 64))) [] }

/-- A core begins to load the first of a lesson's stages from `k` on that is placed on it; it stays idle where none is (R159). -/
def State.loadFrom (s : State) (c : CoreId) (l : Lesson) (k : Nat) : State :=
  let st := stackOfCore c
  let co := s.core c
  match ((List.range l.nstages).filter (fun j => k ≤ j)).find? (fun j => bitOf (s.stageCores st l.lib j) (logicalCore c)) with
  | none => s.setCore c { co with stage := none, threads := [], sreqs := [], streams := [] }
  | some j =>
    (s.setCore c { co with stage := some (s.readStage l st j), threads := [], sreqs := [], streams := [] }).onLesson l.id
      (fun x => { x with stagesStarted := x.stagesStarted ++ [(j, c.val)] })

/-- A part starts on a cluster: its cores load their first stages (R156, R159). -/
def State.startPart (s : State) (cl : ClusterId) (l : Lesson) : State :=
  let u := s.cluster cl
  let s := s.setCluster cl { u with run := some l.id, waiting := u.waiting.filter (fun w => w != l.id), stopping := false }
  let s := s.setPart l.id cl .running
  let s := s.onLesson l.id (fun x => if x.startTime = 0 then { x with startTime := BitVec.ofNat 64 s.now } else x)
  let s := s.entryStarts l cl
  s.each [0, 1, 2, 3, 4, 5, 6, 7] (fun s k => s.loadFrom (Fin.ofNat 512 (8 * cl.val + k)) l 0)

/-- Whether the parts of a lesson may start on a cluster (R156, R380). -/
def State.partReady (s : State) (cl : Nat) (l : Lesson) : Bool :=
  l.cause.isNone && (!l.scheduled || (match l.position with | some p => s.positionCome l.part p cl | none => false))

/-- Whether an unscheduled lesson's part for a cluster has still to reach it although its command was taken before lesson `id`: the command has not been carried out, or the dispatch is on its way (R156). -/
def State.earlierDue (s : State) (cl id : Nat) : Bool :=
  s.lessons.any (fun x => decide (x.id < id) && !x.scheduled && x.cause.isNone && x.parts.any (fun p => p.1 == cl && p.2 == .notStarted))
    || s.queues.any (fun e =>
      let home : StackId := Fin.ofNat 4 (s.fld F.queueConfigHome 0 e.1)
      e.2.taken.any (fun t =>
        let h := s.num (s.lessonAddr home t.entry.lesson) 64
        t.entry.opc == opLESSON && decide (t.order < id) && !t.stopped && decide (t.entry.lesson < (s.tutor home).lessonCount)
          && !bitOf h 5 && bitOf (bits h 64 64) cl))

/-- The part that starts next on an idle cluster: a scheduled one that is ready before an unscheduled one, each in its order; an unscheduled one waits for those taken before it (R156). -/
def State.nextPart (s : State) (cl : Nat) : Option Lesson :=
  let ls := s.lessons.filter (fun l => (s.cluster cl).waiting.elem l.id && s.partReady cl l)
  let low (f : Lesson → Nat) : Option Lesson → Lesson → Option Lesson
    | none, l => some l
    | some m, l => if f l < f m then some l else some m
  match (ls.filter (fun l => l.scheduled)).foldl (low (fun l => l.position.getD 0)) none with
  | some l => some l
  | none =>
    match (ls.filter (fun l => !l.scheduled)).foldl (low (fun l => l.id)) none with
    | some l => if s.earlierDue cl l.id then none else some l
    | none => none

/-- LESSON_PART_START: a part starts on an idle cluster whose clock runs; on a RETIRED cluster it does not run and the lesson stops (R156, R157). -/
def lessonPartStart (s : State) (cl : ClusterId) : State :=
  let u := s.cluster cl
  match s.nextPart cl with
  | none => s
  | some l =>
    if u.run.isSome || s.outOfService (stackOfCluster cl) then s
    else if s.fld F.clusterStateRetired cl == 1 then
      let s := s.setCluster cl { u with waiting := u.waiting.filter (fun w => w != l.id) }
      let s := s.setPart l.id cl .ended
      (s.entryStarts l cl).stopLesson l.id .clusterRetired
    else if u.pll = .on ∧ [0, 1, 2, 3, 4, 5, 6, 7].all (fun k => !(s.core (Fin.ofNat 512 (8 * cl.val + k))).testPending) ∧ u.istoreBad = [] then
      s.startPart cl l
    else s

/-- Closes a LINK_IN descriptor; a thread that waits for a buffer that will not come faults at its SWAIT (R168, R173). -/
def State.closeLink (s : State) (c : CoreId) (d : Nat) : State :=
  let co := s.core c
  (s.setCore c (co.setDyn d { co.dyn d with state := 4 })).wakeStreams c

/-- A producer stage has ended on a core: the LINK_IN descriptors it feeds are closed where their stage runs (R168). -/
def State.closeFed (s : State) (c : CoreId) (g : Stage) : State :=
  s.each (List.range 64) (fun s d =>
    let sd := g.stream d
    if sd.valid && sd.dir == dirOut && sd.target == 1 then
      match s.linkConsumer c g sd with
      | some (e, _) => s.closeLink e sd.linkDesc
      | none => s
    else s)

/-- Whether a stage has ended on its core (R161). -/
def Core.stageOver (co : Core) (g : Stage) : Bool :=
  !g.loading && (List.range 16).all (fun n => !g.threadMask.getLsbD n || (co.thread n).state == .halted)
    && co.unfinished.isEmpty && co.streamQ.isEmpty && co.outst.isEmpty
    && (List.range 64).all (fun d =>
      let sd := g.stream d
      !sd.valid || sd.dir != dirOut || ((co.dyn d).outPend.isEmpty && (co.dyn d).xfers.isEmpty))

/-- The statistics of a core's stage pass to the lesson, by the address of their record (R165). -/
def stageStats (co : Core) (g : Stage) : List (Nat × Stats) :=
  ((List.range 64).filter (fun d => (g.tensor d).valid && (g.tensor d).statsEn)).filterMap (fun d =>
    let x := Tab.get Stats.zero co.stats d
    if x = Stats.zero then none else some ((g.tensor d).statsAddr, x))

/-- Whether no core of a cluster runs a stage. -/
def State.coresIdle (s : State) (cl : Nat) : Bool :=
  [0, 1, 2, 3, 4, 5, 6, 7].all (fun k => (s.core (Fin.ofNat 512 (8 * cl + k))).stage.isNone)

/-- STAGE_END: a stage ends on a core, and the next one placed there begins to load; with the last of the cluster's stages its part has ended (R159, R161, R165). -/
def stageEnd (s : State) (c : CoreId) : State :=
  let s := s.takeReleases c
  let co := s.core c
  let cl : ClusterId := Fin.ofNat 64 (clusterOfCore c)
  match co.stage with
  | none => s
  | some g =>
    if co.stageOver g && !(s.cluster cl).stopping then
      match s.lesson g.lesson with
      | none => s
      | some l =>
        let s := s.onLesson g.lesson (fun x => { x with stagesEnded := x.stagesEnded ++ [(g.index, c.val)], stats := x.stats ++ stageStats co g })
        let s := s.closeFed c g
        let s := (s.setCore c { s.core c with stats := [] }).loadFrom c l (g.index + 1)
        if s.coresIdle cl then (s.setCluster cl { s.cluster cl with run := none }).reportEnd g.lesson cl false
        else s
    else s

/-- The registers of a thread at stage start (R91). -/
def startThread (g : Stage) (n : Nat) : Thread :=
  let x := Tab.set 0 [] 1 (BitVec.ofNat 64 n)
  let x := (List.range 6).foldl (fun x i => Tab.set 0 x (i + 2) (g.args.getD i 0)) x
  let t := (List.range 16).foldl (fun t i => Tab.set 0 t i (g.tregs.getD i 0)) []
  { Thread.init with x := x, t := t, pc := g.entryPc, state := .ready }

/-- The address of the image of a function table in a stack's TABLE_BASE area: records of 8 bytes of ID and 8,256 of image (R137, R377). -/
def State.tableAddr (s : State) (st id : Nat) : Option Nat :=
  let t := s.tutor st
  ((List.range t.tableCount).find? (fun k => s.num (t.tableBase + 8264 * k) 2 == id)).map (fun k => t.tableBase + 8264 * k + 8)

/-- Loads the function tables that a stage lists; one already held in its number with its identifier is not loaded again (R160). One whose image is poisoned is held as a table that cannot be read, so that an evaluation of it raises POISON (R423, R424). -/
def State.loadTables (s : State) (c : CoreId) (ids : List Nat) : State :=
  s.each ids.zipIdx (fun s p =>
    let co := s.core c
    if p.1 == Tab.get 0xFFFF co.tableIds p.2 then s
    else
      match s.tableAddr (stackOfCore c) p.1 with
      | some a => s.setCore c { co with
          tableIds := Tab.set 0xFFFF co.tableIds p.2 p.1
          tableImgs := Tab.set [] co.tableImgs p.2 (s.bytes a 8256)
          tableBad := if s.anyPoison a 8256 then NatSet.insert co.tableBad p.2 else NatSet.erase co.tableBad p.2 }
      | none => s.setCore c { co with tableIds := Tab.set 0xFFFF co.tableIds p.2 0xFFFF })

/-- STAGE_LOAD_COMPLETE: the load ends, the active threads become READY and AUTO_ARM descriptors begin their runs (R91, R160, R168); the transpose buffer is empty (R125). -/
def stageLoadComplete (s : State) (c : CoreId) : State :=
  let co := s.core c
  match co.stage with
  | none => s
  | some g =>
    match s.lesson g.lesson with
    | none => s
    | some l =>
      if g.loading && !(s.cluster (clusterOfCore c)).stopping then
        let a := s.stageAddr (stackOfCore c) l.lib g.index
        let g := { g with loading := false }
        let tab (off n : Nat) : Tab Byte := (List.range n).foldl (fun t i => Tab.set 0 t i (s.byte (a + off + i))) []
        let threads := (List.range 16).foldl (fun t n => if g.threadMask.getLsbD n then Tab.set Thread.init t n (startThread g n) else t) []
        let streams := (List.range 64).foldl (fun t d => Tab.set StreamDyn.init t d (StreamDyn.atStageStart (g.stream d) g.args)) []
        let co := { co with stage := some g, owner := tab 0x80 128, slateMap := tab 0x60 32, threads := threads, streams := streams, stats := [], transposeBad := false }
        let s := (s.setCore c co).loadTables c ((List.range 16).map (fun i => s.num (a + 0x40 + 2 * i) 2))
        s.each (List.range 64) (fun s d =>
          let sd := g.stream d
          let ended := (coresOfMask (s.stageCores (stackOfCore c) l.lib sd.linkStage)).any (fun k =>
            rankIn (s.stageCores (stackOfCore c) l.lib sd.linkStage) k == rankIn g.coreMask.toNat (logicalCore c)
              && l.stagesEnded.elem (sd.linkStage, 8 * clusterOfCore c + k))
          if sd.valid && sd.dir == dirLinkIn && ended then s.closeLink c d else s)
      else s

/-! ## Stopping (R116, R178, R182) -/

/-- A stream descriptor at a stop: transfers that have sent no request and re-arms are dropped, started fills are discarded as they land. -/
def StreamDyn.stopped (y : StreamDyn) (out : Bool) : StreamDyn :=
  { y with
    state := if y.state = 1 ∨ y.state = 2 then 3 else y.state
    latched := none, outPend := []
    xfers := (y.xfers.filter (fun x => x.sent != 0)).map (fun x => { x with discard := !out }) }

/-- A core at a stop: queued engine and stream operations that have not started are discarded. So is an MMA whose next stream buffer has not landed, since none lands any more (DESIGN CHOICE, log entry 16). -/
def Core.stopped (co : Core) : Core :=
  match co.stage with
  | none => co
  | some g =>
    { co with
      mmaQ := [], slateQ := [], vecQ := [], gathQ := [], finQ := [], streamQ := [], mmaRun := co.mmaRun.filter (fun r => decide (r.k ≤ r.kDone))
      streams := (List.range 64).foldl (fun t d => Tab.set StreamDyn.init t d ((co.dyn d).stopped ((g.stream d).dir == dirOut))) [] }

/-- Held arrivals by threads of a cluster are withdrawn (R178). -/
def State.withdrawHeld (s : State) (cl : Nat) : State :=
  s.each s.bells (fun s e => s.setBell e.1 { s.bell e.1 with held := (s.bell e.1).held.filter (fun a => clusterOfCore a.1 != cl) })

/-- Whether the sequencer stops the lesson of a cluster: a stop cause is accepted, or a thread of the cluster has faulted. -/
def State.stopDue (s : State) (cl : Nat) (id : Nat) : Bool :=
  (s.lesson id).any (fun l => l.cause.isSome)
    || [0, 1, 2, 3, 4, 5, 6, 7].any (fun k =>
      let co := s.core (Fin.ofNat 512 (8 * cl + k))
      (List.range 16).any (fun n => (co.thread n).state == .faulted))

/-- CLUSTER_LESSON_STOP: the sequencer stops the lesson on its cluster and breaks the open episodes in which its cores take part (R116, R178). -/
def clusterLessonStop (s : State) (cl : ClusterId) : State :=
  let u := s.cluster cl
  match u.run with
  | none => s
  | some id =>
    if u.stopping || !s.stopDue cl id then s
    else
      let s := s.setCluster cl { u with stopping := true }
      let s := s.setPart id cl .stopping
      let s := s.each [0, 1, 2, 3, 4, 5, 6, 7] (fun s k =>
        let c : CoreId := Fin.ofNat 512 (8 * cl.val + k)
        s.setCore c (s.core c).stopped)
      let s := s.withdrawHeld cl
      s.each (s.groupsOn cl) (fun s g => s.ownBreak g)

/-- Whether every started operation of a core has finished. -/
def Core.drained (co : Core) : Bool :=
  co.unfinished.isEmpty && co.outst.isEmpty && (List.range 64).all (fun d => (co.dyn d).xfers.isEmpty)

/-- CORES_REPORT_IDLE: every started operation of a stopped lesson has finished; every thread of the cluster is IDLE (R116). -/
def coresReportIdle (s : State) (cl : ClusterId) : State :=
  let u := s.cluster cl
  match u.run with
  | none => s
  | some id =>
    if u.stopping && [0, 1, 2, 3, 4, 5, 6, 7].all (fun k => (s.core (Fin.ofNat 512 (8 * cl.val + k))).drained) then
      let s := s.each [0, 1, 2, 3, 4, 5, 6, 7] (fun s k =>
        let c : CoreId := Fin.ofNat 512 (8 * cl.val + k)
        s.setCore c { s.core c with threads := [], stage := none, streams := [], sreqs := [], stats := [] })
      (s.setCluster cl { u with run := none, stopping := false }).reportEnd id cl true
    else s

/-- LESSON_TIMEOUT: TIMEOUT_US, other than 0, has run out since the lesson's first part start (R153, R182). -/
def lessonTimeout (s : State) (id : Nat) : State :=
  match s.lesson id with
  | none => s
  | some l => if l.timeoutUs != 0 && l.parts.any (fun p => p.2 != .notStarted && p.2 != .withdrawn) then s.stopLesson id .timeout else s

/-! ## Retire and completion (R165, R180 to R183) -/

/-- A lesson is no longer outstanding. -/
def State.dropLesson (s : State) (id : Nat) : State := { s with lessons := s.lessons.filter (fun l => l.id != id) }

/-- LESSON_RETIRE: every part has ended, and the home Tutor has handled every report with no stop cause; the statistics are merged at their home slices and the record is OK. -/
def lessonRetire (s : State) (id : Nat) : State :=
  match s.lesson id with
  | none => s
  | some l =>
    if l.cause.isNone && l.parts.all (fun p => p.2 == .ended) && !s.reportsFor id then
      let s := s.each l.stats (fun s x => s.statsFrom l.home.val x.1 x.2)
      let s := s.bump F.tutorRetiredCount l.home.val 0 1
      (s.dropLesson id).completeRec l.queue l.generation (s.lessonRecord l true)
    else s

/-- The counter of a stop cause (R184). -/
def stopCounter : StopCause → RegField
  | .aborted _ => F.tutorAbortedCount
  | .faulted _ => F.tutorFaultedCount
  | _ => F.tutorOtherStopsCount

/-- Whether a part of a stopped lesson never ran: it was withdrawn, or its cluster is RETIRED and started none of its stages (R157, R182). -/
def State.neverRan (s : State) (l : Lesson) (p : Nat × PartState) : Bool :=
  p.2 == .withdrawn
    || (p.2 == .ended && s.fld F.clusterStateRetired p.1 == 1 && !l.stagesStarted.any (fun x => clusterOfCore x.2 == p.1))

/-- The open Bell episodes in which cores of a stopped lesson's parts that never ran were still to arrive are broken, and the lesson is marked: those of the clusters that run no other lesson meanwhile (R178, R183; DESIGN CHOICE, log entry 19, for whose arrival a waiting part's cores owe). -/
def State.breakUnstarted (s : State) (l : Lesson) : State :=
  s.each (l.parts.filter (fun p => s.neverRan l p && (s.cluster p.1).run.isNone)) (fun s p =>
    s.each (s.groupsOn p.1) (fun s g =>
      if s.releaseDue g then s else (s.ownBreak g).onLesson l.id (fun x => { x with bellBroken := true })))

/-- LESSON_COMPLETION_WRITE: a stopped lesson completes once every cluster has reported idle, the home Tutor has handled every report, and every write already sent has completed (R182). -/
def lessonCompletionWrite (s : State) (id : Nat) : State :=
  match s.lesson id with
  | none => s
  | some l =>
    match l.decided with
    | none => s
    | some c =>
      if l.parts.all (fun p => p.2 == .ended || p.2 == .withdrawn || (l.lost && (s.cluster p.1).run != some id))
          && (l.lost || !s.reportsFor id) then
        let s := s.breakUnstarted l
        let l := (s.lesson id).getD l
        let s := s.bumpSat (stopCounter c) l.home.val 0 1
        (s.dropLesson id).completeRec l.queue l.generation (s.lessonRecord l false)
      else s

/-- ABORT: the oldest outstanding lesson of the queue with the TAG that ARG0 names is stopped, unless it has reached its retire point (R154, R181). One that the queue took after a LESSON is carried out after it (R354). -/
def abortCommand (s : State) (q : QueueId) : State :=
  match s.takenFirst q [opLESSON, opABORT] with
  | none => s
  | some t =>
    if t.entry.opc != opABORT then s else
    let e := t.entry
    let s := s.dropTaken q t
    let gen := t.generation
    let target := bits (e.arg 0) 0 32
    match s.lessons.find? (fun l => l.queue == q && l.tag.toNat == target) with
    | some l =>
      if l.retiring then s.completeRec q gen (s.shortRecord e.tag.toNat 0xFFFF 0x11 target)
      else (s.stopLesson l.id (.aborted false)).completeRec q gen (s.shortRecord e.tag.toNat 0xFFFF 0x10 target)
    | none => s.completeRec q gen (s.shortRecord e.tag.toNat 0xFFFF 0x11 target)

/-! ## Repairs between lessons (R85, R86, R436, R437) -/

/-- A cluster becomes RETIRED (R86, R436). -/
def State.retireCluster (s : State) (cl : Nat) : State :=
  (s.setFld F.clusterStateRetired cl 0 1).logError .cluster cl uncorrected 0x01A 0 0

/-- A core is retired, by cause 2 at a self-test or 3 at a store test, and the spare stands behind its logical number; with no spare left the cluster is RETIRED. The CLOCK values and STATUS.PHYS go with the physical cores (R23, R85, R86, R117, R444). -/
def State.retireCore (s : State) (cl : ClusterId) (k : Fin 8) (why : Nat) : State :=
  let c : CoreId := Fin.ofNat 512 (8 * cl.val + k.val)
  let map := s.reg .clusterCoreMap cl
  let old := bits map (4 * k.val) 4
  let spare := s.fld F.clusterCoreMapSpare cl
  let s := s.logError .cluster cl notice 0x019 old why
  let s := s.setCore c { s.core c with testPending := false, testFailed := false }
  if spare == 0xF then
    ((s.setFld F.clusterCoreMapRetired cl 0 (s.fld F.clusterCoreMapRetired cl ||| 2 ^ old)).setFld F.coreStatusRetired (coreInst c) 0 1).retireCluster cl
  else
    let map := putBits (putBits (putBits map (4 * k.val) 4 spare) 32 4 0xF) 36 9 (bits map 36 9 ||| 2 ^ old)
    let s := s.setReg .clusterCoreMap cl 0 map
    let i := coreInst c
    let j := 9 * cl.val + 8
    let a := s.reg .coreClock i
    let b := s.reg .coreClock j
    let s := (s.setReg .coreClock i 0 b).setReg .coreClock j 0 a
    let s := ((s.setFld F.coreStatusPhys i 0 spare).setFld F.coreStatusPhys j 0 old).setFld F.coreStatusRetired j 0 1
    let s := s.bump F.clusterSpareSwitchesCount cl 0 1
    let s := s.logError .cluster cl notice 0x018 k.val (old + spare * 2 ^ 4)
    s.setCore c Core.init

/-- SPARE_CORE_SWITCH: with the cluster idle, a core that failed the test of its stores is retired (R85, R436). -/
def spareCoreSwitch (s : State) (cl : ClusterId) (k : Fin 8) : State :=
  if (s.cluster cl).run.isSome || !(s.core (Fin.ofNat 512 (8 * cl.val + k.val))).testFailed then s else s.retireCore cl k 3

/-- CORE_STORE_TEST: with the cluster idle, the Tutor tests the four stores of a core after an uncorrectable error; one that fails must be retired (R436). -/
def coreStoreTest (s : State) (c : CoreId) (pass : Bool) : State :=
  if (s.cluster (clusterOfCore c)).run.isSome || !(s.core c).testPending then s
  else s.setCore c { s.core c with testPending := !pass, testFailed := !pass, slateBad := [], tableBad := [], transposeBad := false }

/-- The address in the resident copy of a byte of a cluster's programs (R381). -/
def State.residentProgram (s : State) (cl off : Nat) : Option Nat :=
  let t := s.tutor (stackOfCluster cl)
  (t.progs.find? (fun p => p.1 == cl && off < p.2.2)).map (fun p => p.2.1 + off)

/-- ISTORE_RELOAD: with the cluster idle, the failing 64-bit word is rewritten from the resident copy and read back; where that fails the cluster is RETIRED (R437). -/
def istoreReload (s : State) (cl : ClusterId) (off : Nat) (ok : Bool) : State :=
  let u := s.cluster cl
  if u.run.isSome || !u.istoreBad.any (fun a => a / 16 == off / 16) then s
  else
    let s := s.setCluster cl { u with istoreBad := u.istoreBad.filter (fun a => a / 16 != off / 16) }
    let s := s.logError .cluster cl uncorrected 0x005 off (bit !ok)
    if ok then
      let w := off / 8 * 8
      s.setBytes (istoreKey cl w) (match s.residentProgram cl w with | some a => s.bytes a 8 | none => List.replicate 8 0)
    else s.retireCluster cl

/-! ## The commands -/

/-- LESSON (R154). -/
def execLesson (q : QueueId) (s : State) : Host.Outcome State Fault Refusal := .next (lessonCommand s q)
/-- TUTOR_PART_MESSAGE (R155). -/
def execTutorPartMessage (n : Nat) (s : State) : Host.Outcome State Fault Refusal := .next (tutorPartMessage s n)
/-- LESSON_PART_START (R156, R157). -/
def execLessonPartStart (cl : ClusterId) (s : State) : Host.Outcome State Fault Refusal := .next (lessonPartStart s cl)
/-- STAGE_END (R161). -/
def execStageEnd (c : CoreId) (s : State) : Host.Outcome State Fault Refusal := .next (stageEnd s c)
/-- STAGE_LOAD_COMPLETE (R160). -/
def execStageLoadComplete (c : CoreId) (s : State) : Host.Outcome State Fault Refusal := .next (stageLoadComplete s c)
/-- CLUSTER_LESSON_STOP (R116). -/
def execClusterLessonStop (cl : ClusterId) (s : State) : Host.Outcome State Fault Refusal := .next (clusterLessonStop s cl)
/-- CORES_REPORT_IDLE (R116). -/
def execCoresReportIdle (cl : ClusterId) (s : State) : Host.Outcome State Fault Refusal := .next (coresReportIdle s cl)
/-- LESSON_TIMEOUT (R182). -/
def execLessonTimeout (id : Nat) (s : State) : Host.Outcome State Fault Refusal := .next (lessonTimeout s id)
/-- LESSON_RETIRE (R180). -/
def execLessonRetire (id : Nat) (s : State) : Host.Outcome State Fault Refusal := .next (lessonRetire s id)
/-- LESSON_COMPLETION_WRITE (R182). -/
def execLessonCompletionWrite (id : Nat) (s : State) : Host.Outcome State Fault Refusal := .next (lessonCompletionWrite s id)
/-- ABORT (R181). -/
def execAbort (q : QueueId) (s : State) : Host.Outcome State Fault Refusal := .next (abortCommand s q)
/-- SPARE_CORE_SWITCH (R85). -/
def execSpareCoreSwitch (cl : ClusterId) (core : Fin 8) (s : State) : Host.Outcome State Fault Refusal := .next (spareCoreSwitch s cl core)
/-- CORE_STORE_TEST (R436). -/
def execCoreStoreTest (c : CoreId) (pass : Bool) (s : State) : Host.Outcome State Fault Refusal := .next (coreStoreTest s c pass)
/-- ISTORE_RELOAD (R437). -/
def execIstoreReload (cl : ClusterId) (off : BitVec 20) (ok : Bool) (s : State) : Host.Outcome State Fault Refusal :=
  .next (istoreReload s cl off.toNat ok)

end Sys2Proof.Machine
end

