-- ==== Sys2Proof/Machine/Host.lean ====
section
/-!
DEFINITION. Host coupling: host ports, the Letterbox, doorbells and command fetches, PLACE and EXPORT, and detach (R343 to R370).
-/
namespace Sys2Proof.Machine

/-- LINK codes of a host port (R371). -/
abbrev hDOWN : Nat := 0
/-- TRAINING. -/
abbrev hTRAINING : Nat := 1
/-- UP. -/
abbrev hUP : Nat := 2
/-- HELD. -/
abbrev hHELD : Nat := 3

/-- The link state of a host port. -/
def State.hostLink (s : State) (h : Nat) : Nat := s.fld F.hostStatusLink h

/-! ## Command fetches (R358 to R360) -/

/-- Whether a queue has a command to fetch. -/
def State.available (s : State) (q : Nat) : Bool := s.reg .queueSqHead 0 q != (s.queue q).doorbell.toNat
/-- A fetch of lines of command index `i`, from line `first` of its slot i mod 2^SQ_LOG2, leaves while the port is open (R350, R359). -/
def State.sendFetch (s : State) (q : QueueId) (i first lines : Nat) : State :=
  if s.portOpen (s.ringPort (.queue q)) then
    s.emit (.fetch q i (s.reg .queueSqBase 0 q + i % 2 ^ s.fld F.queueSizesSqLog2 0 q * 512 + 64 * first) lines)
  else s

/-- The queue drops what it was fetching. -/
def State.endFetch (s : State) (q : QueueId) : State :=
  s.setQueue q { s.queue q with fetching := false, fresh := none, restWait := false, stale := 0, refetchDue := 0 }

/-- Fetches bytes 0 to 63 of the next command's slot, where one is available and the queue is ACTIVE (R359). -/
def State.fetchNext (s : State) (q : QueueId) : State :=
  let s := s.endFetch q
  if s.ringState (.queue q) == qACTIVE && s.available q then
    (s.setQueue q { s.queue q with fetching := true }).sendFetch q (s.reg .queueSqHead 0 q) 0 1
  else s

/-- The queue parks with a cause; a module event is raised (R359, R371). -/
def State.park (s : State) (q : QueueId) (cause : Nat) : State :=
  let s := (s.setReg .queueState 0 q (qPARKED + cause * 2 ^ 2)).endFetch q
  let s := s.setFld F.hostEventsParked (s.ringPort (.queue q)) 0 1
  s.eventOther false .queue 0 0x001

/-- Whether a doorbell value runs past the ring (R358). -/
def State.pastRing (s : State) (q t from' : Nat) : Bool := idxDiff t from' > 2 ^ s.fld F.queueSizesSqLog2 0 q

/-- Whether a queue's home stack serves it: the stack is in service, and the Hallway link from the port's stack is not DOWN (R27, R349; DESIGN CHOICE, log entry 27, for the link). -/
def State.homeServes (s : State) (q : Nat) : Bool :=
  let home := s.fld F.queueConfigHome 0 q
  !s.outOfService home && !s.hallwayDown (if s.fld F.queueConfigPort 0 q == 0 then 0 else 2) home

/-- An ACTIVE queue acts on the doorbell values that it has recorded: an invalid one parks it, and otherwise it fetches where it is idle (R27, R358, R360). -/
def State.actOnBell (s : State) (q : QueueId) : State :=
  let k := s.queue q
  if s.ringState (.queue q) != qACTIVE || !s.homeServes q then s
  else if k.badBell then s.park q 2
  else if k.fetching || k.fresh.isSome then s
  else s.fetchNext q

/-- A write of T to QUEUE.DOORBELL (R358): T is judged against SQ_HEAD and the last valid value, and recorded; a queue that is not ACTIVE, or whose home stack does not serve it, acts on it later. -/
def doorbellWrite (s : State) (q : QueueId) (t : BitVec 32) : State :=
  let k := s.queue q
  if t = k.doorbell ∧ !k.badBell then s
  else
    let bad := s.pastRing q t.toNat (s.reg .queueSqHead 0 q) || s.pastRing q t.toNat k.doorbell.toNat
    (s.setQueue q (if bad then { k with badBell := true } else { k with doorbell := t, badBell := false })).actOnBell q

/-- The PHASE that a command index requires (R351). -/
def State.phaseOf (s : State) (q i : Nat) : Bool := i / 2 ^ s.fld F.queueSizesSqLog2 0 q % 2 == 0

/-- The partition byte of a stack in an image's PARTITION_MAP (R375). -/
def State.imagePart (s : State) (img : Image) (st : Nat) : Nat := (s.byte (img.src + 48 + st)).toNat
/-- The stack set of an image (R373). -/
def State.imageStacks (s : State) (img : Image) : List Nat := [0, 1, 2, 3].filter (fun st => s.imagePart img st != 0xFF)
/-- The partitions that an image replaces (R374). -/
def State.replaced (s : State) (img : Image) : List Nat := [0, 1, 2, 3].filter (fun p => (s.imageStacks img).any (fun st => s.partOf st == p))

/-- Whether an ACTIVATE that has been taken and not served yet holds the work of a partition: its queue's own, and those that its image replaces (R389). -/
def State.activateTaken (s : State) (part : Nat) : Bool :=
  s.queues.any (fun e => (e.2.taken.filter (fun t => t.entry.opc == opACTIVATE)).any (fun t =>
    s.fld F.queueConfigPart 0 e.1 == part
      || (s.images.filter (fun i => i.src == bits (t.entry.arg 0) 0 50 && i.len == bits (t.entry.arg 1) 0 32)).any (fun i => (s.replaced i).elem part)))

/-- Whether LESSON, PLACE, EXPORT, LOAD and ACTIVATE of a partition wait: for an activation, or for a Recess (R389, R396). -/
def State.workHeld (s : State) (part : Nat) : Bool :=
  (match s.activation with | some a => (s.replaced a.image).elem part | none => false) || s.activateTaken part
    || (s.stacksOf part).any (fun st => s.fld F.powerPstateState st == 1)

/-- Whether a lesson of some partitions is outstanding: one that its Tutor has, one that has been taken and not carried out, or one whose record waits for the hold ring (R354, R366). -/
def State.lessonsOut (s : State) (parts : List Nat) : Bool :=
  s.lessons.any (fun l => parts.elem l.part)
    || s.queues.any (fun e => parts.elem (s.fld F.queueConfigPart 0 e.1) && e.2.taken.any (fun t => t.entry.opc == opLESSON))
    || s.holdWait.any (fun h => match h.ring with
      | .queue q => parts.elem (s.fld F.queueConfigPart 0 q) && decide (ofBytes ((h.bytes.drop 4).take 2) < 0xFFFE)
      | .step _ => false)

/-- Whether the home Tutor takes the next command of a queue (R331, R354, R381, R389, R396). -/
def State.mayTake (s : State) (q : Nat) (e : CmdEntry) : Bool :=
  let part := s.fld F.queueConfigPart 0 q
  let n := s.reg .queueOutstanding 0 q
  n < 256 && (!e.fence || n == 0) && !bitOf (s.fld F.corridorStateStopped) part
    && s.homeServes q
    && !(s.stacksOf part).any (fun st => s.fld F.tutorSylStateResidentBad st == 1)
    && (e.opc == opABORT || !s.workHeld part)

end Sys2Proof.Machine
namespace Sys2Proof
open Machine

/-- Whether an entry may not be executed: a reserved opcode, a reserved bit, or a field outside its range (R352, R355, R356, R388). -/
def CmdEntry.bad (e : CmdEntry) : Bool :=
  let d := e.dw0.toNat
  bits d 10 6 != 0 || bits d 25 7 != 0 || bits e.dw3.toNat 16 16 != 0 || e.inlineLen > 448
    || (e.opc != opLESSON && (e.step != 0 || e.lesson != 0 || e.inlineLen != 0))
    || (e.opc == opPLACE && !(1 ≤ bits (e.arg 2) 0 23 && bits (e.arg 2) 0 23 ≤ 0x400000))
    || (e.opc == opEXPORT && !(1 ≤ e.arg 3 && e.arg 3 ≤ 0x10000000))
    || (e.opc == opACTIVATE && !(1 ≤ bits (e.arg 2) 0 16 && bits (e.arg 2) 0 16 ≤ 10000))
    || !(([opLESSON, opABORT, opPLACE, opEXPORT, opLOAD, opACTIVATE] : List Nat).elem e.opc)

end Sys2Proof
namespace Sys2Proof.Machine

/-- The home Tutor takes a command: SQ_HEAD moves on, and a refused entry completes at once (R352, R354). -/
def State.take (s : State) (q : QueueId) (e : CmdEntry) : State :=
  let i := s.reg .queueSqHead 0 q
  let gen := s.reg .queueGeneration 0 q
  let s := (s.setReg .queueSqHead 0 q (i + 1)).setReg .queueOutstanding 0 q (s.reg .queueOutstanding 0 q + 1)
  let s := if e.bad then s.completeQueue q gen e.tag.toNat e.opc i 0x20 0 0
    else
      let k := s.queue q
      { (s.setQueue q { k with taken := k.taken ++ [⟨i, s.lessonNext, gen, e, false⟩] }) with lessonNext := s.lessonNext + 1 }
  s.fetchNext q

/-- The entry at SQ_HEAD that has been fetched whole is taken, once it may be (R354). -/
def State.takeFresh (s : State) (q : QueueId) : State :=
  let k := s.queue q
  match k.fresh with
  | some e => if !k.restWait && s.ringState (.queue q) == qACTIVE && s.mayTake q e then s.take q e else s
  | none => s

/-- How many lines from byte 64 on hold bytes of an entry's inline payload; an entry that R352 refuses for its INLINE_LEN needs none (R359). -/
def restLines (e : CmdEntry) : Nat := if e.inlineLen ≤ 448 then (e.inlineLen + 63) / 64 else 0

/-- An entry's PHASE has proved fresh: its later lines are fetched, and then it is taken (R359). -/
def State.freshEntry (s : State) (q : QueueId) (e : CmdEntry) : State :=
  let n := restLines e
  let s := s.setQueue q { s.queue q with fetching := false, stale := 0, refetchDue := 0, fresh := some { e with inline := [] }, restWait := n != 0 }
  if n = 0 then s.takeFresh q else s.sendFetch q (s.reg .queueSqHead 0 q) 1 n

/-- COMMAND_FETCH_RETURN (R359): a fresh PHASE fetches the rest and takes the command once it may be taken, a stale one starts re-fetches and the ninth parks the queue, an error parks it. A return for another index than SQ_HEAD is ignored. -/
def commandFetchReturn (s : State) (q : QueueId) (index : BitVec 32) (r : FetchResult) : State :=
  let k := s.queue q
  let home := s.fld F.queueConfigHome 0 q
  let port := if s.ringPort (.queue q) = 0 then 0 else 2
  if s.ringState (.queue q) == qACTIVE && s.portOpen (s.ringPort (.queue q)) && index.toNat == s.reg .queueSqHead 0 q then
    match r with
    | .error => if k.fetching || k.restWait then s.park q 3 else s
    | .entry e =>
      if !k.fetching then s
      else
        let s := s.countHallway port home 64
        if e.phase == s.phaseOf q (s.reg .queueSqHead 0 q) then s.freshEntry q e
        else if k.stale ≥ 8 then s.park q 1
        else s.setQueue q { k with stale := k.stale + 1 }
    | .rest d =>
      match k.restWait, k.fresh with
      | true, some e =>
        ((s.setQueue q { k with restWait := false, fresh := some { e with inline := d } }).countHallway port home (64 * restLines e)).takeFresh q
      | _, _ => s
  else s

/-- What waits at the queues is served as time passes: an entry that may now be taken, and a doorbell that was recorded while the home stack was away (R27, R354; DESIGN CHOICE, log entry 33, for when). -/
def State.serveQueues (s : State) : State :=
  s.each s.queues (fun s e => let q : QueueId := Fin.ofNat 128 e.1; (s.takeFresh q).actOnBell q)

/-- REFETCH_TIMER: a re-fetch of a stale slot is issued, 8 in all (R359). -/
def refetchTimer (s : State) (q : QueueId) : State :=
  let k := s.queue q
  if k.fetching && k.stale != 0 && k.refetchDue < 8 && s.portOpen (s.ringPort (.queue q)) then
    let s := s.setQueue q { k with refetchDue := k.refetchDue + 1 }
    (s.bumpSat F.queueRefetchesCount 0 q 1).sendFetch q (s.reg .queueSqHead 0 q) 0 1
  else s

/-! ## PLACE and EXPORT (R355, R356) -/

/-- The stack of a host port (R11). -/
def portStack (h : Nat) : Nat := if h == 0 then 0 else 2

/-- Copies bytes of an intake ring, 32 at a time, poison with them, from the port's stack to the stacks of the destination (R355, R424). -/
def State.placeBytes (s : State) (st base off dest n : Nat) : State :=
  s.each (List.range ((n + 31) / 32)) (fun s k =>
    let a := base + (off + 32 * k) % 0x400000
    let len := min 32 (n - 32 * k)
    let (s, d, p) := s.memRead 7 a len
    s.writeFrom st 7 (dest + 32 * k) d p)

/-- Whether a copy waits for a stack in reset on which its bytes lie: its source, or the destination of a PLACE (R450, R451). -/
def State.copyWaits (s : State) (c : Copy) : Bool :=
  s.inReset (addrStack c.src) || (c.opc.toNat == opPLACE && s.inReset (addrStack c.dst))

/-- The sectors of an export leave, 32 bytes at a time; a poisoned one goes in a TLP with EP set (R356). The Boolean says whether one was poisoned. -/
def State.exportBytes (s : State) (h : HostPort) (src dst : Nat) : List Nat → State × Bool
  | [] => (s, false)
  | k :: ks =>
    let n := k % 64
    let off := k / 64
    let (s, d, p) := s.readFrom (portStack h) 7 (src + off) n
    let s := s.setHostBytes (dst + off) d
    let s := if p then s.emit (.poisonedTlp h (dst + off) n) else s
    let r := State.exportBytes s h src dst ks
    (r.1, r.2 || p)

/-- The pieces of an export as offset × 64 + length. -/
def exportPieces (n : Nat) : List Nat := (List.range ((n + 31) / 32)).map (fun k => 32 * k * 64 + min 32 (n - 32 * k))

/-- The running EXPORT of a queue sends its bytes as bulk writes and reads back the last, while its port is open (R356, R363, R367). -/
def State.sendExport (s : State) (q : QueueId) : State :=
  match (s.queue q).copies with
  | c :: rest =>
    let h := s.ringPort (.queue q)
    if c.opc.toNat == opEXPORT && s.portOpen h && !s.copyWaits c then
      let (s, p) := s.exportBytes h c.src c.dst (exportPieces c.len)
      let s := s.setQueue q { s.queue q with copies := { c with poisoned := p, sent := true } :: rest }
      s.emit (.hostRead h (c.dst + c.len - 4))
    else s
  | [] => s

/-- The running PLACE of a queue copies its bytes, all in one step (R355; DESIGN CHOICE, log entry 33: its writes may be spread over time). -/
def State.sendPlace (s : State) (q : QueueId) : State :=
  match (s.queue q).copies with
  | c :: rest =>
    if c.opc.toNat == opPLACE && !s.copyWaits c then
      let s := s.placeBytes (portStack (s.ringPort (.queue q))) c.src c.offset c.dst c.len
      s.setQueue q { s.queue q with copies := { c with sent := true } :: rest }
    else s
  | [] => s

/-- The running copy of a queue moves its bytes, where it may; a restarted one begins at its first byte (R355, R356, R450). -/
def State.sendCopy (s : State) (q : QueueId) : State := (s.sendPlace q).sendExport q

/-- A copy begins. -/
def State.startCopy (s : State) (q : QueueId) (c : Copy) : State :=
  (s.setQueue q { s.queue q with copies := [c] }).sendCopy q

/-- PLACE: the next PLACE of a queue, one copy at a time, in the order taken (R354, R355). -/
def placeCommand (s : State) (q : QueueId) : State :=
  match s.takenFirst q [opPLACE, opEXPORT] with
  | none => s
  | some t =>
    let e := t.entry
    if e.opc != opPLACE || (s.queue q).copies != [] then s
    else
      let s := s.dropTaken q t
      let h := s.ringPort (.queue q)
      let part := s.fld F.queueConfigPart 0 q
      let ring := bits (e.arg 0) 0 6
      let off := bits (e.arg 0) 8 22
      let dest := bits (e.arg 1) 0 50
      let n := bits (e.arg 2) 0 23
      let ok := off % 32 == 0 && dest % 32 == 0 && s.fld F.hostIntakeLoValid h ring == 1 && s.fld F.hostIntakeLoPart h ring == part
        && s.fld F.hostIntakeLoLo h ring ≤ dest && dest + n ≤ s.fld F.hostIntakeHiHi h ring
        && s.rangeInRegion part dest n && !s.overStaging dest n
      if ok then
        let src := s.reg .hostIntakeBase h + ring * 0x400000
        s.startCopy q ⟨t.index, t.generation, e.tag, BitVec.ofNat 8 opPLACE, src, dest, n, ring, off, BitVec.ofNat 64 s.now, false, false⟩
      else s.completeQueue q t.generation e.tag.toNat opPLACE t.index 0x21 s.now 0

/-- A running copy of a queue ends with its record. -/
def State.endCopy (s : State) (q : QueueId) (c : Copy) (status bytes : Nat) : State :=
  (s.setQueue q { s.queue q with copies := [] }).completeQueue q c.generation c.tag.toNat c.opc.toNat c.cmdIndex status c.startTime.toNat bytes

/-- PLACE_COMPLETE: every write of the running PLACE has been accepted. -/
def placeComplete (s : State) (q : QueueId) : State :=
  match (s.queue q).copies with
  | c :: _ => if c.opc.toNat == opPLACE && c.sent then s.endCopy q c 0 c.len else s
  | [] => s

/-- EXPORT: the next EXPORT of a queue, one copy at a time, in the order taken (R354, R356). -/
def exportCommand (s : State) (q : QueueId) : State :=
  match s.takenFirst q [opPLACE, opEXPORT] with
  | none => s
  | some t =>
    let e := t.entry
    if e.opc != opEXPORT || (s.queue q).copies != [] then s
    else
      let s := s.dropTaken q t
      let part := s.fld F.queueConfigPart 0 q
      let src := bits (e.arg 1) 0 50
      let n := e.arg 3
      if src % 32 == 0 && s.rangeInRegion part src n && !s.overStaging src n then
        s.startCopy q ⟨t.index, t.generation, e.tag, BitVec.ofNat 8 opEXPORT, src, e.arg 2, n, 0, 0, BitVec.ofNat 64 s.now, false, false⟩
      else s.completeQueue q t.generation e.tag.toNat opEXPORT t.index 0x21 s.now 0

/-- The read-back of an EXPORT has returned: its record may be written (R356, R357, R363). -/
def exportReadback (s : State) (q : QueueId) (ok : Bool) : State :=
  match (s.queue q).copies with
  | c :: _ =>
    if c.opc.toNat == opEXPORT && c.sent then s.endCopy q c (if !ok then 0x23 else if c.poisoned then 0x22 else 0) c.len
    else s
  | [] => s

/-! ## Detach (R368, R369) -/

/-- Whether a lesson record has STOP_ON_DETACH (R153). -/
def State.stopsOnDetach (s : State) (q : Nat) (t : Taken) : Bool :=
  t.entry.opc == opLESSON && bitOf (s.lessonBits (s.fld F.queueConfigHome 0 q) t.entry.lesson 0 8) 4

/-- A queue is detached: held records are discarded, its PLACE and EXPORT stop, and lessons with STOP_ON_DETACH are stopped, those whose commands have been taken and not carried out as they are. -/
def State.detachQueue (s : State) (q : QueueId) : State :=
  let st := s.ringState (.queue q)
  if st == qACTIVE || st == qPARKED then
    let held := (s.holdRing ++ s.holdWait).filter (fun h => h.ring == .queue q)
    let s := s.setReg .queueState 0 q qDETACHED
    let s := s.bump F.queueGenerationCount 0 q 1
    let s := s.dropRing (.queue q)
    let k := s.queue q
    let keep := (k.taken.filter (fun t => t.entry.opc != opPLACE && t.entry.opc != opEXPORT)).map (fun t => { t with stopped := t.stopped || s.stopsOnDetach q t })
    let s := s.bumpSat F.queueDroppedCount 0 q held.length
    let s := s.setReg .queueOutstanding 0 q 0
    let s := (s.setQueue q { k with taken := keep, copies := [], unsignalled := 0 }).endFetch q
    s.each (s.lessons.filter (fun l => l.queue == q && l.stopOnDetach)) (fun s l => s.stopLesson l.id (.aborted true))
  else s

/-- A step ring is detached: its held records are discarded and counted (R365, R368). -/
def State.detachStep (s : State) (p : Fin 4) : State :=
  if s.ringState (.step p) == qACTIVE then
    let n := ((s.holdRing ++ s.holdWait).filter (fun h => h.ring == .step p)).length
    ((s.setReg .queueStepState 0 p qDETACHED).dropRing (.step p)).stepDrop p n
  else s

/-- Every queue and step ring on a port is detached (R368). -/
def State.detachPort (s : State) (h : HostPort) : State :=
  let s := s.each (List.finRange 128) (fun s q => if s.fld F.queueConfigValid 0 q == 1 && s.ringPort (.queue q) == h then s.detachQueue q else s)
  let s := s.each (List.finRange 4) (fun s p => if s.fld F.queueStepConfigValid 0 p == 1 && s.ringPort (.step p) == h then s.detachStep p else s)
  (s.bump F.hostDetachesCount h 0 1).hostEvent F.hostEventsDetached h

/-! ## Ring registers (R360, R364, R365, R369) -/

/-- Whether a queue's ring registers are valid for ENABLE (R350). -/
def State.ringsValid (s : State) (q : Nat) : Bool :=
  s.reg .queueSqBase 0 q % 512 == 0 && s.reg .queueCqBase 0 q % 64 == 0 && s.reg .queueTailAddr 0 q % 8 == 0
    && 4 ≤ s.fld F.queueSizesSqLog2 0 q && s.fld F.queueSizesSqLog2 0 q ≤ 16
    && 4 ≤ s.fld F.queueSizesCqLog2 0 q && s.fld F.queueSizesCqLog2 0 q ≤ 16

/-- ENABLE of a queue: none where it is refused. -/
def State.enableQueue (s : State) (q : QueueId) : Option State :=
  let st := s.ringState (.queue q)
  if s.fld F.queueConfigValid 0 q == 1 && (st == qDISABLED || st == qDETACHED) && s.ringsValid q then
    let s := s.setReg .queueState 0 q qACTIVE
    let s := ((s.setReg .queueSqHead 0 q 0).setReg .queueCqTail 0 q 0).setReg .queueCqHead 0 q 0
    let s := { s with holdRing := s.holdRing.filter (fun h => !(h.ring == RingId.queue q && h.written)) }
    let s := (s.setQueue q { s.queue q with doorbell := 0, badBell := false, unsignalled := 0 }).endFetch q
    some (s.noteHoldRing.admitWaiting s.holdWait.length)
  else none

/-- RESUME of a queue: none where it is refused. It parks again where no valid doorbell has followed an invalid one (R360). -/
def State.resumeQueue (s : State) (q : QueueId) : Option State :=
  if s.ringState (.queue q) == qPARKED then some ((s.setReg .queueState 0 q qACTIVE).actOnBell q) else none

/-- Does one of the actions of a control register where its bit is set; the Boolean says whether one was refused. -/
def ctrlBit (w : State × Bool) (on : Bool) (f : State → Option State) : State × Bool :=
  if on then (match f w.1 with | some s => (s, w.2) | none => (w.1, false)) else w

/-- A write of QUEUE.CTRL. -/
def queueCtrlWrite (s : State) (who : Requester) (p : Place) (q : QueueId) (v : Nat) : Written :=
  let w := ctrlBit (s, true) (bitOf v 0) (fun s => s.enableQueue q)
  let w := ctrlBit w (bitOf v 1) (fun s => s.resumeQueue q)
  let w := ctrlBit w (bitOf v 2) (fun s => some (s.detachQueue q))
  if w.2 then w else w.1.refuse who p

/-- Whether a step ring's registers are valid for ENABLE. -/
def State.stepValid (s : State) (p : Nat) : Bool :=
  s.reg .queueStepBase 0 p % 64 == 0 && s.reg .queueStepTailAddr 0 p % 8 == 0
    && 4 ≤ s.fld F.queueStepSizeLog2 0 p && s.fld F.queueStepSizeLog2 0 p ≤ 16

/-- ENABLE of a step ring: none where it is refused. -/
def State.enableStep (s : State) (p : Fin 4) : Option State :=
  if s.fld F.queueStepConfigValid 0 p == 1 && s.ringState (.step p) != qACTIVE && s.stepValid p then
    let s := ((s.setReg .queueStepState 0 p qACTIVE).setReg .queueStepTail 0 p 0).setReg .queueStepHead 0 p 0
    let s := { s with holdRing := s.holdRing.filter (fun h => !(h.ring == RingId.step p && h.written)) }
    some (s.noteHoldRing.admitWaiting s.holdWait.length)
  else none

/-- A write of QUEUE.STEP_CTRL. -/
def stepCtrlWrite (s : State) (who : Requester) (p : Place) (ring : Fin 4) (v : Nat) : Written :=
  let w := ctrlBit (s, true) (bitOf v 0) (fun s => s.enableStep ring)
  let w := ctrlBit w (bitOf v 1) (fun s => some (s.detachStep ring))
  if w.2 then w else w.1.refuse who p

/-- A write of CQ_HEAD or STEP_HEAD. -/
def headWrite (s : State) (who : Requester) (p : Place) (r : RingId) (v : Nat) : Written := s.takeOr who p (s.moveHead r v)

/-- A write of HOST.CTRL: 1 makes the port primary and clears the other (R344). -/
def primaryCtrlWrite (s : State) (h v : Nat) : State :=
  let s := s.setFld F.hostCtrlPrimary h 0 (v % 2)
  if v % 2 == 1 then s.setFld F.hostCtrlPrimary (1 - h) 0 0 else s

/-! ## Links (R345, R367, R368, R457) -/

/-- HOST_LINK_LOSS: the data link of a port that is UP goes down (R345). -/
def hostLinkLoss (s : State) (h : HostPort) : State :=
  if s.hostLink h == hUP then
    let s := s.setFld F.hostStatusLink h 0 hHELD
    let s := s.setFld F.hostStatusIde h 0 0
    (s.bump F.hostLinkEpochCount h 0 1).hostEvent F.hostEventsLinkLost h
  else s

/-- The records of a ring between its head and its tail, written again, and its tail word (R367). -/
def State.rewriteRing (s : State) (r : RingId) : State :=
  if s.ringState r == qACTIVE then
    let recs := s.holdRing.filter (fun h => h.ring == r && h.written)
    let s := s.each recs.zipIdx (fun s x => s.setHostBytes (s.ringBase r + (s.ringHead r + x.2) % s.ringSize r * 64) x.1.bytes)
    let s := match r with | .queue q => s.bumpSat F.queueResendsCount 0 q recs.length | .step _ => s
    s.writeTailWord r
  else s

/-- Every ring, in order. -/
def allRings : List RingId := (List.finRange 128).map RingId.queue ++ (List.finRange 4).map RingId.step

/-- Whether a ring exists. -/
def State.ringExists (s : State) : RingId → Bool
  | .queue q => s.fld F.queueConfigValid 0 q == 1
  | .step p => s.fld F.queueStepConfigValid 0 p == 1

/-- A queue's command fetch that was in flight is issued again (R367). -/
def State.refetchLost (s : State) (q : QueueId) : State :=
  let k := s.queue q
  if k.fetching then s.fetchNext q
  else match k.restWait, k.fresh with
    | true, some e => s.sendFetch q (s.reg .queueSqHead 0 q) 1 (restLines e)
    | _, _ => s

/-- The Homework records of a stack whose read-back has not returned are written again at their places, and read back again (R367). -/
def State.rewriteHomework (s : State) (h : HostPort) (st : StackId) : State :=
  let size := s.reg .markerHwSize st
  let base := s.reg .markerHwBase st
  ((s.marker st).hwReadback.foldl (fun (x : State × Nat) b =>
    ((x.1.setHostRing base size x.2 b).emit (.hostRead h (base + (x.2 + b.length - 4) % size)), x.2 + b.length)) (s, s.reg .markerHwTail st)).1

/-- Whether the Homework of a stack goes to a host port (R365). -/
def State.hwPort (s : State) (st : StackId) (h : HostPort) : Bool :=
  s.fld F.markerHwCtrlDest st == 0 && s.ringExists (.step (Fin.ofNat 4 (s.partOf st.val)))
    && s.ringPort (.step (Fin.ofNat 4 (s.partOf st.val))) == h

/-- What a port does once it may send again: fetches that wait are issued, and copies go on; after a link loss the records of its rings, its EXPORTs and its Homework are sent again too. Each vector with a record pending, or raised meanwhile, is signalled once (R367, R471). -/
def State.resumePort (s : State) (h : HostPort) : State :=
  let lost := (s.hport h).owed
  let rings := allRings.filter (fun r => s.ringExists r && s.ringPort r == h)
  let queues := (List.finRange 128).filter (fun q => rings.elem (.queue q))
  let s := s.each queues (fun s q => s.refetchLost q)
  let s := if lost then s.each rings (fun s r => s.rewriteRing r) else s
  let s := s.each (queues.filter (fun (q : QueueId) => lost || (s.queue q).copies.any (fun c => !c.sent))) (fun s (q : QueueId) => s.sendExport q)
  let s := if lost then s.each ((List.finRange 4).filter (fun st => s.hwPort st h)) (fun s st => s.rewriteHomework h st) else s
  let pending := rings.filter (fun r => lost && s.holdRing.any (fun x => x.ring == r && x.written))
  let vectors := (pending.map s.ringVector ++ (s.hport h).due).dedup
  (s.setHPort h { s.hport h with owed := false, due := [] }).each vectors (fun s v => s.signalMsix h v)

/-- HOST_LINK_RETURN: the link returns within LINK_HOLD (R367); a port whose IDE stream is not active recovers when that is (R471). -/
def hostLinkReturn (s : State) (h : HostPort) : State :=
  if s.hostLink h == hHELD then
    let s := (s.setFld F.hostStatusLink h 0 hUP).setHPort h { s.hport h with owed := true }
    if s.portOpen h then s.resumePort h else s
  else s

/-- A port forgets what it would have sent once it could. -/
def State.forgetDue (s : State) (h : HostPort) : State := s.setHPort h { s.hport h with owed := false, due := [] }

/-- LINK_HOLD_EXPIRY: the link has stayed down past LINK_HOLD (R345, R368). -/
def linkHoldExpiry (s : State) (h : HostPort) : State :=
  if s.hostLink h == hHELD then ((s.forgetDue h).setFld F.hostStatusLink h 0 hDOWN).detachPort h else s

/-- The port's HOST registers return to their reset values, but for INTAKE_BASE, the intake descriptors, LINK_EPOCH and DETACHES (R368). -/
def State.resetHostRegs (s : State) (h : Nat) : State :=
  let keep : List RegName := [.hostIntakeBase, .hostIntakeLo, .hostIntakeHi, .hostLinkEpoch, .hostDetaches]
  s.each (Block.host.regs.filter (fun n => !keep.elem n)) (fun s n =>
    s.each (List.range n.desc.count) (fun s j => s.setReg n h j n.desc.reset))

/-- HOT_RESET: a hot reset of a port or an FLR of its function (R368). The detach is shown in EVENTS after the registers have been reset. -/
def hotReset (s : State) (h : HostPort) : State :=
  let s := (s.forgetDue h).setHPort h { (s.forgetDue h).hport h with keySets := [] }
  (s.resetHostRegs h).detachPort h

/-- A port whose PERST# is deasserted, and whose link is DOWN, begins link training while the firmware runs (R457, R463). -/
def State.trainPort (s : State) (h : Nat) : State :=
  if s.firmwareRuns && !(s.hport h).perst && s.hostLink h == hDOWN then s.setFld F.hostStatusLink h 0 hTRAINING else s

/-- PERST_DEASSERT: the port begins link training, at once or at the 45 ms mark (R457, R497). -/
def perstDeassert (s : State) (h : HostPort) : State :=
  (s.setHPort h { s.hport h with perst := false }).trainPort h

/-- The widths and speeds at which a port trains: x1, x2, x4, x8 and x16, and codes 1 to 6 (R343, R371). -/
def linkOffered (width speed : Nat) : Bool := ([1, 2, 4, 8, 16] : List Nat).elem width && 1 ≤ speed && speed ≤ 6

/-- HOST_LINK_UP: the link completes training, at first or after a loss that outlasted LINK_HOLD, at a width and speed that the port supports (R343, R345, R457). -/
def hostLinkUp (s : State) (h : HostPort) (width speed : Nat) (cxl : Bool) : State :=
  if (s.hostLink h == hDOWN || s.hostLink h == hTRAINING) && s.firmwareRuns && !(s.hport h).perst && linkOffered width speed then
    let s := (s.setFld F.hostStatusLink h 0 hUP).setFld F.hostStatusWidth h 0 width
    (s.setFld F.hostStatusSpeed h 0 speed).setFld F.hostStatusCxl h 0 (bit cxl)
  else s

/-! ## The Letterbox (R346) -/

/-- The enabled bytes of a BAR2 write as runs within one ring: offset and bytes. -/
def byteRuns : Nat → List (Option Byte) → List (Nat × List Byte)
  | _, [] => []
  | o, none :: t => byteRuns (o + 1) t
  | o, some b :: t =>
    match byteRuns (o + 1) t with
    | (k, bs) :: rest => if k == o + 1 && k % 0x400000 != 0 then (o, b :: bs) :: rest else (o, [b]) :: (k, bs) :: rest
    | [] => [(o, [b])]

/-- LETTERBOX_WRITE: each byte goes to its own ring position; bytes for a ring that is not valid, or for a stack out of service, are discarded and counted, once for each ring. Those of a poisoned TLP are staged poisoned (R343, R424). -/
def letterboxWrite (s : State) (h : HostPort) (off : Nat) (data : List (Option Byte)) (poison : Bool) : State :=
  let runs := byteRuns off data
  let ring (r : Nat × List Byte) : Nat := r.1 / 0x400000 % 64
  let open' (k : Nat) : Bool := s.fld F.hostIntakeLoValid h k == 1 && !s.outOfService (hostStack h)
  let lost := ((runs.map ring).filter (fun k => !open' k)).dedup.length
  let s := s.bumpSat F.hostLetterboxDiscardsCount h 0 lost
  s.each (runs.filter (fun r => open' (ring r))) (fun s r => s.memWrite 7 (s.reg .hostIntakeBase h + r.1 % 0x10000000) r.2 poison)

/-- LETTERBOX_READ: data 0, counted. -/
def letterboxRead (s : State) (h : HostPort) (len : Nat) : State :=
  (s.bumpSat F.hostLetterboxReadsCount h 0 1).emit (.letterboxZeros h len)

/-- The requester of a host port. -/
def portRequester (h : HostPort) : Requester := if h = 0 then .h0 else .h1

/-! ## The commands -/

/-- HOST_LINK_LOSS (R345). -/
def execHostLinkLoss (h : HostPort) (s : State) : Host.Outcome State Fault Refusal := .next (hostLinkLoss s h)
/-- HOST_LINK_RETURN (R367). -/
def execHostLinkReturn (h : HostPort) (s : State) : Host.Outcome State Fault Refusal := .next (hostLinkReturn s h)
/-- LINK_HOLD_EXPIRY (R368). -/
def execLinkHoldExpiry (h : HostPort) (s : State) : Host.Outcome State Fault Refusal := .next (linkHoldExpiry s h)
/-- HOT_RESET (R368). -/
def execHotReset (h : HostPort) (s : State) : Host.Outcome State Fault Refusal := .next (hotReset s h)
/-- PERST_DEASSERT (R457). -/
def execPerstDeassert (h : HostPort) (s : State) : Host.Outcome State Fault Refusal := .next (perstDeassert s h)
/-- HOST_LINK_UP (R345). -/
def execHostLinkUp (h : HostPort) (width : BitVec 5) (speed : BitVec 3) (cxl : Bool) (s : State) : Host.Outcome State Fault Refusal :=
  .next (hostLinkUp s h width.toNat speed.toNat cxl)
/-- CXL_SNOOP (R343): answered with RspIHitI. -/
def execCxlSnoop (h : HostPort) (s : State) : Host.Outcome State Fault Refusal := .next (s.emit (.snoopReply h))
/-- LETTERBOX_WRITE (R346). -/
def execLetterboxWrite (h : HostPort) (off : BitVec 28) (data : List (Option Byte)) (tlp : TlpAttr) (s : State) : Host.Outcome State Fault Refusal :=
  .next (s.onBar h (fun s => letterboxWrite s h off.toNat data tlp.poison))
/-- LETTERBOX_READ (R346). -/
def execLetterboxRead (h : HostPort) (_off : BitVec 28) (len : Nat) (s : State) : Host.Outcome State Fault Refusal :=
  .next (s.onBar h (fun s => letterboxRead s h len))
/-- FLUSH (R362): every earlier Letterbox write of the port has been staged; LINK_EPOCH is returned. -/
def execFlush (h : HostPort) (s : State) : Host.Outcome State Fault Refusal :=
  .next (s.onBar h (fun s => s.emit (.readData (portRequester h) (BitVec.ofNat 64 (s.reg .hostLinkEpoch h)))))
/-- COMMAND_FETCH_RETURN (R359). -/
def execCommandFetchReturn (q : QueueId) (r : FetchReturn) (s : State) : Host.Outcome State Fault Refusal :=
  .next (commandFetchReturn s q r.index r.result)
/-- REFETCH_TIMER (R359). -/
def execRefetchTimer (q : QueueId) (s : State) : Host.Outcome State Fault Refusal := .next (refetchTimer s q)
/-- PLACE (R355). -/
def execPlace (q : QueueId) (s : State) : Host.Outcome State Fault Refusal := .next (placeCommand s q)
/-- PLACE_COMPLETE (R355). -/
def execPlaceComplete (q : QueueId) (s : State) : Host.Outcome State Fault Refusal := .next (placeComplete s q)
/-- EXPORT (R356). -/
def execExportCopy (q : QueueId) (s : State) : Host.Outcome State Fault Refusal := .next (exportCommand s q)

end Sys2Proof.Machine
end

