-- ==== Sys2Proof/Machine/Homework.lean ====
section
/-!
DEFINITION. Homework: the records of committed working copies, their coding, and the ring that they are written to (R269 to R272, R363, R365).
-/
namespace Sys2Proof.Machine

/-! ## Coding (R270, R271) -/

/-- The zero bytes at the head of a list. -/
def leadingZeros : List Byte → Nat
  | [] => 0
  | b :: t => if b = 0 then leadingZeros t + 1 else 0

/-- The codes of a zero run: 0x7F + k for k bytes, 128 at most in each. -/
def zeroCodes (k : Nat) : List Byte :=
  List.replicate (k / 128) 0xFF ++ (if k % 128 = 0 then [] else [BitVec.ofNat 8 (0x7F + k % 128)])

/-- A literal run of up to 128 bytes: k − 1, then its bytes. -/
def literalCode (l : List Byte) : List Byte := if l.isEmpty then [] else BitVec.ofNat 8 (l.length - 1) :: l

/-- The scan, with the literal run that is open: a run of 2 or more zero bytes ends it, and so do 128 bytes (R271). -/
def codeFrom : Nat → List Byte → List Byte → List Byte
  | 0, lit, _ => literalCode lit
  | _ + 1, lit, [] => literalCode lit
  | n + 1, lit, b :: t =>
    let z := leadingZeros (b :: t)
    if z ≥ 2 then literalCode lit ++ zeroCodes z ++ codeFrom n [] (t.drop (z - 1))
    else if lit.length = 127 then literalCode (lit ++ [b]) ++ codeFrom n [] t
    else codeFrom n (lit ++ [b]) t

/-- The coded XOR of a DELTA record. -/
def codeDelta (l : List Byte) : List Byte := codeFrom (l.length + 1) [] l

/-- Bytes, each with whether it is poisoned. -/
abbrev Marked := List (Byte × Bool)

/-- A version of a working copy as the Marker of a stack reads it, sector by sector. -/
def State.versionRead (s : State) (st : StackId) (p : Psd) (v : Nat) : State × Marked :=
  (List.range ((p.nbytes + 31) / 32)).foldl (fun r k =>
    let q := r.1.readFrom st 5 (p.vers + v * p.ws + 32 * k) (min 32 (p.nbytes - 32 * k))
    (q.1, r.2 ++ q.2.1.map (fun b => (b, q.2.2)))) (s, [])

/-- KIND and payload of a record: FULL carries version CUR, DELTA its coded XOR with version CUR − 1, UNCHANGED nothing (R270). A DELTA of versions that read poisoned is poisoned whole (R307; DESIGN CHOICE, log entry 25). -/
def State.hwPayload (s : State) (st : StackId) (h : HwRec) : State × Nat × Marked :=
  let (s, cur) := s.versionRead st h.psd h.cur
  if h.full then (s, 0, cur)
  else
    let (s, old) := s.versionRead st h.psd ((h.cur + h.psd.vslots - 1) % h.psd.vslots)
    let x := (cur.zip old).map (fun p => p.1.1 ^^^ p.2.1)
    let bad := (cur ++ old).any (fun p => p.2)
    if !bad && x.all (fun b => b == 0) then (s, 2, []) else (s, 1, (codeDelta x).map (fun b => (b, bad)))

/-- A Homework record: 64-byte header and payload, padded with zeros to a multiple of 64 (R270). -/
def State.hwRecord (s : State) (st : StackId) (h : HwRec) : State × Marked :=
  let (s, kind, marked) := s.hwPayload st h
  let pay := marked.map (fun p => p.1)
  let head := toBytes 4 h.step.toNat ++ toBytes 2 s.seat ++ toBytes 1 st.val ++ toBytes 1 kind ++ toBytes 4 h.psd.index
    ++ toBytes 4 h.psd.wfmt ++ toBytes 4 h.psd.nbytes ++ toBytes 4 pay.length
    ++ toBytes 4 (if pay.isEmpty then 0 else crc32c pay) ++ toBytes 4 h.commits ++ List.replicate 32 0
  (s, head.map (fun b => (b, false)) ++ marked ++ List.replicate ((64 - pay.length % 64) % 64) (0, false))

/-! ## The ring (R272) -/

/-- Whether Homework goes to a seat. -/
def State.hwToSeat (s : State) (st : Nat) : Bool := s.fld F.markerHwCtrlDest st == 1
/-- The consumer's offset. -/
def State.hwHead (s : State) (st : Nat) : Nat :=
  if s.hwToSeat st then s.num (s.reg .markerHwHeadAddr st) 8 else s.reg .markerHwHead st
/-- The consumer's word at a seat is read (R272). -/
def State.readHwHead (s : State) (st : StackId) : State := if s.hwToSeat st then (s.markerReads st [(s.reg .markerHwHeadAddr st, 8)]).1 else s
/-- Whether a record of `n` bytes fits: what is written and not freed, with it, stays below the ring's size. A consumer's word that cannot be read shows no room (DESIGN CHOICE, log entry 25). -/
def State.hwFits (s : State) (st : StackId) (n : Nat) : Bool :=
  let size := s.reg .markerHwSize st
  let used := (s.reg .markerHwTail st + size - s.hwHead st % size) % size
  !(s.hwToSeat st && s.unreadable st (s.reg .markerHwHeadAddr st) 8) && decide (used + ((s.marker st).hwReadback.map List.length).sum + n < size)

/-- The STOREs that carry a record to a seat: 64 bytes of the ring each, cut again where one crosses a 128-byte line, which no request may (R297). The low three bits of HW_BASE, which no STORE can address, are taken as 0 (DESIGN CHOICE, log entry 25). -/
def hwPieces (base size tail : Nat) (b : Marked) : List (Nat × Marked) :=
  (List.range ((b.length + 63) / 64)).flatMap (fun k =>
    let a := base / 8 * 8 + (tail + 64 * k) % size
    let d := (b.drop (64 * k)).take 64
    let n := 128 - a % 128
    if n < 64 then [(a, d.take n), (a + n, d.drop n)] else [(a, d)])

/-- The front record leaves the queue, and shadow writes that it held back may go on (R235). -/
def State.hwPop (s : State) (st : StackId) : State :=
  let m := s.marker st
  (s.setMarker st { m with hwQueue := m.hwQueue.drop 1 }).applyWaiting st
/-- The front record has been written: the block's later records may be DELTA (R269). -/
def State.hwWritten (s : State) (st : StackId) (i : Nat) : State :=
  let m := s.marker st
  (s.setMarker st { m with hwSeen := NatSet.insert m.hwSeen i }).hwPop st

/-- The front record as it is written: a block's first record since an activation or a discard is FULL (R269, R365). -/
def State.hwFront (s : State) (st : StackId) (h : HwRec) : HwRec := { h with full := h.full || !NatSet.has (s.marker st).hwSeen h.psd.index }

/-- The POISON bits of a STORE of marked bytes: one for each sector that holds a poisoned one (R296, R307). -/
def markedBits (a : Nat) (b : Marked) : BitVec 4 :=
  BitVec.ofNat 4 (((sectorPieces a b.length).zipIdx.map (fun x =>
    if ((b.drop (x.1.1 - a)).take x.1.2).any (fun p => p.2) then 2 ^ x.2 else 0)).sum)

/-- A record goes to a seat as STOREs and a STORE_NOTIFY (R272). -/
def State.hwStore (s : State) (st : StackId) (b : Marked) : State :=
  let size := s.reg .markerHwSize st
  let tail := s.reg .markerHwTail st
  let l := hwPieces (s.reg .markerHwBase st) size tail b
  let s := s.each l.zipIdx (fun s x =>
    let last := x.2 + 1 == l.length
    fabricRequestIssue s st ⟨.marker, if last then .storeNotify else .store, BitVec.ofNat 64 x.1.1, BitVec.ofNat 4 (x.1.2.length / 8 - 1), true,
      x.1.2.map (fun p => p.1), markedBits x.1.1 x.1.2,
      if last then Config.homeworkNote tail else 0⟩)
  s.setReg .markerHwTail st 0 ((tail + b.length) % size)

/-- A record goes to the host's ring, its poisoned sectors in TLPs with EP set (R343), and 4 bytes of it are read back from the last address written (R272, R363). -/
def State.hwPost (s : State) (st : StackId) (h : HostPort) (b : Marked) : State :=
  let size := s.reg .markerHwSize st
  let base := s.reg .markerHwBase st
  let done := (s.marker st).hwReadback
  let off := s.reg .markerHwTail st + (done.map List.length).sum
  let bytes := b.map (fun p => p.1)
  let s := (s.setHostRing base size off bytes).each (List.range (b.length / 32)) (fun s k =>
    if ((b.drop (32 * k)).take 32).any (fun p => p.2) then s.emit (.poisonedTlp h (base + (off + 32 * k) % size) 32) else s)
  let s := s.emit (.hostRead h (base + (off + b.length - 4) % size))
  s.setMarker st { s.marker st with hwReadback := done ++ [bytes] }

/-- HOMEWORK_RECORD_WRITE: the oldest record is written to the ring. A host-bound record of a partition whose step ring is not ACTIVE is discarded (R365), and so is one that an activation with Homework OFF has overtaken (R269); one that does not fit, or whose port is not open, waits (R272). -/
def homeworkRecordWrite (s : State) (st : StackId) : State :=
  match (s.marker st).hwQueue with
  | [] => s
  | r :: _ =>
    let part := s.partOf st.val
    let s := s.readHwHead st
    let (t, b) := s.hwRecord st (s.hwFront st r)
    let ring : RingId := .step (Fin.ofNat 4 part)
    if s.fld F.markerHwCtrlMode st == 0 then s.hwPop st
    else if s.hwToSeat st.val then
      if s.hwFits st b.length then (t.hwStore st b).hwWritten st r.psd.index else s
    else if s.ringState ring != qACTIVE then (s.stepDrop part 1).hwPop st
    else if s.portOpen (s.ringPort ring) && s.hwFits st b.length then (t.hwPost st (Fin.ofNat 2 (s.ringPort ring)) b).hwWritten st r.psd.index
    else s

/-- The read-back after a Homework record has returned: HW_TAIL moves past it (R363). One that failed is made again. -/
def homeworkReadback (s : State) (st : StackId) (ok : Bool) : State :=
  let m := s.marker st
  match m.hwReadback with
  | [] => s
  | b :: rest =>
    let size := s.reg .markerHwSize st
    let tail := s.reg .markerHwTail st
    if ok then (s.setReg .markerHwTail st 0 ((tail + b.length) % size)).setMarker st { m with hwReadback := rest }
    else s.emit (.hostRead (Fin.ofNat 2 (s.ringPort (.step (Fin.ofNat 4 (s.partOf st.val))))) (s.reg .markerHwBase st + (tail + b.length - 4) % size))

/-- EXPORT_READBACK_COMPLETE (R363). -/
def readbackComplete (s : State) (src : ReadbackFor) (ok : Bool) : State :=
  match src with
  | .exportCopy q => exportReadback s q ok
  | .homework st => homeworkReadback s st ok

/-- HOMEWORK_RECORD_WRITE (R272). -/
def execHomeworkRecordWrite (st : StackId) (s : State) : Host.Outcome State Fault Refusal := .next (homeworkRecordWrite s st)
/-- EXPORT_READBACK_COMPLETE (R363). -/
def execExportReadbackComplete (src : ReadbackFor) (ok : Bool) (s : State) : Host.Outcome State Fault Refusal := .next (readbackComplete s src ok)

end Sys2Proof.Machine
end

