-- ==== Sys2Proof/Machine/Links.lean ====
section
/-!
DEFINITION. Hallway links and HBM4 channels: retries, retrains, repairs and failures (R218 to R225).
-/
namespace Sys2Proof.Machine

/-! ## Hallway (R218 to R220) -/

/-- HALLWAY_FLIT_ERROR: a flit fails its CRC and is resent. -/
def hallwayFlitError (s : State) (l : Nat) : State :=
  (s.bumpSat F.hallwayCrcErrorsCount l 0 1).bumpSat F.hallwayRetriesCount l 0 1

/-- Whether two stacks are the ends of a link. -/
def crosses (l a b : Nat) : Bool := hallwayLink a b == some l

/-- A core's outstanding writes over a link that has gone DOWN are discarded, each with an ADDRESS fault at the engine of its thread (R220). How many they were, and the state. -/
def State.dropWrites (s : State) (l : Nat) (c : CoreId) : State × Nat :=
  let co := s.core c
  let here := stackOfCore c
  let across (a : Nat) : Bool := crosses l here (addrStack a)
  let stx := co.outst.filter (fun o => !o.isLoad && across o.addr)
  let scat : List (EngOp × Nat) := match co.gathRun with
    | some r => (match r.eng.op with
      | .eng .scat _ => (r.outst.filter (fun y => across y.2.addr)).map (fun y => (r.eng, y.2.addr))
      | _ => [])
    | none => []
  let outs : List (StreamReq × Nat × Nat) := match co.stage with
    | some g => co.sreqs.filterMap (fun r =>
        let sd := g.stream r.desc
        if sd.dir == dirOut then
          match (co.dyn r.desc).xfers.find? (fun x => x.m == r.m) with
          | some x => (((xferRequests g sd x).getD r.idx []).find? (fun p => across p.1)).map (fun p => (r, sd.owner, p.1))
          | none => none
        else none)
    | none => []
  let gath := match co.gathRun with
    | some r => if scat.isEmpty then some r else
        (let r := { r with outst := r.outst.filter (fun y => !across y.2.addr) }
         if r.toSend.isEmpty && r.outst.isEmpty then none else some r)
    | none => none
  let co := { co with
    outst := co.outst.filter (fun o => o.isLoad || !across o.addr)
    gathRun := gath
    sreqs := co.sreqs.filter (fun r => !outs.any (fun o => o.1.id == r.id)) }
  let co := outs.foldl (fun co o =>
    let y := co.dyn o.1.desc
    co.setDyn o.1.desc { y with xfers := y.xfers.map (fun x => if x.m == o.1.m then { x with returned := x.returned + 1 } else x) }) co
  let s := s.setCore c co
  let s := s.each stx (fun s o => s.raise c o.seq ⟨o.thread, o.pc, o.slotB, true, cADDRESS, o.addr⟩)
  let s := s.each scat (fun s e => s.raiseEngine c e.1 cADDRESS e.2)
  let s := s.each outs (fun s o =>
    match (s.core c).stage with
    | some g => s.raiseStream c g o.1.desc o.2.2
    | none => s)
  (s, stx.length + scat.length + outs.length)

/-- The link goes DOWN (R220). -/
def State.linkDown (s : State) (l : Nat) : State :=
  let e := hallwayEnds l
  let s := s.setFld F.hallwayStateLink l 0 2
  let (s, n) := (List.finRange 512).foldl (fun (p : State × Nat) (c : CoreId) =>
    if stackOfCore c == e.1 || stackOfCore c == e.2 then (let q := p.1.dropWrites l c; (q.1, p.2 + q.2)) else p) (s, 0)
  let s := s.logError .hallway l uncorrected 0x010 n 0
  let s := s.each (s.lessons.filter (fun x => x.parts.any (fun p => stackOfCluster p.1 == e.1) && x.parts.any (fun p => stackOfCluster p.1 == e.2)))
    (fun s x => s.stopLesson x.id .linkDown)
  let groups := (s.bells.filter (fun b =>
    let r := bellRec b.2.record
    r.valid && b.2.open' && r.stackList.elem e.1 && r.stackList.elem e.2)).map (fun b => b.1)
  s.each groups (fun s g => s.ownBreak g)

/-- HALLWAY_DOWN: a link that is not DOWN goes DOWN. -/
def hallwayDownEvent (s : State) (l : Nat) : State := if s.fld F.hallwayStateLink l == 2 then s else s.linkDown l

/-- A link that is UP starts a retrain (R219). -/
def State.startRetrain (s : State) (l : Nat) : State :=
  if s.fld F.hallwayStateLink l == 0 then (s.setFld F.hallwayStateLink l 0 1).bump F.hallwayRetrainsCount l 0 1 else s

/-- HALLWAY_RETRAIN: a link retrains, moving a failed lane onto its group's spare; a lane that fails in a group whose spare is in use takes the link DOWN, in a retrain too (R219, R220). Lanes are numbered through the groups of 32. -/
def hallwayRetrain (s : State) (l : Nat) (lane : Option Nat) : State :=
  if s.fld F.hallwayStateLink l == 2 then s
  else
    let used := s.fld F.hallwayStateSparesUsed l
    match lane with
    | some k =>
      if bitOf used (k / 32) then s.linkDown l
      else (s.setFld F.hallwayStateSparesUsed l 0 (used + 2 ^ (k / 32))).startRetrain l
    | none => s.startRetrain l

/-- HALLWAY_RETRAIN_COMPLETE: a retrain ends; the third failure in a row takes the link DOWN, an earlier one starts another retrain (R219, R220). -/
def hallwayRetrainComplete (s : State) (l : Nat) (ok : Bool) : State :=
  if s.fld F.hallwayStateLink l != 1 then s
  else if ok then { s.setFld F.hallwayStateLink l 0 0 with hallwayFails := Tab.set 0 s.hallwayFails l 0 }
  else
    let n := Tab.get 0 s.hallwayFails l + 1
    if n ≥ 3 then ({ s with hallwayFails := Tab.set 0 s.hallwayFails l 0 }).linkDown l
    else ({ s with hallwayFails := Tab.set 0 s.hallwayFails l n }).bump F.hallwayRetrainsCount l 0 1

/-! ## HBM4 (R221 to R225) -/

/-- The device channel of a slice (R201). -/
def channelOf (n : Nat) : Nat := n % 32
/-- CHANNEL states (R227). -/
def State.setChannel (s : State) (n st : Nat) : State := s.setFld F.hbmChannelState (hbmOf n) (channelOf n) st

/-- The channel of a slice goes FAILED: the slice discards its lines, every dirty sector counted and recorded, and the reads that wait for a fetch leave poisoned (R225). -/
def State.channelFailed (s : State) (n : Nat) : State :=
  let sl := s.slice n
  let dirty := (sl.lines.map (fun l => sectorCount l.dirty)).sum + (sl.hold.map (fun h => sectorCount h.dirty)).sum
  let s := s.each sl.lines (fun s l => s.leaveSlice l.line l.valid l.dirty)
  let s := s.each sl.hold (fun s h => s.leaveSlice h.line h.valid h.dirty)
  let s := s.each sl.lines (fun s l => s.readLine l.line 0)
  let s := s.each sl.reads (fun s r => s.emit (.sliceData (32 * r.sector) r.data true))
  let s := s.setSlice n { sl with lines := [], lru := [], hold := [], fetching := [], reads := [] }
  let s := (s.noteHold n).notePins n
  let s := ((s.setChannel n 2).setFld F.sliceConfigChannelFailed n 0 1).retryWaiting n
  (s.bumpSat F.hbmUncorrectedCount (hbmOf n) 0 dirty).logError .hbm (hbmOf n) uncorrected 0x00E (channelOf n) dirty

/-- HBM_LANE_REPAIR: a failing lane moves onto a redundant lane of its pseudo-channel, of which there are two; with none left the channel cannot be repaired (R221, R224, R225). -/
def hbmLaneRepair (s : State) (n : Nat) (pseudo : Bool) (lane : Nat) : State :=
  let sl := s.slice n
  if s.fld F.hbmChannelState (hbmOf n) (channelOf n) == 2 then s
  else if (sl.laneSpares.filter (fun x => x.1 == pseudo)).length ≥ 2 then s.channelFailed n
  else
    let s := s.setSlice n { sl with laneSpares := sl.laneSpares ++ [(pseudo, lane)] }
    let s := (s.setChannel n 1).setFld F.hbmChannelSparesUsed (hbmOf n) (channelOf n) (sl.laneSpares.length + 1)
    (s.bump F.hbmLaneRepairsCount (hbmOf n) 0 1).logError .hbm (hbmOf n) notice 0x00C (channelOf n + bit pseudo * 2 ^ 5 + lane % 256 * 2 ^ 6) 0

/-- HBM_ROW_REPAIR: a row is moved and repaired in service (R224). -/
def hbmRowRepair (s : State) (n row : Nat) : State :=
  if s.fld F.hbmChannelState (hbmOf n) (channelOf n) == 2 then s
  else ((s.setChannel n 1).bump F.hbmRowRepairsCount (hbmOf n) 0 1).logError .hbm (hbmOf n) notice 0x00D (channelOf n + row * 2 ^ 5) 0

/-- HBM_REPAIR_COMPLETE: the channel serves requests again (R224). -/
def hbmRepairComplete (s : State) (n : Nat) : State :=
  if s.fld F.hbmChannelState (hbmOf n) (channelOf n) == 1 then s.setChannel n 0 else s

/-- HBM_CHANNEL_FAILED (R225). -/
def hbmChannelFailed (s : State) (n : Nat) : State :=
  if s.fld F.hbmChannelState (hbmOf n) (channelOf n) == 2 then s else s.channelFailed n

/-! ## The commands -/

/-- HALLWAY_FLIT_ERROR (R218). -/
def execHallwayFlitError (l : Fin 6) (s : State) : Host.Outcome State Fault Refusal := .next (hallwayFlitError s l)
/-- HALLWAY_RETRAIN (R219). -/
def execHallwayRetrain (l : Fin 6) (lane : Option Nat) (s : State) : Host.Outcome State Fault Refusal := .next (hallwayRetrain s l lane)
/-- HALLWAY_RETRAIN_COMPLETE (R219). -/
def execHallwayRetrainComplete (l : Fin 6) (ok : Bool) (s : State) : Host.Outcome State Fault Refusal := .next (hallwayRetrainComplete s l ok)
/-- HALLWAY_DOWN (R220). -/
def execHallwayDown (l : Fin 6) (s : State) : Host.Outcome State Fault Refusal := .next (hallwayDownEvent s l)
/-- HBM_LANE_REPAIR (R224). -/
def execHbmLaneRepair (sl : SliceId) (pseudo : Bool) (lane : Nat) (s : State) : Host.Outcome State Fault Refusal :=
  .next (hbmLaneRepair s sl pseudo lane)
/-- HBM_ROW_REPAIR (R224). -/
def execHbmRowRepair (sl : SliceId) (row : Nat) (s : State) : Host.Outcome State Fault Refusal := .next (hbmRowRepair s sl row)
/-- HBM_REPAIR_COMPLETE (R224). -/
def execHbmRepairComplete (sl : SliceId) (s : State) : Host.Outcome State Fault Refusal := .next (hbmRepairComplete s sl)
/-- HBM_CHANNEL_FAILED (R225). -/
def execHbmChannelFailed (sl : SliceId) (s : State) : Host.Outcome State Fault Refusal := .next (hbmChannelFailed s sl)
/-- REFRESH_MANAGEMENT_REQUEST (R221): the controller issues the command and counts it. -/
def execRefreshManagementRequest (hbm : Fin 32) (s : State) : Host.Outcome State Fault Refusal :=
  .next (s.bump F.hbmRfmCommandsCount hbm 0 1)

end Sys2Proof.Machine
end

