-- ==== Sys2Proof/Machine/Corridor.lean ====
section
/-!
DEFINITION. The Corridor: frames, the bypass, STOP, common time, Roll call, and the peer epochs (R326 to R337).
-/
namespace Sys2Proof.Machine

/-! ## The ring and its bypass (R328 to R330) -/

/-- RING codes (R341): BYPASSED. -/
abbrev rBYPASSED : Nat := 0
/-- JOINING. -/
abbrev rJOINING : Nat := 1
/-- JOINED. -/
abbrev rJOINED : Nat := 2
/-- BROKEN. -/
abbrev rBROKEN : Nat := 3

/-- The Proctor opens the bypass while CTRL.JOIN is set, which takes up to 5 ms (R330). -/
def State.openBypass (s : State) : State :=
  if s.fld F.corridorCtrlJoin == 1 && s.corridor.moving != some true && !(s.corridor.bypassOpen && s.corridor.moving.isNone) then
    { s.setFld F.corridorStateRing 0 0 rJOINING with corridor := { s.corridor with moving := some true } }
  else s
/-- Setting CTRL.JOIN opens the bypass (R330). -/
def State.corridorJoin (s : State) : State := (s.setFld F.corridorCtrlJoin 0 0 1).openBypass

/-- BYPASS_MOVED: the bypass has opened, or has closed the ring past the module (R330). -/
def bypassMoved (s : State) : State :=
  match s.corridor.moving with
  | none => s
  | some o =>
    { s.setFld F.corridorStateRing 0 0 (if o then rJOINED else rBYPASSED) with corridor := { s.corridor with moving := none, bypassOpen := o } }

/-- The place of the next frame to send: the most urgent class, and in it transit frames before the node's own (R328). -/
def nextFrame (l : List (Nat × Bool × Frame)) : Option (Nat × Bool × Frame) :=
  let key (x : Nat × Bool × Frame) : Nat := 2 * x.1 + (if x.2.1 then 0 else 1)
  match (l.map key).min? with
  | none => none
  | some k => l.find? (fun x => key x == k)

/-- CORRIDOR_FRAME_TRANSMIT: the next frame is sent whole (R328). -/
def corridorFrameTransmit (s : State) : State :=
  if !s.corridor.bypassOpen then s
  else
    match nextFrame s.corridor.txq with
    | none => s
    | some x =>
      let s := { s with corridor := { s.corridor with txq := s.corridor.txq.erase x } }
      (s.bump F.corridorFramesTxCount 0 0 1).emit (.frame (frameSealed x.2.2))

/-- How often a broadcast is resent before its originator gives up (R329). -/
abbrev resendLimit : Nat := 100

/-- CORRIDOR_RESEND_TIMER: every frame not yet returned or answered is sent again; a broadcast that has been resent 100 times is given up (R329). -/
def corridorResendTimer (s : State) : State :=
  if !s.corridor.bypassOpen then s
  else
    let gone := s.corridor.resends.filter (fun r => r.frame.bcast && decide (r.tries ≥ resendLimit))
    let live := s.corridor.resends.filter (fun r => !(r.frame.bcast && decide (r.tries ≥ resendLimit)))
    let k := s.corridor
    let s := { s with corridor := { k with
      resends := live.map (fun (r : Resend) => { r with tries := r.tries + 1 })
      txq := k.txq ++ live.map (fun (r : Resend) => (frameClass r.frame.type.toNat, false, r.frame)) } }
    let s := s.bumpSat F.corridorResendsCount 0 0 live.length
    if gone.isEmpty then s
    else (s.bumpSat F.corridorLostCount 0 0 gone.length).setFld F.corridorStateRing 0 0 rBROKEN

/-- Whether two frames are one broadcast: the CORRECTION to which each node of the ring adds in a TIME frame apart (R326, R329, R333). -/
def sameFrame (a b : Frame) : Bool :=
  let body (f : Frame) : List Byte := if f.type.toNat == tTIME then f.payload.take 8 ++ f.payload.drop 12 else f.payload
  a.type == b.type && a.seq == b.seq && body a == body b

/-- Whether a frame was originated here: its ORIGIN is this module's seat; without a valid seat, only a frame that is still being resent is. -/
def State.ownFrame (s : State) (f : Frame) : Bool :=
  f.origin.toNat == s.seat && (s.seatValid || s.corridor.resends.any (fun r => sameFrame r.frame f))

/-- A broadcast has come back to its originator, which stops resending it (R328, R329). -/
def State.returned (s : State) (f : Frame) : State :=
  { s with corridor := { s.corridor with
    resends := s.corridor.resends.filter (fun r => !(r.frame.bcast && sameFrame r.frame f)) } }

/-- A frame as this node passes it on: one more hop, and in a TIME frame its own delay added to CORRECTION (R326, R333). -/
def passedOn (f : Frame) (delay : Nat) : Frame :=
  { f with
    hops := f.hops + 1
    payload := if f.type.toNat == tTIME then
        f.payload.take 8 ++ toBytes 4 (ofBytes ((f.payload.drop 8).take 4) + delay) ++ f.payload.drop 12
      else f.payload }

/-- A frame is queued for the next node. The delay that a TIME frame gains is a free value. -/
def State.forward (s : State) (f : Frame) : State :=
  let g := passedOn f (Config.forwardDelay s.freeNext)
  { s with freeNext := s.freeNext + 1, corridor := { s.corridor with txq := s.corridor.txq ++ [(frameClass f.type.toNat, true, g)] } }

/-- How many frames of one originator and type are remembered as acted on: half of the SEQ range. -/
abbrev seenWindow : Nat := 128

/-- Whether a frame has been acted on; if not, it is noted, and SEQs that lie a window behind are forgotten (R329). -/
def State.noteSeen (s : State) (f : Frame) : State × Bool :=
  let same (x : BitVec 12 × BitVec 4 × BitVec 8) : Bool := x.1 == f.origin && x.2.1 == f.type
  if s.corridor.seen.any (fun x => same x && x.2.2 == f.seq) then (s, true)
  else
    let keep := s.corridor.seen.filter (fun x => !(same x && decide ((f.seq - x.2.2).toNat ≥ seenWindow)))
    ({ s with corridor := { s.corridor with seen := keep ++ [(f.origin, f.type, f.seq)] } }, false)

/-! ## STOP (R331) -/

/-- The LESSON commands that a queue has taken and that have not been carried out are stopped with the lessons that run (R331). -/
def State.stopTaken (s : State) (q : QueueId) : State :=
  let k := s.queue q
  s.setQueue q { k with taken := k.taken.map (fun t => if t.entry.opc == opLESSON then { t with stopped := true } else t) }

/-- STOP is accepted for a partition. -/
def State.stopPartition (s : State) (part : Nat) : State :=
  let sts := s.stacksOf part
  let s := s.setFld F.corridorStateStopped 0 0 (s.fld F.corridorStateStopped ||| 2 ^ part)
  let s := s.each (s.lessons.filter (fun l => sts.elem l.home.val)) (fun s l => s.stopLesson l.id (.aborted false))
  let s := s.each (s.queues.filter (fun e => sts.elem (s.fld F.queueConfigHome 0 e.1))) (fun s e => s.stopTaken (Fin.ofNat 128 e.1))
  let s := s.each ((s.bells.filter (fun e => sts.elem (bellRec e.2.record).counting)).map (fun e => e.1)) (fun s g => s.ownBreak g)
  s.each sts (fun s st =>
    let s := s.each (s.assembly st).insts (fun s i => s.failInstance st i.coll i.step Config.stopStatus.toNat)
    let k : StackId := Fin.ofNat 4 st
    (abandonWrite s k).getD s)

/-- Whether a partition runs a job that a STOP names and is not stopped yet. -/
def State.stopHits (s : State) (job : BitVec 32) (part : Nat) : Bool :=
  !bitOf (s.fld F.corridorStateStopped) part
    && (s.stacksOf part).any (fun st => job == 0xFFFFFFFF || s.reg .tutorJobId st == job.toNat)

/-- STOP is accepted for some partitions, and entered in the Diary (R331, R482). -/
def State.acceptStop (s : State) (job : BitVec 32) (origin : Nat) (parts : List Nat) : State :=
  if parts.isEmpty then s
  else (s.each parts State.stopPartition).diary origin .stopAccepted ((parts.map (fun p => 2 ^ p)).sum) job.toNat

/-- The partitions that an activation in phases B to F replaces: a STOP for them is matched at phase G (R391). -/
def State.stopDeferred (s : State) : List Nat :=
  match s.activation with
  | some a => if a.phase = 0 then [] else s.replaced a.image
  | none => []

/-- STOP: accepted for each partition whose job identifier matches (R331, R391). -/
def stopReceived (s : State) (job : BitVec 32) (origin : Nat) : State :=
  if !s.seatValid then s
  else
    let held := s.stopDeferred
    let parts := [0, 1, 2, 3].filter (fun p => s.stopHits job p && !held.elem p)
    let s := match s.activation with
      | some a => if held.isEmpty then s else { s with activation := some { a with stops := a.stops ++ [(job, origin)] } }
      | none => s
    s.acceptStop job origin parts

/-- The seats of every valid OUT entry, each with the partition that owns the entry; this module's own seat apart. -/
def State.outSeats (s : State) : List (Nat × Nat) :=
  ((s.windowTable false ++ s.windowTable true).filter (fun e => bitOf e 0 && bitOf e 1)).flatMap (fun e =>
    ((List.range (bits e 20 12 + 1 - bits e 8 12)).map (fun k => (bits e 8 12 + k, bits e 3 2))).filter (fun x => x.1 != s.seat))

/-- A write of STOP_SEND: one broadcast on the Corridor, and one message on VC0 to each seat (R331). -/
def State.stopSend (s : State) (job : BitVec 32) : State :=
  let p := payload32 (toBytes 4 job.toNat)
  (s.sendFrame tSTOP 0 true p).each s.outSeats (fun s x => s.sendVc0 x.2 tSTOP x.1 p)

/-- A write of STOP_CLEAR (R331). -/
def State.stopClear (s : State) (parts : BitVec 4) : State :=
  s.setFld F.corridorStateStopped 0 0 (s.fld F.corridorStateStopped &&& (15 - parts.toNat))

/-! ## Common time (R333) -/

/-- TIME_FRAME_SEND: the time master sends its time; one that follows a lower seat does not (R333). -/
def timeFrameSend (s : State) : State :=
  if s.fld F.corridorCtrlTimeMaster == 1 && s.fld F.corridorStateTimeConflict == 0 then
    s.sendFrame tTIME 0 true (toBytes 8 s.now ++ toBytes 4 0 ++ toBytes 2 s.seat)
  else s

/-- The counter is aligned to a time: one behind by more than 2 µs steps, any other difference is slewed, and time never decreases. TIME_VALID is set by the first alignment within 100 ns (R333). -/
def State.alignTime (s : State) (t : Nat) : State :=
  let d : Int := (t : Int) - (s.now : Int)
  if d > 2000 then
    ({ s with corridor := { s.corridor with slew := 0 } }.setReg .corridorTime 0 0 t).setFld F.corridorStateTimeValid 0 0 1
  else
    let s := { s with corridor := { s.corridor with slew := d } }
    if d.natAbs ≤ 100 then s.setFld F.corridorStateTimeValid 0 0 1 else s

/-- A node follows a master seat. -/
def State.followTime (s : State) (t : Nat) (seat : BitVec 12) : State :=
  ({ s with corridor := { s.corridor with master := some seat } }.setFld F.corridorTimeMasterSeatSeat 0 0 seat.toNat).alignTime t

/-- TIME_FRAME: master time and CORRECTION are the time at receipt. Followers follow the lowest master seat that they hear, and a master that hears a lower seat follows it (R333). -/
def timeFrame (s : State) (t : Nat) (correction : Nat) (seat : BitVec 12) : State :=
  let t := (t + correction) % 2 ^ 64
  if !s.seatValid then s
  else if s.fld F.corridorCtrlTimeMaster == 1 && s.fld F.corridorStateTimeConflict == 0 then
    if seat.toNat < s.seat then (s.setFld F.corridorStateTimeConflict 0 0 1).followTime t seat else s
  else
    match s.corridor.master with
    | none => s.followTime t seat
    | some m => if seat ≤ m then s.followTime t seat else s

/-! ## Roll call (R334, R335) -/

/-- The payload of this module's ROLL_CALL from a port; 0xFF stands for the Corridor (R334). -/
def State.rollPayload (s : State) (port : Nat) : List Byte :=
  payload32 (toBytes 8 (s.reg .proctorSerial) ++ toBytes 2 (s.seat + 2 ^ 15 * bit s.seatValid) ++ toBytes 2 s.seatEpoch
    ++ toBytes 4 port ++ toBytes 4 0x10101)

/-- ROLL_CALL_SEND: a port whose session lets messages through queues one on VC0, or the module broadcasts one (R277, R334). -/
def rollCallSend (s : State) (via : Option Port) : State :=
  match via with
  | none => s.sendFrame tROLL_CALL 0 true (s.rollPayload 0xFF)
  | some p =>
    let fp := s.port p
    if (s.link p == lUP || s.link p == lRETRAINING) && fp.sessionOpen then
      let s := s.portSend p 0 (.control (BitVec.ofNat 4 tROLL_CALL) 0 (BitVec.ofNat 12 s.seat) (s.rollPayload p.val) 0 (BitVec.ofNat 12 s.seatEpoch))
      (s.setPort p { s.port p with rollSent := true }).bump F.fabricRollSentCount p.val 0 1
    else s

/-- The members heard in the last 300 ms (R341). -/
def State.recentMembers (s : State) : List (Word × Nat) := s.corridor.members.filter (fun m => decide (s.now < m.2 + 300000000))

/-- A ROLL_CALL of a ring member. -/
def State.hearMember (s : State) (serial : Word) : State :=
  let l := s.recentMembers.filter (fun m => m.1 != serial) ++ [(serial, s.now)]
  { s with corridor := { s.corridor with members := l } }.setFld F.corridorNodesCount 0 0 l.length

/-- The PARTNER registers hold the last ROLL_CALL of a port. -/
def State.setPartner (s : State) (p : Nat) (rc : RollCallMsg) : State :=
  (s.setReg .fabricPartner p 0 (rc.seat.toNat + bit rc.seatValid * 2 ^ 12 + rc.epoch.toNat * 2 ^ 16 + rc.port.toNat % 16 * 2 ^ 28 + rc.caps.toNat * 2 ^ 32)).setReg
    .fabricPartnerSerial p 0 rc.serial.toNat

/-- A ROLL_CALL on a port is recorded; ARRIVED is raised by the first since UP or a new SERIAL, CHANGED by the same SERIAL with a new seat, SEAT_VALID or epoch (R335). -/
def State.portRollCall (s : State) (p : Nat) (rc : RollCallMsg) : State :=
  let first := !(s.port p).rollPresent || s.reg .fabricPartnerSerial p != rc.serial.toNat
  let changed := s.reg .fabricPartnerSerial p == rc.serial.toNat && (s.fld F.fabricPartnerSeat p != rc.seat.toNat
    || s.fld F.fabricPartnerSeatValid p != bit rc.seatValid || s.fld F.fabricPartnerEpoch p != rc.epoch.toNat)
  let s := (s.bump F.fabricRollReceivedCount p 0 1).setPartner p rc
  let s := (s.setFld F.fabricRollStateState p 0 1).setFld F.fabricRollStateMissed p 0 0
  let s := s.setPort p { s.port p with rollPresent := true }
  let s := if first then s.rollEvent p F.fabricRollEventsArrived .partnerArrived else s
  if changed then s.rollEvent p F.fabricRollEventsChanged .partnerChanged else s

/-- ROLL_CALL: recorded by the port, or counted as a ring member, and the peer epoch is learnt where SEAT_VALID is 1 (R335, R336). -/
def rollCall (s : State) (via : Option Port) (rc : RollCallMsg) : State :=
  let s := match via with
    | none => s.hearMember rc.serial
    | some p => if s.link p == lUP || s.link p == lRETRAINING then s.portRollCall p rc else s
  if rc.seatValid then s.learnEpoch rc.seat.toNat rc.epoch.toNat else s

/-- ROLL_CALL_MISSED: one more ROLL_CALL of a partner has failed to arrive; the third in a row raises LEFT (R335). While the stack is in Recess it raises nothing (R398). -/
def rollCallMissed (s : State) (p : Nat) : State :=
  let n := s.fld F.fabricRollStateMissed p
  if !(s.link p == lUP || s.link p == lRETRAINING) || n ≥ 3 || s.fld F.powerPstateState (stackOfPort p) == 2 then s
  else
    let s := s.setFld F.fabricRollStateMissed p 0 (n + 1)
    if n = 2 then (s.setFld F.fabricRollStateState p 0 2).rollEvent p F.fabricRollEventsLeft .partnerLeft else s

/-! ## Seats and epochs (R336, R337) -/

/-- EPOCH: the peer epoch table learns, unless this module has no valid seat (R327, R336). -/
def epochReceived (s : State) (seat epoch : Nat) : State := if s.seatValid then s.learnEpoch seat epoch else s

/-- A write of FABRIC.SEAT; none where R337 refuses it. When SEAT_VALID rises, an EPOCH message for the Corridor and for each seat of the OUT entries is due (R336). -/
def State.seatWrite (s : State) (v : Nat) : Option State :=
  if s.seatValid && (bits v 0 12 != s.seat || bits v 16 12 != s.seatEpoch) then none
  else
    let was := s.seatValid
    let s := s.setReg .fabricSeat 0 0 (bits v 0 13 + bits v 16 12 * 2 ^ 16)
    if !was && s.seatValid then
      some { s with corridor := { s.corridor with epochQueue := (0, none) :: s.outSeats.map (fun x => (BitVec.ofNat 12 x.1, some x.2)) } }
    else some s

/-- EPOCH_MESSAGE_SEND: the next EPOCH message that is due goes out (R336). -/
def epochMessageSend (s : State) : State :=
  match s.corridor.epochQueue with
  | [] => s
  | (d, part) :: rest =>
    let p := payload32 (toBytes 2 s.seat ++ toBytes 2 s.seatEpoch)
    let s := { s with corridor := { s.corridor with epochQueue := rest } }
    match part with
    | none => s.sendFrame tEPOCH 0 true p
    | some k => s.sendVc0 k tEPOCH d.toNat p

/-! ## The commands -/

/-- CORRIDOR_FRAME_TRANSMIT (R328). -/
def execCorridorFrameTransmit (s : State) : Host.Outcome State Fault Refusal := .next (corridorFrameTransmit s)
/-- CORRIDOR_RESEND_TIMER (R329). -/
def execCorridorResendTimer (s : State) : Host.Outcome State Fault Refusal := .next (corridorResendTimer s)
/-- BYPASS_MOVED (R330). -/
def execBypassMoved (s : State) : Host.Outcome State Fault Refusal := .next (bypassMoved s)
/-- STOP (R331). -/
def execStop (job : BitVec 32) (s : State) : Host.Outcome State Fault Refusal := .next (stopReceived s job originCorridor)
/-- ROLL_CALL (R335). -/
def execRollCall (via : Option Port) (rc : RollCallMsg) (s : State) : Host.Outcome State Fault Refusal := .next (rollCall s via rc)
/-- ROLL_CALL_SEND (R334). -/
def execRollCallSend (via : Option Port) (s : State) : Host.Outcome State Fault Refusal := .next (rollCallSend s via)
/-- ROLL_CALL_MISSED (R335). -/
def execRollCallMissed (p : Port) (s : State) : Host.Outcome State Fault Refusal := .next (rollCallMissed s p)
/-- EPOCH (R336). -/
def execEpoch (seat epoch : BitVec 12) (s : State) : Host.Outcome State Fault Refusal := .next (epochReceived s seat.toNat epoch.toNat)
/-- EPOCH_MESSAGE_SEND (R336). -/
def execEpochMessageSend (s : State) : Host.Outcome State Fault Refusal := .next (epochMessageSend s)
/-- TIME_FRAME_SEND (R333). -/
def execTimeFrameSend (s : State) : Host.Outcome State Fault Refusal := .next (timeFrameSend s)
/-- TIME_FRAME (R333). -/
def execTimeFrame (master : BitVec 64) (correction : BitVec 32) (seat : BitVec 12) (s : State) : Host.Outcome State Fault Refusal :=
  .next (timeFrame s master.toNat correction.toNat seat)

end Sys2Proof.Machine
end

