-- ==== Sys2Proof/Machine/Tables.lean ====
section
/-!
DEFINITION. Function and derivative tables: the image of a table and its exact evaluation (R136 to R141).
-/
namespace Sys2Proof.Machine

/-- A part of a table: F or D (R137). -/
structure TablePart where
  sym : Nat
  below : Nat
  above : Nat
  belowK : Val
  aboveK : Val
  pstep : Int
  addk : Val
  coef : Nat → Nat → Nat

/-- The header of a table image (R137). -/
structure TableHdr where
  mode : Nat
  mbits : Nat
  w : Int
  period : Nat
  lo : Nat
deriving DecidableEq, Repr

/-- The bytes [lo, lo+n) of an image as a number. -/
def imgNum (img : List Byte) (lo n : Nat) : Nat := ofBytes ((img.drop lo).take n)

/-- The header of an image. -/
def tableHdr (img : List Byte) : TableHdr :=
  ⟨imgNum img 0 1 % 4, imgNum img 1 1, signed 16 (imgNum img 4 2), imgNum img 6 2, imgNum img 12 4⟩

/-- Part F (`false`) or D (`true`) of an image. -/
def tablePart (img : List Byte) (d : Bool) : TablePart :=
  let k := if d then 1 else 0
  let out := imgNum img 3 1
  { sym := bits (imgNum img 2 1) (2 * k) 2
    below := bits out (4 * k) 2
    above := bits out (4 * k + 2) 2
    belowK := decodeFp32 (imgNum img (24 + 8 * k) 4)
    aboveK := decodeFp32 (imgNum img (28 + 8 * k) 4)
    pstep := signed 8 (imgNum img (8 + k) 1)
    addk := decodeFp32 (imgNum img (16 + 4 * k) 4)
    coef := fun s i => imgNum img (64 + 4096 * k + 16 * s + 4 * i) 4 }

/-- Whether an FP32 code is NaN. -/
def fp32Nan (c : Nat) : Bool := decodeFp32 c == .nan
/-- Whether it is infinite or NaN. -/
def fp32Special (c : Nat) : Bool := (decodeFp32 c).special

/-- The load checks of R138 and the field ranges of R137; an image that fails them gives NaN everywhere. An infinite LO of a UNIFORM table is refused (DESIGN CHOICE, log entry 48: R137 gives LO no range, and R138 lets a constant be infinite). -/
def tableOk (img : List Byte) : Bool :=
  let h := tableHdr img
  let b (i : Nat) : Nat := imgNum img i 1
  let uniform := h.mode == 0
  img.length == 8256 && decide (h.mode ≤ 1) && b 0 / 4 == 0 && bits (b 2) 4 4 == 0 && bits (b 2) 0 2 != 3 && bits (b 2) 2 2 != 3
    && imgNum img 10 2 == 0 && imgNum img 40 24 == 0
    && (if uniform then h.mbits == 0 && b 2 == 0 && h.period == 0 && decide (-64 ≤ h.w) && decide (h.w ≤ 64) && !fp32Special h.lo
        else decide (h.mbits ≤ 8) && decide (h.period * 2 ^ h.mbits ≤ 256) && decide (-149 ≤ h.w) && decide (h.w ≤ 127) && h.lo == 0)
    && [16, 20, 24, 28, 32, 36].all (fun o => !fp32Nan (imgNum img o 4))
    && (List.range 2048).all (fun i => !fp32Special (imgNum img (64 + 4 * i) 4))

/-- The last segment that a table uses (R139). -/
def TableHdr.lastSeg (h : TableHdr) : Nat := if h.period = 0 then 255 else h.period * 2 ^ h.mbits - 1

/-- c0 + c1 t + c2 t² + c3 t³ of segment `s`, t = `t` / 2^24 (R139). -/
def TablePart.poly (p : TablePart) (s t : Nat) : Val :=
  let c (i : Nat) : Val := decodeFp32 (p.coef s i)
  let x := Val.dyadic t (-24)
  (((c 0).add ((c 1).mul x)).add ((c 2).mul (x.mul x))).add ((c 3).mul (x.mul (x.mul x)))

/-- An outside-domain rule applied to a value (R139). `below` chooses the rule. -/
def TablePart.outside (p : TablePart) (h : TableHdr) (below : Bool) (v : Val) : Val :=
  let k := if below then p.belowK else p.aboveK
  match (if below then p.below else p.above) with
  | 0 => if below then decodeFp32 (p.coef 0 0) else
      let c (i : Nat) : Val := decodeFp32 (p.coef h.lastSeg i)
      (((c 0).add (c 1)).add (c 2)).add (c 3)
  | 1 => k
  | 2 => v
  | _ => k.mul v

/-- 2^(n × pstep) × y + n × addk (R139); in period 0 nothing is added, an infinite ADDK too (DESIGN CHOICE, log entry 48: 0 × infinity would make it NaN). -/
def TablePart.periodic (p : TablePart) (n : Int) (y : Val) : Val :=
  let z := y.scale (n * p.pstep)
  if n = 0 then z else z.add ((Val.dyadic n 0).mul p.addk)

/-- segment_value of R139: `u` the position in segments, `n` the period, `v` the value that an outside rule takes. -/
def TablePart.segment (p : TablePart) (h : TableHdr) (u : Val) (n : Int) (v : Val) : Val :=
  match u with
  | .nan => .nan
  | .inf neg => p.outside h neg v
  | .zero _ => p.periodic n (p.poly 0 0)
  | .num true _ => p.outside h true v
  | .num false m =>
    let s := (m.floorMul 0).1
    if s ≥ 256 then p.outside h false v
    else
      let t := (m.floorMul 24).1 - s * 2 ^ 24
      p.periodic n (p.poly s t)

/-- The negation that ODD symmetry makes (R139). -/
def oddSign (neg : Bool) (v : Val) : Val := if neg then v.neg else v

/-- evaluate of R139 at an exact input. -/
def evaluate (img : List Byte) (d : Bool) (x : Val) : Val :=
  if !tableOk img then .nan
  else
    let h := tableHdr img
    let p := tablePart img d
    match x with
    | .nan => .nan
    | _ =>
      if h.mode == 0 then p.segment h ((x.sub (decodeFp32 h.lo)).scale (-h.w)) 0 x
      else if x.sign && p.sym == 0 then p.outside h true x
      else
        let neg := x.sign && p.sym == 2
        match x.abs with
        | .inf _ => oddSign neg (p.outside h false (.inf false))
        | .num _ m =>
          let e := m.log2
          if h.period = 0 ∧ e < h.w then oddSign neg (p.outside h true x.abs)
          else
            -- (r + a / 2^e − 1) × 2^mbits, r the octave within the period
            let n := if h.period = 0 then 0 else (e - h.w) / h.period
            let r := (e - h.w) - n * h.period
            let frac := (Val.num false m).scale (-e)
            let u := ((frac.add (.dyadic (r - 1) 0)).scale h.mbits)
            oddSign neg (p.segment h u n x.abs)
        | _ => oddSign neg (p.outside h true x.abs)

end Sys2Proof.Machine
end

