-- ==== Sys2Proof/Machine/Image.lean ====
section
/-!
DEFINITION. The layout of a Syllabus image in memory, and every check that LOAD makes of it (R373 to R385, R468, R469).
-/
namespace Sys2Proof.Machine

/-! ## Reading an image -/

/-- `n` bytes of an image from byte `o`, as a number. -/
def State.im (s : State) (img : Image) (o n : Nat) : Nat := s.num (img.src + o) n
/-- Bytes of an image. -/
def State.imBytes (s : State) (img : Image) (o n : Nat) : List Byte := s.bytes (img.src + o) n
/-- Whether `n` bytes of an image are 0. -/
def State.imZero (s : State) (img : Image) (o n : Nat) : Bool := s.im img o n == 0

/-- A directory entry (R376), with its own offset. -/
structure Sec where
  type : Nat
  inst : Nat
  count : Nat
  off : Nat
  len : Nat
  dir : Nat
deriving DecidableEq, Repr

/-- Section types (R377): SLICE_SPLIT. -/
abbrev xSPLIT : Nat := 1
/-- PIN_LIST. -/
abbrev xPINS : Nat := 2
/-- PROGRAMS. -/
abbrev xPROGRAMS : Nat := 3
/-- LESSONS. -/
abbrev xLESSONS : Nat := 4
/-- TABLES. -/
abbrev xTABLES : Nat := 5
/-- FORMAT_RULES. -/
abbrev xRULES : Nat := 6
/-- SPLIT_GRAD. -/
abbrev xSPLITGRAD : Nat := 7
/-- TIMETABLE. -/
abbrev xTIMETABLE : Nat := 8
/-- BELLS. -/
abbrev xBELLS : Nat := 9
/-- COLLECTIVES. -/
abbrev xCOLLECTIVES : Nat := 0xA
/-- WINDOWS. -/
abbrev xWINDOWS : Nat := 0xB
/-- PORTS. -/
abbrev xPORTS : Nat := 0xC
/-- QUEUES. -/
abbrev xQUEUES : Nat := 0xD
/-- STACK_PARAMS. -/
abbrev xPARAMS : Nat := 0xE
/-- PSD_SEED. -/
abbrev xPSD : Nat := 0xF
/-- POWER. -/
abbrev xPOWER : Nat := 0x10
/-- EPOCHS. -/
abbrev xEPOCHS : Nat := 0x11

/-- The sections of an image, in directory order. -/
def State.secs (s : State) (img : Image) : List Sec :=
  (List.range (s.im img 40 4)).map (fun k =>
    let d := 256 + 32 * k
    ⟨s.im img d 2, s.im img (d + 2) 1, s.im img (d + 4) 4, s.im img (d + 8) 8, s.im img (d + 16) 8, d⟩)

/-- The section of a type and instance. -/
def State.sec (s : State) (img : Image) (type inst : Nat) : Option Sec := (s.secs img).find? (fun x => x.type == type && x.inst == inst)
/-- The INSTANCE of a module section. -/
abbrev xMODULE : Nat := 0xFF
/-- COVER of an image. -/
def State.covers (s : State) (img : Image) (p : Nat) : Bool := p < 4 && bitOf (s.im img 44 1) p
/-- Whether a stack is in an image. -/
def State.inImage (s : State) (img : Image) (st : Nat) : Bool := st < 4 && s.imagePart img st != 0xFF

/-! ## Header, directory, trailer (R375, R376, R385) -/

/-- The header fields of R375. -/
def State.headerOk (s : State) (img : Image) : Bool :=
  let p (st : Nat) : Nat := s.imagePart img st
  s.im img 0 4 == 0x53594C4C && s.im img 4 2 == 1 && s.imZero img 6 2 && s.imZero img 45 3 && s.imZero img 52 204
    && s.im img 16 8 == img.len && img.len % 128 == 0 && 4096 ≤ img.len && img.len ≤ 0x20000000
    && s.im img 32 4 != 0xFFFFFFFF && 1 ≤ s.im img 36 4 && s.im img 36 4 ≤ 8388608
    && 1 ≤ s.im img 40 4 && s.im img 40 4 ≤ 1024
    && s.im img 44 1 < 16
    && [0, 1, 2, 3].all (fun st => p st == 0xFF || s.covers img (p st))
    && [0, 1, 2, 3].all (fun q => !s.covers img q || [0, 1, 2, 3].any (fun st => p st == q))

/-- Whether an INSTANCE lies in the image's stack set or COVER, by the scope of the section's type. -/
def State.instanceOk (s : State) (img : Image) (x : Sec) : Bool :=
  if [xSPLIT, xPINS, xCOLLECTIVES, xPARAMS, xPSD].elem x.type then s.inImage img x.inst
  else if x.type == xPROGRAMS then s.inImage img (x.inst / 16)
  else if x.type == xTIMETABLE then s.covers img x.inst
  else if x.type == xPORTS then x.inst < 16 && s.inImage img (stackOfPort x.inst)
  else x.inst == xMODULE

/-- The record size of a section type with records of one size (R377). -/
def recordSize (type : Nat) : Option Nat :=
  match type with
  | 1 => some 2 | 2 => some 8 | 5 => some 8264 | 7 => some 4 | 9 => some 64 | 0xA => some 64 | 0xB => some 16 | 0xC => some 4
  | 0xD => some 32 | 0xE => some 256 | 0xF => some 64 | 0x10 => some 8 | 0x11 => some 4 | _ => none

/-- A directory entry by itself. -/
def State.entryOk' (s : State) (img : Image) (x : Sec) : Bool :=
  s.imZero img (x.dir + 3) 1 && s.imZero img (x.dir + 24) 8 && x.off % 64 == 0 && 1 ≤ x.type && x.type ≤ 0x11
    && s.instanceOk img x && x.off + x.len ≤ img.len - 128 && 256 + 32 * s.im img 40 4 ≤ x.off
    && (match recordSize x.type with | some n => x.len == n * x.count | none => true)

/-- Whether two sections can stand in one image: they do not overlap, and they differ in TYPE or INSTANCE. -/
def secsApart (a b : Sec) : Bool := (a.off + a.len ≤ b.off || b.off + b.len ≤ a.off || a.len == 0 || b.len == 0) && !(a.type == b.type && a.inst == b.inst)

/-- Whether every pair of a list is related. -/
def pairwise {α : Type} (r : α → α → Bool) : List α → Bool
  | [] => true
  | a :: t => t.all (r a) && pairwise r t

/-- Header fields, directory and trailer layout (R386, step 1). -/
def State.layoutOk (s : State) (img : Image) : Bool :=
  s.headerOk img && 256 + 32 * s.im img 40 4 ≤ img.len - 128 && (s.secs img).all (s.entryOk' img) && pairwise secsApart (s.secs img)
    && s.imZero img (img.len - 124) 12 && s.imZero img (img.len - 16) 16

/-! ## Signature and policy (R385, R468, R469) -/

/-- KEY_ID of an image. -/
def State.imKey (s : State) (img : Image) : Nat := s.im img (img.len - 128) 4
/-- The digest of an image (R385). -/
def State.imDigest (s : State) (img : Image) : BitVec 384 := Config.sha384 (s.imBytes img 0 (img.len - 128))
/-- The state of a Syllabus key slot: 1 ACTIVE (R468). -/
def State.keyState (s : State) (slot : Nat) : Nat := s.fld F.secKeyState 0 slot
/-- The public key of a slot. -/
def State.keyOf (s : State) (slot : Nat) : BitVec 768 := BitVec.ofNat 768 (s.reg .secKeyPub 0 slot)
/-- Whether the signature verifies under an ACTIVE or REVOKED key of the slot that KEY_ID names. -/
def State.signatureOk (s : State) (img : Image) : Bool :=
  let k := s.imKey img
  k < 16 && s.keyState k != 0
    && Config.ecdsaVerify (s.keyOf k) (s.imDigest img) (BitVec.ofNat 384 (s.im img (img.len - 112) 48)) (BitVec.ofNat 384 (s.im img (img.len - 64) 48))
/-- The policy check of R469. -/
def State.policyOk (s : State) (img : Image) : Bool :=
  let k := s.imKey img
  s.keyState k == 1 && [0, 1, 2, 3].all (fun p => !s.covers img p || bitOf (s.fld F.secKeyParts 0 k) p)
    && s.im img 12 4 ≥ s.reg .secSylMinSvn

/-! ## Scope (R374) -/

/-- Whether an image may be activated against the partitions that are active. -/
def State.scopeOk (s : State) (img : Image) : Bool :=
  let set := s.imageStacks img
  (s.replaced img).all (fun p => (s.stacksOf p).all (fun st => set.elem st))
    && [0, 1, 2, 3].all (fun p => !s.covers img p || (s.stacksOf p).all (fun st => set.elem st))

/-! ## Section checks (R377 to R384): lists of image offset and whether the field there passes -/

/-- Checks in order. -/
abbrev Checks := List (Nat × Bool)

/-- The INTAKE_BASE of a port that an image would set, or the one that stands (R348, R384). -/
def State.imIntake (s : State) (img : Image) (h : Nat) : Nat :=
  match s.sec img xQUEUES xMODULE with
  | some x =>
    match (List.range x.count).find? (fun k => s.im img (x.off + 32 * k) 1 == 3 && s.im img (x.off + 32 * k + 1) 1 == h) with
    | some k => s.im img (x.off + 32 * k + 8) 8
    | none => s.reg .hostIntakeBase h
  | none => s.reg .hostIntakeBase h
/-- Whether a range overlaps a staging area as the image sets them (R348). -/
def State.imStaging (s : State) (img : Image) (a n : Nat) : Bool :=
  [0, 1].any (fun h => a < s.imIntake img h + 0x10000000 && s.imIntake img h < a + n)

/-- Whether a range lies in one HBM4 or scratch region of a partition of the image, and off the image itself and the staging areas (R348, R377). -/
def State.imRegion (s : State) (img : Image) (part a n : Nat) : Bool :=
  n == 0 || (!s.imStaging img a n && (regionOf a == .hbm || regionOf a == .scratch) && regionOf a == regionOf (a + n - 1) && addrStack a == addrStack (a + n - 1)
    && s.imagePart img (addrStack a) == part && (a + n ≤ img.src || img.src + img.len ≤ a))
/-- Whether a range lies in the HBM4 of one stack, off the image. -/
def State.imHbm (s : State) (img : Image) (st a n : Nat) : Bool :=
  addrStack a == st && regionOf a == .hbm && s.imRegion img (s.imagePart img st) a n

/-- SLICE_SPLIT (R205, R210). -/
def State.splitChecks (s : State) (img : Image) (x : Sec) : Checks :=
  (x.dir + 4, x.count == 256) :: (List.range x.count).map (fun n =>
    let w := s.im img (x.off + 2 * n) 2
    (x.off + 2 * n, bits w 0 5 ≤ 16 && bits w 8 4 ≤ 12 && bits w 8 4 ≤ bits w 0 5 && bits w 5 3 == 0 && bits w 12 4 == 0))

/-- The SLICE_SPLIT value of a slice of a stack. -/
def State.splitOf (s : State) (img : Image) (st n : Nat) : Nat :=
  match s.sec img xSPLIT st with
  | some x => s.im img (x.off + 2 * n) 2
  | none => 0

/-- PIN_LIST: the pins of a set stay within its slice's PIN_CAP (R211). -/
def State.pinChecks (s : State) (img : Image) (x : Sec) : Checks :=
  let lines := ((List.range x.count).map (fun k => s.im img (x.off + 8 * k) 8)).dedup
  let set (l : Nat) : Nat × Nat := (sliceHash (l % 2 ^ 40), setOf l)
  (List.range x.count).map (fun k =>
    let w := s.im img (x.off + 8 * k) 8
    (x.off + 8 * k, bits w 0 7 == 0 && bits w 40 24 == 0
      && (lines.filter (fun l => set l == set w)).length ≤ bits (s.splitOf img x.inst (set w).1) 8 4))

/-- PROGRAMS. -/
def programChecks (x : Sec) : Checks := [(x.dir + 16, x.len ≤ 0x100000 && x.len % 16 == 0)]

/-- The identifiers of TABLES. -/
def State.tableIdsOf (s : State) (img : Image) : List Nat :=
  match s.sec img xTABLES xMODULE with
  | some x => (List.range x.count).map (fun k => s.im img (x.off + 8264 * k) 2)
  | none => []

/-- TABLES (R137, R138). -/
def State.tableChecks (s : State) (img : Image) (x : Sec) : Checks :=
  (x.dir + 4, x.count ≤ 4096) :: (List.range x.count).flatMap (fun k =>
    let o := x.off + 8264 * k
    let id := s.im img o 2
    [(o, id != 0xFFFF && s.imZero img (o + 2) 6 && ((s.tableIdsOf img).take k).all (fun j => j != id)),
     (o + 8, tableOk (s.imBytes img (o + 8) 8256))])

/-! ### Lessons (R153, R158, R167 to R171, R383) -/

/-- Image offset of lesson record `i`; none beyond COUNT or the section. -/
def State.imLesson (s : State) (img : Image) (i : Nat) : Option Nat :=
  match s.sec img xLESSONS xMODULE with
  | some x =>
    let o := s.im img (x.off + 4 * i) 4
    if i < x.count && 4 * x.count ≤ o && o + 64 ≤ x.len && o + 64 + 6528 * bits (s.im img (x.off + o) 8) 0 4 ≤ x.len then some (x.off + o) else none
  | none => none
/-- NSTAGES of the lesson at an offset. -/
def State.imStages (s : State) (img : Image) (o : Nat) : Nat := bits (s.im img o 8) 0 4
/-- CLUSTER_MASK. -/
def State.imClusters (s : State) (img : Image) (o : Nat) : Nat := s.im img (o + 8) 8
/-- The stacks of a lesson. -/
def State.imLessonStacks (s : State) (img : Image) (o : Nat) : List Nat := [0, 1, 2, 3].filter (fun st => bits (s.imClusters img o) (16 * st) 16 != 0)
/-- Offset of a stage record. -/
def stageOff (o k : Nat) : Nat := o + 64 + 6528 * k
/-- A tensor descriptor of a stage record. -/
def State.imTensor (s : State) (img : Image) (g d : Nat) : Nat := s.im img (g + 0x180 + 32 * d) 32
/-- A stream descriptor of a stage record. -/
def State.imStream (s : State) (img : Image) (g d : Nat) : Nat := s.im img (g + 0x980 + 64 * d) 64
/-- An owner byte of a stage's slot map. -/
def State.imOwner (s : State) (img : Image) (g slot : Nat) : Nat := s.im img (g + 0x80 + slot) 1

/-- The partition that a lesson runs in: that of its stacks (R153). -/
def State.imLessonPart (s : State) (img : Image) (o : Nat) : Nat := s.imagePart img ((s.imLessonStacks img o).headD 0)

/-- The checks of the tensor descriptor at `a` of a lesson of partition `part`; none where VALID is 0 (R164, R377, R383, R504). The region that it names is its statistics record, where STATS_EN is 1 (DESIGN CHOICE, log entry 35). -/
def State.tensorChecks (s : State) (img : Image) (part a : Nat) : Checks :=
  let w := s.im img a 32
  let d := tensorDesc w
  if !d.valid then []
  else
    [(a, d.fmt != 0xF && d.saxis != 3), (a + 1, bits w 8 8 == 0), (a + 2, !isFxg d.fmt || (decide (-320 ≤ d.e) && decide (d.e ≤ 256))), (a + 8, d.l != 0),
     (a + 12, bits w 96 32 == 0), (a + 16, d.statsAddr % 32 == 0 && (!d.statsEn || s.imRegion img part d.statsAddr 32)), (a + 22, bits w 178 78 == 0)]

/-- Whether every slot of every buffer of a stream descriptor is given to it, scale rows included (R167). -/
def State.buffersOwned (s : State) (img : Image) (g d : Nat) (sd : StreamDesc) : Bool :=
  let r := tileReg sd.buftile
  let t := tensorOf (s.imTensor img g r.tdesc)
  let n := if t.saxis == 1 then r.rows else if t.saxis == 2 then r.span * perRow t.fmt else 0
  let rows := (n + 127) / 128
  let mine (slot : Nat) : Bool := slot < 128 && s.imOwner img g slot == 0x40 + d
  (List.range (sd.nbuf * r.span)).all (fun k => mine (r.slot + k))
    && (List.range (sd.nbuf * rows)).all (fun k => mine ((r.sslot * 128 + r.srow + k) / 128))

/-- Whether a LINK descriptor and its partner match (R171); the fields of an absent tensor descriptor are not compared (R504). -/
def State.linkOk (s : State) (img : Image) (o k d : Nat) (sd : StreamDesc) : Bool :=
  let g := stageOff o k
  let g2 := stageOff o sd.linkStage
  let w2 := s.imStream img g2 sd.linkDesc
  let sd2 := streamDesc w2
  let m := s.im img g 1
  let m2 := s.im img g2 1
  let r := tileReg sd.buftile
  let r2 := tileReg sd2.buftile
  let t := tensorOf (s.imTensor img g r.tdesc)
  let t2 := tensorOf (s.imTensor img g2 r2.tdesc)
  sd.linkStage < s.imStages img o && sd2.valid && sd2.linkStage == k && sd2.linkDesc == d
    && (if sd.dir == 2 then sd2.dir == 1 && sd2.target == 1 else sd2.dir == 2)
    && m &&& m2 == 0 && ((List.range 8).filter (bitOf m)).length == ((List.range 8).filter (bitOf m2)).length
    && sd.rb == sd2.rb && r.rows == r2.rows && r.span == r2.span && (!t.valid || !t2.valid || (t.fmt == t2.fmt && t.saxis == t2.saxis)) && sd.nbuf == sd2.nbuf

/-- The bytes from the lowest to the highest that a run of transfers of a stream descriptor moves, where each of them is a block of `rows` rows: address and length (R169). -/
def streamHull (base : Nat) (rb rows count : Nat) (rstride tstride : Int) : Option (Nat × Nat) :=
  let r := rstride * (rows - 1)
  let t := tstride * (count - 1)
  let lo := (base : Int) + min 0 r + min 0 t
  if lo < 0 then none else some (lo.toNat, (max 0 r + max 0 t - min 0 r - min 0 t).toNat + rb)

/-- Whether the memory that a stream descriptor names lies in one region of its partition and off the image (R377). A descriptor names memory by itself where it begins its run at stage start with no argument word (DESIGN CHOICE, log entry 35); of any other the addresses come with the run. -/
def State.streamRegion (s : State) (img : Image) (g part : Nat) (sd : StreamDesc) (scale : Bool) : Bool :=
  let r := tileReg sd.buftile
  let d := tensorOf (s.imTensor img g r.tdesc)
  if !(sd.autoArm && sd.baseArg == 0 && (sd.dir == 0 || (sd.dir == 1 && sd.target == 0))) then true
  else
    let hull :=
      if !scale then streamHull sd.base sd.rb r.rows sd.count sd.rstride sd.tstride
      else
        let n := if d.saxis == 1 then r.rows else if d.saxis == 2 then r.span * perRow d.fmt else 0
        if n == 0 then some (0, 0) else streamHull sd.sbase n 1 sd.count 0 sd.ststride
    match hull with
    | some (a, n) => s.imRegion img part a n
    | none => false

/-- The checks of stream descriptor `d` of stage `k` of a lesson of partition `part`; none where VALID is 0 (R166, R167, R169, R171, R377, R383, R504). With TARGET ASSEMBLY, BASE names a collective and no address (R170). -/
def State.streamChecks (s : State) (img : Image) (o k part d : Nat) : Checks :=
  let g := stageOff o k
  let a := g + 0x980 + 64 * d
  let w := s.imStream img g d
  let sd := streamDesc w
  let assembly := sd.dir == 1 && sd.target == 2
  if !sd.valid then []
  else
    [(a, sd.dir != 3 && sd.target != 3 && !bitOf w 7), (a + 1, bitOf (s.im img (g + 2) 2) sd.owner && !bitOf w 15), (a + 2, bits w 20 12 == 0),
     (a + 4, !tileReserved sd.buftile && (tileReg sd.buftile).stream.isNone && s.buffersOwned img g d sd),
     (a + 12, sd.rb % 32 == 0 && 32 ≤ sd.rb && sd.rb ≤ 128 * (tileReg sd.buftile).span), (a + 14, bits w 112 16 == 0),
     (a + 16, assembly || (sd.base % 32 == 0 && s.streamRegion img g part sd false)), (a + 22, bits w 181 11 == 0),
     (a + 24, sd.rstride % 32 == 0), (a + 32, sd.tstride % 32 == 0), (a + 40, sd.sbase % 32 == 0 && s.streamRegion img g part sd true),
     (a + 46, bits w 370 14 == 0), (a + 48, sd.ststride % 32 == 0), (a + 56, !(sd.dir == 2 || (sd.dir == 1 && sd.target == 1)) || s.linkOk img o k d sd),
     (a + 56, bits w 451 5 == 0), (a + 57, bits w 462 50 == 0)]

/-- An owner byte that the load takes (R88). -/
def ownerOk (threads b : Nat) : Bool :=
  b == 0 || b == 0x20 || (0x40 ≤ b && b ≤ 0x7F) || (0x10 ≤ b && b < 0x20 && bitOf threads (b - 0x10))

/-- The checks of stage record `k` of the lesson at `o`. -/
def State.stageChecks (s : State) (img : Image) (o k : Nat) : Checks :=
  let g := stageOff o k
  let h := s.im img g 64
  let lo := bits h 64 20
  let hi := bits h 96 21
  let pc := bits h 32 20
  let threads := bits h 16 16
  let ids := s.tableIdsOf img
  [(g, bits h 0 8 != 0), (g + 1, bits h 8 8 == 0), (g + 2, threads != 0), (g + 4, pc % 16 == 0 && lo ≤ pc && pc < hi), (g + 6, bits h 52 12 == 0),
   (g + 8, lo % 16 == 0 && lo < hi), (g + 10, bits h 84 12 == 0), (g + 12, hi % 16 == 0 && hi ≤ 0x100000), (g + 14, bits h 117 395 == 0)]
  ++ (List.range 16).map (fun n =>
    let id := s.im img (g + 0x40 + 2 * n) 2
    (g + 0x40 + 2 * n, id == 0xFFFF || ids.elem id))
  ++ (List.range 32).map (fun n =>
    let b := s.im img (g + 0x60 + n) 1
    (g + 0x60 + n, bits b 4 3 == 0 && (!bitOf b 7 || bitOf threads (bits b 0 4))))
  ++ (List.range 128).map (fun n => (g + 0x80 + n, ownerOk threads (s.imOwner img g n)))
  ++ (List.range 16).map (fun n => (g + 0x100 + 8 * n, !tileReserved (s.im img (g + 0x100 + 8 * n) 8)))
  ++ (List.range 64).flatMap (fun d => s.tensorChecks img (s.imLessonPart img o) (g + 0x180 + 32 * d))
  ++ (List.range 64).flatMap (fun d => s.streamChecks img o k (s.imLessonPart img o) d)

/-- LESSONS (R153, R383). -/
def State.lessonChecks (s : State) (img : Image) (x : Sec) : Checks :=
  (x.dir + 4, x.count ≤ 65534 && 4 * x.count ≤ x.len) :: (List.range x.count).flatMap (fun i =>
    match s.imLesson img i with
    | none => [(x.off + 4 * i, false)]
    | some o =>
      let h := s.im img o 64
      let stks := s.imLessonStacks img o
      [(o, 1 ≤ bits h 0 4 && bits h 0 4 ≤ 8 && bits h 6 58 == 0),
       (o + 8, !stks.isEmpty && stks.all (fun st => s.inImage img st) && (stks.map (s.imagePart img)).dedup.length == 1), (o + 20, bits h 160 352 == 0)]
      ++ (List.range (min 8 (bits h 0 4))).flatMap (s.stageChecks img o))

/-- The number of lessons. -/
def State.lessonsOf (s : State) (img : Image) : Nat := match s.sec img xLESSONS xMODULE with | some x => x.count | none => 0
/-- Whether lesson `i` is SCHEDULED and runs in a partition. -/
def State.scheduledIn (s : State) (img : Image) (part i : Nat) : Bool :=
  match s.imLesson img i with
  | some o => bitOf (s.im img o 8) 5 && (s.imLessonStacks img o).any (fun st => s.imagePart img st == part)
  | none => false

/-! ### Format rules, Timetable, Bells -/

/-- Offsets of the bindings of each rule: the bindings follow the rules, in rule order (R382). -/
def bindingStarts : Nat → List Nat → List Nat
  | _, [] => []
  | o, n :: t => o :: bindingStarts (o + 4 * n) t

/-- The rules of a section: offset, and its bindings as (offset, word). -/
def State.imRules (s : State) (img : Image) (x : Sec) : List (Nat × List (Nat × Nat)) :=
  let rs := (List.range x.count).map (fun k => x.off + 32 * k)
  let nb := rs.map (fun r => s.im img (r + 6) 2)
  (rs.zip ((bindingStarts (x.off + 32 * x.count) nb).zip nb)).map (fun (y : Nat × Nat × Nat) =>
    (y.1, (List.range y.2.2).map (fun j => (y.2.1 + 4 * j, s.im img (y.2.1 + 4 * j) 4))))

/-- The offset of the tensor descriptor that a binding names; none where there is none (R382). -/
def State.bindingDesc (s : State) (img : Image) (w : Nat) : Option Nat :=
  match s.imLesson img (bits w 0 16) with
  | some o => if bits w 16 3 < s.imStages img o then some (stageOff o (bits w 16 3) + 0x180 + 32 * bits w 19 6) else none
  | none => none

/-- FORMAT_RULES (R382). -/
def State.ruleChecks (s : State) (img : Image) (x : Sec) : Checks :=
  let rules := s.imRules img x
  let total := (rules.map (fun r => r.2.length)).sum
  (x.dir + 4, x.count ≤ 4096) :: (x.dir + 16, x.len == 32 * x.count + 4 * total) :: (rules.zipIdx.flatMap (fun y =>
    let r := y.1.1
    let w := s.im img r 32
    let top := bits w 16 2
    let rung (k : Nat) : Nat := bits w (4 * k) 4
    let uh := bits w 22 5
    let descs := y.1.2.filterMap (fun b => (s.bindingDesc img b.2).map (fun o => tensorDesc (s.im img o 32)))
    let first := descs.headD (tensorDesc 0)
    let mem (a : Nat) : Bool := a % 32 == 0 && s.inImage img (addrStack a) && s.imRegion img (s.imagePart img (addrStack a)) a 32
    [(r, (List.range (top + 1)).all (fun k => rung k < 0xD && (if first.saxis == 0 then mayBeUnscaled (rung k) else mayBeScaled (rung k)))),
     (r + 2, bits w 18 4 ≤ 8 && 1 ≤ uh && uh ≤ 30 && uh < bits w 27 5), (r + 4, 1 ≤ bits w 32 8), (r + 5, bits w 40 8 == 0),
     (r + 6, 1 ≤ bits w 48 16), (r + 8, mem (bits w 64 50) && bits w 114 14 == 0), (r + 16, mem (bits w 128 50) && bits w 178 78 == 0)]
    ++ y.1.2.map (fun b =>
      (b.1, bits b.2 25 7 == 0
        && (match s.bindingDesc img b.2 with
            | some o =>
              let d := tensorDesc (s.im img o 32)
              d.valid && d.saxis == first.saxis && d.e == first.e && d.fmt == rung 0
            | none => false)
        && rules.zipIdx.all (fun z => z.2 == y.2 || z.1.2.all (fun c => bits c.2 0 25 != bits b.2 0 25))))))

/-- SPLIT_GRAD (R189). -/
def State.splitGradChecks (s : State) (img : Image) (x : Sec) : Checks :=
  (x.dir + 4, x.count ≤ 64) :: (List.range x.count).map (fun k =>
    (x.off + 4 * k, (List.range k).all (fun j => s.im img (x.off + 4 * j) 4 != s.im img (x.off + 4 * k) 4)))

/-- The entries of a Timetable section. -/
def State.imTimetable (s : State) (img : Image) (x : Sec) : List Nat :=
  (List.range (s.im img (x.off + 8) 4)).map (fun k => s.im img (x.off + 32 + 8 * k) 8)

/-- The micro-batches in flight at entry `k` (R379). -/
def inFlight (l : List Nat) (k : Nat) : Nat :=
  let mb (w : Nat) : Nat := bits w 16 16
  ((l.map mb).dedup.filter (fun b =>
    (l.take (k + 1)).any (fun w => mb w == b && !bitOf w 35) && (l.drop k).any (fun w => mb w == b && bitOf w 35))).length

/-- TIMETABLE (R379). -/
def State.timetableChecks (s : State) (img : Image) (x : Sec) : Checks :=
  let o := x.off
  let v := s.im img o 1
  let p := s.im img (o + 2) 2
  let m := s.im img (o + 4) 2
  let n := s.im img (o + 8) 4
  let l := s.imTimetable img x
  [(o, 1 ≤ v && v ≤ 8), (o + 1, s.imZero img (o + 1) 1), (o + 2, 1 ≤ p && p ≤ 4096), (o + 4, 1 ≤ m && (v < 2 || m % p == 0)),
   (o + 6, s.imZero img (o + 6) 2), (o + 8, 1 ≤ n && n ≤ 65536 && x.len == 32 + 8 * n),
   (o + 12, (List.range 8).all (fun k => bits (s.im img (o + 12) 3) (3 * k) 3 ≤ 4)), (o + 15, s.imZero img (o + 15) 17)]
  ++ l.zipIdx.flatMap (fun (y : Nat × Nat) =>
    [(o + 32 + 8 * y.2, s.scheduledIn img x.inst (bits y.1 0 16)), (o + 32 + 8 * y.2 + 2, bits y.1 16 16 < m && inFlight l y.2 ≤ 64),
     (o + 32 + 8 * y.2 + 4, bits y.1 32 3 < v && bits y.1 36 28 == 0)])
  ++ [(o + 8, (List.range (s.lessonsOf img)).all (fun i => !s.scheduledIn img x.inst i || l.any (fun w => bits w 0 16 == i)))]

/-- BELLS (R175): a record whose VALID is 0 is absent, its GROUP with it (R504). A second valid record of one group is refused (DESIGN CHOICE, log entry 35). -/
def State.bellChecks (s : State) (img : Image) (x : Sec) : Checks :=
  let valid (o : Nat) : Bool := bitOf (s.im img (o + 32) 1) 7
  (List.range x.count).flatMap (fun k =>
    let o := x.off + 64 * k
    let g := s.im img o 2
    let w := s.im img (o + 32) 32
    let r := bellRec (BitVec.ofNat 256 w)
    let stks := [0, 1, 2, 3].filter (fun st => bits r.clusters (16 * st) 16 != 0)
    let old := bellRec (s.bell g).record
    if !r.valid then []
    else
      [(o, g < 4096 && (List.range k).all (fun j => s.im img (x.off + 64 * j) 2 != g || !valid (x.off + 64 * j))
          && (!old.valid || (s.replaced img).elem (s.partOf old.counting))),
       (o + 2, s.imZero img (o + 2) 30), (o + 32, bits w 3 4 == 0), (o + 33, bits w 12 4 == 0), (o + 35, bits w 24 8 == 0),
       (o + 36, stks.all (fun st => s.inImage img st) && (r.level == 3 || (stks.map (s.imagePart img)).dedup.length == 1)
          && (r.level != 0 || ((List.range 64).filter (bitOf r.clusters)).length == 1) && (r.level != 1 || stks.length == 1)),
       (o + 44, if r.level == 3 then 1 ≤ r.seats && r.seats ≤ 4096 else r.seats == 1), (o + 47, bits w 124 4 == 0), (o + 52, bits w 160 96 == 0)])

/-! ### Collectives, windows, ports, queues -/

/-- COLLECTIVES (R313). -/
def State.collChecks (s : State) (img : Image) (x : Sec) : Checks :=
  let part := s.imagePart img x.inst
  (x.dir + 4, x.count ≤ 1024) :: (List.range x.count).flatMap (fun k =>
    let o := x.off + 64 * k
    let w := s.im img o 8
    let kind := bits w 0 4
    let sched := bits w 4 2
    let red := kind == 0 || kind == 2
    let inF := bits w 8 4
    let sumF := bits w 12 4
    let p := bits w 32 13
    let nunit := bits (s.im img (o + 16) 8) 0 32
    let flat := if kind == 5 then 256 else if red then nunit * 256 * (fmtWidth sumF / 8) else nunit * 256
    let inBytes := if red then nunit * 256 * (fmtWidth inF / 8) else nunit * 256
    let a (j : Nat) : Nat := bits (s.im img (o + 8 * j) 8) 0 50
    let zero (j : Nat) : Nat × Bool := (o + 8 * j + 6, bits (s.im img (o + 8 * j) 8) 50 14 == 0)
    if !bitOf w 7 then []
    else
      [(o, kind ≤ 5 && (if kind == 4 then sched == 2 else sched ≤ 1) && (!bitOf w 6 || red)),
       (o + 1, if red then isFxg inF && (sumF == 0xA || sumF == 0xC) && fmtWidth inF ≤ fmtWidth sumF else if kind == 5 then sumF == 0xA || sumF == 0xC else sumF == 0),
       (o + 2, bits w 17 2 ≤ 1 && (bits w 17 2 != 1 || red) && (kind != 3 || (bits w 19 13 < p && (sched != 1 || bits w 19 13 == 0)))),
       (o + 4, 1 ≤ p && p ≤ 4096), (o + 5, bits w 45 3 == 0), (o + 6, (portList (bits w 48 16)).all (fun q => stackOfPort q == x.inst)),
       (o + 8, s.imRegion img part (a 1) (2 * p)), zero 1,
       (o + 16, p ≤ nunit && (kind != 4 || nunit % p == 0)), (o + 20, s.imZero img (o + 20) 4),
       (o + 24, !bitOf w 16 || s.imRegion img part (a 3) inBytes), zero 3,
       (o + 32, kind == 5 || s.imRegion img part (a 4) (if bits w 17 2 == 1 then 8 else flat)), zero 4,
       (o + 40, s.imRegion img part (a 5) (2 * flat)), zero 5,
       (o + 48, a 6 % 8 == 0 && s.imRegion img part (a 6) 8), zero 6, (o + 56, s.imZero img (o + 56) 8)])

/-- The window entries that would stand after the image's own are written: those of partitions that it does not replace. -/
def State.keptEntries (s : State) (img : Image) (far : Bool) : List Nat :=
  (s.windowTable far).map (fun e => if bitOf e 0 && (s.replaced img).elem (bits e 3 2) then 0 else e)

/-- WINDOWS (R291). -/
def State.windowChecks (s : State) (img : Image) (x : Sec) : Checks :=
  let ents := (List.range x.count).map (fun k => s.im img (x.off + 16 * k + 8) 8)
  let kept := s.keptEntries img false ++ s.keptEntries img true
  (List.range x.count).flatMap (fun k =>
    let o := x.off + 16 * k
    let far := s.im img o 1 == 1
    let i := s.im img (o + 1) 1
    let e := s.im img (o + 8) 8
    let ok (b : Bool) : Bool := !bitOf e 0 || b
    let lo := bits e 8 12
    let hi := bits e 20 12
    [(o, s.im img o 1 ≤ 1),
     (o + 1, i < (if far then 64 else 16) && !bitOf ((s.keptEntries img far).getD i 0) 0 && (List.range k).all (fun j => !(s.im img (x.off + 16 * j) 2 == s.im img o 2))),
     (o + 2, s.imZero img (o + 2) 6), (o + 8, ok (s.covers img (bits e 3 2)) && bits e 5 3 == 0),
     (o + 9, ok (if far then decide (lo ≤ hi) else lo == hi) && (ents.take k ++ kept).all (fun f => !entriesClash e f)),
     (o + 12, ok (winPorts e != 0 && (portList (winPorts e)).all (fun q => s.imagePart img (stackOfPort q) == bits e 3 2))),
     (o + 14, ok (stagesOk far e) && bits e 50 14 == 0)])

/-- PORTS. -/
def State.portChecks (s : State) (img : Image) (x : Sec) : Checks :=
  [(x.dir + 4, x.count == 1), (x.off, s.im img x.off 1 != 0 && s.im img (x.off + 1) 1 != 0 && s.im img (x.off + 2) 1 != 0 && s.imZero img (x.off + 3) 1)]

/-- The fields of a queue record of the QUEUES section (R384): KIND 0. -/
def State.queueRecChecks (s : State) (img : Image) (o : Nat) : Checks :=
  let i := s.im img (o + 2) 1
  let v := s.im img (o + 8) 8
  [(o + 2, i < 128 && (s.fld F.queueConfigValid 0 i == 0 || (s.replaced img).elem (s.fld F.queueConfigPart 0 i))),
   (o + 8, bitOf v 0 && s.covers img (bits v 2 2) && s.imagePart img (bits v 4 2) == bits v 2 2 && bits v 6 2 == 0), (o + 9, 1 ≤ bits v 8 8),
   (o + 10, bits v 16 48 == 0)]
/-- Those of a step ring record: KIND 1. -/
def State.stepRecChecks (s : State) (img : Image) (o : Nat) : Checks :=
  let v := s.im img (o + 8) 8
  [(o + 2, s.covers img (s.im img (o + 2) 1)), (o + 8, bits v 2 6 == 0), (o + 10, bits v 16 48 == 0)]
/-- Those of an intake ring record: KIND 2. The range from LO to HI is a region that the section names (R377). -/
def State.intakeRecChecks (s : State) (img : Image) (o : Nat) : Checks :=
  let port := s.im img (o + 1) 1
  let i := s.im img (o + 2) 1
  let v := s.im img (o + 8) 8
  let lo := bits v 0 50
  let hi := s.im img (o + 16) 8
  [(o + 1, port < 2), (o + 2, i < 64 && (s.fld F.hostIntakeLoValid port i == 0 || (s.replaced img).elem (s.fld F.hostIntakeLoPart port i))),
   (o + 8, lo < hi && s.imRegion img (bits v 51 2) lo (hi - lo)), (o + 14, s.covers img (bits v 51 2) && bits v 53 11 == 0),
   (o + 16, hi < 2 ^ 50)]
/-- Those of an intake base record: KIND 3. The staging area is a region that the section names (R347, R377). -/
def State.baseRecChecks (s : State) (img : Image) (o : Nat) : Checks :=
  let port := s.im img (o + 1) 1
  let v := s.im img (o + 8) 8
  [(o + 1, port < 2 && s.inImage img (hostStack port)),
   (o + 8, v % 0x400000 == 0 && regionOf v == .hbm && addrStack v == hostStack port && regionOf (v + 0xFFFFFFF) == .hbm && addrStack (v + 0xFFFFFFF) == hostStack port
      && (v + 0x10000000 ≤ img.src || img.src + img.len ≤ v))]

/-- QUEUES (R347, R384). -/
def State.queueChecks (s : State) (img : Image) (x : Sec) : Checks :=
  (List.range x.count).flatMap (fun k =>
    let o := x.off + 32 * k
    let kind := s.im img o 1
    ([(o, decide (kind ≤ 3)), (o + 3, s.imZero img (o + 3) 5)] : Checks)
    ++ (if kind == 0 then s.queueRecChecks img o else if kind == 1 then s.stepRecChecks img o else if kind == 2 then s.intakeRecChecks img o else s.baseRecChecks img o)
    ++ [(o + 24, s.imZero img (o + 24) 8)])

/-! ### Stack parameters (R378) -/

/-- LENGTH of a section, 0 where it is absent. -/
def State.secLen (s : State) (img : Image) (type inst : Nat) : Nat := match s.sec img type inst with | some x => x.len | none => 0
/-- COUNT of a section. -/
def State.secCount (s : State) (img : Image) (type inst : Nat) : Nat := match s.sec img type inst with | some x => x.count | none => 0
/-- The size of a stack's resident copy (R381). -/
def State.residentSize (s : State) (img : Image) (st : Nat) : Nat :=
  s.secLen img xLESSONS xMODULE + s.secLen img xBELLS xMODULE
    + ((List.range 16).map (fun c => s.secLen img xPROGRAMS (16 * st + c))).sum + 4096
/-- Whether a value is a power of two from 64 to 2^24. -/
def ringEntries (n : Nat) : Bool := (List.range 19).any (fun k => n == 2 ^ (k + 6))

/-- STACK_PARAMS of a stack. HW_BASE is a fabric address where its window type is NEAR or FAR (R290), and every value is a host bus address. -/
def State.paramChecks (s : State) (img : Image) (x : Sec) : Checks :=
  let st := x.inst
  let part := s.imagePart img st
  let o := x.off
  let w (k n : Nat) : Nat := s.im img (o + k) n
  let norm := w 24 4
  let coll := bits norm 0 10
  let isNorm := match s.sec img xCOLLECTIVES st with
    | some c => coll < c.count && bits (s.im img (c.off + 64 * coll) 8) 0 4 == 5 && bitOf (s.im img (c.off + 64 * coll) 8) 7
    | none => false
  [(x.dir + 4, x.count == 1),
   (o, w 0 8 % 128 == 0 && s.imHbm img st (w 0 8) (s.residentSize img st)),
   (o + 8, w 8 8 % 128 == 0 && s.imRegion img part (w 8 8) (8264 * s.secCount img xTABLES xMODULE)),
   (o + 16, w 16 8 % 64 == 0 && s.imRegion img part (w 16 8) (64 * s.secCount img xCOLLECTIVES st)),
   (o + 24, coll == 0x3FF || isNorm), (o + 25, bits norm 10 6 == 0), (o + 27, bits norm 26 6 == 0), (o + 28, w 28 4 == 0),
   (o + 32, w 32 8 % 128 == 0 && s.imHbm img st (w 32 8) (max 1 (64 * w 40 4))), (o + 40, w 40 4 ≤ 131072), (o + 44, w 44 4 == 0),
   (o + 48, w 48 8 % 32 == 0 && s.imRegion img part (w 48 8) 8192),
   (o + 56, w 56 8 % 0x100000 == 0 && s.imHbm img st (w 56 8) (max 1 (0x100000 * w 64 2))), (o + 64, w 64 2 ≤ 4096),
   (o + 70, w 70 2 == 0), (o + 72, !bitOf (w 84 4) 2 || bits (w 72 8) 60 4 == 1 || bits (w 72 8) 60 4 == 2), (o + 80, w 80 4 % 64 == 0), (o + 84, bits (w 84 4) 0 2 != 3 && bits (w 84 4) 3 13 == 0),
   (o + 88, w 88 8 % 8 == 0 && (bits (w 84 4) 0 2 == 0 || !bitOf (w 84 4) 2 || s.imRegion img part (w 88 8) 8)),
   (o + 96, w 96 8 % 128 == 0 && s.imHbm img st (w 96 8) (16 * w 104 4)), (o + 104, ringEntries (w 104 4)),
   (o + 108, 100 ≤ w 108 4 && w 108 4 ≤ 1000000), (o + 112, w 112 8 % 8 == 0 && s.imRegion img part (w 112 8) 8),
   (o + 120, w 120 8 % 32 == 0 && s.imRegion img part (w 120 8) (32 * 4096)), (o + 128, w 128 128 == 0)]

/-- PSD_SEED. -/
def State.psdChecks (s : State) (img : Image) (x : Sec) : Checks :=
  [(x.dir + 4, match s.sec img xPARAMS x.inst with | some p => x.count ≤ s.im img (p.off + 40) 4 | none => false)]
/-- POWER. -/
def State.powerChecks (s : State) (img : Image) (x : Sec) : Checks :=
  let c := s.im img x.off 8
  [(x.dir + 4, x.count == 1), (x.off, c == 0 || (1500 ≤ c && c ≤ 5800))]
/-- EPOCHS. -/
def State.epochChecks (s : State) (img : Image) (x : Sec) : Checks :=
  (List.range x.count).map (fun k =>
    let w := s.im img (x.off + 4 * k) 4
    (x.off + 4 * k, bits w 12 4 == 0 && bits w 28 4 == 0))

/-- The checks of a section. -/
def State.sectionChecks (s : State) (img : Image) (x : Sec) : Checks :=
  match x.type with
  | 1 => s.splitChecks img x | 2 => s.pinChecks img x | 3 => programChecks x | 4 => s.lessonChecks img x | 5 => s.tableChecks img x
  | 6 => s.ruleChecks img x | 7 => s.splitGradChecks img x | 8 => s.timetableChecks img x | 9 => s.bellChecks img x
  | 0xA => s.collChecks img x | 0xB => s.windowChecks img x | 0xC => s.portChecks img x | 0xD => s.queueChecks img x
  | 0xE => s.paramChecks img x | 0xF => s.psdChecks img x | 0x10 => s.powerChecks img x | _ => s.epochChecks img x

/-- The rules across sections: the required sections stand, and a partition with a SCHEDULED lesson has a Timetable (R377). -/
def State.crossChecks (s : State) (img : Image) : List (Nat × Nat × Bool) :=
  (s.imageStacks img).flatMap (fun st =>
    [(xSPLIT, 256, (s.sec img xSPLIT st).isSome), (xPARAMS, 256, (s.sec img xPARAMS st).isSome)])
  ++ [(xLESSONS, 256, (s.sec img xLESSONS xMODULE).isSome)]
  ++ [0, 1, 2, 3].map (fun p => (xTIMETABLE, 256,
      !s.covers img p || (s.sec img xTIMETABLE p).isSome || (List.range (s.lessonsOf img)).all (fun i => !s.scheduledIn img p i)))

/-- The first failing field of the sections: TYPE and image offset (R386, step 4; R387). -/
def State.badSection (s : State) (img : Image) : Option (Nat × Nat) :=
  match (s.secs img).findSome? (fun x => ((s.sectionChecks img x).find? (fun c => !c.2)).map (fun c => (x.type, c.1))) with
  | some r => some r
  | none => ((s.crossChecks img).find? (fun c => !c.2.2)).map (fun c => (c.1, c.2.1))

/-- The status of a LOAD of an image for a queue's partition, with the TYPE and offset of a BAD_SECTION (R386, R387); 0 where it passes. -/
def State.loadStatus (s : State) (img : Image) (part : Nat) : Nat × Nat × Nat :=
  if !s.layoutOk img then (0x30, 0, 0)
  else if s.im img 8 4 != s.reg .proctorDeviceId then (0x31, 0, 0)
  else if !s.signatureOk img then (0x32, 0, 0)
  else if !s.policyOk img then (0x33, 0, 0)
  else if !(s.scopeOk img && (s.replaced img).elem part) then (0x35, 0, 0)
  else
    match s.badSection img with
    | some r => (0x34, r.1, r.2)
    | none => (0, 0, 0)

end Sys2Proof.Machine
end

