-- ==== Sys2Proof/Machine/Resident.lean ====
section
/-!
DEFINITION. The resident copy of a stack and what a Tutor restores from it (R381), what a stack loses when its rails are off (R397), and how an ACTIVATE command ends (R387 to R389).
-/
namespace Sys2Proof.Machine

/-- Forgets what `mem` lists from `lo` to `lo + n - 1`: those bytes read 0. -/
def State.clearMem (s : State) (lo n : Nat) : State := { s with mem := s.mem.filter (fun c => !(lo ≤ c.1 && c.1 < lo + n)) }
/-- The poison marks of a range of sectors go. -/
def State.clearPoison (s : State) (lo n : Nat) : State := { s with poison := s.poison.filter (fun k => !(lo / 32 ≤ k && k < (lo + n) / 32)) }

/-- The size of a stack's resident copy. -/
def Tutor.residentSize (t : Tutor) : Nat := t.libLen + t.bellsLen + (t.progs.map (fun p => p.2.2)).sum + 4096
/-- The digest of the resident copy as it stands. -/
def State.residentNow (s : State) (st : Nat) : BitVec 384 := Config.sha384 (s.bytes (s.tutor st).libBase (s.tutor st).residentSize)

/-- The Tutor compares the resident copy with the digest that it recorded; a mismatch stops its partition's queues (R381). -/
def State.checkResident (s : State) (st : Nat) : State :=
  if s.fld F.tutorSylStateActive st == 1 && s.residentNow st != (s.tutor st).residentDigest then
    (s.setFld F.tutorSylStateResidentBad st 0 1).logError .tutor st fatal 0x021 0 0
  else s

/-- The lesson instruction stores of a stack's clusters are written from the programs of the resident copy; their remaining bytes are 0 (R377, R381). -/
def State.restoreStores (s : State) (st : Nat) : State :=
  let s := s.clearMem (istoreKey (16 * st) 0) (16 * 0x100000)
  let s := s.each (List.range 16) (fun s k => s.setCluster (16 * st + k) { s.cluster (16 * st + k) with istoreBad := [] })
  s.each (s.tutor st).progs (fun s p => s.setBytes (istoreKey p.1 0) (s.bytes p.2.1 p.2.2))

/-- The Tutor writes its Bell records again from the resident copy, where they follow the library: those of groups that it holds (R381, R504). -/
def State.restoreBells (s : State) (st : Nat) : State :=
  let t := s.tutor st
  s.each (List.range (t.bellsLen / 64)) (fun s k =>
    let o := t.libBase + t.libLen + 64 * k
    let g := s.num o 2
    let r := s.num (o + 32) 32
    if bitOf r 7 && s.bells.any (fun e => e.1 == g) then s.setBell g { s.bell g with record := BitVec.ofNat 256 r } else s)

/-- A stack loses its core stores, Slates, threads, function table stores and instruction stores; its cores keep only their cycle counts (R397). -/
def State.loseCores (s : State) (st : Nat) : State :=
  let s := s.clearMem (coreStoreKey (144 * st) 0) (144 * 0x200000)
  let s := s.clearMem (istoreKey (16 * st) 0) (16 * 0x100000)
  let s := { s with
    slate := s.slate.filter (fun e => e.1 / 4096 / 144 != st)
    rowPoison := s.rowPoison.filter (fun k => k / 16384 / 144 != st) }
  s.each (List.range 128) (fun s k =>
    let c : CoreId := Fin.ofNat 512 (128 * st + k)
    s.setCore c { Core.init with cycles25 := (s.core c).cycles25 })

/-- MODE of the HBM4 of a stack: 0 ACTIVE, 1 SELF_REFRESH, 2 OFF (R222, R227). -/
def State.hbmMode (s : State) (st v : Nat) : State := s.each (List.range 8) (fun s k => s.setFld F.hbmStateMode (8 * st + k) 0 v)

/-- The hold buffers of a stack's slices have written back (R217, R396). -/
def State.drainHold (s : State) (st : Nat) : State :=
  s.each (List.range 256) (fun s k =>
    s.drainSlice (256 * st + k))

/-- The last failure of a LOAD or ACTIVATE at a queue's home Tutor (R387). -/
def State.sylError (s : State) (q : QueueId) (status sec off : Nat) : State :=
  s.setReg .tutorSylError (s.fld F.queueConfigHome 0 q) 0 (status + sec * 2 ^ 16 + off * 2 ^ 32)

/-- The ACTIVATE in progress ends without effect (R387 to R390). -/
def State.failActivation (s : State) (status : Nat) : State :=
  match s.activation with
  | none => s
  | some a =>
    let s := s.each (s.imageStacks a.image) (fun s st => s.setFld F.tutorSylStateActivating st 0 0)
    let s := { s with activation := none }
    (s.sylError a.queue status 0 0).completeQueue a.queue a.generation a.tag.toNat opACTIVATE a.cmdIndex status a.startTime.toNat 0

/-- An activation that still waits for its quiesce point ends NOT_QUIESCENT (R389, R396). -/
def State.cancelWaiting (s : State) : State :=
  match s.activation with
  | some a => if a.phase = 0 then s.failActivation 0x38 else s
  | none => s

end Sys2Proof.Machine
end

