-- ==== Sys2Proof/Machine/Power.lean ====
section
/-!
DEFINITION. Power states, the cap loop, the coolant limit, rail and droop limits, the thermal loop with its sensors, the Report card, and the cluster PLLs (R394 to R420).
-/
namespace Sys2Proof.Machine

/-! ## Power states (R394 to R401) -/

/-- STATE codes (R394): ACTIVE. -/
abbrev pACTIVE : Nat := 0
/-- ENTERING. -/
abbrev pENTERING : Nat := 1
/-- RECESS. -/
abbrev pRECESS : Nat := 2
/-- WAKING. -/
abbrev pWAKING : Nat := 3
/-- FAULT. -/
abbrev pFAULT : Nat := 4
/-- RESULT codes (R421): DONE. -/
abbrev rDONE : Nat := 0
/-- PENDING. -/
abbrev rPENDING : Nat := 1
/-- NOT_QUIESCENT. -/
abbrev rNOT_QUIESCENT : Nat := 2
/-- REFUSED. -/
abbrev rREFUSED : Nat := 3
/-- WAKE_FAULT. -/
abbrev rWAKE_FAULT : Nat := 4

/-- The power state of a stack. -/
def State.pstate (s : State) (st : Nat) : Nat := s.fld F.powerPstateState st
/-- The stacks of a set, in rising order. -/
def stackList (set : Nat) : List Nat := [0, 1, 2, 3].filter (bitOf set)
/-- Some stacks go to a power state; a WAKE that they held ends with the state that held it. -/
def State.setPstate (s : State) (l : List Nat) (v : Nat) : State := s.each l (fun s st => s.setReg .powerPstate st 0 v)
/-- Sets PSTATE_RESULT.RESULT. -/
def State.setResult (s : State) (v : Nat) : State := s.setFld F.powerPstateResultResult 0 0 v

/-- Whether a stack set is empty, or splits a partition (R395). -/
def State.splitsPartition (s : State) (l : List Nat) : Bool :=
  l.isEmpty || l.any (fun st => (s.stacksOf (s.partOf st)).any (fun k => !l.elem k))

/-- Whether phases B to F of an activation run on some of the stacks (R395). -/
def State.activatingOn (s : State) (l : List Nat) : Bool :=
  match s.activation with
  | some a => a.phase != 0 && (s.imageStacks a.image).any (fun st => l.elem st)
  | none => false

/-- A RECESS command; false where it is refused (R395). One that names a stack on which phases B to F run waits until phase G ends. -/
def recessCommand (s : State) (set timeout : Nat) : State × Bool :=
  let l := stackList set
  if s.splitsPartition l || s.powerCmd.isSome || l.any (fun st => s.pstate st != pACTIVE || s.inReset st) then (s.setResult rREFUSED, false)
  else
    let s := (s.setResult rPENDING).setFld F.powerPstateResultStacks 0 0 set
    let s := { s with powerCmd := some ⟨BitVec.ofNat 4 set, timeout, false, false⟩ }
    (if s.activatingOn l then s else s.setPstate l pENTERING, true)

/-- A RECESS command that waited for an activation goes on once that has ended, and none of its stacks is in reset (R395). -/
def State.resumeRecess (s : State) : State :=
  match s.powerCmd with
  | some c =>
    let l := stackList c.stackSet.toNat
    if !c.waking && !c.quiesced && !s.activatingOn l && !l.any s.inReset then s.setPstate (l.filter (fun st => s.pstate st == pACTIVE)) pENTERING else s
  | none => s

/-- A WAKE is accepted: its stacks go to WAKING (R400). -/
def State.acceptWake (s : State) (set : Nat) : State :=
  let s := ((s.setPstate (stackList set) pWAKING).setResult rPENDING).setFld F.powerPstateResultStacks 0 0 set
  { s with powerCmd := some ⟨BitVec.ofNat 4 set, 0, true, false⟩ }

/-- A WAKE command; false where it is refused. One that names a stack in ENTERING is held until its stacks reach RECESS, whatever RECESS command is pending (R395). -/
def wakeCommand (s : State) (set : Nat) : State × Bool :=
  let l := stackList set
  let held := l.any (fun st => s.pstate st == pENTERING)
  let busy := match s.powerCmd with | some c => c.waking || !held | none => false
  if s.splitsPartition l || busy || l.any (fun st => (s.pstate st != pRECESS && s.pstate st != pENTERING) || s.inReset st) then (s.setResult rREFUSED, false)
  else if held then (s.each l (fun s st => s.setFld F.powerPstateWakeHeld st 0 1), true)
  else (s.acceptWake set, true)

/-- Those of some stacks that are ENTERING: all that a RECESS command names, but for one that a thermal shutdown has taken. -/
def State.entering (s : State) (l : List Nat) : List Nat := l.filter (fun st => s.pstate st == pENTERING)

/-- The quiesce point of a Recess; a LESSON, PLACE or EXPORT that has been taken and not carried out is outstanding (R354, R396). -/
def State.recessReady (s : State) (named : List Nat) : Bool :=
  let l := s.entering named
  let parts := (l.map s.partOf).dedup
  !l.isEmpty
    && !s.lessons.any (fun x => x.parts.any (fun p => l.elem (stackOfCluster p.1) && p.2 != .ended && p.2 != .withdrawn))
    && (List.range 128).all (fun q => !parts.elem (s.fld F.queueConfigPart 0 q) || ((s.queue q).copies.isEmpty
        && !(s.queue q).taken.any (fun t => ([opLESSON, opPLACE, opEXPORT] : List Nat).elem t.entry.opc)))
    && l.all (fun st =>
      let m := s.marker (Fin.ofNat 4 st)
      s.stepState st == mIDLE && m.cal.isNone && m.hwQueue.isEmpty && m.hwReadback.isEmpty && s.fld F.assemblyStateActive st == 0)

/-- RECESS_QUIESCE_REACHED: the stacks answer OFFLINE from here on, and an activation that waits for its own quiesce point ends (R396). -/
def recessQuiesceReached (s : State) : State :=
  match s.powerCmd with
  | some c =>
    if !c.waking && !c.quiesced && s.recessReady (stackList c.stackSet.toNat) then
      { s with powerCmd := some { c with quiesced := true } }.cancelWaiting
    else s
  | none => s

/-- RECESS_QUIESCE_TIMEOUT: every stack that is ENTERING returns to ACTIVE, and a WAKE held for it ends (R396). -/
def recessQuiesceTimeout (s : State) : State :=
  match s.powerCmd with
  | some c =>
    let l := stackList c.stackSet.toNat
    if !c.waking && !c.quiesced && (!(s.entering l).isEmpty || !s.activatingOn l) then
      let s := { s with powerCmd := none }.setPstate (s.entering l) pACTIVE
      (s.each [0, 1, 2, 3] (fun s st => s.setFld F.powerPstateWakeHeld st 0 0)).setResult rNOT_QUIESCENT
    else s
  | none => s

/-- The clocks of a stack's clusters stop with its rails (R397, R400, R419). -/
def State.stopClusters (s : State) (st : Nat) : State :=
  s.each (List.range 16) (fun s k =>
    let cl := 16 * st + k
    (s.setCluster cl { s.cluster cl with pll := .off, droop := false }).setFld F.clusterStateClockOn cl 0 0)

/-- Copies that wait for a stack start again, and its queues fetch on. -/
def State.resumeQueues (s : State) (set : List Nat) : State :=
  s.each (List.finRange 128) (fun s q =>
    let home := s.fld F.queueConfigHome 0 q
    let s := if (s.queue q).copies.any (fun c => !c.sent) then s.sendCopy q else s
    if set.elem home && s.fld F.queueConfigValid 0 q == 1 then (s.takeFresh q).actOnBell q else s)

/-! ## Issue rate and its limits (R402, R403, R416) -/

/-- LIMIT_k of a stack. -/
def State.limit (s : State) (st k : Nat) : Nat := bits (s.reg .powerLimits st) (8 * k) 7
/-- Whether any cluster of a stack is cut by a droop. -/
def State.cut (s : State) (st : Nat) : Bool := (List.range 16).any (fun k => (s.cluster (16 * st + k)).droop)
/-- Whether the coolant limit binds the target (R406). -/
def State.coolantBinds (s : State) : Bool := s.fld F.thermalCoolantLimitW 0 < s.fld F.powerCapEffectiveW 0

/-- The limits of a stack by reason code (R403). -/
def State.limits (s : State) (st : Nat) : List Nat :=
  let nCap := s.fld F.powerNCapN 0
  let lp := s.loop st
  [if s.coolantBinds then 64 else nCap, if lp.estGoverns then 64 else lp.nTh, lp.nHbm,
   if s.fld F.thermalFlowTrip 0 == 1 then 1 else if s.coolantBinds then nCap else 64,
   lp.nRail, if s.cut st then 1 else 64, s.fld F.powerHostLimitRate st, if lp.estGoverns then lp.nTh else 64]

/-- The Tutor sets the stack's rate to the smallest limit; a droop limits its own cluster only (R403). -/
def State.setRates (s : State) (st : Nat) : State :=
  let l := s.limits st
  let n := (l.set 5 64).foldl min 64
  let binds := (l.zipIdx.map (fun (x : Nat × Nat) => if (if x.2 == 5 then x.1 < 64 else x.1 < 64 && x.1 == n) then 2 ^ x.2 else 0)).sum
  let s := s.setReg .powerLimits st 0 ((l.zipIdx.map (fun (x : Nat × Nat) => x.1 * 2 ^ (8 * x.2))).sum)
  s.setReg .powerRate st 0 (n + binds * 2 ^ 8)
/-- Every stack's rate is set anew. -/
def State.setAllRates (s : State) : State := s.each [0, 1, 2, 3] State.setRates

/-- RECESS_GATED: the rails are off. A stack that a thermal shutdown has put in FAULT stays there. The stacks keep what R397 lists and lose the rest; a WAKE that was held is accepted (R396, R397). -/
def recessGated (s : State) : State :=
  match s.powerCmd with
  | some c =>
    if !c.waking && c.quiesced then
      let named := stackList c.stackSet.toNat
      let l := named.filter (fun st => s.pstate st != pFAULT)
      let s := s.each l (fun s st =>
        let s := ((((s.drainHold st).loseCores st).hbmMode st 1).stopClusters st).setRates st
        s.bump F.powerRecessEntriesCount st 0 1)
      let held := [0, 1, 2, 3].filter (fun st => s.fld F.powerPstateWakeHeld st == 1 && (l.elem st || s.pstate st == pRECESS))
      let s := { s with powerCmd := none }
      let s := (s.setPstate l pRECESS).setResult rDONE
      let s := s.eventOther false .power (named.headD 0) 0x002
      if held.isEmpty then s else s.acceptWake ((held.map (fun st => 2 ^ st)).sum)
    else s
  | none => s

/-- WAKE_COMPLETE: the 15 ms mark. A stack whose wake step failed goes to FAULT, one that a thermal shutdown has put there stays, and the others go to ACTIVE with their instruction stores restored (R397, R400, R401, R415). -/
def wakeComplete (s : State) (failed : BitVec 4) (failedStep : Nat) : State :=
  match s.powerCmd with
  | some c =>
    if c.waking then
      let l := stackList c.stackSet.toNat
      let bad := l.filter (fun st => failed.getLsbD st && s.pstate st != pFAULT)
      let good := l.filter (fun st => !failed.getLsbD st && s.pstate st != pFAULT)
      let s := { s with powerCmd := none }
      let s := s.each good (fun s st => (((s.hbmMode st 0).restoreStores st).checkResident st).each (List.range 4) (fun s k => s.setFld F.fabricRollStateMissed (4 * st + k) 0 0))
      let s := (s.setPstate good pACTIVE).setPstate bad pFAULT
      let s := s.setReg .powerNCap 0 0 1
      let s := s.each bad (fun s st => (s.hbmMode st 2).logError .power st fatal 0x01D failedStep 0)
      let s := (s.setResult (if good = l then rDONE else rWAKE_FAULT)).setAllRates
      if good.isEmpty then s else (s.eventOther false .power (good.headD 0) 0x003).resumeQueues good
    else s
  | none => s

/-! ## The Report card (R416) -/

/-- REPORT_CARD_TICK: a microsecond has passed; every reason that binds on an ACTIVE stack counts, and DROOP where a cluster was cut at any time in it (R416). -/
def reportCardTick (s : State) : State :=
  s.each [0, 1, 2, 3] (fun s st =>
    if s.pstate st == pACTIVE then
      let s := s.each (List.range 8) (fun s k =>
        if (if k == 5 then (s.loop st).cutSeen || s.cut st else bitOf (s.fld F.powerRateBinding st) k) then s.bump F.powerReportUs st k 1 else s)
      s.setLoop st { s.loop st with cutSeen := s.cut st }
    else s.setLoop st { s.loop st with cutSeen := s.cut st })

/-! ## Cap and floor (R404 to R407, R417) -/

/-- EFFECTIVE_W follows REQUESTED_W and the floor; a request below the floor is reported (R404). -/
def State.setEffective (s : State) : State :=
  let w := s.fld F.powerCapRequestedW 0
  let floor := s.fld F.powerFloorW 0
  let s := s.setFld F.powerCapEffectiveW 0 0 (max w floor)
  if w < floor then (s.setFld F.powerCapBelowFloor 0 0 1).diary originModule .capBelowFloor w floor else s

/-- A cap write of an accepted value (R404). -/
def State.setCap (s : State) (w : Nat) : State := ((s.setFld F.powerCapRequestedW 0 0 w).setEffective).setAllRates
/-- The values that REQUESTED_W takes (R404). -/
def capOk (w : Nat) : Bool := w != 0 && w ≤ 5800

/-- The floor is raised when n_cap has been 1 for 100 ticks in which the power, measured at that rate, stayed more than 40 W above EFFECTIVE_W (R405). -/
def State.watchFloor (s : State) (p : Nat) : State :=
  if s.fld F.powerNCapN 0 == 1 && p > s.fld F.powerCapEffectiveW 0 + 40 then
    let s := { s with capTicks := s.capTicks + 1, capSum := s.capSum + p }
    if s.capTicks ≥ 100 then
      let w := (s.capSum + 99) / 100
      let s := { s with capTicks := 0, capSum := 0 }
      if w > s.fld F.powerFloorW 0 then (s.setFld F.powerFloorW 0 0 w).setEffective else s
    else s
  else { s with capTicks := 0, capSum := 0 }

/-- CAP_LOOP_TICK: 10 µs at an average input power of `p` watts (R405, R406, R417). -/
def capLoopTick (s : State) (p : Nat) : State :=
  let s := (s.setFld F.powerInputPowerW 0 0 p).bump F.powerEnergyUj 0 0 (10 * p)
  let s := { s.setFld F.powerInputBus 0 0 (Config.busVoltage s.freeNext).toNat with freeNext := s.freeNext + 1 }
  let target := min (s.fld F.powerCapEffectiveW 0) (s.fld F.thermalCoolantLimitW 0)
  let n := s.fld F.powerNCapN 0
  let n := if p > target then max 1 (n - (p - target + 63) / 64) else if p + 40 < target then min 64 (n + 1) else n
  ((s.watchFloor p).setReg .powerNCap 0 0 n).setAllRates

/-! ## Coolant, rail, droop, host limit (R408 to R411) -/

/-- COOLANT_LIMIT_TICK: supply and return in 0.1 °C and flow in 0.01 L/min; the limit is a whole number of watts. `coolTicks` counts ticks of low flow, or once tripped ticks in which both conditions are clear, and `warmTicks` ticks of a warm supply (R408). -/
def coolantLimitTick (s : State) (supply ret : Int) (flow : Nat) : State :=
  let w : Int := (967 * (flow : Int) - 1500 * max 0 (supply - 450)) / 100
  let s := s.setReg .thermalCoolant 0 0 (unsigned 12 supply + unsigned 12 ret * 2 ^ 16)
  let s := s.setFld F.thermalFlowFlow 0 0 flow
  let s := s.setReg .thermalCoolantLimit 0 0 (min 5800 w).toNat
  let tripped := s.fld F.thermalFlowTrip 0 == 1
  let active := [0, 1, 2, 3].any (fun st => s.pstate st == pACTIVE)
  let low := if tripped then 100 ≤ flow && supply ≤ 550 else flow < 100 && active
  let warm := !tripped && 550 < supply && active
  { s with coolTicks := if low then s.coolTicks + 1 else 0, warmTicks := if warm then s.warmTicks + 1 else 0 }.setAllRates

/-- COOLANT_TRIP: the flow stayed below 1.0 L/min or the supply above 55 °C for 100 ms, 1,000 ticks, while a stack is ACTIVE (R408). -/
def coolantTrip (s : State) : State :=
  if s.fld F.thermalFlowTrip 0 == 1 || (s.coolTicks < 1000 && s.warmTicks < 1000) then s
  else
    let s := { s with coolTicks := 0, warmTicks := 0 }
    (((s.setFld F.thermalFlowTrip 0 0 1).setFld F.thermalFlowTripped 0 0 1).eventOther true .thermal 0 0x007).setAllRates

/-- COOLANT_TRIP_END: both conditions have been clear for 1 s, 10,000 ticks (R408). -/
def coolantTripEnd (s : State) : State :=
  if s.fld F.thermalFlowTrip 0 == 0 || s.coolTicks < 10000 then s
  else { s.setFld F.thermalFlowTrip 0 0 0 with coolTicks := 0 }.setAllRates

/-- RAIL_SAMPLE: one microsecond's compute rail current (R409). -/
def railSample (s : State) (st amps : Nat) : State :=
  let lp := s.loop st
  let s := s.setReg .powerRail st 0 amps
  let lp := if amps > 1800 then { lp with nRail := max 1 (lp.nRail - 8), railLow := 0 }
    else if amps < 1710 then
      (if lp.railLow ≥ 9 then { lp with nRail := min 64 (lp.nRail + 1), railLow := 0 } else { lp with railLow := lp.railLow + 1 })
    else { lp with railLow := 0 }
  (s.setLoop st lp).setRates st

/-- DROOP_DETECT: a cluster is cut (R410). -/
def droopDetect (s : State) (cl : Nat) : State :=
  if (s.cluster cl).droop then s
  else
    let st := stackOfCluster cl
    let s := (s.setCluster cl { s.cluster cl with droop := true }).setLoop st { s.loop st with cutSeen := true }
    (s.bumpSat F.powerDroopEventsCount st 0 1).setRates st

/-- DROOP_END: the cut ends (R410). -/
def droopEnd (s : State) (cl : Nat) : State := (s.setCluster cl { s.cluster cl with droop := false }).setRates (stackOfCluster cl)

/-- An accepted write of HOST_LIMIT (R411). -/
def State.setHostLimit (s : State) (st n : Nat) : State := (s.setFld F.powerHostLimitRate st 0 n).setRates st
/-- The values that RATE takes. -/
def hostLimitOk (n : Nat) : Bool := 1 ≤ n && n ≤ 64

/-! ## Sensors and the thermal loop (R412 to R415) -/

/-- Whether a sensor lies in a store layer; its tile and position are those of R412. -/
def storeSensor (k : Nat) : Bool := 16 ≤ k && k < 32
/-- The tile of a store-layer sensor in its layer. -/
def sensorTile (k : Nat) : Nat := k / 2 % 4

/-- Twice the sum of the below and above values of a store-layer sensor, from the governing values of the previous sample (R412). -/
def aroundTwice (g : List Int) (k : Nat) : Int :=
  let v (j : Nat) : Int := g.getD j 0
  let t := sensorTile k
  if k < 24 then v (2 * (k - 16)) + v (2 * (k - 16) + 1) + 2 * v (k + 8) else 2 * v (k - 8) + 2 * v (32 + t)

/-- The estimate of a store-layer sensor in 0.1 °C: the mean of below and above plus KTH times the tile's power, tiles 0 to 3 being those of the lower layer and 4 to 7 those of the upper (R198, R414). The powers come with the sample: the energies per access are fused and the spec gives none (DESIGN CHOICE, log entry 41). -/
def estimate (g : List Int) (kth : Nat) (power : List Nat) (k : Nat) : Int :=
  (25 * aroundTwice g k + (kth * power.getD (sensorTile k + if k < 24 then 0 else 4) 0 : Nat)) / 100

/-- Throttle, release, trip and shutdown temperatures of a sensor, in 0.1 °C (R413). -/
def thresholds (k : Nat) : Int × Int × Int × Int :=
  if k < 16 then (1000, 970, 1100, 1200) else if k < 32 then (900, 870, 1000, 1100) else (900, 870, 1000, 1050)

/-- The sensors of the stack group, or of the HBM4 group. -/
def groupSensors (hbm : Bool) : List Nat := if hbm then (List.range 8).map (fun k => 36 + k) else List.range 32

/-- A sensor becomes suspect (R414). -/
def State.suspect (s : State) (st k : Nat) : State :=
  if s.fld F.thermalSensorSuspect st k == 1 then s
  else
    let s := (s.setFld F.thermalSensorSuspect st k 1).setFld F.thermalStatusSuspect st 0 1
    (s.bumpSat F.thermalSuspectEventsCount st 0 1).eventOther true .thermal st 0x006

/-- A sample of one sensor: its register, the count of samples that differ by more than 6 °C from the estimate, and whether it is suspect now. An invalid reading reads as a free value (R414). -/
def State.sample (s : State) (st : Nat) (prev : List Int) (power : List Nat) (k : Nat) (r : Option Int) : State × Int :=
  let (s, t) : State × Int := match r with
    | some t => (s, t)
    | none => ({ s with freeNext := s.freeNext + 1 }, Config.invalidReading s.freeNext)
  let est := if storeSensor k then estimate prev (s.fld F.thermalKthMcPerW st) power k else 0
  let s := ((s.setFld F.thermalSensorT st k (unsigned 12 t)).setFld F.thermalSensorEst st k (unsigned 12 est)).setFld F.thermalSensorValid st k (bit r.isSome)
  let lp := s.loop st
  let n := if storeSensor k && (t - est).natAbs > 60 then Tab.get 0 lp.diffCount k + 1 else 0
  let s := s.setLoop st { lp with diffCount := Tab.set 0 lp.diffCount k (min n 10) }
  let s := if r.isNone || n ≥ 10 then s.suspect st k else s
  (s, if s.fld F.thermalSensorSuspect st k == 1 && storeSensor k then max t est else t)

/-- The samples of every sensor, in order, with the governing values. -/
def State.samples (s : State) (st : Nat) (prev : List Int) (power : List Nat) : List (Nat × Option Int) → State × List Int
  | [] => (s, [])
  | (k, r) :: t =>
    let (s, g) := s.sample st prev power k r
    let (s, gs) := State.samples s st prev power t
    (s, g :: gs)

/-- The step of the loop for one group: its new limit, and whether it is tripped; the last says that a trip was raised (R413). -/
def groupStep (g : List Int) (hbm : Bool) (limit : Nat) (tripped : Bool) : Nat × Bool × Bool :=
  let l := groupSensors hbm
  let anyAt (f : Int × Int × Int × Int → Int) : Bool := l.any (fun k => decide (g.getD k 0 ≥ f (thresholds k)))
  if anyAt (fun x => x.2.2.1) then (1, true, true)
  else if limit == 1 && tripped && anyAt (fun x => x.2.1) then (1, tripped, false)
  else if anyAt (fun x => x.1) then (max 1 (limit - 4), tripped, false)
  else if !anyAt (fun x => x.2.1) then (min 64 (limit + 1), false, false)
  else (limit, tripped, false)

/-- The sensor of a list with the highest value, the lowest number among equals. -/
def hottest (g : List Int) (l : List Nat) : Nat :=
  l.foldl (fun b k => if g.getD k 0 > g.getD b 0 then k else b) (l.headD 0)

/-- The parts of lessons on a stack end with its rails, and a home Tutor there is lost to its lessons. -/
def State.endParts (s : State) (st : Nat) : State :=
  let s := { s with lessons := s.lessons.map (fun (l : Lesson) => { l with
    lost := l.lost || l.home.val == st
    parts := l.parts.map (fun (p : Nat × PartState) => if stackOfCluster p.1 == st && p.2 != PartState.withdrawn then (p.1, PartState.ended) else p) }) }
  s.each (List.range 16) (fun s k => s.setCluster (16 * st + k) { s.cluster (16 * st + k) with run := none, waiting := [], finRun := none, stopping := false })

/-- A stack is shut down: it goes to FAULT, its lessons complete RESET, and its contents are lost (R415). -/
def State.thermalShutdown (s : State) (st k : Nat) (t : Int) : State :=
  let s := s.each (s.lessons.filter (fun x => x.parts.any (fun p => stackOfCluster p.1 == st))) (fun s x => s.stopLesson x.id .reset)
  let s := (s.endParts st).stopClusters st
  let s := (s.setFld F.thermalStatusShutdown st 0 1).setPstate [st] pFAULT
  let s := ((s.loseCores st).hbmMode st 2).clearMem (st * 2 ^ 48) (2 ^ 48)
  let s := s.each (List.range 256) (fun s n => s.setSlice (256 * st + n) { s.slice (256 * st + n) with lines := [], hold := [], fetching := [], reads := [], lru := [] })
  let s := { s with hidden := s.hidden.filter (fun k => addrStack (32 * k) != st) }
  (s.setRates st).logError .thermal st fatal 0x01E k (unsigned 64 t)

/-- THERMAL_LOOP_TICK: the 44 sensors of a stack are sampled, and the loop is run for its two groups. A stack whose rails are off, in RECESS or in FAULT, is sampled, and its Tutor runs no loop (R412 to R415; DEDUCED, log entry 41). -/

def thermalLoopTick (s : State) (st : Nat) (readings : List (Option Int)) (power : List Nat) : State :=
    let lp := s.loop st
    let prev := if lp.prevGov.isEmpty then readings.map (fun r => r.getD 0) else lp.prevGov
    let (s, g) := s.samples st prev power ((readings.take 44).zipIdx.map (fun (x : Option Int × Nat) => (x.2, x.1)))
    let lp := s.loop st
    let off := s.pstate st == pRECESS || s.pstate st == pFAULT
    let (nTh, tTh, a) := if off then (lp.nTh, lp.trippedTh, false) else groupStep g false lp.nTh lp.trippedTh
    let (nHbm, tHbm, b) := if off then (lp.nHbm, lp.trippedHbm, false) else groupStep g true lp.nHbm lp.trippedHbm
    let top := hottest g (groupSensors false)
    let est := s.fld F.thermalSensorSuspect st top == 1 && storeSensor top && decide (g.getD top 0 > signed 12 (s.fld F.thermalSensorT st top))
    let s := s.setLoop st { lp with nTh := nTh, nHbm := nHbm, trippedTh := tTh, trippedHbm := tHbm, prevGov := g, estGoverns := est }
    let all := hottest g (List.range 44)
    let s := ((s.setFld F.thermalStatusStackThrottle st 0 (bit (nTh < 64))).setFld F.thermalStatusHbmThrottle st 0 (bit (nHbm < 64)))
    let s := (s.setFld F.thermalStatusHottest st 0 all).setFld F.thermalStatusHottestT st 0 (unsigned 12 (g.getD all 0))
    let s := if a then (s.setFld F.thermalStatusTrip st 0 1).eventOther true .thermal st 0x005 else s
    let s := if b then (s.setFld F.thermalStatusTrip st 0 1).eventOther true .thermal st 0x005 else s
    let s := s.setRates st
    if off then s
    else match (groupSensors false ++ groupSensors true).find? (fun k => decide (g.getD k 0 ≥ (thresholds k).2.2.2)) with
    | some k => s.thermalShutdown st k (g.getD k 0)
    | none => s

/-- SENSOR_SUSPECT: ten samples in a row differ, or the sensor reads invalid (R414). -/
def sensorSuspect (s : State) (st k : Nat) : State :=
  if Tab.get 0 (s.loop st).diffCount k ≥ 10 || s.fld F.thermalSensorValid st k == 0 then s.suspect st k else s

/-- A write of 1 to a sensor's SUSPECT bit, which restarts the comparison (R414). -/
def State.clearSuspect (s : State) (st k : Nat) : State :=
  let s := s.setFld F.thermalSensorSuspect st k 0
  let s := s.setLoop st { s.loop st with diffCount := Tab.set 0 (s.loop st).diffCount k 0 }
  s.setFld F.thermalStatusSuspect st 0 (bit ((List.range 44).any (fun j => s.fld F.thermalSensorSuspect st j == 1)))

/-! ## Cluster clocks (R419) -/

/-- Whether a cluster has a part that runs or waits. -/
def Cluster.wanted (c : Cluster) : Bool := c.run.isSome || !c.waiting.isEmpty

/-- CLUSTER_PLL_START: a part has been dispatched to an idle cluster of a stack in service. -/
def clusterPllStart (s : State) (cl : Nat) : State :=
  let c := s.cluster cl
  if c.pll = .off && c.wanted && !s.outOfService (stackOfCluster cl) then s.setCluster cl { c with pll := .locking } else s
/-- CLUSTER_PLL_LOCKED: the clock runs, within the 20 µs of R28. -/
def clusterPllLocked (s : State) (cl : Nat) : State :=
  let c := s.cluster cl
  if c.pll = .locking then (s.setCluster cl { c with pll := .on }).setFld F.clusterStateClockOn cl 0 1 else s
/-- CLUSTER_PLL_STOP: an idle cluster's clock stops. -/
def clusterPllStop (s : State) (cl : Nat) : State :=
  let c := s.cluster cl
  if c.pll = .on && !c.wanted then (s.setCluster cl { c with pll := .off }).setFld F.clusterStateClockOn cl 0 0 else s

/-! ## The commands -/

/-- RECESS_QUIESCE_REACHED (R396). -/
def execRecessQuiesceReached (s : State) : Host.Outcome State Fault Refusal := .next (recessQuiesceReached s)
/-- RECESS_QUIESCE_TIMEOUT (R396). -/
def execRecessQuiesceTimeout (s : State) : Host.Outcome State Fault Refusal := .next (recessQuiesceTimeout s)
/-- RECESS_GATED (R396). -/
def execRecessGated (s : State) : Host.Outcome State Fault Refusal := .next (recessGated s)
/-- WAKE_COMPLETE (R400). -/
def execWakeComplete (failed : BitVec 4) (failedStep : Nat) (s : State) : Host.Outcome State Fault Refusal := .next (wakeComplete s failed failedStep)
/-- CAP_LOOP_TICK (R406). -/
def execCapLoopTick (p : Nat) (s : State) : Host.Outcome State Fault Refusal := .next (capLoopTick s p)
/-- COOLANT_LIMIT_TICK (R408). -/
def execCoolantLimitTick (supply ret : Int) (flow : Nat) (s : State) : Host.Outcome State Fault Refusal := .next (coolantLimitTick s supply ret flow)
/-- COOLANT_TRIP (R408). -/
def execCoolantTrip (s : State) : Host.Outcome State Fault Refusal := .next (coolantTrip s)
/-- COOLANT_TRIP_END (R408). -/
def execCoolantTripEnd (s : State) : Host.Outcome State Fault Refusal := .next (coolantTripEnd s)
/-- RAIL_SAMPLE (R409). -/
def execRailSample (st : StackId) (amps : Nat) (s : State) : Host.Outcome State Fault Refusal := .next (railSample s st.val amps)
/-- DROOP_DETECT (R410). -/
def execDroopDetect (cl : ClusterId) (s : State) : Host.Outcome State Fault Refusal := .next (droopDetect s cl.val)
/-- DROOP_END (R410). -/
def execDroopEnd (cl : ClusterId) (s : State) : Host.Outcome State Fault Refusal := .next (droopEnd s cl.val)
/-- THERMAL_LOOP_TICK (R413). -/
def execThermalLoopTick (st : StackId) (readings : List (Option Int)) (tilePower : List Nat) (s : State) : Host.Outcome State Fault Refusal :=
  .next (thermalLoopTick s st.val readings tilePower)
/-- SENSOR_SUSPECT (R414). -/
def execSensorSuspect (st : StackId) (sensor : Fin 44) (s : State) : Host.Outcome State Fault Refusal := .next (sensorSuspect s st.val sensor.val)
/-- REPORT_CARD_TICK (R416). -/
def execReportCardTick (s : State) : Host.Outcome State Fault Refusal := .next (reportCardTick s)
/-- CLUSTER_PLL_START (R419). -/
def execClusterPllStart (cl : ClusterId) (s : State) : Host.Outcome State Fault Refusal := .next (clusterPllStart s cl.val)
/-- CLUSTER_PLL_LOCKED (R28). -/
def execClusterPllLocked (cl : ClusterId) (s : State) : Host.Outcome State Fault Refusal := .next (clusterPllLocked s cl.val)
/-- CLUSTER_PLL_STOP (R419). -/
def execClusterPllStop (cl : ClusterId) (s : State) : Host.Outcome State Fault Refusal := .next (clusterPllStop s cl.val)

end Sys2Proof.Machine
end

