-- ==== Sys2Proof/Machine/Syllabus.lean ====
section
/-!
DEFINITION. LOAD and ACTIVATE, the phases of an activation, and the format rules (R194, R205, R386 to R392).
-/
namespace Sys2Proof.Machine

/-! ## LOAD (R386, R387) -/

/-- The LOAD or ACTIVATE that the Proctor serves next: the earliest taken, module-wide (R386). -/
def State.sylNext (s : State) : Option (QueueId × Taken) :=
  let l : List (QueueId × Taken) := (List.finRange 128).flatMap (fun (q : QueueId) => ((s.queue q).taken.filter (fun t => t.entry.opc == opLOAD || t.entry.opc == opACTIVATE)).map (fun t => ((q, t) : QueueId × Taken)))
  l.foldl (fun (b : Option (QueueId × Taken)) x =>
    match b with
    | none => some x
    | some y => if x.2.order < y.2.order then some x else some y) none

/-- The command that a queue has next for the Proctor, where it is that queue's turn, no key command came before it, and no activation is in progress (R386, R468). -/
def State.sylTurn (s : State) (q : QueueId) (opc : Nat) : Option Taken :=
  match s.sylNext with
  | some (p, t) =>
    if p = q && t.entry.opc == opc && s.activation.isNone && !s.proctor.keyCmds.any (fun k => decide (k.order < t.order)) then some t else none
  | none => none

/-- SRC of a LOAD or ACTIVATE. -/
def Taken.src (t : Taken) : Nat := bits (t.entry.arg 0) 0 50
/-- Its LENGTH. -/
def Taken.len (t : Taken) : Nat := bits (t.entry.arg 1) 0 32

/-- A loaded image is recorded: it replaces one at its SRC, and a fifth the oldest (R386). -/
def State.keepImage (s : State) (img : Image) : State :=
  let l := s.images.filter (fun i => i.src != img.src) ++ [img]
  { s with images := l.drop (l.length - 4) }

/-- SYLLABUS_LOAD: the next LOAD of a queue. -/
def syllabusLoad (s : State) (q : QueueId) : State :=
  match s.sylTurn q opLOAD with
  | none => s
  | some t =>
    let s := s.dropTaken q t
    let part := s.fld F.queueConfigPart 0 q
    let fin (s : State) (status : Nat) : State := s.completeQueue q t.generation t.entry.tag.toNat opLOAD t.index status s.now 0
    let gone (s : State) : State := { s with images := s.images.filter (fun i => i.src != t.src) }
    if t.src % 128 != 0 || regionOf t.src != .hbm || !s.rangeInRegion part t.src t.len || s.overStaging t.src t.len then fin ((gone s).sylError q 0x21 0 0) 0x21
    else
      let img : Image := ⟨t.src, t.len, 0, 0⟩
      let (status, sec, off) := s.loadStatus img part
      if status == 0 then fin (s.keepImage { img with digest := s.imDigest img, keyId := s.imKey img }) 0
      else fin ((gone s).sylError q status sec off) status

/-! ## ACTIVATE, to the end of phase B (R388 to R390) -/

/-- ACTIVATE: the next ACTIVATE of a queue. -/
def activateCommand (s : State) (q : QueueId) : State :=
  match s.sylTurn q opACTIVATE with
  | none => s
  | some t =>
    let s := s.dropTaken q t
    let fail (status : Nat) : State :=
      (s.sylError q status 0 0).completeQueue q t.generation t.entry.tag.toNat opACTIVATE t.index status s.now 0
    match s.images.find? (fun i => i.src == t.src && i.len == t.len) with
    | none => fail 0x36
    | some img =>
      if s.scopeOk img then { s with activation := some ⟨q, t.generation, t.index, t.entry.tag, img, BitVec.ofNat 64 s.now, 0, []⟩ }
      else fail 0x35

/-- The quiesce point of an activation (R389). -/
def State.activateReady (s : State) (img : Image) : Bool :=
  let set := s.imageStacks img
  let rep := s.replaced img
  let inRep (q : Nat) : Bool := rep.elem (s.fld F.queueConfigPart 0 q)
  !s.lessonsOut rep && !s.lessons.any (fun l => l.parts.any (fun p => set.elem (stackOfCluster p.1)))
    && (List.range 128).all (fun q => !inRep q || ((s.queue q).copies.isEmpty
      && !(s.queue q).taken.any (fun t => [opLESSON, opPLACE, opEXPORT].elem t.entry.opc)))
    && set.all (fun st => s.stepState st == mIDLE && (s.marker (Fin.ofNat 4 st)).cal.isNone && s.fld F.assemblyStateActive st == 0)

/-- ACTIVATE_QUIESCE_REACHED: phase B begins (R390). -/
def activateQuiesceReached (s : State) : State :=
  match s.activation with
  | some a =>
    if a.phase = 0 && s.activateReady a.image then
      let s := s.each (s.imageStacks a.image) (fun s st => s.setFld F.tutorSylStateActivating st 0 1)
      { s with activation := some { a with phase := 1 } }
    else s
  | none => s

/-- ACTIVATE_DIGEST_CHECKED: phase B ends (R390). A mismatch ends the command, and STOPs that arrived in it are matched at once. -/
def activateDigestChecked (s : State) : State :=
  match s.activation with
  | some a =>
    if a.phase = 1 then
      (if s.imDigest a.image == a.image.digest then { s with activation := some { a with phase := 2 } }
       else ((s.failActivation 0x37).resumeRecess).each a.stops (fun s x => stopReceived s x.1 x.2))
    else s
  | none => s

/-! ## Phase C: slices (R205) -/

/-- A slice takes its new split: ways that leave the cache are written back, every pin is released. -/
def State.resplit (s : State) (n w : Nat) : State :=
  let ways := bits w 0 5
  let s := s.flushSlice n (fun l => decide (l.way.val < ways))
  let sl := s.slice n
  let s := s.setSlice n { sl with lines := sl.lines.map (fun l => { l with pinned := false }) }
  ((s.setFld F.sliceConfigCacheWays n 0 ways).setFld F.sliceConfigPinCap n 0 (bits w 8 4)).notePins n

/-- The slices of a stack are split anew; scratch that is not backed any more loses its contents. -/
def State.resplitStack (s : State) (img : Image) (st : Nat) : State :=
  let s := s.each (List.range 256) (fun s k => s.resplit (256 * st + k) (s.splitOf img st k))
  let keep (a : Nat) : Bool := !(regionOf a == .scratch && addrStack a == st) || s.scratchBacked a
  { s with mem := s.mem.filter (fun c => keep c.1), poison := s.poison.filter (fun k => keep (32 * k)) }

/-! ## Phase D: memory (R377, R381) -/

/-- The bytes of a section; none where it is absent. -/
def State.secBytes (s : State) (img : Image) (type inst : Nat) : List Byte :=
  match s.sec img type inst with
  | some x => s.imBytes img x.off x.len
  | none => []

/-- The programs of a stack in its resident copy: cluster, address and length, from address `a` on. -/
def State.progPlaces (s : State) (img : Image) (st : Nat) : Nat → List Nat → List (Nat × Nat × Nat)
  | _, [] => []
  | a, k :: t =>
    let n := s.secLen img xPROGRAMS (16 * st + k)
    (16 * st + k, a, n) :: State.progPlaces s img st (a + n) t

/-- STACK_PARAMS of a stack: `n` bytes from byte `o`. -/
def State.param (s : State) (img : Image) (st o n : Nat) : Nat :=
  match s.sec img xPARAMS st with
  | some x => s.im img (x.off + o) n
  | none => 0

/-- What the Tutor of a stack writes and records in phase D. `src` is the state from which the image is read. -/
def State.writeStack (s src : State) (img : Image) (st : Nat) : State :=
  let lib := src.param img st 0 8
  let lessons := src.secBytes img xLESSONS xMODULE
  let bells := src.secBytes img xBELLS xMODULE
  let progs := src.progPlaces img st (lib + lessons.length + bells.length) (List.range 16)
  let progBytes := (List.range 16).flatMap (fun k => src.secBytes img xPROGRAMS (16 * st + k))
  let tail := (List.range 4096).map (Config.residentTail s.freeNext)
  let s := { s with freeNext := s.freeNext + 1 }
  let s := s.memWrite 7 lib (lessons ++ bells ++ progBytes ++ tail) false
  let s := s.memWrite 7 (src.param img st 8 8) (src.secBytes img xTABLES xMODULE) false
  let s := s.memWrite 7 (src.param img st 16 8) (src.secBytes img xCOLLECTIVES st) false
  let s := s.memWrite 7 (src.param img st 32 8) (src.secBytes img xPSD st) false
  let part := src.imagePart img st
  let rules := match src.sec img xRULES xMODULE with
    | some x => (src.imRules img x).map (fun r => (BitVec.ofNat 256 (src.im img r.1 32), r.2.map (fun b => BitVec.ofNat 32 b.2)))
    | none => []
  let e0 (r : BitVec 256 × List (BitVec 32)) : Int :=
    match r.2.filterMap (fun b => src.bindingDesc img b.toNat) with
    | o :: _ => (tensorDesc (src.im img o 32)).e
    | [] => 0
  let states := rules.zipIdx.foldl (fun (m : Tab RuleState) x => Tab.set ⟨0, 0, 0⟩ m x.2 ⟨0, e0 x.1, 0⟩) []
  let s := s.setTutor st { s.tutor st with
    digest := img.digest, image := img.src, imageLen := img.len, libBase := lib, libLen := lessons.length
    lessonCount := src.lessonsOf img, bellsLen := bells.length, progs := progs
    tableBase := src.param img st 8 8, tableCount := src.secCount img xTABLES xMODULE
    rules := rules, ruleStates := states
    timetable := match src.sec img xTIMETABLE part with
      | some x => (src.imTimetable img x).map (fun (w : Nat) => BitVec.ofNat 64 w)
      | none => []
    claimed := [], started := [], startedOn := [] }
  let s := s.setTutor st { s.tutor st with residentDigest := s.residentNow st }
  s.restoreStores st

/-! ## Phase E: registers (R377, R378, R384, R391) -/

/-- The registers that STACK_PARAMS loads: register, instance, byte and bytes of the record. -/
def paramRegs (st : Nat) : List (RegName × Nat × Nat × Nat) :=
  [(.assemblyCollTable, st, 16, 8), (.assemblyNorm, st, 24, 4), (.psdTable, st, 32, 8), (.psdEntries, st, 40, 4), (.markerHp, st, 48, 8),
   (.markerSlip, st, 56, 8), (.markerSlipPages, st, 64, 2), (.markerRoll, st, 66, 4), (.markerHwBase, st, 72, 8), (.markerHwSize, st, 80, 4),
   (.markerHwCtrl, st, 84, 4), (.markerHwHeadAddr, st, 88, 8), (.fabricNotifyBase, 4 * st, 96, 8), (.fabricNotifyEntries, 4 * st, 104, 4),
   (.fabricTimeout, 4 * st, 108, 4), (.fabricNotifyHeadAddr, 4 * st, 112, 8), (.tutorBellStats, st, 120, 8)]

/-- The TUTOR counters of R184 that an activation clears. -/
def lessonCounters : List RegName :=
  [.tutorRetired, .tutorAborted, .tutorFaulted, .tutorOtherStops, .tutorBellsBroken, .tutorRearmOverruns, .tutorLessonLoad]

/-- The registers of a stack. HBM4 keeps its contents (R391): a slip pool that moves is read where it now lies. -/
def State.loadStack (s src : State) (img : Image) (st : Nat) : State :=
  let s := s.each (paramRegs st) (fun s r => s.setReg r.1 r.2.1 0 (src.param img st r.2.2.1 r.2.2.2))
  let s := s.setReg .assemblyCollCount st 0 (src.secCount img xCOLLECTIVES st)
  let s := s.setAssembly st Assembly.init
  let k : StackId := Fin.ofNat 4 st
  let s := s.setMarker k { s.marker k with hwSeen := [] }
  let moved := s.reg .markerSlip st != src.reg .markerSlip st || s.reg .markerSlipPages st != src.reg .markerSlipPages st
  let s := (if moved then s.loadPool k else s.notePages k).pageFree k
  let s := s.each [0, 1, 2, 3] (fun s p =>
    match src.sec img xPORTS (4 * st + p) with
    | some x => s.setReg .fabricVcWeight (4 * st + p) 0 (src.im img x.off 3)
    | none => s)
  let s := s.each lessonCounters (fun s n => s.setReg n st 0 0)
  let s := s.setReg .tutorJobId st 0 (src.im img 32 4)
  let s := s.setReg .tutorSeed st 0 (src.im img 24 8)
  let s := s.setReg .tutorDigest st 0 (img.digest.toNat % 2 ^ 64)
  let s := s.setReg .tutorMaxSeq st 0 (src.im img 36 4)
  let s := s.setReg .tutorRuleStatus st 0 0
  let s := s.setReg .tutorRuleLastStep st 0 0
  let s := s.setReg .tutorRules st 0 (s.tutor st).rules.length
  s.bump F.tutorActivationsCount st 0 1

/-- Window entries: those of replaced partitions go, and the image's are written. -/
def State.loadWindows (s src : State) (img : Image) : State :=
  let put (n : RegName) (s : State) (x : Nat × Nat) : State := s.setReg n 0 x.2 x.1
  let s := s.each (src.keptEntries img false).zipIdx (put .fabricNear)
  let s := s.each (src.keptEntries img true).zipIdx (put .fabricFar)
  match src.sec img xWINDOWS xMODULE with
  | none => s
  | some x => s.each (List.range x.count) (fun s k =>
      let o := x.off + 16 * k
      s.setReg (if src.im img o 1 == 1 then .fabricFar else .fabricNear) 0 (src.im img (o + 1) 1) (src.im img (o + 8) 8))

/-- Peer epochs. -/
def State.loadEpochs (s src : State) (img : Image) : State :=
  match src.sec img xEPOCHS xMODULE with
  | none => s
  | some x => s.each (List.range x.count) (fun s k =>
      let w := src.im img (x.off + 4 * k) 4
      s.setPeerEpoch (bits w 0 12) (bits w 16 12))

/-- QUEUES: queues, step rings and intake rings of replaced partitions are not valid unless the image lists them (R384). -/
def State.loadQueues (s src : State) (img : Image) : State :=
  let rep := src.replaced img
  let s := s.each (List.range 128) (fun s q => if rep.elem (src.fld F.queueConfigPart 0 q) then s.setFld F.queueConfigValid 0 q 0 else s)
  let s := s.each rep (fun s p => s.setFld F.queueStepConfigValid 0 p 0)
  let s := s.each [0, 1] (fun s h => s.each (List.range 64) (fun s k =>
    if rep.elem (src.fld F.hostIntakeLoPart h k) then s.setFld F.hostIntakeLoValid h k 0 else s))
  match src.sec img xQUEUES xMODULE with
  | none => s
  | some x => s.each (List.range x.count) (fun s k =>
      let o := x.off + 32 * k
      let port := src.im img (o + 1) 1
      let i := src.im img (o + 2) 1
      let v := src.im img (o + 8) 8
      match src.im img o 1 with
      | 0 => s.setReg .queueConfig 0 i v
      | 1 => s.setReg .queueStepConfig 0 i v
      | 2 => (s.setReg .hostIntakeLo port i v).setReg .hostIntakeHi port i (src.im img (o + 16) 8)
      | _ => s.setReg .hostIntakeBase port 0 v)

/-- Bell groups: those of replaced partitions go, and the image's begin at episode 0; a record whose VALID is 0 is absent (R176, R377, R504). -/
def State.loadBells (s src : State) (img : Image) : State :=
  let rep := src.replaced img
  let s := { s with bells := s.bells.filter (fun e => !rep.elem (src.partOf (bellRec e.2.record).counting)) }
  match src.sec img xBELLS xMODULE with
  | none => s
  | some x => s.each (List.range x.count) (fun s k =>
      let o := x.off + 64 * k
      let r := BitVec.ofNat 256 (src.im img (o + 32) 32)
      if (bellRec r).valid then s.setBell (src.im img o 2) { Bell.init with record := r } else s)

/-- POWER: a cap write; 0 leaves the cap. -/
def State.loadPower (s src : State) (img : Image) : State :=
  match src.sec img xPOWER xMODULE with
  | none => s
  | some x => let w := src.im img x.off 2; if w == 0 then s else s.setCap w

/-! ## Phases F and G -/

/-- The pin list of a stack, in list order; a line in the hold buffer is installed once its entry is freed (R211). -/
def State.loadPins (s src : State) (img : Image) (st : Nat) : State :=
  match src.sec img xPINS st with
  | none => s
  | some x => s.each (List.range x.count) (fun s k =>
      let a := st * 2 ^ 48 + bits (src.im img (x.off + 8 * k) 8) 0 40
      let n := homeSlice a
      let s := if ((s.slice n).findHold (a / 128)).isSome then s.drainSlice n else s
      (s.pinInstall n a false).getD s)

/-- A queue whose CONFIG changed goes to DISABLED, once its held records have been written (R369, R390). A step ring is treated alike; a step record that its ring cannot take is discarded and counted (R365). -/
def State.disableChanged (s src : State) : State :=
  let s := s.each (List.finRange 128) (fun s q =>
    if s.reg .queueConfig 0 q == src.reg .queueConfig 0 q then s
    else
      let r := RingId.queue q
      let s := s.each (s.holdRing.filter (fun h => h.ring == r && !h.written)) (fun s _ => completionRecordWrite s r)
      let s := (s.setReg .queueState 0 q qDISABLED).dropRing r
      (s.setQueue q { s.queue q with doorbell := 0, badBell := false, unsignalled := 0 }).endFetch q)
  s.each (List.finRange 4) (fun s p =>
    if s.reg .queueStepConfig 0 p == src.reg .queueStepConfig 0 p then s
    else
      let r := RingId.step p
      let s := s.each (s.holdRing.filter (fun h => h.ring == r && !h.written)) (fun s _ => completionRecordWrite s r)
      let n := ((s.holdRing ++ s.holdWait).filter (fun h => h.ring == r && !h.written)).length
      let s := (s.setReg .queueStepState 0 p qDISABLED).dropRing r
      if n == 0 then s else s.stepDrop p n)

/-- Phase G: the partitions of the image take over, STOPs are matched, and the record is written (R390, R391, R482). `src` is the state at the end of phase B. -/
def State.endActivation (s src : State) (a : Activation) : State :=
  let img := a.image
  let set := src.imageStacks img
  let parts := (set.map (src.imagePart img)).dedup
  let stopped := (src.replaced img).any (bitOf (s.fld F.corridorStateStopped))
  let origin := if src.fld F.queueConfigPort 0 a.queue == 1 then 1 else 0
  let s := s.each set (fun s st =>
    s.setReg .tutorSylState st 0 (1 + src.imagePart img st * 2 ^ 2))
  let s := { s with activation := none }
  let s := if stopped then s.setFld F.corridorStateStopped 0 0 (s.fld F.corridorStateStopped ||| (parts.map (fun p => 2 ^ p)).sum) else s
  let s := s.each a.stops (fun s x => s.acceptStop x.1 x.2 (parts.filter (s.stopHits x.1)))
  let s := s.diary origin .syllabusActivated ((set.map (fun st => 2 ^ st)).sum + src.im img 32 4 * 2 ^ 32) (img.digest.toNat % 2 ^ 64)
  let n := Config.activateBytes s.freeNext
  let s := { s with freeNext := s.freeNext + 1 }
  let s := s.completeQueue a.queue a.generation a.tag.toNat opACTIVATE a.cmdIndex 0 a.startTime.toNat n
  let s := (s.disableChanged src).resumeRecess
  s.serveQueues

/-- ACTIVATE_APPLIED: phases C to G (R390). -/
def activateApplied (s : State) : State :=
  match s.activation with
  | some a =>
    if a.phase = 2 then
      let src := s
      let img := a.image
      let set := s.imageStacks img
      let s := s.each set (fun s st => s.resplitStack img st)
      let s := s.each set (fun s st => s.writeStack src img st)
      let s := s.each set (fun s st => s.loadStack src img st)
      let s := (((s.loadWindows src img).loadEpochs src img).loadQueues src img).loadBells src img
      let s := s.loadPower src img
      let s := s.each set (fun s st => s.loadPins src img st)
      s.endActivation src a
    else s
  | none => s

/-! ## Format rules (R194, R392) -/

/-- The exponent of a rule for an FXG format: that of the largest magnitude plus the headroom, in range. -/
def ruleExp (h fmt : Nat) (m : Int) : Int := max (-320) (min 256 (m + 1 + h - ((fmtWidth fmt : Int) - 1)))

/-- choose_format (R194) of a rule record. A record with ELEMENTS 0 and UNDERFLOW above 0, which no unit makes but software may store, steps the rung up, as the pseudocode's comparison has it (DESIGN CHOICE, log entry 37: R58 gives such a record the fraction 0, and R194's text calls it calm). -/
def chooseFormat (rule : Nat) (r : Stats) (x : RuleState) : RuleState :=
  if r.nanSeen || r.infSeen then { x with calm := 0 }
  else
    let up := r.overflow > 0 || r.underflow * 2 ^ bits rule 22 5 > r.elements
    let low := r.underflow * 2 ^ bits rule 27 5 ≤ r.elements
    let down := !up && low && x.calm + 1 == bits rule 32 8 && x.rung > 0
    let rung := if up then min (x.rung + 1) (bits rule 16 2) else if down then x.rung - 1 else x.rung
    let calm := if up || down || !low then 0 else x.calm + 1
    let f := bits rule (4 * rung) 4
    let e := match r.maxExp with
      | some m => if isFxg f then ruleExp (bits rule 18 4) f m else x.e
      | none => x.e
    ⟨rung, e, calm⟩

/-- The address of the tensor descriptor that a binding names in a stack's resident library. -/
def State.boundAt (s : State) (st : Nat) (b : BitVec 32) : Nat :=
  s.stageAddr st (bits b.toNat 0 16) (bits b.toNat 16 3) + 0x180 + 32 * bits b.toNat 19 6

/-- One rule on one stack for step `n`; a poisoned record leaves it as it was (R392). -/
def State.applyRule (s : State) (st n i : Nat) (rule : Nat) (binds : List (BitVec 32)) : State :=
  let a := if (n + 1) % 2 == 0 then bits rule 64 50 else bits rule 128 50
  let (s, d, bad) := s.readFrom st 7 a 32
  if bad then (s.setFld F.tutorRuleStatusPoison st 0 1).logError .tutor st uncorrected 0x017 i n
  else
    let t := s.tutor st
    let x := chooseFormat rule (Stats.decode (ofBytes d)) (Tab.get ⟨0, 0, 0⟩ t.ruleStates i)
    let s := s.setTutor st { t with ruleStates := Tab.set ⟨0, 0, 0⟩ t.ruleStates i x }
    let f := bits rule (4 * x.rung) 4
    let e := if isFxg f then x.e else 0
    s.each binds (fun s b =>
      let at' := s.boundAt st b
      let r := s.readFrom st 7 at' 4
      r.1.writeFrom st 7 at' (toBytes 4 (putBits (putBits (ofBytes r.2.1) 0 4 f) 16 16 (unsigned 16 e))) r.2.2)

/-- The stacks on which the image of a stack is active. -/
def State.sameImage (s : State) (st : Nat) : List Nat :=
  [0, 1, 2, 3].filter (fun k => s.fld F.tutorSylStateActive k == 1 && (s.tutor k).digest == (s.tutor st).digest && (s.tutor k).image == (s.tutor st).image)

/-- A write of RULE_STEP; none where it is refused, with REFUSED set (R392). The Tutor's record of its resident copy's digest follows the descriptors that the rules write. -/
def State.ruleStepOk (s : State) (st n : Nat) : Bool :=
  let l := s.sameImage st
  s.fld F.tutorSylStateActive st == 1
    && !s.lessonsOut (l.map s.partOf)
    && !l.any (fun k => s.fld F.tutorRuleStatusBusy k == 1)
    && n != s.reg .tutorRuleLastStep st

/-- The application of every rule of the image for step `n`. -/
def State.applyRules (s : State) (st n : Nat) : State :=
  s.each (s.sameImage st) (fun s k =>
    let s := s.each (s.tutor k).rules.zipIdx (fun s x => s.applyRule k n x.2 x.1.1.toNat x.1.2)
    let s := s.setTutor k { s.tutor k with residentDigest := s.residentNow k }
    (s.setFld F.tutorRuleStatusBusy k 0 1).setReg .tutorRuleLastStep k 0 n)

/-- RULE_APPLY_COMPLETE: the application ends on a stack (R392). -/
def ruleApplyComplete (s : State) (st : Nat) : State := s.setFld F.tutorRuleStatusBusy st 0 0

/-! ## The commands -/

/-- SYLLABUS_LOAD (R386). -/
def execSyllabusLoad (q : QueueId) (s : State) : Host.Outcome State Fault Refusal := .next (syllabusLoad s q)
/-- ACTIVATE (R388). -/
def execActivate (q : QueueId) (s : State) : Host.Outcome State Fault Refusal := .next (activateCommand s q)
/-- ACTIVATE_QUIESCE_REACHED (R390). -/
def execActivateQuiesceReached (s : State) : Host.Outcome State Fault Refusal := .next (activateQuiesceReached s)
/-- ACTIVATE_QUIESCE_TIMEOUT (R389). -/
def execActivateQuiesceTimeout (s : State) : Host.Outcome State Fault Refusal := .next s.cancelWaiting
/-- ACTIVATE_DIGEST_CHECKED (R390). -/
def execActivateDigestChecked (s : State) : Host.Outcome State Fault Refusal := .next (activateDigestChecked s)
/-- ACTIVATE_APPLIED (R390). -/
def execActivateApplied (s : State) : Host.Outcome State Fault Refusal := .next (activateApplied s)
/-- RULE_APPLY_COMPLETE (R392). -/
def execRuleApplyComplete (st : StackId) (s : State) : Host.Outcome State Fault Refusal := .next (ruleApplyComplete s st.val)

end Sys2Proof.Machine
end

