-- ==== Sys2Proof/Machine/Reliability.lean ====
section
/-!
DEFINITION. The Janitor, the Quiz, and the repairs of bond lanes, slices and array rows (R428 to R435).
-/
namespace Sys2Proof.Machine

/-! ## Core store windows (R18, R87) -/

/-- The module address of a byte of the core store window of a logical core (R18). -/
def coreWindow (c : CoreId) (off : Nat) : Nat := c.val / 128 * 2 ^ 48 + 0x10100000000 + c.val % 128 * 0x200000 + off
/-- The logical core whose window holds an address, and the offset in its core store. -/
def windowCore (a : Nat) : Option (CoreId × Nat) :=
  if regionOf a = .coreStore then some (Fin.ofNat 512 (128 * addrStack a + (addrLocal a - 0x10100000000) / 0x200000), (addrLocal a - 0x10100000000) % 0x200000) else none
/-- A diagnostic read of a core store window by the Proctor or by the Tutor of the core's stack: `n` bytes within one row, and whether the row is poisoned. None while a lesson stage runs on the core, for whose end the access waits, and outside the windows (R87). It changes nothing in the module, and no row of the table is one (log entry 45). -/
def State.windowRead (s : State) (a n : Nat) : Option (List Byte × Bool) :=
  match windowCore a with
  | some (c, off) => if (s.core c).stage.isSome then none else some (s.bytes (coreStoreKey (s.physCore c) off) n, s.rowPoisoned c off)
  | none => none
/-- A diagnostic write of a core store window, within one row; it waits as a read does (R87). It comes at a tick (log entry 45). -/
def State.windowStore (s : State) (a : Nat) (data : List Byte) : Option State :=
  match windowCore a with
  | some (c, off) => if (s.core c).stage.isSome then none else some (s.storeWrite c off data false)
  | none => none

/-! ## Where the Janitor stands (R428 to R430) -/

/-- Whether phases C to F of an activation run on a stack. -/
def State.applying (s : State) (st : Nat) : Bool :=
  match s.activation with
  | some a => a.phase = 2 && (s.imageStacks a.image).elem st
  | none => false
/-- Whether the Janitor and the Quiz of a stack are stopped (R430, R433). -/
def State.caretakersStop (s : State) (st : Nat) : Bool := s.outOfService st || s.applying st

/-- Sectors of a slice array: 16 ways of 8,192 sets of 4. -/
abbrev arraySectors : Nat := 524288
/-- Sectors of an HBM4 channel: 4 GiB. -/
abbrev channelSectors : Nat := 134217728

/-- The scratch address of a way, set and sector of a slice (R203). -/
def scratchAddr (n way set sec : Nat) : Nat :=
  let base := 0x10000000000 + (15 - way) * 2 ^ 28 + set * 2 ^ 15
  n / 256 * 2 ^ 48 + base + (sliceHash base ^^^ (n % 256)) * 128 + sec * 32

/-- The address that array sector `k` of a slice holds; none in a way that holds no valid line there (R202, R203). -/
def State.arrayAddr (s : State) (n k : Nat) : Option Nat :=
  let way := k / 32768
  let set := k / 4 % 8192
  if way < s.fld F.sliceConfigCacheWays n then
    match (s.slice n).lines.find? (fun l => l.set == set && l.way.val == way && l.valid.getLsbD (k % 4)) with
    | some l => some (l.line * 128 + k % 4 * 32)
    | none => none
  else some (scratchAddr n way set (k % 4))

/-- The address of sector `k` of the channel beside a slice, in ascending order (R200, R201). -/
def channelAddr (n k : Nat) : Nat :=
  let base := k / 4 * 2 ^ 15
  n / 256 * 2 ^ 48 + base + (sliceHash base ^^^ (n % 256)) * 128 + k % 4 * 32

/-- Whether a slice holds a sector of an address, and whether it is dirty there. -/
def State.heldSector (s : State) (a : Nat) : Bool × Bool :=
  let sl := s.slice (homeSlice a)
  match sl.find (a / 128), sl.findHold (a / 128) with
  | _, some h => (hasSector h.valid a, hasSector h.dirty a)
  | some l, none => (hasSector l.valid a, hasSector l.dirty a)
  | none, none => (false, false)

/-- A sector of an array holds an error beyond correction, as the Janitor finds it (R209, R429). -/
def State.arrayError (s : State) (n k : Nat) : State :=
  match s.arrayAddr n k with
  | none => s.logError .slice n notice 0x006 (32 * k) 5
  | some a =>
    let s := s.bumpSat F.sliceEccUncorrectedCount n 0 1
    let clean := regionOf a == .hbm && !(s.heldSector a).2 && !NatSet.has s.poison (a / 32)
    let s := if clean then { s with hidden := NatSet.insert s.hidden (a / 32) } else s
    (s.setPoison a true).logError .slice n deferred 0x006 (addrLocal a) 1

/-- A sector of HBM4 holds an error beyond correction: its mark shows once the slice holds no copy of its own (R223, R429). -/
def State.channelError (s : State) (n a : Nat) : State :=
  let held := s.heldSector a
  let k := a / 32
  let s :=
    if held.2 then s
    else if held.1 then
      (if NatSet.has s.poison k == NatSet.has s.hidden k then
        { s with hidden := if NatSet.has s.hidden k then NatSet.erase s.hidden k else NatSet.insert s.hidden k } else s)
    else s.setPoison a true
  (s.bumpSat F.hbmUncorrectedCount (hbmOf n) 0 1).logError .hbm (hbmOf n) deferred 0x007 (addrLocal a) 1

/-- The number of whole passes over every unit. -/
def passesDone (t : Tab Nat) (size : Nat) : Nat :=
  (List.range 256).foldl (fun m u => min m (Tab.get 0 t u / size)) (Tab.get 0 t 0 / size)

/-- An HBM4 sector is scrubbed: what has gone wrong in it, and what the command says was found (R223, R429). -/
def State.scrubHbm (s : State) (n k : Nat) (found : ScrubFinding) : State :=
  let a := channelAddr n k
  let e := Tab.get 0 s.hbmErr (a / 32) + hbmSymbols found
  let s := { s with hbmErr := Tab.set 0 s.hbmErr (a / 32) 0 }
  if e = 0 then s else if e ≤ 2 then s.bumpSat F.hbmCorrectedCount (hbmOf n) 0 1 else s.channelError n a

/-- An array sector is scrubbed (R209, R429). -/
def State.scrubArray (s : State) (n k : Nat) (found : ScrubFinding) : State :=
  let old := match s.arrayAddr n k with | some a => Tab.get 0 s.arrayErr (a / 32) | none => 0
  let e := old + arraySymbols found
  let s := match s.arrayAddr n k with | some a => { s with arrayErr := Tab.set 0 s.arrayErr (a / 32) 0 } | none => s
  if e = 0 then s else if e = 1 then s.arrayCorrected n (some k) else s.arrayError n k

/-- JANITOR_SCRUB: the next sector of a slice array, or of an HBM4 channel (R428 to R430). -/
def janitorScrub (s : State) (st : Nat) (hbm : Bool) (unit : Nat) (found : ScrubFinding) : State :=
  if s.caretakersStop st then s
  else
    let n := 256 * st + unit
    let t := s.tutor st
    let pos := if hbm then t.janitorHbm else t.janitorBond
    let size := if hbm then channelSectors else arraySectors
    let k := Tab.get 0 pos unit % size
    let pos' := Tab.set 0 pos unit (Tab.get 0 pos unit + 1)
    let s := s.setTutor st (if hbm then { t with janitorHbm := pos' } else { t with janitorBond := pos' })
    let s := s.bump F.tutorJanitorSectorsCount st 0 1
    let s := if passesDone pos size < passesDone pos' size then s.bump (if hbm then F.tutorHbmPassesCount else F.tutorBondPassesCount) st 0 1 else s
    if hbm then s.scrubHbm n k found else s.scrubArray n k found

/-! ## Slices and bond lanes (R431, R433, R434) -/

/-- SLICE_FAILURE: dirty sectors of the cache ways are poisoned in HBM4, the ways are dropped, and the slice serves its channel in bypass (R434). -/
def sliceFailure (s : State) (n : Nat) : State :=
  let sl := s.slice n
  if sl.failed then s
  else
    let lost := (sl.lines.map (fun l => sectorCount l.dirty)).sum
    let s := s.each sl.lines (fun s l =>
      let s := s.each [0, 1, 2, 3] (fun s k => if l.dirty.getLsbD k then s.setPoison (l.line * 128 + 32 * k) true else s)
      s.leaveSlice l.line l.valid l.dirty)
    let s := s.each sl.lines (fun s l => s.readLine l.line 0)
    let s := s.setSlice n { sl with lines := [], lru := [], failed := true, bondRepairs := [] }
    let s := (s.notePins n).retryWaiting n
    let st := n / 256
    let m := n % 256 / 64
    let s := s.setReg .tutorSliceFailed st m (putBits (s.reg .tutorSliceFailed st m) (n % 64) 1 1)
    s.logError .slice n uncorrected 0x00A lost 0

/-- A failing lane goes onto its group's spare, or, with the spare in use, fails its slice; `how` is the DETAIL1 of its record (R431, R434). -/
def State.repairLane (s : State) (n : Nat) (toArray : Bool) (group lane how : Nat) : State :=
  let sl := s.slice n
  if sl.failed then s
  else if sl.bondSpares.any (fun x => x.1 == toArray && x.2.1 == group) then sliceFailure s n
  else
    let s := s.setSlice n { sl with bondSpares := sl.bondSpares ++ [(toArray, group, lane)] }
    let st := n / 256
    let s := s.bump F.tutorBondRepairsCount st 0 1
    let s := s.setFld F.tutorSparesBondFree st 0 (s.fld F.tutorSparesBondFree st - 1)
    s.logError .slice n notice 0x009 (group + lane * 2 ^ 6 + bit (!toArray) * 2 ^ 11) how

/-- A visit in progress returns its lane and ends early; the next starts again at its slice (R433, R452). -/
def State.pauseQuiz (s : State) (st : Nat) : State :=
  (s.setFld F.tutorQuizStatusPaused st 0 1).setTutor st { s.tutor st with quizActive := false }

/-- A failing lane's repair holds its port; one that comes while the port is held follows it, and a Quiz visit to that slice ends early. A second failing lane of a group fails the slice (R431, R433, R434). -/
def bondLaneRepair (s : State) (n : Nat) (toArray : Bool) (group lane : Nat) : State :=
  if s.outOfService (n / 256) then s
  else
    let sl := s.slice n
    if sl.failed || sl.bondRepairs.elem (toArray, group, lane) then s
    else if (sl.bondSpares ++ sl.bondRepairs).any (fun x => x.1 == toArray && x.2.1 == group) then sliceFailure s n
    else
      let s := s.setSlice n { sl with bondRepairs := sl.bondRepairs ++ [(toArray, group, lane)], laneWords := sl.laneWords.filter (fun x => x.1 != (toArray, group, lane)) }
      let st := n / 256
      if (s.tutor st).quizActive && s.fld F.tutorQuizStatusNextSlice st == n % 256 then s.pauseQuiz st else s

/-- A corrected word is attributed to a lane of a bond port: more than 64 in any 1 ms make the lane a failing one (R431). The other case, a word that still fails its check after two resends, is what the command BOND_LANE_REPAIR reports. -/
def State.bondWord (s : State) (n : Nat) (x : Bool × Nat × Nat) : State :=
  let sl := s.slice n
  let words := sl.laneWords.filter (fun w => decide (s.now < w.2 + 1000000)) ++ [(x, s.now)]
  let s := s.setSlice n { sl with laneWords := words }
  if 64 < (words.filter (fun w => w.1 == x)).length then bondLaneRepair s n x.1 x.2.1 x.2.2 else s

/-- The oldest repair in progress on a slice's port is made, and recorded (R431, R452). -/
def State.finishRepair (s : State) (n : Nat) : State :=
  match (s.slice n).bondRepairs with
  | [] => s
  | x :: rest => (s.setSlice n { s.slice n with bondRepairs := rest }).repairLane n x.1 x.2.1 x.2.2 4

/-- Every repair in progress on a slice's port is made, before the port returns to service (R452). -/
def State.finishRepairs (s : State) (n : Nat) : State := s.each (s.slice n).bondRepairs (fun s _ => s.finishRepair n)

/-- BOND_REPAIR_COMPLETE: the spare path is verified and the port resumes (R431). -/
def bondRepairComplete (s : State) (n : Nat) : State := if s.outOfService (n / 256) then s else s.finishRepair n

/-- QUIZ_VISIT: a visit starts, or the Quiz is shown stopped (R433). -/
def quizVisit (s : State) (st : Nat) : State :=
  let n := 256 * st + s.fld F.tutorQuizStatusNextSlice st
  if s.caretakersStop st || s.fld F.tutorQuizCtrlEnable st == 0 || !(s.slice n).bondRepairs.isEmpty then s.setFld F.tutorQuizStatusPaused st 0 1
  else (s.setFld F.tutorQuizStatusPaused st 0 0).setTutor st { s.tutor st with quizActive := true }

/-- QUIZ_VISIT_END: lanes that failed stay on their spares, and the next visit is at the next slice (R433). -/
def quizVisitEnd (s : State) (st : Nat) (failed : List (Bool × Nat × Nat)) : State :=
  if !(s.tutor st).quizActive then s
  else if s.caretakersStop st then s.pauseQuiz st
  else
    let k := s.fld F.tutorQuizStatusNextSlice st
    let s := s.setTutor st { s.tutor st with quizActive := false }
    let s := s.each failed (fun s x => s.repairLane (256 * st + k) x.1 x.2.1 x.2.2 2)
    let s := s.setFld F.tutorQuizStatusNextSlice st 0 (k + 1)
    if k == 255 then s.bump F.tutorQuizRoundsCount st 0 1 else s

/-! ## Array rows (R435) -/

/-- Spare rows of a slice array: 8,192 for the 256 slices of a stack (R460). -/
abbrev spareRows : Nat := 32

/-- ARRAY_ROW_REPAIR: a row whose sectors have needed 2 or more corrections within 24 hours goes onto a spare row, if one is free (R435). -/
def arrayRowRepair (s : State) (n row : Nat) : State :=
  let sl := s.slice n
  if sl.rowRepair.isSome || sl.rowsUsed ≥ spareRows || s.outOfService (n / 256) || !s.rowDue n row then s
  else
    let s := s.setSlice n { sl with rowRepair := some row, rowsUsed := sl.rowsUsed + 1, rowHits := sl.rowHits.filter (fun x => x.1 != row) }
    let st := n / 256
    let s := s.bump F.tutorArrayRepairsCount st 0 1
    let s := s.setFld F.tutorSparesRowFree st 0 (s.fld F.tutorSparesRowFree st - 1)
    s.logError .slice n notice 0x00B row (spareRows - 1 - sl.rowsUsed)

/-- ARRAY_ROW_REPAIR_COMPLETE: the slice resumes. -/
def arrayRowRepairComplete (s : State) (n : Nat) : State := s.setSlice n { s.slice n with rowRepair := none }

/-! ## The commands -/

/-- JANITOR_SCRUB (R429). -/
def execJanitorScrub (st : StackId) (hbm : Bool) (unit : Fin 256) (found : ScrubFinding) (s : State) : Host.Outcome State Fault Refusal :=
  .next (janitorScrub s st.val hbm unit.val found)
/-- BOND_LANE_REPAIR (R431). -/
def execBondLaneRepair (sl : SliceId) (toArray : Bool) (group : Fin 36) (lane : Fin 32) (s : State) : Host.Outcome State Fault Refusal :=
  .next (bondLaneRepair s sl.val toArray group.val lane.val)
/-- BOND_REPAIR_COMPLETE (R431). -/
def execBondRepairComplete (sl : SliceId) (s : State) : Host.Outcome State Fault Refusal := .next (bondRepairComplete s sl.val)
/-- QUIZ_VISIT (R433). -/
def execQuizVisit (st : StackId) (s : State) : Host.Outcome State Fault Refusal := .next (quizVisit s st.val)
/-- QUIZ_VISIT_END (R433). -/
def execQuizVisitEnd (st : StackId) (failed : List (Bool × Nat × Nat)) (s : State) : Host.Outcome State Fault Refusal := .next (quizVisitEnd s st.val failed)
/-- SLICE_FAILURE (R434). -/
def execSliceFailure (sl : SliceId) (s : State) : Host.Outcome State Fault Refusal := .next (sliceFailure s sl.val)
/-- ARRAY_ROW_REPAIR (R435). -/
def execArrayRowRepair (sl : SliceId) (row : Nat) (s : State) : Host.Outcome State Fault Refusal := .next (arrayRowRepair s sl.val row)
/-- ARRAY_ROW_REPAIR_COMPLETE (R435). -/
def execArrayRowRepairComplete (sl : SliceId) (s : State) : Host.Outcome State Fault Refusal := .next (arrayRowRepairComplete s sl.val)

end Sys2Proof.Machine
end

