-- ==== Sys2Proof/Machine/Reset.lean ====
section
/-!
DEFINITION. Resets, the start-up sequence, the boot chain and the loss of input power (R420, R426, R432, R436, R446 to R463, R493).
-/
namespace Sys2Proof.Machine

/-! ## Domains and causes (R446, R458, R459) -/

/-- DOMAIN codes: MODULE_COLD. -/
abbrev domCOLD : Nat := 1
/-- MODULE_WARM. -/
abbrev domWARM : Nat := 2
/-- PARTITION. -/
abbrev domPARTITION : Nat := 3
/-- STACK. -/
abbrev domSTACK : Nat := 4
/-- BASE_DIE. -/
abbrev domBASE : Nat := 5
/-- CAUSE codes: POWER_ON. -/
abbrev causePOWER_ON : Nat := 0
/-- FAULT. -/
abbrev causeFAULT : Nat := 3
/-- PROCTOR_FAULT. -/
abbrev causePROCTOR : Nat := 4

/-- The RESET record of a request (R444, R448). -/
def State.resetRecord (s : State) (r : ResetReq) : State :=
  s.logError .proctor 0 notice 0x023 (r.domain.val + r.stackSet.toNat * 2 ^ 4 + r.part.toNat * 2 ^ 8) r.cause.val

/-- LAST_DOMAIN and LAST_CAUSE. -/
def State.noteReset (s : State) (r : ResetReq) : State :=
  (s.setFld F.proctorResetStatusLastDomain 0 0 r.domain.val).setFld F.proctorResetStatusLastCause 0 0 r.cause.val

/-- IN_RESET shows the stacks of the resets that run. -/
def State.showReset (s : State) : State :=
  let on (st : Nat) : Bool := s.resets.any (fun r => r.active && r.domain.val ≥ domPARTITION && bitOf r.stackSet.toNat st)
  s.setFld F.proctorResetStatusInReset 0 0 (([0, 1, 2, 3].filter on).map (fun st => 2 ^ st)).sum

/-! ## The work of a partition (R450) -/

/-- Lessons of a partition are stopped; one whose home Tutor is reset completes with the worst case, by the QUEUE logic. -/
def State.resetLessons (s : State) (set parts : List Nat) : State :=
  let ids := (s.lessons.filter (fun l => parts.elem l.part)).map (fun l => l.id)
  let s := s.each ids (fun s id => s.stopLesson id .reset)
  { s with
    lessons := s.lessons.map (fun l =>
      if parts.elem l.part then
        { l with
          lost := l.lost || set.elem l.home.val
          parts := l.parts.map (fun p => if set.elem (stackOfCluster p.1) && p.2 != .withdrawn then (p.1, PartState.ended) else p) }
      else l)
    partMsgs := s.partMsgs.filter (fun m => match m with | .dispatch _ st => !set.elem st.val | _ => true) }

/-- Open episodes of Bell groups with members in a partition are broken. -/
def State.resetBells (s : State) (parts : List Nat) : State :=
  let hit (g : Nat) : Bool :=
    let c := (bellRec (s.bell g).record).clusters
    [0, 1, 2, 3].any (fun st => bits c (16 * st) 16 != 0 && parts.elem (s.partOf st))
  s.each ((s.bells.map (fun e => e.1)).filter hit) (fun s g => s.ownBreak g)

/-- What stops on every stack of the partitions of the reset stacks. -/
def State.resetWork (s : State) (set : List Nat) : State :=
  let parts := (set.map s.partOf).dedup
  let all := parts.flatMap s.stacksOf
  let s := (s.resetLessons set parts).resetBells parts
  let s := s.each all (fun s st =>
    let s := s.each (s.assembly st).insts (fun s i => s.failInstance st i.coll i.step Config.stopStatus.toNat)
    (abandonWrite s (Fin.ofNat 4 st)).getD s)
  let onSet (a : Nat) : Bool := set.elem (addrStack a)
  s.each (List.range 128) (fun s q =>
    let k := s.queue q
    if k.copies.isEmpty then s
    else s.setQueue q { k with copies := k.copies.map (fun c => if onSet c.src || (c.opc.toNat == opPLACE && onSet c.dst) then { c with sent := false } else c) })

/-! ## A stack in reset (R311, R449, R452) -/

/-- The CORE registers that a reset of the stack leaves. -/
def coreKept : List RegName := [.coreStatus, .coreClock]

/-- Registers of the CORE and SLICE blocks of a stack return to their reset values: counters, and all of CORE but STATUS and CLOCK. -/
def State.resetCounters (s : State) (st : Nat) : State :=
  let base (b : Block) (n : RegName) (i : Nat) (s : State) : State :=
    s.each (List.range n.desc.count) (fun s j => if n.block == b then s.setReg n i j n.desc.reset else s)
  let s := s.each (List.range 144) (fun s k => s.each (Block.core.regs.filter (fun n => !coreKept.elem n)) (fun s n => base .core n (144 * st + k) s))
  s.each (List.range 256) (fun s k => s.each (Block.slice.regs.filter (fun n => n != .sliceConfig)) (fun s n => base .slice n (256 * st + k) s))

/-- PINNED and HOLD.IN_USE show what the slices of a stack hold, which a base-die reset keeps (R226, R452). -/
def State.noteStack (s : State) (st : Nat) : State := s.each (List.range 256) (fun s k => (s.noteHold (256 * st + k)).notePins (256 * st + k))

/-- The ports of a stack go to DISABLED, and its tracker entries end without a completion (R311, R450). -/
def State.resetPorts (s : State) (st : Nat) : State :=
  let s := { s with
    trackers := s.trackers.filter (fun t => tidStack t.entry != st)
    heldReqs := s.heldReqs.filter (fun h => h.st.val != st) }
  (s.each [0, 1, 2, 3] (fun s k => s.portDisable (4 * st + k))).noteTracker st

/-- What the reset of one stack does as it takes effect. A base-die reset keeps the cache in retention; the others write it back and drop it. -/
def State.resetStack (s : State) (st : Nat) (base : Bool) : State :=
  let k : StackId := Fin.ofNat 4 st
  let s := ((s.pauseQuiz st).resetPorts st).setAssembly st Assembly.init
  let s := s.setFld F.assemblyStateActive st 0 0
  let m := s.marker k
  let s := (s.setMarker k { m with chunkWait := [], withheldChunks := [], cal := none }).setFld F.markerCalStatusBusy st 0 0
  let s := s.setWithhold k false
  let s := (s.loseCores st).each (List.range 128) (fun s j => s.setCore (Fin.ofNat 512 (128 * st + j)) Core.init)
  let s := s.each (List.range 16) (fun s j =>
    (s.setCluster (16 * st + j) Cluster.init).setReg .clusterState (16 * st + j) 0 (2 * s.fld F.clusterStateRetired (16 * st + j)))
  let s := s.each (List.range 256) (fun s j =>
    let n := 256 * st + j
    let s := s.setSlice n { s.slice n with fetching := [], reads := [], pinQ := [], waitQ := [] }
    if base then s else s.flushSlice n (fun _ => false))
  let s := ((s.resetCounters st).noteStack st).hbmMode st 1
  (s.each (List.range 44) (fun s j => if s.fld F.thermalSensorSuspect st j == 1 then s.clearSuspect st j else s)).setRates st

/-- An activation that has not been applied fails when one of its stacks enters reset (R390). -/
def State.stopActivation (s : State) (set : List Nat) : State :=
  match s.activation with
  | some a => if a.phase != 2 && (s.imageStacks a.image).any (fun st => set.elem st) then s.failActivation 0x38 else s
  | none => s

/-- The list of resets when one takes effect: a running reset that it contains ends, with its record, and one that it overlaps goes on without the shared stacks (R448). -/
def State.listReset (s : State) (r : ResetReq) : State :=
  let cut (x : ResetReq) : ResetReq := if x.active then { x with stackSet := x.stackSet &&& ~~~r.stackSet } else x
  let gone := s.resets.filter (fun x => x.active && (cut x).stackSet = 0)
  ({ s with resets := (s.resets.map cut).filter (fun (x : ResetReq) => x.stackSet != 0)
      ++ [{ r with active := true, start := BitVec.ofNat 64 s.now }] }).each gone (fun s x => s.resetRecord x)

/-- The work and the blocks of the named stacks are reset, and the resets counted (R449, R450, R452). -/
def State.resetNamed (s : State) (base : Bool) (set : List Nat) : State :=
  let s := (s.resetWork set).each set (fun s st => s.resetStack st base)
  if base then s.bump F.proctorBaseDieResetsCount 0 0 set.length else s.bump F.proctorStackResetsCount 0 0 set.length

/-- A partition, stack or base-die reset takes effect: all its stacks enter reset together (R448). -/
def State.enterReset (s : State) (r : ResetReq) : State :=
  let set := stackList r.stackSet.toNat
  let faulted := ((set.filter (fun st => s.pstate st == pFAULT)).map (fun st => 2 ^ st)).sum
  ((((s.stopActivation set).listReset { r with faulted := BitVec.ofNat 4 faulted }).resetNamed (r.domain.val == domBASE) set).noteReset r).showReset

/-- Whether a request waits: a named Marker is COMMITTING, or a named stack is in phases C to F (R448). -/
def State.resetDeferred (s : State) (r : ResetReq) : Bool :=
  (stackList r.stackSet.toNat).any (fun st => s.stepState st == mCOMMITTING || s.applying st)

/-- RESET_TAKES_EFFECT: every request whose deferrals have ended. -/
def resetTakesEffect (s : State) : State :=
  let due := s.resets.filter (fun r => !r.active && !s.resetDeferred r)
  let s := { s with resets := s.resets.filter (fun r => r.active || s.resetDeferred r) }
  s.each due (fun s r => s.enterReset r)

/-! ## The boot chain (R461 to R463) -/

/-- What a firmware bank holds. -/
def State.bank (s : State) (k : Nat) : List Byte :=
  match Tab.get [] s.proctor.banks k with
  | [] => Config.flashBank k
  | b => b

/-- Whether a bundle is valid (R461). -/
def State.bundleOk (s : State) (b : List Byte) : Bool :=
  let t := b.drop (b.length - 256)
  let num (o n : Nat) : Nat := ofBytes ((t.drop o).take n)
  let k := num 0 4
  decide (k < 4) && !Config.keyRevoked k && Config.sha384 ((t.drop 16).take 96) == Config.keyFuse k
    && Config.ecdsaVerify (BitVec.ofNat 768 (num 16 96)) (Config.sha384 (b.take (b.length - 256))) (BitVec.ofNat 384 (num 112 48)) (BitVec.ofNat 384 (num 160 48))
    && (Config.bundleDevice b).toNat == s.reg .proctorDeviceId && decide (s.fld F.secFwSvnMin ≤ (Config.bundleSvn b).toNat)

/-- The state of a bank: 0 VALID, 1 INVALID, 2 EMPTY. -/
def State.bankState (s : State) (k : Nat) : Nat := if k == 0 then s.fld F.proctorBootBankA else s.fld F.proctorBootBankB
/-- Sets it. -/
def State.setBankState (s : State) (k v : Nat) : State := if k == 0 then s.setFld F.proctorBootBankA 0 0 v else s.setFld F.proctorBootBankB 0 0 v
/-- A FIRMWARE entry of the Diary (R482). -/
def State.firmwareEntry (s : State) (origin k how : Nat) : State :=
  s.diary origin .firmware (k + how * 2) ((Config.bundleSvn (s.bank k)).toNat + (Config.bundleVersion (s.bank k)).toNat * 2 ^ 32)
/-- A bank is marked INVALID. -/
def State.badBank (s : State) (origin k : Nat) : State := (s.setBankState k 1).firmwareEntry origin k 2
/-- Whether the boot ROM can run from a bank. -/
def State.bankRuns (s : State) (k : Nat) : Bool := s.bankState k == 0 && s.bundleOk (s.bank k)

/-- The firmware runs from a bank (R462). -/
def State.runBank (s : State) (k : Nat) (fallback : Bool) : State :=
  let s := ((s.setFld F.proctorBootActiveBank 0 0 k).setFld F.proctorBootPending 0 0 0).setFld F.proctorBootFallback 0 0 (bit fallback)
  let s := s.setReg .proctorFwVersion 0 0 (Config.bundleVersion (s.bank k)).toNat
  let s := s.setFld F.secFwSvnCurrent 0 0 (Config.bundleSvn (s.bank k)).toNat
  if fallback then s.firmwareEntry originModule k 1 else s

/-- A bank that the boot ROM tried and could not run is marked INVALID, an EMPTY one too (R462). -/
def State.failBank (s : State) (k : Nat) : State := if s.bankState k == 1 then s else s.badBank originModule k

/-- The boot ROM's choice: the PENDING bank or else the ACTIVE one, then the other; with neither the module stays in recovery (R462, R463). -/
def State.boot (s : State) : State :=
  let pref := if s.fld F.proctorBootPending == 1 then 1 - s.fld F.proctorBootActiveBank else s.fld F.proctorBootActiveBank
  let s := s.setReg .proctorSerial 0 0 Config.serial.toNat
  let s := s.setFld F.proctorStartupPhase 0 0 1
  if s.bankRuns pref then s.runBank pref false
  else
    let s := s.failBank pref
    if s.bankRuns (1 - pref) then s.runBank (1 - pref) true
    else
      let s := s.failBank (1 - pref)
      { s.setFld F.proctorBootPending 0 0 0 with proctor := { s.proctor with recovery := true } }

/-- A firmware update that is cut short or cancelled leaves its bank INVALID (R480). -/
def State.dropUpdate (s : State) (origin : Nat) : State :=
  match s.proctor.update with
  | none => s
  | some _ =>
    let s := { s with proctor := { s.proctor with update := none } }
    s.badBank origin (if s.proctor.recovery then 0 else 1 - s.fld F.proctorBootActiveBank)

/-! ## Module resets (R449) -/

/-- What flash and fuses hold, among the registers (R464, R468, R480). -/
def flashRegs : List RegName := [.secPolicy, .secSylMinSvn, .secKey, .secKeyPub, .secFwSvn, .proctorBoot]
/-- Registers kept through a cold reset, power-on values apart. -/
def coldKept (n : RegName) : Bool := n.desc.powerOn || flashRegs.elem n || n == .secHbmKeyGen
/-- Registers kept through a warm reset: the always-on domain, seat and windows, CORE_MAP and the clocks of cores, and what start-up read of the HBM4 devices. A port's link stays as it is. -/
def warmKept (n : RegName) : Bool :=
  match n.block with
  | .proctor | .sec | .diary | .corridor | .power | .thermal => true
  | _ => ([.fabricSeat, .fabricNear, .fabricFar, .clusterCoreMap, .clusterState, .coreStatus, .coreClock, .hbmDevice, .hostStatus, .hostLinkEpoch, .fabricRetrains, .tutorActivations] : List RegName).elem n

/-- The registers that a predicate keeps; the others return to their reset values. -/
def State.keepRegs (s : State) (keep : RegName → Bool) : Tab Nat :=
  s.regs.filter (fun e => match placeAt e.1 with | some p => keep p.name | none => false)

/-- Slices whose channel is FAILED, which every reset keeps (R438). -/
def State.failedChannels (s : State) : List Nat := (List.range 1024).filter (fun n => s.fld F.sliceConfigChannelFailed n == 1)
/-- Channels are FAILED again after their registers have been reset. -/
def State.failChannels (s : State) (l : List Nat) : State := s.each l (fun s n => (s.setChannel n 2).setFld F.sliceConfigChannelFailed n 0 1)
/-- Repairs of a slice outlast its contents. -/
def Slice.repaired (sl : Slice) : Slice :=
  { Slice.init with bondSpares := sl.bondSpares, rowsUsed := sl.rowsUsed, laneSpares := sl.laneSpares, failed := sl.failed }

/-- SPARES_USED shows the redundant lanes of a slice's channel (R227). -/
def State.noteLanes (s : State) (n : Nat) : State :=
  s.setFld F.hbmChannelSparesUsed (hbmOf n) (channelOf n) (s.slice n).laneSpares.length

/-- The stacks' keys are generated anew (R472). -/
def State.newKey (s : State) (st : Nat) : State :=
  s.setReg .secHbmKeyGen 0 0 (putBits (s.reg .secHbmKeyGen) (8 * st) 8 (bits (s.reg .secHbmKeyGen) (8 * st) 8 + 1))

/-- Everything outside the always-on domain at its reset value, with `regs` in place of the registers: memories, units, queues, Syllabus. -/
def State.clearModule (s : State) (regs : Tab Nat) : State :=
  let failed := s.failedChannels
  let old := s.slices
  let s := { s with
    regs := regs, halves := [], mem := [], poison := [], hidden := [], arrayErr := [], hbmErr := [], rowPoison := [], slate := [], cores := [], clusters := []
    lessons := [], partMsgs := [], bells := [], slices := [], hallwayFails := [], markers := [], ports := [], trackers := []
    heldReqs := [], assemblies := [], queues := [], holdRing := [], holdWait := [], images := [], activation := none, tutors := []
    powerCmd := none }
  let s := s.each old (fun s e => (s.setSlice e.1 e.2.repaired).noteLanes e.1)
  (s.failChannels failed).each [0, 1, 2, 3] State.newKey

/-- The Corridor's bypass closes: with module cold or warm reset, and with loss of power (R330). -/
def Corridor.close (c : Corridor) : Corridor := { c with moving := some false }

/-- Module cold reset (R446, R449). Common time starts again at 0, and the error log's records go on taking in events for what was left of their 1 ms (R445). -/
def State.coldReset (s : State) (cause : Fin 5) : State :=
  let active := s.resets.filter (fun r => r.active)
  let s := s.each active (fun s r => s.resetRecord r)
  let s := s.dropUpdate originModule
  let perst := [0, 1].map (fun h => (s.hport h).perst)
  let s := s.clearModule (s.keepRegs coldKept)
  let s := { s with
    corridor := { Corridor.init with bypassOpen := s.corridor.bypassOpen }.close
    loops := [], capTicks := 0, capSum := 0, coolTicks := 0, warmTicks := 0, hports := []
    proctor := { s.proctor with recent := s.proctor.recent.map (fun (r : RecentRec) => { r with expiry := r.expiry - s.now }), keyCmds := [], sessions := [], eventsToSend := [], receiver := 0, indexes := [], recovery := false } }
  let s := s.each perst.zipIdx (fun s x => s.setHPort x.2 { HPort.init with perst := x.1 })
  let r : ResetReq := ⟨1, 15, cause, 0, true, 0, false, 0⟩
  let s := ({ s with resets := [r] }).noteReset r
  let s := if cause.val == causePOWER_ON then s else s.bump F.proctorColdResetsCount 0 0 1
  s.boot

/-- Module warm reset (R446, R449). -/
def State.warmReset (s : State) (cause : Fin 5) : State :=
  let active := s.resets.filter (fun r => r.active)
  let s := s.each active (fun s r => s.resetRecord r)
  let s := s.each (List.range 16) (fun s p => s.portDisable p)
  let s := s.clearModule (s.keepRegs warmKept)
  let s := s.each (List.range 64) (fun s cl => s.setReg .clusterState cl 0 (2 * s.fld F.clusterStateRetired cl))
  let s := { s with corridor := s.corridor.close }
  let s := (s.forgetDue 0).forgetDue 1
  let r : ResetReq := ⟨2, 15, cause, 0, true, BitVec.ofNat 64 s.now, false, 0⟩
  let s := ({ s with resets := [r] }).noteReset r
  let s := (s.setFld F.proctorResetStatusWarm 0 0 1).setFld F.proctorResetStatusInReset 0 0 0
  (s.setFld F.proctorStartupPhase 0 0 2).bump F.proctorWarmResetsCount 0 0 1

/-! ## Requests (R447, R448) -/

/-- Whether a running reset contains a module reset request. In recovery the cold reset runs no more, and another may start (R463). -/
def State.inModuleReset (s : State) (d : Nat) : Bool := !s.proctor.recovery && s.resets.any (fun r => r.active && decide (r.domain.val ≤ min d 2))

/-- A request that the module accepts. What a running or a waiting reset of the same or a larger domain contains has no effect, and a smaller one that waits gives way to it (R448; DEDUCED, log entry 38, for those that wait). -/
def State.acceptReset (s : State) (r : ResetReq) : State :=
  let d := r.domain.val
  if s.inModuleReset d then s.resetRecord r
  else if d == domCOLD then s.coldReset r.cause
  else if d == domWARM then s.warmReset r.cause
  else
    let inside (st : Nat) : Bool := s.resets.any (fun x => decide (x.domain.val ≤ d) && bitOf x.stackSet.toNat st)
    let set := (((stackList r.stackSet.toNat).filter (fun st => !inside st)).map (fun st => 2 ^ st)).sum
    if set == 0 then s.resetRecord r
    else
      let r := { r with stackSet := BitVec.ofNat 4 set }
      let cut (x : ResetReq) : ResetReq := if x.active then x else { x with stackSet := x.stackSet &&& ~~~r.stackSet }
      resetTakesEffect { s with resets := (s.resets.map cut).filter (fun (x : ResetReq) => x.stackSet != 0) ++ [r] }

/-- The cause of a write by a requester (R459). -/
def causeOf : Requester → Fin 5
  | .h0 | .h1 => 1
  | _ => 2

/-- The stacks that a RESET_CMD value names. -/
def State.resetStacks (s : State) (v : Nat) : List Nat :=
  if bits v 0 3 == domPARTITION then s.stacksOf (bits v 8 2) else if bits v 0 3 == domCOLD || bits v 0 3 == domWARM then [0, 1, 2, 3] else stackList (bits v 4 4)

/-- Whether a value of RESET_CMD is accepted (R447). -/
def State.resetOk (s : State) (v : Nat) : Bool :=
  let d := bits v 0 3
  let l := s.resetStacks v
  if d == domCOLD || d == domWARM then bits v 16 16 == 0xA55A
  else (d == domPARTITION || d == domSTACK || d == domBASE) && !l.isEmpty
    && !l.any (fun st => s.pstate st == pENTERING || s.pstate st == pRECESS || s.pstate st == pWAKING)
    && (d == domSTACK || !l.any (fun st => s.pstate st == pFAULT))

/-- A write of RESET_CMD; false where it is refused, with REFUSED set. -/
def State.resetWrite (s : State) (who : Requester) (v : Nat) : State × Bool :=
  if s.resetOk v then
    let set := ((s.resetStacks v).map (fun st => 2 ^ st)).sum
    (s.acceptReset ⟨Fin.ofNat 6 (bits v 0 3), BitVec.ofNat 4 set, causeOf who, BitVec.ofNat 2 (bits v 8 2), false, 0, false, 0⟩, true)
  else (s.setFld F.proctorResetStatusRefused 0 0 1, false)

/-! ## Errors that reset (R426) -/

/-- The stack reset that the Proctor applies after an error. -/
def State.faultReset (s : State) (st : Nat) : State := s.acceptReset ⟨4, BitVec.ofNat 4 (2 ^ st), 3, 0, false, 0, false, 0⟩

/-- TAG_UE: the line of a way and set is lost; its dirty sectors hold what nothing can vouch for. -/
def tagUe (s : State) (n set : Nat) (way : Fin 16) : State :=
  let sl := s.slice n
  let s := s.logError .slice n fatal 0x01F set way.val
  let s := match sl.lines.find? (fun l => l.set == set && l.way == way) with
    | none => s
    | some l =>
      let lost := [0, 1, 2, 3].filter (fun k => l.dirty.getLsbD k)
      let s := s.each lost (fun s k =>
        { s.setBytes (l.line * 128 + 32 * k) ((List.range 32).map (fun j => Config.lostByte s.freeNext j)) with freeNext := s.freeNext + 1 })
      let s := s.leaveSlice l.line l.valid l.dirty
      (s.setSlice n { sl with lines := sl.lines.filter (fun x => x.line != l.line) }).notePins n
  s.faultReset (n / 256)

/-- TUTOR_UE. -/
def tutorUe (s : State) (st : Nat) (marker : Bool) : State :=
  (s.logError (if marker then .marker else .tutor) st fatal 0x020 0 0).faultReset st

/-- PROCTOR_FAULT. -/
def proctorFault (s : State) : State :=
  let s := s.logError .proctor 0 fatal 0x022 0 0
  if s.inModuleReset domCOLD then s.resetRecord ⟨1, 15, 4, 0, false, 0, false, 0⟩ else s.coldReset 4

/-! ## The bond drain, and the end of a reset (R452, R454, R455) -/

/-- BOND_DRAIN_END: transfers that have not completed are poisoned, those of the stacks of the base-die reset that drains. -/
def bondDrainEnd (s : State) (reads writes : List Nat) : State :=
  match s.resets.find? (fun r => r.active && r.domain.val == domBASE && !r.drained) with
  | none => s
  | some r =>
    let mine (a : Nat) : Bool := bitOf r.stackSet.toNat (addrStack a)
    let s := { s with resets := s.resets.map (fun x => if x = r then { x with drained := true } else x) }
    let s := s.each (reads.filter mine) (fun s a =>
      (s.logError .slice (homeSlice a) deferred 0x008 (addrLocal a) 0).emit (.sliceData (a / 32 * 32) (s.bytes (a / 32 * 32) 32) true))
    s.each (writes.filter mine) (fun s a => (s.setPoison a true).logError .slice (homeSlice a) deferred 0x008 (addrLocal a) 1)

/-- The array of a slice is read and checked, and its contents kept: what has gone wrong in it is corrected or poisoned (R432). -/
def State.checkArray (s : State) (n : Nat) : State :=
  s.each (s.arrayErr.filter (fun e => homeSlice (32 * e.1) == n)) (fun s e => s.arrayCheck (32 * e.1) .read)

/-- The march test of an array maps failing rows and columns onto spares (R432). The spec gives rows a number of spares and columns none. -/
def State.marchTest (s : State) (n free : Nat) : State :=
  let sl := s.slice n
  let rows := (Config.examRows free n).dedup.take (spareRows - sl.rowsUsed)
  s.setSlice n { sl with rowsUsed := sl.rowsUsed + rows.length, rowHits := [], colSpares := (sl.colSpares ++ Config.examColumns free n).dedup }

/-- An Exam of a slice: it repairs the lanes that it finds failing, and a slice that it passes is not failed any more. The full form tests the rows and columns of the array, the bond form reads and checks it (R431, R432, R434). -/
def State.exam (s : State) (n : Nat) (full : Bool) : State :=
  let free := s.freeNext
  let s := { s with freeNext := free + 1 }
  let st := n / 256
  let m := n % 256 / 64
  let s := (s.setSlice n { s.slice n with failed := false }).setReg .tutorSliceFailed st m (putBits (s.reg .tutorSliceFailed st m) (n % 64) 1 0)
  let s := s.each (Config.examLanes free n) (fun s x => s.repairLane n x.1 x.2.1.val x.2.2.val 1)
  let s := if full then s.marchTest n free else s.checkArray n
  if Config.examPasses free n then s else sliceFailure s n

/-- The spares that are free on a stack (R460). -/
def State.countSpares (s : State) (st : Nat) : State :=
  let used (f : Slice → Nat) : Nat := ((List.range 256).map (fun k => f (s.slice (256 * st + k)))).sum
  s.setReg .tutorSpares st 0 ((18432 - used (fun sl => sl.bondSpares.length)) + (8192 - used (fun sl => sl.rowsUsed)) * 2 ^ 16)

/-- HBM4 and its caches of a stack are written with zeros (R454, R455). -/
def State.zeroFill (s : State) (st : Nat) : State :=
  let s := (s.clearMem (st * 2 ^ 48) (2 ^ 48)).clearPoison (st * 2 ^ 48) (2 ^ 48)
  { s with hidden := s.hidden.filter (fun k => addrStack (32 * k) != st) }.newKey st

/-- A Hallway link that is DOWN returns with the stack reset of either of its stacks (R220). -/
def State.hallwayReturn (s : State) (st : Nat) : State :=
  s.each [0, 1, 2, 3, 4, 5] (fun s l =>
    if ((hallwayEnds l).1 == st || (hallwayEnds l).2 == st) && s.fld F.hallwayStateLink l == 2 then
      { s.setFld F.hallwayStateLink l 0 0 with hallwayFails := Tab.set 0 s.hallwayFails l 0 }
    else s)

/-! ## Start-up (R347, R349, R420, R436, R454 to R457) -/

/-- The defaults while no Syllabus is active (R347, R349). -/
def State.syllabusDefaults (s : State) : State :=
  let s := s.each [0, 1] (fun s h =>
    let base := hostStack h * 2 ^ 48
    let s := s.setReg .hostIntakeBase h 0 (base + 0xF000000000)
    (s.setReg .hostIntakeLo h 0 (base + 2 ^ 50)).setReg .hostIntakeHi h 0 (base + 0x10100000000))
  (s.setReg .queueConfig 0 0 (1 + 2 ^ 8)).setReg .queueConfig 0 1 (1 + 2 + 2 * 2 ^ 4 + 2 ^ 8)

/-- The ageing monitor measures a physical core: its new FMAX, which is never above 1,850 MHz. M is the highest frequency at which the delay monitors pass, less a guard band of 25 MHz, rounded down to a multiple of 5 MHz (R112, R420). -/
def State.ageCore (s : State) (phys : Nat) : State × Nat :=
  let fused := min (Config.fusedMhz phys).toNat 1850
  let last := Tab.get 0 s.proctor.ageing phys
  let prev := if last == 0 then fused else min fused last
  let m := ((Config.delayMonitor s.freeNext phys).toNat - 25) / 5 * 5
  let new := min prev m
  let s := { s with freeNext := s.freeNext + 1, proctor := { s.proctor with ageing := Tab.set 0 s.proctor.ageing phys new } }
  let s := if new < prev then
    s.diary originModule .fmaxLowered (phys / 144 + phys / 9 % 16 * 4 + phys % 9 * 64) (prev + new * 2 ^ 16)
    else s
  (s, new)

/-- Why a physical core is retired at start-up: fuse 0, ageing 1, self-test 2 (R436, R444). -/
def State.coreVerdict (s : State) (phys fmax : Nat) : Option Nat :=
  if Config.coreFusedBad phys then some 0 else if fmax < 1550 then some 1
  else if Config.coreSelfTest s.freeNext phys then none else some 2

/-- The cores of a cluster are measured and tested: for each position its FMAX, and why it is retired. -/
def State.testCores (s : State) (cl : Nat) : List Nat → State × List (Nat × Nat × Option Nat)
  | [] => (s, [])
  | p :: t =>
    let phys := 9 * cl + p
    let (s, f) := s.ageCore phys
    let v := s.coreVerdict phys f
    let s := { s with freeNext := s.freeNext + 1 }
    let s := match v with | some w => s.logError .cluster cl notice 0x019 p w | none => s
    let (s, l) := State.testCores s cl t
    (s, (p, f, v) :: l)

/-- CORE_MAP and the CORE registers of a cluster; with fewer than eight good cores it is RETIRED (R85, R86, R118, R436). -/
def State.mapCores (s : State) (cl : Nat) : State :=
  let (s, l) := s.testCores cl (List.range 9)
  let good := (l.filter (fun x => x.2.2.isNone)).map (fun x => x.1)
  let bad := (l.filter (fun x => x.2.2.isSome)).map (fun x => x.1)
  let slots := good ++ bad
  let map := ((List.range 8).map (fun c => good.getD c 0xF * 2 ^ (4 * c))).sum + good.getD 8 0xF * 2 ^ 32 + (bad.map (fun p => 2 ^ p)).sum * 2 ^ 36
  let s := s.setReg .clusterCoreMap cl 0 map
  let s := s.each slots.zipIdx (fun s x =>
    let i := 9 * cl + x.2
    let f := match l.find? (fun y => y.1 == x.1) with | some y => y.2.1 | none => 0
    let s := s.setReg .coreStatus i 0 (x.1 + bit (x.2 < 8) * 2 ^ 4 + bit (x.2 == 8) * 2 ^ 5 + bit (bad.elem x.1) * 2 ^ 6)
    s.setReg .coreClock i 0 ((Config.fusedMhz (9 * cl + x.1)).toNat + f * 2 ^ 16))
  if good.length < 8 then s.retireCluster cl else s

/-- HBM4 devices are identified; one that reports anything but 16-high stacks of 64 Gb dies is rejected (R221, R456). -/
def State.identifyHbm (s : State) (st : Nat) : State × Bool :=
  (List.range 8).foldl (fun (w : State × Bool) k =>
    let i := 8 * st + k
    let d := (Config.hbmDevice i).toNat
    let s := w.1.setReg .hbmDevice i 0 d
    if bits d 0 8 == 16 && bits d 8 8 == 64 then (s, w.2) else (s.logError .hbm i fatal 0x01B d 0, false)) (s, true)

/-- The self-test of the cores of a cluster in a reset that is no start-up: the core stores, Slates, table stores and transpose buffers. A core that fails is retired as one in service is, the spare before the others (R436, R454; DESIGN CHOICE, log entry 51: R449 keeps CORE_MAP and FMAX through such a reset, and a failed core is left out all the same). -/
def State.retestCores (s : State) (cl : ClusterId) : State :=
  if s.fld F.clusterStateRetired cl == 1 then s
  else
    let free := s.freeNext
    let s := { s with freeNext := free + 1 }
    let passes (phys : Nat) : Bool := Config.coreSelfTest free (9 * cl.val + phys)
    let spare := s.fld F.clusterCoreMapSpare cl
    let s := if spare == 0xF || passes spare then s
      else
        let s := (s.setFld F.clusterCoreMapSpare cl 0 0xF).setFld F.clusterCoreMapRetired cl 0 (s.fld F.clusterCoreMapRetired cl ||| 2 ^ spare)
        (s.setFld F.coreStatusRetired (9 * cl.val + 8) 0 1).logError .cluster cl notice 0x019 spare 2
    s.each (List.finRange 8) (fun s k => if passes (bits (s.reg .clusterCoreMap cl) (4 * k.val) 4) then s else s.retireCore cl k 2)

/-- Whether the Tutor image of the bundle that runs passes its check, which it must before any Tutor leaves reset (R462). -/
def State.tutorImageOk (s : State) : Bool := Config.tutorImagePasses (s.bank (s.fld F.proctorBootActiveBank))

/-- At a start-up, which a warm reset is not, a FAILED channel is tested again (R438). -/
def State.testChannels (s : State) : State :=
  s.each s.failedChannels (fun s n =>
    let pass := Config.channelPasses s.freeNext n
    let s := { s with freeNext := s.freeNext + 1 }
    if pass then (s.setChannel n 0).setFld F.sliceConfigChannelFailed n 0 0 else s)

/-- What a start-up or a warm reset does of phases 2 to 5 for a stack that passes: Exam, spares, Hallway, HBM4 in service. -/
def State.serveStack (s : State) (st : Nat) : State :=
  let s := s.each (List.range 256) (fun s k => s.exam (256 * st + k) true)
  let s := (s.countSpares st).hbmMode st 0
  (s.setPstate [st] pACTIVE).setFld F.thermalStatusShutdown st 0 0

/-- A stack fails start-up (R456). -/
def State.failStack (s : State) (st phase : Nat) : State := (s.setPstate [st] pFAULT).logError .tutor st fatal 0x01C phase 0

/-- What a stack returns to after a partition, stack or base-die reset: the Exam, its repairs and spares, its HBM4, and what the Syllabus has there (R381, R452, R454, R455). -/
def State.serveAgain (s : State) (st : Nat) (base : Bool) : State :=
  let s := if base then s
    else
      let s := s.each (List.range 16) (fun s k => s.retestCores (Fin.ofNat 64 (16 * st + k)))
      (((s.each (List.range 256) (fun s k => s.exam (256 * st + k) false)).hallwayReturn st).setFld F.thermalStatusShutdown st 0 0)
  let s := s.each (List.range 256) (fun s k => s.finishRepairs (256 * st + k))
  let s := (s.countSpares st).hbmMode st 0
  if s.fld F.tutorSylStateActive st == 1 then ((s.restoreStores st).restoreBells st).checkResident st else s

/-- A stack returns to service at the end of a reset. One in FAULT does so where its stack reset found it there, and one that was shut down meanwhile stays (R401, R415, R455); a Tutor image that fails its check fails the stack (R462). -/
def State.returnStack (s : State) (st : Nat) (r : ResetReq) : State :=
  let base := r.domain.val == domBASE
  if s.pstate st == pFAULT && !r.faulted.getLsbD st then s
  else if !base && !s.tutorImageOk then s.failStack st 2
  else
    let s := if s.pstate st == pFAULT then (s.zeroFill st).setPstate [st] pACTIVE else s
    s.serveAgain st base

/-- The end of a start-up or a warm reset: failed stacks with their phases, and the duration. The bypass opens again where JOIN still stands (R330). -/
def State.finishModule (s : State) (failed : List (Nat × Nat)) (us : Nat) : State :=
  let bad := (failed.map (fun x => x.1)).dedup
  let good := [0, 1, 2, 3].filter (fun st => !bad.elem st)
  let s := s.each good State.serveStack
  let s := s.each failed (fun s x => s.failStack x.1 x.2)
  let s := s.each [0, 1, 2, 3, 4, 5] (fun s l => s.setFld F.hallwayStateLink l 0 0)
  let s := s.syllabusDefaults
  let s := s.setReg .proctorStartup 0 0 (7 + (good.map (fun st => 2 ^ st)).sum * 2 ^ 4 + (bad.map (fun st => 2 ^ st)).sum * 2 ^ 8)
  let s := s.setReg .proctorStartupTime 0 0 us
  let s := s.setFld F.proctorResetStatusWarm 0 0 0
  let s := s.each s.resets (fun s r => s.resetRecord r)
  ({ s with resets := [] }.openBypass).setAllRates

/-- What a start-up and a warm reset find of the stacks: HBM4 devices are identified, and a stack fails for a device that is rejected, for clusters that are all RETIRED, or for a Tutor image that fails its check; `given` are those whose rails or PLLs failed (R454, R456, R462). -/
def State.checkStacks (s : State) (given : List (Nat × Nat)) : State × List (Nat × Nat) :=
  let (s, rejected) := [0, 1, 2, 3].foldl (fun (w : State × List (Nat × Nat)) st =>
    let r := w.1.identifyHbm st
    (r.1, if r.2 then w.2 else w.2 ++ [(st, 4)])) (s, [])
  let retired := ([0, 1, 2, 3].filter (fun st => (List.range 16).all (fun k => s.fld F.clusterStateRetired (16 * st + k) == 1))).map (fun st => (st, 3))
  (s, (if s.tutorImageOk then given else [0, 1, 2, 3].map (fun st => (st, 2))) ++ retired ++ rejected)

/-- The end of a warm reset: phases 2 to 5, with the core self-test (R454, R456). -/
def State.warmDone (s : State) (given : List (Nat × Nat)) (us : Nat) : State :=
  let s := s.each (List.finRange 64) (fun s cl => s.retestCores cl)
  let (s, failed) := s.checkStacks given
  s.finishModule failed us

/-- STARTUP_DONE: start-up reaches DONE (R420, R436, R454 to R457). A port that has not yet begun to train does so (R457). -/
def startupDone (s : State) (failed : List (StackId × Fin 8)) (floorW us : Nat) : State :=
  let given := failed.map (fun x => (x.1.val, x.2.val))
  if !s.proctor.powered || s.proctor.recovery || s.started then s
  else if s.fld F.proctorResetStatusWarm == 1 then s.warmDone given us
  else
    let s := s.each [0, 1, 2, 3] (fun s st => s.setReg .thermalKth st 0 (Config.kth st).toNat)
    let s := s.each (List.range 64) State.mapCores
    let (s, failed) := s.checkStacks given
    let s := s.testChannels.finishModule failed us
    let s := (s.setFld F.powerFloorW 0 0 floorW).setEffective.setAllRates
    ((s.trainPort 0).trainPort 1).eventOther false .proctor 0 0x004

/-- RESET_COMPLETE: the reset that has run longest ends; a base-die reset has drained (R452, R454). -/
def resetComplete (s : State) : State :=
  match s.resets.find? (fun r => r.active && r.domain.val != domCOLD && (r.domain.val != domBASE || r.drained)) with
  | none => s
  | some r =>
    if r.domain.val == domWARM then s.warmDone [] ((s.now - r.start.toNat) / 1000)
    else
      let set := stackList r.stackSet.toNat
      let s := { s with resets := s.resets.filter (fun x => x != r) }
      let s := s.each set (fun s st => s.returnStack st r)
      (((s.showReset.resumeQueues set).setAllRates).resetRecord r).resumeRecess

/-! ## Input power (R454, R493) -/

/-- What the units of the module lose with their supply: everything but flash, fuses and repairs. -/
def State.dropSupply (s : State) : State :=
  (s.clearModule (s.keepRegs (fun n => flashRegs.elem n))).setReg .secHbmKeyGen 0 0 0

/-- The Corridor node closes its bypass, and the loops, the host ports and the Proctor stand as before power-on. -/
def State.dropControl (s : State) : State :=
  { s with
    corridor := { Corridor.init with bypassOpen := s.corridor.bypassOpen }.close
    loops := [], capTicks := 0, capSum := 0, coolTicks := 0, warmTicks := 0, hports := [], resets := []
    proctor := { Proctor.init with revoked := s.proctor.revoked, banks := s.proctor.banks, ageing := s.proctor.ageing } }

/-- A host port keeps what the host drives, PERST#. -/
def State.setPerst (s : State) (h : Nat) (perst : Bool) : State := s.setHPort h { HPort.init with perst := perst }

/-- INPUT_POWER_LOSS: every rail turns off. Flash, fuses and repairs remain; the bypass closes. -/
def inputPowerLoss (s : State) : State :=
  let t := (s.dropUpdate originModule).dropSupply.dropControl
  (t.setPerst 0 (s.hport 0).perst).setPerst 1 (s.hport 1).perst

/-- POWER_ON: the input rises through 48 V, and start-up begins from time 0; without power nothing was kept but flash, fuses and repairs. -/
def powerOn (s : State) : State :=
  if s.proctor.powered then s
  else
    let s := inputPowerLoss s
    { s with proctor := { s.proctor with powered := true } }.coldReset 0

/-! ## The commands -/

/-- TAG_UE (R426). -/
def execTagUe (sl : SliceId) (set : Nat) (way : Fin 16) (s : State) : Host.Outcome State Fault Refusal := .next (tagUe s sl.val set way)
/-- TUTOR_UE (R426). -/
def execTutorUe (st : StackId) (marker : Bool) (s : State) : Host.Outcome State Fault Refusal := .next (tutorUe s st.val marker)
/-- PROCTOR_FAULT (R426). -/
def execProctorFault (s : State) : Host.Outcome State Fault Refusal := .next (proctorFault s)
/-- RESET_TAKES_EFFECT (R448). -/
def execResetTakesEffect (s : State) : Host.Outcome State Fault Refusal := .next (resetTakesEffect s)
/-- BOND_DRAIN_END (R452). -/
def execBondDrainEnd (reads writes : List Nat) (s : State) : Host.Outcome State Fault Refusal := .next (bondDrainEnd s reads writes)
/-- RESET_COMPLETE (R454). -/
def execResetComplete (s : State) : Host.Outcome State Fault Refusal := .next (resetComplete s)
/-- POWER_ON (R454). -/
def execPowerOn (s : State) : Host.Outcome State Fault Refusal := .next (powerOn s)
/-- STARTUP_DONE (R454). -/
def execStartupDone (failed : List (StackId × Fin 8)) (floorW : BitVec 13) (us : BitVec 32) (s : State) : Host.Outcome State Fault Refusal :=
  .next (startupDone s failed floorW.toNat us.toNat)
/-- INPUT_POWER_LOSS (R493). -/
def execInputPowerLoss (s : State) : Host.Outcome State Fault Refusal := .next (inputPowerLoss s)

end Sys2Proof.Machine
end

