-- ==== Sys2Proof/Machine/Clock.lean ====
section
/-!
DEFINITION. A tick of common time (R333, R418, R420): what passes while no command is waiting.
-/
namespace Sys2Proof.Machine

/-- What the counters of R117 count in `n` cycles of a core: cycles of a running stage in which no thread is READY, and thread-cycles in WAIT_REG (only the data of an LDX are ever awaited) and in WAIT_QUEUE. -/
def countCycles (s : State) (c : CoreId) (n : Nat) : State :=
  let co := s.core c
  let inState (k : TState) : Nat := ((List.finRange 16).filter (fun (t : Fin 16) => (co.thread t).state == k)).length
  match co.stage with
  | none => s
  | some g =>
    if g.loading then s
    else
      let s := s.bump F.coreIssueIdleCount (coreInst c) 0 (if inState .ready == 0 then n else 0)
      (s.bump F.coreWaitMemCount (coreInst c) 0 (n * inState .waitReg)).bump F.coreWaitQueueCount (coreInst c) 0 (n * inState .waitQueue)

/-- The cores of a cluster count cycles while its clock runs: at FMAX MHz, 40 ns are FMAX / 25 cycles, and `cycles25` counts in 25ths (R418, R420). -/
def tickCluster (s : State) (cl : Nat) : State :=
  s.each [0, 1, 2, 3, 4, 5, 6, 7] (fun s k =>
    let c : CoreId := Fin.ofNat 512 (8 * cl + k)
    let before := (s.core c).cycles25
    let after := before + s.fld F.coreClockFmaxMhz (coreInst c)
    countCycles (s.setCore c { s.core c with cycles25 := after }) c (after / 25 - before / 25))

/-- Whether a virtual channel of a port has a message that may go but for its credit. -/
def FPort.starved (fp : FPort) (vc : Fin 4) : Bool :=
  match fp.txq.find? (fun x => x.1 == vc && (fp.rollDone || x.2.isRollCall)) with
  | some (_, m) => decide (fp.credit.getD vc.val 0 < m.slots)
  | none => false

/-- FABRIC.CREDIT_STALL of a port that is UP counts the 40 uncore cycles of a tick, at 1.0 GHz, in which a virtual channel is starved (R312, R418). -/
def tickPort (s : State) (p : Nat) : State :=
  if p < 16 && s.link p == lUP && !s.outOfService (stackOfPort p) then
    s.each [0, 1, 2, 3] (fun s (vc : Fin 4) => if (s.port p).starved vc then s.bump F.fabricCreditStallCount p vc.val 40 else s)
  else s

/-- How far common time advances in one tick of 40 ns: a counter ahead of the master runs at half rate, one behind gains 1 ns each 10 µs, which is 100 ppm (R333). -/
def State.tickStep (s : State) : Nat :=
  if s.corridor.slew < 0 then 20 else if 0 < s.corridor.slew ∧ s.reg .corridorTime % 10000 < 40 then 41 else 40

/-- MARKER.WITHHELD_US counts the time for which a stack's Marker withholds credit (R258, R274). -/
def tickWithhold (d : Nat) (s : State) (st : Nat) : State :=
  let k : StackId := Fin.ofNat 4 st
  if s.fld F.markerStateWithhold st == 1 then
    let ns := (s.marker k).withheldNs
    (s.setMarker k { s.marker k with withheldNs := ns + d }).bump F.markerWithheldUsCount st 0 ((ns + d) / 1000 - ns / 1000)
  else s

/-- The Tutor tests the stores of a core before its cluster runs another part (R436). -/
def State.mustTest (s : State) (c : CoreId) : State := s.setCore c { s.core c with testPending := true }

/-- A sector of a hold buffer entry is found uncorrectable: it is poisoned (R423). -/
def State.holdError (s : State) (n a : Nat) : State :=
  match (s.slice n).findHold (a / 128) with
  | some h =>
    if !hasSector h.valid a || homeSlice a != n then s
    else
      let clean := !hasSector h.dirty a && !NatSet.has s.poison (a / 32)
      let s := if clean then { s with hidden := NatSet.insert s.hidden (a / 32) } else s
      (s.setPoison a true).logError .slice n deferred 0x006 (addrLocal a) 2
  | none => s

/-- Symbols go wrong in the copy of a sector that its home slice holds (R209): in the scratch, a line or the hold buffer. -/
def State.arrayUpset (s : State) (a symbols : Nat) : State :=
  if regionOf a == .scratch || (regionOf a == .hbm && (s.slice (homeSlice a)).holds a) then
    { s with arrayErr := Tab.set 0 s.arrayErr (a / 32) (Tab.get 0 s.arrayErr (a / 32) + symbols) }
  else s

/-- Symbols go wrong in the copy of a sector in HBM4 (R223). -/
def State.hbmUpset (s : State) (a symbols : Nat) : State :=
  if regionOf a == .hbm then { s with hbmErr := Tab.set 0 s.hbmErr (a / 32) (Tab.get 0 s.hbmErr (a / 32) + symbols) } else s

/-- What comes of itself takes effect (log entry 45): symbols that go wrong in a sector (R209, R223), a word that is corrected on a lane of a bond port (R431), ECC of a core store row, a Slate row, a function table or an instruction store (R89, R117, R118), symbols corrected on a port (R312), a transpose buffer, a hold buffer sector or a work buffer that is found uncorrectable (R423), an HBM4 device stack that begins or ceases to report high temperature (R221), and a diagnostic write to the window of a core on which no stage runs (R87). A store row or Slate row is named by the core's physical position or logical number as its own state is. -/
def State.strike (s : State) (u : Config.Upset) : State :=
  match u with
  | .array a k => s.arrayUpset a k
  | .hbm a k => s.hbmUpset a k
  | .storeRow c row bad =>
    let c : CoreId := Fin.ofNat 512 c
    let off := row % 16384 * 128
    if bad then (((s.setRowPoison c off true).mustTest c).bumpSat F.coreEccUncorrectedCount (coreInst c) 0 1).logError .core (coreInst c) uncorrected 0x002 off 0
    else s.bumpSat F.coreEccCorrectedCount (coreInst c) 0 1
  | .slateRow c row bad =>
    let c : CoreId := Fin.ofNat 512 c
    if bad then
      let co := s.core c
      (s.setCore c { co with slateBad := NatSet.insert co.slateBad (row % 32), testPending := true }).bumpSat F.coreEccUncorrectedCount (coreInst c) 0 1
    else s.bumpSat F.coreEccCorrectedCount (coreInst c) 0 1
  | .table c k =>
    let c : CoreId := Fin.ofNat 512 c
    let co := s.core c
    s.setCore c { co with tableBad := NatSet.insert co.tableBad k, testPending := true }
  | .istore cl => s.bumpSat F.clusterIstoreCorrectedCount (cl % 64) 0 1
  | .fec p n => if s.link (p % 16) == lUP then s.bump F.fabricFecCorrectedCount (p % 16) 0 n else s
  | .transpose c =>
    let c : CoreId := Fin.ofNat 512 c
    s.setCore c { s.core c with transposeBad := true, testPending := true }
  | .hold n a => s.holdError (n % 1024) (a / 32 * 32)
  | .work st coll u =>
    let a := s.assembly (st % 4)
    s.setAssembly (st % 4) { a with insts := a.insts.map (fun i => if i.coll == coll then { i with poisoned := NatSet.insert i.poisoned u } else i) }
  | .bondWord n toArray group lane => s.bondWord (n % 1024) (toArray, group % 36, lane % 32)
  | .window a data => (s.windowStore a data).getD s
  | .hot st isHot => s.setFld F.hbmStateHotRefresh (st % 32) 0 (bit isHot)

/-- What comes of itself in a tick: a free list (log entry 45). -/
def State.strikes (s : State) : State := ({ s with freeNext := s.freeNext + 1 }).each (Config.upsets s.freeNext) State.strike

/-- Time passes: common time advances by one 25 MHz period of 40 ns (R333, R418), the cores of each cluster whose clock runs count their cycles, and ports count the cycles in which they lack credit. -/
def passTime (s : State) : State :=
  let s := s.each s.clusters (fun s e => if e.2.pll = .on then tickCluster s e.1 else s)
  let s := s.each s.ports (fun s e => tickPort s e.1)
  let d := s.tickStep
  let s := s.each [0, 1, 2, 3] (tickWithhold d)
  let slew := if d < 40 then min 0 (s.corridor.slew + 20) else if 40 < d then s.corridor.slew - 1 else s.corridor.slew
  { s.setReg .corridorTime 0 0 (s.reg .corridorTime + d) with corridor := { s.corridor with slew := slew } }

/-- The phase of a start-up sequence after `ns`, from the boot of the Proctor on: each lasts as long as R454 allows it (R454; DESIGN CHOICE, log entry 51). -/
def coldPhase (ns : Nat) : Nat :=
  if ns < 45000000 then 1 else if ns < 55000000 then 2 else if ns < 60000000 then 3 else if ns < 95000000 then 4 else if ns < 155000000 then 5 else 6
/-- The phase of a module warm reset after `ns` (R454). -/
def warmPhase (ns : Nat) : Nat :=
  if ns < 10000000 then 2 else if ns < 15000000 then 3 else if ns < 42000000 then 4 else 5

/-- STARTUP shows the phase that a start-up sequence or a warm reset has reached; in recovery the module stays in phase 1 (R454, R463). -/
def State.showPhase (s : State) : State :=
  match s.resets.find? (fun r => r.active && r.domain.val ≤ domWARM) with
  | some r =>
    let ns := s.now - r.start.toNat
    if s.proctor.recovery then s else s.setFld F.proctorStartupPhase 0 0 (if r.domain.val == domCOLD then coldPhase ns else warmPhase ns)
  | none => s

/-- Start-up goes on: its phase, and at the 45 ms mark the ports whose PERST# is deasserted begin to train (R454, R457). `was` is the state before time passed. -/
def State.startOn (s was : State) : State :=
  let s := s.showPhase
  if !was.firmwareRuns && s.firmwareRuns then (s.trainPort 0).trainPort 1 else s

/-- A tick: errors and reports that no command brings, what waits at the queues, and 40 ns of time. A module without power stands still (R493). -/
def tick (s : State) : State := if s.proctor.powered then (passTime s.strikes.serveQueues).startOn s else s

end Sys2Proof.Machine
end

