-- ==== Sys2Proof/Machine/Security.lean ====
section
/-!
DEFINITION. Security: Syllabus keys, measurements, the SPDM responder, and IDE on the host ports (R461 to R472).
-/
namespace Sys2Proof.Machine

/-! ## Syllabus keys (R468) -/

/-- Key states: EMPTY, ACTIVE, REVOKED. -/
abbrev keyACTIVE : Nat := 1
/-- REVOKED. -/
abbrev keyREVOKED : Nat := 2

/-- The SHA-384 digest of a 96-byte key. -/
def keyDigest (key : Nat) : BitVec 384 := Config.sha384 (toBytes 96 key)

/-- The key command that the Proctor serves next: the first that waits, unless an earlier LOAD or ACTIVATE does, or an activation runs. -/
def State.keyTurn (s : State) : Option KeyCmd :=
  match s.proctor.keyCmds with
  | [] => none
  | k :: _ =>
    let first := match s.sylNext with | some (_, t) => decide (k.order < t.order) | none => true
    if first && s.activation.isNone then some k else none

/-- The end of a key command: RESULT, and BUSY while others wait. -/
def State.keyDone (s : State) (result : Nat) : State :=
  let rest := s.proctor.keyCmds.tail
  let s := { s with proctor := { s.proctor with keyCmds := rest } }
  (s.setFld F.secKeyStatusResult 0 0 result).setFld F.secKeyStatusBusy 0 0 (bit (!rest.isEmpty))

/-- The KEY_SLOT entry of an accepted key command (R482). -/
def State.keyEntry (s : State) (k : KeyCmd) (digest : BitVec 384) : State :=
  s.diary k.origin .keySlot (k.slot.toNat + k.op.toNat * 2 ^ 8 + k.parts.toNat * 2 ^ 12) (bits digest.toNat 0 64)

/-- KEY_INSTALL: the slot becomes ACTIVE with the staged key and PARTS, unless the key is bad. -/
def keyInstall (s : State) (slot parts : BitVec 4) : State :=
  match s.keyTurn with
  | some k =>
    if k.op == 1 && k.slot == slot && k.parts == parts then
      let key := s.reg .secKeyStage
      let d := keyDigest key
      if Config.onCurve (BitVec.ofNat 768 key) && !s.proctor.revoked.elem d then
        let s := (s.setReg .secKey 0 slot.toNat (keyACTIVE + parts.toNat * 2 ^ 4)).setReg .secKeyPub 0 slot.toNat key
        (s.keyEntry k d).keyDone 0
      else s.keyDone 2
    else s
  | none => s

/-- KEY_REVOKE: the slot becomes REVOKED, its key's digest joins the 64 most recent, and images that name the slot leave the loaded list. -/
def keyRevoke (s : State) (slot : BitVec 4) : State :=
  match s.keyTurn with
  | some k =>
    if k.op == 2 && k.slot == slot then
      if s.fld F.secKeyState 0 slot.toNat == keyACTIVE then
        let d := keyDigest (s.reg .secKeyPub 0 slot.toNat)
        let s := s.setFld F.secKeyState 0 slot.toNat keyREVOKED
        let s := { s with
          images := s.images.filter (fun i => i.keyId != slot.toNat)
          proctor := { s.proctor with revoked := (s.proctor.revoked ++ [d]).drop (s.proctor.revoked.length - 63) } }
        (s.keyEntry k d).keyDone 0
      else s.keyDone 1
    else s
  | none => s

/-- A write of KEY_CMD: the command waits in line with LOAD and ACTIVATE commands. -/
def State.keyCommand (s : State) (origin v : Nat) : State :=
  let k : KeyCmd := ⟨BitVec.ofNat 4 (bits v 0 4), BitVec.ofNat 2 (bits v 4 2), BitVec.ofNat 4 (bits v 8 4), origin, s.lessonNext⟩
  let s := { s with lessonNext := s.lessonNext + 1, proctor := { s.proctor with keyCmds := s.proctor.keyCmds ++ [k] } }
  s.setFld F.secKeyStatusBusy 0 0 1

/-- A write of 1 to FW_SVN_COMMIT raises MIN to CURRENT; none where it is refused (R464). -/
def State.svnCommit (s : State) : Option State :=
  let cur := s.fld F.secFwSvnCurrent
  if s.fld F.secFwSvnMin < cur then some (s.setFld F.secFwSvnMin 0 0 cur) else none

/-! ## Measurements (R462, R467) -/

/-- Measurements 1 to 3: the boot ROM, and the Proctor and Tutor images of the running bundle. -/
def State.firmwareDigests (s : State) : List (BitVec 384) :=
  let im := Config.bundleImages (s.bank (s.fld F.proctorBootActiveBank))
  [Config.sha384 Config.bootRom, Config.sha384 im.1, Config.sha384 im.2]

/-- Measurement block `k`, 1 to 9. -/
def State.measurement (s : State) (k : Nat) : BitVec 384 :=
  if k ≤ 3 then s.firmwareDigests.getD (k - 1) 0
  else if k == 4 then
    Config.sha384 (Config.measuredBytes 4 [s.fld F.secFwSvnCurrent, s.reg .proctorFwVersion, s.fld F.proctorBootActiveBank, s.fld F.secFwSvnMin])
  else if k == 5 then
    Config.sha384 (Config.measuredBytes 5 ([s.reg .secPolicy, s.reg .secSylMinSvn] ++ (List.range 16).flatMap (fun j => [s.reg .secKey 0 j, s.reg .secKeyPub 0 j])))
  else if s.fld F.tutorSylStateActive (k - 6) == 1 then (s.tutor (k - 6)).digest else 0

/-! ## The SPDM responder (R466) -/

/-- Codes of the responder's answers: ERROR. The numbers are those of SPDM 1.3 (PRESUMED, log entry 31). -/
abbrev aERROR : Nat := 0x7F
/-- The answer to GET_VERSION. -/
abbrev aVERSION : Nat := 0x04
/-- The answer to GET_CAPABILITIES. -/
abbrev aCAPABILITIES : Nat := 0x61
/-- The answer to NEGOTIATE_ALGORITHMS. -/
abbrev aALGORITHMS : Nat := 0x63
/-- The answer to GET_DIGESTS. -/
abbrev aDIGESTS : Nat := 0x01
/-- The answer to GET_CERTIFICATE. -/
abbrev aCERTIFICATE : Nat := 0x02
/-- The answer to CHALLENGE. -/
abbrev aCHALLENGE : Nat := 0x03
/-- The answer to GET_MEASUREMENTS. -/
abbrev aMEASUREMENTS : Nat := 0x60
/-- The answer to KEY_EXCHANGE. -/
abbrev aKEY_EXCHANGE : Nat := 0x64
/-- The answer to FINISH. -/
abbrev aFINISH : Nat := 0x65
/-- The answer to KEY_UPDATE. -/
abbrev aKEY_UPDATE : Nat := 0x69
/-- The answer to HEARTBEAT. -/
abbrev aHEARTBEAT : Nat := 0x68
/-- The answer to END_SESSION. -/
abbrev aEND_SESSION : Nat := 0x6C

/-- Whether the management port answers: it has power and a dynamic address (R476). -/
def State.i3cUp (s : State) : Bool := s.proctor.powered && s.fld F.proctorI3cDynAddr != 0

/-- Whether a transport reaches the responder; on a link, where a session is being set up or is up. In recovery the ROM answers no SPDM (R463, R466, R470). -/
def State.spdmOpen (s : State) : Transport → Bool
  | .i3c => s.i3cUp && !s.proctor.recovery
  | .doe h => s.hostLink h.val == hUP && !s.proctor.recovery
  | .link p => (s.link p.val == lUP || s.link p.val == lRETRAINING) && ((s.port p.val).session = .required || (s.port p.val).session = .up)

/-- Whether the module is the responder on a transport: on a link, the end with the smaller SERIAL asks (R470). -/
def State.responds (s : State) : Transport → Bool
  | .link p => decide ((s.port p.val).partnerSerial.toNat < s.reg .proctorSerial)
  | _ => true

/-- Answers on a transport, where the module is the responder; on a link the answer leaves in fragments (R470). -/
def State.spdmAnswer (s : State) (t : Transport) (code : Nat) (payload : List Byte) : State :=
  if s.responds t then
    match t with
    | .link p => s.sendSpdm p.val code payload
    | .i3c => s.mctp (.spdm t code payload)
    | _ => s.emit (.spdm t code payload)
  else s

/-- A request that changes nothing. -/
def State.spdmReply (s : State) (t : Transport) (code : Nat) (payload : List Byte) : State :=
  if s.spdmOpen t then s.spdmAnswer t code payload else s

/-- The session of a transport. -/
def State.spdmSession (s : State) (t : Transport) : Option SpdmSession := s.proctor.sessions.find? (fun x => x.transport == t)
/-- Replaces the session of a transport. -/
def State.setSession (s : State) (t : Transport) (v : Option SpdmSession) : State :=
  { s with proctor := { s.proctor with sessions := s.proctor.sessions.filter (fun x => x.transport != t) ++ v.toList } }
/-- Whether the session of a transport has been set up. -/
def State.secured (s : State) (t : Transport) : Bool := s.proctor.sessions.any (fun x => x.transport == t && x.finished)

/-- The certificate chain of slot 0. -/
def State.chain (s : State) : List Byte := Config.certChain s.firmwareDigests

/-- GET_CERTIFICATE: slot 0 only. -/
def getCertificate (s : State) (t : Transport) (slot : BitVec 8) : State :=
  if slot = 0 then s.spdmReply t aCERTIFICATE s.chain else s.spdmReply t aERROR []

/-- CHALLENGE: a signature under the Alias key over the chain, the measurements of the firmware and the nonce. -/
def challenge (s : State) (t : Transport) (nonce : BitVec 256) : State :=
  let d := Config.sha384 (toBytes 48 (Config.sha384 s.chain).toNat ++ toBytes 32 nonce.toNat)
  s.spdmReply t aCHALLENGE (Config.aliasSign s.firmwareDigests d)

/-- GET_MEASUREMENTS: block 1 to 9 as 48 bytes; index 0 asks how many there are and 0xFF for all of them. -/
def getMeasurements (s : State) (t : Transport) (index : BitVec 8) : State :=
  let k := index.toNat
  let block (k : Nat) : List Byte := toBytes 48 (s.measurement k).toNat
  if k == 0 then s.spdmReply t aMEASUREMENTS [9]
  else if k ≤ 9 then s.spdmReply t aMEASUREMENTS (block k)
  else if k == 0xFF then s.spdmReply t aMEASUREMENTS ((List.range 9).flatMap (fun j => block (j + 1)))
  else s.spdmReply t aERROR []

/-- KEY_EXCHANGE starts a session; a chain that does not verify is refused. -/
def keyExchange (s : State) (t : Transport) (chainOk : Bool) : State :=
  if !s.spdmOpen t then s
  else if chainOk then (s.setSession t (some ⟨t, false⟩)).spdmAnswer t aKEY_EXCHANGE []
  else s.spdmAnswer t aERROR []

/-- FINISH completes the handshake of a session that KEY_EXCHANGE has started; on a link that waits for it, the session is up. -/
def finishSession (s : State) (t : Transport) (ok : Bool) : State :=
  if !s.spdmOpen t then s
  else match s.spdmSession t with
  | some x =>
    if x.finished then s.spdmAnswer t aERROR []
    else if !ok then (s.setSession t none).spdmAnswer t aERROR []
    else
      let s := (s.setSession t (some ⟨t, true⟩)).spdmAnswer t aFINISH []
      match t with
      | .link p => if (s.port p.val).session = .required then s.sessionUp p.val else s
      | _ => s
  | none => s.spdmAnswer t aERROR []

/-- KEY_UPDATE: answered in a session. On a link the partner's direction has a new key in its idle slot (R288, R470). -/
def keyUpdate (s : State) (t : Transport) : State :=
  if !s.spdmOpen t then s
  else if !s.secured t then s.spdmAnswer t aERROR []
  else
    let s := s.spdmAnswer t aKEY_UPDATE []
    match t with
    | .link p => s.installRx p.val
    | _ => s

/-- HEARTBEAT: answered in a session. -/
def heartbeat (s : State) (t : Transport) : State :=
  if s.secured t then s.spdmReply t aHEARTBEAT [] else s.spdmReply t aERROR []

/-- END_SESSION: the session ends; on a link messages wait for another. -/
def endSession (s : State) (t : Transport) : State :=
  if !s.spdmOpen t then s
  else if !s.secured t then s.spdmAnswer t aERROR []
  else
    let s := (s.setSession t none).spdmAnswer t aEND_SESSION []
    match t with
    | .link p => (s.setPort p.val { s.port p.val with session := .required }).setFld F.fabricStateEncrypted p.val 0 0
    | _ => s

/-- A whole SPDM message that answers the module's own request on a link: the next request follows, an answered FINISH sets the session up, and a chain that does not verify, or an ERROR, ends the exchange, so that the port's time runs out (R470). A message that is a request acts by its own row. -/
def State.spdmAnswered (s : State) (p : Nat) (b : List Byte) : State :=
  let asked := (s.port p).asked
  let code := (b.getD 1 0).toNat
  if asked == 0 then s
  else if code == aERROR then s.setPort p { s.port p with asked := 0 }
  else if code + 0x80 != asked then s
  else
    let s := s.setPort p { s.port p with asked := 0 }
    if asked == rFINISH then
      let s := s.setSession (.link (Fin.ofNat 16 p)) (some ⟨.link (Fin.ofNat 16 p), true⟩)
      if (s.port p).session = .required then s.sessionUp p else s
    else if asked == rGET_CERTIFICATE && !Config.chainVerifies (b.drop 4) then s
    else match nextRequest asked with | some r => s.askSpdm p r | none => s

/-- SPDM: a fragment of a message of the partner is kept until all have come (R470). -/
def spdmFragment (s : State) (p : Nat) (frag nfrag : Nat) (data : List Byte) : State :=
  if s.spdmOpen (.link (Fin.ofNat 16 p)) && frag < nfrag && data.length ≤ 232 then
    let fp := s.port p
    let parts := fp.spdmParts.filter (fun x => x.1 != frag) ++ [(frag, data)]
    let s := s.setPort p { fp with spdmParts := if parts.length ≥ nfrag then [] else parts }
    if parts.length ≥ nfrag then s.spdmAnswered p ((List.range nfrag).flatMap (fun k => (parts.filter (fun x => x.1 == k)).flatMap (fun x => x.2))) else s
  else s

/-! ## IDE on host ports (R471) -/

/-- K_SET_GO within an SPDM session on the port's DOE mailbox: the stream runs on that key set. -/
def kSetGo (s : State) (h : HostPort) (keySet : Bool) : State :=
  if s.hostLink h.val == hUP && s.secured (.doe h) then
    let closed := !s.portOpen h.val
    let was := s.fld F.hostStatusIde h.val
    let s := s.setHPort h.val { s.hport h.val with keySets := [keySet] }
    if was == 1 then s
    else
      let s := (s.setFld F.hostStatusIde h.val 0 1).diary (requesterCode (portRequester h)) .ide (h.val + 2 ^ 8) 0
      if closed then s.resumePort h else s
  else s

/-- IDE_INTEGRITY_FAILURE: the stream is active no more; a SECURITY event and an IDE entry tell of it. -/
def ideIntegrityFailure (s : State) (h : HostPort) : State :=
  if s.fld F.hostStatusIde h.val == 1 then
    let s := (s.setFld F.hostStatusIde h.val 0 0).setHPort h.val { s.hport h.val with keySets := [] }
    (s.eventOther true .host h.val 0x008).diary originModule .ide h.val 0
  else s

/-! ## The commands -/

/-- KEY_INSTALL (R468). -/
def execKeyInstall (slot parts : BitVec 4) (s : State) : Host.Outcome State Fault Refusal := .next (keyInstall s slot parts)
/-- KEY_REVOKE (R468). -/
def execKeyRevoke (slot : BitVec 4) (s : State) : Host.Outcome State Fault Refusal := .next (keyRevoke s slot)
/-- GET_VERSION (R466): SPDM 1.3. -/
def execGetVersion (t : Transport) (s : State) : Host.Outcome State Fault Refusal := .next (s.spdmReply t aVERSION [0x13])
/-- What CAPABILITIES says after its header: no timing of its own, the flags CERT, CHAL, MEAS with signature, ENCRYPT, MAC, MUT_AUTH, KEY_EX, HBEAT, KEY_UPD and ALIAS_CERT, and messages of up to 4,096 bytes (R466; PRESUMED for the layout, log entry 31). -/
def spdmCapabilities : List Byte := [0, 0, 0, 0] ++ toBytes 4 (0x6 + 0x10 + 0xC0 + 0x300 + 0x6000 + 0x40000) ++ toBytes 4 4096 ++ toBytes 4 4096
/-- What ALGORITHMS says after its header: SHA-384 and ECDSA P-384, DHE over secp384r1, AES-256-GCM (R466; PRESUMED for the layout, log entry 31). -/
def spdmAlgorithms : List Byte :=
  toBytes 2 52 ++ [1, 2] ++ toBytes 4 4 ++ toBytes 4 0x80 ++ toBytes 4 2 ++ List.replicate 16 0
    ++ [2, 0x20] ++ toBytes 2 0x10 ++ [3, 0x20] ++ toBytes 2 2 ++ [4, 0x20] ++ toBytes 2 0x80 ++ [5, 0x20] ++ toBytes 2 1

/-- GET_CAPABILITIES (R466). -/
def execGetCapabilities (t : Transport) (s : State) : Host.Outcome State Fault Refusal := .next (s.spdmReply t aCAPABILITIES spdmCapabilities)
/-- NEGOTIATE_ALGORITHMS (R466). -/
def execNegotiateAlgorithms (t : Transport) (s : State) : Host.Outcome State Fault Refusal := .next (s.spdmReply t aALGORITHMS spdmAlgorithms)
/-- GET_DIGESTS (R466): the digest of slot 0's chain. -/
def execGetDigests (t : Transport) (s : State) : Host.Outcome State Fault Refusal :=
  .next (s.spdmReply t aDIGESTS (toBytes 48 (Config.sha384 s.chain).toNat))
/-- GET_CERTIFICATE (R466). -/
def execGetCertificate (t : Transport) (slot : BitVec 8) (s : State) : Host.Outcome State Fault Refusal := .next (getCertificate s t slot)
/-- CHALLENGE (R466). -/
def execChallenge (t : Transport) (nonce : BitVec 256) (s : State) : Host.Outcome State Fault Refusal := .next (challenge s t nonce)
/-- GET_MEASUREMENTS (R467). -/
def execGetMeasurements (t : Transport) (index : BitVec 8) (s : State) : Host.Outcome State Fault Refusal := .next (getMeasurements s t index)
/-- KEY_EXCHANGE (R466). -/
def execKeyExchange (t : Transport) (chainOk : Bool) (s : State) : Host.Outcome State Fault Refusal := .next (keyExchange s t chainOk)
/-- FINISH (R466). -/
def execFinish (t : Transport) (ok : Bool) (s : State) : Host.Outcome State Fault Refusal := .next (finishSession s t ok)
/-- KEY_UPDATE (R466). -/
def execKeyUpdate (t : Transport) (s : State) : Host.Outcome State Fault Refusal := .next (keyUpdate s t)
/-- HEARTBEAT (R466). -/
def execHeartbeat (t : Transport) (s : State) : Host.Outcome State Fault Refusal := .next (heartbeat s t)
/-- END_SESSION (R466). -/
def execEndSession (t : Transport) (s : State) : Host.Outcome State Fault Refusal := .next (endSession s t)
/-- SPDM (R470). -/
def execSpdm (p : Port) (frag nfrag : Nat) (bytes : List Byte) (s : State) : Host.Outcome State Fault Refusal := .next (spdmFragment s p.val frag nfrag bytes)
/-- K_SET_GO (R471). -/
def execKSetGo (h : HostPort) (keySet : Bool) (s : State) : Host.Outcome State Fault Refusal := .next (kSetGo s h keySet)
/-- IDE_INTEGRITY_FAILURE (R471). -/
def execIdeIntegrityFailure (h : HostPort) (s : State) : Host.Outcome State Fault Refusal := .next (ideIntegrityFailure s h)

end Sys2Proof.Machine
end

