-- ==== Sys2Proof/Machine/Registers.lean ====
section
/-!
DEFINITION. Register accesses whole: what a read returns and clears, what a write does, halves, refusals, and the Diary entries of accepted writes (R6 to R10, R24 to R27, R474, R475, R482, R486, R503).
-/
namespace Sys2Proof.Machine

/-! ## Reading (R6, R503) -/

/-- The code of a thread state (R92). -/
def TState.code (t : TState) : Nat := t.ctorIdx

/-- The enabled core behind a CORE block instance; the spare slot has none (R23). -/
def coreOfInst (i : Nat) : Option CoreId := if i % 9 < 8 then some (Fin.ofNat 512 (8 * (i / 9) + i % 9)) else none

/-- `n` fields of `w` bits from their values. -/
def joinFields (w n : Nat) (f : Nat → Nat) : Nat := ((List.range n).map (fun k => f k % 2 ^ w * 2 ^ (w * k))).sum

/-- The number that a requester's ENTRY_INDEX or SEAL_INDEX holds (R486). -/
def State.diaryIndex (s : State) (who : Requester) (isSeal : Bool) : Nat := Tab.get 0 s.proctor.indexes (2 * requesterCode who + bit isSeal)
/-- Entry `n` of the Diary; none where it has not been written or has been overwritten (R483, R486). -/
def State.diaryAt (s : State) (n : Nat) : Option (List Byte) :=
  match Tab.get [] s.proctor.diary (n % 65536) with
  | [] => none
  | b => if ofBytes ((b.drop 8).take 4) == n then some b else none
/-- Seal `n` (R485, R486). -/
def State.sealAt (s : State) (n : Nat) : Option (List Byte) :=
  let age := (s.reg .diarySealTail + 2 ^ 32 - n) % 2 ^ 32
  match Tab.get [] s.proctor.seals (n % 4096) with
  | [] => none
  | b => if 1 ≤ age && age ≤ 4096 then some b else none

/-- What a register holds for a reader: the register file, with the fields that show the state of a unit (R71, R88, R92, R117, R118, R182, R342, R362, R371, R486). -/
def State.view (s : State) (who : Requester) (n : RegName) (i j : Nat) : Nat :=
  let r := s.reg n i j
  match n with
  | .coreStatus => match coreOfInst i with | some c => putBits r 7 1 (bit (s.core c).stage.isSome) | none => r
  | .coreClock => putBits r 32 12 (if s.fld F.clusterStateClockOn (i / 9) == 1 then bits r 16 12 else 0)
  | .coreThreadState => match coreOfInst i with | some c => joinFields 4 16 (fun k => ((s.core c).thread k).state.code) | none => 0
  | .coreSlotOwner => match coreOfInst i with | some c => joinFields 8 8 (fun k => (Tab.get 0 ((s.takeReleases c).core c).owner (8 * j + k)).toNat) | none => 0
  | .coreSlateMap => match coreOfInst i with | some c => joinFields 8 8 (fun k => (Tab.get 0 (s.core c).slateMap (8 * j + k)).toNat) | none => 0
  | .clusterState => putBits r 2 1 (bit (s.cluster i).run.isSome)
  | .tutorLessonLoad =>
    let waiting := ((List.range 16).map (fun k => (s.cluster (16 * i + k)).waiting.length)).sum
    let running := ((List.range 16).filter (fun k => (s.cluster (16 * i + k)).run.isSome)).length
    waiting % 2 ^ 16 + running * 2 ^ 16
  | .hostStatus => putBits r 13 1 (s.fld F.hostCtrlPrimary i)
  | .hostFlush => s.reg .hostLinkEpoch i
  | .corridorNodes => s.recentMembers.length % 64
  | .diaryEntryIndex => s.diaryIndex who false
  | .diarySealIndex => s.diaryIndex who true
  | .diaryEntryStatus => bit (s.diaryAt (s.diaryIndex who false)).isSome
  | .diarySealStatus => bit (s.sealAt (s.diaryIndex who true)).isSome
  | .diaryEntry => ofBytes ((s.diaryAt (s.diaryIndex who false)).getD [])
  | .diarySeal => ofBytes ((s.sealAt (s.diaryIndex who true)).getD [])
  | _ => r

/-- Clears the fields of one access code in a value. -/
def clearFields (fs : List FieldDesc) (a : Access) (v : Nat) : Nat :=
  fs.foldl (fun v f => if f.access == a then putBits v f.lo f.width 0 else v) v

/-- The value that a read of a whole register returns: WO fields read 0 (R6). -/
def State.readWhole (s : State) (who : Requester) (p : Place) : Nat := clearFields p.name.desc.fields .wo (s.view who p.name p.inst p.idx)

/-- A read of bits [lo+w-1:lo] of a register clears its RC fields there to their reset values (R6). -/
def State.clearRc (s : State) (p : Place) (lo w : Nat) : State :=
  let d := p.name.desc
  let fs := d.fields.filter (fun f => f.access == .rc && lo ≤ f.lo && f.lo < lo + w)
  s.each fs (fun s f => s.setReg p.name p.inst p.idx (putBits (s.reg p.name p.inst p.idx) f.lo f.width (bits d.reset f.lo f.width)))

/-- A register read's outcome: the state, the value, and whether the read was accepted. -/
abbrev ReadResult := State × Nat × Bool

/-- Whether the place that an access names answers a requester and may be read by it. -/
def State.readable (s : State) (who : Requester) (p : Place) : Bool := s.answers who p.name.block p.inst && s.mayRead who p

/-- A naturally aligned 32-bit read (R8, R24, R27, R475, R503). -/
def State.read32 (s : State) (who : Requester) (off : Nat) : ReadResult :=
  match placeAt off with
  | some p =>
    if s.readable who p then
      (s.clearRc p (32 * p.part) 32, bits (s.readWhole who p) (32 * p.part) 32, true)
    else (s.accessError who off, 0, false)
  | none => (s.accessError who off, 0, false)

/-- The 64-bit register that stands at an offset, if one does (R503). -/
def wideAt (off : Nat) : Option Place := (placeAt off).filter (fun p => p.wide && p.part == 0)

/-- A register read (R8, R503). -/
def State.readReg (s : State) (who : Requester) (off size : Nat) : ReadResult :=
  if !aligned off size then (s.accessError who off, 0, false)
  else if size == 4 then s.read32 who off
  else match wideAt off with
  | some p => if s.readable who p then (s.clearRc p 0 64, s.readWhole who p, true) else (s.accessError who off, 0, false)
  | none =>
    let (s, lo, a) := s.read32 who off
    let (s, hi, b) := s.read32 who (off + 4)
    (s, lo + hi * 2 ^ 32, a && b)

/-! ## Writing a register (R6, R7, R10) -/

/-- Whether a field takes a value (R10): its reserved and undefined encodings, and values that a chapter refuses. -/
def State.fieldTakes (s : State) (n : RegName) (lo v : Nat) : Bool :=
  match n, lo with
  | .hostLinkHold, 0 => 1 ≤ v && v ≤ 60000
  | .tutorJanitorBond, 0 => 60 ≤ v && v ≤ 86400
  | .tutorJanitorHbm, 0 => 3600 ≤ v && v ≤ 604800
  | .tutorQuizCtrl, 16 => 60 ≤ v && v ≤ 3600
  | .queueSizes, _ => 4 ≤ v && v ≤ 16
  | .queueStepSize, 0 => 4 ≤ v && v ≤ 16
  | .markerLr, 0 => hpNonneg (decodeFp32 v)
  | .markerClip, 0 => (match decodeFp32 v with | .inf neg => !neg | x => hpPos x)
  | .secSylMinSvn, 0 => s.reg .secSylMinSvn ≤ v
  | _, _ => true

/-- The part of a value that a write of a place gives: where it starts in the register, and how wide it is. -/
def Place.slice (p : Place) : Nat × Nat := if p.wide then (0, 64) else (32 * p.part, 32)

/-- A write by the access codes alone: the new value, and whether every field took its part. A register wider than 64 bits has one field, of which each part is written alone. -/
def State.writeFields (s : State) (p : Place) (v : Nat) : Nat × Bool :=
  let d := p.name.desc
  let old := s.reg p.name p.inst p.idx
  if d.width > 64 then (if d.fields.any (fun f => f.access == .rw || f.access == .wo) then putBits old (32 * p.part) 32 v else old, true)
  else
    d.fields.foldl (fun (w : Nat × Bool) f =>
      let x := bits v f.lo f.width
      match f.access with
      | .rw | .wo => if s.fieldTakes p.name f.lo x then (putBits w.1 f.lo f.width x, w.2) else (w.1, false)
      | .w1c => (putBits w.1 f.lo f.width (bits w.1 f.lo f.width &&& (2 ^ f.width - 1 - x)), w.2)
      | .w1s => (putBits w.1 f.lo f.width (bits w.1 f.lo f.width ||| x), w.2)
      | .ro | .rc => w) (old, true)

/-- A write of a register with no effect but on its fields. -/
def State.writePlain (s : State) (who : Requester) (p : Place) (v : Nat) : Written :=
  let (new, ok) := s.writeFields p v
  let s := s.setReg p.name p.inst p.idx new
  if ok then accept s else s.refuse who p

/-- A write of SEC.POLICY; a port that it opens resumes (R471). -/
def policyWrite (s : State) (who : Requester) (p : Place) (v : Nat) : Written :=
  let was := s
  let (s, ok) := s.writePlain who p v
  (s.each [(0 : HostPort), 1] (fun s h => if !was.portOpen h.val && s.portOpen h.val then s.resumePort h else s), ok)

/-- A write of SEC.KEY_CMD (R468). -/
def keyCmdWrite (s : State) (who : Requester) (p : Place) (v : Nat) : Written :=
  if bits v 4 2 == 1 || bits v 4 2 == 2 then accept (s.keyCommand (requesterCode who) v) else s.refuse who p

/-- A write of SEC.FW_SVN_COMMIT (R464). -/
def svnCommitWrite (s : State) (who : Requester) (p : Place) (v : Nat) : Written :=
  if bitOf v 0 then s.takeOr who p s.svnCommit else accept s

/-- A write of DIARY.ENTRY_INDEX or SEAL_INDEX (R486). -/
def State.setDiaryIndex (s : State) (who : Requester) (isSeal : Bool) (v : Nat) : State :=
  { s with proctor := { s.proctor with indexes := Tab.set 0 s.proctor.indexes (2 * requesterCode who + bit isSeal) v } }

/-- A write of CORRIDOR.CTRL (R330, R333). -/
def corridorCtrlWrite (s : State) (v : Nat) : State :=
  let s := if bitOf v 0 then s.corridorJoin else s.setFld F.corridorCtrlJoin 0 0 0
  s.setFld F.corridorCtrlTimeMaster 0 0 (bits v 1 1)

/-- A write of POWER.CAP (R404): BELOW_FLOOR is cleared first, and the new value may set it again. -/
def capRegWrite (s : State) (who : Requester) (p : Place) (v : Nat) : Written :=
  let s := if bitOf v 29 then s.setFld F.powerCapBelowFloor 0 0 0 else s
  if capOk (bits v 0 13) then accept (s.setCap (bits v 0 13)) else s.refuse who p

/-- A write of POWER.PSTATE_CMD (R395, R396). -/
def pstateWrite (s : State) (who : Requester) (p : Place) (v : Nat) : Written :=
  let r : Written :=
    if bits v 0 2 == 1 then
      (if 1 ≤ bits v 16 14 && bits v 16 14 ≤ 10000 then recessCommand s (bits v 4 4) (bits v 16 14) else (s, false))
    else if bits v 0 2 == 2 then wakeCommand s (bits v 4 4)
    else (s, false)
  if r.2 then r else r.1.refuse who p

/-- A write of a 32-bit part of an MSI-X entry: unmasking a vector that is pending sends it (R344, R371). -/
def msixWrite (s : State) (who : Requester) (p : Place) (v : Nat) : Written :=
  let (s, ok) := s.writePlain who p v
  let pba := s.reg .hostMsixPba p.inst
  if !bitOf (s.reg .hostMsix p.inst p.idx) 96 && bitOf pba p.idx then
    ((s.setReg .hostMsixPba p.inst 0 (putBits pba p.idx 1 0)).signalMsix (Fin.ofNat 2 p.inst) p.idx, ok)
  else (s, ok)

/-- A write of TUTOR.RULE_STEP (R392). -/
def ruleStepWrite (s : State) (st n : Nat) : Written :=
  if s.ruleStepOk st n then accept (s.applyRules st n) else (s.setFld F.tutorRuleStatusRefused st 0 1, false)

/-- A write of a ring register, refused while the ring is in use (R369). -/
def ringWrite (s : State) (who : Requester) (p : Place) (ring : RingId) (v : Nat) : Written :=
  if s.ringState ring == qACTIVE || s.ringState ring == qPARKED then s.refuse who p else s.writePlain who p v

/-- A write of MARKER.STATE (R263). The block reads its slip pool as it goes from CALIBRATION to NORMAL, the last step of a restore (R257, R338; DESIGN CHOICE, log entry 22). -/
def markerStateWrite (s : State) (who : Requester) (p : Place) (v : Nat) : Written :=
  if s.stepState p.inst == mIDLE && bits v 0 2 ≤ 1 then
    let t := s.setFld F.markerStateMode p.inst 0 (bits v 0 2)
    accept (if s.fld F.markerStateMode p.inst 0 == 1 && bits v 0 2 == 0 then t.loadPool (Fin.ofNat 4 p.inst) else t)
  else s.refuse who p

/-- A write of MARKER.COMMITTED_STEP (R263, R274). -/
def committedWrite (s : State) (who : Requester) (p : Place) (v : Nat) : Written :=
  if s.fld F.markerStateMode p.inst == 1 && s.stepState p.inst == mIDLE then accept (s.setReg .markerCommittedStep p.inst 0 v) else s.refuse who p

/-- A write of MARKER.STEP_CMD (R255). -/
def stepCmdWrite (s : State) (who : Requester) (p : Place) (v : Nat) : Written :=
  if bitOf v 0 then s.takeOr who p (abandonWrite s (Fin.ofNat 4 p.inst)) else accept s

/-- A write of MARKER.CAL_CMD (R264). -/
def calCmdWrite (s : State) (who : Requester) (p : Place) (v : Nat) : Written :=
  if bits v 0 2 == 1 || bits v 0 2 == 2 then
    accept (calStart s (Fin.ofNat 4 p.inst) ⟨bits v 0 2 == 2, bitOf v 2, bitOf v 3, bits v 4 7, bits v 16 17⟩)
  else s.refuse who p

/-- A write of FABRIC.NEAR or FABRIC.FAR: an entry that breaks the constraints of R291 is refused, and its reserved bits stay 0 (R7). -/
def windowWrite (s : State) (who : Requester) (p : Place) (far : Bool) (v : Nat) : Written :=
  let e := winDefined v
  let others (f : Bool) : List Nat := if f == far then (s.windowTable f).eraseIdx p.idx else s.windowTable f
  if s.entryOk far e && !(others false ++ others true).any (entriesClash e) then s.writePlain who p e else s.refuse who p

/-- A write of SLICE.PIN_CMD (R211). -/
def pinCmdWrite (s : State) (who : Requester) (p : Place) (v : Nat) : Written :=
  if bits v 0 2 == 1 || bits v 0 2 == 2 then accept (pinCommand s p.inst (bits v 0 2 == 2) (bits v 7 33)) else s.refuse who p

/-- What a write of value `v` to a register does; a part of a register wider than 64 bits takes 32 bits. -/
def State.writePlace (s : State) (who : Requester) (p : Place) (v : Nat) : Written :=
  let i := p.inst
  match p.name with
  | .proctorResetCmd => s.resetWrite who v
  | .secPolicy => policyWrite s who p v
  | .secFwSvnCommit => svnCommitWrite s who p v
  | .secKeyCmd => keyCmdWrite s who p v
  | .diaryEntryIndex => accept (s.setDiaryIndex who false v)
  | .diarySealIndex => accept (s.setDiaryIndex who true v)
  | .corridorCtrl => accept (corridorCtrlWrite s v)
  | .corridorStopSend => accept (s.stopSend (BitVec.ofNat 32 v))
  | .corridorStopClear => accept (s.stopClear (BitVec.ofNat 4 v))
  | .powerHostLimit => if hostLimitOk (bits v 0 7) then accept (s.setHostLimit i (bits v 0 7)) else s.refuse who p
  | .powerCap => capRegWrite s who p v
  | .powerPstateCmd => pstateWrite s who p v
  | .thermalSensor => accept (if bitOf v 25 then s.clearSuspect i p.idx else s)
  | .hostCtrl => accept (primaryCtrlWrite s i v)
  | .hostMsix => msixWrite s who p v
  | .tutorRuleStep => ruleStepWrite s i v
  | .queueSqBase | .queueCqBase | .queueTailAddr | .queueSizes => ringWrite s who p (.queue (Fin.ofNat 128 p.idx)) v
  | .queueCtrl => queueCtrlWrite s who p (Fin.ofNat 128 p.idx) v
  | .queueDoorbell => accept (doorbellWrite s (Fin.ofNat 128 p.idx) (BitVec.ofNat 32 v))
  | .queueCqHead => headWrite s who p (.queue (Fin.ofNat 128 p.idx)) v
  | .queueStepBase | .queueStepTailAddr | .queueStepSize => ringWrite s who p (.step (Fin.ofNat 4 p.idx)) v
  | .queueStepCtrl => stepCtrlWrite s who p (Fin.ofNat 4 p.idx) v
  | .queueStepHead => headWrite s who p (.step (Fin.ofNat 4 p.idx)) v
  | .markerState => markerStateWrite s who p v
  | .markerArm => accept (arm s (Fin.ofNat 4 i) (BitVec.ofNat 32 v))
  | .markerCommittedStep => committedWrite s who p v
  | .markerStepCmd => stepCmdWrite s who p v
  | .markerCalCmd => calCmdWrite s who p v
  | .fabricCtrl => accept (if bitOf v 0 then s.portEnable i else s.portDisable i)
  | .fabricSeat => s.takeOr who p (s.seatWrite v)
  | .fabricNear => windowWrite s who p false v
  | .fabricFar => windowWrite s who p true v
  | .slicePinCmd => pinCmdWrite s who p v
  | .coreFaultInfo => accept (if bitOf v 15 then (s.setFld F.coreFaultInfoValid i 0 0).setFld F.coreFaultInfoMore i 0 0 else s)
  | _ => s.writePlain who p v

/-! ## The Diary entry of an accepted write (R482) -/

/-- The fields that a write can change. -/
def RegDesc.writable (d : RegDesc) : List Access := (d.fields.map (fun f => f.access)).filter (fun a => a != .ro && a != .rc)

/-- Registers outside MODULE scope whose writes the Diary records; of QUEUE.CTRL only a write of DETACH. -/
def diaryListed (p : Place) (v : Nat) : Bool :=
  match p.name with
  | .fabricCtrl | .powerHostLimit | .markerState | .markerCommittedStep | .tutorJanitorBond | .tutorJanitorHbm | .tutorQuizCtrl => true
  | .queueCtrl => bitOf v 2
  | _ => false

/-- Whether an accepted write of a value is recorded: W1C clears, a STOP_CLEAR of no bits and the writes of phase E are not. -/
def State.diaryWants (s : State) (who : Requester) (p : Place) (v : Nat) : Bool :=
  let phaseE := match who with | .tutor st => s.fld F.tutorSylStateActivating st.val == 1 | _ => false
  let w := p.name.desc.writable
  if s.scope p = none then
    !phaseE && !w.isEmpty && !w.all (fun a => a == .w1c) && !(p.name == .corridorStopClear && bits v 0 4 == 0)
  else diaryListed p v

/-- The offset of the register, or of the part, that a place names. -/
def Place.off (p : Place) : Nat := if p.wide then p.addr else p.addr + 4 * p.part

/-- The value that a place reads after a write. -/
def State.valueAfter (s : State) (who : Requester) (p : Place) : Nat := bits (s.readWhole who p) p.slice.1 p.slice.2

/-- A write that has reached its register: the REG_WRITE entry comes before the entries that the write itself causes. -/
def State.writeLogged (s : State) (who : Requester) (p : Place) (v : Nat) : Written :=
  let r := s.writePlace who p v
  if r.2 && s.diaryWants who p v then
    (s.diary (requesterCode who) .regWrite p.off (r.1.valueAfter who p)).writePlace who p v
  else r

/-! ## Register writes (R8, R9, R24 to R27, R475, R503) -/

/-- Forgets a requester's held lower half (R26). -/
def State.dropHalf (s : State) (who : Requester) : State := { s with halves := Tab.set (0, 0) s.halves (requesterCode who) (0, 0) }
/-- The lower half that a requester holds for a register; none for another. -/
def State.heldHalf (s : State) (who : Requester) (addr : Nat) : Option Nat :=
  let h := Tab.get (0, 0) s.halves (requesterCode who)
  if h.1 == addr then some h.2 else none

/-- Whether a write to a place reaches it: the block answers and the path may write. -/
def State.writable (s : State) (who : Requester) (p : Place) (v : Nat) : Bool := s.answers who p.name.block p.inst && s.mayWrite who p v

/-- What stands in for the lower half where an upper half comes alone: 0 for WO and W1C fields, the present value for RW ones (R9). -/
def State.loneLower (s : State) (p : Place) : Nat :=
  if p.name.desc.writable.elem .rw then bits (s.reg p.name p.inst p.idx) 0 32 else 0

/-- A naturally aligned 32-bit write. The lower half of a 64-bit register is held; the upper half writes the whole register.
A write to another register discards the half that is held, whether or not it is accepted (R26), and so does one to a reserved offset (DESIGN CHOICE, log entry 11: R26 names no reserved offset). -/
def State.write32 (s : State) (who : Requester) (off v : Nat) : Written :=
  match placeAt off with
  | none => (s.dropHalf who).accessError who off |> fun s => (s, false)
  | some p =>
    let same := s.heldHalf who p.addr
    let s := if p.wide && same.isSome then s else s.dropHalf who
    if !s.writable who p v then ((s.accessError who off), false)
    else if !p.wide then s.writeLogged who p v
    else if p.part == 0 then accept { s with halves := Tab.set (0, 0) s.halves (requesterCode who) (p.addr, v) }
    else (s.dropHalf who).writeLogged who p ((match same with | some l => l | none => s.loneLower p) + v * 2 ^ 32)

/-- A register write. A whole 64-bit write discards the requester's held lower half, that of the same register too, and a write of a wrong size or alignment leaves it (DESIGN CHOICE, log entry 11: R9 and R26 say nothing of either). -/
def State.writeReg (s : State) (who : Requester) (off size v : Nat) : Written :=
  if !aligned off size then (s.accessError who off, false)
  else if size == 4 then s.write32 who off (v % 2 ^ 32)
  else match wideAt off with
  | some p =>
    let s := s.dropHalf who
    if s.writable who p v then s.writeLogged who p v else (s.accessError who off, false)
  | none =>
    let (s, a) := s.write32 who off (v % 2 ^ 32)
    let (s, b) := s.write32 who (off + 4) (v / 2 ^ 32 % 2 ^ 32)
    (s, a && b)

/-! ## Paths -/

/-- An access over a path: a host's reaches the module on BAR0 of its port; another's while the module has power. -/
def State.onPath (s : State) (who : Requester) (f : State → State) : State :=
  match who with
  | .h0 => s.onBar 0 f
  | .h1 => s.onBar 1 f
  | _ => if s.proctor.powered then f s else s

/-- A register write over its path. -/
def registerWrite (s : State) (who : Requester) (off size v : Nat) : State := s.onPath who (fun s => (s.writeReg who off size v).1)

/-- A register read over its path: the value goes back to the requester. -/
def registerRead (s : State) (who : Requester) (off size : Nat) : State :=
  s.onPath who (fun s =>
    let r := s.readReg who off size
    r.1.emit (.readData who (BitVec.ofNat 64 r.2.1)))

/-- A write of one register's value, at the register's own width. -/
def regCommand (s : State) (who : Requester) (n : RegName) (i j v : Nat) : State :=
  registerWrite s who (n.addr i j) (if n.desc.width == 64 then 8 else 4) v

/-- A read that is refused (R8, R24, R27, R475). A read that is not refused is no such event. -/
def registerReadRefused (s : State) (who : Requester) (off size : Nat) : State :=
  if (s.readReg who off size).2.2 then s else registerRead s who off size

/-! ## The commands -/

/-- REGISTER_WRITE (R6). -/
def execRegisterWrite (who : Requester) (off size : Nat) (value : Word) (s : State) : Host.Outcome State Fault Refusal :=
  .next (registerWrite s who off size value.toNat)
/-- RC_FIELD_READ (R6). -/
def execRcFieldRead (who : Requester) (off size : Nat) (s : State) : Host.Outcome State Fault Refusal := .next (registerRead s who off size)
/-- REGISTER_READ_REFUSED (R8). -/
def execRegisterReadRefused (who : Requester) (off size : Nat) (s : State) : Host.Outcome State Fault Refusal :=
  .next (registerReadRefused s who off size)

end Sys2Proof.Machine
end

