-- ==== Sys2Proof/Machine/Management.lean ====
section
/-!
DEFINITION. Management over I3C and the Corridor, firmware updates, and the Class Diary (R476 to R485).
-/
namespace Sys2Proof.Machine

/-! ## The management port (R476, R479) -/

/-- PLDM completion codes: SUCCESS. -/
abbrev pSUCCESS : Nat := 0
/-- ERROR. -/
abbrev pERROR : Nat := 1
/-- ERROR_INVALID_DATA. -/
abbrev pINVALID_DATA : Nat := 2
/-- ERROR_UNSUPPORTED_PLDM_CMD. -/
abbrev pUNSUPPORTED : Nat := 5

/-- A message to the management port: answered with a dynamic address, and in recovery only where the ROM takes it (R463, R476). -/
def State.onI3c (s : State) (rom : Bool) (f : State → State) : State :=
  if s.i3cUp && (rom || !s.proctor.recovery) then f s else s

/-- A PLDM answer. -/
def State.pldm (s : State) (code : Nat) (payload : List Byte) : State := s.mctp (.pldm code payload)

/-- Whether MGMT_SECURE asks for a secured session that a message has not come in (R479). In recovery there is none to ask for (R463). -/
def State.insecure (s : State) (secured : Bool) : Bool :=
  s.fld F.secPolicyMgmtSecure == 1 && !s.proctor.recovery && !(secured && s.secured .i3c)

/-- REG_READ (R479). -/
def regRead (s : State) (off size : Nat) : State :=
  s.onI3c false (fun s =>
    let r := s.readReg .i3c off size
    if r.2.2 then r.1.pldm pSUCCESS (toBytes size r.2.1) else r.1.pldm pINVALID_DATA [])

/-- A register write that stands for a management message: its answer. -/
def State.i3cWrite (s : State) (off size v : Nat) : State :=
  let r := s.writeReg .i3c off size v
  r.1.pldm (if r.2 then pSUCCESS else pINVALID_DATA) []

/-- REG_WRITE (R479). -/
def regWrite (s : State) (secured : Bool) (off size v : Nat) : State :=
  s.onI3c false (fun s => if s.insecure secured then s.pldm pUNSUPPORTED [] else s.i3cWrite off size v)

/-! ## Sensors and effecters (R477) -/

/-- A temperature of 12 bits as a signed value of 64 (R422). -/
def degrees (v : Nat) : Nat := unsigned 64 (signed 12 v)

/-- The value of a sensor; none where there is no sensor of that ID. -/
def State.sensor (s : State) (id : Nat) : Option Nat :=
  let st (base : Nat) : Nat := id - base
  if id == 0x0001 then some (s.fld F.powerInputPowerW)
  else if id == 0x0002 then some (s.fld F.powerInputBus)
  else if id == 0x0003 then some (s.reg .powerEnergy)
  else if id == 0x0004 then some (s.fld F.powerCapEffectiveW)
  else if id == 0x0005 then some (s.fld F.powerFloorW)
  else if id == 0x0006 then some (degrees (s.fld F.thermalCoolantSupplyT))
  else if id == 0x0007 then some (degrees (s.fld F.thermalCoolantReturnT))
  else if id == 0x0008 then some (s.fld F.thermalFlowFlow)
  else if 0x0010 ≤ id && id < 0x0014 then some (degrees (s.fld F.thermalStatusHottestT (st 0x0010)))
  else if 0x0014 ≤ id && id < 0x0018 then some (s.fld F.powerRateN (st 0x0014))
  else if 0x0020 ≤ id && id < 0x0040 then some (s.reg .powerReport (st 0x0020 / 8) (st 0x0020 % 8))
  else if 0x0100 ≤ id && id < 0x0104 then some (s.pstate (st 0x0100))
  else if id == 0x0104 then some (s.fld F.proctorStartupPhase)
  else if id == 0x0105 then some (s.fld F.thermalFlowTrip)
  else none

/-- GET_SENSOR_READING (R477). -/
def getSensorReading (s : State) (id : Nat) : State :=
  s.onI3c false (fun s => match s.sensor id with | some v => s.pldm pSUCCESS (toBytes 8 v) | none => s.pldm pINVALID_DATA [])

/-- The register and the greatest value that the field of an effecter holds. -/
def effecter (id : Nat) : Option (Nat × Nat) :=
  if id == 0x0200 then some (RegName.addr .powerCap, 2 ^ 13)
  else if 0x0204 ≤ id && id < 0x0208 then some (RegName.addr .powerHostLimit (id - 0x0204), 2 ^ 7)
  else none

/-- SET_NUMERIC_EFFECTER_VALUE: a register write by the I3C path (R477, R479). -/
def setEffecter (s : State) (secured : Bool) (id v : Nat) : State :=
  s.onI3c false (fun s =>
    if s.insecure secured then s.pldm pUNSUPPORTED []
    else match effecter id with
    | some (off, limit) => if v < limit then s.i3cWrite off 4 v else s.pldm pINVALID_DATA []
    | none => s.pldm pINVALID_DATA [])

/-! ## Firmware updates (R463, R480) -/

/-- The one component that PLDM type 5 offers: the firmware bundle (R480). -/
abbrev firmwareComponent : Nat := 0x0001


/-- The bank that an update is written to: the one that is not ACTIVE, or in recovery bank A. -/
def State.updateBank (s : State) : Nat := if s.proctor.recovery then 0 else 1 - s.fld F.proctorBootActiveBank

/-- A PLDM type 5 command after QueryDeviceIdentifiers. -/
def State.onUpdate (s : State) (secured : Bool) (f : State → State) : State :=
  s.onI3c true (fun s => if s.insecure secured then s.pldm pUNSUPPORTED [] else f s)

/-- A message of an update that has no session bit of its own: it comes as the update's data came, in a session or in the clear. DESIGN CHOICE (log entry 50). -/
def State.onOwnUpdate (s : State) (f : State → State) : State := s.onUpdate (s.proctor.update.any (·.secured)) f

/-- REQUEST_FIRMWARE_DATA: up to 1,024 bytes more of the bundle; the first start an update. -/
def requestFirmwareData (s : State) (secured : Bool) (data : List Byte) : State :=
  s.onUpdate secured (fun s =>
    if data.length ≤ 1024 then
      let old := match s.proctor.update with | some u => if u.applied then [] else u.bytes | none => []
      { s with proctor := { s.proctor with update := some ⟨old ++ data, false, false, secured⟩ } }.pldm pSUCCESS []
    else s.pldm pINVALID_DATA [])

/-- VERIFY_COMPLETE: success only if the bundle meets R461. -/
def verifyComplete (s : State) : State :=
  s.onOwnUpdate (fun s =>
    match s.proctor.update with
    | some u =>
      let ok := s.bundleOk u.bytes
      { s with proctor := { s.proctor with update := some { u with verified := ok } } }.pldm (if ok then pSUCCESS else pERROR) []
    | none => s)

/-- APPLY_COMPLETE: the bank has been written and read back. -/
def applyComplete (s : State) : State :=
  s.onOwnUpdate (fun s =>
    match s.proctor.update with
    | some u =>
      if u.verified then
        let k := s.updateBank
        let s := { s with proctor := { s.proctor with banks := Tab.set [] s.proctor.banks k u.bytes, update := some { u with applied := true } } }
        (s.setBankState k 0).pldm pSUCCESS []
      else s.pldm pERROR []
    | none => s)

/-- What ActivateFirmware reports: self-contained activation is not supported (R480). PRESUMED (log entry 50): the completion code is that of DSP0267 for it. -/
abbrev pSELF_CONTAINED : Nat := 0x8C

/-- ACTIVATE_FIRMWARE: the bank is PENDING; in recovery a module cold reset starts. -/
def activateFirmware (s : State) (secured : Bool) : State :=
  s.onUpdate secured (fun s =>
    match s.proctor.update with
    | some u =>
      if u.applied then
        let k := s.updateBank
        let s := { s with proctor := { s.proctor with update := none } }
        let s := (s.firmwareEntry (requesterCode .i3c) k 0).pldm pSELF_CONTAINED []
        if s.proctor.recovery then s.acceptReset ⟨1, 15, 2, 0, false, 0, false, 0⟩ else s.setFld F.proctorBootPending 0 0 1
      else s.pldm pERROR []
    | none => s.pldm pERROR [])

/-! ## Events to the receiver (R481) -/

/-- The 32 bytes that follow the ring entry of an event: the error record, the Diary entry, or zeros. -/
def State.eventData (s : State) (entry : Nat) : List Byte :=
  match bits entry 96 2 with
  | 0 => toBytes 32 (s.reg .proctorErrlog 0 (bits entry 64 32 % 1024))
  | 1 => (s.diaryAt (bits entry 64 32)).getD (List.replicate 32 0)
  | _ => List.replicate 32 0

/-- The messages that no acknowledgement is known of become `l`. -/
def State.setEvents (s : State) (l : List EventMsg) : State := { s with proctor := { s.proctor with eventsToSend := l } }

/-- PLDM_EVENT_RESEND: an acknowledged message needs no more; of the others, the one sent longest ago is sent again once 1 s has passed, and after three resends stays only in the ring (R481). Whether the receiver acknowledged is a free value (log entry 50). -/
def pldmEventResend (s : State) : State :=
  match s.proctor.eventsToSend.filter (fun m => !Config.eventAcknowledged m.event m.resent) with
  | [] => s.setEvents []
  | m :: rest =>
    if s.now < m.sentAt + 1000000000 then s.setEvents (m :: rest)
    else if m.resent < 3 then
      let entry := s.reg .proctorEvent 0 (m.event % 256)
      (s.setEvents (rest ++ [{ m with resent := m.resent + 1, sentAt := s.now }])).mctp
        (.platformEvent s.proctor.receiver (toBytes 16 entry ++ s.eventData entry))
    else s.setEvents rest

/-- SET_EVENT_RECEIVER. -/
def setEventReceiver (s : State) (eid : Byte) : State :=
  s.onI3c false (fun s => { s.setFld F.proctorI3cReceiver 0 0 1 with proctor := { s.proctor with receiver := eid } }.pldm pSUCCESS [])

/-! ## Corridor MGMT frames (R478) -/

/-- Whether a Corridor MGMT frame may read a place (R475). -/
def State.mgmtMayRead (s : State) (p : Place) : Bool :=
  ([Block.proctor, .power, .thermal, .corridor] : List Block).elem p.name.block && s.scope p = none

/-- MGMT_FRAME: a READ addressed to this seat is answered with one RESPONSE to its ORIGIN. -/
def mgmtFrame (s : State) (f : Frame) : State :=
  let num (o n : Nat) : Nat := ofBytes ((f.payload.drop o).take n)
  if !f.bcast && f.dest.toNat == s.seat && s.seatValid && num 2 1 == 0 then
    let off := num 4 4
    let r : ReadResult :=
      match (placeAt off).filter (fun p => off % 4 == 0 && s.mgmtMayRead p) with
      | some p =>
        let (lo, w) : Nat × Nat := if p.wide && p.part == 0 then (0, 64) else (32 * p.part, 32)
        (s.clearRc p lo w, bits (s.readWhole .proctor p) lo w, true)
      | none => (s, 0, false)
    let payload := toBytes 2 (num 0 2) ++ [1, if r.2.2 then 0 else 1] ++ toBytes 4 off ++ toBytes 8 r.2.1 ++ List.replicate 16 0
    r.1.sendFrame tMGMT f.origin.toNat false payload
  else s

/-! ## The Class Diary (R482 to R485) -/

/-- The bytes of a Diary entry under its SEQ (R483). -/
def DiaryEntry.bytes (e : DiaryEntry) (seq : Nat) : List Byte :=
  toBytes 8 e.time.toNat ++ toBytes 4 seq ++ toBytes 4 (e.origin.toNat + e.kind.toNat * 2 ^ 20) ++ toBytes 8 e.subject.toNat ++ toBytes 8 e.value.toNat

/-- The open batch closes (R485). -/
def State.closeBatch (s : State) : State :=
  let p := s.proctor
  if p.batchCount == 0 then s
  else { s with proctor := { p with closed := p.closed ++ [(p.batchFirst, p.batchCount, BitVec.ofNat 64 s.now)], batchCount := 0 } }

/-- Writes one entry: it takes its SEQ, joins the open batch, and is a management event unless it is a GAP. -/
def State.putDiary (s : State) (e : DiaryEntry) : State :=
  let seq := s.reg .diaryTail
  let b := e.bytes seq
  let s := if (Tab.get [] s.proctor.diary (seq % 65536)).isEmpty then s else s.bumpSat F.diaryOverwrittenCount 0 0 1
  let p := s.proctor
  let s := { s with proctor := { p with
    diary := Tab.set [] p.diary (seq % 65536) b
    batchFirst := if p.batchCount == 0 then seq else p.batchFirst
    batchCount := p.batchCount + 1 } }
  let s := s.setReg .diaryTail 0 0 (seq + 1)
  let s := if s.proctor.batchCount ≥ 256 then s.closeBatch else s
  if e.kind = DiaryKind.gap.code then s else s.event true seq 1 Block.diary.code 0 e.kind.toNat b

/-- DIARY_ENTRY_WRITE: the next entry of the queue, after a GAP entry where entries have been dropped (R484). -/
def diaryEntryWrite (s : State) : State :=
  match s.proctor.diaryQ with
  | [] => s
  | e :: rest =>
    let gap := s.proctor.diaryGap
    let s := { s with proctor := { s.proctor with diaryQ := rest, diaryGap := 0 } }
    let s := if gap == 0 then s else s.putDiary ⟨BitVec.ofNat 64 s.now, BitVec.ofNat 8 originModule, DiaryKind.gap.code, 0, BitVec.ofNat 64 gap⟩
    s.putDiary e

/-- SEAL_WRITE: the seal of the batch that closed first (R485). -/
def sealWrite (s : State) : State :=
  match s.proctor.closed with
  | [] => s
  | (first, count, time) :: rest =>
    let head := toBytes 4 first ++ toBytes 4 count ++ toBytes 8 time.toNat
    let prev := toBytes 48 s.proctor.lastDigest.toNat
    let entries := (List.range count).flatMap (fun k => Tab.get [] s.proctor.diary ((first + k) % 65536))
    let d := Config.sha384 (prev ++ head ++ entries)
    let sig := Config.deviceSign d
    let b := head ++ prev ++ toBytes 48 d.toNat ++ toBytes 48 sig.1.toNat ++ toBytes 48 sig.2.toNat ++ List.replicate 48 0
    let n := s.reg .diarySealTail
    let s := { s with proctor := { s.proctor with closed := rest, lastDigest := d, seals := Tab.set [] s.proctor.seals (n % 4096) b } }
    s.setReg .diarySealTail 0 0 (n + 1)

/-! ## The commands -/

/-- ENTDAA: the port sends its provisional ID, from the low 48 bits of SERIAL, and takes the address (R476). -/
def execEntdaa (addr : BitVec 7) (s : State) : Host.Outcome State Fault Refusal :=
  .next (if s.proctor.powered then (s.emit (.provisionalId (BitVec.ofNat 48 (s.reg .proctorSerial)))).setFld F.proctorI3cDynAddr 0 0 addr.toNat else s)
/-- SET_ENDPOINT_ID (R476). -/
def execSetEndpointId (eid : Byte) (s : State) : Host.Outcome State Fault Refusal :=
  .next (s.onI3c true (fun s => s.setFld F.proctorI3cEid 0 0 eid.toNat))
/-- REG_READ (R479). -/
def execRegRead (_secured : Bool) (off size : Nat) (s : State) : Host.Outcome State Fault Refusal := .next (regRead s off size)
/-- REG_WRITE (R479). -/
def execRegWrite (secured : Bool) (off size : Nat) (value : Word) (s : State) : Host.Outcome State Fault Refusal := .next (regWrite s secured off size value.toNat)
/-- GET_SENSOR_READING (R477). -/
def execGetSensorReading (id : BitVec 16) (s : State) : Host.Outcome State Fault Refusal := .next (getSensorReading s id.toNat)
/-- SET_NUMERIC_EFFECTER_VALUE (R477). -/
def execSetNumericEffecterValue (secured : Bool) (id : BitVec 16) (value : BitVec 32) (s : State) : Host.Outcome State Fault Refusal :=
  .next (setEffecter s secured id.toNat value.toNat)
/-- SET_EVENT_RECEIVER (R481). -/
def execSetEventReceiver (eid : Byte) (s : State) : Host.Outcome State Fault Refusal := .next (setEventReceiver s eid)
/-- QUERY_DEVICE_IDENTIFIERS (R479). -/
def execQueryDeviceIdentifiers (s : State) : Host.Outcome State Fault Refusal :=
  .next (s.onI3c true (fun s => s.pldm pSUCCESS (toBytes 4 (s.reg .proctorDeviceId) ++ toBytes 2 firmwareComponent)))
/-- REQUEST_FIRMWARE_DATA (R480). -/
def execRequestFirmwareData (secured : Bool) (data : List Byte) (s : State) : Host.Outcome State Fault Refusal := .next (requestFirmwareData s secured data)
/-- VERIFY_COMPLETE (R480). -/
def execVerifyComplete (s : State) : Host.Outcome State Fault Refusal := .next (verifyComplete s)
/-- APPLY_COMPLETE (R480). -/
def execApplyComplete (s : State) : Host.Outcome State Fault Refusal := .next (applyComplete s)
/-- ACTIVATE_FIRMWARE (R480). -/
def execActivateFirmware (secured : Bool) (s : State) : Host.Outcome State Fault Refusal := .next (activateFirmware s secured)
/-- FIRMWARE_UPDATE_CANCEL (R479, R480). -/
def execFirmwareUpdateCancel (s : State) : Host.Outcome State Fault Refusal := .next (s.onOwnUpdate (fun s => s.dropUpdate (requesterCode .i3c)))
/-- PLDM_EVENT_RESEND (R481). -/
def execPldmEventResend (s : State) : Host.Outcome State Fault Refusal := .next (pldmEventResend s)
/-- MGMT_FRAME (R478). -/
def execMgmtFrame (f : Frame) (s : State) : Host.Outcome State Fault Refusal := .next (mgmtFrame s f)
/-- DIARY_ENTRY_WRITE (R484). -/
def execDiaryEntryWrite (s : State) : Host.Outcome State Fault Refusal := .next (diaryEntryWrite s)
/-- DIARY_BATCH_CLOSE (R485): 1 s has passed since the first entry of the open batch; a batch of 256 closes as its last entry is written. -/
def execDiaryBatchClose (s : State) : Host.Outcome State Fault Refusal := .next s.closeBatch
/-- SEAL_WRITE (R485). -/
def execSealWrite (s : State) : Host.Outcome State Fault Refusal := .next (sealWrite s)

end Sys2Proof.Machine
end

