-- ==== Sys2Proof/Machine/Deliver.lean ====
section
/-!
DEFINITION. What arrives: flits on a port, tag groups, and Corridor frames, with the delivery of their messages (R280 to R288, R326 to R329).
-/
namespace Sys2Proof.Machine

/-! ## Control messages (R327) -/

/-- A field of a control message's payload. -/
def payNum (p : List Byte) (o n : Nat) : Nat := ofBytes ((p.drop o).take n)
/-- The payload of a Bell message. -/
def bellMsgOf (p : List Byte) : BellMsg := ⟨BitVec.ofNat 16 (payNum p 0 2), BitVec.ofNat 32 (payNum p 4 4), BitVec.ofNat 16 (payNum p 8 2)⟩
/-- The payload of a ROLL_CALL (R334). -/
def rollCallOf (p : List Byte) : RollCallMsg :=
  ⟨BitVec.ofNat 64 (payNum p 0 8), BitVec.ofNat 12 (payNum p 8 2), bitOf (payNum p 8 2) 15, BitVec.ofNat 12 (payNum p 10 2),
    BitVec.ofNat 8 (payNum p 12 1), BitVec.ofNat 32 (payNum p 16 4)⟩

/-- The effect of a control message, on either path. -/
def controlMessage (s : State) (via : Option Port) (type : Nat) (p : List Byte) : State :=
  if type == tBELL_ARRIVE then bellArriveMessage s (bellMsgOf p)
  else if type == tBELL_RELEASE then bellReleaseMessage s (bellMsgOf p)
  else if type == tSTOP then stopReceived s (BitVec.ofNat 32 (payNum p 0 4)) (if via.isSome then originLummir else originCorridor)
  else if type == tBELL_BREAK then bellBreakMessage s (bellMsgOf p)
  else if type == tROLL_CALL then rollCall s via (rollCallOf p)
  else if type == tEPOCH then epochReceived s (payNum p 0 2 % 4096) (payNum p 2 2 % 4096)
  else if type == tTIME && via.isNone then timeFrame s (payNum p 0 8) (payNum p 8 4) (BitVec.ofNat 12 (payNum p 12 2))
  else s

/-! ## Messages of a port -/

/-- Delivers a message that has arrived whole. VC0 types 0x6 to 0xF are none of the types of that path: they are discarded and counted (R327). -/
def State.deliver (s : State) (p : Port) (m : FabMsg) : State :=
  match m with
  | .request op r => inbound s (.port p) op r
  | .response r => response s (.port p) r
  | .packet k c => collPacket s (.port p) k c
  | .control t _ _ pay _ _ => if t.toNat ≥ tTIME then s.bumpSat F.corridorCrcErrorsCount 0 0 1 else controlMessage s (some p) t.toNat pay

/-- Takes the slots of a message into the receive buffer of its virtual channel: they are counted, and their credit is owed; beyond the buffer the partner has sent without credit. -/
def State.takeSlots (s : State) (p : Nat) (m : FabMsg) : State × Bool :=
  let vc := m.vc.val
  let owed := (s.port p).creditOwed.getD vc 0 + m.slots
  let s := s.bump F.fabricRxSlotsCount p vc m.slots
  (s.setPort p { s.port p with creditOwed := (s.port p).creditOwed.set vc owed }, decide (owed ≤ vcBuffer vc))

/-- A flit's messages enter the receive buffer; the Boolean says that none ran past its credit. -/
def State.takeAll (s : State) (p : Nat) (l : List FabMsg) : State × Bool :=
  l.foldl (fun (w : State × Bool) m => let r := w.1.takeSlots p m; (r.1, w.2 && r.2)) (s, true)

/-! ## Flits (R280 to R284, R288) -/

/-- The header of a flit: acknowledgements, returned credit, and a request to resend. -/
def State.flitHeader (s : State) (p : Nat) (f : Flit) : State :=
  let fp := s.port p
  let vc := f.cvc.toNat
  let s := s.setPort p { fp.ackTo f.ack with credit := fp.credit.set vc (min (vcBuffer vc) (fp.credit.getD vc 0 + f.credit.toNat)) }
  if f.nak then s.resendAll p else s

/-- A LINK message acts (R282, R470). -/
def State.linkMessage (s : State) (p : Nat) (m : LinkMsg) : State :=
  match m with
  | .retrain e _ _ => retrainReceived s p e
  | .laneMap e l _ => laneMapReceived s p e l
  | .aligned e b n => alignedReceived s p e b n
  | .down _ c => downReceived s p c.toNat
  | .spdm k n b => spdmFragment s p k n b
  | .ident n a b => identReceived s p n a b
  | .reserved _ => s.protocolError p

/-- Messages of accepted flits enter the receive buffers and are delivered; a reserved OPC or a message beyond its credit is a protocol error (R279, R283, R284). -/
def State.deliverAll (s : State) (p : Port) (l : List Flit) (go : Bool) : State :=
  let n := p.val
  if l.any Flit.badSlot then s.protocolError n
  else
    let ms := l.flatMap Flit.msgs
    let (s, ok) := s.takeAll n ms
    if !ok then s.protocolError n else if go then s.each ms (fun s m => s.deliver p m) else s

/-- A flit joins those that wait for the tag of their group. The first of a group takes the key of the idle slot into use where its KEY names it (R288). -/
def State.holdFlit (s : State) (p : Nat) (f : Flit) : State :=
  let fp := s.port p
  let first := match fp.groupRx.getLast? with | none => true | some g => g.type.toNat == fTAG
  let fp := if first && f.key != fp.rxSlot && fp.rxNext then { fp with rxSlot := f.key, rxNext := false, rxCounter := 0, rxKeyNo := fp.rxKeyNo + 1 } else fp
  s.setPort p { fp with groupRx := fp.groupRx ++ [f] }

/-- An accepted DATA flit: under a session it joins the group whose tag is to come; in clear its messages are delivered; before the session they are discarded. It answers an ALIGNED that is being repeated (R282). -/
def State.dataFlit (s : State) (p : Port) (f : Flit) : State :=
  let n := p.val
  let s := s.answered n 3
  if (s.port n).session = .up then s.holdFlit n f
  else s.deliverAll p [f] ((s.port n).session = .skipped)

/-- A DATA or TAG flit that passed its CRC while the link is UP: the next in order is accepted with its header, one received before is discarded, and any other is discarded and asked for (R281). -/
def State.seqFlit (s : State) (p : Port) (f : Flit) : State :=
  let n := p.val
  let fp := s.port n
  if f.seq = fp.rxSeq then
    let s := s.flitHeader n f
    let s := s.setPort n { s.port n with rxSeq := fp.rxSeq + 1, nakOut := false }
    if f.type.toNat == fDATA then s.dataFlit p f else if (s.port n).session = .up then s.holdFlit n f else s
  else if (fp.rxSeq - f.seq).toNat ≤ 2048 then s
  else s.setPort n { fp with nakOut := true }

/-- FLIT_RECEIVE: CRC, header, order, and the flit's content (R280, R281). DATA and TAG flits are accepted while the link is UP, and in a retrain again once this receiver has lock (R278; DEDUCED, log entry 26: the partner may be UP first, and nothing is lost). -/
def flitReceive (s : State) (p : Port) (f : Flit) : State :=
  let n := p.val
  let link := s.link n
  if link == lDISABLED || link == lDOWN then s
  else if !flitGood f then (s.bumpSat F.fabricCrcErrorsCount n 0 1).setPort n { s.port n with nakOut := true }
  else if f.type.toNat > fLINK then s.protocolError n
  else if f.type.toNat == fLINK then (match f.link with | some m => (s.flitHeader n f).linkMessage n m | none => s.flitHeader n f)
  else if f.type.toNat == fIDLE then s.flitHeader n f
  else if link == lUP || (link == lRETRAINING && (s.port n).lockDone) then s.seqFlit p f
  else s

/-- TAG_FLIT_VERIFY: the tag of the oldest group that has arrived whole verifies, and its messages are delivered; or the group is discarded with what follows it, and asked for again from its first SEQ, and a second failure of the same flits is a protocol error (R288). -/
def tagFlitVerify (s : State) (p : Port) (ok : Bool) : State :=
  let n := p.val
  let fp := s.port n
  let group := fp.groupRx.takeWhile (fun f => f.type.toNat != fTAG)
  match fp.groupRx.drop group.length with
  | [] => s
  | t :: rest =>
    if fp.session != .up then s
    else if ok then
      let counter := (t.tag.map (fun x => x.2.toNat)).getD fp.rxCounter
      ((s.setPort n { fp with groupRx := rest, tagFails := 0, rxCounter := counter + 1 }).deliverAll p group true).counterCheck n
    else
      let s := s.bumpSat F.fabricTagFailuresCount n 0 1
      let first := match group with | f :: _ => f.seq | [] => t.seq
      let s := s.setPort n { fp with groupRx := [], tagFails := fp.tagFails + 1, rxSeq := first, nakOut := true }
      if fp.tagFails ≥ 1 then (s.eventOther true .fabric n 0x008).protocolError n else s

/-! ## Corridor frames (R326 to R329) -/

/-- A frame is delivered to this node, once for each (ORIGIN, TYPE, SEQ) (R329). One that a module without a valid seat discards has not been acted on, and its resend may be (R327). -/
def State.deliverFrame (s : State) (f : Frame) : State :=
  let s := s.bump F.corridorFramesRxCount 0 0 1
  if !s.seatValid && f.type.toNat != tROLL_CALL then s
  else
  let (s, seen) := s.noteSeen f
  if seen then s
  else if f.type.toNat == tMGMT then mgmtFrame s f
  else controlMessage s none f.type.toNat f.payload

/-- CORRIDOR_FRAME_RECEIVE: the frame is checked, delivered, removed or passed on. -/
def corridorFrameReceive (s : State) (f : Frame) : State :=
  if !s.corridor.bypassOpen then s
  else if !frameGood f || f.type.toNat ≥ 8 then s.bumpSat F.corridorCrcErrorsCount 0 0 1
  else if f.bcast && s.ownFrame f then s.returned f
  else
    let mine := f.bcast || (f.dest.toNat == s.seat && s.seatValid)
    let s := if mine then s.deliverFrame f else s
    if (mine && !f.bcast) || f.hops.toNat ≥ 32 then s else s.forward f

/-! ## The commands -/

/-- FLIT_RECEIVE (R281): the flit with the CRC it arrived with. -/
def execFlitReceive (p : Port) (f : Flit) (crc : BitVec 64) (s : State) : Host.Outcome State Fault Refusal := .next (flitReceive s p { f with crc := crc })
/-- TAG_FLIT_VERIFY (R288). -/
def execTagFlitVerify (p : Port) (ok : Bool) (s : State) : Host.Outcome State Fault Refusal := .next (tagFlitVerify s p ok)
/-- CORRIDOR_FRAME_RECEIVE (R328): the frame with the CRC it arrived with. -/
def execCorridorFrameReceive (f : Frame) (crc : BitVec 32) (s : State) : Host.Outcome State Fault Refusal :=
  .next (corridorFrameReceive s { f with crc := crc })

end Sys2Proof.Machine
end

