-- ==== Sys2Proof/Machine/Vector.lean ====
section
/-!
DEFINITION. The vector engine: VARITH, VFN, VDER, VCVT, VLX, VRED and VSTAT, from their start to their results (R126 to R135, R140, R506, R507).
-/
namespace Sys2Proof.Machine

/-! ## Elementwise arithmetic (R128, R129) -/

/-- The result of a VARITH operation: a, b and tD's value before it. -/
def arith (code : Nat) (a b d : Val) : Val :=
  match code with
  | 0 => a.add b
  | 1 => a.sub b
  | 2 => a.mul b
  | 3 => (a.mul b).add d
  | 4 => a.min b
  | 5 => a.max b
  | 6 => a.div b
  | 7 => a.sqrt
  | 8 => a.rsqrt
  | 9 => a.abs
  | _ => a.neg

/-- Whether an operation of VARITH reads b. -/
def readsB (code : Nat) : Bool := code ≤ 6

/-! ## Checks (R126 to R133) -/

/-- A format that a vector operation takes as an ordinary operand: neither LX nor E8M0 (R126). -/
def Tile.plain (t : Tile) : Bool := t.d.legal && t.d.fmt != fmtLX && t.d.fmt != fmtE8M0
/-- Whether two tiles have the same ROWS and C (R126). -/
def sameShape (a b : Tile) : Bool := a.rows == b.rows && a.cols == b.cols
/-- Whether a destination overlaps a source in another way than exactly (R126). -/
def badOverlap (t src : Tile) : Bool :=
  decide (src.slot < t.slot + t.span) && decide (t.slot < src.slot + src.span) && !(src.slot == t.slot && src.span == t.span)
/-- Whether CHOOSE into a row-scaled target lacks whole tensor rows (R127). -/
def partRows (t : Tile) (given : Bool) : Bool := t.d.saxis == 1 && !given && decide (t.cols < t.d.l)
/-- The rows of a tile's scale vector that a GIVEN conversion reads (R127). -/
def givenOffs (t : Tile) (given : Bool) : List Nat := if given then t.scaleOffs t.scaleLen else []


/-- The formats that VRED SCALE may name (R131). -/
def scaleFormat (f : Nat) : Bool := mayBeScaled f

/-- The faults of a VARITH as it starts (R126 to R128). -/
def arithFault (s : State) (c : CoreId) (t ta tb : Tile) (e : EFields) (xa : Word) : Option EngFault :=
  let b := readsB e.code && e.bmode != 3
  let shape := match e.bmode with | 0 => sameShape t tb | 1 => t.cols == tb.cols | _ => t.rows == tb.rows
  let bOffs := if !b then [] else match e.bmode with
    | 0 => tb.allOffs
    | 1 => ((List.range tb.span).map (fun k => tb.rowOff k 0)) ++ tb.scaleOffs tb.scaleLen
    | _ => ((List.range tb.rows).map (fun r => tb.rowOff 0 r)) ++ tb.scaleOffs tb.scaleLen
  (fmtFault (firstFault
    [(2, !t.plain), (0, !ta.plain), (0, !sameShape t ta), (1, b && !tb.plain), (1, b && !shape), (2, badOverlap t ta),
     (2, b && badOverlap t tb), (2, partRows t e.smode), (2, !roundingLegal t e xa)])).or
  (s.poisonFault c (ta.allOffs ++ bOffs ++ (if e.code == 3 then t.allOffs else givenOffs t e.smode)))

/-- The faults of VFN, VDER and VCVT as they start (R126, R130, R140). -/
def mapFault (s : State) (c : CoreId) (t ta : Tile) (tb : Option Tile) (e : EFields) (xa : Word) : Option EngFault :=
  let b := tb.getD ta
  (fmtFault (firstFault
    [(2, !t.plain), (0, !ta.plain), (0, !sameShape t ta), (1, !b.plain), (1, !sameShape t b), (2, badOverlap t ta),
     (2, badOverlap t b), (2, partRows t e.smode), (2, !roundingLegal t e xa)])).or
  (s.poisonFault c (ta.allOffs ++ (match tb with | some b => b.allOffs | none => []) ++ givenOffs t e.smode))

/-- Whether one of the first `n` accumulators of an LX tile has a reserved flag bit (R74). -/
def State.lxBad (s : State) (c slot n : Nat) : Bool := (List.range n).any (s.lxFlagBad c slot)

/-- The faults of VLX as it starts (R101, R126, R132). -/
def vlxFault (s : State) (c : CoreId) (t ta tb : Tile) (e : EFields) (xa : Word) : Option EngFault :=
  let lxRows (x : Tile) : List Nat := lxOffs x.slot
  let flag (which : Nat) (x : Tile) (n : Nat) : Option EngFault := if s.lxBad c x.slot n then some (.format which none) else none
  if e.code ≤ 1 then
    (((fmtFault (firstFault [(0, !ta.isLx), (1, !tb.isLx), (2, !t.isLx), (2, badOverlap t ta), (2, badOverlap t tb)])).or
      (s.poisonFault c (lxRows ta ++ lxRows tb))).or (flag 0 ta 128)).or (flag 1 tb 128)
  else if e.code == 2 then
    (fmtFault (firstFault [(0, !ta.plain), (2, !t.isLx), (0, decide (128 < ta.rows * ta.cols)), (2, badOverlap t ta)])).or
      (s.poisonFault c ta.allOffs)
  else
    ((fmtFault (firstFault [(0, !ta.isLx), (2, !t.plain), (2, t.d.saxis != 0 || decide (128 < t.rows * t.cols)), (2, badOverlap t ta),
      (2, !roundingLegal t e xa)])).or (s.poisonFault c (lxRows ta))).or (flag 0 ta (t.rows * t.cols))

/-- The result positions of a VRED: (r, 0) or (0, c) (R131). -/
def redPos (e : EFields) (i : Nat) : Nat × Nat := if e.byColumn then (0, i) else (i, 0)
/-- How many results a VRED has. -/
def redCount (ta : Tile) (e : EFields) : Nat := if e.byColumn then ta.cols else ta.rows

/-- The faults of VRED as it starts (R126, R127, R131, R506, R507). -/
def redFault (s : State) (c : CoreId) (t ta : Tile) (e : EFields) (xa : Word) : Option EngFault :=
  let n := redCount ta e
  let shape := if e.byColumn then t.cols == ta.cols else t.rows == ta.rows
  let posOffs := ((List.range n).map (fun i => let p := redPos e i; t.rowOff (p.2 / perRow t.d.fmt) p.1)) ++ t.scaleOffs t.scaleLen
  if e.code ≤ 1 then
    ((fmtFault (firstFault [(0, !ta.plain), (2, !t.isLx), (0, decide (128 < n)), (2, badOverlap t ta)])).or
      (s.poisonFault c (ta.allOffs ++ (if e.accum then lxOffs t.slot else [])))).or
      (if e.accum && s.lxBad c t.slot n then some (.format 2 none) else none)
  else if e.code == 5 then
    let f := bits e.func.toNat 4 4
    ((fmtFault (firstFault [(0, !ta.plain), (2, t.d.fmt != fmtE8M0 || !t.d.legal)])).or
      (if scaleFormat f then none else some (.format 2 (some f)))).or
      ((fmtFault (firstFault [(2, !shape), (2, badOverlap t ta), (2, !roundingLegal t e xa)])).or
       (s.poisonFault c (ta.allOffs ++ (if e.accum then posOffs else []))))
  else
    (fmtFault (firstFault
      [(0, !ta.plain), (2, !t.plain), (2, !shape), (2, badOverlap t ta), (2, partRows t e.smode), (2, !roundingLegal t e xa)])).or
    (s.poisonFault c (ta.allOffs ++ (if e.accum then posOffs else givenOffs t e.smode)))

/-- The faults of VSTAT as it starts (R126, R127, R133): the counted format is FUNC[11:8]. -/
def statFault (s : State) (c : CoreId) (t ta : Tile) (e : EFields) (xa : Word) : Option EngFault :=
  let k : TensorDesc := { t.d with fmt := e.code }
  let special (f : Nat) : Bool := f == fmtLX || f == fmtE8M0
  let counted (bad : Bool) : Option EngFault := if bad then some (.format 2 (some e.code)) else none
  ((((fmtFault (firstFault [(0, !ta.plain)])).or (counted (special e.code))).or
    (fmtFault (firstFault [(2, special t.d.fmt || !t.d.legal), (0, !sameShape t ta)]))).or (counted (!k.legal))).or
  ((fmtFault (firstFault [(2, partRows t e.smode), (2, !roundingLegal t e xa)])).or
   (s.poisonFault c (ta.allOffs ++ givenOffs t e.smode)))

/-- The fault of a vector operation as it starts. -/
def vecFault (s : State) (c : CoreId) (g : Stage) (o : EngOp) : Option EngFault :=
  let t := o.dst g
  let ta := o.srcA g
  let tb := o.srcB g
  let table (e : EFields) : Option EngFault := if NatSet.has (s.core c).tableBad e.code then some (.table e.code) else none
  match o.op with
  | .eng .varith e => arithFault s c t ta tb e o.xa
  | .eng .vfn e => (mapFault s c t ta none e o.xa).or (table e)
  | .eng .vder e => (mapFault s c t ta (some tb) e o.xa).or (table e)
  | .eng .vcvt e => mapFault s c t ta none e o.xa
  | .eng .vlx e => vlxFault s c t ta tb e o.xa
  | .eng .vred e => redFault s c t ta e o.xa
  | .eng .vstat e => statFault s c t ta e o.xa
  | _ => none

/-! ## Results -/

/-- Every exact result of an elementwise operation, from the element values of its sources. -/
def elementwise (rows cols : Nat) (f : Nat → Nat → Val) : List (List (Option Val)) :=
  (List.range rows).map (fun r => (List.range cols).map (fun c => some (f r c)))
/-- Element (r, c) of decoded values. -/
def at2 (v : List (List Val)) (r c : Nat) : Val := (v.getD r []).getD c .nan

/-- The exact results of VARITH (R128). -/
def State.arithRows (s : State) (c : CoreId) (t ta tb : Tile) (e : EFields) (xb : Word) : List (List (Option Val)) :=
  let a := s.tileVals c ta
  let b := if readsB e.code && e.bmode != 3 then s.tileVals c tb else []
  let d := if e.code == 3 then s.tileVals c t else []
  let k := decodeFp32 (bits xb.toNat 0 32)
  elementwise t.rows t.cols (fun r col =>
    let bv := match e.bmode with | 0 => at2 b r col | 1 => at2 b 0 col | 2 => at2 b r 0 | _ => k
    arith e.code (at2 a r col) bv (at2 d r col))

/-- The exact results of VFN, VDER and VCVT (R130, R140): `img` the table of the first two, `tb` the gradient of VDER. -/
def State.mapRows (s : State) (c : CoreId) (t ta : Tile) (tb : Option Tile) (img : Option (List Byte)) : List (List (Option Val)) :=
  let a := s.tileVals c ta
  let b := match tb with | some x => s.tileVals c x | none => []
  elementwise t.rows t.cols (fun r col =>
    let x := at2 a r col
    match img, tb with
    | none, _ => x
    | some im, none => evaluate im false x
    | some im, some _ => (evaluate im true x).mul (at2 b r col))

/-- The lines that a VRED reduces (R131). -/
def redLines (v : List (List Val)) (ta : Tile) (e : EFields) : List (List Val) :=
  if e.byColumn then (List.range ta.cols).map (fun c => v.map (fun r => r.getD c .nan)) else v

/-- The exact sum of a line into an LX value: each special value sets its flag, a square that is no multiple of 2^−320 sets NAN, and a total beyond the LX range sets the flag of its sign (R69, R506). The value stays exact. -/
def lxSum (line : List Val) (square : Bool) : LxValue :=
  let parts := line.map (fun v => (if square then v.mul v else v).toLx)
  let total := (parts.map (fun p => p.value)).sum
  ⟨total, parts.any (fun p => p.pos), parts.any (fun p => p.neg), parts.any (fun p => p.nan)⟩

/-- A value beyond the LX range sets the flag of its sign as it is written (R74, R506). -/
def lxExit (x : LxValue) : LxValue :=
  if lxInRange x.value then x else { x with pos := x.pos || decide (0 ≤ x.value), neg := x.neg || decide (x.value < 0) }

/-- The exact result of one accumulator of a SUM or SUMSQ, added to tD's value under ACCUMULATE (R75, R131). -/
def lxSumInto (old : Option LxValue) (x : LxValue) : LxValue :=
  match old with
  | none => x
  | some o => ⟨o.value + x.value, o.pos || x.pos, o.neg || x.neg, o.nan || x.nan⟩

/-- Counts range exits of LX values written as a tile (R74, R75, R83). Those of VLX and VRED count with those of SAVE (DESIGN CHOICE, log entry 48: R75 applies the range check of R74 to them, and R83 speaks of saves only). -/
def State.countRange (s : State) (c : CoreId) (n : Nat) : State :=
  if n = 0 then s
  else (s.bumpSat F.coreAccRangeCount (coreInst c) 0 n).setFld F.coreAccFlagsRange (coreInst c) 0 1

/-- The statistics of exact results into LX: each as it reads before it is written, with no overflow or underflow (R134). -/
def lxStats (l : List LxValue) : Stats := l.foldl (fun a v => a.combine (Stats.ofElem v.read ⟨0, false, false⟩)) Stats.zero

/-- Writes results into an LX tile (R74, R75), and adds the statistics of the exact ones and the range exits. -/
def State.putLx (s : State) (c : CoreId) (t : Tile) (vals exact : List LxValue) (exits : Nat) (rest : Nat → LxValue) : State :=
  let s := s.writeLx c t.slot (fun p => match vals[p]? with | some v => lxSave v.value v.pos v.neg v.nan | none => rest p)
  (s.countRange c exits).addStats c t.tdesc t.d (lxStats exact)

/-- SUM and SUMSQ (R131, R506). A line whose own result leaves the LX range has made a range exit too; the statistics are those of the exact results (R134). -/
def State.redSum (s : State) (c : CoreId) (t ta : Tile) (e : EFields) : State :=
  let lines := (redLines (s.tileVals c ta) ta e).map (fun l => lxSum l (e.code == 1))
  let into (l : List LxValue) : List LxValue :=
    l.zipIdx.map (fun x => lxSumInto (if e.accum then some (s.lxAt c t.slot x.2) else none) x.1)
  let out := into (lines.map lxExit)
  s.putLx c t out (into lines) ((lines.zip out).filter (fun x => !lxInRange x.1.value || !lxInRange x.2.value)).length
    (fun p => if e.accum then s.lxAt c t.slot p else LxValue.zero)

/-- The result of MAX, MIN or MAXABS over a line, combined with tD's value under ACCUMULATE (R131). -/
def redValue (code : Nat) (line : List Val) (old : Option Val) : Val :=
  let l := if code == 4 then line.map Val.abs else line
  let old := if code == 4 then old.map Val.abs else old
  match l ++ old.toList with
  | [] => .nan
  | v :: vs => vs.foldl (fun a b => if code == 3 then a.min b else a.max b) v

/-- The exact results of MAX, MIN and MAXABS at their positions; the other elements have none (R131, R507). -/
def State.redRows (s : State) (c : CoreId) (t ta : Tile) (e : EFields) : List (List (Option Val)) :=
  let lines := redLines (s.tileVals c ta) ta e
  let old := if e.accum then s.tileVals c t else []
  let res := lines.zipIdx.map (fun l => let p := redPos e l.2; redValue e.code l.1 (if e.accum then some (at2 old p.1 p.2) else none))
  (List.range t.rows).map (fun r => (List.range t.cols).map (fun col =>
    if (if e.byColumn then r else col) == 0 then res[if e.byColumn then col else r]? else none))

/-- SCALE: the code R41 chooses for each line, or the larger of it and tD's code, 0xFF being above every other (R131, R507). -/
def State.redScale (s : State) (c : CoreId) (t ta : Tile) (e : EFields) : State :=
  let f := bits e.func.toNat 4 4
  let codes := (redLines (s.tileVals c ta) ta e).zipIdx.map (fun l =>
    let p := redPos e l.2
    let k := chooseScale f l.1
    if e.accum then max k (s.elemCode c t p.1 p.2) else k)
  let s' := s.writeTile c t (fun r col => if (if e.byColumn then r else col) == 0 then codes[if e.byColumn then col else r]? else none)
  s'.addStats c t.tdesc t.d (codes.foldl (fun a k => a.combine (Stats.ofElem (decodeE8M0 k) ⟨0, false, false⟩)) Stats.zero)

/-- VLX ADD and SUB (R132). -/
def State.vlxSum (s : State) (c : CoreId) (t ta tb : Tile) (minus : Bool) : State :=
  let out := (List.range 128).map (fun p =>
    let b := s.lxAt c tb.slot p
    lxSumInto (some (s.lxAt c ta.slot p)) (if minus then b.negate else b))
  s.putLx c t out out (out.filter (fun x => !lxInRange x.value)).length (fun _ => LxValue.zero)

/-- VLX FROM (R132): the elements counted row by row, exactly; accumulators beyond are 0. -/
def State.vlxFrom (s : State) (c : CoreId) (t ta : Tile) : State :=
  let out := (s.tileVals c ta).flatten.map Val.toLx
  s.putLx c t out out 0 (fun _ => LxValue.zero)

/-- The exact results of VLX TO, row by row (R69, R132). -/
def State.vlxToRows (s : State) (c : CoreId) (t ta : Tile) : List (List (Option Val)) :=
  elementwise t.rows t.cols (fun r col => (s.lxAt c ta.slot (r * t.cols + col)).read)

/-- VSTAT: the contribution that converting tA would make, with tD's other settings (R133). -/
def State.statOnly (s : State) (c : CoreId) (g : Stage) (o : EngOp) (e : EFields) (t ta : Tile) : State :=
  let k := { (s.convertTo c t e e.smode) with fmt := e.code }
  let noise := elemNoise (s.srSeed c) t.d g.step o.xa
  let r := k.convert (if e.rnd == 2 then noise else fun _ _ => 0) ((s.tileVals c ta).map (fun row => row.map some))
  s.addStats c t.tdesc t.d r.stats

/-- What a finished vector operation writes. -/
def vecResult (s : State) (c : CoreId) (g : Stage) (o : EngOp) : State :=
  let t := o.dst g
  let ta := o.srcA g
  let tb := o.srcB g
  let img (e : EFields) : List Byte := Tab.get [] (s.core c).tableImgs e.code
  match o.op with
  | .eng .varith e => s.convertInto c g o e t e.smode (s.arithRows c t ta tb e o.xb)
  | .eng .vfn e => s.convertInto c g o e t e.smode (s.mapRows c t ta none (some (img e)))
  | .eng .vder e => s.convertInto c g o e t e.smode (s.mapRows c t ta (some tb) (some (img e)))
  | .eng .vcvt e => s.convertInto c g o e t e.smode (s.mapRows c t ta none none)
  | .eng .vlx e =>
    if e.code ≤ 1 then s.vlxSum c t ta tb (e.code == 1)
    else if e.code == 2 then s.vlxFrom c t ta
    else s.convertInto c g o e t false (s.vlxToRows c t ta)
  | .eng .vred e =>
    if e.code ≤ 1 then s.redSum c t ta e
    else if e.code == 5 then s.redScale c t ta e
    else s.convertInto c g o e t e.smode (s.redRows c t ta e)
  | .eng .vstat e => s.statOnly c g o e t ta
  | _ => s

/-- VECTOR_OP_START: the engine takes the next operation of its queue, once its waits are met and its stream buffers have landed; a fault refuses it (R96, R126, R135). -/
def vectorOpStart (s : State) (c : CoreId) : State :=
  s.withStage c (fun co g =>
    match co.vecQ with
    | [] => s
    | o :: rest =>
      if co.clear g o && co.fedReady o then
        let s := s.setCore c ({ co with vecQ := rest }).wakeQueue
        match vecFault s c g o with
        | some f => s.engFault c g o f
        | none => s.setCore c { (s.core c) with vecRun := (s.core c).vecRun ++ [o] }
      else s)

/-- VECTOR_OP_COMPLETE: the oldest started vector operation's results are written (R126, R134, R135). -/
def vectorOpComplete (s : State) (c : CoreId) : State :=
  s.withStage c (fun co g =>
    match co.vecRun with
    | [] => s
    | o :: rest =>
      let s := vecResult s c g o
      s.setCore c (({ (s.core c) with vecRun := rest }).releaseFed o))

/-! ## The commands -/

/-- A vector operation whose operation code is the row's. -/
def issueEng (b : Issue) (k : EngKind) (e : EFields) (code : Nat) (s : State) : State := issue b (.eng k (e.withCode code)) s

/-- VARITH_ADD (R128). -/
def execVarithAdd (b : Issue) (e : EFields) (s : State) : Host.Outcome State Fault Refusal := go (issueEng b .varith e 0 s)
/-- VARITH_SUB (R128). -/
def execVarithSub (b : Issue) (e : EFields) (s : State) : Host.Outcome State Fault Refusal := go (issueEng b .varith e 1 s)
/-- VARITH_MUL (R128). -/
def execVarithMul (b : Issue) (e : EFields) (s : State) : Host.Outcome State Fault Refusal := go (issueEng b .varith e 2 s)
/-- VARITH_FMA (R128). -/
def execVarithFma (b : Issue) (e : EFields) (s : State) : Host.Outcome State Fault Refusal := go (issueEng b .varith e 3 s)
/-- VARITH_MIN (R128). -/
def execVarithMin (b : Issue) (e : EFields) (s : State) : Host.Outcome State Fault Refusal := go (issueEng b .varith e 4 s)
/-- VARITH_MAX (R128). -/
def execVarithMax (b : Issue) (e : EFields) (s : State) : Host.Outcome State Fault Refusal := go (issueEng b .varith e 5 s)
/-- VARITH_DIV (R128). -/
def execVarithDiv (b : Issue) (e : EFields) (s : State) : Host.Outcome State Fault Refusal := go (issueEng b .varith e 6 s)
/-- VARITH_SQRT (R128). -/
def execVarithSqrt (b : Issue) (e : EFields) (s : State) : Host.Outcome State Fault Refusal := go (issueEng b .varith e 7 s)
/-- VARITH_RSQRT (R128). -/
def execVarithRsqrt (b : Issue) (e : EFields) (s : State) : Host.Outcome State Fault Refusal := go (issueEng b .varith e 8 s)
/-- VARITH_ABS (R128). -/
def execVarithAbs (b : Issue) (e : EFields) (s : State) : Host.Outcome State Fault Refusal := go (issueEng b .varith e 9 s)
/-- VARITH_NEG (R128). -/
def execVarithNeg (b : Issue) (e : EFields) (s : State) : Host.Outcome State Fault Refusal := go (issueEng b .varith e 10 s)
/-- VFN (R140). -/
def execVfn (b : Issue) (e : EFields) (s : State) : Host.Outcome State Fault Refusal := go (issue b (.eng .vfn e) s)
/-- VDER (R140). -/
def execVder (b : Issue) (e : EFields) (s : State) : Host.Outcome State Fault Refusal := go (issue b (.eng .vder e) s)
/-- VCVT (R130). -/
def execVcvt (b : Issue) (e : EFields) (s : State) : Host.Outcome State Fault Refusal := go (issue b (.eng .vcvt e) s)
/-- VLX_ADD (R132). -/
def execVlxAdd (b : Issue) (e : EFields) (s : State) : Host.Outcome State Fault Refusal := go (issueEng b .vlx e 0 s)
/-- VLX_SUB (R132). -/
def execVlxSub (b : Issue) (e : EFields) (s : State) : Host.Outcome State Fault Refusal := go (issueEng b .vlx e 1 s)
/-- VLX_FROM (R132). -/
def execVlxFrom (b : Issue) (e : EFields) (s : State) : Host.Outcome State Fault Refusal := go (issueEng b .vlx e 2 s)
/-- VLX_TO (R132). -/
def execVlxTo (b : Issue) (e : EFields) (s : State) : Host.Outcome State Fault Refusal := go (issueEng b .vlx e 3 s)
/-- VRED_SUM (R131). -/
def execVredSum (b : Issue) (e : EFields) (s : State) : Host.Outcome State Fault Refusal := go (issueEng b .vred e 0 s)
/-- VRED_SUMSQ (R131). -/
def execVredSumsq (b : Issue) (e : EFields) (s : State) : Host.Outcome State Fault Refusal := go (issueEng b .vred e 1 s)
/-- VRED_MAX (R131). -/
def execVredMax (b : Issue) (e : EFields) (s : State) : Host.Outcome State Fault Refusal := go (issueEng b .vred e 2 s)
/-- VRED_MIN (R131). -/
def execVredMin (b : Issue) (e : EFields) (s : State) : Host.Outcome State Fault Refusal := go (issueEng b .vred e 3 s)
/-- VRED_MAXABS (R131). -/
def execVredMaxabs (b : Issue) (e : EFields) (s : State) : Host.Outcome State Fault Refusal := go (issueEng b .vred e 4 s)
/-- VRED_SCALE (R131). -/
def execVredScale (b : Issue) (e : EFields) (s : State) : Host.Outcome State Fault Refusal := go (issueEng b .vred e 5 s)
/-- VSTAT (R133). -/
def execVstat (b : Issue) (e : EFields) (s : State) : Host.Outcome State Fault Refusal := go (issue b (.eng .vstat e) s)
/-- VECTOR_OP_START (R135). -/
def execVectorOpStart (c : CoreId) (s : State) : Host.Outcome State Fault Refusal := go (vectorOpStart s c)
/-- VECTOR_OP_COMPLETE (R135). -/
def execVectorOpComplete (c : CoreId) (s : State) : Host.Outcome State Fault Refusal := go (vectorOpComplete s c)

end Sys2Proof.Machine
end

