-- ==== Sys2Proof/Machine/Finish.lean ====
section
/-!
DEFINITION. The cluster finishing unit: FIN and its formulas (R143 to R145).
-/
namespace Sys2Proof.Machine

/-- The formulas of R144 for one element; `dot` is the row sum that SOFTMAX_D takes. d is NaN when y or g is NaN. -/
def finFormula (code : Nat) (y g k dot : Val) : Val :=
  let one := Val.dyadic 1 0
  let pos := (Val.zero false).lt y
  if y = .nan ∨ g = .nan then .nan
  else match code with
    | 0 => g.mul y
    | 1 => (g.mul y).mul (one.sub y)
    | 2 => g.mul (one.sub (y.mul y))
    | 3 => if pos then g else .zero false
    | 4 => if pos then g else g.mul k
    | _ => y.mul (g.sub dot)

/-- Σ g_j × y_j over the first `l` columns of a row, exactly (R144). -/
def rowDot (y g : List Val) (l : Nat) : Val :=
  (((g.zip y).take l).map (fun p => p.1.mul p.2)).foldl Val.add (.zero false)

/-- The faults of a FIN as it starts (R126, R127, R143, R144). -/
def finFault (s : State) (c : CoreId) (g : Stage) (o : EngOp) (e : EFields) : Option EngFault :=
  let t := o.dst g
  (mapFault s c t (o.srcA g) (some (o.srcB g)) e o.xa).or
    (if e.code == 5 && decide (t.cols < t.d.l) then some (.format 2 none) else none)

/-- The exact results of a FIN: y from tA, g from tB (R144). -/
def State.finRows (s : State) (c : CoreId) (g : Stage) (o : EngOp) (e : EFields) : List (List (Option Val)) :=
  let t := o.dst g
  let y := s.tileVals c (o.srcA g)
  let d := s.tileVals c (o.srcB g)
  let k := decodeFp32 (bits o.xb.toNat 0 32)
  let dots := if e.code == 5 then (List.range t.rows).map (fun r => rowDot (y.getD r []) (d.getD r []) t.d.l) else []
  elementwise t.rows t.cols (fun r col => finFormula e.code (at2 y r col) (at2 d r col) k (dots.getD r (.zero false)))

/-- A core of a cluster by its logical number. -/
def coreOf (cl : ClusterId) (k : Fin 8) : CoreId := Fin.ofNat 512 (8 * cl.val + k.val)

/-- The core whose FIN issued first among those queued on the cluster (R143). -/
def State.firstFin (s : State) (cl : ClusterId) : Option (Fin 8 × EngOp) :=
  ([0, 1, 2, 3, 4, 5, 6, 7] : List (Fin 8)).foldl (fun best k =>
    match (s.core (coreOf cl k)).finQ, best with
    | o :: _, some b => if o.order < b.2.order then some (k, o) else best
    | o :: _, none => some (k, o)
    | [], _ => best) none

/-- FIN_SERVE_START: the finishing unit takes the FIN that issued first, once its waits are met; a fault refuses it (R96, R143). -/
def finServeStart (s : State) (cl : ClusterId) : State :=
  let u := s.cluster cl.val
  match u.finRun, s.firstFin cl with
  | none, some (k, o) =>
    let c := coreOf cl k
    s.withStage c (fun co g =>
      match o.op with
      | .eng .fin e =>
        if co.clear g o && co.fedReady o then
          let s := s.setCore c ({ co with finQ := co.finQ.drop 1 }).wakeQueue
          match finFault s c g o e with
          | some f => s.engFault c g o f
          | none => (s.setCore c { (s.core c) with finRun := some o }).setCluster cl.val { u with finRun := some k }
        else s
      | _ => s)
  | _, _ => s

/-- FIN_COMPLETE: the result of the FIN being served is complete (R144, R145). -/
def finComplete (s : State) (cl : ClusterId) : State :=
  let u := s.cluster cl.val
  match u.finRun with
  | none => s
  | some k =>
    let c := coreOf cl k
    let s := s.setCluster cl.val { u with finRun := none }
    s.withStage c (fun co g =>
      match co.finRun with
      | some o =>
        let s := match o.op with
          | .eng .fin e => s.convertInto c g o e (o.dst g) e.smode (s.finRows c g o e)
          | _ => s
        s.setCore c (({ (s.core c) with finRun := none }).releaseFed o)
      | none => s)

/-! ## The commands -/

/-- EXP_D (R144). -/
def execExpD (b : Issue) (e : EFields) (s : State) : Host.Outcome State Fault Refusal := go (issueEng b .fin e 0 s)
/-- SIGMOID_D (R144). -/
def execSigmoidD (b : Issue) (e : EFields) (s : State) : Host.Outcome State Fault Refusal := go (issueEng b .fin e 1 s)
/-- TANH_D (R144). -/
def execTanhD (b : Issue) (e : EFields) (s : State) : Host.Outcome State Fault Refusal := go (issueEng b .fin e 2 s)
/-- RELU_D (R144). -/
def execReluD (b : Issue) (e : EFields) (s : State) : Host.Outcome State Fault Refusal := go (issueEng b .fin e 3 s)
/-- LEAKY_D (R144). -/
def execLeakyD (b : Issue) (e : EFields) (s : State) : Host.Outcome State Fault Refusal := go (issueEng b .fin e 4 s)
/-- SOFTMAX_D (R144). -/
def execSoftmaxD (b : Issue) (e : EFields) (s : State) : Host.Outcome State Fault Refusal := go (issueEng b .fin e 5 s)
/-- FIN_SERVE_START (R143). -/
def execFinServeStart (cl : ClusterId) (s : State) : Host.Outcome State Fault Refusal := go (finServeStart s cl)
/-- FIN_COMPLETE (R145). -/
def execFinComplete (cl : ClusterId) (s : State) : Host.Outcome State Fault Refusal := go (finComplete s cl)

end Sys2Proof.Machine
end

