-- ==== Sys2Proof/Machine/Gather.lean ====
section
/-!
DEFINITION. The gather engine: GATH and SCAT, their checks, sector requests and returns (R146 to R152).
-/
namespace Sys2Proof.Machine

/-- Bytes per row: S = 32 × (SECT + 1) (R146). -/
def gathRowBytes (e : EFields) : Nat := 32 * (bits e.func.toNat 5 7 + 1)
/-- Whether a SCAT adds (R150). -/
def scatAdds (e : EFields) : Bool := bits e.func.toNat 3 2 == 1

/-- The data tile of a GATH (tD) or a SCAT (tB), and which operand it is (R146, R150). -/
def gatherTile (g : Stage) (o : EngOp) : Tile × Nat :=
  match o.op with
  | .eng .scat _ => (o.srcB g, 1)
  | _ => (o.dst g, 2)

/-- The indices: element r of tA, counted row by row, as signed integers (R146). -/
def State.gatherIndices (s : State) (c : CoreId) (ta : Tile) (n : Nat) : List Int :=
  (((List.range ta.rows).map (s.rowCodes c ta)).flatten.take n).map (signed 32)

/-- The module address of a row: xa + v × xb (R146). xb is unsigned and the sum does not wrap, so that one past 2^64 lies in no region (DESIGN CHOICE, log entry 48). -/
def rowAddr (o : EngOp) (v : Int) : Int := (o.xa.toNat : Int) + v * (o.xb.toNat : Int)

/-- Whether a row's bytes lie in one memory region of a stack of the partition that the core reaches (R147, R220). -/
def State.rowReached (s : State) (c : CoreId) (z : Int) (n : Nat) : Bool :=
  decide (0 ≤ z) && s.rangeIsMemory z.toNat n && s.coreReaches c z.toNat

/-- The address fault of a GATH or SCAT, where there is one: the first offending address, or xa for a misaligned base or stride (R147). The first offending address is the start xa + v × xb, modulo 2^64, of the first row that offends, also where only its end leaves the region, or where its index is below −1 (DESIGN CHOICE, log entry 48). -/
def State.gatherAddress (s : State) (c : CoreId) (o : EngOp) (idx : List Int) (n : Nat) : Option EngFault :=
  if o.xa.toNat % 32 != 0 || o.xb.toNat % 32 != 0 then some (.address o.xa.toNat)
  else (idx.find? (fun v => v != -1 && (decide (v < 0) || !s.rowReached c (rowAddr o v) n))).map
    (fun v => .address (unsigned 64 (rowAddr o v)))

/-- The size of the elements that a SCAT ADD sums (R151). -/
def addSize : Nat → Option Nat
  | 9 => some 4 | 0xA => some 4 | 0xC => some 8 | _ => none

/-- The faults of a GATH or SCAT as it starts (R146, R147, R150 to R152). A tD that overlaps tA is a format fault on tD (DESIGN CHOICE, log entry 48: R146 says "must not" and names no outcome). -/
def gatherFault (s : State) (c : CoreId) (g : Stage) (o : EngOp) (e : EFields) : Option EngFault :=
  let (t, which) := gatherTile g o
  let ta := o.srcA g
  let n := gathRowBytes e
  let scat := which == 1
  ((fmtFault (firstFault
    [(0, !ta.d.legal || ta.d.fmt != fmtINT32 || ta.d.saxis != 0), (which, !t.d.legal), (0, decide (ta.rows * ta.cols < t.rows)),
     (which, decide (128 * t.span < n)), (2, !scat && decide (ta.slot < t.slot + t.span) && decide (t.slot < ta.slot + ta.span)),
     (1, scat && scatAdds e && (addSize t.d.fmt).isNone)])).or
   (s.poisonFault c ta.rowOffs)).or
  ((s.gatherAddress c o (s.gatherIndices c ta t.rows) n).or (if scat then s.poisonFault c t.rowOffs else none))

/-- The core store offset of byte `pos` of tile row `r` (R146). -/
def tileByte (t : Tile) (r pos : Nat) : Nat := t.rowOff (pos / 128) r + pos % 128

/-- The sectors of an operation in the order that they are requested: index order, then ascending address (R148). -/
def State.gatherSectors (s : State) (c : CoreId) (g : Stage) (o : EngOp) (e : EFields) : List GSector :=
  let (t, _) := gatherTile g o
  let ta := o.srcA g
  ((s.gatherIndices c ta t.rows).zipIdx.map (fun x =>
    if x.1 < 0 then []
    else (List.range (gathRowBytes e / 32)).map (fun k =>
      ({ row := x.2, pos := 32 * k, addr := (rowAddr o x.1).toNat + 32 * k, data := [], poison := false } : GSector)))).flatten

/-- A sector as it is sent: a SCAT reads its bytes then, and marks them poisoned where an uncorrectable error has come up in the row since the check of R152. -/
def State.readSector (s : State) (c : CoreId) (g : Stage) (o : EngOp) (x : GSector) : GSector :=
  let (t, which) := gatherTile g o
  let off := tileByte t x.row x.pos
  if which == 1 then { x with data := s.bytes (coreStoreKey (s.physCore c) off) 32, poison := s.rowPoisoned c off } else x

/-- The null rows of a GATH are written 0 (R146). A GATH writes its tile by pieces of 32 bytes, none of which covers a core store row, so that it never clears a poison bit (DESIGN CHOICE, log entry 48). -/
def State.zeroNullRows (s : State) (c : CoreId) (g : Stage) (o : EngOp) (e : EFields) : State :=
  let (t, which) := gatherTile g o
  if which == 1 then s
  else s.each ((s.gatherIndices c (o.srcA g) t.rows).zipIdx.filter (fun x => x.1 == -1)) (fun s x =>
    s.each (List.range (gathRowBytes e / 32)) (fun s k => s.storeWrite c (tileByte t x.2 (32 * k)) (List.replicate 32 0) false))

/-- The running operation after a change, or none once every sector has been sent and has returned (R148). -/
def gatherLeft (r : GathRun) : Option GathRun := if r.toSend.isEmpty && r.outst.isEmpty then none else some r

/-- GATHER_OP_START: the engine takes the next operation of its queue and makes every check before it sends anything (R147, R148). A SCAT whose tB is stream-fed waits for its buffer and releases it here (DESIGN CHOICE, log entry 48: R150 calls tB resident and names no outcome). -/
def gatherOpStart (s : State) (c : CoreId) : State :=
  s.withStage c (fun co g =>
    match co.gathRun, co.gathQ with
    | none, o :: rest =>
      if co.clear g o && co.fedReady o then
        let s := s.setCore c ({ co with gathQ := rest }).wakeQueue
        let start (e : EFields) : State :=
          match gatherFault s c g o e with
          | some f => s.engFault c g o f
          | none =>
            let s := s.zeroNullRows c g o e
            s.setCore c ({ (s.core c) with gathRun := gatherLeft ⟨o, s.gatherSectors c g o e, []⟩ }.releaseFed o)
        match o.op with
        | .eng .gath e => start e
        | .eng .scat e => start e
        | _ => s
      else s
    | _, _ => s)

/-- GATHER_SECTOR_REQUEST: one sector request is sent while fewer than 64 are outstanding; one that needs a DOWN Hallway link raises ADDRESS (R148, R220). -/
def gatherSectorRequest (s : State) (c : CoreId) : State :=
  s.withStage c (fun co g =>
    match co.gathRun with
    | none => s
    | some r =>
      match r.toSend with
      | [] => s
      | x :: rest =>
        if r.outst.length ≥ 64 then s
        else if !s.coreReaches c x.addr then (s.setCore c { co with gathRun := none }).engFault c g r.eng (.address x.addr)
        else
          let s := s.setCore c { co with
            gathRun := some { r with toSend := rest, outst := r.outst ++ [(co.nextId, s.readSector c g r.eng x)] }, nextId := co.nextId + 1 }
          match r.eng.op with
          | .eng .scat _ => s.markLesson (clusterOfCore c) (fun l => { l with wroteMemory := true })
          | _ => s)

/-- The element values of a SCAT's sector. -/
def sectorElems (size : Nat) (data : List Byte) : List Nat :=
  (List.range (data.length / size)).map (fun i => ofBytes ((data.drop (size * i)).take size))

/-- A sector of a GATH lands in its tile row, or one of a SCAT is accepted at its home slice (R149 to R151); one that an uncorrectable error has hit leaves its sector of memory poisoned, stored or added (R152). -/
def State.sectorDone (s : State) (c : CoreId) (g : Stage) (o : EngOp) (x : GSector) : State :=
  let (t, _) := gatherTile g o
  let here := stackOfCore c
  match o.op with
  | .eng .scat e =>
    let s := s.countHallway here (addrStack x.addr) 32
    (match scatAdds e, addSize t.d.fmt with
     | true, some size =>
       let s := s.memReduce 2 x.addr size size (sectorElems size x.data)
       if x.poison && !s.discards x.addr then s.setPoison x.addr true else s
     | _, _ => s.memWrite 2 x.addr x.data x.poison)
  | _ =>
    let lost := s.hallwayDown here (addrStack x.addr)
    let (s, data, bad) := s.memRead 2 x.addr 32
    (s.storeWrite c (tileByte t x.row x.pos) data (bad || lost)).countHallway (addrStack x.addr) here 32

/-- Whether a sector of a SCAT waits for an earlier one of the same operation to the same address, so that the highest row prevails (R151). -/
def GathRun.behind (r : GathRun) (n : Nat) (x : GSector) : Bool :=
  match r.eng.op with
  | .eng .scat _ => r.outst.any (fun y => y.1 < n && y.2.addr == x.addr)
  | _ => false

/-- GATHER_SECTOR_RETURN: an outstanding sector returns, in any order, and frees its entry; the last one completes the operation (R148). -/
def gatherSectorReturn (s : State) (c : CoreId) (n : Nat) : State :=
  s.withStage c (fun co g =>
    match co.gathRun with
    | none => s
    | some r =>
      match r.outst.find? (fun y => y.1 == n) with
      | none => s
      | some (_, x) =>
        if r.behind n x || !s.sliceReady x.addr then s
        else
          let s := s.sectorDone c g r.eng x
          let co := s.core c
          s.setCore c { co with gathRun := gatherLeft { r with outst := r.outst.filter (fun y => y.1 != n) } })

/-! ## The commands -/

/-- A SCAT whose MODE is the row's (R150). -/
def scatMode (e : EFields) (mode : Nat) : EFields := { e with func := BitVec.ofNat 12 (putBits e.func.toNat 3 2 mode) }

/-- GATH (R146). -/
def execGath (b : Issue) (e : EFields) (s : State) : Host.Outcome State Fault Refusal := go (issue b (.eng .gath e) s)
/-- SCAT_STORE (R150). -/
def execScatStore (b : Issue) (e : EFields) (s : State) : Host.Outcome State Fault Refusal := go (issue b (.eng .scat (scatMode e 0)) s)
/-- SCAT_ADD (R150). -/
def execScatAdd (b : Issue) (e : EFields) (s : State) : Host.Outcome State Fault Refusal := go (issue b (.eng .scat (scatMode e 1)) s)
/-- GATHER_OP_START (R147). -/
def execGatherOpStart (c : CoreId) (s : State) : Host.Outcome State Fault Refusal := go (gatherOpStart s c)
/-- GATHER_SECTOR_REQUEST (R148). -/
def execGatherSectorRequest (c : CoreId) (s : State) : Host.Outcome State Fault Refusal := go (gatherSectorRequest s c)
/-- GATHER_SECTOR_RETURN (R148). -/
def execGatherSectorReturn (c : CoreId) (n : Nat) (s : State) : Host.Outcome State Fault Refusal := go (gatherSectorReturn s c n)

end Sys2Proof.Machine
end

