-- ==== Sys2Proof/Machine/RegisterRows.lean ====
section
/-!
DEFINITION. The commands that are each a write of one register: they go through the access rules of a register write over the requester's path (R8 to R10, R25, R27, R475, R482).
-/
namespace Sys2Proof.Machine

/-- ARM (R237). -/
def execArm (who : Requester) (st : StackId) (step : BitVec 32) (s : State) : Host.Outcome State Fault Refusal :=
  .next (regCommand s who .markerArm st.val 0 step.toNat)
/-- ABANDON (R255). -/
def execAbandon (who : Requester) (st : StackId) (s : State) : Host.Outcome State Fault Refusal :=
  .next (regCommand s who .markerStepCmd st.val 0 1)
/-- MARKER_MODE_WRITE (R263). -/
def execMarkerModeWrite (who : Requester) (st : StackId) (mode : BitVec 2) (s : State) : Host.Outcome State Fault Refusal :=
  .next (regCommand s who .markerState st.val 0 mode.toNat)
/-- COMMITTED_STEP_WRITE (R263). -/
def execCommittedStepWrite (who : Requester) (st : StackId) (step : BitVec 32) (s : State) : Host.Outcome State Fault Refusal :=
  .next (regCommand s who .markerCommittedStep st.val 0 step.toNat)
/-- INVROOT (R265). -/
def execInvroot (who : Requester) (st : StackId) (side p4 : Bool) (iters : BitVec 7) (index : BitVec 17) (s : State) : Host.Outcome State Fault Refusal :=
  .next (regCommand s who .markerCalCmd st.val 0 (1 + bit side * 2 ^ 2 + bit p4 * 2 ^ 3 + iters.toNat * 2 ^ 4 + index.toNat * 2 ^ 16))
/-- ORTHO (R266). -/
def execOrtho (who : Requester) (st : StackId) (side : Bool) (iters : BitVec 7) (index : BitVec 17) (s : State) : Host.Outcome State Fault Refusal :=
  .next (regCommand s who .markerCalCmd st.val 0 (2 + bit side * 2 ^ 2 + iters.toNat * 2 ^ 4 + index.toNat * 2 ^ 16))
/-- HW_HEAD_WRITE (R272). -/
def execHwHeadWrite (who : Requester) (st : StackId) (off : BitVec 32) (s : State) : Host.Outcome State Fault Refusal :=
  .next (regCommand s who .markerHwHead st.val 0 off.toNat)
/-- PORT_ENABLE (R277). -/
def execPortEnable (who : Requester) (p : Port) (s : State) : Host.Outcome State Fault Refusal :=
  .next (regCommand s who .fabricCtrl p.val 0 1)
/-- PORT_DISABLE (R310). -/
def execPortDisable (who : Requester) (p : Port) (s : State) : Host.Outcome State Fault Refusal :=
  .next (regCommand s who .fabricCtrl p.val 0 0)
/-- SEAT_WRITE (R337). -/
def execSeatWrite (who : Requester) (value : BitVec 32) (s : State) : Host.Outcome State Fault Refusal :=
  .next (regCommand s who .fabricSeat 0 0 value.toNat)
/-- CORRIDOR_JOIN (R330): TIME_MASTER is written as it stands. -/
def execCorridorJoin (who : Requester) (s : State) : Host.Outcome State Fault Refusal :=
  .next (regCommand s who .corridorCtrl 0 0 (1 + s.fld F.corridorCtrlTimeMaster * 2))
/-- STOP_SEND (R331). -/
def execStopSend (who : Requester) (job : BitVec 32) (s : State) : Host.Outcome State Fault Refusal :=
  .next (regCommand s who .corridorStopSend 0 0 job.toNat)
/-- STOP_CLEAR (R331). -/
def execStopClear (who : Requester) (parts : BitVec 4) (s : State) : Host.Outcome State Fault Refusal :=
  .next (regCommand s who .corridorStopClear 0 0 parts.toNat)
/-- PRIMARY_WRITE (R344). -/
def execPrimaryWrite (who : Requester) (h : HostPort) (s : State) : Host.Outcome State Fault Refusal :=
  .next (regCommand s who .hostCtrl h.val 0 1)
/-- DOORBELL (R358). -/
def execDoorbell (who : Requester) (q : QueueId) (tail : BitVec 32) (s : State) : Host.Outcome State Fault Refusal :=
  .next (regCommand s who .queueDoorbell 0 q.val tail.toNat)
/-- CQ_HEAD_WRITE (R364). -/
def execCqHeadWrite (who : Requester) (q : QueueId) (index : BitVec 32) (s : State) : Host.Outcome State Fault Refusal :=
  .next (regCommand s who .queueCqHead 0 q.val index.toNat)
/-- QUEUE_ENABLE (R369). -/
def execQueueEnable (who : Requester) (q : QueueId) (s : State) : Host.Outcome State Fault Refusal :=
  .next (regCommand s who .queueCtrl 0 q.val 1)
/-- QUEUE_RESUME (R360). -/
def execQueueResume (who : Requester) (q : QueueId) (s : State) : Host.Outcome State Fault Refusal :=
  .next (regCommand s who .queueCtrl 0 q.val 2)
/-- QUEUE_DETACH (R368). -/
def execQueueDetach (who : Requester) (q : QueueId) (s : State) : Host.Outcome State Fault Refusal :=
  .next (regCommand s who .queueCtrl 0 q.val 4)
/-- STEP_RING_ENABLE (R369). -/
def execStepRingEnable (who : Requester) (part : Fin 4) (s : State) : Host.Outcome State Fault Refusal :=
  .next (regCommand s who .queueStepCtrl 0 part.val 1)
/-- STEP_RING_DETACH (R368). -/
def execStepRingDetach (who : Requester) (part : Fin 4) (s : State) : Host.Outcome State Fault Refusal :=
  .next (regCommand s who .queueStepCtrl 0 part.val 2)
/-- STEP_HEAD_WRITE (R365). -/
def execStepHeadWrite (who : Requester) (part : Fin 4) (index : BitVec 32) (s : State) : Host.Outcome State Fault Refusal :=
  .next (regCommand s who .queueStepHead 0 part.val index.toNat)
/-- RULE_STEP (R392). -/
def execRuleStep (who : Requester) (st : StackId) (step : BitVec 32) (s : State) : Host.Outcome State Fault Refusal :=
  .next (regCommand s who .tutorRuleStep st.val 0 step.toNat)
/-- RECESS (R396). -/
def execRecess (who : Requester) (stackSet : BitVec 4) (timeoutMs : BitVec 14) (s : State) : Host.Outcome State Fault Refusal :=
  .next (regCommand s who .powerPstateCmd 0 0 (1 + stackSet.toNat * 2 ^ 4 + timeoutMs.toNat * 2 ^ 16))
/-- WAKE (R400). -/
def execWake (who : Requester) (stackSet : BitVec 4) (s : State) : Host.Outcome State Fault Refusal :=
  .next (regCommand s who .powerPstateCmd 0 0 (2 + stackSet.toNat * 2 ^ 4))
/-- CAP_WRITE (R404). -/
def execCapWrite (who : Requester) (watts : BitVec 13) (s : State) : Host.Outcome State Fault Refusal :=
  .next (regCommand s who .powerCap 0 0 watts.toNat)
/-- HOST_LIMIT_WRITE (R411). -/
def execHostLimitWrite (who : Requester) (st : StackId) (rate : BitVec 7) (s : State) : Host.Outcome State Fault Refusal :=
  .next (regCommand s who .powerHostLimit st.val 0 rate.toNat)
/-- SUSPECT_CLEAR (R414). -/
def execSuspectClear (who : Requester) (st : StackId) (sensor : Fin 44) (s : State) : Host.Outcome State Fault Refusal :=
  .next (regCommand s who .thermalSensor st.val sensor.val (2 ^ 25))
/-- MODULE_COLD (R446). -/
def execModuleCold (who : Requester) (confirm : BitVec 16) (s : State) : Host.Outcome State Fault Refusal :=
  .next (regCommand s who .proctorResetCmd 0 0 (domCOLD + confirm.toNat * 2 ^ 16))
/-- MODULE_WARM (R446). -/
def execModuleWarm (who : Requester) (confirm : BitVec 16) (s : State) : Host.Outcome State Fault Refusal :=
  .next (regCommand s who .proctorResetCmd 0 0 (domWARM + confirm.toNat * 2 ^ 16))
/-- PARTITION (R446). -/
def execPartition (who : Requester) (part : BitVec 2) (s : State) : Host.Outcome State Fault Refusal :=
  .next (regCommand s who .proctorResetCmd 0 0 (domPARTITION + part.toNat * 2 ^ 8))
/-- STACK (R446). -/
def execStack (who : Requester) (stackSet : BitVec 4) (s : State) : Host.Outcome State Fault Refusal :=
  .next (regCommand s who .proctorResetCmd 0 0 (domSTACK + stackSet.toNat * 2 ^ 4))
/-- BASE_DIE (R446). -/
def execBaseDie (who : Requester) (stackSet : BitVec 4) (s : State) : Host.Outcome State Fault Refusal :=
  .next (regCommand s who .proctorResetCmd 0 0 (domBASE + stackSet.toNat * 2 ^ 4))
/-- FW_SVN_COMMIT (R464). -/
def execFwSvnCommit (who : Requester) (s : State) : Host.Outcome State Fault Refusal :=
  .next (regCommand s who .secFwSvnCommit 0 0 1)
/-- DIARY_INDEX_WRITE (R486). -/
def execDiaryIndexWrite (who : Requester) (isSeal : Bool) (index : BitVec 32) (s : State) : Host.Outcome State Fault Refusal :=
  .next (regCommand s who (if isSeal then .diarySealIndex else .diaryEntryIndex) 0 0 index.toNat)

end Sys2Proof.Machine
end

