-- ==== Sys2Proof/Machine/Dispatch.lean ====
section
/-!
DEFINITION. The dispatch: one arm per command, each a direct call of its meaning.
-/
namespace Sys2Proof.Machine
open Sys2Proof

/-- The effect of a command on everything but the queue of pending commands. -/
def exec (i : Instr) (s : State) : Host.Outcome State Fault Refusal :=
  match i with
  | .registerWrite who off size value => Sys2Proof.Machine.execRegisterWrite who off size value s
  | .rcFieldRead who off size => Sys2Proof.Machine.execRcFieldRead who off size s
  | .add b rd ra rb => Sys2Proof.Machine.execAdd b rd ra rb s
  | .sub b rd ra rb => Sys2Proof.Machine.execSub b rd ra rb s
  | .and b rd ra rb => Sys2Proof.Machine.execAnd b rd ra rb s
  | .or b rd ra rb => Sys2Proof.Machine.execOr b rd ra rb s
  | .xor b rd ra rb => Sys2Proof.Machine.execXor b rd ra rb s
  | .shl b rd ra rb => Sys2Proof.Machine.execShl b rd ra rb s
  | .shr b rd ra rb => Sys2Proof.Machine.execShr b rd ra rb s
  | .sra b rd ra rb => Sys2Proof.Machine.execSra b rd ra rb s
  | .mul b rd ra rb => Sys2Proof.Machine.execMul b rd ra rb s
  | .mulhu b rd ra rb => Sys2Proof.Machine.execMulhu b rd ra rb s
  | .min b rd ra rb => Sys2Proof.Machine.execMin b rd ra rb s
  | .max b rd ra rb => Sys2Proof.Machine.execMax b rd ra rb s
  | .slt b rd ra rb => Sys2Proof.Machine.execSlt b rd ra rb s
  | .sltu b rd ra rb => Sys2Proof.Machine.execSltu b rd ra rb s
  | .seq b rd ra rb => Sys2Proof.Machine.execSeq b rd ra rb s
  | .addi b rd ra imm => Sys2Proof.Machine.execAddi b rd ra imm s
  | .andi b rd ra imm => Sys2Proof.Machine.execAndi b rd ra imm s
  | .ori b rd ra imm => Sys2Proof.Machine.execOri b rd ra imm s
  | .xori b rd ra imm => Sys2Proof.Machine.execXori b rd ra imm s
  | .shli b rd ra imm => Sys2Proof.Machine.execShli b rd ra imm s
  | .shri b rd ra imm => Sys2Proof.Machine.execShri b rd ra imm s
  | .srai b rd ra imm => Sys2Proof.Machine.execSrai b rd ra imm s
  | .slti b rd ra imm => Sys2Proof.Machine.execSlti b rd ra imm s
  | .sltiu b rd ra imm => Sys2Proof.Machine.execSltiu b rd ra imm s
  | .seqi b rd ra imm => Sys2Proof.Machine.execSeqi b rd ra imm s
  | .li at' rd imm => Sys2Proof.Machine.execLi at' rd imm s
  | .csrr b rd imm => Sys2Proof.Machine.execCsrr b rd imm s
  | .ld8u b rd ra imm => Sys2Proof.Machine.execLd8u b rd ra imm s
  | .ld16u b rd ra imm => Sys2Proof.Machine.execLd16u b rd ra imm s
  | .ld32u b rd ra imm => Sys2Proof.Machine.execLd32u b rd ra imm s
  | .ld64 b rd ra imm => Sys2Proof.Machine.execLd64 b rd ra imm s
  | .st8 b rd ra imm => Sys2Proof.Machine.execSt8 b rd ra imm s
  | .st16 b rd ra imm => Sys2Proof.Machine.execSt16 b rd ra imm s
  | .st32 b rd ra imm => Sys2Proof.Machine.execSt32 b rd ra imm s
  | .st64 b rd ra imm => Sys2Proof.Machine.execSt64 b rd ra imm s
  | .ldx64 b rd ra imm => Sys2Proof.Machine.execLdx64 b rd ra imm s
  | .ldx32u b rd ra imm => Sys2Proof.Machine.execLdx32u b rd ra imm s
  | .stx64 b rd ra imm => Sys2Proof.Machine.execStx64 b rd ra imm s
  | .stx32 b rd ra imm => Sys2Proof.Machine.execStx32 b rd ra imm s
  | .ldxReturn c id => Sys2Proof.Machine.execLdxReturn c id s
  | .stxAccepted c id => Sys2Proof.Machine.execStxAccepted c id s
  | .beq b ra rb off => Sys2Proof.Machine.execBeq b ra rb off s
  | .bne b ra rb off => Sys2Proof.Machine.execBne b ra rb off s
  | .blt b ra rb off => Sys2Proof.Machine.execBlt b ra rb off s
  | .bge b ra rb off => Sys2Proof.Machine.execBge b ra rb off s
  | .bltu b ra rb off => Sys2Proof.Machine.execBltu b ra rb off s
  | .bgeu b ra rb off => Sys2Proof.Machine.execBgeu b ra rb off s
  | .jal b rd off => Sys2Proof.Machine.execJal b rd off s
  | .jalr b rd ra imm => Sys2Proof.Machine.execJalr b rd ra imm s
  | .fence b => Sys2Proof.Machine.execFence b s
  | .fenceComplete at' => Sys2Proof.Machine.execFenceComplete at' s
  | .halt b => Sys2Proof.Machine.execHalt b s
  | .trap b imm => Sys2Proof.Machine.execTrap b imm s
  | .tset b td ra => Sys2Proof.Machine.execTset b td ra s
  | .tget b rd ta => Sys2Proof.Machine.execTget b rd ta s
  | .tslot b td ta imm => Sys2Proof.Machine.execTslot b td ta imm s
  | .tli at' td imm => Sys2Proof.Machine.execTli at' td imm s
  | .mma b m => Sys2Proof.Machine.execMma b m s
  | .mmaOccupancyStart c => Sys2Proof.Machine.execMmaOccupancyStart c s
  | .mmaLastDeposit c => Sys2Proof.Machine.execMmaLastDeposit c s
  | .save b e => Sys2Proof.Machine.execSave b e s
  | .rest b e => Sys2Proof.Machine.execRest b e s
  | .rnd b e => Sys2Proof.Machine.execRnd b e s
  | .slateOpStart c => Sys2Proof.Machine.execSlateOpStart c s
  | .slateOpComplete c => Sys2Proof.Machine.execSlateOpComplete c s
  | .varithAdd b e => Sys2Proof.Machine.execVarithAdd b e s
  | .varithSub b e => Sys2Proof.Machine.execVarithSub b e s
  | .varithMul b e => Sys2Proof.Machine.execVarithMul b e s
  | .varithFma b e => Sys2Proof.Machine.execVarithFma b e s
  | .varithMin b e => Sys2Proof.Machine.execVarithMin b e s
  | .varithMax b e => Sys2Proof.Machine.execVarithMax b e s
  | .varithDiv b e => Sys2Proof.Machine.execVarithDiv b e s
  | .varithSqrt b e => Sys2Proof.Machine.execVarithSqrt b e s
  | .varithRsqrt b e => Sys2Proof.Machine.execVarithRsqrt b e s
  | .varithAbs b e => Sys2Proof.Machine.execVarithAbs b e s
  | .varithNeg b e => Sys2Proof.Machine.execVarithNeg b e s
  | .vfn b e => Sys2Proof.Machine.execVfn b e s
  | .vder b e => Sys2Proof.Machine.execVder b e s
  | .vcvt b e => Sys2Proof.Machine.execVcvt b e s
  | .vlxAdd b e => Sys2Proof.Machine.execVlxAdd b e s
  | .vlxSub b e => Sys2Proof.Machine.execVlxSub b e s
  | .vlxFrom b e => Sys2Proof.Machine.execVlxFrom b e s
  | .vlxTo b e => Sys2Proof.Machine.execVlxTo b e s
  | .vredSum b e => Sys2Proof.Machine.execVredSum b e s
  | .vredSumsq b e => Sys2Proof.Machine.execVredSumsq b e s
  | .vredMax b e => Sys2Proof.Machine.execVredMax b e s
  | .vredMin b e => Sys2Proof.Machine.execVredMin b e s
  | .vredMaxabs b e => Sys2Proof.Machine.execVredMaxabs b e s
  | .vredScale b e => Sys2Proof.Machine.execVredScale b e s
  | .vstat b e => Sys2Proof.Machine.execVstat b e s
  | .vectorOpStart c => Sys2Proof.Machine.execVectorOpStart c s
  | .vectorOpComplete c => Sys2Proof.Machine.execVectorOpComplete c s
  | .gath b e => Sys2Proof.Machine.execGath b e s
  | .scatStore b e => Sys2Proof.Machine.execScatStore b e s
  | .scatAdd b e => Sys2Proof.Machine.execScatAdd b e s
  | .gatherOpStart c => Sys2Proof.Machine.execGatherOpStart c s
  | .gatherSectorRequest c => Sys2Proof.Machine.execGatherSectorRequest c s
  | .gatherSectorReturn c n => Sys2Proof.Machine.execGatherSectorReturn c n s
  | .expD b e => Sys2Proof.Machine.execExpD b e s
  | .sigmoidD b e => Sys2Proof.Machine.execSigmoidD b e s
  | .tanhD b e => Sys2Proof.Machine.execTanhD b e s
  | .reluD b e => Sys2Proof.Machine.execReluD b e s
  | .leakyD b e => Sys2Proof.Machine.execLeakyD b e s
  | .softmaxD b e => Sys2Proof.Machine.execSoftmaxD b e s
  | .finServeStart cl => Sys2Proof.Machine.execFinServeStart cl s
  | .finComplete cl => Sys2Proof.Machine.execFinComplete cl s
  | .sarm b f => Sys2Proof.Machine.execSarm b f s
  | .swait b f => Sys2Proof.Machine.execSwait b f s
  | .srel b f => Sys2Proof.Machine.execSrel b f s
  | .sqry b f => Sys2Proof.Machine.execSqry b f s
  | .streamTransferStart c d => Sys2Proof.Machine.execStreamTransferStart c d s
  | .streamRequestSend c => Sys2Proof.Machine.execStreamRequestSend c s
  | .streamRequestReturn c n => Sys2Proof.Machine.execStreamRequestReturn c n s
  | .streamTransferComplete c d => Sys2Proof.Machine.execStreamTransferComplete c d s
  | .linkBufferMove c d => Sys2Proof.Machine.execLinkBufferMove c d s
  | .assemblyBufferAccept c d => Sys2Proof.Machine.execAssemblyBufferAccept c d s
  | .bell b group xa => Sys2Proof.Machine.execBell b group xa s
  | .bellArrivalReport group st => Sys2Proof.Machine.execBellArrivalReport group st s
  | .bellRelease group => Sys2Proof.Machine.execBellRelease group s
  | .bellTimeout group => Sys2Proof.Machine.execBellTimeout group s
  | .lesson q => Sys2Proof.Machine.execLesson q s
  | .tutorPartMessage n => Sys2Proof.Machine.execTutorPartMessage n s
  | .lessonPartStart cl => Sys2Proof.Machine.execLessonPartStart cl s
  | .stageEnd c => Sys2Proof.Machine.execStageEnd c s
  | .stageLoadComplete c => Sys2Proof.Machine.execStageLoadComplete c s
  | .clusterLessonStop cl => Sys2Proof.Machine.execClusterLessonStop cl s
  | .coresReportIdle cl => Sys2Proof.Machine.execCoresReportIdle cl s
  | .lessonTimeout id => Sys2Proof.Machine.execLessonTimeout id s
  | .lessonRetire id => Sys2Proof.Machine.execLessonRetire id s
  | .lessonCompletionWrite id => Sys2Proof.Machine.execLessonCompletionWrite id s
  | .abort q => Sys2Proof.Machine.execAbort q s
  | .spareCoreSwitch cl core => Sys2Proof.Machine.execSpareCoreSwitch cl core s
  | .coreStoreTest c pass => Sys2Proof.Machine.execCoreStoreTest c pass s
  | .istoreReload cl off ok => Sys2Proof.Machine.execIstoreReload cl off ok s
  | .sliceRead addr cls => Sys2Proof.Machine.execSliceRead addr cls s
  | .sliceWrite addr data poison cls => Sys2Proof.Machine.execSliceWrite addr data poison cls s
  | .reduceAdd32 addr data cls => Sys2Proof.Machine.execReduceAdd32 addr data cls s
  | .reduceAdd64 addr data cls => Sys2Proof.Machine.execReduceAdd64 addr data cls s
  | .reduceAdd32to64 addr data cls => Sys2Proof.Machine.execReduceAdd32to64 addr data cls s
  | .reduceStats addr rec => Sys2Proof.Machine.execReduceStats addr rec s
  | .sectorFetchReturn addr found => Sys2Proof.Machine.execSectorFetchReturn addr found s
  | .holdWritebackComplete sl line => Sys2Proof.Machine.execHoldWritebackComplete sl line s
  | .pin sl => Sys2Proof.Machine.execPin sl s
  | .unpin sl => Sys2Proof.Machine.execUnpin sl s
  | .hallwayFlitError l => Sys2Proof.Machine.execHallwayFlitError l s
  | .hallwayRetrain l lane => Sys2Proof.Machine.execHallwayRetrain l lane s
  | .hallwayRetrainComplete l ok => Sys2Proof.Machine.execHallwayRetrainComplete l ok s
  | .hallwayDown l => Sys2Proof.Machine.execHallwayDown l s
  | .hbmLaneRepair sl pseudo lane => Sys2Proof.Machine.execHbmLaneRepair sl pseudo lane s
  | .hbmRowRepair sl row => Sys2Proof.Machine.execHbmRowRepair sl row s
  | .hbmRepairComplete sl => Sys2Proof.Machine.execHbmRepairComplete sl s
  | .hbmChannelFailed sl => Sys2Proof.Machine.execHbmChannelFailed sl s
  | .arm who st step => Sys2Proof.Machine.execArm who st step s
  | .armScanComplete st => Sys2Proof.Machine.execArmScanComplete st s
  | .gradientChunk st chunk => Sys2Proof.Machine.execGradientChunk st chunk s
  | .normQArrival st step q => Sys2Proof.Machine.execNormQArrival st step q s
  | .stepDecision st => Sys2Proof.Machine.execStepDecision st s
  | .clipRerunComplete st => Sys2Proof.Machine.execClipRerunComplete st s
  | .markerCommit st => Sys2Proof.Machine.execMarkerCommit st s
  | .abandon who st => Sys2Proof.Machine.execAbandon who st s
  | .markerModeWrite who st mode => Sys2Proof.Machine.execMarkerModeWrite who st mode s
  | .committedStepWrite who st step => Sys2Proof.Machine.execCommittedStepWrite who st step s
  | .invroot who st side p4 iters index => Sys2Proof.Machine.execInvroot who st side p4 iters index s
  | .ortho who st side iters index => Sys2Proof.Machine.execOrtho who st side iters index s
  | .calibrationComplete st => Sys2Proof.Machine.execCalibrationComplete st s
  | .rollCheck st => Sys2Proof.Machine.execRollCheck st s
  | .homeworkRecordWrite st => Sys2Proof.Machine.execHomeworkRecordWrite st s
  | .hwHeadWrite who st off => Sys2Proof.Machine.execHwHeadWrite who st off s
  | .slipStateFetchComplete st index result => Sys2Proof.Machine.execSlipStateFetchComplete st index result s
  | .slipApply st index => Sys2Proof.Machine.execSlipApply st index s
  | .slipWritebackComplete st index ok => Sys2Proof.Machine.execSlipWritebackComplete st index ok s
  | .portEnable who p => Sys2Proof.Machine.execPortEnable who p s
  | .portDisable who p => Sys2Proof.Machine.execPortDisable who p s
  | .portTrainingComplete p failed => Sys2Proof.Machine.execPortTrainingComplete p failed s
  | .laneFailing p cause lane => Sys2Proof.Machine.execLaneFailing p cause lane s
  | .retrain p epoch cause lane => Sys2Proof.Machine.execRetrain p epoch cause lane s
  | .laneMap p epoch lanes failed => Sys2Proof.Machine.execLaneMap p epoch lanes failed s
  | .aligned p epoch bits next => Sys2Proof.Machine.execAligned p epoch bits next s
  | .down p cause => Sys2Proof.Machine.execDown p cause s
  | .linkMessageRepeat p => Sys2Proof.Machine.execLinkMessageRepeat p s
  | .retrainTimeout p => Sys2Proof.Machine.execRetrainTimeout p s
  | .flitReceive p f crc => Sys2Proof.Machine.execFlitReceive p f crc s
  | .nakResend p ack => Sys2Proof.Machine.execNakResend p ack s
  | .messageSend p => Sys2Proof.Machine.execMessageSend p s
  | .tagGroupClose p => Sys2Proof.Machine.execTagGroupClose p s
  | .tagFlitVerify p ok => Sys2Proof.Machine.execTagFlitVerify p ok s
  | .fabricRequestIssue st r => Sys2Proof.Machine.execFabricRequestIssue st r s
  | .load a m => Sys2Proof.Machine.execLoad a m s
  | .store a m => Sys2Proof.Machine.execStore a m s
  | .storeNotify a m => Sys2Proof.Machine.execStoreNotify a m s
  | .fxadd32 a m => Sys2Proof.Machine.execFxadd32 a m s
  | .fxadd64 a m => Sys2Proof.Machine.execFxadd64 a m s
  | .fxadd32to64 a m => Sys2Proof.Machine.execFxadd32to64 a m s
  | .add64 a m => Sys2Proof.Machine.execAdd64 a m s
  | .min64 a m => Sys2Proof.Machine.execMin64 a m s
  | .max64 a m => Sys2Proof.Machine.execMax64 a m s
  | .swap64 a m => Sys2Proof.Machine.execSwap64 a m s
  | .cas64 a m => Sys2Proof.Machine.execCas64 a m s
  | .add128 a m => Sys2Proof.Machine.execAdd128 a m s
  | .min128 a m => Sys2Proof.Machine.execMin128 a m s
  | .max128 a m => Sys2Proof.Machine.execMax128 a m s
  | .swap128 a m => Sys2Proof.Machine.execSwap128 a m s
  | .cas128 a m => Sys2Proof.Machine.execCas128 a m s
  | .response a m => Sys2Proof.Machine.execResponse a m s
  | .transactionTimeout st entry => Sys2Proof.Machine.execTransactionTimeout st entry s
  | .quarantineExpiry st entry => Sys2Proof.Machine.execQuarantineExpiry st entry s
  | .seatWrite who value => Sys2Proof.Machine.execSeatWrite who value s
  | .epochMessageSend => Sys2Proof.Machine.execEpochMessageSend s
  | .collectivePacketSend st coll unit => Sys2Proof.Machine.execCollectivePacketSend st coll unit s
  | .reduce a k => Sys2Proof.Machine.execReduce a k s
  | .data a k => Sys2Proof.Machine.execData a k s
  | .norm a k => Sys2Proof.Machine.execNorm a k s
  | .collectiveInstanceComplete st coll => Sys2Proof.Machine.execCollectiveInstanceComplete st coll s
  | .corridorFrameReceive f crc => Sys2Proof.Machine.execCorridorFrameReceive f crc s
  | .corridorFrameTransmit => Sys2Proof.Machine.execCorridorFrameTransmit s
  | .corridorResendTimer => Sys2Proof.Machine.execCorridorResendTimer s
  | .corridorJoin who => Sys2Proof.Machine.execCorridorJoin who s
  | .bypassMoved => Sys2Proof.Machine.execBypassMoved s
  | .bellArrive k => Sys2Proof.Machine.execBellArrive k s
  | .bellReleaseMessage k => Sys2Proof.Machine.execBellReleaseMessage k s
  | .bellBreak k => Sys2Proof.Machine.execBellBreak k s
  | .stopSend who job => Sys2Proof.Machine.execStopSend who job s
  | .stop job => Sys2Proof.Machine.execStop job s
  | .stopClear who parts => Sys2Proof.Machine.execStopClear who parts s
  | .rollCall via rc => Sys2Proof.Machine.execRollCall via rc s
  | .rollCallSend via => Sys2Proof.Machine.execRollCallSend via s
  | .rollCallMissed p => Sys2Proof.Machine.execRollCallMissed p s
  | .epoch seat epoch => Sys2Proof.Machine.execEpoch seat epoch s
  | .timeFrameSend => Sys2Proof.Machine.execTimeFrameSend s
  | .timeFrame master correction seat => Sys2Proof.Machine.execTimeFrame master correction seat s
  | .mgmtFrame f => Sys2Proof.Machine.execMgmtFrame f s
  | .hostLinkLoss h => Sys2Proof.Machine.execHostLinkLoss h s
  | .hostLinkReturn h => Sys2Proof.Machine.execHostLinkReturn h s
  | .linkHoldExpiry h => Sys2Proof.Machine.execLinkHoldExpiry h s
  | .hotReset h => Sys2Proof.Machine.execHotReset h s
  | .perstDeassert h => Sys2Proof.Machine.execPerstDeassert h s
  | .cxlSnoop h => Sys2Proof.Machine.execCxlSnoop h s
  | .primaryWrite who h => Sys2Proof.Machine.execPrimaryWrite who h s
  | .letterboxWrite h off data tlp => Sys2Proof.Machine.execLetterboxWrite h off data tlp s
  | .letterboxRead h off len => Sys2Proof.Machine.execLetterboxRead h off len s
  | .flush h => Sys2Proof.Machine.execFlush h s
  | .doorbell who q tail => Sys2Proof.Machine.execDoorbell who q tail s
  | .commandFetchReturn q r => Sys2Proof.Machine.execCommandFetchReturn q r s
  | .refetchTimer q => Sys2Proof.Machine.execRefetchTimer q s
  | .place q => Sys2Proof.Machine.execPlace q s
  | .placeComplete q => Sys2Proof.Machine.execPlaceComplete q s
  | .exportCopy q => Sys2Proof.Machine.execExportCopy q s
  | .exportReadbackComplete src ok => Sys2Proof.Machine.execExportReadbackComplete src ok s
  | .completionRecordWrite ring => Sys2Proof.Machine.execCompletionRecordWrite ring s
  | .cqHeadWrite who q index => Sys2Proof.Machine.execCqHeadWrite who q index s
  | .msixCoalesceTimer ring => Sys2Proof.Machine.execMsixCoalesceTimer ring s
  | .queueEnable who q => Sys2Proof.Machine.execQueueEnable who q s
  | .queueResume who q => Sys2Proof.Machine.execQueueResume who q s
  | .queueDetach who q => Sys2Proof.Machine.execQueueDetach who q s
  | .stepRingEnable who part => Sys2Proof.Machine.execStepRingEnable who part s
  | .stepRingDetach who part => Sys2Proof.Machine.execStepRingDetach who part s
  | .stepHeadWrite who part index => Sys2Proof.Machine.execStepHeadWrite who part index s
  | .syllabusLoad q => Sys2Proof.Machine.execSyllabusLoad q s
  | .activate q => Sys2Proof.Machine.execActivate q s
  | .activateQuiesceReached => Sys2Proof.Machine.execActivateQuiesceReached s
  | .activateQuiesceTimeout => Sys2Proof.Machine.execActivateQuiesceTimeout s
  | .activateDigestChecked => Sys2Proof.Machine.execActivateDigestChecked s
  | .activateApplied => Sys2Proof.Machine.execActivateApplied s
  | .ruleStep who st step => Sys2Proof.Machine.execRuleStep who st step s
  | .ruleApplyComplete st => Sys2Proof.Machine.execRuleApplyComplete st s
  | .recess who stackSet timeoutMs => Sys2Proof.Machine.execRecess who stackSet timeoutMs s
  | .recessQuiesceReached => Sys2Proof.Machine.execRecessQuiesceReached s
  | .recessQuiesceTimeout => Sys2Proof.Machine.execRecessQuiesceTimeout s
  | .recessGated => Sys2Proof.Machine.execRecessGated s
  | .wake who stackSet => Sys2Proof.Machine.execWake who stackSet s
  | .wakeComplete failed failedStep => Sys2Proof.Machine.execWakeComplete failed failedStep s
  | .capWrite who watts => Sys2Proof.Machine.execCapWrite who watts s
  | .capLoopTick p => Sys2Proof.Machine.execCapLoopTick p s
  | .coolantLimitTick supply ret flow => Sys2Proof.Machine.execCoolantLimitTick supply ret flow s
  | .coolantTrip => Sys2Proof.Machine.execCoolantTrip s
  | .coolantTripEnd => Sys2Proof.Machine.execCoolantTripEnd s
  | .railSample st amps => Sys2Proof.Machine.execRailSample st amps s
  | .droopDetect cl => Sys2Proof.Machine.execDroopDetect cl s
  | .droopEnd cl => Sys2Proof.Machine.execDroopEnd cl s
  | .hostLimitWrite who st rate => Sys2Proof.Machine.execHostLimitWrite who st rate s
  | .thermalLoopTick st readings tilePower => Sys2Proof.Machine.execThermalLoopTick st readings tilePower s
  | .sensorSuspect st sensor => Sys2Proof.Machine.execSensorSuspect st sensor s
  | .suspectClear who st sensor => Sys2Proof.Machine.execSuspectClear who st sensor s
  | .reportCardTick => Sys2Proof.Machine.execReportCardTick s
  | .clusterPllStart cl => Sys2Proof.Machine.execClusterPllStart cl s
  | .clusterPllLocked cl => Sys2Proof.Machine.execClusterPllLocked cl s
  | .clusterPllStop cl => Sys2Proof.Machine.execClusterPllStop cl s
  | .janitorScrub st hbm unit found => Sys2Proof.Machine.execJanitorScrub st hbm unit found s
  | .bondLaneRepair sl toArray group lane => Sys2Proof.Machine.execBondLaneRepair sl toArray group lane s
  | .bondRepairComplete sl => Sys2Proof.Machine.execBondRepairComplete sl s
  | .quizVisit st => Sys2Proof.Machine.execQuizVisit st s
  | .quizVisitEnd st failed => Sys2Proof.Machine.execQuizVisitEnd st failed s
  | .sliceFailure sl => Sys2Proof.Machine.execSliceFailure sl s
  | .arrayRowRepair sl row => Sys2Proof.Machine.execArrayRowRepair sl row s
  | .arrayRowRepairComplete sl => Sys2Proof.Machine.execArrayRowRepairComplete sl s
  | .tagUe sl set way => Sys2Proof.Machine.execTagUe sl set way s
  | .tutorUe st marker => Sys2Proof.Machine.execTutorUe st marker s
  | .proctorFault => Sys2Proof.Machine.execProctorFault s
  | .moduleCold who confirm => Sys2Proof.Machine.execModuleCold who confirm s
  | .moduleWarm who confirm => Sys2Proof.Machine.execModuleWarm who confirm s
  | .partition who part => Sys2Proof.Machine.execPartition who part s
  | .stack who stackSet => Sys2Proof.Machine.execStack who stackSet s
  | .baseDie who stackSet => Sys2Proof.Machine.execBaseDie who stackSet s
  | .resetTakesEffect => Sys2Proof.Machine.execResetTakesEffect s
  | .bondDrainEnd reads writes => Sys2Proof.Machine.execBondDrainEnd reads writes s
  | .resetComplete => Sys2Proof.Machine.execResetComplete s
  | .powerOn => Sys2Proof.Machine.execPowerOn s
  | .startupDone failed floorW us => Sys2Proof.Machine.execStartupDone failed floorW us s
  | .inputPowerLoss => Sys2Proof.Machine.execInputPowerLoss s
  | .fwSvnCommit who => Sys2Proof.Machine.execFwSvnCommit who s
  | .keyInstall slot parts => Sys2Proof.Machine.execKeyInstall slot parts s
  | .keyRevoke slot => Sys2Proof.Machine.execKeyRevoke slot s
  | .ident p serial supported required => Sys2Proof.Machine.execIdent p serial supported required s
  | .spdm p frag nfrag bytes => Sys2Proof.Machine.execSpdm p frag nfrag bytes s
  | .sessionSetupTimeout p => Sys2Proof.Machine.execSessionSetupTimeout p s
  | .linkRekey p tx => Sys2Proof.Machine.execLinkRekey p tx s
  | .getVersion t => Sys2Proof.Machine.execGetVersion t s
  | .getCapabilities t => Sys2Proof.Machine.execGetCapabilities t s
  | .negotiateAlgorithms t => Sys2Proof.Machine.execNegotiateAlgorithms t s
  | .getDigests t => Sys2Proof.Machine.execGetDigests t s
  | .getCertificate t slot => Sys2Proof.Machine.execGetCertificate t slot s
  | .challenge t nonce => Sys2Proof.Machine.execChallenge t nonce s
  | .getMeasurements t index => Sys2Proof.Machine.execGetMeasurements t index s
  | .keyExchange t chainOk => Sys2Proof.Machine.execKeyExchange t chainOk s
  | .finish t ok => Sys2Proof.Machine.execFinish t ok s
  | .keyUpdate t => Sys2Proof.Machine.execKeyUpdate t s
  | .heartbeat t => Sys2Proof.Machine.execHeartbeat t s
  | .endSession t => Sys2Proof.Machine.execEndSession t s
  | .kSetGo h keySet => Sys2Proof.Machine.execKSetGo h keySet s
  | .ideIntegrityFailure h => Sys2Proof.Machine.execIdeIntegrityFailure h s
  | .entdaa addr => Sys2Proof.Machine.execEntdaa addr s
  | .setEndpointId eid => Sys2Proof.Machine.execSetEndpointId eid s
  | .regRead secured off size => Sys2Proof.Machine.execRegRead secured off size s
  | .regWrite secured off size value => Sys2Proof.Machine.execRegWrite secured off size value s
  | .getSensorReading id => Sys2Proof.Machine.execGetSensorReading id s
  | .setNumericEffecterValue secured id value => Sys2Proof.Machine.execSetNumericEffecterValue secured id value s
  | .setEventReceiver eid => Sys2Proof.Machine.execSetEventReceiver eid s
  | .queryDeviceIdentifiers => Sys2Proof.Machine.execQueryDeviceIdentifiers s
  | .requestFirmwareData secured data => Sys2Proof.Machine.execRequestFirmwareData secured data s
  | .verifyComplete => Sys2Proof.Machine.execVerifyComplete s
  | .applyComplete => Sys2Proof.Machine.execApplyComplete s
  | .activateFirmware secured => Sys2Proof.Machine.execActivateFirmware secured s
  | .firmwareUpdateCancel => Sys2Proof.Machine.execFirmwareUpdateCancel s
  | .pldmEventResend => Sys2Proof.Machine.execPldmEventResend s
  | .diaryEntryWrite => Sys2Proof.Machine.execDiaryEntryWrite s
  | .diaryBatchClose => Sys2Proof.Machine.execDiaryBatchClose s
  | .sealWrite => Sys2Proof.Machine.execSealWrite s
  | .diaryIndexWrite who isSeal index => Sys2Proof.Machine.execDiaryIndexWrite who isSeal index s
  | .illegalBundle at' bundle => Sys2Proof.Machine.execIllegalBundle at' bundle s
  | .fetchPastRange at' storeError => Sys2Proof.Machine.execFetchPastRange at' storeError s
  | .alignmentAndFecLock p next => Sys2Proof.Machine.execAlignmentAndFecLock p next s
  | .hostLinkUp h width speed cxl => Sys2Proof.Machine.execHostLinkUp h width speed cxl s
  | .commitComplete st => Sys2Proof.Machine.execCommitComplete st s
  | .refreshManagementRequest hbm => Sys2Proof.Machine.execRefreshManagementRequest hbm s
  | .registerReadRefused who off size => Sys2Proof.Machine.execRegisterReadRefused who off size s

end Sys2Proof.Machine
end

