-- ==== Sys2Proof/WellFormed.lean ====
section
/-!
DEFINITION. Well-formed commands: what an operand must meet, beyond its type, for the command to be one that the spec's interfaces can carry. The meanings are total and do not rest on it.
-/
namespace Sys2Proof

/-- A bundle whose other slot can be encoded (R105, R106). -/
def Issue.wf (b : Issue) : Bool := (encodeSlot b.other).isSome
/-- A gradient chunk: in an FXG format its elements are signed numbers of the format's width (R239). What else makes a chunk bad the Marker judges (R240). -/
def Chunk.wf (c : Chunk) : Bool :=
  !Machine.isFxg c.fmt.toNat || c.data.all (fun x => decide (-(2 ^ (Machine.fmtWidth c.fmt.toNat - 1) : Int) ≤ x) && decide (x < 2 ^ (Machine.fmtWidth c.fmt.toNat - 1)))
/-- A request message carries at most 128 bytes (R296, R298). -/
def FabReq.wf (m : FabReq) : Bool := decide (m.data.length ≤ 128)
/-- A response carries at most 128 bytes. -/
def FabResp.wf (m : FabResp) : Bool := decide (m.data.length ≤ 128)
/-- A collective packet carries whole slots of 16 bytes, as many as DLEN says (R322). -/
def CollPkt.wf (k : CollPkt) : Bool := decide (k.data.length = 16 * (k.dlen.toNat + 1))
/-- A Corridor frame carries 32 bytes (R326). -/
def Frame.wf (f : Frame) : Bool := decide (f.payload.length = 32)
/-- A message of a flit. -/
def FabMsg.wf : FabMsg → Bool
  | .request _ m => m.wf
  | .response m => m.wf
  | .packet _ k => k.wf
  | .control _ _ _ p _ _ => decide (p.length = 32)
/-- A slot of a flit: a slot that its message has, or a header whose OPC is reserved (R283, R297). -/
def Slot.wf : Slot → Bool
  | .null => true
  | .part m k => m.wf && decide (k < m.slots)
  | .reserved opc => opcReserved opc.toNat
/-- A DATA flit carries 15 slots and no other flit has any; a TAG flit carries the tag and a LINK flit its message (R280, R282, R288). -/
def Flit.wf (f : Flit) : Bool :=
  f.slots.all Slot.wf && decide (f.slots.length = if f.type = 0 then 15 else 0) && (f.link.isSome == decide (f.type = 3))
    && (f.tag.isSome == decide (f.type = 2))
/-- A command entry: six ARG words and at most 448 inline bytes (R351). -/
def CmdEntry.wf (e : CmdEntry) : Bool := decide (e.args.length = 6) && decide (e.inline.length ≤ 448)
/-- What a command fetch returned. -/
def FetchResult.wf : FetchResult → Bool
  | .entry e => e.wf
  | .rest b => decide (b.length ≤ 448)
  | .error => true

/-- Whether a command is well-formed. -/
def Instr.wf (i : Instr) : Bool :=
  match i with
  | .registerWrite _ _ _ _ => true
  | .rcFieldRead _ _ _ => true
  | .add b _ _ _ => b.wf
  | .sub b _ _ _ => b.wf
  | .and b _ _ _ => b.wf
  | .or b _ _ _ => b.wf
  | .xor b _ _ _ => b.wf
  | .shl b _ _ _ => b.wf
  | .shr b _ _ _ => b.wf
  | .sra b _ _ _ => b.wf
  | .mul b _ _ _ => b.wf
  | .mulhu b _ _ _ => b.wf
  | .min b _ _ _ => b.wf
  | .max b _ _ _ => b.wf
  | .slt b _ _ _ => b.wf
  | .sltu b _ _ _ => b.wf
  | .seq b _ _ _ => b.wf
  | .addi b _ _ _ => b.wf
  | .andi b _ _ _ => b.wf
  | .ori b _ _ _ => b.wf
  | .xori b _ _ _ => b.wf
  | .shli b _ _ _ => b.wf
  | .shri b _ _ _ => b.wf
  | .srai b _ _ _ => b.wf
  | .slti b _ _ _ => b.wf
  | .sltiu b _ _ _ => b.wf
  | .seqi b _ _ _ => b.wf
  | .li _ _ _ => true
  | .csrr b _ _ => b.wf
  | .ld8u b _ _ _ => b.wf
  | .ld16u b _ _ _ => b.wf
  | .ld32u b _ _ _ => b.wf
  | .ld64 b _ _ _ => b.wf
  | .st8 b _ _ _ => b.wf
  | .st16 b _ _ _ => b.wf
  | .st32 b _ _ _ => b.wf
  | .st64 b _ _ _ => b.wf
  | .ldx64 b _ _ _ => b.wf
  | .ldx32u b _ _ _ => b.wf
  | .stx64 b _ _ _ => b.wf
  | .stx32 b _ _ _ => b.wf
  | .ldxReturn _ _ => true
  | .stxAccepted _ _ => true
  | .beq b _ _ _ => b.wf
  | .bne b _ _ _ => b.wf
  | .blt b _ _ _ => b.wf
  | .bge b _ _ _ => b.wf
  | .bltu b _ _ _ => b.wf
  | .bgeu b _ _ _ => b.wf
  | .jal b _ _ => b.wf
  | .jalr b _ _ _ => b.wf
  | .fence b => b.wf
  | .fenceComplete _ => true
  | .halt b => b.wf
  | .trap b _ => b.wf
  | .tset b _ _ => b.wf
  | .tget b _ _ => b.wf
  | .tslot b _ _ _ => b.wf
  | .tli _ _ _ => true
  | .mma b _ => b.wf
  | .mmaOccupancyStart _ => true
  | .mmaLastDeposit _ => true
  | .save b _ => b.wf
  | .rest b _ => b.wf
  | .rnd b _ => b.wf
  | .slateOpStart _ => true
  | .slateOpComplete _ => true
  | .varithAdd b _ => b.wf
  | .varithSub b _ => b.wf
  | .varithMul b _ => b.wf
  | .varithFma b _ => b.wf
  | .varithMin b _ => b.wf
  | .varithMax b _ => b.wf
  | .varithDiv b _ => b.wf
  | .varithSqrt b _ => b.wf
  | .varithRsqrt b _ => b.wf
  | .varithAbs b _ => b.wf
  | .varithNeg b _ => b.wf
  | .vfn b _ => b.wf
  | .vder b _ => b.wf
  | .vcvt b _ => b.wf
  | .vlxAdd b _ => b.wf
  | .vlxSub b _ => b.wf
  | .vlxFrom b _ => b.wf
  | .vlxTo b _ => b.wf
  | .vredSum b _ => b.wf
  | .vredSumsq b _ => b.wf
  | .vredMax b _ => b.wf
  | .vredMin b _ => b.wf
  | .vredMaxabs b _ => b.wf
  | .vredScale b _ => b.wf
  | .vstat b _ => b.wf
  | .vectorOpStart _ => true
  | .vectorOpComplete _ => true
  | .gath b _ => b.wf
  | .scatStore b _ => b.wf
  | .scatAdd b _ => b.wf
  | .gatherOpStart _ => true
  | .gatherSectorRequest _ => true
  | .gatherSectorReturn _ _ => true
  | .expD b _ => b.wf
  | .sigmoidD b _ => b.wf
  | .tanhD b _ => b.wf
  | .reluD b _ => b.wf
  | .leakyD b _ => b.wf
  | .softmaxD b _ => b.wf
  | .finServeStart _ => true
  | .finComplete _ => true
  | .sarm b _ => b.wf
  | .swait b _ => b.wf
  | .srel b _ => b.wf
  | .sqry b _ => b.wf
  | .streamTransferStart _ _ => true
  | .streamRequestSend _ => true
  | .streamRequestReturn _ _ => true
  | .streamTransferComplete _ _ => true
  | .linkBufferMove _ _ => true
  | .assemblyBufferAccept _ _ => true
  | .bell b _ _ => b.wf
  | .bellArrivalReport _ _ => true
  | .bellRelease _ => true
  | .bellTimeout _ => true
  | .lesson _ => true
  | .tutorPartMessage _ => true
  | .lessonPartStart _ => true
  | .stageEnd _ => true
  | .stageLoadComplete _ => true
  | .clusterLessonStop _ => true
  | .coresReportIdle _ => true
  | .lessonTimeout _ => true
  | .lessonRetire _ => true
  | .lessonCompletionWrite _ => true
  | .abort _ => true
  | .spareCoreSwitch _ _ => true
  | .coreStoreTest _ _ => true
  | .istoreReload _ _ _ => true
  | .sliceRead addr _ => decide (addr % 32 = 0)
  | .sliceWrite addr bs _ _ => decide (addr % 32 + bs.length ≤ 32) && !bs.isEmpty
  | .reduceAdd32 addr bs _ => decide (addr % 4 = 0) && decide (addr % 32 + 4 * bs.length ≤ 32) && !bs.isEmpty
  | .reduceAdd64 addr bs _ => decide (addr % 8 = 0) && decide (addr % 32 + 8 * bs.length ≤ 32) && !bs.isEmpty
  | .reduceAdd32to64 addr bs _ => decide (addr % 8 = 0) && decide (addr % 32 + 8 * bs.length ≤ 32) && !bs.isEmpty
  | .reduceStats addr _ => decide (addr % 32 = 0)
  | .sectorFetchReturn addr _ => decide (addr % 32 = 0)
  | .holdWritebackComplete _ _ => true
  | .pin _ => true
  | .unpin _ => true
  | .hallwayFlitError _ => true
  | .hallwayRetrain _ lane => lane.all (fun l => decide (l < 320))
  | .hallwayRetrainComplete _ _ => true
  | .hallwayDown _ => true
  | .hbmLaneRepair _ _ _ => true
  | .hbmRowRepair _ _ => true
  | .hbmRepairComplete _ => true
  | .hbmChannelFailed _ => true
  | .arm _ _ _ => true
  | .armScanComplete _ => true
  | .gradientChunk _ chunk => chunk.wf
  | .normQArrival _ _ _ => true
  | .stepDecision _ => true
  | .clipRerunComplete _ => true
  | .markerCommit _ => true
  | .abandon _ _ => true
  | .markerModeWrite _ _ _ => true
  | .committedStepWrite _ _ _ => true
  | .invroot _ _ _ _ _ _ => true
  | .ortho _ _ _ _ _ => true
  | .calibrationComplete _ => true
  | .rollCheck _ => true
  | .homeworkRecordWrite _ => true
  | .hwHeadWrite _ _ _ => true
  | .slipStateFetchComplete _ _ _ => true
  | .slipApply _ _ => true
  | .slipWritebackComplete _ _ _ => true
  | .portEnable _ _ => true
  | .portDisable _ _ => true
  | .portTrainingComplete _ failed => decide failed.Nodup
  | .laneFailing _ cause _ => decide (cause.toNat ≤ 3)
  | .retrain _ _ cause lane => decide (cause.toNat ≤ 3) && (decide (lane.toNat ≤ 8) || lane == 0xFF)
  | .laneMap _ _ lanes _ => decide (lanes.length = 8) && lanes.all (fun l => decide (l.toNat ≤ 8))
  | .aligned _ _ _ _ => true
  | .down _ cause => decide (cause.toNat ≤ 4)
  | .linkMessageRepeat _ => true
  | .retrainTimeout _ => true
  | .flitReceive _ f _ => f.wf
  | .nakResend _ _ => true
  | .messageSend _ => true
  | .tagGroupClose _ => true
  | .tagFlitVerify _ _ => true
  | .fabricRequestIssue _ r => decide (r.data.length ≤ 128)
  | .load _ m => m.wf
  | .store _ m => m.wf
  | .storeNotify _ m => m.wf
  | .fxadd32 _ m => m.wf
  | .fxadd64 _ m => m.wf
  | .fxadd32to64 _ m => m.wf
  | .add64 _ m => m.wf
  | .min64 _ m => m.wf
  | .max64 _ m => m.wf
  | .swap64 _ m => m.wf
  | .cas64 _ m => m.wf
  | .add128 _ m => m.wf
  | .min128 _ m => m.wf
  | .max128 _ m => m.wf
  | .swap128 _ m => m.wf
  | .cas128 _ m => m.wf
  | .response _ m => m.wf
  | .transactionTimeout _ _ => true
  | .quarantineExpiry _ _ => true
  | .seatWrite _ _ => true
  | .epochMessageSend => true
  | .collectivePacketSend _ _ _ => true
  | .reduce _ k => k.wf
  | .data _ k => k.wf
  | .norm _ k => k.wf
  | .collectiveInstanceComplete _ _ => true
  | .corridorFrameReceive f _ => f.wf
  | .corridorFrameTransmit => true
  | .corridorResendTimer => true
  | .corridorJoin _ => true
  | .bypassMoved => true
  | .bellArrive _ => true
  | .bellReleaseMessage _ => true
  | .bellBreak _ => true
  | .stopSend _ _ => true
  | .stop _ => true
  | .stopClear _ _ => true
  | .rollCall _ _ => true
  | .rollCallSend _ => true
  | .rollCallMissed _ => true
  | .epoch _ _ => true
  | .timeFrameSend => true
  | .timeFrame _ _ _ => true
  | .mgmtFrame f => f.wf && decide (f.type = 7)
  | .hostLinkLoss _ => true
  | .hostLinkReturn _ => true
  | .linkHoldExpiry _ => true
  | .hotReset _ => true
  | .perstDeassert _ => true
  | .cxlSnoop _ => true
  | .primaryWrite _ _ => true
  | .letterboxWrite _ off bs _ => decide (off.toNat + bs.length ≤ 2 ^ 28) && !bs.isEmpty
  | .letterboxRead _ off len => decide (off.toNat + len ≤ 2 ^ 28) && decide (0 < len)
  | .flush _ => true
  | .doorbell _ _ _ => true
  | .commandFetchReturn _ r => r.result.wf
  | .refetchTimer _ => true
  | .place _ => true
  | .placeComplete _ => true
  | .exportCopy _ => true
  | .exportReadbackComplete _ _ => true
  | .completionRecordWrite _ => true
  | .cqHeadWrite _ _ _ => true
  | .msixCoalesceTimer _ => true
  | .queueEnable _ _ => true
  | .queueResume _ _ => true
  | .queueDetach _ _ => true
  | .stepRingEnable _ _ => true
  | .stepRingDetach _ _ => true
  | .stepHeadWrite _ _ _ => true
  | .syllabusLoad _ => true
  | .activate _ => true
  | .activateQuiesceReached => true
  | .activateQuiesceTimeout => true
  | .activateDigestChecked => true
  | .activateApplied => true
  | .ruleStep _ _ _ => true
  | .ruleApplyComplete _ => true
  | .recess _ _ _ => true
  | .recessQuiesceReached => true
  | .recessQuiesceTimeout => true
  | .recessGated => true
  | .wake _ _ => true
  | .wakeComplete _ _ => true
  | .capWrite _ _ => true
  | .capLoopTick _ => true
  | .coolantLimitTick _ _ _ => true
  | .coolantTrip => true
  | .coolantTripEnd => true
  | .railSample _ _ => true
  | .droopDetect _ => true
  | .droopEnd _ => true
  | .hostLimitWrite _ _ _ => true
  | .thermalLoopTick _ readings tilePower => decide (readings.length = 44) && decide (tilePower.length = 8)
  | .sensorSuspect _ _ => true
  | .suspectClear _ _ _ => true
  | .reportCardTick => true
  | .clusterPllStart _ => true
  | .clusterPllLocked _ => true
  | .clusterPllStop _ => true
  | .janitorScrub _ _ _ _ => true
  | .bondLaneRepair _ _ _ _ => true
  | .bondRepairComplete _ => true
  | .quizVisit _ => true
  | .quizVisitEnd _ _ => true
  | .sliceFailure _ => true
  | .arrayRowRepair _ row => decide (row < 2 ^ 32)
  | .arrayRowRepairComplete _ => true
  | .tagUe _ _ _ => true
  | .tutorUe _ _ => true
  | .proctorFault => true
  | .moduleCold _ _ => true
  | .moduleWarm _ _ => true
  | .partition _ _ => true
  | .stack _ _ => true
  | .baseDie _ _ => true
  | .resetTakesEffect => true
  | .bondDrainEnd reads writes => (reads ++ writes).all (fun a => decide (a % 32 = 0))
  | .resetComplete => true
  | .powerOn => true
  | .startupDone failed _ _ => decide (failed.map (fun x => x.1)).Nodup
  | .inputPowerLoss => true
  | .fwSvnCommit _ => true
  | .keyInstall _ _ => true
  | .keyRevoke _ => true
  | .ident _ _ _ _ => true
  | .spdm _ frag nfrag bytes => decide (frag < nfrag) && decide (bytes.length ≤ 232)
  | .sessionSetupTimeout _ => true
  | .linkRekey _ _ => true
  | .getVersion _ => true
  | .getCapabilities _ => true
  | .negotiateAlgorithms _ => true
  | .getDigests _ => true
  | .getCertificate _ _ => true
  | .challenge _ _ => true
  | .getMeasurements _ _ => true
  | .keyExchange _ _ => true
  | .finish _ _ => true
  | .keyUpdate _ => true
  | .heartbeat _ => true
  | .endSession _ => true
  | .kSetGo _ _ => true
  | .ideIntegrityFailure _ => true
  | .entdaa _ => true
  | .setEndpointId _ => true
  | .regRead _ _ size => size == 4 || size == 8
  | .regWrite _ _ size value => size == 8 || (size == 4 && decide (value.toNat < 2 ^ 32))
  | .getSensorReading _ => true
  | .setNumericEffecterValue _ _ _ => true
  | .setEventReceiver _ => true
  | .queryDeviceIdentifiers => true
  | .requestFirmwareData _ bs => decide (bs.length ≤ 1024)
  | .verifyComplete => true
  | .applyComplete => true
  | .activateFirmware _ => true
  | .firmwareUpdateCancel => true
  | .pldmEventResend => true
  | .diaryEntryWrite => true
  | .diaryBatchClose => true
  | .sealWrite => true
  | .diaryIndexWrite _ _ _ => true
  | .illegalBundle _ bundle => (decodeBundle bundle.toNat).isNone
  | .fetchPastRange _ _ => true
  | .alignmentAndFecLock _ _ => true
  | .hostLinkUp _ _ _ _ => true
  | .commitComplete _ => true
  | .refreshManagementRequest _ => true
  | .registerReadRefused _ _ _ => true

end Sys2Proof
end

