-- ==== Sys2Proof/Safety.lean ====
section
/-!
DEFINITION. What counts as a safe run, and the canonical form of the state's memories.
-/
namespace Sys2Proof.Machine

/-- The canonical form of a memory: addresses rise strictly, and no entry holds 0, which is what an unlisted address reads as (log entry 2). -/
def Memory.wf (m : List Host.Cell) : Bool := Tab.wf 0 m

/-- Both memories of a state, the module's own and the host's, are in canonical form. -/
def State.memWf (s : State) : Bool := Memory.wf s.mem && Memory.wf s.hostMem

/-- Every command that waits is well-formed. -/
def State.pendingWf (s : State) : Bool := s.pending.all Instr.wf

/-- A step goes well: it answers a next state, and neither faults nor refuses. -/
def State.stepsOn (s : State) : Prop := ∃ t, step s = .next t

/-- `k` steps from a state go well. -/
def State.runsOn : Nat → State → Prop
  | 0, _ => True
  | k + 1, s => ∃ t, step s = .next t ∧ State.runsOn k t

/-- `k` steps that all go well lead from one state to another. -/
def State.reaches : Nat → State → State → Prop
  | 0, s, t => s = t
  | k + 1, s, t => ∃ m, step s = .next m ∧ State.reaches k m t

/-- The place in its bundle and the slot operation of each row that a thread issues in a bundle of two slots; none for every other row. -/
def slotRow (i : Instr) : Option (Issue × Op) :=
  match i with
  | .add b rd ra rb => some (b, .alu .add rd ra rb)
  | .sub b rd ra rb => some (b, .alu .sub rd ra rb)
  | .and b rd ra rb => some (b, .alu .and rd ra rb)
  | .or b rd ra rb => some (b, .alu .or rd ra rb)
  | .xor b rd ra rb => some (b, .alu .xor rd ra rb)
  | .shl b rd ra rb => some (b, .alu .shl rd ra rb)
  | .shr b rd ra rb => some (b, .alu .shr rd ra rb)
  | .sra b rd ra rb => some (b, .alu .sra rd ra rb)
  | .mul b rd ra rb => some (b, .alu .mul rd ra rb)
  | .mulhu b rd ra rb => some (b, .alu .mulhu rd ra rb)
  | .min b rd ra rb => some (b, .alu .min rd ra rb)
  | .max b rd ra rb => some (b, .alu .max rd ra rb)
  | .slt b rd ra rb => some (b, .alu .slt rd ra rb)
  | .sltu b rd ra rb => some (b, .alu .sltu rd ra rb)
  | .seq b rd ra rb => some (b, .alu .seq rd ra rb)
  | .addi b rd ra imm => some (b, .aluImm .add rd ra imm)
  | .andi b rd ra imm => some (b, .aluImm .and rd ra imm)
  | .ori b rd ra imm => some (b, .aluImm .or rd ra imm)
  | .xori b rd ra imm => some (b, .aluImm .xor rd ra imm)
  | .shli b rd ra imm => some (b, .aluImm .shl rd ra imm)
  | .shri b rd ra imm => some (b, .aluImm .shr rd ra imm)
  | .srai b rd ra imm => some (b, .aluImm .sra rd ra imm)
  | .slti b rd ra imm => some (b, .aluImm .slt rd ra imm)
  | .sltiu b rd ra imm => some (b, .aluImm .sltu rd ra imm)
  | .seqi b rd ra imm => some (b, .aluImm .seq rd ra imm)
  | .csrr b rd imm => some (b, .csrr rd imm)
  | .ld8u b rd ra imm => some (b, .ld 1 rd ra imm)
  | .ld16u b rd ra imm => some (b, .ld 2 rd ra imm)
  | .ld32u b rd ra imm => some (b, .ld 4 rd ra imm)
  | .ld64 b rd ra imm => some (b, .ld 8 rd ra imm)
  | .st8 b rs ra imm => some (b, .st 1 rs ra imm)
  | .st16 b rs ra imm => some (b, .st 2 rs ra imm)
  | .st32 b rs ra imm => some (b, .st 4 rs ra imm)
  | .st64 b rs ra imm => some (b, .st 8 rs ra imm)
  | .ldx64 b rd ra imm => some (b, .ldx 8 rd ra imm)
  | .ldx32u b rd ra imm => some (b, .ldx 4 rd ra imm)
  | .stx64 b rs ra imm => some (b, .stx 8 rs ra imm)
  | .stx32 b rs ra imm => some (b, .stx 4 rs ra imm)
  | .beq b ra rb off => some (b, .branch .eq ra rb off)
  | .bne b ra rb off => some (b, .branch .ne ra rb off)
  | .blt b ra rb off => some (b, .branch .lt ra rb off)
  | .bge b ra rb off => some (b, .branch .ge ra rb off)
  | .bltu b ra rb off => some (b, .branch .ltu ra rb off)
  | .bgeu b ra rb off => some (b, .branch .geu ra rb off)
  | .jal b rd off => some (b, .jal rd off)
  | .jalr b rd ra imm => some (b, .jalr rd ra imm)
  | .fence b => some (b, .fence)
  | .halt b => some (b, .halt)
  | .trap b imm => some (b, .trap imm)
  | .tset b td ra => some (b, .tset td ra)
  | .tget b rd ta => some (b, .tget rd ta)
  | .tslot b td ta imm => some (b, .tslot td ta imm)
  | .mma b m => some (b, .mma m)
  | .save b e => some (b, .eng .save e)
  | .rest b e => some (b, .eng .rest e)
  | .rnd b e => some (b, .eng .rnd e)
  | .vfn b e => some (b, .eng .vfn e)
  | .vder b e => some (b, .eng .vder e)
  | .vcvt b e => some (b, .eng .vcvt e)
  | .vstat b e => some (b, .eng .vstat e)
  | .gath b e => some (b, .eng .gath e)
  | .varithAdd b e => some (b, .eng .varith (e.withCode 0))
  | .varithSub b e => some (b, .eng .varith (e.withCode 1))
  | .varithMul b e => some (b, .eng .varith (e.withCode 2))
  | .varithFma b e => some (b, .eng .varith (e.withCode 3))
  | .varithMin b e => some (b, .eng .varith (e.withCode 4))
  | .varithMax b e => some (b, .eng .varith (e.withCode 5))
  | .varithDiv b e => some (b, .eng .varith (e.withCode 6))
  | .varithSqrt b e => some (b, .eng .varith (e.withCode 7))
  | .varithRsqrt b e => some (b, .eng .varith (e.withCode 8))
  | .varithAbs b e => some (b, .eng .varith (e.withCode 9))
  | .varithNeg b e => some (b, .eng .varith (e.withCode 10))
  | .vlxAdd b e => some (b, .eng .vlx (e.withCode 0))
  | .vlxSub b e => some (b, .eng .vlx (e.withCode 1))
  | .vlxFrom b e => some (b, .eng .vlx (e.withCode 2))
  | .vlxTo b e => some (b, .eng .vlx (e.withCode 3))
  | .vredSum b e => some (b, .eng .vred (e.withCode 0))
  | .vredSumsq b e => some (b, .eng .vred (e.withCode 1))
  | .vredMax b e => some (b, .eng .vred (e.withCode 2))
  | .vredMin b e => some (b, .eng .vred (e.withCode 3))
  | .vredMaxabs b e => some (b, .eng .vred (e.withCode 4))
  | .vredScale b e => some (b, .eng .vred (e.withCode 5))
  | .expD b e => some (b, .eng .fin (e.withCode 0))
  | .sigmoidD b e => some (b, .eng .fin (e.withCode 1))
  | .tanhD b e => some (b, .eng .fin (e.withCode 2))
  | .reluD b e => some (b, .eng .fin (e.withCode 3))
  | .leakyD b e => some (b, .eng .fin (e.withCode 4))
  | .softmaxD b e => some (b, .eng .fin (e.withCode 5))
  | .scatStore b e => some (b, .eng .scat (scatMode e 0))
  | .scatAdd b e => some (b, .eng .scat (scatMode e 1))
  | .sarm b f => some (b, .stream .arm f)
  | .swait b f => some (b, .stream .wait f)
  | .srel b f => some (b, .stream .rel f)
  | .sqry b f => some (b, .stream .qry f)
  | .bell b group xa => some (b, .bell group xa)
  | _ => none

/-- The state in which a bundle of a core is judged: the stream engine has taken the releases that it can (R98). -/
def State.judged (s : State) (r : ThreadRef) : State := s.takeReleases r.core

/-- No request waits at any slice, so that an access that a unit makes is made at once (R217). -/
def State.noWaits (s : State) : Bool := s.slices.all (fun e => e.2.waitQ.isEmpty)

/-- An access of the sector of an address is made at once, and what it reads holds no error (R209, R217, R223). -/
def State.sound (s : State) (a : Nat) : Bool := !s.setWaits a && Tab.get 0 s.arrayErr (a / 32) == 0 && Tab.get 0 s.hbmErr (a / 32) == 0

/-- Whether a byte lies outside the late-slip pool of a stack (R257). -/
def State.outsidePool (s : State) (st : StackId) (a : Nat) : Bool :=
  a < s.reg .markerSlip st || s.reg .markerSlip st + 2 ^ 20 * s.fld F.markerSlipPagesPages st ≤ a

/-- A bundle comes to issue and nothing holds it back: the thread runs, no register of the bundle awaits a result, every queue entry that it needs is free, no access waits for the core store, every check passes, and no SWAIT of it has a buffer to wait for (R93, R96, R98, R113, R172). -/
structure Issues (s : State) (r : ThreadRef) (b : Bundle) (g : Stage) (t : Thread) : Prop where
  runs : (s.judged r).runnable r.core r.thread = some (g, t)
  registers : ((s.judged r).core r.core).regsWait r.thread b = false
  entries : ((s.judged r).core r.core).entriesFree r.thread b = true
  storeA : ((s.judged r).core r.core).storeWaits g r.thread t b.a = false
  storeB : ((s.judged r).core r.core).storeWaits g r.thread t b.b = false
  passes : checkBundle (s.judged r) r.core r.thread g t b = none
  streamA : ((s.judged r).core r.core).waitsStream g b.a = false
  streamB : ((s.judged r).core r.core).waitsStream g b.b = false

/-- A command answers a next state of which something holds. -/
def Completes (i : Instr) (s : State) (p : State → Prop) : Prop := ∃ t, exec i s = .next t ∧ p t

/-- A row that a thread issues beside a no-op writes `v` to `rd` and goes on to the next bundle; no other register, tile register or thread of the core, no Slate row, and no byte of memory changes. -/
def WritesScalar (i : Instr) (b : Issue) (rd : Fin 32) (o : Op) (v : State → Stage → Thread → Word) : Prop :=
  ∀ (s : State) (g : Stage) (t : Thread), b.other = .nop → Issues s b.at' (bundleOf b o) g t →
    Completes i s (fun u =>
      let w := (u.core b.at'.core).thread b.at'.thread
      w.rx rd = (if rd = 0 then 0 else v s g t) ∧ w.pc = t.pc + 16 ∧ w.state = .ready ∧ w.t = t.t
        ∧ (∀ r, r ≠ rd → w.rx r = t.rx r)
        ∧ (∀ m : Fin 16, m ≠ b.at'.thread → (u.core b.at'.core).thread m = (s.core b.at'.core).thread m)
        ∧ (∀ c : CoreId, c ≠ b.at'.core → u.core c = s.core c)
        ∧ u.mem = s.mem ∧ u.hostMem = s.hostMem ∧ u.slate = s.slate ∧ u.poison = s.poison)

/-- The thread of a reference. -/
def State.threadAt (s : State) (r : ThreadRef) : Thread := (s.core r.core).thread r.thread

/-- What a row that acts on one thread leaves alone: the other threads of its core, the other cores, core stores and memory, the Slate, and the poison marks. -/
structure OthersKept (s u : State) (r : ThreadRef) : Prop where
  threads : ∀ m : Fin 16, m ≠ r.thread → (u.core r.core).thread m = (s.core r.core).thread m
  cores : ∀ c : CoreId, c ≠ r.core → u.core c = s.core c
  mem : u.mem = s.mem
  hostMem : u.hostMem = s.hostMem
  slate : u.slate = s.slate
  poison : u.poison = s.poison
  rowPoison : u.rowPoison = s.rowPoison

/-- A row that a thread issues in bundle `b` makes of the thread what `f` says, and leaves every other thing alone that OthersKept names. -/
def MakesThread (i : Instr) (r : ThreadRef) (b : Bundle) (f : Thread → Thread) : Prop :=
  ∀ (s : State) (g : Stage) (t : Thread), Issues s r b g t →
    Completes i s (fun u => u.threadAt r = f t ∧ OthersKept s u r)

/-- The thread after a bundle that transfers control: READY, one place on in program order, at `pc`. -/
def Thread.goesTo (t : Thread) (pc : BitVec 20) : Thread := { t with state := .ready, pc := pc, pastEnd := false, seq := t.seq + 1 }
/-- The thread after any other bundle: READY at the next one, which after the last bundle of the instruction store lies past its end. -/
def Thread.goesOn (t : Thread) : Thread := { t with state := .ready, pc := t.pc + 16, pastEnd := t.pc == 0xFFFF0, seq := t.seq + 1 }

/-- A thread fault is taken (R113 to R115): the thread is FAULTED with its PC at the bundle concerned; its later operations that have not started are gone and no other; the record is written while VALID is 0, and otherwise only MORE and the count change; and the fault is on its way to the home Tutor of the lesson that runs. -/
structure TakesFault (s u : State) (c : CoreId) (seq : Nat) (f : ThreadFault) : Prop where
  thread : (u.core c).thread f.thread = { (s.core c).thread f.thread with state := .faulted, pc := f.pc, waitOn := none, waitBell := none }
  mma : (u.core c).mmaQ = (s.core c).mmaQ.filter (fun o => o.thread != f.thread || o.seq < seq)
  slateQ : (u.core c).slateQ = (s.core c).slateQ.filter (fun o => o.thread != f.thread || o.seq < seq)
  fin : (u.core c).finQ = (s.core c).finQ.filter (fun o => o.thread != f.thread || o.seq < seq)
  vec : (u.core c).vecQ = (s.core c).vecQ.filter (fun o => o.thread != f.thread || o.seq < seq)
  gath : (u.core c).gathQ = (s.core c).gathQ.filter (fun o => o.thread != f.thread || o.seq < seq)
  rel : (u.core c).streamQ = (s.core c).streamQ.filter (fun o => o.thread != f.thread || o.seq < seq)
  record : s.fld F.coreFaultInfoValid (coreInst c) = 0 →
    u.reg .coreFaultInfo (coreInst c) = f.code % 256 + f.thread.val * 2 ^ 8 + bit f.slotB * 2 ^ 12 + bit f.engine * 2 ^ 13 + 2 ^ 15 + f.pc.toNat * 2 ^ 16
      ∧ u.reg .coreFaultAddr (coreInst c) = f.detail % 2 ^ 64
  more : s.fld F.coreFaultInfoValid (coreInst c) ≠ 0 →
    u.reg .coreFaultAddr (coreInst c) = s.reg .coreFaultAddr (coreInst c) ∧ u.fld F.coreFaultInfoMore (coreInst c) = 1
      ∧ u.fld F.coreFaultCountCount (coreInst c) = min (s.fld F.coreFaultCountCount (coreInst c) + 1) (2 ^ 32 - 1)
  report : u.partMsgs = s.partMsgs ++ (match (s.cluster (clusterOfCore c)).run with
    | none => []
    | some l => [.fault l ⟨stackOfCore c, clusterOfCore c % 16, logicalCore c, f.thread.val, f.code, f.pc.toNat, f.detail % 2 ^ 64⟩])
  others : OthersKept s u ⟨c, f.thread⟩

/-- Whether an access of a requester reaches the register space: a host's port is UP and open (R345, R471), and the module has power for every other requester. -/
def State.pathOpen (s : State) (who : Requester) : Bool :=
  match who with
  | .h0 => s.fld F.hostStatusLink 0 == 2 && s.portOpen 0
  | .h1 => s.fld F.hostStatusLink 1 == 2 && s.portOpen 1
  | _ => s.proctor.powered

/-- Whether a write of a value to register `n` of block instance `i`, at place `j` of its run, reaches the register: the path is open, the block answers, and the requester may write it (R27, R475). -/
def State.reachesReg (s : State) (who : Requester) (n : RegName) (i j v : Nat) : Bool :=
  s.pathOpen who && s.writable who ⟨n, i, j, 0⟩ v

/-- The rational number that a finite value without a root is; none for every other value. -/
def Val.toRat : Val → Option Rat
  | .zero _ => some 0
  | .num neg (.rat p q e) => some ((if neg then -1 else 1) * (p / q * 2 ^ e))
  | .num _ (.root _ _ _) => none
  | .inf _ => none
  | .nan => none

/-- Whether a magnitude is one: its numerator and denominator are not 0. -/
def Mag.proper : Mag → Bool
  | .rat p q _ => decide (0 < p) && decide (0 < q)
  | .root p q _ => decide (0 < p) && decide (0 < q)

/-- Whether a value is finite, and its magnitude, where it is not zero, is one. -/
def Val.proper : Val → Bool
  | .zero _ => true
  | .num _ m => m.proper
  | .inf _ => false
  | .nan => false

/-- c0 + c1 t + c2 t² + c3 t³ with the coefficients of segment `s` of a table part (R139). -/
def TablePart.polyRat (p : TablePart) (s : Nat) (t : Rat) : Rat :=
  let c (i : Nat) : Rat := ((decodeFp32 (p.coef s i)).toRat).getD 0
  c 0 + c 1 * t + c 2 * t ^ 2 + c 3 * t ^ 3

/-- What the completion record of a lesson shows, `w` being its 512 bits (R183): TAG, LESSON, STATUS, CAUSE, STEP, the times, the state of each stage, and the flags and the first fault. -/
structure RecordShows (s : State) (l : Lesson) (status cause : Nat) (ok : Bool) (w : Nat) : Prop where
  tag : bits w 0 32 = l.tag.toNat
  lesson : bits w 32 16 = l.lib
  status' : bits w 48 8 = status
  cause' : bits w 56 4 = cause
  step : bits w 64 32 = l.step.toNat
  start : bits w 96 64 = l.startTime.toNat
  ended : bits w 160 64 = s.now
  stages : ∀ k, k < l.nstages → bits w (224 + 2 * k) 2 =
    (if l.stagesStarted.any (fun x => x.1 == k) = false then 0 else if (l.placed s k).all (fun c => l.stagesEnded.elem (k, c)) = true then 2 else 1)
  flags : bits w 240 5 = bit l.wroteMemory + 2 * bit l.handedAssembly + 4 * bit ok + 8 * bit l.fault.isSome + 16 * bit l.bellBroken
  fault : ∀ f, l.fault = some f → bits w 256 2 = f.stack % 4 ∧ bits w 269 8 = f.code ∧ bits w 277 20 = f.pc ∧ bits w 320 64 = f.detail
  noFault : l.fault = none → bits w 256 256 = 0

/-- Whether the numbers of a lesson lie in their fields of its record (R183). -/
def Lesson.fits (l : Lesson) : Bool :=
  decide (l.lib < 2 ^ 16) && decide (l.nstages ≤ 8) && (match l.fault with
    | none => true
    | some f => decide (f.stack < 4) && decide (f.cluster < 16) && decide (f.core < 8) && decide (f.thread < 16) && decide (f.code < 2 ^ 8)
        && decide (f.pc < 2 ^ 20) && decide (f.detail < 2 ^ 64))

/-- Whether a record of a generation of a queue is held at once: the generation is in force, and the hold ring has room (R366, R368). -/
def State.holdsNext (s : State) (q : QueueId) (gen : Nat) : Bool :=
  gen == s.reg .queueGeneration 0 q && decide (s.holdRing.length < 4096) && s.holdWait.isEmpty

/-- Whether a write of a register does nothing but give its fields their values: its chapter names no other effect, and no check but that of R10 on the value. -/
def RegName.isPlain (n : RegName) : Bool :=
  match n with
  | .proctorResetCmd | .secPolicy | .secFwSvnCommit | .secKeyCmd | .diaryEntryIndex | .diarySealIndex | .corridorCtrl | .corridorStopSend | .corridorStopClear
  | .powerHostLimit | .powerCap | .powerPstateCmd | .thermalSensor | .hostCtrl | .hostMsix | .tutorRuleStep | .queueSqBase | .queueCqBase | .queueTailAddr
  | .queueSizes | .queueCtrl | .queueDoorbell | .queueCqHead | .queueStepBase | .queueStepTailAddr | .queueStepSize | .queueStepCtrl | .queueStepHead
  | .markerState | .markerArm | .markerCommittedStep | .markerStepCmd | .markerCalCmd | .fabricCtrl | .fabricSeat | .fabricNear | .fabricFar
  | .slicePinCmd | .coreFaultInfo => false
  | _ => true

/-- What a field holds after value `x` has been written to its register, by its access code (R6); `takes` is whether its chapter allows the value (R10). -/
def fieldWritten (a : Access) (w old x : Nat) (takes : Bool) : Nat :=
  match a with
  | .rw | .wo => if takes then x else old
  | .w1c => old &&& (2 ^ w - 1 - x)
  | .w1s => old ||| x
  | .ro | .rc => old

/-- Whether a write of value `x` to a register is accepted: each of its RW and WO fields takes its part (R10). -/
def State.allTake (s : State) (n : RegName) (x : Nat) : Bool :=
  n.desc.fields.all (fun f => !(f.access == .rw || f.access == .wo) || s.fieldTakes n f.lo (bits x f.lo f.width))

/-- The registers that an access error or a full Diary queue may change: the error log, the event ring, the pending vectors and the count of dropped entries. -/
def RegName.isLog (n : RegName) : Bool :=
  match n with
  | .proctorErrlog | .proctorErrlogTail | .proctorErrlogClass | .proctorErrlogOverwritten | .proctorEvent | .proctorEventTail | .hostMsixPba | .diaryDropped => true
  | _ => false

/-- The message that asks for each fabric operation (R297). -/
def fabRow (a : Arrival) (m : FabReq) : FabOp → Instr
  | .load => .load a m
  | .store => .store a m
  | .storeNotify => .storeNotify a m
  | .fxadd32 => .fxadd32 a m
  | .fxadd64 => .fxadd64 a m
  | .fxadd32to64 => .fxadd32to64 a m
  | .add64 => .add64 a m
  | .min64 => .min64 a m
  | .max64 => .max64 a m
  | .swap64 => .swap64 a m
  | .cas64 => .cas64 a m
  | .add128 => .add128 a m
  | .min128 => .min128 a m
  | .max128 => .max128 a m
  | .swap128 => .swap128 a m
  | .cas128 => .cas128 a m

/-- A request that arrives on a port passes every check of R305: the seat is this module's, an IN entry covers the sender, both epochs are current, the operation has a shape of R298, the stack is of the port's partition, in service and reached, and the range is memory. -/
structure Admitted (s : State) (p : Port) (op : FabOp) (m : FabReq) : Prop where
  seated : s.seatValid = true
  dst : m.dst.toNat = s.seat
  entry : (s.coverEntry (s.partOfPort p) m.src.toNat (fun e => bitOf e 2)).isSome = true
  sender : s.peerEpoch m.src.toNat = some m.srcEpoch.toNat
  current : m.dstEpoch.toNat = s.seatEpoch
  shape : reqShape op m.len m.addr.toNat = true
  part : s.partOf (addrStack (fabModule m.addr.toNat)) = s.partOfPort p
  online : s.offline (addrStack (fabModule m.addr.toNat)) = false
  memory : s.rangeIsMemory (fabModule m.addr.toNat) (reqBytes m.len) = true
  path : s.hallwayDown (stackOfPort p) (addrStack (fabModule m.addr.toNat)) = false
  taken : s.discards (fabModule m.addr.toNat) = false

/-- A request is performed and its response leaves with a status, POISON bits and data (R296, R305); `p` holds of the state as the response is sent. -/
def Answers (op : FabOp) (a : Port) (m : FabReq) (s : State) (status : Nat) (poison : BitVec 4) (data : List Byte) (p : State → Prop) : Prop :=
  ∃ v : State, exec (fabRow (.port a) m op) s = .next (v.respond a (reqHome m) m.addr.toNat
    (FabResp.mk m.src (BitVec.ofNat 12 v.seat) m.tid m.len m.srcEpoch (BitVec.ofNat 12 v.seatEpoch) (BitVec.ofNat 4 status) poison data)) ∧ p v

/-- A slice takes a write or a reduction of an address at once: it serves the address, discards nothing there, no request for its set waits, and it needs no new way, since the address lies in scratch or its line is held. -/
def State.takesNow (s : State) (a : Nat) : Bool :=
  s.served a && !s.discards a && !s.setWaits a
    && (regionOf a == .scratch || ((s.slice (homeSlice a)).findHold (a / 128)).isSome || ((s.slice (homeSlice a)).find (a / 128)).isSome)

/-- The message of a LINK flit with a good CRC-64 that leaves on a port. -/
def Out.linkOn (p : Port) : Out → Option LinkMsg
  | .flit q f => if q = p ∧ f.type = 3 ∧ flitGood f = true then f.link else none
  | _ => none
/-- Link messages leave on a port, each in a LINK flit with its CRC-64, and nothing else leaves (R280, R282). -/
def SendsLinks (s u : State) (p : Port) (l : List LinkMsg) : Prop :=
  s.outbox <+: u.outbox ∧ (u.outbox.drop s.outbox.length).map (Out.linkOn p) = l.map some
/-- Some link messages leave on a port, and nothing else leaves. -/
def SendsSomeLinks (s u : State) (p : Port) : Prop :=
  s.outbox <+: u.outbox ∧ s.outbox.length < u.outbox.length ∧ ∀ o ∈ u.outbox.drop s.outbox.length, (o.linkOn p).isSome = true

/-- The bytes that a coded DELTA stands for (R271): a code below 0x80 is followed by that many bytes and one, and any other stands for a run of zeros. -/
def decodeDelta : Nat → List Byte → List Byte
  | 0, _ => []
  | _, [] => []
  | n + 1, b :: t =>
    if b.toNat < 128 then t.take (b.toNat + 1) ++ decodeDelta n (t.drop (b.toNat + 1))
    else List.replicate (b.toNat - 0x7F) 0 ++ decodeDelta n t

end Sys2Proof.Machine
end

