-- ==== Sys2Proof/Certificates/Slice0/Obligations.lean ====
section
/-!
DEFINITION. The statements for the provers, each a proposition about the model that formalises rules of spec/ or follows from them.
-/
open Sys2Proof Sys2Proof.Machine

/-- A step runs the command at the front of the queue on the state with the rest of the queue. (log entry 6, 95_what_each_step_holds.md) -/
def Obligations.StepRunsTheFrontCommand : Prop :=
  ∀ (c : Instr) (rest : List Instr) (s : State),
    step { s with pending := c :: rest } = exec c { s with pending := rest }

/-- Commands are taken first in, first out: a step takes the front command and no command changes the rest of the queue. (log entry 6) -/
def Obligations.CommandsLeaveTheQueue : Prop :=
  ∀ s t : State, step s = .next t → t.pending = s.pending.tail

/-- Every step keeps the invariant that all waiting commands are well-formed. (log entry 6) -/
def Obligations.WaitingCommandsStayWellFormed : Prop :=
  ∀ s t : State, s.pendingWf = true → step s = .next t → t.pendingWf = true

/-- The state right after reset meets the invariants: no command waits, and both memories are in canonical form. (log entry 2, log entry 6) -/
def Obligations.ResetQueueIsWellFormed : Prop :=
  State.reset.pendingWf = true ∧ State.reset.memWf = true ∧ State.reset.pending = []

/-- Every step keeps both memories in canonical form: addresses rising, and no byte listed that reads as an unlisted one. (log entry 2) -/
def Obligations.MemoriesStayCanonical : Prop :=
  ∀ s t : State, s.memWf = true → step s = .next t → t.memWf = true

/-- Every queue of commands is worked off: as many steps as there are waiting commands all go well and leave an empty queue. (log entry 5, log entry 6) -/
def Obligations.EveryRunGoesOn : Prop :=
  (∀ (k : Nat) (s : State), s.runsOn k) ∧
  ∀ s : State, ∃ t, State.reaches s.pending.length s t ∧ t.pending = []

/-- On an empty queue a step is one tick of common time: 40 ns pass while nothing has to be slewed (the model's choice, log entry 1). (log entry 1, log entry 45, R333, R493) -/
def Obligations.IdleStepAdvancesTime : Prop :=
  ∀ s : State, s.pending = [] →
    (s.proctor.powered = true → s.corridor.slew = 0 → ∃ t, step s = .next t ∧ t.now = (s.now + 40) % 2 ^ 64 ∧ (∀ a, a < 2 ^ 50 → t.byte a = s.byte a) ∧ t.pending = []) ∧
    (s.proctor.powered = false → step s = .next s)

/-- Decoding the bits that encode a slot operation or a bundle gives it back, with every operand at every value. (R104, R105, R106, R107) -/
def Obligations.EncodingRoundTrip : Prop :=
  (∀ (o : Op) (w : Nat), encodeSlot o = some w → w < 2 ^ 62 ∧ decodeSlot w = some o) ∧
  ((∀ a b : Op, (encodeSlot a).isSome = true → (encodeSlot b).isSome = true → a.slotAOk = true →
    decodeBundle (encodeBundle a b) = some (a, some b)) ∧
  (∀ (rd : Fin 32) (imm : Word), decodeBundle (encodeLi 0x11 rd imm) = some (.li rd imm, none)) ∧
  (∀ (td : Fin 16) (imm : Word), decodeBundle (encodeLi 0x43 td imm) = some (.tli td imm, none)))

/-- Words written out from the layouts and the opcode map decode to the operations they stand for. (R106, R107) -/
def Obligations.SlotWordsDecode : Prop :=
  decodeSlot (0x00 * 2 ^ 54 + 1 * 2 ^ 49 + 2 * 2 ^ 44 + 3 * 2 ^ 39) = some (.alu .add 1 2 3) ∧
  decodeSlot (0x10 * 2 ^ 54 + 1 * 2 ^ 49 + 2 * 2 ^ 44 + 0xFFFFFFFF * 2 ^ 12) = some (.aluImm .add 1 2 0xFFFFFFFF) ∧
  decodeSlot (0x30 * 2 ^ 54 + 2 * 2 ^ 44 + 3 * 2 ^ 39 + 4 * 2 ^ 19) = some (.branch .eq 2 3 4) ∧
  decodeSlot (0x1F * 2 ^ 54 + 5 * 2 ^ 49 + 2 * 2 ^ 12) = some (.csrr 5 2) ∧
  decodeSlot (0x50 * 2 ^ 54 + 1 * 2 ^ 50 + 2 * 2 ^ 46 + 4 * 2 ^ 41 + 15 * 2 ^ 36 + 1 * 2 ^ 35 + 3 * 2 ^ 17)
    = some (.mma ⟨1, 2, 4, 15, true, false, false, 3⟩) ∧
  decodeSlot (0x60 * 2 ^ 54 + 3 * 2 ^ 50 + (31 * 2 ^ 7) * 2 ^ 17) = some (.eng .save ⟨3, 0, 0, 0, 0, 0, false, 31 * 2 ^ 7⟩) ∧
  decodeSlot (0x90 * 2 ^ 54 + 63 * 2 ^ 48 + 4 * 2 ^ 43 + 5 * 2 ^ 38 + 0x801 * 2 ^ 26) = some (.stream .arm ⟨63, 4, 5, 0x801⟩) ∧
  decodeSlot (0xA0 * 2 ^ 54 + 0xABC * 2 ^ 42 + 7 * 2 ^ 37) = some (.bell 0xABC 7) ∧
  decodeSlot (0x0F * 2 ^ 54) = none ∧ decodeSlot (0x00 * 2 ^ 54 + 1) = none

/-- A row that a thread issues, with nothing to hold its bundle back, answers the state in which both slots have taken effect and the PC has moved. (R93, R98, R104, R105, R107) -/
def Obligations.BundleRowsIssueWhole : Prop :=
  ∀ (i : Instr) (b : Issue) (o : Op) (s : State) (g : Stage) (t : Thread), slotRow i = some (b, o) →
    Issues s b.at' (bundleOf b o) g t →
    exec i s = .next (issued (s.judged b.at') b.at'.core b.at'.thread g t (bundleOf b o))

/-- The fifteen register-register and ten immediate operations write the result of R107 and R108 to rd, and nothing else but the PC. (R90, R107, R108, R106) -/
def Obligations.AluResults : Prop :=
  ((∀ (b : Issue) (rd ra rb : Fin 32), WritesScalar (.add b rd ra rb) b rd (.alu .add rd ra rb) (fun _ _ t => (t.rx ra) + (t.rx rb))) ∧
  (∀ (b : Issue) (rd ra rb : Fin 32), WritesScalar (.sub b rd ra rb) b rd (.alu .sub rd ra rb) (fun _ _ t => (t.rx ra) - (t.rx rb))) ∧
  (∀ (b : Issue) (rd ra rb : Fin 32), WritesScalar (.and b rd ra rb) b rd (.alu .and rd ra rb) (fun _ _ t => (t.rx ra) &&& (t.rx rb))) ∧
  (∀ (b : Issue) (rd ra rb : Fin 32), WritesScalar (.or b rd ra rb) b rd (.alu .or rd ra rb) (fun _ _ t => (t.rx ra) ||| (t.rx rb))) ∧
  (∀ (b : Issue) (rd ra rb : Fin 32), WritesScalar (.xor b rd ra rb) b rd (.alu .xor rd ra rb) (fun _ _ t => (t.rx ra) ^^^ (t.rx rb))) ∧
  (∀ (b : Issue) (rd ra rb : Fin 32), WritesScalar (.shl b rd ra rb) b rd (.alu .shl rd ra rb) (fun _ _ t => (t.rx ra) <<< ((t.rx rb).toNat % 64))) ∧
  (∀ (b : Issue) (rd ra rb : Fin 32), WritesScalar (.shr b rd ra rb) b rd (.alu .shr rd ra rb) (fun _ _ t => (t.rx ra) >>> ((t.rx rb).toNat % 64))) ∧
  (∀ (b : Issue) (rd ra rb : Fin 32), WritesScalar (.sra b rd ra rb) b rd (.alu .sra rd ra rb) (fun _ _ t => ((t.rx ra)).sshiftRight ((t.rx rb).toNat % 64))) ∧
  (∀ (b : Issue) (rd ra rb : Fin 32), WritesScalar (.mul b rd ra rb) b rd (.alu .mul rd ra rb) (fun _ _ t => (t.rx ra) * (t.rx rb))) ∧
  (∀ (b : Issue) (rd ra rb : Fin 32), WritesScalar (.mulhu b rd ra rb) b rd (.alu .mulhu rd ra rb) (fun _ _ t => BitVec.ofNat 64 ((t.rx ra).toNat * (t.rx rb).toNat / 2 ^ 64))) ∧
  (∀ (b : Issue) (rd ra rb : Fin 32), WritesScalar (.min b rd ra rb) b rd (.alu .min rd ra rb) (fun _ _ t => if (t.rx ra).toInt ≤ (t.rx rb).toInt then (t.rx ra) else (t.rx rb))) ∧
  (∀ (b : Issue) (rd ra rb : Fin 32), WritesScalar (.max b rd ra rb) b rd (.alu .max rd ra rb) (fun _ _ t => if (t.rx ra).toInt ≤ (t.rx rb).toInt then (t.rx rb) else (t.rx ra))) ∧
  (∀ (b : Issue) (rd ra rb : Fin 32), WritesScalar (.slt b rd ra rb) b rd (.alu .slt rd ra rb) (fun _ _ t => if (t.rx ra).toInt < (t.rx rb).toInt then 1 else 0)) ∧
  (∀ (b : Issue) (rd ra rb : Fin 32), WritesScalar (.sltu b rd ra rb) b rd (.alu .sltu rd ra rb) (fun _ _ t => if (t.rx ra).toNat < (t.rx rb).toNat then 1 else 0)) ∧
  (∀ (b : Issue) (rd ra rb : Fin 32), WritesScalar (.seq b rd ra rb) b rd (.alu .seq rd ra rb) (fun _ _ t => if (t.rx ra) = (t.rx rb) then 1 else 0))) ∧
  ((∀ (b : Issue) (rd ra : Fin 32) (imm : BitVec 32), WritesScalar (.addi b rd ra imm) b rd (.aluImm .add rd ra imm) (fun _ _ t => (t.rx ra) + (imm.signExtend 64))) ∧
  (∀ (b : Issue) (rd ra : Fin 32) (imm : BitVec 32), WritesScalar (.andi b rd ra imm) b rd (.aluImm .and rd ra imm) (fun _ _ t => (t.rx ra) &&& (imm.signExtend 64))) ∧
  (∀ (b : Issue) (rd ra : Fin 32) (imm : BitVec 32), WritesScalar (.ori b rd ra imm) b rd (.aluImm .or rd ra imm) (fun _ _ t => (t.rx ra) ||| (imm.signExtend 64))) ∧
  (∀ (b : Issue) (rd ra : Fin 32) (imm : BitVec 32), WritesScalar (.xori b rd ra imm) b rd (.aluImm .xor rd ra imm) (fun _ _ t => (t.rx ra) ^^^ (imm.signExtend 64))) ∧
  (∀ (b : Issue) (rd ra : Fin 32) (imm : BitVec 32), WritesScalar (.shli b rd ra imm) b rd (.aluImm .shl rd ra imm) (fun _ _ t => (t.rx ra) <<< ((imm.signExtend 64).toNat % 64))) ∧
  (∀ (b : Issue) (rd ra : Fin 32) (imm : BitVec 32), WritesScalar (.shri b rd ra imm) b rd (.aluImm .shr rd ra imm) (fun _ _ t => (t.rx ra) >>> ((imm.signExtend 64).toNat % 64))) ∧
  (∀ (b : Issue) (rd ra : Fin 32) (imm : BitVec 32), WritesScalar (.srai b rd ra imm) b rd (.aluImm .sra rd ra imm) (fun _ _ t => ((t.rx ra)).sshiftRight ((imm.signExtend 64).toNat % 64))) ∧
  (∀ (b : Issue) (rd ra : Fin 32) (imm : BitVec 32), WritesScalar (.slti b rd ra imm) b rd (.aluImm .slt rd ra imm) (fun _ _ t => if (t.rx ra).toInt < (imm.signExtend 64).toInt then 1 else 0)) ∧
  (∀ (b : Issue) (rd ra : Fin 32) (imm : BitVec 32), WritesScalar (.sltiu b rd ra imm) b rd (.aluImm .sltu rd ra imm) (fun _ _ t => if (t.rx ra).toNat < (imm.signExtend 64).toNat then 1 else 0)) ∧
  (∀ (b : Issue) (rd ra : Fin 32) (imm : BitVec 32), WritesScalar (.seqi b rd ra imm) b rd (.aluImm .seq rd ra imm) (fun _ _ t => if (t.rx ra) = (imm.signExtend 64) then 1 else 0)))

/-- LD8U to LD64 read the core store zero-extended, TGET copies a tile register, and CSRR reads the system values of R110. (R4, R107, R108, R110, R112) -/
def Obligations.LoadTgetCsrrResults : Prop :=
  (∀ (b : Issue) (rd ra : Fin 32) (imm : BitVec 32), WritesScalar (.ld8u b rd ra imm) b rd (.ld 1 rd ra imm) (fun s _ t => BitVec.ofNat 64 (s.num (coreStoreKey (s.physCore b.at'.core) ((t.rx ra) + (imm.signExtend 64)).toNat) 1))) ∧
  (∀ (b : Issue) (rd ra : Fin 32) (imm : BitVec 32), WritesScalar (.ld16u b rd ra imm) b rd (.ld 2 rd ra imm) (fun s _ t => BitVec.ofNat 64 (s.num (coreStoreKey (s.physCore b.at'.core) ((t.rx ra) + (imm.signExtend 64)).toNat) 2))) ∧
  (∀ (b : Issue) (rd ra : Fin 32) (imm : BitVec 32), WritesScalar (.ld32u b rd ra imm) b rd (.ld 4 rd ra imm) (fun s _ t => BitVec.ofNat 64 (s.num (coreStoreKey (s.physCore b.at'.core) ((t.rx ra) + (imm.signExtend 64)).toNat) 4))) ∧
  (∀ (b : Issue) (rd ra : Fin 32) (imm : BitVec 32), WritesScalar (.ld64 b rd ra imm) b rd (.ld 8 rd ra imm) (fun s _ t => BitVec.ofNat 64 (s.num (coreStoreKey (s.physCore b.at'.core) ((t.rx ra) + (imm.signExtend 64)).toNat) 8))) ∧
  (∀ (b : Issue) (rd : Fin 32) (ta : Fin 16), WritesScalar (.tget b rd ta) b rd (.tget rd ta) (fun _ _ t => t.rt ta)) ∧
  (∀ (b : Issue) (rd : Fin 32), WritesScalar (.csrr b rd 0) b rd (.csrr rd 0) (fun s _ _ => BitVec.ofNat 64 (stackOfCore b.at'.core + clusterOfCore b.at'.core % 16 * 4 + logicalCore b.at'.core * 64 + s.physOf (clusterOfCore b.at'.core) (logicalCore b.at'.core) * 512))) ∧
  (∀ (b : Issue) (rd : Fin 32), WritesScalar (.csrr b rd 1) b rd (.csrr rd 1) (fun _ _ _ => BitVec.ofNat 64 b.at'.thread.val)) ∧
  (∀ (b : Issue) (rd : Fin 32), WritesScalar (.csrr b rd 2) b rd (.csrr rd 2) (fun _ g _ => BitVec.ofNat 64 g.step.toNat)) ∧
  (∀ (b : Issue) (rd : Fin 32), WritesScalar (.csrr b rd 3) b rd (.csrr rd 3) (fun s _ _ => BitVec.ofNat 64 (s.fld F.fabricSeatSeat))) ∧
  (∀ (b : Issue) (rd : Fin 32), WritesScalar (.csrr b rd 4) b rd (.csrr rd 4) (fun s _ _ => BitVec.ofNat 64 ((s.core b.at'.core).cycles25 / 25))) ∧
  (∀ (b : Issue) (rd : Fin 32), WritesScalar (.csrr b rd 5) b rd (.csrr rd 5) (fun s _ _ => BitVec.ofNat 64 s.now)) ∧
  (∀ (b : Issue) (rd : Fin 32), WritesScalar (.csrr b rd 6) b rd (.csrr rd 6) (fun s _ _ => BitVec.ofNat 64 (s.fld F.coreClockFmaxMhz (coreInst b.at'.core)))) ∧
  (∀ (b : Issue) (rd : Fin 32), WritesScalar (.csrr b rd 7) b rd (.csrr rd 7) (fun s _ _ => BitVec.ofNat 64 (s.fld F.coreClockFmaxMhz (coreInst b.at'.core)))) ∧
  (∀ (b : Issue) (rd : Fin 32), WritesScalar (.csrr b rd 8) b rd (.csrr rd 8) (fun s _ _ => BitVec.ofNat 64 (s.issueRate (clusterOfCore b.at'.core))))

/-- ST8 to ST64 store the low bytes of a register and change no other byte; TSET, TSLOT, LI and TLI write their register and nothing else but the PC. (R4, R87, R90, R99, R104, R107, R108, log entry 20) -/
def Obligations.StoreAndTileRegisterResults : Prop :=
  ((∀ (b : Issue) (rs ra : Fin 32) (imm : BitVec 32) (s : State) (g : Stage) (t : Thread), b.other = .nop →
    Issues s b.at' (bundleOf b (.st 1 rs ra imm)) g t → Completes (.st8 b rs ra imm) s (fun u =>
      let k := coreStoreKey (s.physCore b.at'.core) (t.rx ra + imm.signExtend 64).toNat
      u.bytes k 1 = toBytes 1 (t.rx rs).toNat ∧ (∀ a, (a < k ∨ k + 1 ≤ a) → u.byte a = s.byte a)
        ∧ u.threadAt b.at' = t.goesTo (t.pc + 16) ∧ u.hostMem = s.hostMem ∧ u.slate = s.slate ∧ u.poison = s.poison ∧ u.rowPoison = s.rowPoison
        ∧ (∀ m : Fin 16, m ≠ b.at'.thread → (u.core b.at'.core).thread m = (s.core b.at'.core).thread m)
        ∧ ∀ c : CoreId, c ≠ b.at'.core → u.core c = s.core c)) ∧
  (∀ (b : Issue) (rs ra : Fin 32) (imm : BitVec 32) (s : State) (g : Stage) (t : Thread), b.other = .nop →
    Issues s b.at' (bundleOf b (.st 2 rs ra imm)) g t → Completes (.st16 b rs ra imm) s (fun u =>
      let k := coreStoreKey (s.physCore b.at'.core) (t.rx ra + imm.signExtend 64).toNat
      u.bytes k 2 = toBytes 2 (t.rx rs).toNat ∧ (∀ a, (a < k ∨ k + 2 ≤ a) → u.byte a = s.byte a)
        ∧ u.threadAt b.at' = t.goesTo (t.pc + 16) ∧ u.hostMem = s.hostMem ∧ u.slate = s.slate ∧ u.poison = s.poison ∧ u.rowPoison = s.rowPoison
        ∧ (∀ m : Fin 16, m ≠ b.at'.thread → (u.core b.at'.core).thread m = (s.core b.at'.core).thread m)
        ∧ ∀ c : CoreId, c ≠ b.at'.core → u.core c = s.core c)) ∧
  (∀ (b : Issue) (rs ra : Fin 32) (imm : BitVec 32) (s : State) (g : Stage) (t : Thread), b.other = .nop →
    Issues s b.at' (bundleOf b (.st 4 rs ra imm)) g t → Completes (.st32 b rs ra imm) s (fun u =>
      let k := coreStoreKey (s.physCore b.at'.core) (t.rx ra + imm.signExtend 64).toNat
      u.bytes k 4 = toBytes 4 (t.rx rs).toNat ∧ (∀ a, (a < k ∨ k + 4 ≤ a) → u.byte a = s.byte a)
        ∧ u.threadAt b.at' = t.goesTo (t.pc + 16) ∧ u.hostMem = s.hostMem ∧ u.slate = s.slate ∧ u.poison = s.poison ∧ u.rowPoison = s.rowPoison
        ∧ (∀ m : Fin 16, m ≠ b.at'.thread → (u.core b.at'.core).thread m = (s.core b.at'.core).thread m)
        ∧ ∀ c : CoreId, c ≠ b.at'.core → u.core c = s.core c)) ∧
  (∀ (b : Issue) (rs ra : Fin 32) (imm : BitVec 32) (s : State) (g : Stage) (t : Thread), b.other = .nop →
    Issues s b.at' (bundleOf b (.st 8 rs ra imm)) g t → Completes (.st64 b rs ra imm) s (fun u =>
      let k := coreStoreKey (s.physCore b.at'.core) (t.rx ra + imm.signExtend 64).toNat
      u.bytes k 8 = toBytes 8 (t.rx rs).toNat ∧ (∀ a, (a < k ∨ k + 8 ≤ a) → u.byte a = s.byte a)
        ∧ u.threadAt b.at' = t.goesTo (t.pc + 16) ∧ u.hostMem = s.hostMem ∧ u.slate = s.slate ∧ u.poison = s.poison ∧ u.rowPoison = s.rowPoison
        ∧ (∀ m : Fin 16, m ≠ b.at'.thread → (u.core b.at'.core).thread m = (s.core b.at'.core).thread m)
        ∧ ∀ c : CoreId, c ≠ b.at'.core → u.core c = s.core c))) ∧
  ((∀ (b : Issue) (td : Fin 16) (ra : Fin 32), b.other = .nop → MakesThread (.tset b td ra) b.at' (bundleOf b (.tset td ra)) (fun t => (t.wt td (t.rx ra)).goesTo (t.pc + 16))) ∧
  (∀ (b : Issue) (td ta : Fin 16) (imm : BitVec 32), b.other = .nop → MakesThread (.tslot b td ta imm) b.at' (bundleOf b (.tslot td ta imm)) (fun t => (t.wt td (BitVec.ofNat 64 ((t.rt ta).toNat / 128 * 128 + ((t.rt ta).toNat + (imm.signExtend 64).toNat) % 128))).goesTo (t.pc + 16))) ∧
  (∀ (r : ThreadRef) (rd : Fin 32) (imm : BitVec 64), MakesThread (.li r rd imm) r (liBundle (.li rd imm)) (fun t => (t.wx rd imm).goesTo (t.pc + 16))) ∧
  (∀ (r : ThreadRef) (td : Fin 16) (imm : BitVec 64), MakesThread (.tli r td imm) r (liBundle (.tli td imm)) (fun t => (t.wt td imm).goesTo (t.pc + 16))))

/-- A branch goes where its comparison says; JAL and JALR write PC + 16 and go to their target; FENCE waits (log entry 14); HALT ends the thread's part. (R92, R97, R107, R108, R109, log entry 14) -/
def Obligations.ControlFlowResults : Prop :=
  ((∀ (b : Issue) (ra rb : Fin 32) (off : BitVec 20), b.other = .nop → MakesThread (.beq b ra rb off) b.at' (bundleOf b (.branch .eq ra rb off)) (fun t => t.goesTo (if t.rx ra = t.rx rb then BitVec.ofInt 20 ((t.pc.toNat : Int) + 16 * off.toInt) else t.pc + 16))) ∧
  (∀ (b : Issue) (ra rb : Fin 32) (off : BitVec 20), b.other = .nop → MakesThread (.bne b ra rb off) b.at' (bundleOf b (.branch .ne ra rb off)) (fun t => t.goesTo (if t.rx ra ≠ t.rx rb then BitVec.ofInt 20 ((t.pc.toNat : Int) + 16 * off.toInt) else t.pc + 16))) ∧
  (∀ (b : Issue) (ra rb : Fin 32) (off : BitVec 20), b.other = .nop → MakesThread (.blt b ra rb off) b.at' (bundleOf b (.branch .lt ra rb off)) (fun t => t.goesTo (if (t.rx ra).toInt < (t.rx rb).toInt then BitVec.ofInt 20 ((t.pc.toNat : Int) + 16 * off.toInt) else t.pc + 16))) ∧
  (∀ (b : Issue) (ra rb : Fin 32) (off : BitVec 20), b.other = .nop → MakesThread (.bge b ra rb off) b.at' (bundleOf b (.branch .ge ra rb off)) (fun t => t.goesTo (if (t.rx rb).toInt ≤ (t.rx ra).toInt then BitVec.ofInt 20 ((t.pc.toNat : Int) + 16 * off.toInt) else t.pc + 16))) ∧
  (∀ (b : Issue) (ra rb : Fin 32) (off : BitVec 20), b.other = .nop → MakesThread (.bltu b ra rb off) b.at' (bundleOf b (.branch .ltu ra rb off)) (fun t => t.goesTo (if (t.rx ra).toNat < (t.rx rb).toNat then BitVec.ofInt 20 ((t.pc.toNat : Int) + 16 * off.toInt) else t.pc + 16))) ∧
  (∀ (b : Issue) (ra rb : Fin 32) (off : BitVec 20), b.other = .nop → MakesThread (.bgeu b ra rb off) b.at' (bundleOf b (.branch .geu ra rb off)) (fun t => t.goesTo (if (t.rx rb).toNat ≤ (t.rx ra).toNat then BitVec.ofInt 20 ((t.pc.toNat : Int) + 16 * off.toInt) else t.pc + 16)))) ∧
  ((∀ (b : Issue) (rd : Fin 32) (off : BitVec 20), b.other = .nop → MakesThread (.jal b rd off) b.at' (bundleOf b (.jal rd off)) (fun t => (t.wx rd (BitVec.ofNat 64 (t.pc.toNat + 16))).goesTo (BitVec.ofInt 20 ((t.pc.toNat : Int) + 16 * off.toInt)))) ∧
  (∀ (b : Issue) (rd ra : Fin 32) (imm : BitVec 32), b.other = .nop → MakesThread (.jalr b rd ra imm) b.at' (bundleOf b (.jalr rd ra imm)) (fun t => (t.wx rd (BitVec.ofNat 64 (t.pc.toNat + 16))).goesTo (BitVec.ofNat 20 (t.rx ra + imm.signExtend 64).toNat))) ∧
  (∀ b : Issue, b.other = .nop → MakesThread (.fence b) b.at' (bundleOf b .fence) (fun t => { t.goesTo (t.pc + 16) with state := .waitFence })) ∧
  (∀ b : Issue, b.other = .nop → MakesThread (.halt b) b.at' (bundleOf b .halt) (fun t => { t.goesTo (t.pc + 16) with state := .halted })))

/-- LDX and STX take an entry; LDX_RETURN writes rd, STX_ACCEPTED writes memory, each frees it; FENCE_COMPLETE makes a waiting thread READY. (R96, R98, R107, R108, R97, R113, R209, R220, R92, R176) -/
def Obligations.AccessesAndFencesComplete : Prop :=
  ((∀ (b : Issue) (rd ra : Fin 32) (imm : BitVec 32) (s : State) (g : Stage) (t : Thread), b.other = .nop →
    Issues s b.at' (bundleOf b (.ldx 8 rd ra imm)) g t → Completes (.ldx64 b rd ra imm) s (fun u =>
      u.threadAt b.at' = t.goesTo (t.pc + 16) ∧ u.mem = s.mem ∧
      (u.core b.at'.core).outst = (s.core b.at'.core).outst ++
        [⟨(s.core b.at'.core).nextId, b.at'.thread, t.pc, b.slotB, t.seq, true, 8, rd, (t.rx ra + imm.signExtend 64).toNat, 0⟩]
      ∧ (u.core b.at'.core).nextId = (s.core b.at'.core).nextId + 1 ∧ ∀ c : CoreId, c ≠ b.at'.core → u.core c = s.core c)) ∧
  (∀ (b : Issue) (rd ra : Fin 32) (imm : BitVec 32) (s : State) (g : Stage) (t : Thread), b.other = .nop →
    Issues s b.at' (bundleOf b (.ldx 4 rd ra imm)) g t → Completes (.ldx32u b rd ra imm) s (fun u =>
      u.threadAt b.at' = t.goesTo (t.pc + 16) ∧ u.mem = s.mem ∧
      (u.core b.at'.core).outst = (s.core b.at'.core).outst ++
        [⟨(s.core b.at'.core).nextId, b.at'.thread, t.pc, b.slotB, t.seq, true, 4, rd, (t.rx ra + imm.signExtend 64).toNat, 0⟩]
      ∧ (u.core b.at'.core).nextId = (s.core b.at'.core).nextId + 1 ∧ ∀ c : CoreId, c ≠ b.at'.core → u.core c = s.core c)) ∧
  (∀ (b : Issue) (rs ra : Fin 32) (imm : BitVec 32) (s : State) (g : Stage) (t : Thread), b.other = .nop →
    Issues s b.at' (bundleOf b (.stx 8 rs ra imm)) g t → Completes (.stx64 b rs ra imm) s (fun u =>
      u.threadAt b.at' = t.goesTo (t.pc + 16) ∧ u.mem = s.mem ∧
      (u.core b.at'.core).outst = (s.core b.at'.core).outst ++
        [⟨(s.core b.at'.core).nextId, b.at'.thread, t.pc, b.slotB, t.seq, false, 8, 0, (t.rx ra + imm.signExtend 64).toNat, t.rx rs⟩]
      ∧ (u.core b.at'.core).nextId = (s.core b.at'.core).nextId + 1 ∧ ∀ c : CoreId, c ≠ b.at'.core → u.core c = s.core c)) ∧
  (∀ (b : Issue) (rs ra : Fin 32) (imm : BitVec 32) (s : State) (g : Stage) (t : Thread), b.other = .nop →
    Issues s b.at' (bundleOf b (.stx 4 rs ra imm)) g t → Completes (.stx32 b rs ra imm) s (fun u =>
      u.threadAt b.at' = t.goesTo (t.pc + 16) ∧ u.mem = s.mem ∧
      (u.core b.at'.core).outst = (s.core b.at'.core).outst ++
        [⟨(s.core b.at'.core).nextId, b.at'.thread, t.pc, b.slotB, t.seq, false, 4, 0, (t.rx ra + imm.signExtend 64).toNat, t.rx rs⟩]
      ∧ (u.core b.at'.core).nextId = (s.core b.at'.core).nextId + 1 ∧ ∀ c : CoreId, c ≠ b.at'.core → u.core c = s.core c))) ∧
  ((∀ (c : CoreId) (id : Nat) (s : State) (o : Outst), s.accessDue c id true = some o → (o.bytes = 4 ∨ o.bytes = 8) → o.addr % o.bytes = 0 → s.sound o.addr = true → s.anyPoison o.addr o.bytes = false →
    s.hallwayDown (stackOfCore c) (addrStack o.addr) = false → Completes (.ldxReturn c id) s (fun u =>
      ((u.core c).thread o.thread).rx o.rd = (if o.rd = 0 then 0 else BitVec.ofNat 64 (s.num o.addr o.bytes))
        ∧ (u.core c).outst = (s.core c).outst.filter (fun k => k.id != id) ∧ u.mem = s.mem
        ∧ (∀ r, r ≠ o.rd → ((u.core c).thread o.thread).rx r = ((s.core c).thread o.thread).rx r))) ∧
  (∀ (c : CoreId) (id : Nat) (s : State) (o : Outst), s.accessDue c id true = some o → (o.bytes = 4 ∨ o.bytes = 8) → o.addr % o.bytes = 0 → s.sound o.addr = true →
    (s.anyPoison o.addr o.bytes = true ∨ s.hallwayDown (stackOfCore c) (addrStack o.addr) = true) → Completes (.ldxReturn c id) s (fun u =>
      ((u.core c).thread o.thread).state = .faulted ∧ ((u.core c).thread o.thread).pc = o.pc
        ∧ ((u.core c).thread o.thread).x = ((s.core c).thread o.thread).x ∧ u.mem = s.mem
        ∧ (u.core c).outst = (s.core c).outst.filter (fun k => k.id != id)
        ∧ (s.fld F.coreFaultInfoValid (coreInst c) = 0 → u.fld F.coreFaultInfoCode (coreInst c) = 0x08 ∧ u.reg .coreFaultAddr (coreInst c) = o.addr % 2 ^ 64))) ∧
  (∀ (c : CoreId) (id : Nat) (s : State) (o : Outst), s.accessDue c id false = some o → (o.bytes = 4 ∨ o.bytes = 8) → o.addr % o.bytes = 0 →
    s.setWaits o.addr = false →  s.discards o.addr = false → Completes (.stxAccepted c id) s (fun u =>
      u.bytes o.addr o.bytes = toBytes o.bytes o.data.toNat ∧ (∀ a, (a < o.addr ∨ o.addr + o.bytes ≤ a) → u.byte a = s.byte a)
        ∧ (u.core c).outst = (s.core c).outst.filter (fun k => k.id != id)))) ∧
  ((∀ (r : ThreadRef) (s : State) (g : Stage), (s.core r.core).stage = some g → (s.threadAt r).state = .waitFence → (s.threadAt r).waitBell = none →
    ((s.judged r).core r.core).fenceClear g r.thread = true → (s.cluster (clusterOfCore r.core)).stopping = false → s.outOfService (stackOfCore r.core) = false →
    Completes (.fenceComplete r) s (fun u => u.threadAt r = { s.threadAt r with state := .ready } ∧ OthersKept s u r)) ∧
  (∀ (r : ThreadRef) (s : State) (g : Stage), (s.core r.core).stage = some g → ((s.judged r).core r.core).fenceClear g r.thread = false →
    exec (.fenceComplete r) s = .next (s.judged r)))

/-- TRAP, an illegal bundle, and a fetch outside the program range or from a bad store raise their fault of R113, and nothing else takes effect. (R93, R104, R109, R113, R114, R115, R437) -/
def Obligations.IssueFaults : Prop :=
  (∀ (b : Issue) (imm : BitVec 32) (s : State) (g : Stage) (t : Thread), b.other = .nop → (s.judged b.at').runnable b.at'.core b.at'.thread = some (g, t) →
    ((s.judged b.at').core b.at'.core).illegalSlot g t (bundleOf b (.trap imm)) = none →
    Completes (.trap b imm) s (fun u => TakesFault (s.judged b.at') u b.at'.core t.seq ⟨b.at'.thread, t.pc, b.slotB, false, 0x0B, imm.toNat⟩)) ∧
  (∀ (r : ThreadRef) (w : BitVec 128) (s : State) (g : Stage) (t : Thread) (a b : Bool), s.runnable r.core r.thread = some (g, t) →
    (s.core r.core).illegalSlots g t w.toNat = (a, b) →
    (a ≠ b → Completes (.illegalBundle r w) s (fun u => TakesFault s u r.core t.seq ⟨r.thread, t.pc, b, false, 0x01, w.toNat % 2 ^ 64⟩)) ∧
    (a = true → b = true → Completes (.illegalBundle r w) s (fun u =>
      let k := coreInst r.core
      let was := s.fld F.coreFaultInfoValid k
      OthersKept s u r ∧ (u.core r.core).thread r.thread = { (s.core r.core).thread r.thread with state := .faulted, pc := t.pc, waitOn := none, waitBell := none } ∧
      (was = 0 → u.reg .coreFaultInfo k = 1 + r.thread.val * 2 ^ 8 + 2 ^ 14 + 2 ^ 15 + t.pc.toNat * 2 ^ 16 ∧ u.reg .coreFaultAddr k = w.toNat % 2 ^ 64) ∧
      (was ≠ 0 → u.reg .coreFaultAddr k = s.reg .coreFaultAddr k ∧ u.fld F.coreFaultInfoMore k = 1) ∧
      u.fld F.coreFaultCountCount k = min (s.fld F.coreFaultCountCount k + (if was = 0 then 1 else 2)) (2 ^ 32 - 1)))) ∧
  (∀ (r : ThreadRef) (s : State) (g : Stage), s.fetches r.core r.thread = true → (s.core r.core).stage = some g →
    pcOk g (s.threadAt r).pc.toNat = false → Completes (.fetchPastRange r false) s (fun u =>
      TakesFault s u r.core (s.threadAt r).seq ⟨r.thread, (s.threadAt r).pc, false, false, 0x02, (s.threadAt r).pc.toNat⟩)) ∧
  (∀ (r : ThreadRef) (s : State), s.fetches r.core r.thread = true → Completes (.fetchPastRange r true) s (fun u =>
      TakesFault s u r.core (s.threadAt r).seq ⟨r.thread, (s.threadAt r).pc, false, false, 0x09, (s.threadAt r).pc.toNat⟩
        ∧ (u.cluster (clusterOfCore r.core)).istoreBad = NatSet.insert (s.cluster (clusterOfCore r.core)).istoreBad (s.threadAt r).pc.toNat))

/-- Every matrix, Slate, vector, gather and finishing operation that issues enters its queue with its captured registers, and writes nothing yet. (R93, R98, R103, R107) -/
def Obligations.EngineRowsEnqueue : Prop :=
  ∀ (i : Instr) (b : Issue) (o : Op) (s : State) (g : Stage) (t : Thread), slotRow i = some (b, o) → b.slotB = true → b.other = .nop →
    Issues s b.at' (bundleOf b o) g t → Completes i s (fun u =>
      let co := s.core b.at'.core
      let v := u.core b.at'.core
      let e := engOpOf (s.judged b.at') b.at'.core b.at'.thread t true o
      match o with
      | .mma _ => v.mmaQ = co.mmaQ ++ [e] ∧ u.threadAt b.at' = t.goesTo (t.pc + 16) ∧ u.slate = s.slate ∧ u.mem = s.mem
      | .eng k _ =>
        (match k with
         | .save | .rest | .rnd => v.slateQ = co.slateQ ++ [e]
         | .gath | .scat => v.gathQ = co.gathQ ++ [e]
         | .fin => v.finQ = co.finQ ++ [e]
         | .varith | .vfn | .vder | .vcvt | .vlx | .vred | .vstat => v.vecQ = co.vecQ ++ [e])
        ∧ u.threadAt b.at' = t.goesTo (t.pc + 16) ∧ u.slate = s.slate ∧ u.mem = s.mem
      | _ => True)

/-- A group of at most 32 products is deposited exactly, and a dot product adds the exact sum of its element products to its accumulator. (R60, R62, R63, R65, R66, R68) -/
def Obligations.ProductsAreSummedExactly : Prop :=
  (∀ ps : List Piece, ps.length ≤ 32 → (∀ p ∈ ps, -320 ≤ p.q ∧ p.w ≤ 22) →
    (depositGroup ps).1 = (ps.map (fun p => p.m * 2 ^ (p.q + 320).toNat)).sum ∧ 1 ≤ (depositGroup ps).2 ∧ (depositGroup ps).2 ≤ 32) ∧
  (∀ (acc : Acc) (fa fb : Nat) (a b : List Nat), fa ≤ 8 → fb ≤ 8 →
    (dotInto acc fa fb a b).acc.value = acc.value + BitVec.ofInt 648
      ((((a.map (decodeOperand fa)).zip (b.map (decodeOperand fb))).map (fun p =>
        if (specialProduct p.1.val p.2.val).isSome then (0 : Int)
        else (p.1.pieces.flatMap (fun x => p.2.pieces.map (fun y => x.m * y.m * 2 ^ (x.q + y.q + 320).toNat))).sum)).sum))

/-- An engine operation that faults raises FORMAT, POISON, ADDRESS or MEMORY with its engine bit set and writes no memory, no register and no Slate row. (R113, R114, R115) -/
def Obligations.EngineFaultsWriteNothing : Prop :=
  ∀ (s : State) (c : CoreId) (g : Stage) (o : EngOp),
    (∀ w, TakesFault s (s.engFault c g o (.format w none)) c o.seq ⟨o.thread, o.pc, o.slotB, true, 0x03, formatDetail g (o.word w) w⟩) ∧
    (∀ r, TakesFault s (s.engFault c g o (.poison r)) c o.seq ⟨o.thread, o.pc, o.slotB, true, 0x08, r⟩) ∧
    (∀ a, TakesFault s (s.engFault c g o (.address a)) c o.seq ⟨o.thread, o.pc, o.slotB, true, 0x04, a⟩) ∧
    (∀ r, TakesFault s (s.engFault c g o (.memory r)) c o.seq ⟨o.thread, o.pc, o.slotB, true, 0x09, r⟩) ∧
    (∀ k, TakesFault s (s.engFault c g o (.table k)) c o.seq ⟨o.thread, o.pc, o.slotB, true, 0x08, k⟩)

/-- An engine takes the operation at the front of its queue once nothing before it conflicts and its buffers have landed; a faulty one raises its fault. (R72, R96, R98, R113, R125, R126, R143, R147) -/
def Obligations.EnginesStart : Prop :=
  (∀ (c : CoreId) (s : State) (g : Stage) (o : EngOp) (m : MFields) (rest : List EngOp),
    let s' := s.setCore c (Core.wakeQueue { s.core c with mmaQ := rest })
    (s.core c).stage = some g → (s.core c).mmaQ = o :: rest → o.op = .mma m → (s.core c).mmaAtInput = none → (s.core c).clear g o = true →
    (s.core c).fedReady o = true →
    (∀ w, mmaFault (o.srcA g) (o.srcB g) m (tileReg o.tA.toNat).stream.isSome (tileReg o.tB.toNat).stream.isSome = some w →
      exec (.mmaOccupancyStart c) s = .next (s'.engFault c g o (.format w none))) ∧
    (mmaFault (o.srcA g) (o.srcB g) m (tileReg o.tA.toNat).stream.isSome (tileReg o.tB.toNat).stream.isSome = none →
      (Op.mma m).slateRows.find? (NatSet.has (s.core c).slateBad) = none → (s.core c).transposeBad = false →
      exec (.mmaOccupancyStart c) s = .next (mmaAdvance (s'.setCore c { (s'.core c) with mmaRun := (s'.core c).mmaRun ++
        [⟨o, (m.mrows.val + 1) / ((nExtent (o.srcB g) m.tb + 127) / 128), nExtent (o.srcB g) m.tb, m.kLen, 0, [], []⟩] }) c o.order))) ∧
  (∀ (c : CoreId) (s : State) (g : Stage) (o : EngOp) (rest : List EngOp),
    let s' := s.setCore c (Core.wakeQueue { s.core c with slateQ := rest })
    (s.core c).stage = some g → (s.core c).slateQ = o :: rest → (s.core c).slateRun = none → (s.core c).clear g o = true → (s.core c).fedReady o = true →
    (∀ f, slateFault s' c g o = some f → exec (.slateOpStart c) s = .next (s'.engFault c g o f)) ∧
    (slateFault s' c g o = none → Completes (.slateOpStart c) s (fun u =>
      (u.core c).slateRun = some o ∧ (u.core c).slateQ = rest ∧ u.mem = s.mem ∧ u.slate = s.slate))) ∧
  (∀ (c : CoreId) (s : State) (g : Stage) (o : EngOp) (rest : List EngOp),
    let s' := s.setCore c (Core.wakeQueue { s.core c with vecQ := rest })
    (s.core c).stage = some g → (s.core c).vecQ = o :: rest → (s.core c).clear g o = true → (s.core c).fedReady o = true →
    (∀ f, vecFault s' c g o = some f → exec (.vectorOpStart c) s = .next (s'.engFault c g o f)) ∧
    (vecFault s' c g o = none → Completes (.vectorOpStart c) s (fun u =>
      (u.core c).vecRun = (s.core c).vecRun ++ [o] ∧ (u.core c).vecQ = rest ∧ u.mem = s.mem ∧ u.slate = s.slate))) ∧
  (∀ (cl : ClusterId) (s : State) (k : Fin 8) (g : Stage) (o : EngOp) (e : EFields),
    let c := coreOf cl k
    let s' := s.setCore c (Core.wakeQueue { s.core c with finQ := (s.core c).finQ.drop 1 })
    (s.cluster cl.val).finRun = none → s.firstFin cl = some (k, o) → (s.core c).stage = some g → o.op = .eng .fin e → (s.core c).clear g o = true →
    (s.core c).fedReady o = true →
    (∀ f, finFault s' c g o e = some f → exec (.finServeStart cl) s = .next (s'.engFault c g o f)) ∧
    (finFault s' c g o e = none → Completes (.finServeStart cl) s (fun u =>
      (u.core c).finRun = some o ∧ (u.cluster cl.val).finRun = some k ∧ (u.core c).finQ = (s.core c).finQ.drop 1 ∧ u.mem = s.mem ∧ u.slate = s.slate))) ∧
  (∀ (c : CoreId) (s : State) (g : Stage) (o : EngOp) (e : EFields) (rest : List EngOp),
    let s' := s.setCore c (Core.wakeQueue { s.core c with gathQ := rest })
    (s.core c).stage = some g → (s.core c).gathQ = o :: rest → (o.op = .eng .gath e ∨ o.op = .eng .scat e) → (s.core c).gathRun = none →
    (s.core c).clear g o = true → (s.core c).fedReady o = true →
    (∀ f, gatherFault s' c g o e = some f → exec (.gatherOpStart c) s = .next (s'.engFault c g o f)) ∧
    (gatherFault s' c g o e = none → Completes (.gatherOpStart c) s (fun u =>
      let z := s'.zeroNullRows c g o e
      (u.core c).gathRun = gatherLeft ⟨o, z.gatherSectors c g o e, []⟩ ∧ (u.core c).gathQ = rest ∧ u.mem = z.mem ∧ u.slate = s.slate)))

/-- A finished engine operation has written its result: MMA its dot products, SAVE and REST a row, RND, vector and finishing operations their tile. (R66, R74, R76, R121, R125, R134, R135, R144, R145) -/
def Obligations.EnginesFinish : Prop :=
  (∀ (c : CoreId) (s : State) (g : Stage) (r : MmaRun) (rest : List MmaRun) (m : MFields),
    (s.core c).stage = some g → (s.core c).mmaRun = r :: rest → r.eng.op = .mma m → r.k ≤ r.kDone → Completes (.mmaLastDeposit c) s (fun u =>
      u.slate = (s.depositAll c m r (r.eng.srcA g).d.fmt (r.eng.srcB g).d.fmt).slate ∧ (u.core c).mmaRun = rest ∧ u.mem = s.mem
        ∧ (r.m * ((r.n + 127) / 128) ≤ m.mrows.val + 1 → ∀ i j, i < r.m → j < r.n →
            let k := 128 * (m.srow.val + i * ((r.n + 127) / 128) + j / 128) + j % 128
            u.acc c k = (dotInto (if m.accumulate then s.acc c k else Acc.zero) (r.eng.srcA g).d.fmt (r.eng.srcB g).d.fmt
              (r.aCodes.getD i []) (r.bCodes.getD j [])).acc))) ∧
  (∀ (c : CoreId) (s : State) (g : Stage) (o : EngOp) (e : EFields),
    (s.core c).stage = some g → (s.core c).slateRun = some o → o.op = .eng .rest e → Completes (.slateOpComplete c) s (fun u =>
      (∀ p : Nat, p < 128 → u.acc c (128 * e.slateRow + p) = (s.lxAt c (o.srcA g).slot p).restore) ∧ (u.core c).slateRun = none ∧ u.mem = s.mem)) ∧
  (∀ (c : CoreId) (s : State) (g : Stage) (o : EngOp) (e : EFields),
    (s.core c).stage = some g → (s.core c).slateRun = some o → o.op = .eng .save e → Completes (.slateOpComplete c) s (fun u =>
      u.mem = (s.writeLx c (o.dst g).slot (fun p => (s.acc c (128 * e.slateRow + p)).save)).mem ∧ (u.core c).slateRun = none ∧ u.slate = s.slate)) ∧
  (∀ (c : CoreId) (s : State) (g : Stage) (o : EngOp) (e : EFields),
    (s.core c).stage = some g → (s.core c).slateRun = some o → o.op = .eng .rnd e → Completes (.slateOpComplete c) s (fun u =>
      u.mem = (s.convertInto c g o e (o.dst g) false (s.rndRows c (o.dst g) (o.srcA g) (o.srcB g) e)).mem ∧ (u.core c).slateRun = none ∧ u.slate = s.slate)) ∧
  (∀ (c : CoreId) (s : State) (g : Stage) (o : EngOp) (rest : List EngOp),
    (s.core c).stage = some g → (s.core c).vecRun = o :: rest → Completes (.vectorOpComplete c) s (fun u =>
      u.mem = (vecResult s c g o).mem ∧ (u.core c).vecRun = rest ∧ u.slate = s.slate)) ∧
  (∀ (cl : ClusterId) (s : State) (k : Fin 8) (g : Stage) (o : EngOp) (e : EFields),
    let c := coreOf cl k
    let s' := s.setCluster cl.val { s.cluster cl.val with finRun := none }
    (s.cluster cl.val).finRun = some k → (s.core c).stage = some g → (s.core c).finRun = some o → o.op = .eng .fin e → Completes (.finComplete cl) s (fun u =>
      u.mem = (s'.convertInto c g o e (o.dst g) e.smode (s'.finRows c g o e)).mem ∧ (u.core c).finRun = none ∧ (u.cluster cl.val).finRun = none))

/-- The gather engine sends one sector at a time, at most 64 outstanding; a sector that returns lands in its tile row or at its slice. (R113, R146, R148, R149, R150, R151, R220) -/
def Obligations.GatherSectors : Prop :=
  (∀ (c : CoreId) (s : State) (g : Stage) (r : GathRun) (x : GSector) (rest : List GSector),
    (s.core c).stage = some g → (s.core c).gathRun = some r → r.toSend = x :: rest → r.outst.length < 64 →
    (s.coreReaches c x.addr = true → Completes (.gatherSectorRequest c) s (fun u =>
      (u.core c).gathRun = some { r with toSend := rest, outst := r.outst ++ [((s.core c).nextId, s.readSector c g r.eng x)] } ∧ u.mem = s.mem)) ∧
    (s.coreReaches c x.addr = false → Completes (.gatherSectorRequest c) s (fun u =>
      (u.core c).gathRun = none ∧ u.mem = s.mem ∧ TakesFault (s.setCore c { s.core c with gathRun := none }) u c r.eng.seq
        ⟨r.eng.thread, r.eng.pc, r.eng.slotB, true, 0x04, x.addr⟩))) ∧
  (∀ (c : CoreId) (n : Nat) (s : State) (g : Stage) (r : GathRun) (x : GSector),
    (s.core c).stage = some g → (s.core c).gathRun = some r → r.outst.find? (fun y => y.1 == n) = some (n, x) → r.behind n x = false →
    s.sliceReady x.addr = true → Completes (.gatherSectorReturn c n) s (fun u =>
      u.mem = (s.sectorDone c g r.eng x).mem ∧ (u.core c).gathRun = gatherLeft { r with outst := r.outst.filter (fun y => y.1 != n) })) ∧
  (∀ (s : State) (c : CoreId) (g : Stage) (o : EngOp) (e : EFields) (x : GSector), o.op = .eng .gath e → s.noWaits = true →
    (s.sectorDone c g o x).bytes (coreStoreKey (s.physCore c) (tileByte (o.dst g) x.row x.pos)) 32 = s.bytes x.addr 32) ∧
  (∀ (s : State) (c : CoreId) (g : Stage) (o : EngOp) (e : EFields) (x : GSector), o.op = .eng .scat e → scatAdds e = false → s.noWaits = true →
    x.addr % 32 = 0 → x.data.length = 32 → s.discards x.addr = false →
    (s.sectorDone c g o x).bytes x.addr 32 = x.data ∧ ∀ a, (a < x.addr ∨ x.addr + 32 ≤ a) → (s.sectorDone c g o x).byte a = s.byte a) ∧
  (∀ (s : State) (c : CoreId) (g : Stage) (o : EngOp) (e : EFields) (x : GSector) (size : Nat), o.op = .eng .scat e → scatAdds e = true →
    addSize (o.srcB g).d.fmt = some size → s.noWaits = true → x.addr % 32 = 0 → x.data.length = 32 → s.discards x.addr = false →
    let t := s.sectorDone c g o x
    (∀ i, i < 32 / size → t.num (x.addr + size * i) size = (s.num (x.addr + size * i) size + ofBytes ((x.data.drop (size * i)).take size)) % 2 ^ (8 * size))
      ∧ (∀ a, (a < x.addr ∨ x.addr + 32 ≤ a) → t.byte a = s.byte a) ∧ (x.poison = true → t.poisoned x.addr = true)) ∧
  (∀ fmt : Nat, addSize fmt = if fmt = 9 ∨ fmt = 0xA then some 4 else if fmt = 0xC then some 8 else none)

/-- A conversion rounds the exact value once: nearest even, truncated or stochastic, saturating or infinite; the chosen scale is the least that fits the row. (R32, R36, R41, R44, R45, R46, R47, R49, R50, R51, R52) -/
def Obligations.ConversionsRoundOnce : Prop :=
  (∀ (p q : Nat) (e k : Int) (noise : Nat), 0 < p → 0 < q → noise < 2 ^ 32 →
    let x : Rat := (p : Rat) / q * 2 ^ (e - k)
    let n := x.floor.toNat
    roundMag 1 noise (.rat p q e) k = n ∧
    roundMag 2 noise (.rat p q e) k = (if noise < ((x - n) * 2 ^ 32).floor.toNat then n + 1 else n) ∧
    roundMag 0 noise (.rat p q e) k = (if x - n < 1 / 2 ∨ (x - n = 1 / 2 ∧ n % 2 = 0) then n else n + 1)) ∧
  (∀ (p q : Nat) (e k : Int) (noise : Nat), 0 < p → 0 < q → noise < 2 ^ 32 →
    let y : Rat := (p : Rat) / q * 2 ^ (e - 2 * k)
    ∃ n f : Nat, (n : Rat) ^ 2 ≤ y ∧ y < (n + 1 : Rat) ^ 2 ∧ f < 2 ^ 32 ∧ (n + (f : Rat) / 2 ^ 32) ^ 2 ≤ y ∧ y < (n + (f + 1 : Rat) / 2 ^ 32) ^ 2 ∧
      roundMag 1 noise (.root p q e) k = n ∧ roundMag 2 noise (.root p q e) k = (if noise < f then n + 1 else n) ∧
      roundMag 0 noise (.root p q e) k = (if y < (n + 1 / 2 : Rat) ^ 2 ∨ (y = (n + 1 / 2 : Rat) ^ 2 ∧ n % 2 = 0) then n else n + 1)) ∧
  (∀ (p q : Nat) (e : Int), 0 < p → 0 < q →
    let x : Rat := (p : Rat) / q * 2 ^ e
    (2 : Rat) ^ (Mag.rat p q e).log2 ≤ x ∧ x < (2 : Rat) ^ ((Mag.rat p q e).log2 + 1) ∧
    (4 : Rat) ^ (Mag.root p q e).log2 ≤ x ∧ x < (4 : Rat) ^ ((Mag.root p q e).log2 + 1)) ∧
  (∀ (fmt : Nat) (f : FloatFmt) (r : Rounding) (noise : Nat) (neg : Bool) (m : Mag), floatFmt fmt = some f → m.proper = true →
    let k := max m.log2 (1 - f.bias) - f.fb
    let q : Rat := roundMag r.rnd noise m k * 2 ^ k
    let top : Rat := f.maxSig * 2 ^ (f.emax - f.fb)
    let sg (x : Rat) : Rat := if neg then -x else x
    let x := roundElem fmt 0 r noise (.num neg m)
    (x.overflow = true ↔ top < q) ∧ (x.underflow = true ↔ q = 0) ∧
    (x.overflow = false → (decodeElem fmt 0 x.code).toRat = some (sg q) ∧ (decodeElem fmt 0 x.code).sign = neg) ∧
    (x.overflow = true → if r.ovf = true ∧ f.hasInf = true then decodeElem fmt 0 x.code = .inf neg else (decodeElem fmt 0 x.code).toRat = some (sg top))) ∧
  (∀ (fmt w : Nat) (e : Int) (r : Rounding) (noise : Nat) (neg : Bool) (m : Mag), intWidth fmt = some w → m.proper = true →
    let q := roundMag r.rnd noise m (if isFxg fmt then e else 0)
    let x := roundElem fmt e r noise (.num neg m)
    let c : Int := min q (2 ^ (w - 1) - 1)
    signed w x.code = (if neg then -c else c) ∧ (x.overflow = true ↔ 2 ^ (w - 1) - 1 < q) ∧ (x.underflow = true ↔ q = 0)) ∧
  (∀ (r : Rounding) (noise : Nat) (neg : Bool) (m : Mag),
    roundElem 0xE 0 r noise (.num neg m) = ⟨(max (-127) (min 127 m.log2) + 127).toNat, decide (127 < m.log2), decide (m.log2 < -127)⟩) ∧
  (∀ (fmt code noise : Nat) (e : Int) (r : Rounding), fmt ≤ 0xC → code < 2 ^ fmtWidth fmt → decodeElem fmt e code ≠ .nan →
    (∀ w, intWidth fmt = some w → signed w code ≠ -2 ^ (w - 1)) → roundElem fmt e r noise (decodeElem fmt e code) = ⟨code, false, false⟩) ∧
  (∀ (fmt code noise : Nat) (r : Rounding) (x : Rat), 1 ≤ fmt → fmt ≤ 8 → (decodeElem fmt 0 code).toRat = some x →
    let y := roundElem 0 0 r noise (decodeElem fmt 0 code)
    (decodeFp32 y.code).toRat = some x ∧ y.overflow = false ∧ y.underflow = false) ∧
  (∀ (fmt : Nat) (row : List Val) (m : Mag), mayBeScaled fmt = true → (∀ v ∈ row, v.proper = true) →
    ((∀ v ∈ row, v.toRat ≠ none) ∨ (∀ v ∈ row, v.toRat = none ∨ v.toRat = some 0)) → maxMag row = some m →
    let sc := chooseScale fmt row
    let (_, sig, k) := scaleLimits fmt
    (∃ x : Int, sc = (max (-127) (min 127 x) + 127).toNat ∧ m.exceeds sig (k + x) = false ∧ m.exceeds sig (k + x - 1) = true) ∧
    (∀ (v : Val) (r : Rounding) (noise : Nat), v ∈ row → sc < 254 → (roundScaled fmt sc r noise v).overflow = false))

/-- The vector operations write the exact sums, products, quotients, extremes, roots and table values of their elements, each rounded once. (R44, R53, R103, R126, R128, R129, R130, R135, R139, R140, log entry 48) -/
def Obligations.VectorAndTableValues : Prop :=
  (∀ (a b d : Val) (x y z : Rat), a.proper = true → b.proper = true → d.proper = true → a.toRat = some x → b.toRat = some y → d.toRat = some z →
    (arith 0 a b d).toRat = some (x + y) ∧ (arith 1 a b d).toRat = some (x - y) ∧ (arith 2 a b d).toRat = some (x * y) ∧
    (arith 3 a b d).toRat = some (x * y + z) ∧ (arith 4 a b d).toRat = some (min x y) ∧ (arith 5 a b d).toRat = some (max x y) ∧
    (y ≠ 0 → (arith 6 a b d).toRat = some (x / y)) ∧ (arith 9 a b d).toRat = some (if x < 0 then -x else x) ∧ (arith 10 a b d).toRat = some (-x) ∧
    (0 < x → (∃ p q e, arith 7 a b d = .num false (.root p q e) ∧ 0 < p ∧ 0 < q ∧ (p : Rat) / q * 2 ^ e = x) ∧
      ∃ p q e, arith 8 a b d = .num false (.root p q e) ∧ 0 < p ∧ 0 < q ∧ (p : Rat) / q * 2 ^ e = 1 / x) ∧
    (x < 0 → arith 7 a b d = .nan ∧ arith 8 a b d = .nan) ∧
    (y = 0 → arith 6 a b d = if x = 0 then .nan else .inf (a.sign != b.sign)) ∧
    (x * y = 0 → arith 2 a b d = .zero (a.sign != b.sign)) ∧ (x + y = 0 → arith 0 a b d = .zero false) ∧ (x * y + z = 0 → arith 3 a b d = .zero false)) ∧
  (∀ (k : Nat) (a b d : Val), k ≤ 10 → (a = .nan ∨ (k ≤ 6 ∧ b = .nan) ∨ (k = 3 ∧ d = .nan)) → arith k a b d = .nan) ∧
  (∀ (a b d : Val) (n o : Bool) (x : Rat), b.toRat = some x →
    arith 0 (.inf n) b d = .inf n ∧ arith 0 b (.inf n) d = .inf n ∧ arith 0 (.inf n) (.inf o) d = (if n = o then .inf n else .nan) ∧
    arith 2 (.inf n) b d = (if x = 0 then .nan else .inf (n != b.sign)) ∧ arith 2 (.inf n) (.inf o) d = .inf (n != o) ∧
    arith 6 (.inf n) (.inf o) d = .nan ∧ arith 6 (.inf n) b d = .inf (n != b.sign) ∧ arith 6 b (.inf n) d = .zero (b.sign != n) ∧
    arith 4 (.zero n) (.zero o) d = .zero (n || o) ∧ arith 5 (.zero n) (.zero o) d = .zero (n && o) ∧
    arith 7 (.zero n) a d = .zero n ∧ arith 7 (.inf n) a d = (if n then .nan else .inf false) ∧
    arith 8 (.zero n) a d = .inf n ∧ arith 8 (.inf n) a d = (if n then .nan else .zero false)) ∧
  (∀ (img : List Byte) (d : Bool) (x : Val) (q lo : Rat),
    let h := tableHdr img
    let p := tablePart img d
    let u := (q - lo) / 2 ^ h.w
    tableOk img = true → h.mode = 0 → x.proper = true → x.toRat = some q → (decodeFp32 h.lo).toRat = some lo →
    (0 ≤ u → u < 256 → (evaluate img d x).toRat = some (p.polyRat u.floor.toNat (((u - u.floor) * 2 ^ 24).floor / 2 ^ 24))) ∧
    (u < 0 → evaluate img d x = p.outside h true x) ∧ (256 ≤ u → evaluate img d x = p.outside h false x)) ∧
  (∀ (img : List Byte) (d : Bool) (x : Val) (q k : Rat) (e : Int),
    let h := tableHdr img
    let p := tablePart img d
    let n : Int := if h.period = 0 then 0 else (e - h.w) / h.period
    let u : Rat := ((e - h.w - n * h.period : Int) + q / 2 ^ e - 1) * 2 ^ h.mbits
    tableOk img = true → h.mode = 1 → x.proper = true → x.toRat = some q → 2 ^ e ≤ q → q < 2 ^ (e + 1) → p.addk.toRat = some k →
    ((h.period ≠ 0 ∨ h.w ≤ e) → u < 256 →
      (evaluate img d x).toRat = some (2 ^ (n * p.pstep) * p.polyRat u.floor.toNat (((u - u.floor) * 2 ^ 24).floor / 2 ^ 24) + n * k)) ∧
    (h.period = 0 → e < h.w → evaluate img d x = p.outside h true x) ∧ (h.period = 0 → h.w ≤ e → 256 ≤ u → evaluate img d x = p.outside h false x) ∧
    (p.sym = 0 → evaluate img d x.neg = p.outside h true x.neg) ∧ (p.sym = 1 → evaluate img d x.neg = evaluate img d x) ∧
    (p.sym = 2 → evaluate img d x.neg = (evaluate img d x).neg)) ∧
  (∀ (c : CoreId) (s : State) (g : Stage) (o : EngOp) (rest : List EngOp) (e : EFields) (r col : Nat),
    let t := o.dst g
    let noise := if e.rnd = 2 then (roundNoise (BitVec.ofNat 64 (s.fld F.tutorSeedSeed (stackOfCore c))) t.d.tag g.step (bits o.xa.toNat 0 48 + r * t.d.l + col)).toNat else 0
    let a := at2 (s.tileVals c (o.srcA g)) r col
    let img := Tab.get [] (s.core c).tableImgs e.code
    let put (v : Val) := Completes (.vectorOpComplete c) s (fun u =>
      u.elemCode c t r col = (roundElem t.d.fmt t.d.e ⟨e.rnd, e.ovf⟩ noise v).code % 2 ^ fmtWidth t.d.fmt)
    (s.core c).stage = some g → (s.core c).vecRun = o :: rest → t.d.saxis = 0 → t.d.fmt ≤ 0xC → r < t.rows → col < t.cols →
    (o.op = .eng .varith e →
      let b := if e.bmode = 0 then at2 (s.tileVals c (o.srcB g)) r col else if e.bmode = 1 then at2 (s.tileVals c (o.srcB g)) 0 col
        else if e.bmode = 2 then at2 (s.tileVals c (o.srcB g)) r 0 else decodeFp32 (o.xb.toNat % 2 ^ 32)
      put (arith e.code a (if e.code ≤ 6 then b else .nan) (if e.code = 3 then at2 (s.tileVals c t) r col else .nan))) ∧
    (o.op = .eng .vcvt e → put a) ∧ (o.op = .eng .vfn e → put (evaluate img false a)) ∧
    (o.op = .eng .vder e → put ((evaluate img true a).mul (at2 (s.tileVals c (o.srcB g)) r col))))

/-- SARM arms, latches or is refused; SWAIT takes the next buffer or waits; SREL queues a release, which gives the buffer back; SQRY reads the status word. (R88, R92, R98, R168, R172, R173) -/
def Obligations.StreamOperations : Prop :=
  (∀ (b : Issue) (f : SFields) (s : State) (g : Stage) (t : Thread), b.other = .nop → b.slotB = true →
    Issues s b.at' (bundleOf b (.stream .arm f)) g t → Completes (.sarm b f) s (fun u =>
      let c := b.at'.core
      let j := s.judged b.at'
      let sd := g.stream f.desc.val
      let y := (j.core c).dyn f.desc.val
      let z := (u.core c).dyn f.desc.val
      u.mem = s.mem ∧ (u.threadAt b.at').pc = t.pc + 16 ∧ (let base := if bitOf f.func.toNat 11 then bits (t.rx f.xa).toNat 0 50 else (match y.latched with | some (a, _) => a | none => y.base)
        let count := if bits f.func.toNat 0 11 = 0 then sd.count else bits f.func.toNat 0 11
        (y.state = 1 → (u.threadAt b.at').rx f.rd = (if f.rd = 0 then 0 else 1) ∧ z.state = 2 ∧ z.latched = some (base, count))
        ∧ (y.state = 2 → (u.threadAt b.at').rx f.rd = (if f.rd = 0 then 0 else 2) ∧ z = y
            ∧ u.fld F.tutorRearmOverrunsCount (stackOfCore c) = min (s.fld F.tutorRearmOverrunsCount (stackOfCore c) + 1) (2 ^ 32 - 1))
        ∧ (y.state ≠ 1 → y.state ≠ 2 → (u.threadAt b.at').rx f.rd = 0 ∧ z.state = 1 ∧ z.base = base ∧ z.count = count ∧ z.done = 0)))) ∧
  (∀ (b : Issue) (f : SFields) (s : State) (g : Stage) (t : Thread), b.other = .nop → b.slotB = true →
    Issues s b.at' (bundleOf b (.stream .wait f)) g t → Completes (.swait b f) s (fun u =>
      let c := b.at'.core
      let j := s.judged b.at'
      let sd := g.stream f.desc.val
      let y := (j.core c).dyn f.desc.val
      let z := (u.core c).dyn f.desc.val
      u.mem = s.mem ∧ (u.threadAt b.at').pc = t.pc + 16 ∧ (u.threadAt b.at').rt (Fin.ofNat 16 f.rd.val) = BitVec.ofNat 64 (bufferReg g sd y.taken) ∧ z.taken = y.taken + 1
        ∧ z.held = y.held ++ [y.taken] ∧ (u.threadAt b.at').state = .ready)) ∧
  (∀ (b : Issue) (f : SFields) (s : State) (g : Stage) (t : Thread),
    let j := s.judged b.at'
    let w := bundleOf b (.stream .wait f)
    b.other = .nop → b.slotB = true → j.runnable b.at'.core b.at'.thread = some (g, t) → (j.core b.at'.core).regsWait b.at'.thread w = false →
    (j.core b.at'.core).entriesFree b.at'.thread w = true → checkBundle j b.at'.core b.at'.thread g t w = none →
    ((j.core b.at'.core).dyn f.desc.val).nextReady (g.stream f.desc.val) = false → Completes (.swait b f) s (fun u =>
      u.threadAt b.at' = { t with state := .waitStream, waitOn := some w } ∧ OthersKept s u b.at'
        ∧ (u.core b.at'.core).dyn f.desc.val = (j.core b.at'.core).dyn f.desc.val)) ∧
  (∀ (b : Issue) (f : SFields) (s : State) (g : Stage) (t : Thread), b.other = .nop → b.slotB = true →
    Issues s b.at' (bundleOf b (.stream .rel f)) g t → Completes (.srel b f) s (fun u =>
      let c := b.at'.core
      let j := s.judged b.at'
      let sd := g.stream f.desc.val
      let y := (j.core c).dyn f.desc.val
      let z := (u.core c).dyn f.desc.val
      u.mem = s.mem ∧ (u.threadAt b.at').pc = t.pc + 16 ∧ z = y ∧ (u.core c).streamQ = (j.core c).streamQ ++ [engOpOf j c b.at'.thread t true (.stream .rel f)]
        ∧ (∀ m rest, y.held = m :: rest → (j.core c).streamQ = [] → (∀ o ∈ (j.core c).unfinished, o.thread ≠ b.at'.thread) →
            let v := (u.judged b.at').core c
            (v.dyn f.desc.val).held = rest ∧ (v.dyn f.desc.val).outPend = (if sd.dir = dirOut then y.outPend ++ [m] else y.outPend)
              ∧ (∀ sl ∈ bufferSlots g sd m, Tab.get 0 v.owner sl = BitVec.ofNat 8 (0x40 + f.desc.val)) ∧ v.streamQ = []))) ∧
  (∀ (b : Issue) (f : SFields) (s : State) (g : Stage) (t : Thread), b.other = .nop → b.slotB = true →
    Issues s b.at' (bundleOf b (.stream .qry f)) g t → Completes (.sqry b f) s (fun u =>
      let c := b.at'.core
      let j := s.judged b.at'
      let sd := g.stream f.desc.val
      let y := (j.core c).dyn f.desc.val
      let z := (u.core c).dyn f.desc.val
      u.mem = s.mem ∧ (u.threadAt b.at').pc = t.pc + 16 ∧ z = y ∧ (u.threadAt b.at').rx f.rd = (if f.rd = 0 then 0 else
        BitVec.ofNat 64 (y.state.val + y.ready sd % 16 * 2 ^ 3 + y.done % 2 ^ 32 * 2 ^ 8))))

/-- A transfer starts once its buffer is free, sends its requests one at a time, moves their bytes and completes; LINK_BUFFER_MOVE moves a released buffer on. (R113, R168, R169, R170, R220, R171) -/
def Obligations.StreamTransfers : Prop :=
  ((∀ (c : CoreId) (d : Fin 64) (s : State) (g : Stage),
    let y := ((s.takeReleases c).core c).dyn d.val
    let sd := g.stream d.val
    s.noWaits = true → (s.core c).stage = some g → g.loading = false → sd.valid = true → sd.dir = dirIn → (y.state = 1 ∨ y.state = 2) → y.started < y.runStart + y.count →
    y.fillFree sd.nbuf y.started = true → y.xfers.all (fun x => x.sent == (xferRequests g sd x).length) = true →
    Completes (.streamTransferStart c d) s (fun u =>
      ((u.core c).dyn d.val).started = y.started + 1 ∧ u.mem = s.mem
        ∧ ((u.core c).dyn d.val).xfers = y.xfers ++ [⟨y.started, y.started - y.runStart, y.base, 0, 0, false, false⟩])) ∧
  (∀ (c : CoreId) (s : State) (g : Stage) (d : Nat) (x : Xfer),
    (s.core c).stage = some g → (s.core c).sreqs.length < 256 → nextSender g (s.core c) = some (d, x) →
    (s.unreached c g d x = none → Completes (.streamRequestSend c) s (fun u =>
      (u.core c).sreqs = (s.core c).sreqs ++ [⟨(s.core c).nextId, Fin.ofNat 64 d, x.m, x.sent⟩] ∧ (u.core c).lastDesc = d
        ∧ (u.core c).dyn d = ((s.core c).dyn d).putXfer { x with sent := x.sent + 1 } ∧ u.mem = s.mem)) ∧
    (∀ a, s.unreached c g d x = some a → Completes (.streamRequestSend c) s (fun u =>
      ((u.core c).thread (Fin.ofNat 16 (g.stream d).owner)).state = .faulted ∧ u.mem = s.mem
        ∧ (u.core c).dyn d = ((s.core c).dyn d).putXfer { x with halted := true }))) ∧
  (∀ (c : CoreId) (n : Nat) (s : State) (g : Stage) (r : StreamReq) (x : Xfer),
    let y := (s.core c).dyn r.desc.val
    let req := (xferRequests g (g.stream r.desc.val) x).getD r.idx []
    let s' := s.setCore c (Core.setDyn { s.core c with sreqs := (s.core c).sreqs.filter (fun k => k.id != n) } r.desc.val (y.putXfer { x with returned := x.returned + 1 }))
    let v := if (g.stream r.desc.val).dir == dirOut then s' else s'.each (wholeRows req) (fun s off => s.setRowPoison c off false)
    (s.core c).stage = some g → (s.core c).sreqs.find? (fun k => k.id == n) = some r → y.xfers.find? (fun k => k.m == r.m) = some x → x.discard = false →
    req.any (fun p => s.outOfService (addrStack p.1) || NatSet.has (s.slice (homeSlice p.1)).fetching (p.1 / 32)) = false →
    Completes (.streamRequestReturn c n) s (fun u =>
      (u.core c).dyn r.desc.val = y.putXfer { x with returned := x.returned + 1 } ∧ (u.core c).sreqs = (s.core c).sreqs.filter (fun k => k.id != n)
        ∧ u.mem = (v.each req (fun s p => s.moveSector c ((g.stream r.desc.val).dir == dirOut) p)).mem)) ∧
  (∀ (c : CoreId) (d : Fin 64) (s : State) (g : Stage) (x : Xfer),
    let y := (s.core c).dyn d.val
    (s.core c).stage = some g → (s.core c).mmaRun = [] → (∀ n : Fin 16, ((s.core c).thread n).state ≠ .waitStream) →
    y.xfers.find? (fun x => x.over (xferRequests g (g.stream d.val) x).length) = some x →
    Completes (.streamTransferComplete c d) s (fun u => u.mem = s.mem ∧ (u.core c).dyn d.val =
      if x.discard = true ∨ x.halted = true then { y with xfers := y.xfers.filter (fun k => k.m != x.m) } else y.complete x.m)) ∧
  (∀ (s : State) (c : CoreId) (a off : Nat), s.noWaits = true →
    (s.moveSector c false (a, off, 32)).bytes (coreStoreKey (s.physCore c) off) 32 = s.bytes a 32)) ∧
  (∀ (c e : CoreId) (d : Fin 64) (s : State) (g h : Stage) (m : Nat) (rest : List Nat),
    let sd := g.stream d.val
    let s1 := s.takeReleases c
    let s2 := s1.takeReleases e
    let y := (s1.core c).dyn d.val
    let w := (s2.core e).dyn sd.linkDesc
    let src := bufferTile g sd m
    let dst := bufferTile h (h.stream sd.linkDesc) w.started
    (s.core c).stage = some g → y.outPend = m :: rest → s1.linkConsumer c g sd = some (e, h) → e ≠ c → sd.valid = true → sd.dir = dirOut → sd.target = 1 →
    (y.state = 1 ∨ y.state = 2) → m < y.runStart + y.count → (h.stream sd.linkDesc).valid = true → (h.stream sd.linkDesc).dir = dirLinkIn →
    w.fillFree (h.stream sd.linkDesc).nbuf w.started = true →
    (∀ n : Fin 16, ((s.core c).thread n).state ≠ .waitStream ∧ ((s.core e).thread n).state ≠ .waitStream) → (s.core e).mmaRun = [] →
    Completes (.linkBufferMove c d) s (fun u =>
      u.mem = (s2.each ((List.range src.rows).flatMap (linkRow src dst sd.rb)
          ++ (rowParts src.scaleOff src.scaleLen).map (fun q => (q.1, dst.scaleOff + (q.1 - src.scaleOff), q.2)))
        (fun s r => s.storeWrite e r.2.1 (s.bytes (coreStoreKey (s.physCore c) r.1) r.2.2) (s.rowPoisoned c r.1))).mem ∧
      (u.core c).dyn d.val = { y with started := m + 1, outPend := rest }.complete m ∧
      (u.core e).dyn sd.linkDesc = { w with landed := NatSet.insert w.landed w.started, started := w.started + 1, done := w.done + 1 }))

/-- A Bell counts arrivals and releases or breaks its episode; a job-level leader counts each seat once, and members do as they are told. (R92, R175, R176, R177, R178, R179, R182, R332) -/
def Obligations.BellEpisodes : Prop :=
  ((∀ (b : Issue) (group : BitVec 12) (xa : Fin 32) (s : State) (g : Stage) (t : Thread), b.other = .nop → b.slotB = true →
    Issues s b.at' (bundleOf b (.bell group xa)) g t → ((s.judged b.at').core b.at'.core).fenceClear g b.at'.thread = true → (bellRec (s.bell group.toNat).record).level ≠ 3 →
    Completes (.bell b group xa) s (fun u => (u.threadAt b.at').state = .waitBell ∧ (u.threadAt b.at').waitBell = some (group, xa)
      ∧ u.bell group.toNat = (s.bell group.toNat).arrive (BitVec.ofNat 64 s.now) (b.at'.core, b.at'.thread, xa) ∧ u.mem = s.mem)) ∧
  (∀ (b : Issue) (group : BitVec 12) (xa : Fin 32) (s : State) (g : Stage) (t : Thread), b.other = .nop → b.slotB = true →
    Issues s b.at' (bundleOf b (.bell group xa)) g t → ((s.judged b.at').core b.at'.core).fenceClear g b.at'.thread = false →
    Completes (.bell b group xa) s (fun u => (u.threadAt b.at').state = .waitFence ∧ (u.threadAt b.at').waitBell = some (group, xa)
      ∧ u.bells = s.bells ∧ u.mem = s.mem)) ∧
  (∀ (group : BitVec 12) (s : State), (bellRec (s.bell group.toNat).record).valid = true → (bellRec (s.bell group.toNat).record).level ≤ 2 →
    (s.bell group.toNat).complete = false → exec (.bellRelease group) s = .next s) ∧
  (∀ (group : BitVec 12) (s : State), (bellRec (s.bell group.toNat).record).valid = true → (bellRec (s.bell group.toNat).record).level ≤ 2 →
    (s.bell group.toNat).complete = true → Completes (.bellRelease group) s (fun u =>
      u.bell group.toNat = (s.bell group.toNat).next ((s.bell group.toNat).episode + 1) (BitVec.ofNat 64 s.now) (s.bell group.toNat).held ∧ u.slate = s.slate)) ∧
  (∀ (group : BitVec 12) (s : State) (c : CoreId) (n : Fin 16),
    let b := s.bell group.toNat
    let t := (s.core c).thread n
    (bellRec b.record).valid = true → (bellRec b.record).level ≤ 2 → b.complete = true → Completes (.bellRelease group) s (fun u =>
      (∀ xa, (c, n, xa) ∈ b.arrivals → (∀ x ∈ b.arrivals, x.1 = c → x.2.1 = n → x.2.2 = xa) → t.state = .waitBell → t.waitBell = some (group, xa) →
        ((u.core c).thread n).state = .ready ∧ ((u.core c).thread n).waitBell = none ∧ ((u.core c).thread n).pc = t.pc
          ∧ ∀ k, ((u.core c).thread n).rx k = (if k = xa ∧ xa ≠ 0 then b.episode.setWidth 64 else t.rx k)) ∧
      ((∀ x ∈ b.arrivals, x.1 ≠ c ∨ x.2.1 ≠ n) → (u.core c).thread n = t))) ∧
  (∀ (b : Issue) (group : BitVec 12) (xa : Fin 32) (s : State) (g : Stage) (t : Thread),
    let x := (s.bell group.toNat).arrive (BitVec.ofNat 64 s.now) (b.at'.core, b.at'.thread, xa)
    let r := bellRec (s.bell group.toNat).record
    let seat := BitVec.ofNat 12 s.seat
    b.other = .nop → b.slotB = true → Issues s b.at' (bundleOf b (.bell group xa)) g t → ((s.judged b.at').core b.at'.core).fenceClear g b.at'.thread = true → r.level = 3 →
    Completes (.bell b group xa) s (fun u => (u.threadAt b.at').state = .waitBell ∧ (u.threadAt b.at').waitBell = some (group, xa) ∧ u.mem = s.mem
      ∧ u.bell group.toNat = (if x.complete = true ∧ x.arriveSent = false then
          { x with arriveSent := true, seats := if r.leader = s.seat ∧ seat ∉ x.seats then x.seats ++ [seat] else x.seats } else x)
      ∧ (x.complete = true → x.arriveSent = false → r.leader ≠ s.seat → r.vc0 = false → s.corridor.bypassOpen = true → s.seatValid = true →
          ∃ f : Frame, f.type = 0 ∧ f.dest = BitVec.ofNat 12 r.leader ∧ f.bcast = false ∧ f.payload = bellPayload group.toNat x.episode.toNat s.seat
            ∧ u.corridor.txq = s.corridor.txq ++ [(1, false, f)])
      ∧ ((x.complete = false ∨ x.arriveSent = true) → u.corridor = s.corridor))) ∧
  (∀ (group : BitVec 12) (s : State) (a : CoreId × Fin 16 × Fin 32) (id : Nat) (l : Lesson),
    let b := s.bell group.toNat
    let r := bellRec b.record
    r.valid = true → r.level ≤ 2 → r.timeoutUs ≠ 0 → b.complete = false → a ∈ b.arrivals → (s.cluster (clusterOfCore a.1)).run = some id →
    s.lesson id = some l → l.retiring = false → Completes (.bellTimeout group) s (fun u =>
      ∃ l', u.lesson id = some l' ∧ l'.cause = some (l.cause.getD (.faulted true)) ∧ l'.parts = l.withdraw.parts
        ∧ (bitOf r.clusters (clusterOfCore a.1) = true → l'.bellBroken = true))) ∧
  (∀ (group : BitVec 12) (s : State),
    let b := s.bell group.toNat
    let r := bellRec b.record
    r.valid = true → r.level ≤ 2 → r.timeoutUs ≠ 0 → b.complete = false → b.open' = true → b.held = [] → Completes (.bellTimeout group) s (fun u =>
      (u.bell group.toNat).arrivals = [] ∧ (u.bell group.toNat).episode = b.episode ∧ u.mem = s.mem
        ∧ u.fld F.tutorBellsBrokenCount r.counting = min (s.fld F.tutorBellsBrokenCount r.counting + 1) (2 ^ F.tutorBellsBrokenCount.width - 1))) ∧
  (∀ (group : BitVec 12) (st : StackId) (s : State),
    let b := s.bell group.toNat
    let r := bellRec b.record
    r.valid = true → r.level = 2 → st.val ≠ r.counting → r.stackList.elem st.val = true → s.hallwayDown st.val r.counting = false →
    Completes (.bellArrivalReport group st) s (fun u =>
      u.bell group.toNat = { b with reported := Tab.set 0 b.reported st.val (b.arrivedOn st.val) } ∧ u.mem = s.mem ∧ u.cores = s.cores))) ∧
  ((∀ (k : BellMsg) (s : State),
    let b := s.bell k.group.toNat
    let r := bellRec b.record
    let seat := k.seat.setWidth 12
    r.valid = true → r.level = 3 → r.leader = s.seat → s.seatValid = true →
    (k.episode = b.episode → b.seats.elem seat = false → exec (.bellArrive k) s = .next (s.setBell k.group.toNat { b with seats := b.seats ++ [seat] })) ∧
    (k.episode = b.episode → b.seats.elem seat = true → exec (.bellArrive k) s = .next s) ∧
    (k.episode = b.episode + 1 → b.seatHeld.elem seat = false → exec (.bellArrive k) s = .next (s.setBell k.group.toNat { b with seatHeld := b.seatHeld ++ [seat] }))) ∧
  (∀ (k : BellMsg) (s : State),
    let b := s.bell k.group.toNat
    let r := bellRec b.record
    s.seatValid = true → r.valid = true → r.level = 3 → r.leader ≠ s.seat → b.arriveSent = true → k.episode = b.episode → b.held = [] →
    Completes (.bellReleaseMessage k) s (fun u => (u.bell k.group.toNat).episode = b.episode + 1 ∧ (u.bell k.group.toNat).arrivals = [])) ∧
  (∀ (k : BellMsg) (s : State),
    let b := s.bell k.group.toNat
    let r := bellRec b.record
    s.seatValid = true → r.valid = true → r.level = 3 → r.leader ≠ s.seat → k.episode = b.episode → b.open' = true → b.held = [] →
    Completes (.bellBreak k) s (fun u => (u.bell k.group.toNat).episode = b.episode ∧ (u.bell k.group.toNat).arrivals = [] ∧ (u.bell k.group.toNat).seats = [])) ∧
  (∀ (k : BellMsg) (s : State), (s.bell k.group.toNat).episode ≠ k.episode → exec (.bellBreak k) s = .next s))

/-- LESSON makes a lesson of its entry outstanding or completes with NO_SUCH_LESSON; ABORT stops the lesson of its TAG or completes with none found. (R154, R155, R181, R182, R183, R353) -/
def Obligations.LessonCommands : Prop :=
  (∀ (q : QueueId) (s : State) (t : Taken),
    let home : StackId := Fin.ofNat 4 (s.fld F.queueConfigHome 0 q)
    s.takenFirst q [opLESSON] = some t → s.fld F.tutorSylStateActive home.val = 1 → t.entry.lesson < (s.tutor home).lessonCount → t.entry.inlineLen = 0 →
    s.lesson t.order = none → t.stopped = false → (∀ k, k < 6 → s.fld F.hallwayStateLink k ≠ 2) → Completes (.lesson q) s (fun u => ∃ l, u.lesson t.order = some l ∧ l.queue = q ∧ l.tag = t.entry.tag ∧ l.step = t.entry.step
      ∧ l.lib = t.entry.lesson ∧ l.home = home ∧ l.args = (t.entry.args ++ List.replicate 6 0).take 6 ∧ l.cause = none
      ∧ (u.queue q).taken = (s.queue q).taken.filter (fun x => x.index != t.index) ∧ u.mem = s.mem)) ∧
  (∀ (q : QueueId) (s : State) (t : Taken),
    let home : StackId := Fin.ofNat 4 (s.fld F.queueConfigHome 0 q)
    s.takenFirst q [opLESSON] = some t → (s.fld F.tutorSylStateActive home.val = 0 ∨ (s.tutor home).lessonCount ≤ t.entry.lesson) →
    exec (.lesson q) s = .next ((s.dropTaken q t).completeRec q t.generation
      ((s.dropTaken q t).shortRecord t.entry.tag.toNat t.entry.lesson 6 t.entry.step.toNat))) ∧
  (∀ (q : QueueId) (s : State) (t : Taken) (l : Lesson), s.takenFirst q [opLESSON, opABORT] = some t → t.entry.opc = opABORT →
    s.lessons.find? (fun l => l.queue == q && l.tag.toNat == bits (t.entry.arg 0) 0 32) = some l → l.retiring = false → s.lesson l.id = some l →
    Completes (.abort q) s (fun u => (∃ l', u.lesson l.id = some l' ∧ l'.decided = some (.aborted (l.abortSeen.getD false)))
      ∧ (s.holdsNext q t.generation = true → u.holdRing = s.holdRing ++ [⟨.queue q, t.generation,
          toBytes 64 (t.entry.tag.toNat + 0xFFFF * 2 ^ 32 + 0x10 * 2 ^ 48 + bits (t.entry.arg 0) 0 32 * 2 ^ 64 + s.now * 2 ^ 160), false⟩]))) ∧
  (∀ (q : QueueId) (s : State) (t : Taken), s.takenFirst q [opLESSON, opABORT] = some t → t.entry.opc = opABORT →
    s.lessons.find? (fun l => l.queue == q && l.tag.toNat == bits (t.entry.arg 0) 0 32) = none →
    exec (.abort q) s = .next ((s.dropTaken q t).completeRec q t.generation
      ((s.dropTaken q t).shortRecord t.entry.tag.toNat 0xFFFF 0x11 (bits (t.entry.arg 0) 0 32))))

/-- A part starts on an idle cluster and its cores load; a loaded stage's threads become READY; a stage that ends makes way for the next. (R91, R155, R156, R159, R160, R161, R182, R183) -/
def Obligations.PartsAndStages : Prop :=
  (∀ (cl : ClusterId) (s : State) (l : Lesson), s.nextPart cl = some l → (s.cluster cl).run = none → s.outOfService (stackOfCluster cl) = false →
    s.fld F.clusterStateRetired cl = 0 → (s.cluster cl).pll = .on → (s.cluster cl).istoreBad = [] → (∀ k : Fin 8, (s.core (coreOf cl k)).testPending = false) →
    Completes (.lessonPartStart cl) s (fun u => (u.cluster cl).run = some l.id ∧ (u.cluster cl).stopping = false
      ∧ (u.cluster cl).waiting = (s.cluster cl).waiting.filter (fun w => w != l.id) ∧ u.mem = s.mem
      ∧ ∀ k : Fin 8, (u.core (coreOf cl k)).threads = [] ∧ ∀ g, (u.core (coreOf cl k)).stage = some g → g.lesson = l.id ∧ g.loading = true)) ∧
  (∀ (c : CoreId) (s : State) (g : Stage) (l : Lesson), (s.core c).stage = some g → s.lesson g.lesson = some l → g.loading = true →
    (s.cluster (clusterOfCore c)).stopping = false → (∀ d, (g.stream d).dir ≠ dirLinkIn) → Completes (.stageLoadComplete c) s (fun u =>
      let a := s.stageAddr (stackOfCore c) l.lib g.index
      (u.core c).stage = some { g with loading := false }
        ∧ (∀ n : Fin 16, (u.core c).thread n = if g.threadMask.getLsbD n then startThread g n else Thread.init)
        ∧ (∀ i, i < 128 → Tab.get 0 (u.core c).owner i = s.byte (a + 0x80 + i)) ∧ (∀ i, i < 32 → Tab.get 0 (u.core c).slateMap i = s.byte (a + 0x60 + i)))) ∧
  (∀ (c : CoreId) (s : State) (g : Stage) (l : Lesson), (s.core c).stage = some g → ((s.takeReleases c).core c).stageOver g = true →
    (s.cluster (clusterOfCore c)).stopping = false → s.lesson g.lesson = some l →
    (∀ (e : CoreId) (n : Fin 16), ((s.core e).thread n).state ≠ .waitStream) → Completes (.stageEnd c) s (fun u =>
      (∀ g', (u.core c).stage = some g' → g'.loading = true ∧ g.index < g'.index)
        ∧ ∃ l', u.lesson g.lesson = some l' ∧ (g.index, c.val) ∈ l'.stagesEnded)) ∧
  (∀ (n id : Nat) (info : FaultInfo) (s : State) (l : Lesson), s.partMsgs[n]? = some (.fault id info) → s.lesson id = some l → l.retiring = false → l.cause = none →
    l.abortSeen = none → Completes (.tutorPartMessage n) s (fun u => u.partMsgs = s.partMsgs.eraseIdx n
      ∧ ∃ l', u.lesson id = some l' ∧ l'.cause = some (.faulted false) ∧ l'.fault = some (l.fault.getD info))) ∧
  (∀ (n id : Nat) (cl : ClusterId) (st : Bool) (s : State) (l : Lesson), s.partMsgs[n]? = some (.ended id cl st) → s.lesson id = some l →
    Completes (.tutorPartMessage n) s (fun u => u.partMsgs = s.partMsgs.eraseIdx n ∧ ∃ l', u.lesson id = some l'
      ∧ l'.parts = l.parts.map (fun x => if x.1 == cl.val then (cl.val, .ended) else x) ∧ l'.cause = l.cause
      ∧ (l'.retiring = true ↔ l.retiring = true ∨ (u.reportsFor id = false ∧ l.cause = none ∧ l'.parts.all (fun x => x.2 == .ended) = true)))) ∧
  (∀ (n id : Nat) (st : StackId) (s : State) (l : Lesson), s.partMsgs[n]? = some (.dispatch id st) → s.lesson id = some l → l.cause = none →
    s.hallwayDown l.home.val st.val = false → Completes (.tutorPartMessage n) s (fun u => u.partMsgs = s.partMsgs.eraseIdx n ∧ u.lessons = s.lessons
      ∧ ∀ cl : ClusterId, (cl.val, PartState.notStarted) ∈ l.parts → stackOfCluster cl = st.val → (s.cluster cl).run ≠ some id → id ∈ (u.cluster cl).waiting))

/-- A stopped lesson discards what has not started, reports idle once drained, and is outstanding until its record is written. (R116, R153, R165, R178, R180, R182, R183, R366) -/
def Obligations.LessonsStopAndEnd : Prop :=
  (∀ (cl : ClusterId) (s : State) (id : Nat), (s.cluster cl).run = some id → (s.cluster cl).stopping = false → s.stopDue cl id = true →
    Completes (.clusterLessonStop cl) s (fun u => (u.cluster cl).stopping = true ∧ u.mem = s.mem ∧ ∀ k : Fin 8, (s.core (coreOf cl k)).stage ≠ none →
      (u.core (coreOf cl k)).mmaQ = [] ∧ (u.core (coreOf cl k)).slateQ = [] ∧ (u.core (coreOf cl k)).vecQ = [] ∧ (u.core (coreOf cl k)).gathQ = []
        ∧ (u.core (coreOf cl k)).finQ = [])) ∧
  (∀ (cl : ClusterId) (s : State) (id : Nat), (s.cluster cl).run = some id → (s.cluster cl).stopping = true → (∀ k : Fin 8, (s.core (coreOf cl k)).drained = true) →
    Completes (.coresReportIdle cl) s (fun u => (u.cluster cl).run = none ∧ (u.cluster cl).stopping = false ∧ u.mem = s.mem ∧ u.slate = s.slate
      ∧ ∀ k : Fin 8, (u.core (coreOf cl k)).threads = [] ∧ (u.core (coreOf cl k)).stage = none)) ∧
  (∀ (id : Nat) (s : State) (l : Lesson), s.lesson id = some l → l.timeoutUs ≠ 0 → l.parts.any (fun p => p.2 != .notStarted && p.2 != .withdrawn) = true →
    l.retiring = false → l.cause = none → Completes (.lessonTimeout id) s (fun u => u.lesson id = some (l.accept .timeout) ∧ (l.accept .timeout).cause = some .timeout)) ∧
  (∀ (id : Nat) (s : State) (l : Lesson), s.lesson id = some l → l.cause = none → l.parts.all (fun p => p.2 == .ended) = true →
    s.reportsFor id = false →  Completes (.lessonRetire id) s (fun u => u.lessons = s.lessons.filter (fun k => k.id != id) ∧ u.cores = s.cores
      ∧ (l.fits = true → l.lost = false → s.now < 2 ^ 64 → s.holdsNext l.queue l.generation = true → ∃ r, r.length = 64 ∧ RecordShows u l 0 0 true (ofBytes r)
          ∧ u.holdRing = s.holdRing ++ [⟨.queue l.queue, l.generation, r, false⟩]))) ∧
  (∀ (id : Nat) (s : State) (l : Lesson) (c : StopCause), s.lesson id = some l → l.decided = some c → l.lost = false →
    l.parts.all (fun p => p.2 == .ended || p.2 == .withdrawn) = true → s.reportsFor id = false → (∀ p ∈ l.parts, s.neverRan l p = true → s.groupsOn p.1 = []) →
    Completes (.lessonCompletionWrite id) s (fun u => u.lessons = s.lessons.filter (fun k => k.id != id) ∧ u.cores = s.cores ∧ u.mem = s.mem
      ∧ (l.fits = true → s.now < 2 ^ 64 → s.holdsNext l.queue l.generation = true →
          let status := match c with | .aborted _ => 1 | .faulted _ => 2 | .clusterRetired => 3 | .timeout => 4 | .reset => 5 | .linkDown => 7
          let cause := match c with | .aborted d => bit d | .faulted b => bit b | _ => 0
          ∃ r, r.length = 64 ∧ RecordShows u l status cause false (ofBytes r) ∧ u.holdRing = s.holdRing ++ [⟨.queue l.queue, l.generation, r, false⟩])))

/-- On an idle cluster a spare core takes a retired one's place, a store test clears or retires, and an instruction store word is rewritten. (R85, R86, R118, R423, R436, R437) -/
def Obligations.RepairsBetweenLessons : Prop :=
  (∀ (cl : ClusterId) (k : Fin 8) (s : State), (s.cluster cl).run = none → (s.core (coreOf cl k)).testFailed = true → s.fld F.clusterCoreMapSpare cl ≠ 0xF →
    Completes (.spareCoreSwitch cl k) s (fun u => u.physOf cl k = s.fld F.clusterCoreMapSpare cl ∧ u.fld F.clusterCoreMapSpare cl = 0xF
      ∧ u.core (coreOf cl k) = Core.init ∧ u.mem = s.mem ∧ u.slate = s.slate)) ∧
  (∀ (cl : ClusterId) (k : Fin 8) (s : State), (s.cluster cl).run = none → (s.core (coreOf cl k)).testFailed = true → s.fld F.clusterCoreMapSpare cl = 0xF →
    Completes (.spareCoreSwitch cl k) s (fun u => u.fld F.clusterStateRetired cl = 1 ∧ u.physOf cl k = s.physOf cl k ∧ u.mem = s.mem)) ∧
  (∀ (c : CoreId) (pass : Bool) (s : State), (s.cluster (clusterOfCore c)).run = none → (s.core c).testPending = true →
    Completes (.coreStoreTest c pass) s (fun u => (u.core c).testPending = !pass ∧ (u.core c).testFailed = !pass ∧ (u.core c).slateBad = []
      ∧ (u.core c).tableBad = [] ∧ (u.core c).transposeBad = false ∧ (∀ d, d ≠ c → u.core d = s.core d) ∧ u.mem = s.mem)) ∧
  (∀ (cl : ClusterId) (off : BitVec 20) (s : State) (a : Nat), (s.cluster cl).run = none → (s.cluster cl).istoreBad.any (fun a => a / 16 == off.toNat / 16) = true →
    s.residentProgram cl (off.toNat / 8 * 8) = some a → Completes (.istoreReload cl off true) s (fun u =>
      u.bytes (istoreKey cl (off.toNat / 8 * 8)) 8 = s.bytes a 8 ∧ (u.cluster cl).istoreBad = (s.cluster cl).istoreBad.filter (fun a => a / 16 != off.toNat / 16))) ∧
  (∀ (cl : ClusterId) (off : BitVec 20) (s : State), (s.cluster cl).run = none → (s.cluster cl).istoreBad.any (fun a => a / 16 == off.toNat / 16) = true →
    Completes (.istoreReload cl off false) s (fun u => u.fld F.clusterStateRetired cl = 1 ∧ u.mem = s.mem)) ∧
  (∀ (cl : ClusterId) (k : Fin 8) (pass ok : Bool) (off : BitVec 20) (s : State), (s.cluster cl).run ≠ none → exec (.spareCoreSwitch cl k) s = .next s
    ∧ exec (.coreStoreTest (coreOf cl k) pass) s = .next s ∧ exec (.istoreReload cl off ok) s = .next s) ∧
  (∀ (cl : ClusterId) (k : Fin 8) (pass : Bool) (s : State), ((s.core (coreOf cl k)).testFailed = false → exec (.spareCoreSwitch cl k) s = .next s)
    ∧ ((s.core (coreOf cl k)).testPending = false → exec (.coreStoreTest (coreOf cl k) pass) s = .next s))

/-- The oldest held record of a ring is written at its slot, then the tail moves on, and the vector is signalled at the coalescing count. (R350, R361, R364, R366, R371) -/
def Obligations.RecordsReachTheHost : Prop :=
  (∀ (r : RingId) (s : State) (h : HoldRec) (i : Nat) (x : Byte),
    let slot := s.ringBase r + s.ringTail r % s.ringSize r * 64
    s.holdRing.find? (fun h => h.ring == r && !h.written) = some h → (s.ringState r = qACTIVE ∨ s.ringState r = qPARKED) → s.portOpen (s.ringPort r) = true →
    idxDiff (s.ringTail r) (s.ringHead r) ≠ s.ringSize r → Completes (.completionRecordWrite r) s (fun u =>
      u.ringTail r = (s.ringTail r + 1) % 2 ^ 32 ∧ u.holdRing = markWritten r s.holdRing ∧ u.mem = s.mem ∧
      (h.bytes[i]? = some x → (slot + i < s.ringTailAddr r ∨ s.ringTailAddr r + 8 ≤ slot + i) → u.hostByte (slot + i) = x))) ∧
  (∀ (q : QueueId) (s : State) (h : HoldRec),
    let p := s.ringPort (.queue q)
    let v := s.ringVector (.queue q)
    s.holdRing.find? (fun h => h.ring == .queue q && !h.written) = some h → (s.ringState (.queue q) = qACTIVE ∨ s.ringState (.queue q) = qPARKED) →
    s.portOpen p = true → idxDiff (s.ringTail (.queue q)) (s.ringHead (.queue q)) ≠ s.ringSize (.queue q) → Completes (.completionRecordWrite (.queue q)) s (fun u =>
      if s.fld F.queueCoalesceCount 0 q ≤ (s.queue q).unsignalled + 1 then (u.queue q).unsignalled = 0 ∧
        (if bitOf (s.reg .hostMsix p v) 96 = true then u.outbox = s.outbox ∧ bitOf (u.reg .hostMsixPba p) v = true else u.outbox = s.outbox ++ [.msix p v])
      else (u.queue q).unsignalled = (s.queue q).unsignalled + 1 ∧ u.outbox = s.outbox)) ∧
  (∀ (q : QueueId) (s : State), (s.queue q).unsignalled ≠ 0 → bitOf (s.reg .hostMsix (s.ringPort (.queue q)) (s.ringVector (.queue q))) 96 = false →
    s.portOpen (s.ringPort (.queue q)) = true → Completes (.msixCoalesceTimer (.queue q)) s (fun u =>
      u.outbox = s.outbox ++ [.msix (s.ringPort (.queue q)) (s.ringVector (.queue q))] ∧ (u.queue q).unsignalled = 0 ∧ u.hostMem = s.hostMem))

/-- A fetched command with the right PHASE is taken once whole and allowed; a stale slot is fetched again up to 8 times; the 9th and an error park the queue. (R350, R351, R354, R358, R359) -/
def Obligations.CommandFetches : Prop :=
  (∀ (q : QueueId) (i : BitVec 32) (e : CmdEntry) (s : State), (s.queue q).fetching = true → s.ringState (.queue q) = qACTIVE → s.portOpen (s.ringPort (.queue q)) = true →
    i.toNat = s.reg .queueSqHead 0 q → e.phase = s.phaseOf q i.toNat → restLines e = 0 → s.mayTake q e = true → e.bad = false →
    Completes (.commandFetchReturn q ⟨i, .entry e⟩) s (fun u =>
      (u.queue q).taken = (s.queue q).taken ++ [⟨i.toNat, s.lessonNext, s.reg .queueGeneration 0 q, { e with inline := [] }, false⟩]
        ∧ u.reg .queueSqHead 0 q = (i.toNat + 1) % 2 ^ 32 ∧ u.lessonNext = s.lessonNext + 1 ∧ u.mem = s.mem ∧ u.hostMem = s.hostMem)) ∧
  (∀ (q : QueueId) (i : BitVec 32) (e : CmdEntry) (s : State), (s.queue q).fetching = true → s.ringState (.queue q) = qACTIVE → s.portOpen (s.ringPort (.queue q)) = true →
    i.toNat = s.reg .queueSqHead 0 q → e.phase = s.phaseOf q i.toNat → restLines e = 0 → s.mayTake q e = false →
    Completes (.commandFetchReturn q ⟨i, .entry e⟩) s (fun u => (u.queue q).fresh = some { e with inline := [] } ∧ (u.queue q).restWait = false
        ∧ (u.queue q).fetching = false ∧ (u.queue q).taken = (s.queue q).taken ∧ u.reg .queueSqHead 0 q = i.toNat ∧ u.mem = s.mem)) ∧
  (∀ (q : QueueId) (i : BitVec 32) (e : CmdEntry) (s : State), (s.queue q).fetching = true → s.ringState (.queue q) = qACTIVE → s.portOpen (s.ringPort (.queue q)) = true →
    i.toNat = s.reg .queueSqHead 0 q → e.phase = s.phaseOf q i.toNat → restLines e ≠ 0 → Completes (.commandFetchReturn q ⟨i, .entry e⟩) s (fun u =>
      (u.queue q).fresh = some { e with inline := [] } ∧ (u.queue q).restWait = true ∧ (u.queue q).taken = (s.queue q).taken ∧ u.reg .queueSqHead 0 q = i.toNat
        ∧ u.outbox = s.outbox ++ [.fetch q i.toNat (s.reg .queueSqBase 0 q + i.toNat % 2 ^ s.fld F.queueSizesSqLog2 0 q * 512 + 64) (restLines e)])) ∧
  (∀ (q : QueueId) (i : BitVec 32) (e : CmdEntry) (d : List Byte) (s : State), (s.queue q).restWait = true → (s.queue q).fresh = some e → s.ringState (.queue q) = qACTIVE →
    s.portOpen (s.ringPort (.queue q)) = true → i.toNat = s.reg .queueSqHead 0 q → s.mayTake q e = true → e.bad = false →
    Completes (.commandFetchReturn q ⟨i, .rest d⟩) s (fun u =>
      (u.queue q).taken = (s.queue q).taken ++ [⟨i.toNat, s.lessonNext, s.reg .queueGeneration 0 q, { e with inline := d }, false⟩]
        ∧ u.reg .queueSqHead 0 q = (i.toNat + 1) % 2 ^ 32 ∧ u.mem = s.mem ∧ u.hostMem = s.hostMem)) ∧
  (∀ (q : QueueId) (i : BitVec 32) (e : CmdEntry) (s : State), (s.queue q).fetching = true → s.ringState (.queue q) = qACTIVE → s.portOpen (s.ringPort (.queue q)) = true →
    i.toNat = s.reg .queueSqHead 0 q → e.phase ≠ s.phaseOf q i.toNat → Completes (.commandFetchReturn q ⟨i, .entry e⟩) s (fun u =>
      (u.queue q).taken = (s.queue q).taken ∧ u.mem = s.mem
      ∧ if (s.queue q).stale < 8 then u.queue q = { s.queue q with stale := (s.queue q).stale + 1 } ∧ u.fld F.queueStateState 0 q = qACTIVE
        else u.fld F.queueStateState 0 q = qPARKED ∧ u.fld F.queueStateParkCause 0 q = 1 ∧ (u.queue q).fetching = false)) ∧
  (∀ (q : QueueId) (i : BitVec 32) (s : State), ((s.queue q).fetching = true ∨ (s.queue q).restWait = true) → s.ringState (.queue q) = qACTIVE →
    s.portOpen (s.ringPort (.queue q)) = true → i.toNat = s.reg .queueSqHead 0 q →
    Completes (.commandFetchReturn q ⟨i, .error⟩) s (fun u => u.fld F.queueStateState 0 q = qPARKED ∧ u.fld F.queueStateParkCause 0 q = 3 ∧ (u.queue q).fetching = false
      ∧ (u.queue q).taken = (s.queue q).taken ∧ u.mem = s.mem)) ∧
  (∀ (q : QueueId) (i : BitVec 32) (r : FetchResult) (s : State), i.toNat ≠ s.reg .queueSqHead 0 q → exec (.commandFetchReturn q ⟨i, r⟩) s = .next s) ∧
  (∀ (q : QueueId) (s : State), (s.queue q).fetching = true → (s.queue q).stale ≠ 0 → (s.queue q).refetchDue < 8 → s.portOpen (s.ringPort (.queue q)) = true →
    Completes (.refetchTimer q) s (fun u =>
      u.outbox = s.outbox ++ [.fetch q (s.reg .queueSqHead 0 q) (s.reg .queueSqBase 0 q + s.reg .queueSqHead 0 q % 2 ^ s.fld F.queueSizesSqLog2 0 q * 512) 1]
      ∧ (u.queue q).refetchDue = (s.queue q).refetchDue + 1
      ∧ u.fld F.queueRefetchesCount 0 q = min (s.fld F.queueRefetchesCount 0 q + 1) (2 ^ 32 - 1) ∧ u.mem = s.mem))

/-- PLACE copies bytes of an intake ring into memory, EXPORT copies memory to the host and reads back, and each ends with its record. (R354, R355, R356, R357, R363) -/
def Obligations.CopiesBetweenHostAndModule : Prop :=
  (∀ (q : QueueId) (s : State) (t : Taken),
    let h := s.ringPort (.queue q)
    let part := s.fld F.queueConfigPart 0 q
    let ring := bits (t.entry.arg 0) 0 6
    let off := bits (t.entry.arg 0) 8 22
    let dest := bits (t.entry.arg 1) 0 50
    let n := bits (t.entry.arg 2) 0 23
    let src := s.reg .hostIntakeBase h + ring * 0x400000
    let allowed := off % 32 = 0 ∧ dest % 32 = 0 ∧ s.fld F.hostIntakeLoValid h ring = 1 ∧ s.fld F.hostIntakeLoPart h ring = part
      ∧ s.fld F.hostIntakeLoLo h ring ≤ dest ∧ dest + n ≤ s.fld F.hostIntakeHiHi h ring ∧ s.rangeInRegion part dest n = true ∧ s.overStaging dest n = false
    s.takenFirst q [opPLACE, opEXPORT] = some t → t.entry.opc = opPLACE → (s.queue q).copies = [] →
    (allowed → (∀ i, i < n → s.discards (dest + i) = false) → s.noWaits = true → s.inReset (addrStack src) = false → s.inReset (addrStack dest) = false →
      s.hallwayDown (portStack h) (addrStack dest) = false →
      Completes (.place q) s (fun u => (∀ j, j < n → u.byte (dest + j) = s.byte (src + (off + j) % 0x400000))
        ∧ (∀ a, (a < dest ∨ dest + n ≤ a) → u.byte a = s.byte a) ∧ u.hostMem = s.hostMem
        ∧ ((u.queue q).copies.map (fun c => (c.cmdIndex, c.tag, c.len, c.sent))) = [(t.index, t.entry.tag, n, true)])) ∧
    (¬ allowed → Completes (.place q) s (fun u => u.mem = s.mem ∧ u.hostMem = s.hostMem ∧ (u.queue q).copies = []
      ∧ u = (s.dropTaken q t).completeQueue q t.generation t.entry.tag.toNat opPLACE t.index 0x21 s.now 0))) ∧
  (∀ (q : QueueId) (s : State) (t : Taken),
    let src := bits (t.entry.arg 1) 0 50
    let n := t.entry.arg 3
    s.takenFirst q [opPLACE, opEXPORT] = some t → t.entry.opc = opEXPORT → (s.queue q).copies = [] →
    ¬ (src % 32 = 0 ∧ s.rangeInRegion (s.fld F.queueConfigPart 0 q) src n = true ∧ s.overStaging src n = false) →
    Completes (.exportCopy q) s (fun u => u.mem = s.mem ∧ u.hostMem = s.hostMem ∧ (u.queue q).copies = []
      ∧ u = (s.dropTaken q t).completeQueue q t.generation t.entry.tag.toNat opEXPORT t.index 0x21 s.now 0)) ∧
  (∀ (q : QueueId) (s : State) (c : Copy) (rest : List Copy), (s.queue q).copies = c :: rest → c.opc.toNat = opPLACE → c.sent = true →
    Completes (.placeComplete q) s (fun u => (u.queue q).copies = [] ∧ u.mem = s.mem ∧ u = s.endCopy q c 0 c.len)) ∧
  (∀ (q : QueueId) (s : State) (t : Taken),
    let src := bits (t.entry.arg 1) 0 50
    let n := t.entry.arg 3
    s.takenFirst q [opPLACE, opEXPORT] = some t → t.entry.opc = opEXPORT → (s.queue q).copies = [] → src % 32 = 0 →
    s.rangeInRegion (s.fld F.queueConfigPart 0 q) src n = true → s.overStaging src n = false → s.portOpen (s.ringPort (.queue q)) = true → s.inReset (addrStack src) = false →
    s.noWaits = true → (∀ i, i < n → s.hallwayDown (portStack (s.ringPort (.queue q))) (addrStack (src + i)) = false) →
    Completes (.exportCopy q) s (fun u => (∀ i, i < n → u.hostByte (t.entry.arg 2 + i) = s.byte (src + i)) ∧ u.mem = s.mem
      ∧ ((u.queue q).copies.map (fun c => (c.cmdIndex, c.tag, c.len, c.sent))) = [(t.index, t.entry.tag, n, true)]
      ∧ ∃ l, u.outbox = s.outbox ++ l ++ [.hostRead (s.ringPort (.queue q)) (t.entry.arg 2 + n - 4)])) ∧
  (∀ (q : QueueId) (ok : Bool) (s : State) (c : Copy) (rest : List Copy), (s.queue q).copies = c :: rest → c.opc.toNat = opEXPORT → c.sent = true →
    Completes (.exportReadbackComplete (.exportCopy q) ok) s (fun u => (u.queue q).copies = [] ∧ u.mem = s.mem ∧ u.hostMem = s.hostMem
      ∧ u = s.endCopy q c (if ok = false then 0x23 else if c.poisoned then 0x22 else 0) c.len))

/-- A host port is held when its link is lost, returns or detaches, resets and trains; the Letterbox takes writes and answers reads with zeros. (R343, R345, R346, R362, R367, R368, R457, R463) -/
def Obligations.HostPortEvents : Prop :=
  (∀ (h : HostPort) (s : State), s.hostLink h = hUP → Completes (.hostLinkLoss h) s (fun u => u.hostLink h = hHELD ∧ u.fld F.hostStatusIde h = 0
    ∧ u.reg .hostLinkEpoch h = (s.reg .hostLinkEpoch h + 1) % 2 ^ 32 ∧ u.fld F.hostEventsLinkLost h = 1 ∧ u.mem = s.mem ∧ u.hostMem = s.hostMem)) ∧
  (∀ (h : HostPort) (s : State), s.hostLink h = hHELD → s.noWaits = true → Completes (.hostLinkReturn h) s (fun u => u.hostLink h = hUP ∧ u.mem = s.mem ∧ u.cores = s.cores)) ∧
  (∀ (h : HostPort) (s : State), s.hostLink h = hHELD → Completes (.linkHoldExpiry h) s (fun u => u.hostLink h = hDOWN
    ∧ u.fld F.hostDetachesCount h = (s.fld F.hostDetachesCount h + 1) % 2 ^ 32 ∧ u.fld F.hostEventsDetached h = 1 ∧ u.mem = s.mem)) ∧
  (∀ (h : HostPort) (s : State), Completes (.hotReset h) s (fun u => u.fld F.hostDetachesCount h = (s.fld F.hostDetachesCount h + 1) % 2 ^ 32
    ∧ u.fld F.hostEventsDetached h = 1 ∧ u.reg .hostIntakeBase h = s.reg .hostIntakeBase h ∧ (u.hport h).keySets = [] ∧ u.mem = s.mem)) ∧
  (∀ (h : HostPort) (s : State), s.hostLink h = hDOWN →
    let trains := s.proctor.powered = true ∧ s.proctor.recovery = false ∧ ∀ r ∈ s.resets, r.domain.val = domCOLD → r.start.toNat + 45000000 ≤ s.now
    Completes (.perstDeassert h) s (fun u => (u.hport h).perst = false ∧ u.mem = s.mem ∧ (trains → u.hostLink h = hTRAINING) ∧ (¬ trains → u.hostLink h = hDOWN))) ∧
  (∀ (h : HostPort) (w : BitVec 5) (v : BitVec 3) (x : Bool) (s : State), (s.hostLink h = hDOWN ∨ s.hostLink h = hTRAINING) →
    let trains := s.proctor.powered = true ∧ s.proctor.recovery = false ∧ ∀ r ∈ s.resets, r.domain.val = domCOLD → r.start.toNat + 45000000 ≤ s.now
    (trains → (s.hport h).perst = false → w.toNat ∈ ([1, 2, 4, 8, 16] : List Nat) → 1 ≤ v.toNat → v.toNat ≤ 6 →
      Completes (.hostLinkUp h w v x) s (fun u => u.hostLink h = hUP ∧ u.fld F.hostStatusWidth h = w.toNat ∧ u.fld F.hostStatusSpeed h = v.toNat
        ∧ u.fld F.hostStatusCxl h = bit x ∧ u.mem = s.mem)) ∧
    (¬ trains ∨ (s.hport h).perst = true ∨ w.toNat ∉ ([1, 2, 4, 8, 16] : List Nat) → exec (.hostLinkUp h w v x) s = .next s)) ∧
  (∀ (h : HostPort) (s : State), Completes (.cxlSnoop h) s (fun u => u.outbox = s.outbox ++ [.snoopReply h] ∧ u.mem = s.mem ∧ u.regs = s.regs)) ∧
  (∀ (h : HostPort) (off : BitVec 28) (b : Byte) (tlp : TlpAttr) (s : State), s.hostLink h = hUP → s.portOpen h = true →
    s.fld F.hostIntakeLoValid h (off.toNat / 0x400000 % 64) = 1 → s.outOfService (hostStack h) = false → s.discards (s.reg .hostIntakeBase h + off.toNat) = false →
    s.setWaits (s.reg .hostIntakeBase h + off.toNat) = false →
    Completes (.letterboxWrite h off [some b] tlp) s (fun u => u.byte (s.reg .hostIntakeBase h + off.toNat) = b
      ∧ (tlp.poison = true → u.poisoned (s.reg .hostIntakeBase h + off.toNat) = true) ∧ u.hostMem = s.hostMem
      ∧ ∀ a, a ≠ s.reg .hostIntakeBase h + off.toNat → u.byte a = s.byte a)) ∧
  (∀ (h : HostPort) (off : BitVec 28) (b : Byte) (tlp : TlpAttr) (s : State), s.hostLink h = hUP → s.portOpen h = true →
    s.fld F.hostIntakeLoValid h (off.toNat / 0x400000 % 64) = 0 → Completes (.letterboxWrite h off [some b] tlp) s (fun u => u.mem = s.mem
      ∧ u.fld F.hostLetterboxDiscardsCount h = min (s.fld F.hostLetterboxDiscardsCount h + 1) (2 ^ 32 - 1))) ∧
  (∀ (h : HostPort) (off : BitVec 28) (n : Nat) (s : State), s.hostLink h = hUP → s.portOpen h = true → Completes (.letterboxRead h off n) s (fun u =>
    u.outbox = s.outbox ++ [.letterboxZeros h n] ∧ u.mem = s.mem)) ∧
  (∀ (h : HostPort) (s : State), s.hostLink h = hUP → s.portOpen h = true → Completes (.flush h) s (fun u =>
    u.outbox = s.outbox ++ [.readData (if h = 0 then .h0 else .h1) (BitVec.ofNat 64 (s.reg .hostLinkEpoch h))] ∧ u.mem = s.mem))

/-- The coded XOR of a DELTA record decodes to the bytes that it codes, whatever they are. (R270, R271) -/
def Obligations.DeltaCodingRoundTrip : Prop :=
  ∀ l : List Byte, decodeDelta (codeDelta l).length (codeDelta l) = l

/-- ARM starts the scan of an idle Marker; a chunk of an open step is accepted once, and Q is kept once; what comes while scanning waits. (R237, R239, R240, R241, R250, R258) -/
def Obligations.StepsOpenAndTakeGradients : Prop :=
  (∀ (who : Requester) (st : StackId) (step : BitVec 32) (s : State), s.reachesReg who .markerArm st.val 0 step.toNat = true →
    (s.stepState st = mIDLE → s.stepRecordWaits st = false → Completes (.arm who st step) s (fun u => u.stepState st = mSCANNING ∧ u.reg .markerArm st = step.toNat
      ∧ (u.marker st).lr = BitVec.ofNat 32 (s.reg .markerLr st) ∧ (u.marker st).clip = BitVec.ofNat 32 (s.reg .markerClip st) ∧ u.mem = s.mem)) ∧
    (s.stepState st ≠ mIDLE → Completes (.arm who st step) s (fun u => u.stepState st = s.stepState st ∧ u.fld F.markerArmStatusResult st = 1 ∧ u.markers = s.markers
      ∧ u.mem = s.mem))) ∧
  (∀ (st : StackId) (c : Chunk) (s : State), s.stepState st = mSCANNING → Completes (.gradientChunk st c) s (fun u =>
    u = s.setMarker st { s.marker st with chunkWait := (s.marker st).chunkWait ++ [c] })) ∧
  (∀ (st : StackId) (c : Chunk) (p : Psd) (s : State), s.stepState st = mOPEN → s.fld F.markerStateWithhold st = 0 → s.scanned st c.index.toNat = some p →
    (s.chunkBad st p c = true → Completes (.gradientChunk st c) s (fun u => u.mem = s.mem ∧ u.markers = s.markers
      ∧ u.fld F.markerBadChunksCount st = min (s.fld F.markerBadChunksCount st + 1) (2 ^ 32 - 1))) ∧
    (s.chunkBad st p c = false → (∃ k, k < c.nseg ∧ (s.marker st).hasSeg p.index (c.seg + k) = true) → Completes (.gradientChunk st c) s (fun u =>
      u.mem = s.mem ∧ u.markers = s.markers ∧ u.fld F.markerDupSegmentsCount st = min (s.fld F.markerDupSegmentsCount st + 1) (2 ^ 32 - 1))) ∧
    (s.chunkBad st p c = false → (∀ k, k < c.nseg → (s.marker st).hasSeg p.index (c.seg + k) = false) → p.slow = false → Completes (.gradientChunk st c) s (fun u =>
      (u.marker st).segs = (s.marker st).segs ++ (List.range c.nseg).map (fun k => (p.index, c.seg + k))
        ∧ u.fld F.markerArrivedCount st = (s.fld F.markerArrivedCount st + c.nseg) % 2 ^ 32 ∧ u.stepState st = mOPEN))) ∧
  (∀ (st : StackId) (step : BitVec 32) (q : LxValue) (s : State), s.stepState st = mOPEN → step.toNat = s.reg .markerOpenStep st →
    ((s.marker st).q = none → exec (.normQArrival st step q) s = .next (s.setMarker st { s.marker st with q := some q })) ∧
    ((s.marker st).q ≠ none → Completes (.normQArrival st step q) s (fun u => u.markers = s.markers
      ∧ u.fld F.markerBadChunksCount st = min (s.fld F.markerBadChunksCount st + 1) (2 ^ 32 - 1))))

/-- A step is decided by Q: a non-finite norm discards it, one above the clip threshold re-runs it, any other stands; a commit moves word 0 and COMMITTED_STEP. (R231, R250, R251, R252, R253, R254, R255) -/
def Obligations.StepsDecideAndCommit : Prop :=
  (∀ (st : StackId) (q : LxValue) (s : State), (s.marker st).q = some q → s.stepState st = mOPEN → (s.marker st).decision = none →
    s.reg .markerArrived st = s.reg .markerExpected st → s.fld F.markerStateWithhold st = 0 → (s.marker st).chunkWait = [] → (s.marker st).qWait = [] →
    s.noWaits = true →
    ((match q.read with | .zero _ => false | .num n _ => n | _ => true) = true → Completes (.stepDecision st) s (fun u => u.stepState st = mIDLE ∧
      u.fld F.markerResultLast st = 2 ∧ u.reg .markerNorm st = 0x7FC00000 ∧ u.fld F.markerNonfiniteCount st = min (s.fld F.markerNonfiniteCount st + 1) (2 ^ 32 - 1))) ∧
    ((match q.read with | .zero _ => false | .num n _ => n | _ => true) = false →
      (((decodeFp32 (s.marker st).clip.toNat).mul (decodeFp32 (s.marker st).clip.toNat)).lt q.read = true → Completes (.stepDecision st) s (fun u =>
        u.stepState st = mRERUN ∧ (u.marker st).decision = some 1 ∧ (u.marker st).applied = [] ∧ ∀ a, s.outsidePool st a = true → u.byte a = s.byte a)) ∧
      (((decodeFp32 (s.marker st).clip.toNat).mul (decodeFp32 (s.marker st).clip.toNat)).lt q.read = false → Completes (.stepDecision st) s (fun u =>
        u.stepState st = mOPEN ∧ (u.marker st).decision = some 0 ∧ u.reg .markerClipFactor st = 0x3F800000 ∧ ∀ a, s.outsidePool st a = true → u.byte a = s.byte a)))) ∧
  (∀ (st : StackId) (s : State), s.stepState st = mRERUN → NatSet.has (s.marker st).firstShadow rerunKey = false →
    (s.marker st).fastBlocks.any (fun p => s.shadowHeld st p) = false → Completes (.clipRerunComplete st) s (fun u =>
      NatSet.has (u.marker st).firstShadow rerunKey = true ∧ u.stepState st = mRERUN)) ∧
  (∀ (st : StackId) (p : Psd) (s : State), s.commitReady st = true → (s.marker st).scan = [p] → p.trained = true → p.slow = false → s.psdAt st p.index % 8 = 0 →
    s.discards (s.psdAt st p.index) = false → s.setWaits (s.psdAt st p.index) = false → Completes (.markerCommit st) s (fun u => u.stepState st = mCOMMITTING ∧
      u.reg .markerCommittedStep st = s.reg .markerOpenStep st % 2 ^ 32
      ∧ u.psdWord0 st p.index = committedWord0 (s.psdWord0 st p.index) p.vslots (s.reg .markerOpenStep st) % 2 ^ 64
      ∧ ∀ a, (a < s.psdAt st p.index ∨ s.psdAt st p.index + 8 ≤ a) → u.byte a = s.byte a)) ∧
  (∀ (st : StackId) (s : State), s.stepState st = mCOMMITTING → s.fld F.markerStateWithhold st = 0 → (s.marker st).chunkWait = [] → (s.marker st).qWait = [] →
    s.ringState (.step (Fin.ofNat 4 (s.partOf st))) = qACTIVE → s.holdRing.length < holdRingSize → s.holdWait = [] → Completes (.commitComplete st) s (fun u =>
      u.stepState st = mIDLE ∧ u.reg .markerCommits st = (s.fld F.markerCommitsCount st + 1) % 2 ^ 64 ∧ ((s.marker st).stages = [] → u.mem = s.mem)
        ∧ ∃ h, u.holdRing = s.holdRing ++ [h] ∧ h.ring = .step (Fin.ofNat 4 (s.partOf st)) ∧ ofBytes h.bytes % 2 ^ 32 = s.reg .markerOpenStep st % 2 ^ 32)) ∧
  (∀ (who : Requester) (st : StackId) (s : State), s.reachesReg who .markerStepCmd st.val 0 1 = true → (s.stepState st = mOPEN ∨ s.stepState st = mRERUN) →
    s.fld F.markerStateWithhold st = 0 → (s.marker st).chunkWait = [] → (s.marker st).qWait = [] → Completes (.abandon who st) s (fun u =>
      u.stepState st = mIDLE ∧ u.fld F.markerResultLast st = 3 ∧ (∀ sl ∈ (u.marker st).slips, sl.step.toNat ≠ s.reg .markerOpenStep st)
        ∧ ((s.marker st).slips = [] → (s.marker st).stages = [] → u.mem = s.mem)))

/-- A late slip's block: its half is fetched into the stage, the due slip is applied into the stage's shadow, and the write-back of the other half ends. (R259, R260, R261, R262) -/
def Obligations.LateSlipsAreApplied : Prop :=
  (∀ (st : StackId) (i : BitVec 17) (b : List Byte) (s : State) (g : SlipStage) (p : Psd), (s.marker st).stages.find? (fun g => g.index == i.toNat) = some g →
    s.scanned st i.toNat = some p → g.fetched = false → p.hs ≤ 0xF0000 →
    (s.ownSeat p = false → b.length = p.hs → Completes (.slipStateFetchComplete st i (some b)) s (fun u =>
      (u.marker st).stages.find? (fun g => g.index == i.toNat) = some { g with fetched := true, state := b, failed := false }
        ∧ (s.noWaits = true → ∀ a, s.outsidePool st a = true → u.byte a = s.byte a))) ∧
    (s.ownSeat p = true → (s.ownRead st (s.slowHalf st p false) p.hs).2.2 = true → Completes (.slipStateFetchComplete st i (some b)) s (fun u =>
      (u.marker st).stages.find? (fun g => g.index == i.toNat)
          = some { g with fetched := true, state := (s.ownRead st (s.slowHalf st p false) p.hs).2.1.take p.hs, failed := false }
        ∧ (s.noWaits = true → ∀ a, s.outsidePool st a = true → u.byte a = s.byte a))) ∧
    (s.stepState st = mIDLE → Completes (.slipStateFetchComplete st i none) s (fun u =>
      (u.marker st).stages.find? (fun g => g.index == i.toNat) = some { g with failed := true } ∧ u.stepState st = mIDLE)) ∧
    ((s.stepState st = mOPEN ∨ s.stepState st = mRERUN) → s.fld F.markerStateWithhold st = 0 → (s.marker st).chunkWait = [] → (s.marker st).qWait = [] →
      Completes (.slipStateFetchComplete st i none) s (fun u => u.stepState st = mIDLE ∧ u.fld F.markerResultLast st = 4))) ∧
  (∀ (st : StackId) (i : BitVec 17) (s : State) (g : SlipStage) (p : Psd) (sl : Slip) (c lr : BitVec 32),
    (s.marker st).stages.find? (fun g => g.index == i.toNat) = some g → s.scanned st i.toNat = some p → s.dueSlip st p g = some sl → sl.decided = some (c, lr) →
    (s.stepState st = mOPEN ∨ s.stepState st = mRERUN) → g.fetched = true → g.kept = none → s.shadowHeld st p = false →
    (s.markerReads st (s.slipRuns st p g sl)).2 = false →
    let r := (applyBlock p (s.hpOf st p) (decodeFp32 lr.toNat) (decodeFp32 c.toNat) sl.e (s.seedOf st) sl.step (fun off n => (g.state.drop off).take n)
      (s.bytes p.pre p.preSize) sl.data).run 0
    let half := overlay g.state r.1.1
    Completes (.slipApply st i) s (fun u => ∃ v : State, u = (if s.ownSeat p then v else v.slowRequests st .store (s.slowHalf st p true) half.length half false)
      ∧ (v.marker st).stages.find? (fun g => g.index == i.toNat) = some
          { g with shadow := some half, appliedStep := sl.step, writing := true, written := false, sat := r.2, kept := none, poison := false }
      ∧ v.reg .markerSatCount st = (s.fld F.markerSatCountCount st + r.2) % 2 ^ 64
      ∧ (s.noWaits = true → half.length ≤ 0xF0000 → ∀ a, s.outsidePool st a = true →
          (∀ w ∈ r.1.2, a < s.shadowSlot st p + w.1 ∨ s.shadowSlot st p + w.1 + w.2.length ≤ a) → v.byte a = s.byte a))) ∧
  (∀ (st : StackId) (i : BitVec 17) (s : State) (g : SlipStage) (p : Psd), (s.marker st).stages.find? (fun g => g.index == i.toNat) = some g →
    s.scanned st i.toNat = some p → g.writing = true → s.fld F.markerStateWithhold st = 0 →
    (g.poison = false → (s.ownSeat p = true → (s.ownWrite st (s.slowHalf st p true) (g.shadow.getD []) false).2 = true) →
      Completes (.slipWritebackComplete st i true) s (fun u =>
        (u.marker st).stages.find? (fun g => g.index == i.toNat) = some { g with writing := false, written := true }
          ∧ (s.ownSeat p = false → s.noWaits = true → ∀ a, s.outsidePool st a = true → u.byte a = s.byte a))) ∧
    ((s.stepState st = mOPEN ∨ s.stepState st = mRERUN) → (s.marker st).chunkWait = [] → (s.marker st).qWait = [] →
      Completes (.slipWritebackComplete st i false) s (fun u => u.stepState st = mIDLE ∧ u.fld F.markerResultLast st = 4)))

/-- Calibration runs and ends, the roll check compares, MODE and COMMITTED_STEP take their values, and Homework records leave for their ring. (R263, R264, R265, R266, R267, R268, R272, R363, R365) -/
def Obligations.CalibrationRollsAndRecords : Prop :=
  (∀ (st : StackId) (s : State) (c : CalRun) (p : Psd), (s.marker st).cal = some (c, p) →
    let n := if c.side then p.cols else p.rows
    let tol := decodeFp32 (s.reg .markerCalTol st)
    let a := toRows n n ((finiteFp32s (s.bytes (s.reg .markerCalSrc st) (4 * n * n)) (n * n)).run 0).1
    let r := if c.ortho then orthoOf n c.iters tol a else invrootOf n (if c.p4 then 4 else 2) c.iters (decodeFp32 (s.reg .markerCalDamp st)) tol a
    let x := match r with | some (x, _) => x | none => identity n
    let at' := p.pre + (if c.side then p.offR else 0)
    let ws : Writes := [(0, fp32Bytes x.flatten), Psd.padAt 0 (4 * n * n)]
    s.noWaits = true → (s.readFrom st 5 (s.reg .markerCalSrc st) (4 * n * n)).2.2 = false → Completes (.calibrationComplete st) s (fun u =>
      (u.marker st).cal = none ∧ u.fld F.markerCalStatusBusy st = 0 ∧ u.fld F.markerCalStatusResult st = bit r.isNone
        ∧ u.fld F.markerDegradedCount st = (if r.isNone then min (s.fld F.markerDegradedCount st + 1) (2 ^ 32 - 1) else s.fld F.markerDegradedCount st)
        ∧ (∀ a, (∀ w ∈ ws, a < at' + w.1 ∨ at' + w.1 + w.2.length ≤ a) → (a < s.psdAt st c.index ∨ s.psdAt st c.index + 8 ≤ a) → u.byte a = s.byte a))) ∧
  (∀ (who : Requester) (st : StackId) (side : Bool) (iters : BitVec 7) (k : BitVec 17) (s : State) (p : Psd),
    let v := 2 + bit side * 2 ^ 2 + iters.toNat * 2 ^ 4 + k.toNat * 2 ^ 16
    s.reachesReg who .markerCalCmd st.val 0 v = true → s.scanned st k.toNat = some p → s.calOk st ⟨true, side, false, iters.toNat, k.toNat⟩ p = true →
    Completes (.ortho who st side iters k) s (fun u => (u.marker st).cal = some (⟨true, side, false, iters.toNat, k.toNat⟩, p)
      ∧ u.fld F.markerCalStatusBusy st = 1 ∧ u.mem = s.mem)) ∧
  (∀ (who : Requester) (st : StackId) (side p4 : Bool) (iters : BitVec 7) (k : BitVec 17) (s : State) (p : Psd),
    let v := 1 + bit side * 2 ^ 2 + bit p4 * 2 ^ 3 + iters.toNat * 2 ^ 4 + k.toNat * 2 ^ 16
    s.reachesReg who .markerCalCmd st.val 0 v = true → s.scanned st k.toNat = some p → s.calOk st ⟨false, side, p4, iters.toNat, k.toNat⟩ p = true →
    Completes (.invroot who st side p4 iters k) s (fun u => (u.marker st).cal = some (⟨false, side, p4, iters.toNat, k.toNat⟩, p)
      ∧ u.fld F.markerCalStatusBusy st = 1 ∧ u.mem = s.mem)) ∧
  (∀ (st : StackId) (s : State) (p : Psd),
    let w := s.psdWord0 st p.index
    let m := (s.bump F.markerRollCheckedCount st 0 1).masterBytes st p
    (s.marker st).scan = [p] → p.valid = true → (s.marker st).rollDue = 1 → (s.stepState st = mIDLE ∨ s.stepState st = mOPEN) → p.slow = false →
    s.noWaits = true → m.2.2 = false → (m.1.readFrom st 5 (p.vers + bits w 0 3 * p.ws) p.nbytes).2.2 = false →
    (rolledCopy p (s.seedOf st) (BitVec.ofNat 32 (bits w 32 32)) (s.halfBytes p (s.psdSsel st p.index) 0 (4 * p.nelem))
        = s.bytes (p.vers + bits w 0 3 * p.ws) p.nbytes →
      Completes (.rollCheck st) s (fun u => u.mem = s.mem ∧ u.reg .markerRollChecked st = (s.fld F.markerRollCheckedCount st + 1) % 2 ^ 64
        ∧ (u.marker st).rollDue = 0 ∧ u.reg .markerRollMismatch st = s.reg .markerRollMismatch st)) ∧
    (rolledCopy p (s.seedOf st) (BitVec.ofNat 32 (bits w 32 32)) (s.halfBytes p (s.psdSsel st p.index) 0 (4 * p.nelem))
        ≠ s.bytes (p.vers + bits w 0 3 * p.ws) p.nbytes →
      Completes (.rollCheck st) s (fun u => u.reg .markerRollChecked st = (s.fld F.markerRollCheckedCount st + 1) % 2 ^ 64 ∧ (u.marker st).rollDue = 0
        ∧ u.fld F.markerRollMismatchCount st = min (s.fld F.markerRollMismatchCount st + 1) (2 ^ 32 - 1)
        ∧ ∀ a, (a < s.psdAt st p.index ∨ s.psdAt st p.index + 8 ≤ a) → u.byte a = s.byte a))) ∧
  (∀ (st : StackId) (s : State) (h : HwRec) (rest : List HwRec),
    let ring : RingId := .step (Fin.ofNat 4 (s.partOf st.val))
    let s1 := s.readHwHead st
    let b := (s1.hwRecord st (s1.hwFront st h)).2
    let base := s.reg .markerHwBase st
    let size := s.reg .markerHwSize st
    let off := s.reg .markerHwTail st + ((s.marker st).hwReadback.map List.length).sum
    (s.marker st).hwQueue = h :: rest → s.fld F.markerHwCtrlMode st ≠ 0 → s.stepState st ≠ mOPEN → s.noWaits = true →
    (s.hwToSeat st.val = false → s.ringState ring = qACTIVE → s.portOpen (s.ringPort ring) = true → s.hwFits st b.length = true →
      Completes (.homeworkRecordWrite st) s (fun u => (u.marker st).hwQueue = rest ∧ (u.marker st).hwReadback = (s.marker st).hwReadback ++ [b.map (fun x => x.1)]
        ∧ u.mem = s.mem ∧ (∀ (j : Nat) (x : Byte × Bool), b[j]? = some x → u.hostByte (base + (off + j) % size) = x.1)
        ∧ u.outbox.getLast? = some (.hostRead (Fin.ofNat 2 (s.ringPort ring)) (base + (off + b.length - 4) % size)))) ∧
    (s.hwToSeat st.val = true → s1.hwFits st b.length = true →
      Completes (.homeworkRecordWrite st) s (fun u => (u.marker st).hwQueue = rest ∧ u.hostMem = s.hostMem
        ∧ u.reg .markerHwTail st = (s.reg .markerHwTail st + b.length) % size)) ∧
    (s.hwToSeat st.val = false → s.ringState ring ≠ qACTIVE →
      Completes (.homeworkRecordWrite st) s (fun u => (u.marker st).hwQueue = rest ∧ u.hostMem = s.hostMem ∧ u.mem = s.mem))) ∧
  (∀ (who : Requester) (st : StackId) (off : BitVec 32) (s : State), s.reachesReg who .markerHwHead st.val 0 off.toNat = true →
    Completes (.hwHeadWrite who st off) s (fun u => u.reg .markerHwHead st = off.toNat ∧ u.mem = s.mem ∧ u.markers = s.markers)) ∧
  (∀ (who : Requester) (st : StackId) (step : BitVec 32) (s : State), s.reachesReg who .markerCommittedStep st.val 0 step.toNat = true →
    s.fld F.markerStateMode st = 1 → s.stepState st = mIDLE → Completes (.committedStepWrite who st step) s (fun u => u.reg .markerCommittedStep st = step.toNat
      ∧ u.mem = s.mem)) ∧
  (∀ (who : Requester) (st : StackId) (mode : BitVec 2) (s : State), s.reachesReg who .markerState st.val 0 mode.toNat = true →
    s.stepState st = mIDLE → mode.toNat ≤ 1 → s.noWaits = true → Completes (.markerModeWrite who st mode) s (fun u => u.fld F.markerStateMode st = mode.toNat
      ∧ u.stepState st = mIDLE ∧ u.mem = s.mem))

/-- A fabric request that passes its checks is performed at the home slice and answered: loads, stores, notifications, reductions and atomics. (R296, R297, R298, R299, R300, R301, R305, R307) -/
def Obligations.RequestsAreServed : Prop :=
  (∀ (p : Port) (m : FabReq) (s : State),
    let a := fabModule m.addr.toNat
    let n := reqBytes m.len
    (∀ i, i < n → s.sound (a + i) = true) →
    (Admitted s p .load m → s.poisonBits a n = 0 → Answers .load p m s 0 0 (s.bytes a n) (fun v => v.mem = s.mem ∧ v.hostMem = s.hostMem)) ∧
    (Admitted s p .store m → m.poison = 0 → m.data.length = n → Answers .store p m s 0 0 [] (fun v => v.bytes a n = m.data
      ∧ ∀ x, (x < a ∨ a + n ≤ x) → v.byte x = s.byte x)) ∧
    (∀ (op : FabOp) (size csize j : Nat), (op, size, csize) ∈ [(FabOp.fxadd32, 4, 4), (.fxadd64, 8, 8), (.fxadd32to64, 8, 4)] →
      Admitted s p op m → m.poison = 0 → s.anyPoison a n = false → csize * (n / size) ≤ m.data.length → j < n / size →
      Answers op p m s 0 0 [] (fun v => v.num (a + size * j) size
          = unsigned (8 * size) ((s.num (a + size * j) size : Int) + signed (8 * csize) (ofBytes ((m.data.drop (csize * j)).take csize)))
        ∧ ∀ x, (x < a ∨ a + n ≤ x) → v.byte x = s.byte x)) ∧
    (∀ (op : FabOp) (w : Nat), (opClass op = 3 ∧ w = 8 ∨ opClass op = 4 ∧ w = 16) → Admitted s p op m → m.poison = 0 → s.poisoned a = false →
      Answers op p m s 0 0 (toBytes w (s.num a w)) (fun v =>
        v.num a w = atomicNew op (8 * w) (s.num a w) (ofBytes (m.data.take w)) (ofBytes ((m.data.drop w).take w))
          ∧ ∀ x, (x < a ∨ a + w ≤ x) → v.byte x = s.byte x))) ∧
  ((∀ old x y : Nat, old < 2 ^ 128 → x < 2 ^ 128 → y < 2 ^ 128 →
    atomicNew .add64 64 old x y = (old + x) % 2 ^ 64 ∧ atomicNew .add128 128 old x y = (old + x) % 2 ^ 128
    ∧ atomicNew .swap64 64 old x y = x ∧ atomicNew .swap128 128 old x y = x
    ∧ atomicNew .cas64 64 old x y = (if old = x then y else old) ∧ atomicNew .cas128 128 old x y = (if old = x then y else old)
    ∧ signed 64 (atomicNew .min64 64 old x y) = min (signed 64 old) (signed 64 x)
    ∧ signed 64 (atomicNew .max64 64 old x y) = max (signed 64 old) (signed 64 x)
    ∧ signed 128 (atomicNew .min128 128 old x y) = min (signed 128 old) (signed 128 x)
    ∧ signed 128 (atomicNew .max128 128 old x y) = max (signed 128 old) (signed 128 x)) ∧
  (∀ (op : FabOp) (w : Nat) (p : Port) (m : FabReq) (s : State), (opClass op = 3 ∧ w = 8 ∨ opClass op = 4 ∧ w = 16) → Admitted s p op m →
    s.poisoned (fabModule m.addr.toNat) = true → Answers op p m s 3 0 (List.replicate w 0) (fun v => v.mem = s.mem ∧ v.poison = s.poison))) ∧
  (∀ (p : Port) (m : FabReq) (s : State),
    let a := fabModule m.addr.toNat
    let n := reqBytes m.len
    let i := 4 * addrStack a
    let head := s.reg .fabricNotifyHeadAddr i
    let slot := s.reg .fabricNotifyBase i + 16 * (s.reg .fabricNotifyTail i % s.reg .fabricNotifyEntries i)
    Admitted s p .storeNotify m → s.noWaits = true → m.poison = 0 → m.data.length = n → (head + 8 ≤ a ∨ a + n ≤ head) → (slot + 16 ≤ a ∨ a + n ≤ slot) →
    s.discards slot = false → slot % 16 = 0 →
    (s.reg .fabricNotifyTail i + 2 ^ 32 - s.num head 8 % 2 ^ 32) % 2 ^ 32 ≠ s.reg .fabricNotifyEntries i →
    Answers .storeNotify p m s 0 0 [] (fun v => v.bytes a n = m.data
      ∧ v.num slot 16 = m.addr.toNat + m.len.toNat * 2 ^ 48 + m.src.toNat * 2 ^ 64 + m.srcEpoch.toNat * 2 ^ 76 + m.note.toNat * 2 ^ 96
      ∧ v.reg .fabricNotifyTail i = (s.reg .fabricNotifyTail i + 1) % 2 ^ 32
      ∧ ∀ x, (x < a ∨ a + n ≤ x) → (x < slot ∨ slot + 16 ≤ x) → v.byte x = s.byte x))

/-- A STORE_NOTIFY that finds the notify ring full writes its data, appends no record, and completes with NOTIFY_FULL, which is counted. (R302) -/
def Obligations.FullNotifyRing : Prop :=
  ∀ (p : Port) (m : FabReq) (s : State),
    let a := fabModule m.addr.toNat
    let n := reqBytes m.len
    let i := 4 * addrStack a
    let head := s.reg .fabricNotifyHeadAddr i
    Admitted s p .storeNotify m → s.noWaits = true → m.poison = 0 → m.data.length = n → (head + 8 ≤ a ∨ a + n ≤ head) →
    (s.reg .fabricNotifyTail i + 2 ^ 32 - s.num head 8 % 2 ^ 32) % 2 ^ 32 = s.reg .fabricNotifyEntries i →
    Answers .storeNotify p m s 0xB 0 [] (fun v => v.bytes a n = m.data ∧ (∀ x, (x < a ∨ a + n ≤ x) → v.byte x = s.byte x)
      ∧ v.reg .fabricNotifyTail i = s.reg .fabricNotifyTail i
      ∧ v.fld F.fabricNotifyFullCount i = min (s.fld F.fabricNotifyFullCount i + 1) (2 ^ 32 - 1))

/-- A request leaves with a tracker entry; its response frees the entry, a timeout quarantines it, and QUARANTINE_EXPIRY frees it. (R291, R292, R303, R305, R308, R309) -/
def Obligations.TransactionsEnd : Prop :=
  (∀ (st : StackId) (r : FabIssue) (s : State) (e : Nat) (p : Port) (tid : Nat), reqShape r.op r.len (bits r.addr.toNat 0 48) = true →
    s.mustHold st r = false → s.heldReqs = [] → s.seatValid = true → fabSeat r.addr.toNat ≠ s.seat → s.freeTid st = some tid →
    s.outEntry (s.partOf st) r.addr.toNat = some e → choosePort (winPorts e) (bits r.addr.toNat 0 48) = some p.val → s.link p = lUP → s.hallwayDown st (stackOfPort p) = false →
    Completes (.fabricRequestIssue st r) s (fun u => u.mem = s.mem
      ∧ u.trackers = s.trackers ++ [⟨tid, some r.op, r.by', BitVec.ofNat 12 (fabSeat r.addr.toNat), r.addr, some p.val, none, false⟩]
      ∧ (u.port p).txq.length = (s.port p).txq.length + 1 ∧ ∀ q, q ≠ p.val → u.port q = s.port q)) ∧
  (∀ (st : StackId) (m : FabResp) (s : State) (t : TrackEntry), s.trackers.find? (fun t => t.entry == m.tid.toNat && !t.quarantine) = some t → t.coll = none →
    s.heldReqs = [] → m.status = 0 → Completes (.response (.loop st) m) s (fun u =>
      u.trackers = s.trackers.filter (fun u => u.entry != m.tid.toNat) ∧ u.mem = s.mem)) ∧
  (∀ (st : StackId) (m : FabResp) (s : State), (∀ t ∈ s.trackers, t.entry = m.tid.toNat → t.quarantine = true) → Completes (.response (.loop st) m) s (fun u =>
    u.trackers = s.trackers ∧ u.mem = s.mem ∧ u.fld F.fabricLateResponsesCount (4 * tidStack m.tid.toNat)
      = min (s.fld F.fabricLateResponsesCount (4 * tidStack m.tid.toNat) + 1) (2 ^ 32 - 1))) ∧
  (∀ (st : StackId) (n : Nat) (s : State) (t : TrackEntry),
    s.trackers.find? (fun t => t.entry == st.val * 2 ^ 16 + n && !t.quarantine) = some t → t.coll = none → s.heldReqs = [] →
    Completes (.transactionTimeout st n) s (fun u => u.mem = s.mem
      ∧ u.trackers = s.trackers.map (fun (u : TrackEntry) => if u.entry == st.val * 2 ^ 16 + n then { u with quarantine := true } else u))) ∧
  (∀ (st : StackId) (n : Nat) (s : State), s.heldReqs = [] → Completes (.quarantineExpiry st n) s (fun u => u.mem = s.mem
    ∧ u.trackers = s.trackers.filter (fun t => !(t.entry == st.val * 2 ^ 16 + n && t.quarantine))))

/-- A fabric port trains, maps one failed lane onto the spare, retrains in a new epoch, and goes DOWN when a second lane fails or three retrains have failed. (R277, R278, R279, R280, R282, R310, R335) -/
def Obligations.PortsTrainAndRetrain : Prop :=
  (∀ (p : Port) (failed : List (Fin 9)) (s : State), s.link p = lTRAINING →
    (2 ≤ failed.dedup.length → Completes (.portTrainingComplete p failed) s (fun u => u.link p = lDOWN ∧ u.port p = FPort.init)) ∧
    (failed.dedup.length ≤ 1 → (s.port p).mapSent = false → (s.port p).lockDone = false → Completes (.portTrainingComplete p failed) s (fun u =>
      u.link p = lTRAINING ∧ (u.port p).mapSent = true ∧ SendsLinks s u p [u.laneMapOf p] ∧ u.mem = s.mem
        ∧ u.fld F.fabricStateFailedLane p = (match failed.dedup with | f :: _ => f.val | [] => s.fld F.fabricStateFailedLane p)
        ∧ (∀ f, failed.dedup = [f] → u.fld F.fabricStateSpareInUse p = (if f.val < 8 then 1 else 0))))) ∧
  (∀ (p : Port) (cause : BitVec 8) (lane : Fin 9) (s : State), (s.link p = lUP ∨ s.link p = lRETRAINING) → (cause = 0 ∨ cause = 3) → s.heldReqs = [] → (s.port p).tids = [] →
    Completes (.laneFailing p cause lane) s (fun u => if s.fld F.fabricStateFailedLane p = 0xF
      then u.link p = lRETRAINING ∧ u.fld F.fabricStateFailedLane p = lane.val ∧ (u.port p).trainEpoch = (s.port p).trainEpoch + 1
        ∧ u.fld F.fabricRetrainsCount p = (s.fld F.fabricRetrainsCount p + 1) % 2 ^ 32
        ∧ SendsLinks s u p [.retrain ((s.port p).trainEpoch + 1) cause (BitVec.ofNat 8 lane.val)]
      else if s.fld F.fabricStateFailedLane p = lane.val then u = s
      else u.link p = lDOWN)) ∧
  (∀ (p : Port) (e c l : BitVec 8) (s : State), s.link p = lUP → e ≠ (s.port p).trainEpoch → Completes (.retrain p e c l) s (fun u =>
    u.link p = lRETRAINING ∧ (u.port p).trainEpoch = e ∧ (u.port p).mapSent = true ∧ SendsLinks s u p [u.laneMapOf p])) ∧
  (∀ (p : Port) (e : BitVec 8) (lanes : List (BitVec 8)) (f : BitVec 16) (s : State), (s.link p = lTRAINING ∨ s.link p = lRETRAINING) → e = (s.port p).trainEpoch →
    2 ∉ (s.port p).actedOps → Completes (.laneMap p e lanes f) s (fun u => u.link p = s.link p ∧ (u.port p).lanes = lanes ∧ 2 ∈ (u.port p).actedOps
      ∧ (u.port p).mapSent = ((s.port p).mapSent || s.link p == lRETRAINING))) ∧
  (∀ (p : Port) (e b : BitVec 8) (next : BitVec 12) (s : State), (s.link p = lTRAINING ∨ s.link p = lRETRAINING) → e = (s.port p).trainEpoch → 3 ∉ (s.port p).actedOps →
    b.getLsbD 0 = true → b.getLsbD 1 = true → Completes (.aligned p e b next) s (fun u => 3 ∈ (u.port p).actedOps
      ∧ u.link p = (if (s.port p).lockDone = true then lUP else s.link p)
      ∧ (s.link p = lRETRAINING → (s.port p).lockDone = true → (u.port p).retrainFails = 0 ∧ ((s.port p).session ≠ .up →
          u.outbox = s.outbox ++ ((s.port p).retry.drop (ackedCount (next - 1) (s.port p).retry)).map (fun f => .flit p f))))) ∧
  (∀ (p : Port) (next : BitVec 12) (s : State), (s.link p = lTRAINING ∨ s.link p = lRETRAINING) → (s.port p).mapSent = true → (s.port p).lockDone = false →
    next = (s.port p).rxSeq → Completes (.alignmentAndFecLock p next) s (fun u => u.link p = (if 3 ∈ (s.port p).actedOps then lUP else s.link p)
      ∧ (3 ∉ (s.port p).actedOps → SendsLinks s u p [.aligned (s.port p).trainEpoch 3 next])
      ∧ (3 ∈ (s.port p).actedOps → s.link p = lTRAINING → (u.port p).credit = [64, 2048, 4096, 8192] ∧ (u.port p).session = .identSent
          ∧ SendsLinks s u p [.aligned (s.port p).trainEpoch 3 next, .ident (BitVec.ofNat 64 (s.reg .proctorSerial)) true (s.fld F.secPolicyLummirEnc == 1)]))) ∧
  (∀ (p : Port) (s : State), s.link p = lRETRAINING → s.heldReqs = [] → (s.port p).tids = [] → Completes (.retrainTimeout p) s (fun u =>
    if (s.port p).retrainFails < 2 then u.link p = lRETRAINING ∧ (u.port p).retrainFails = (s.port p).retrainFails + 1
      ∧ (u.port p).trainEpoch = (s.port p).trainEpoch + 1 else u.link p = lDOWN)) ∧
  (∀ (p : Port) (cause : BitVec 8) (s : State), s.link p = lUP → s.heldReqs = [] → (s.port p).tids = [] → Completes (.down p cause) s (fun u =>
    u.link p = lDOWN ∧ u.port p = FPort.init ∧ u.fld F.fabricRollEventsLeft p = 1 ∧ u.mem = s.mem)) ∧
  (∀ (p : Port) (s : State), Completes (.linkMessageRepeat p) s (fun u => SendsLinks s u p (s.port p).repeats
    ∧ (u.port p).repeats = (s.port p).repeats ∧ u.regs = s.regs ∧ u.mem = s.mem))

/-- Flits are checked, ordered, acknowledged and resent; messages go out whole against credit; sessions, tag groups and re-keying. (R280, R281, R284, R285, R288, R470) -/
def Obligations.FlitsMessagesAndSessions : Prop :=
  (∀ (p : Port) (f : Flit) (crc : BitVec 64) (s : State), s.link p = lUP → flitGood { f with crc := crc } = false → Completes (.flitReceive p f crc) s (fun u =>
    (u.port p).nakOut = true ∧ (u.port p).rxSeq = (s.port p).rxSeq ∧ u.mem = s.mem
      ∧ u.fld F.fabricCrcErrorsCount p = min (s.fld F.fabricCrcErrorsCount p + 1) (2 ^ 32 - 1))) ∧
  (∀ (p : Port) (f : Flit) (crc : BitVec 64) (m : FabMsg) (s : State), s.link p = lUP → flitGood { f with crc := crc } = true → f.type = 0 → f.nak = false → f.badSlot = false → f.msgs = [m] → f.seq = (s.port p).rxSeq →
    (s.port p).session = .skipped → (s.port p).creditOwed.getD m.vc.val 0 + m.slots ≤ vcBuffer m.vc.val →
    ∃ v : State, exec (.flitReceive p f crc) s = .next (v.deliver p m) ∧ (v.port p).rxSeq = (s.port p).rxSeq + 1 ∧ v.mem = s.mem ∧ v.cores = s.cores) ∧
  (∀ (p : Port) (f : Flit) (crc : BitVec 64) (s : State), s.link p = lUP → flitGood { f with crc := crc } = true → f.type = 0 → f.nak = false → f.seq = (s.port p).rxSeq →
    (s.port p).session = .up → (s.port p).groupRx = [] → (s.port p).rxNext = true → f.key ≠ (s.port p).rxSlot → Completes (.flitReceive p f crc) s (fun u =>
      (u.port p).rxSlot = f.key ∧ (u.port p).rxNext = false ∧ (u.port p).rxCounter = 0 ∧ (u.port p).rxKeyNo = (s.port p).rxKeyNo + 1
        ∧ (u.port p).groupRx = [{ f with crc := crc }] ∧ u.mem = s.mem)) ∧
  (∀ (p : Port) (ack : BitVec 12) (s : State), s.link p = lUP → Completes (.nakResend p ack) s (fun u =>
    (u.port p).retry.length = ((s.port p).ackTo ack).retry.length ∧ u.mem = s.mem
    ∧ ((s.port p).session ≠ .up → (u.port p).retry = (s.port p).retry.drop (ackedCount ack (s.port p).retry)
        ∧ u.outbox = s.outbox ++ ((s.port p).retry.drop (ackedCount ack (s.port p).retry)).map (fun f => .flit p f)))) ∧
  (∀ (p : Port) (vc : Fin 4) (m : FabMsg) (d : List Nat) (s : State), s.link p = lUP → (s.port p).session = .skipped → (s.port p).txq = [(vc, m)] → s.pick p = some (vc, m, d) → m.flits = 1 →
    (s.port p).txCounter < 2 ^ 48 → (s.port p).rxCounter < 2 ^ 48 → Completes (.messageSend p) s (fun u =>
      (u.port p).txq = [] ∧ (u.port p).credit = vcSub (s.port p).credit vc.val m.slots ∧ u.mem = s.mem
        ∧ ∃ f : Flit, f.msgs = [m] ∧ f.seq = (s.port p).txSeq ∧ flitGood f = true ∧ (u.port p).retry = (s.port p).retry ++ [f] ∧ u.outbox = s.outbox ++ [.flit p f])) ∧
  (∀ (p : Port) (s : State), s.link p = lUP → (s.port p).txq = [] → s.lanesIdle p = false → Completes (.messageSend p) s (fun u =>
    (u.port p).retry = (s.port p).retry ∧ u.mem = s.mem ∧ ∃ f : Flit, f.type = 1 ∧ f.slots = [] ∧ flitGood f = true ∧ u.outbox = s.outbox ++ [.flit p f])) ∧
  (∀ (p : Port) (s : State), s.link p = lUP → (s.port p).session = .up → (s.port p).groupTx ≠ 0 → (s.port p).txCounter + 1 < 2 ^ 48 → (s.port p).rxCounter < 2 ^ 48 →
    Completes (.tagGroupClose p) s (fun u => (u.port p).groupTx = 0 ∧ (u.port p).txCounter = (s.port p).txCounter + 1
      ∧ ∃ f : Flit, f.type = 2 ∧ f.tag = (s.port p).tagOf p ∧ f.msgs = [] ∧ u.outbox = s.outbox ++ [.flit p f])) ∧
  (∀ (p : Port) (g rest : List Flit) (x : Flit) (m : FabMsg) (t : BitVec 128) (c : BitVec 64) (s : State), (s.port p).session = .up →
    (s.port p).groupRx = g ++ x :: rest → (∀ f ∈ g, f.type ≠ 2) → x.type = 2 → x.tag = some (t, c) → g.flatMap (fun f => f.msgs) = [m] → g.any Flit.badSlot = false →
    (s.port p).creditOwed.getD m.vc.val 0 + m.slots ≤ vcBuffer m.vc.val → ∃ v : State, exec (.tagFlitVerify p true) s = .next ((v.deliver p m).counterCheck p)
      ∧ (v.port p).groupRx = rest ∧ (v.port p).rxCounter = c.toNat + 1 ∧ v.mem = s.mem) ∧
  (∀ (p : Port) (f x : Flit) (g rest : List Flit) (s : State), (s.port p).session = .up → (s.port p).groupRx = f :: g ++ x :: rest → (∀ y ∈ f :: g, y.type ≠ 2) → x.type = 2 →
    ((s.port p).tagFails = 0 → Completes (.tagFlitVerify p false) s (fun u => (u.port p).groupRx = [] ∧ (u.port p).rxSeq = f.seq ∧ (u.port p).nakOut = true ∧ u.mem = s.mem
      ∧ u.fld F.fabricTagFailuresCount p = min (s.fld F.fabricTagFailuresCount p + 1) (2 ^ 32 - 1))) ∧
    ((s.port p).tagFails ≠ 0 → s.link p = lUP → Completes (.tagFlitVerify p false) s (fun u => u.link p = lDOWN))) ∧
  (∀ (p : Port) (serial : Word) (required : Bool) (s : State), s.link p = lUP → (s.port p).session = .identSent → Completes (.ident p serial true required) s (fun u =>
    (u.port p).partnerSerial = serial ∧ u.mem = s.mem
      ∧ (u.port p).session = (if s.fld F.secPolicyLummirEnc = 1 ∨ required = true then .required else .skipped)
      ∧ ((u.port p).session = .skipped ∨ serial.toNat ≤ s.reg .proctorSerial → u.outbox = s.outbox)
      ∧ ((u.port p).session = .required → s.reg .proctorSerial < serial.toNat → SendsSomeLinks s u p))) ∧
  (∀ (p : Port) (s : State), s.link p = lUP → (s.port p).session = .required → s.heldReqs = [] → (s.port p).tids = [] →
    Completes (.sessionSetupTimeout p) s (fun u => u.link p = lDOWN ∧ u.fld F.fabricStateEncrypted p = 0)) ∧
  (∀ (p : Port) (s : State), (s.port p).session = .up → 2 ^ 47 ≤ (s.port p).rxCounter → exec (.linkRekey p false) s = .next (s.setPort p { s.port p with rxNext := true })) ∧
  (∀ (p : Port) (s : State), (s.port p).session = .up → (s.port p).groupTx = 0 → 2 ^ 47 ≤ (s.port p).txCounter → Completes (.linkRekey p true) s (fun u =>
    (u.port p).txSlot = !(s.port p).txSlot ∧ (u.port p).txKeyNo = (s.port p).txKeyNo + 1 ∧ (u.port p).txCounter = 0 ∧ u.regs = s.regs
      ∧ SendsSomeLinks s u p))

/-- Hallway links and HBM4 channels count, retrain, are repaired and fail; the Janitor scrubs, the Quiz visits, and lanes, rows and slices are repaired or failed. (R218, R219, R220, R221, R224, R225, R428, R429, R431, R433, R434, R435) -/
def Obligations.LinksChannelsAndRepairs : Prop :=
  ((∀ (l : Fin 6) (s : State), Completes (.hallwayFlitError l) s (fun u => u.mem = s.mem
    ∧ u.fld F.hallwayCrcErrorsCount l = min (s.fld F.hallwayCrcErrorsCount l + 1) (2 ^ 32 - 1)
    ∧ u.fld F.hallwayRetriesCount l = min (s.fld F.hallwayRetriesCount l + 1) (2 ^ 32 - 1))) ∧
  (∀ (l : Fin 6) (k : Nat) (s : State), s.fld F.hallwayStateLink l = 0 → bitOf (s.fld F.hallwayStateSparesUsed l) (k / 32) = false → k < 320 →
    Completes (.hallwayRetrain l (some k)) s (fun u => u.fld F.hallwayStateLink l = 1 ∧ bitOf (u.fld F.hallwayStateSparesUsed l) (k / 32) = true
      ∧ u.fld F.hallwayRetrainsCount l = (s.fld F.hallwayRetrainsCount l + 1) % 2 ^ 32 ∧ u.mem = s.mem)) ∧
  (∀ (l : Fin 6) (s : State), s.fld F.hallwayStateLink l = 1 → Completes (.hallwayRetrainComplete l true) s (fun u =>
    u.fld F.hallwayStateLink l = 0 ∧ Tab.get 0 u.hallwayFails l = 0 ∧ u.mem = s.mem)) ∧
  (∀ (l : Fin 6) (k : Nat) (s : State), s.fld F.hallwayStateLink l ≠ 2 → bitOf (s.fld F.hallwayStateSparesUsed l) (k / 32) = true → s.lessons = [] → s.bells = [] →
    s.cores = [] → Completes (.hallwayRetrain l (some k)) s (fun u => u.fld F.hallwayStateLink l = 2 ∧ u.mem = s.mem)) ∧
  (∀ (l : Fin 6) (s : State), s.fld F.hallwayStateLink l = 1 → 2 ≤ Tab.get 0 s.hallwayFails l → s.lessons = [] → s.bells = [] → s.cores = [] →
    Completes (.hallwayRetrainComplete l false) s (fun u => u.fld F.hallwayStateLink l = 2 ∧ u.mem = s.mem)) ∧
  (∀ (l : Fin 6) (s : State), s.fld F.hallwayStateLink l = 1 → Tab.get 0 s.hallwayFails l < 2 → Completes (.hallwayRetrainComplete l false) s (fun u =>
    u.fld F.hallwayStateLink l = 1 ∧ Tab.get 0 u.hallwayFails l = Tab.get 0 s.hallwayFails l + 1 ∧ u.mem = s.mem)) ∧
  (∀ (l : Fin 6) (s : State), s.lessons = [] → s.bells = [] → s.cores = [] → Completes (.hallwayDown l) s (fun u => u.fld F.hallwayStateLink l = 2 ∧ u.mem = s.mem)) ∧
  (∀ (n : SliceId) (q : Bool) (lane : Nat) (s : State), s.fld F.hbmChannelState (hbmOf n) (channelOf n) ≠ 2 →
    ((s.slice n).laneSpares.filter (fun x => x.1 == q)).length < 2 → Completes (.hbmLaneRepair n q lane) s (fun u =>
      u.fld F.hbmChannelState (hbmOf n) (channelOf n) = 1 ∧ (u.slice n).laneSpares = (s.slice n).laneSpares ++ [(q, lane)]
        ∧ u.fld F.hbmLaneRepairsCount (hbmOf n) = (s.fld F.hbmLaneRepairsCount (hbmOf n) + 1) % 2 ^ 32 ∧ u.mem = s.mem)) ∧
  (∀ (n : SliceId) (row : Nat) (s : State), s.fld F.hbmChannelState (hbmOf n) (channelOf n) ≠ 2 → Completes (.hbmRowRepair n row) s (fun u =>
    u.fld F.hbmChannelState (hbmOf n) (channelOf n) = 1 ∧ u.fld F.hbmRowRepairsCount (hbmOf n) = (s.fld F.hbmRowRepairsCount (hbmOf n) + 1) % 2 ^ 32 ∧ u.mem = s.mem)) ∧
  (∀ (n : SliceId) (s : State), s.fld F.hbmChannelState (hbmOf n) (channelOf n) = 1 → Completes (.hbmRepairComplete n) s (fun u =>
    u.fld F.hbmChannelState (hbmOf n) (channelOf n) = 0 ∧ u.mem = s.mem ∧ u.slices = s.slices)) ∧
  (∀ (n : SliceId) (a : Nat) (s : State), s.fld F.hbmChannelState (hbmOf n) (channelOf n) ≠ 2 → (s.slice n).waitQ = [] → Completes (.hbmChannelFailed n) s (fun u =>
    u.fld F.hbmChannelState (hbmOf n) (channelOf n) = 2 ∧ (u.slice n).lines = [] ∧ (u.slice n).hold = [] ∧ u.mem = s.mem
      ∧ (homeSlice a = n.val → regionOf a = .hbm → u.discards a = true ∧ u.poisoned a = true))) ∧
  (∀ (h : Fin 32) (s : State), Completes (.refreshManagementRequest h) s (fun u =>
    u.fld F.hbmRfmCommandsCount h = (s.fld F.hbmRfmCommandsCount h + 1) % 2 ^ 64 ∧ u.mem = s.mem ∧ u.slices = s.slices))) ∧
  ((∀ (st : StackId) (h : Bool) (k : Fin 256) (s : State), s.caretakersStop st = false →
    let n := 256 * st.val + k.val
    let old := if h = true then Tab.get 0 s.hbmErr (channelAddr n (Tab.get 0 (s.tutor st).janitorHbm k % channelSectors) / 32)
      else match s.arrayAddr n (Tab.get 0 (s.tutor st).janitorBond k % arraySectors) with
        | some a => Tab.get 0 s.arrayErr (a / 32)
        | none => 0
    old = 0 → Completes (.janitorScrub st h k .clean) s (fun u =>
    u.fld F.tutorJanitorSectorsCount st = (s.fld F.tutorJanitorSectorsCount st + 1) % 2 ^ 64 ∧ u.mem = s.mem ∧ u.poison = s.poison
      ∧ (let pos (x : State) : Nat := Tab.get 0 (if h = true then (x.tutor st).janitorHbm else (x.tutor st).janitorBond) k; pos u = pos s + 1))) ∧
  (∀ (st : StackId) (k : Fin 256) (s : State), s.caretakersStop st = false →
    let a := channelAddr (256 * st.val + k.val) (Tab.get 0 (s.tutor st).janitorHbm k % channelSectors)
    (s.heldSector a) = (false, false) → Completes (.janitorScrub st true k .uncorrectable) s (fun u => u.poisoned a = true ∧ u.mem = s.mem)) ∧
  (∀ (n : SliceId) (x : Bool) (g : Fin 36) (l : Fin 32) (s : State), s.outOfService (n.val / 256) = false → (s.slice n).failed = false → (s.slice n).bondRepairs = [] →
    (s.slice n).bondSpares.any (fun y => y.1 == x && y.2.1 == g.val) = false → Completes (.bondLaneRepair n x g l) s (fun u =>
      u.slice n = { s.slice n with bondRepairs := [(x, g.val, l.val)] } ∧ u.mem = s.mem ∧ u.regs = s.regs)) ∧
  (∀ (n : SliceId) (x : Bool × Nat × Nat) (s : State), s.outOfService (n.val / 256) = false → (s.slice n).failed = false → (s.slice n).bondRepairs = [x] →
    (s.slice n).bondSpares.any (fun y => y.1 == x.1 && y.2.1 == x.2.1) = false → Completes (.bondRepairComplete n) s (fun u =>
      u.slice n = { s.slice n with bondRepairs := [], bondSpares := (s.slice n).bondSpares ++ [x] } ∧ u.mem = s.mem)) ∧
  (∀ (st : StackId) (s : State), s.caretakersStop st = false → s.fld F.tutorQuizCtrlEnable st ≠ 0 →
    (s.slice (256 * st.val + s.fld F.tutorQuizStatusNextSlice st)).bondRepairs = [] → Completes (.quizVisit st) s (fun u =>
      (u.tutor st).quizActive = true ∧ u.fld F.tutorQuizStatusPaused st = 0 ∧ u.mem = s.mem)) ∧
  (∀ (st : StackId) (s : State), s.caretakersStop st = false → (s.tutor st).quizActive = true → Completes (.quizVisitEnd st []) s (fun u =>
    (u.tutor st).quizActive = false ∧ u.fld F.tutorQuizStatusNextSlice st = (s.fld F.tutorQuizStatusNextSlice st + 1) % 256 ∧ u.mem = s.mem)) ∧
  (∀ (n : SliceId) (s : State), (s.slice n).failed = false → (s.slice n).waitQ = [] → Completes (.sliceFailure n) s (fun u => (u.slice n).failed = true ∧ (u.slice n).lines = []
    ∧ u.cacheWays n = 0 ∧ (u.slice n).hold = (s.slice n).hold ∧ u.mem = s.mem)) ∧
  (∀ (n : SliceId) (row : Nat) (s : State), (s.slice n).rowRepair = none → (s.slice n).rowsUsed < 32 → s.outOfService (n.val / 256) = false →
    let recent := (s.slice n).rowHits.filter (fun x => x.1 = row ∧ s.now < x.2 + 24 * 3600 * 10 ^ 9)
    (2 ≤ recent.length → Completes (.arrayRowRepair n row) s (fun u => u.slice n = { s.slice n with rowRepair := some row, rowsUsed := (s.slice n).rowsUsed + 1, rowHits := (s.slice n).rowHits.filter (fun x => x.1 != row) }
      ∧ u.fld F.tutorArrayRepairsCount (n.val / 256) = (s.fld F.tutorArrayRepairsCount (n.val / 256) + 1) % 2 ^ 32 ∧ u.mem = s.mem)) ∧
    (recent.length < 2 → exec (.arrayRowRepair n row) s = .next s)) ∧
  (∀ (n : SliceId) (s : State), Completes (.arrayRowRepairComplete n) s (fun u => u.slice n = { s.slice n with rowRepair := none } ∧ u.mem = s.mem)))

/-- Corridor frames are sent by urgency, resent, forwarded and counted; the bypass moves; STOP, Roll calls, epochs and common time arrive and act. (R326, R327, R328, R329, R330, R331, R333, R334, R335, R336) -/
def Obligations.CorridorFramesAndTime : Prop :=
  (∀ (s : State) (x : Nat × Bool × Frame), s.corridor.bypassOpen = true → nextFrame s.corridor.txq = some x → Completes .corridorFrameTransmit s (fun u =>
    u.outbox = s.outbox ++ [.frame (frameSealed x.2.2)] ∧ u.corridor = { s.corridor with txq := s.corridor.txq.erase x }
      ∧ u.fld F.corridorFramesTxCount = (s.fld F.corridorFramesTxCount + 1) % 2 ^ 64 ∧ u.mem = s.mem)) ∧
  (∀ (l : List (Nat × Bool × Frame)) (x : Nat × Bool × Frame), nextFrame l = some x → x ∈ l ∧ ∀ y ∈ l, x.1 ≤ y.1 ∧ (y.1 = x.1 → y.2.1 = true → x.2.1 = true)) ∧
  (∀ s : State, s.corridor.bypassOpen = true → (∀ r ∈ s.corridor.resends, r.tries < 100) → Completes .corridorResendTimer s (fun u =>
    u.corridor.resends = s.corridor.resends.map (fun (r : Resend) => { r with tries := r.tries + 1 })
      ∧ u.corridor.txq = s.corridor.txq ++ s.corridor.resends.map (fun (r : Resend) => (frameClass r.frame.type.toNat, false, r.frame)) ∧ u.mem = s.mem)) ∧
  (∀ (o : Bool) (s : State), s.corridor.moving = some o → Completes .bypassMoved s (fun u => u.corridor = { s.corridor with moving := none, bypassOpen := o }
    ∧ u.fld F.corridorStateRing = (if o = true then 2 else 0) ∧ u.mem = s.mem)) ∧
  (∀ (f : Frame) (crc : BitVec 32) (s : State), s.corridor.bypassOpen = true → frameGood { f with crc := crc } = false → Completes (.corridorFrameReceive f crc) s (fun u => u.corridor = s.corridor ∧ u.mem = s.mem
    ∧ u.fld F.corridorCrcErrorsCount = min (s.fld F.corridorCrcErrorsCount + 1) (2 ^ 32 - 1))) ∧
  (∀ (f : Frame) (crc : BitVec 32) (s : State), s.corridor.bypassOpen = true → frameGood { f with crc := crc } = true → f.type.toNat < 8 → f.type.toNat ≠ 6 → f.bcast = false → f.dest.toNat ≠ s.seat → f.hops.toNat < 32 →
    Completes (.corridorFrameReceive f crc) s (fun u => u.corridor.txq = s.corridor.txq ++ [(frameClass f.type.toNat, true, { f with
        hops := f.hops + 1
        crc := crc })]
      ∧ u.mem = s.mem ∧ u.regs = s.regs)) ∧
  (∀ (job : BitVec 32) (part : Nat) (s : State), s.seatValid = true → s.activation = none → part < 4 → Completes (.stop job) s (fun u =>
    bitOf (u.fld F.corridorStateStopped) part = (bitOf (s.fld F.corridorStateStopped) part || s.stopHits job part))) ∧
  (∀ (seat epoch : BitVec 12) (s : State), s.seatValid = true → Completes (.epoch seat epoch) s (fun u => u.mem = s.mem
    ∧ (∀ x : BitVec 12, x ≠ seat → u.peerEpoch x.toNat = s.peerEpoch x.toNat)
    ∧ match s.peerEpoch seat.toNat with
      | none => u.peerEpoch seat.toNat = some epoch.toNat
      | some e => u.peerEpoch seat.toNat = (if 1 ≤ (epoch.toNat + 4096 - e) % 4096 ∧ (epoch.toNat + 4096 - e) % 4096 ≤ 2047 then some epoch.toNat else some e))) ∧
  (∀ (s : State) (d : BitVec 12) (rest : List (BitVec 12 × Option Nat)), s.corridor.epochQueue = (d, none) :: rest → s.corridor.bypassOpen = true → s.seatValid = true →
    Completes .epochMessageSend s (fun u => u.corridor.epochQueue = rest ∧ u.mem = s.mem ∧ ∃ f : Frame, f.type = 5 ∧ f.bcast = true
      ∧ f.payload.take 4 = toBytes 2 s.seat ++ toBytes 2 s.seatEpoch ∧ u.corridor.txq = s.corridor.txq ++ [(2, false, f)])) ∧
  (∀ (p : Port) (rc : RollCallMsg) (s : State), s.link p = lUP → Completes (.rollCall (some p) rc) s (fun u => u.reg .fabricPartnerSerial p = rc.serial.toNat
    ∧ u.fld F.fabricPartnerSeat p = rc.seat.toNat ∧ u.fld F.fabricRollStateState p = 1 ∧ u.fld F.fabricRollStateMissed p = 0 ∧ u.mem = s.mem
    ∧ ((s.port p).rollPresent = false → u.fld F.fabricRollEventsArrived p = 1)
    ∧ (s.reg .fabricPartnerSerial p = rc.serial.toNat → s.fld F.fabricPartnerSeat p ≠ rc.seat.toNat → u.fld F.fabricRollEventsChanged p = 1))) ∧
  (∀ (p : Port) (s : State), s.link p = lUP → (s.port p).sessionOpen = true → Completes (.rollCallSend (some p)) s (fun u => u.mem = s.mem
    ∧ (u.port p).txq = (s.port p).txq ++ [(0, .control 4 0 (BitVec.ofNat 12 s.seat) (s.rollPayload p) 0 (BitVec.ofNat 12 s.seatEpoch))] ∧ (u.port p).rollSent = true)) ∧
  (∀ (p : Port) (s : State), s.link p = lUP → s.fld F.fabricRollStateMissed p < 3 → s.fld F.powerPstateState (stackOfPort p) ≠ 2 → Completes (.rollCallMissed p) s (fun u =>
    u.fld F.fabricRollStateMissed p = s.fld F.fabricRollStateMissed p + 1 ∧ u.mem = s.mem
      ∧ (s.fld F.fabricRollStateMissed p = 2 → u.fld F.fabricRollStateState p = 2 ∧ u.fld F.fabricRollEventsLeft p = 1))) ∧
  (∀ s : State, s.fld F.corridorCtrlTimeMaster = 1 → s.fld F.corridorStateTimeConflict = 0 → s.corridor.bypassOpen = true → s.seatValid = true →
    Completes .timeFrameSend s (fun u => u.mem = s.mem ∧ u.regs = s.regs ∧ ∃ f : Frame, f.type = 6 ∧ f.bcast = true ∧ f.payload.take 8 = toBytes 8 s.now
      ∧ u.corridor.txq = s.corridor.txq ++ [(2, false, f)])) ∧
  (∀ (m : BitVec 64) (c : BitVec 32) (seat : BitVec 12) (s : State), s.seatValid = true → s.fld F.corridorCtrlTimeMaster = 0 → s.corridor.master = none →
    let t := (m.toNat + c.toNat) % 2 ^ 64
    Completes (.timeFrame m c seat) s (fun u => u.corridor.master = some seat ∧ u.mem = s.mem ∧
      if s.now + 2000 < t then u.now = t ∧ u.corridor.slew = 0 ∧ u.fld F.corridorStateTimeValid = 1
      else u.now = s.now ∧ u.corridor.slew = (t : Int) - (s.now : Int)))

/-- A slice serves reads, writes and reductions of a sector or line that it can take at once, returns fetches, ends write-backs, and pins and unpins lines. (R58, R206, R209, R211, R212, R214, R217, R223) -/
def Obligations.SlicesServeRequests : Prop :=
  (∀ (a : Nat) (cls : Fin 8) (s : State), s.served a = true → NatSet.has (s.slice (homeSlice a)).fetching (a / 32) = false → regionOf a = .scratch → s.sound a = true →
    Completes (.sliceRead a cls) s (fun u => u.mem = s.mem
      ∧ u.outbox = s.outbox ++ [.sliceData (a / 32 * 32) (s.bytes (a / 32 * 32) 32) (s.poisoned a)])) ∧
  (∀ (a : Nat) (data : List Byte) (q : Bool) (cls : Fin 8) (s : State), s.takesNow a = true → data ≠ [] → a / 128 = (a + data.length - 1) / 128 →
    Completes (.sliceWrite a data q cls) s (fun u => u.bytes a data.length = data ∧ ∀ x, (x < a ∨ a + data.length ≤ x) → u.byte x = s.byte x)) ∧
  (∀ (a : Nat) (data : List (BitVec 32)) (cls : Fin 8) (s : State) (j : Nat) (x : BitVec 32), s.takesNow a = true → a % 4 = 0 → a % 32 + 4 * data.length ≤ 32 →
    data[j]? = some x → Completes (.reduceAdd32 a data cls) s (fun u => u.num (a + 4 * j) 4 = (s.num (a + 4 * j) 4 + x.toNat) % 2 ^ 32
      ∧ ∀ y, (y < a ∨ a + 4 * data.length ≤ y) → u.byte y = s.byte y)) ∧
  (∀ (a : Nat) (data : List Word) (cls : Fin 8) (s : State) (j : Nat) (x : Word), s.takesNow a = true → a % 8 = 0 → a % 32 + 8 * data.length ≤ 32 →
    data[j]? = some x → Completes (.reduceAdd64 a data cls) s (fun u => u.num (a + 8 * j) 8 = (s.num (a + 8 * j) 8 + x.toNat) % 2 ^ 64
      ∧ ∀ y, (y < a ∨ a + 8 * data.length ≤ y) → u.byte y = s.byte y)) ∧
  (∀ (a : Nat) (data : List (BitVec 32)) (cls : Fin 8) (s : State) (j : Nat) (x : BitVec 32), s.takesNow a = true → a % 8 = 0 → a % 32 + 8 * data.length ≤ 32 →
    data[j]? = some x → Completes (.reduceAdd32to64 a data cls) s (fun u => u.num (a + 8 * j) 8 = unsigned 64 ((s.num (a + 8 * j) 8 : Int) + x.toInt)
      ∧ ∀ y, (y < a ∨ a + 8 * data.length ≤ y) → u.byte y = s.byte y)) ∧
  (∀ (a : Nat) (r : BitVec 256) (s : State), s.takesNow a = true → a % 32 = 0 → Completes (.reduceStats a r) s (fun u =>
    u.num a 32 = ((Stats.decode (s.num a 32)).combine (Stats.decode r.toNat)).encode % 2 ^ 256 ∧ ∀ y, (y < a ∨ a + 32 ≤ y) → u.byte y = s.byte y)) ∧
  (∀ (a : Nat) (found : ScrubFinding) (s : State), NatSet.has (s.slice (homeSlice a)).fetching (a / 32) = true → Completes (.sectorFetchReturn a found) s (fun u =>
    NatSet.has (u.slice (homeSlice a)).fetching (a / 32) = false ∧ u.mem = s.mem ∧ (found = .uncorrectable → (s.slice (homeSlice a)).holds a = false → u.poisoned a = true)
      ∧ s.outbox <+: u.outbox ∧ (u.slice (homeSlice a)).reads = (s.slice (homeSlice a)).reads.filter (fun r => r.sector != a / 32)
      ∧ ((s.slice (homeSlice a)).reads.filter (fun r => r.sector == a / 32)).map (fun r =>
          Out.sliceData (32 * (a / 32)) r.data (r.poison || decide (2 < Tab.get 0 s.hbmErr (a / 32) + hbmSymbols found))) <:+ u.outbox
      ∧ (found = .clean → Tab.get 0 s.hbmErr (a / 32) = 0 → u.poison = s.poison))) ∧
  (∀ (n : SliceId) (line : Nat) (s : State) (h : HoldEntry), (s.slice n).findHold line = some h → h.again = 0 → (s.slice n).waitQ = [] → Completes (.holdWritebackComplete n line) s (fun u =>
    (u.slice n).findHold line = none ∧ u.mem = s.mem ∧ (u.slice n).lines = (s.slice n).lines)) ∧
  (∀ (n : SliceId) (s : State) (c : PinCmd) (rest : List PinCmd) (l : CacheLine),
    let a := pinAddr n c.line
    (s.slice n).pinQ = c :: rest → c.unpin = false → regionOf a = .hbm → homeSlice a = n → (s.slice n).find (a / 128) = some l → l.pinned = false →
    (s.slice n).pinnedIn (setOf a) < s.fld F.sliceConfigPinCap n → (s.slice n).findHold (a / 128) = none →
    Completes (.pin n) s (fun u => (u.slice n).find (a / 128) = some { l with valid := 15, pinned := true } ∧ (u.slice n).pinQ = rest
      ∧ u.fld F.slicePinStatusLastResult n = 0 ∧ u.mem = s.mem)) ∧
  (∀ (n : SliceId) (s : State) (c : PinCmd) (rest : List PinCmd) (l : CacheLine),
    let a := pinAddr n c.line
    (s.slice n).pinQ = c :: rest → c.unpin = true → regionOf a = .hbm → homeSlice a = n → (s.slice n).find (a / 128) = some l → l.pinned = true →
    Completes (.unpin n) s (fun u => (u.slice n).find (a / 128) = some { l with pinned := false } ∧ (u.slice n).pinQ = rest
      ∧ u.fld F.slicePinStatusLastResult n = 0 ∧ u.mem = s.mem))

/-- An access that is not naturally aligned, or to a reserved offset, is discarded, reads 0, records an access error, and leaves RC fields alone. (R8, R24) -/
def Obligations.AccessesRefused : Prop :=
  (∀ off size : Nat, aligned off size = true ↔ (size = 4 ∨ size = 8) ∧ off % size = 0) ∧
  (∀ (who : Requester) (off size : Nat) (value : Word) (s : State), s.pathOpen who = true → aligned off size = false →
    exec (.registerWrite who off size value) s = .next (s.accessError who off)
      ∧ exec (.registerReadRefused who off size) s = .next ((s.accessError who off).emit (.readData who 0))) ∧
  (∀ (who : Requester) (off : Nat) (value : Word) (s : State), s.pathOpen who = true → off % 4 = 0 → placeAt off = none →
    (∃ t : State, t = { s with halves := t.halves } ∧ exec (.registerWrite who off 4 value) s = .next (t.accessError who off))
      ∧ exec (.registerReadRefused who off 4) s = .next ((s.accessError who off).emit (.readData who 0))) ∧
  (∀ (who : Requester) (off : Nat) (value : Word) (s : State), s.pathOpen who = true → off % 8 = 0 → placeAt off = none → placeAt (off + 4) = none →
    (∃ t : State, t = { s with halves := t.halves } ∧ exec (.registerWrite who off 8 value) s = .next ((t.accessError who off).accessError who (off + 4)))
      ∧ exec (.registerReadRefused who off 8) s = .next (((s.accessError who off).accessError who (off + 4)).emit (.readData who 0))) ∧
  (∀ (who : Requester) (off : Nat) (s : State),
    let u := s.accessError who off
    u.mem = s.mem ∧ u.cores = s.cores ∧ u.fld F.proctorErrlogClassCount 0 2 = min (s.fld F.proctorErrlogClassCount 0 2 + 1) (2 ^ 32 - 1)
      ∧ ∀ (n : RegName) (i j : Nat), placeAt (n.addr i j) = some ⟨n, i, j, 0⟩ →
        n ∉ [RegName.proctorErrlog, .proctorErrlogTail, .proctorErrlogClass, .proctorErrlogOverwritten, .proctorEvent, .proctorEventTail, .hostMsixPba] →
        u.reg n i j = s.reg n i j)

/-- A write that changes the seat or the epoch while SEAT_VALID is 1 is refused; clearing SEAT_VALID, writing, and setting it are accepted. (R337) -/
def Obligations.SeatWrites : Prop :=
  ∀ (who : Requester) (value : BitVec 32) (s : State),
    let v := value.toNat
    s.reachesReg who .fabricSeat 0 0 v = true → Completes (.seatWrite who value) s (fun u => u.mem = s.mem ∧
      if s.seatValid = true ∧ (bits v 0 12 ≠ s.seat ∨ bits v 16 12 ≠ s.seatEpoch) then u.reg .fabricSeat = s.reg .fabricSeat
        ∧ u = (s.dropHalf who).accessError who (RegName.fabricSeat.addr 0 0)
      else u.reg .fabricSeat = bits v 0 13 + bits v 16 12 * 2 ^ 16)

/-- RESUME of a PARKED queue returns it to ACTIVE with PARK_CAUSE 0 and fetches on from SQ_HEAD; after an invalid doorbell it parks again. (R360) -/
def Obligations.QueueResume : Prop :=
  ∀ (who : Requester) (q : QueueId) (s : State), s.reachesReg who .queueCtrl 0 q 2 = true → s.ringState (.queue q) = qPARKED →
    (s.queue q).fetching = false → (s.queue q).fresh = none →
    let head := s.reg .queueSqHead 0 q
    Completes (.queueResume who q) s (fun u => u.mem = s.mem ∧ u.reg .queueSqHead 0 q = head ∧
      if s.homeServes q = true ∧ (s.queue q).badBell = true then u.ringState (.queue q) = qPARKED ∧ u.fld F.queueStateParkCause 0 q = 2
      else u.ringState (.queue q) = qACTIVE ∧ u.fld F.queueStateParkCause 0 q = 0 ∧
        (if s.homeServes q = false ∨ head = (s.queue q).doorbell.toNat then (u.queue q).fetching = false ∧ u.outbox = s.outbox
         else (u.queue q).fetching = true ∧ (s.portOpen (s.ringPort (.queue q)) = true →
           u.outbox = s.outbox ++ [.fetch q head (s.reg .queueSqBase 0 q + head % 2 ^ s.fld F.queueSizesSqLog2 0 q * 512) 1])))

/-- Doorbells fetch, heads move, queues and step rings are enabled and detached, and one host port is primary. (R344, R358, R359, R364, R365, R368, R369) -/
def Obligations.QueueRegisterWrites : Prop :=
  (∀ (who : Requester) (q : QueueId) (t : BitVec 32) (s : State), s.reachesReg who .queueDoorbell 0 q t.toNat = true → t ≠ (s.queue q).doorbell →
    (s.queue q).fetching = false → (s.queue q).fresh = none →
    let head := s.reg .queueSqHead 0 q
    let bad := s.pastRing q t.toNat head || s.pastRing q t.toNat (s.queue q).doorbell.toNat
    (bad = false → s.ringState (.queue q) = qACTIVE → s.homeServes q = true → head ≠ t.toNat → s.portOpen (s.ringPort (.queue q)) = true →
      Completes (.doorbell who q t) s (fun u => (u.queue q).doorbell = t ∧ (u.queue q).fetching = true ∧ u.mem = s.mem
        ∧ u.outbox = s.outbox ++ [.fetch q head (s.reg .queueSqBase 0 q + head % 2 ^ s.fld F.queueSizesSqLog2 0 q * 512) 1])) ∧
    (bad = true → s.ringState (.queue q) = qACTIVE → s.homeServes q = true → Completes (.doorbell who q t) s (fun u =>
      u.ringState (.queue q) = qPARKED ∧ u.fld F.queueStateParkCause 0 q = 2 ∧ (u.queue q).doorbell = (s.queue q).doorbell ∧ u.mem = s.mem)) ∧
    (s.ringState (.queue q) ≠ qACTIVE ∨ s.homeServes q = false → Completes (.doorbell who q t) s (fun u =>
      u.queue q = (if bad = true then { s.queue q with badBell := true } else { s.queue q with doorbell := t, badBell := false })
        ∧ u.outbox = s.outbox ∧ u.ringState (.queue q) = s.ringState (.queue q) ∧ u.mem = s.mem))) ∧
  (∀ (who : Requester) (q : QueueId) (i : BitVec 32) (s : State), s.reachesReg who .queueCqHead 0 q i.toNat = true →
    idxDiff i.toNat (s.ringHead (.queue q)) ≤ idxDiff (s.ringTail (.queue q)) (s.ringHead (.queue q)) → Completes (.cqHeadWrite who q i) s (fun u =>
      u.reg .queueCqHead 0 q = i.toNat ∧ u.reg .queueCqTail 0 q = s.reg .queueCqTail 0 q ∧ u.mem = s.mem)) ∧
  (∀ (who : Requester) (p : Fin 4) (i : BitVec 32) (s : State), s.reachesReg who .queueStepHead 0 p i.toNat = true →
    idxDiff i.toNat (s.ringHead (.step p)) ≤ idxDiff (s.ringTail (.step p)) (s.ringHead (.step p)) → Completes (.stepHeadWrite who p i) s (fun u =>
      u.reg .queueStepHead 0 p = i.toNat ∧ u.mem = s.mem)) ∧
  (∀ (who : Requester) (q : QueueId) (s : State), s.reachesReg who .queueCtrl 0 q 1 = true → s.fld F.queueConfigValid 0 q = 1 →
    (s.ringState (.queue q) = qDISABLED ∨ s.ringState (.queue q) = qDETACHED) → s.ringsValid q = true → Completes (.queueEnable who q) s (fun u =>
      u.ringState (.queue q) = qACTIVE ∧ u.reg .queueSqHead 0 q = 0 ∧ u.reg .queueCqTail 0 q = 0 ∧ u.reg .queueCqHead 0 q = 0
        ∧ (u.queue q).doorbell = 0 ∧ (u.queue q).fetching = false ∧ u.mem = s.mem)) ∧
  (∀ (who : Requester) (q : QueueId) (s : State), s.reachesReg who .queueCtrl 0 q 4 = true → (s.ringState (.queue q) = qACTIVE ∨ s.ringState (.queue q) = qPARKED) →
    (∀ l ∈ s.lessons, l.queue = q → l.stopOnDetach = false) → Completes (.queueDetach who q) s (fun u =>
      u.ringState (.queue q) = qDETACHED ∧ u.fld F.queueGenerationCount 0 q = (s.fld F.queueGenerationCount 0 q + 1) % 2 ^ 16 ∧ u.reg .queueOutstanding 0 q = 0
        ∧ (u.queue q).copies = [] ∧ (u.queue q).fetching = false ∧ (∀ h ∈ u.holdRing, h.ring ≠ .queue q) ∧ u.lessons = s.lessons ∧ u.mem = s.mem)) ∧
  (∀ (who : Requester) (p : Fin 4) (s : State), s.reachesReg who .queueStepCtrl 0 p 1 = true → s.fld F.queueStepConfigValid 0 p = 1 → s.ringState (.step p) ≠ qACTIVE →
    s.stepValid p = true → Completes (.stepRingEnable who p) s (fun u => u.ringState (.step p) = qACTIVE ∧ u.reg .queueStepTail 0 p = 0
      ∧ u.reg .queueStepHead 0 p = 0 ∧ u.mem = s.mem)) ∧
  (∀ (who : Requester) (p : Fin 4) (s : State), s.reachesReg who .queueStepCtrl 0 p 2 = true → s.ringState (.step p) = qACTIVE → Completes (.stepRingDetach who p) s (fun u =>
    u.ringState (.step p) = qDETACHED ∧ (∀ h ∈ u.holdRing, h.ring ≠ .step p) ∧ u.mem = s.mem)) ∧
  (∀ (who : Requester) (h : HostPort) (s : State), s.reachesReg who .hostCtrl h 0 1 = true → Completes (.primaryWrite who h) s (fun u =>
    u.fld F.hostCtrlPrimary h = 1 ∧ u.fld F.hostCtrlPrimary (1 - h.val) = 0 ∧ u.mem = s.mem))

/-- Fabric, Corridor, power, rule and Diary-index writes do what their chapters say; a plain write goes by access codes and halves; RC fields clear when read. (R6, R9, R10, R26, R277, R330, R331, R392, R395, R404, R482, R486) -/
def Obligations.ModuleRegisterWrites : Prop :=
  (∀ (who : Requester) (p : Port) (s : State), s.reachesReg who .fabricCtrl p 0 1 = true → s.fld F.fabricCtrlEnable p = 0 → Completes (.portEnable who p) s (fun u =>
    u.fld F.fabricCtrlEnable p = 1 ∧ u.link p = lTRAINING ∧ u.port p = FPort.init ∧ u.mem = s.mem)) ∧
  (∀ (who : Requester) (p : Port) (s : State), s.reachesReg who .fabricCtrl p 0 0 = true → s.heldReqs = [] → (s.port p).tids = [] →
    Completes (.portDisable who p) s (fun u => u.fld F.fabricCtrlEnable p = 0 ∧ u.link p = lDISABLED ∧ u.mem = s.mem)) ∧
  (∀ (who : Requester) (s : State), s.reachesReg who .corridorCtrl 0 0 (1 + s.fld F.corridorCtrlTimeMaster * 2) = true → s.fld F.corridorCtrlJoin = 0 →
    s.corridor.bypassOpen = false → s.corridor.moving = none → Completes (.corridorJoin who) s (fun u => u.fld F.corridorCtrlJoin = 1 ∧ u.fld F.corridorStateRing = 1
      ∧ u.corridor.moving = some true ∧ u.fld F.corridorCtrlTimeMaster = s.fld F.corridorCtrlTimeMaster ∧ u.mem = s.mem)) ∧
  (∀ (who : Requester) (job : BitVec 32) (s : State), s.reachesReg who .corridorStopSend 0 0 job.toNat = true → s.corridor.bypassOpen = true → s.seatValid = true →
    Completes (.stopSend who job) s (fun u => u.mem = s.mem ∧ ∃ f : Frame, f.type = 2 ∧ f.bcast = true ∧ f.payload.take 4 = toBytes 4 job.toNat
      ∧ u.corridor.txq = s.corridor.txq ++ [(0, false, f)])) ∧
  (∀ (who : Requester) (parts : BitVec 4) (s : State), s.reachesReg who .corridorStopClear 0 0 parts.toNat = true → Completes (.stopClear who parts) s (fun u =>
    u.fld F.corridorStateStopped = s.fld F.corridorStateStopped &&& (15 - parts.toNat) ∧ u.mem = s.mem)) ∧
  (∀ (who : Requester) (set : BitVec 4) (ms : BitVec 14) (s : State),
    let l := stackList set.toNat
    s.reachesReg who .powerPstateCmd 0 0 (1 + set.toNat * 2 ^ 4 + ms.toNat * 2 ^ 16) = true → 1 ≤ ms.toNat → ms.toNat ≤ 10000 → s.splitsPartition l = false →
    s.powerCmd = none → s.activation = none → (∀ st ∈ l, s.pstate st = pACTIVE ∧ s.inReset st = false) → Completes (.recess who set ms) s (fun u =>
      (∀ st ∈ l, u.pstate st = pENTERING) ∧ u.fld F.powerPstateResultResult = rPENDING ∧ u.mem = s.mem)) ∧
  (∀ (who : Requester) (set : BitVec 4) (s : State),
    let l := stackList set.toNat
    s.reachesReg who .powerPstateCmd 0 0 (2 + set.toNat * 2 ^ 4) = true → s.splitsPartition l = false → s.powerCmd = none →
    (∀ st ∈ l, s.pstate st = pRECESS ∧ s.inReset st = false) → Completes (.wake who set) s (fun u =>
      (∀ st ∈ l, u.pstate st = pWAKING) ∧ u.fld F.powerPstateResultResult = rPENDING ∧ u.mem = s.mem)) ∧
  (∀ (who : Requester) (w : BitVec 13) (s : State), s.reachesReg who .powerCap 0 0 w.toNat = true → 1 ≤ w.toNat → w.toNat ≤ 5800 → Completes (.capWrite who w) s (fun u =>
    u.fld F.powerCapRequestedW = w.toNat ∧ u.fld F.powerCapEffectiveW = max w.toNat (s.fld F.powerFloorW)
      ∧ (w.toNat < s.fld F.powerFloorW → u.fld F.powerCapBelowFloor = 1) ∧ u.mem = s.mem)) ∧
  (∀ (who : Requester) (st : StackId) (n : BitVec 7) (s : State), s.reachesReg who .powerHostLimit st 0 n.toNat = true → Completes (.hostLimitWrite who st n) s (fun u =>
    u.fld F.powerHostLimitRate st = (if 1 ≤ n.toNat ∧ n.toNat ≤ 64 then n.toNat else s.fld F.powerHostLimitRate st) ∧ u.mem = s.mem)) ∧
  (∀ (who : Requester) (st : StackId) (k : Fin 44) (s : State), s.reachesReg who .thermalSensor st k (2 ^ 25) = true → Completes (.suspectClear who st k) s (fun u =>
    u.fld F.thermalSensorSuspect st k = 0 ∧ Tab.get 0 (u.loop st).diffCount k = 0 ∧ u.mem = s.mem)) ∧
  (∀ (who : Requester) (st : StackId) (n : BitVec 32) (s : State), s.reachesReg who .tutorRuleStep st 0 n.toNat = true → s.ruleStepOk st n.toNat = true →
    Completes (.ruleStep who st n) s (fun u => ∀ k ∈ s.sameImage st, u.fld F.tutorRuleStatusBusy k = 1 ∧ u.reg .tutorRuleLastStep k = n.toNat)) ∧
  (∀ (who : Requester) (s : State), s.reachesReg who .secFwSvnCommit 0 0 1 = true → s.fld F.secFwSvnMin < s.fld F.secFwSvnCurrent → Completes (.fwSvnCommit who) s (fun u =>
    u.fld F.secFwSvnMin = s.fld F.secFwSvnCurrent ∧ u.mem = s.mem)) ∧
  (∀ (who : Requester) (x : Bool) (n : BitVec 32) (s : State), s.reachesReg who (if x then .diarySealIndex else .diaryEntryIndex) 0 0 n.toNat = true →
    Completes (.diaryIndexWrite who x n) s (fun u => u.diaryIndex who x = n.toNat ∧ u.mem = s.mem)) ∧
  (∀ (who : Requester) (h : HostPort) (v : Word) (s : State), s.reachesReg who .hostLinkHold h 0 v.toNat = true → v.toNat < 65536 →
    Completes (.registerWrite who (RegName.hostLinkHold.addr h 0) 4 v) s (fun u => u.mem = s.mem
      ∧ u.fld F.hostLinkHoldMs h = (if 1 ≤ v.toNat ∧ v.toNat ≤ 60000 then v.toNat else s.fld F.hostLinkHoldMs h))) ∧
  (∀ (who : Requester) (n : RegName) (i j : Nat) (v : Word) (s : State),
    let p : Place := ⟨n, i, j, 0⟩
    let size := if p.wide then 8 else 4
    let x := if p.wide then v.toNat else v.toNat % 2 ^ 32
    n.isPlain = true → n.desc.width ≤ 64 → placeAt p.addr = some p → aligned p.addr size = true → s.reachesReg who n i j x = true →
    Completes (.registerWrite who p.addr size v) s (fun u => u.mem = s.mem
      ∧ (∀ f ∈ n.desc.fields, bits (u.reg n i j) f.lo f.width
          = fieldWritten f.access f.width (bits (s.reg n i j) f.lo f.width) (bits x f.lo f.width) (s.fieldTakes n f.lo (bits x f.lo f.width)))
      ∧ (∀ (m : RegName) (a b : Nat), placeAt (m.addr a b) = some ⟨m, a, b, 0⟩ → m.isLog = false → (m, a, b) ≠ (n, i, j) → u.reg m a b = s.reg m a b)
      ∧ (s.allTake n x = false → u.fld F.proctorErrlogClassCount 0 2 = min (s.fld F.proctorErrlogClassCount 0 2 + 1) (2 ^ 32 - 1))
      ∧ (s.allTake n x = true → s.diaryWants who p x = false → u.proctor.diaryQ = s.proctor.diaryQ)
      ∧ (s.allTake n x = true → s.diaryWants who p x = true → s.proctor.diaryQ.length < 64 → u.proctor.diaryQ = s.proctor.diaryQ ++
          [⟨BitVec.ofNat 64 s.now, BitVec.ofNat 8 (requesterCode who), 1, BitVec.ofNat 64 p.addr, BitVec.ofNat 64 (u.valueAfter who p)⟩]))) ∧
  (∀ (who : Requester) (n : RegName) (i j : Nat) (v : Word) (s : State),
    let p : Place := ⟨n, i, j, 0⟩
    p.wide = true → placeAt p.addr = some p → aligned p.addr 4 = true → s.reachesReg who n i j (v.toNat % 2 ^ 32) = true →
    Completes (.registerWrite who p.addr 4 v) s (fun u => u.heldHalf who p.addr = some (v.toNat % 2 ^ 32) ∧ u.regs = s.regs ∧ u.mem = s.mem ∧ u.proctor = s.proctor)) ∧
  (∀ (who : Requester) (n : RegName) (i j : Nat) (v : Word) (s : State),
    let p : Place := ⟨n, i, j, 0⟩
    let hi := v.toNat % 2 ^ 32 * 2 ^ 32
    p.wide = true → placeAt p.addr = some p → placeAt (p.addr + 4) = some ⟨n, i, j, 1⟩ → aligned p.addr 8 = true → s.reachesReg who n i j (v.toNat % 2 ^ 32) = true →
    s.fld F.proctorErrlogClassCount 0 2 < 2 ^ 32 - 1 →
    (∀ l u, s.heldHalf who p.addr = some l → l < 2 ^ 32 → exec (.registerWrite who p.addr 8 (BitVec.ofNat 64 (l + hi))) s = .next u →
      u.fld F.proctorErrlogClassCount 0 2 = s.fld F.proctorErrlogClassCount 0 2 → exec (.registerWrite who (p.addr + 4) 4 v) s = .next u) ∧
    (∀ u, s.dropHalf who = s → s.heldHalf who p.addr = none →
      exec (.registerWrite who p.addr 8 (BitVec.ofNat 64 ((if n.desc.writable.elem .rw then s.reg n i j % 2 ^ 32 else 0) + hi))) s = .next u →
      u.fld F.proctorErrlogClassCount 0 2 = s.fld F.proctorErrlogClassCount 0 2 → exec (.registerWrite who (p.addr + 4) 4 v) s = .next u)) ∧
  (∀ (who : Requester) (n : RegName) (i j : Nat) (s : State),
    let p : Place := ⟨n, i, j, 0⟩
    n.desc.width = 32 → placeAt p.addr = some p → aligned p.addr 4 = true → s.pathOpen who = true → s.readable who p = true →
    Completes (.rcFieldRead who p.addr 4) s (fun u => u.mem = s.mem
      ∧ (∀ f ∈ n.desc.fields, bits (u.reg n i j) f.lo f.width = bits (if f.access = .rc then n.desc.reset else s.reg n i j) f.lo f.width)
      ∧ (∀ (m : RegName) (a b : Nat), placeAt (m.addr a b) = some ⟨m, a, b, 0⟩ → (m, a, b) ≠ (n, i, j) → u.reg m a b = s.reg m a b)
      ∧ ∃ x, u.outbox = s.outbox ++ [.readData who (BitVec.ofNat 64 x)]
        ∧ ∀ f ∈ n.desc.fields, f.access = .rc → bits x f.lo f.width = bits (s.reg n i j) f.lo f.width))

/-- A scan opens a step or ends it on a bad entry; buffers and packets reach their instance; packets leave for the next rank; an instance ends with its word. (R237, R308, R315, R316, R317, R321, R322, R323, R324) -/
def Obligations.CollectivesRun : Prop :=
  (∀ (st : StackId) (s : State) (k : Nat),
    let t := (s.markerReads st [(s.reg .psdTable st, 64 * s.reg .psdEntries st)]).1
    let l := t.scanPsd st
    let v := ((t.markerReads st (t.hpRuns st l)).1).countPsd st l
    s.noWaits = true → s.stepState st = mSCANNING → (List.range (s.reg .psdEntries st)).find? (v.entryFails st) = some k → (s.marker st).chunkWait = [] → (s.marker st).qWait = [] →
    k < 2 ^ 24 → Completes (.armScanComplete st) s (fun u => u.stepState st = mIDLE ∧ u.reg .markerArmStatus st = 2 + k * 2 ^ 8 ∧ u.mem = s.mem
      ∧ (u.marker st).slips = (s.marker st).slips ∧ (u.marker st).stages = (s.marker st).stages)) ∧
  (∀ (st : StackId) (s : State),
    let t := (s.markerReads st [(s.reg .psdTable st, 64 * s.reg .psdEntries st)]).1
    let l := t.scanPsd st
    let v := ((t.markerReads st (t.hpRuns st l)).1).countPsd st l
    s.noWaits = true → s.stepState st = mSCANNING → (∀ k, k < s.reg .psdEntries st → v.entryFails st k = false) →
    ((l.filter Psd.slow).map (fun p => p.dm1 + 3)).sum ≤ s.fld F.markerSlipPagesPages st →
    (s.marker st).chunkWait = [] → (s.marker st).qWait = [] → s.fld F.assemblyNormExpect st ≠ 0 → Completes (.armScanComplete st) s (fun u =>
      u.stepState st = mOPEN ∧ u.reg .markerOpenStep st = s.reg .markerArm st % 2 ^ 32 ∧ (u.marker st).scan = l ∧ u.mem = s.mem)) ∧
  (∀ (c : CoreId) (d : Fin 64) (s v : State) (g : Stage) (m : Nat) (rest : List Nat) (ok : Bool),
    let s0 := s.takeReleases c
    let sd := g.stream d
    let y := (s0.core c).dyn d
    (s0.core c).stage = some g → g.loading = false → sd.valid = true → sd.dir = dirOut → sd.target = 2 → (y.state = 1 ∨ y.state = 2) → y.outPend = m :: rest →
    m < y.runStart + y.count → s0.handBuffer (stackOfCore c) c g sd y.base m (m - y.runStart) = some (v, ok) →
    Completes (.assemblyBufferAccept c d) s (fun u =>
      let w := (v.setCore c ((v.core c).setDyn d ({ y with started := m + 1, outPend := rest }.complete m))).wakeStreams c
      u = if ok = true then w.markLesson (clusterOfCore c) (fun l => { l with handedAssembly := true }) else w)) ∧
  (∀ (i : Instr) (kind : PktKind) (st : StackId) (m : CollPkt) (s v w : State) (c : Coll),
    let step := m.step.setWidth 32
    let t := s.countHallway st m.dstStack m.data.length
    (i = .reduce (.loop st) m ∧ kind = .reduce ∨ i = .norm (.loop st) m ∧ kind = .norm ∨ i = .data (.loop st) m ∧ kind = .data) →
    s.offline m.dstStack = false → s.hallwayDown st m.dstStack = false → s.coll m.dstStack m.coll.toNat = some c → c.uses kind = true → m.offset.toNat < c.ranges →
    (kind = .norm → m.dlen = 5) → t.beginInst m.dstStack m.coll.toNat c step false = (v, .ok) →
    (if kind = .reduce then v.checkE m.dstStack m.coll.toNat step (signed 10 m.e.toNat) else (v, true)) = (w, true) →
    Completes i s (fun u => u = (w.takePacket m.dstStack m.coll.toNat c kind m step).completeTid m.tid.toNat 0)) ∧
  (∀ (i : Instr) (st : StackId) (m : CollPkt) (s : State),
    let t := s.countHallway st m.dstStack m.data.length
    (i = .reduce (.loop st) m ∨ i = .norm (.loop st) m ∨ i = .data (.loop st) m) → Completes i s (fun u =>
      (s.offline m.dstStack = true → u = t.completeTid m.tid.toNat 0xA) ∧
      (s.offline m.dstStack = false → s.hallwayDown st m.dstStack = true → u = s.completeTid m.tid.toNat 6) ∧
      (s.offline m.dstStack = false → s.hallwayDown st m.dstStack = false → s.coll m.dstStack m.coll.toNat = none →
        let f := t.each ((s.assembly m.dstStack).insts.filter (fun i => i.coll == m.coll.toNat && i.step.setWidth 16 == m.step))
          (fun s i => s.failInstance m.dstStack m.coll.toNat i.step fCHECK)
        u = (f.bumpSat F.assemblyRefusedCount m.dstStack 0 1).completeTid m.tid.toNat 8))) ∧
  (∀ (st : StackId) (k : BitVec 10) (rng tid e : Nat) (p : Port) (s : State) (c : Coll) (i : Instance') (x : Nat × PktKind × Bool) (rest : List (Nat × PktKind × Bool)),
    let d := s.member c x.1
    let q := s.packetData st c i rng x.2.1
    let m := q.1.makePacket c i k.toNat rng tid x.2.1 d.1 d.2 q.2.1 q.2.2
    s.noWaits = true → s.coll st k.toNat = some c →
    (s.assembly st).insts.find? (fun i => i.coll == k.toNat && i.failed.isNone && !i.complete && !(i.unsent c rng).isEmpty) = some i →
    s.freeTid st = some tid → i.unsent c rng = x :: rest → s.seatValid = true → m.dst.toNat ≠ s.seat →
    (portList c.ports)[m.offset.toNat % (portList c.ports).length]? = some p.val → s.coverEntry (s.partOf st) m.dst.toNat (fun e => bitOf e 1) = some e →
    bitOf (winPorts e) p = true → s.link p = lUP → s.hallwayDown st (stackOfPort p) = false → Completes (.collectivePacketSend st k rng) s (fun u =>
      (u.port p).txq = (s.port p).txq ++ [(3, .packet x.2.1 m)] ∧ u.trackers.length = s.trackers.length + 1 ∧ u.mem = s.mem
        ∧ u.fld F.assemblyPacketsSentCount st = (s.fld F.assemblyPacketsSentCount st + 1) % 2 ^ 64)) ∧
  (∀ (st : StackId) (k : BitVec 10) (s : State) (c : Coll) (i : Instance') (f : BitVec 4), s.noWaits = true → s.coll st k.toNat = some c → c.kind ≠ kNE →
    (s.assembly st).insts.find? (fun i => i.coll == k.toNat && !i.complete && (i.failed.isSome || i.finished c)) = some i → i.failed = some f →
    s.hallwayDown st (addrStack c.doneAddr) = false → s.hallwayDown st (addrStack (c.half i.step)) = false → (s.assembly st).packetWait = [] → (s.assembly st).normWait = [] →
    c.doneAddr % 8 = 0 → s.discards c.doneAddr = false → (∀ j, j < c.ranges * 256 → s.discards (c.half i.step + j) = false) →
    (c.doneAddr + 8 ≤ c.half i.step ∨ c.half i.step + c.ranges * 256 ≤ c.doneAddr) →
    Completes (.collectiveInstanceComplete st k) s (fun u => u.num c.doneAddr 8 = i.step.toNat % 2 ^ 16 + f.toNat * 2 ^ 16
      ∧ (∀ j, j < c.ranges * 256 → u.byte (c.half i.step + j) = 0)
      ∧ (∀ a, (a < c.doneAddr ∨ c.doneAddr + 8 ≤ a) → (a < c.half i.step ∨ c.half i.step + c.ranges * 256 ≤ a) → u.byte a = s.byte a)
      ∧ ∀ j ∈ (u.assembly st).insts, j.inHalf k.toNat i.step = true → j.complete = true))

/-- Recess and wake go through their states; the cap, coolant, rail, droop and thermal loops set their limits; sensors turn suspect; cluster clocks start and stop. (R396, R397, R400, R401, R406, R408, R409, R410, R413, R414, R416, R419) -/
def Obligations.PowerStatesAndLimits : Prop :=
  (∀ (s : State) (c : PowerCmd), s.powerCmd = some c → c.waking = false → c.quiesced = false → s.recessReady (stackList c.stackSet.toNat) = true → s.activation = none →
    Completes .recessQuiesceReached s (fun u => u = { s with powerCmd := some { c with quiesced := true } })) ∧
  (∀ (s : State) (c : PowerCmd), s.powerCmd = some c → c.waking = false → c.quiesced = false → (∀ st ∈ stackList c.stackSet.toNat, s.pstate st = pENTERING) →
    Completes .recessQuiesceTimeout s (fun u => u.powerCmd = none ∧ (∀ st ∈ stackList c.stackSet.toNat, u.pstate st = pACTIVE)
      ∧ (∀ st ∈ stackList c.stackSet.toNat, u.fld F.powerPstateWakeHeld st = 0)
      ∧ u.fld F.powerPstateResultResult = rNOT_QUIESCENT ∧ u.mem = s.mem)) ∧
  (∀ (s : State) (c : PowerCmd), s.powerCmd = some c → c.waking = false → c.quiesced = true → (∀ st : StackId, s.fld F.powerPstateWakeHeld st = 0) →
    Completes .recessGated s (fun u => u.powerCmd = none ∧ (∀ st ∈ stackList c.stackSet.toNat, u.pstate st = (if s.pstate st = pFAULT then pFAULT else pRECESS)) ∧ u.fld F.powerPstateResultResult = rDONE)) ∧
  (∀ (failed : BitVec 4) (k : Nat) (s : State) (c : PowerCmd), s.powerCmd = some c → c.waking = true → Completes (.wakeComplete failed k) s (fun u =>
    u.powerCmd = none ∧ u.reg .powerNCap = 1 ∧ ∀ st ∈ stackList c.stackSet.toNat, u.pstate st = (if failed.getLsbD st = true then pFAULT else pACTIVE))) ∧
  (∀ (p : Nat) (s : State),
    let t := min (s.fld F.powerCapEffectiveW) (s.fld F.thermalCoolantLimitW)
    let n := s.fld F.powerNCapN
    Completes (.capLoopTick p) s (fun u => u.mem = s.mem ∧ u.reg .powerNCap =
      (if t < p then max 1 (n - (p - t + 63) / 64) else if p + 40 < t then min 64 (n + 1) else n))) ∧
  (∀ (supply ret : Int) (flow : Nat) (s : State), Completes (.coolantLimitTick supply ret flow) s (fun u => u.mem = s.mem ∧
    u.reg .thermalCoolantLimit = (min 5800 ((967 * (flow : Int) - 1500 * max 0 (supply - 450)) / 100)).toNat)) ∧
  (∀ s : State, s.fld F.thermalFlowTrip = 0 → (1000 ≤ s.coolTicks ∨ 1000 ≤ s.warmTicks) → Completes .coolantTrip s (fun u => u.fld F.thermalFlowTrip = 1 ∧ u.fld F.thermalFlowTripped = 1
    ∧ u.coolTicks = 0 ∧ u.warmTicks = 0 ∧ u.mem = s.mem)) ∧
  (∀ s : State, s.fld F.thermalFlowTrip ≠ 0 → 10000 ≤ s.coolTicks → Completes .coolantTripEnd s (fun u => u.fld F.thermalFlowTrip = 0 ∧ u.coolTicks = 0 ∧ u.mem = s.mem)) ∧
  (∀ (st : StackId) (a : Nat) (s : State), Completes (.railSample st a) s (fun u => u.mem = s.mem ∧
    if 1800 < a then (u.loop st).nRail = max 1 ((s.loop st).nRail - 8) ∧ (u.loop st).railLow = 0
    else if a < 1710 ∧ 9 ≤ (s.loop st).railLow then (u.loop st).nRail = min 64 ((s.loop st).nRail + 1) ∧ (u.loop st).railLow = 0
    else (u.loop st).nRail = (s.loop st).nRail ∧ (u.loop st).railLow = (if a < 1710 then (s.loop st).railLow + 1 else 0))) ∧
  (∀ (cl : ClusterId) (s : State), (s.cluster cl).droop = false → Completes (.droopDetect cl) s (fun u => u.cluster cl = { s.cluster cl with droop := true }
    ∧ (u.loop (stackOfCluster cl)).cutSeen = true ∧ u.fld F.powerDroopEventsCount (stackOfCluster cl) = min (s.fld F.powerDroopEventsCount (stackOfCluster cl) + 1) (2 ^ 32 - 1) ∧ u.mem = s.mem)) ∧
  (∀ (cl : ClusterId) (s : State), Completes (.droopEnd cl) s (fun u => u.cluster cl = { s.cluster cl with droop := false } ∧ u.mem = s.mem)) ∧
  (∀ (st : StackId) (readings : List (Option Int)) (power : List Nat) (s : State), s.pstate st < pRECESS →
    let prev := if (s.loop st).prevGov.isEmpty then readings.map (fun r => r.getD 0) else (s.loop st).prevGov
    let g := (s.samples st prev power ((readings.take 44).zipIdx.map (fun (x : Option Int × Nat) => (x.2, x.1)))).2
    Completes (.thermalLoopTick st readings power) s (fun u => (u.loop st).prevGov = g
      ∧ (u.loop st).nTh = (groupStep g false (s.loop st).nTh (s.loop st).trippedTh).1 ∧ (u.loop st).nHbm = (groupStep g true (s.loop st).nHbm (s.loop st).trippedHbm).1)) ∧
  (∀ (g : List Int) (hbm tripped : Bool) (n : Nat),
    ((∃ k ∈ groupSensors hbm, (thresholds k).2.2.1 ≤ g.getD k 0) → (groupStep g hbm n tripped).1 = 1) ∧
    ((∀ k ∈ groupSensors hbm, g.getD k 0 < (thresholds k).2.1) → (∀ k ∈ groupSensors hbm, (thresholds k).2.1 ≤ (thresholds k).1) → (groupStep g hbm n tripped).1 = min 64 (n + 1))) ∧
  (∀ (st : StackId) (k : Fin 44) (s : State), (10 ≤ Tab.get 0 (s.loop st).diffCount k ∨ s.fld F.thermalSensorValid st k = 0) → s.fld F.thermalSensorSuspect st k = 0 →
    Completes (.sensorSuspect st k) s (fun u => u.fld F.thermalSensorSuspect st k = 1 ∧ u.fld F.thermalStatusSuspect st = 1 ∧ u.mem = s.mem)) ∧
  (∀ (st : StackId) (k : Fin 8) (s : State), s.pstate st = pACTIVE → Completes .reportCardTick s (fun u => u.mem = s.mem ∧
    u.fld F.powerReportUs st k = (if (if k = 5 then (s.loop st).cutSeen || s.cut st else bitOf (s.fld F.powerRateBinding st) k) = true then (s.fld F.powerReportUs st k + 1) % 2 ^ 64 else s.fld F.powerReportUs st k))) ∧
  (∀ (cl : ClusterId) (s : State), (s.cluster cl).pll = .off → (s.cluster cl).wanted = true → s.outOfService (stackOfCluster cl) = false →
    Completes (.clusterPllStart cl) s (fun u => u.cluster cl = { s.cluster cl with pll := .locking } ∧ u.mem = s.mem)) ∧
  (∀ (cl : ClusterId) (s : State), (s.cluster cl).pll = .locking → Completes (.clusterPllLocked cl) s (fun u =>
    u.cluster cl = { s.cluster cl with pll := .on } ∧ u.fld F.clusterStateClockOn cl = 1 ∧ u.mem = s.mem)) ∧
  (∀ (cl : ClusterId) (s : State), (s.cluster cl).pll = .on → (s.cluster cl).wanted = false → Completes (.clusterPllStop cl) s (fun u =>
    u.cluster cl = { s.cluster cl with pll := .off } ∧ u.fld F.clusterStateClockOn cl = 0 ∧ u.mem = s.mem))

/-- Resets by register and after fatal errors take effect and end, power comes and goes, and start-up reaches DONE. (R405, R426, R446, R447, R448, R449, R452, R454, R459, R493) -/
def Obligations.ResetsAndStartup : Prop :=
  ((∀ (who : Requester) (s : State), s.reachesReg who .proctorResetCmd 0 0 (1 + 0xA55A * 2 ^ 16) = true → s.inModuleReset 1 = false →
    Completes (.moduleCold who 0xA55A) s (fun u => u.mem = [] ∧ u.cores = [] ∧ u.queues = [] ∧ u.lessons = [] ∧ u.hostMem = s.hostMem
      ∧ u.fld F.proctorResetStatusLastDomain = 1 ∧ u.resets.length = 1)) ∧
  (∀ (who : Requester) (s : State), s.reachesReg who .proctorResetCmd 0 0 (2 + 0xA55A * 2 ^ 16) = true → s.inModuleReset 2 = false →
    Completes (.moduleWarm who 0xA55A) s (fun u => u.mem = [] ∧ u.cores = [] ∧ u.queues = [] ∧ u.lessons = []
      ∧ u.fld F.proctorResetStatusLastDomain = 2 ∧ u.fld F.proctorResetStatusWarm = 1 ∧ u.resets.length = 1)) ∧
  (∀ (who : Requester) (part : BitVec 2) (s : State),
    let v := 3 + part.toNat * 2 ^ 8
    s.reachesReg who .proctorResetCmd 0 0 v = true → s.resetOk v = true → s.resets = [] →
    (∀ st ∈ s.resetStacks v, s.stepState (Fin.ofNat 4 st) ≠ mCOMMITTING ∧ s.applying st = false) →
    Completes (.partition who part) s (fun u => u.fld F.proctorResetStatusLastDomain = 3 ∧ u.fld F.proctorResetStatusLastCause = (causeOf who).val)) ∧
  (∀ (who : Requester) (set : BitVec 4) (s : State),
    let v := 4 + set.toNat * 2 ^ 4
    s.reachesReg who .proctorResetCmd 0 0 v = true → s.resetOk v = true → s.resets = [] →
    (∀ st ∈ s.resetStacks v, s.stepState (Fin.ofNat 4 st) ≠ mCOMMITTING ∧ s.applying st = false) →
    Completes (.stack who set) s (fun u => u.fld F.proctorResetStatusLastDomain = 4 ∧ u.fld F.proctorResetStatusLastCause = (causeOf who).val)) ∧
  (∀ (who : Requester) (set : BitVec 4) (s : State),
    let v := 5 + set.toNat * 2 ^ 4
    s.reachesReg who .proctorResetCmd 0 0 v = true → s.resetOk v = true → s.resets = [] →
    (∀ st ∈ s.resetStacks v, s.stepState (Fin.ofNat 4 st) ≠ mCOMMITTING ∧ s.applying st = false) →
    Completes (.baseDie who set) s (fun u => u.fld F.proctorResetStatusLastDomain = 5 ∧ u.fld F.proctorResetStatusLastCause = (causeOf who).val)) ∧
  (∀ (who : Requester) (set : BitVec 4) (st : StackId) (s : State),
    let v := 4 + set.toNat * 2 ^ 4
    s.reachesReg who .proctorResetCmd 0 0 v = true → s.resetOk v = true → s.resets = [] → st.val ∈ s.resetStacks v → s.stepState st = mCOMMITTING →
    Completes (.stack who set) s (fun u => u.resets = [⟨4, set, causeOf who, 0, false, 0, false, 0⟩] ∧ u.mem = s.mem ∧ u.cores = s.cores))) ∧
  ((∀ (n : SliceId) (set : Nat) (way : Fin 16) (s : State), s.resets = [] → s.stepState (Fin.ofNat 4 (n.val / 256)) = mCOMMITTING → Completes (.tagUe n set way) s (fun u =>
    u.resets = [⟨4, BitVec.ofNat 4 (2 ^ (n.val / 256)), 3, 0, false, 0, false, 0⟩]
      ∧ ∀ l ∈ (u.slice n).lines, (s.slice n).lines.find? (fun l => l.set == set && l.way == way) ≠ some l)) ∧
  (∀ (st : StackId) (m : Bool) (s : State), s.resets = [] → s.stepState st ≠ mCOMMITTING → s.applying st = false → Completes (.tutorUe st m) s (fun u =>
    u.fld F.proctorResetStatusLastDomain = 4 ∧ u.fld F.proctorResetStatusLastCause = 3)) ∧
  (∀ s : State, s.inModuleReset 1 = false → Completes .proctorFault s (fun u => u.mem = [] ∧ u.cores = [] ∧ u.lessons = []
    ∧ u.fld F.proctorResetStatusLastDomain = 1 ∧ u.fld F.proctorResetStatusLastCause = 4)) ∧
  (∀ (s : State) (r : ResetReq), s.resets = [r] → r.active = false → s.resetDeferred r = false → Completes .resetTakesEffect s (fun u =>
    u.fld F.proctorResetStatusLastDomain = r.domain.val ∧ u.fld F.proctorResetStatusLastCause = r.cause.val)) ∧
  (∀ (reads writes : List Nat) (s : State) (r : ResetReq), s.resets = [r] → r.active = true → r.domain.val = domBASE → r.drained = false →
    Completes (.bondDrainEnd reads writes) s (fun u => u.resets = [{ r with drained := true }] ∧ u.mem = s.mem
      ∧ ∀ a ∈ writes, bitOf r.stackSet.toNat (addrStack a) = true → u.poisoned a = true)) ∧
  (∀ (s : State) (r : ResetReq), s.resets = [r] → r.active = true → r.domain.val = domWARM → Completes .resetComplete s (fun u =>
    u.resets = [] ∧ u.started = true ∧ u.fld F.proctorResetStatusWarm = 0)) ∧
  (∀ s : State, s.proctor.powered = false → Completes .powerOn s (fun u => u.proctor.powered = true ∧ u.mem = [] ∧ u.cores = [] ∧ u.hostMem = s.hostMem
    ∧ u.fld F.proctorResetStatusLastCause = 0 ∧ u.fld F.proctorStartupPhase = 1)) ∧
  (∀ (failed : List (StackId × Fin 8)) (floorW : BitVec 13) (us : BitVec 32) (s : State), s.proctor.powered = true → s.proctor.recovery = false → s.started = false →
    s.fld F.proctorResetStatusWarm = 0 → Completes (.startupDone failed floorW us) s (fun u => u.started = true ∧ u.reg .proctorStartupTime = us.toNat
      ∧ u.fld F.powerFloorW = floorW.toNat ∧ u.resets = [])) ∧
  (∀ s : State, Completes .inputPowerLoss s (fun u => u.proctor.powered = false ∧ u.mem = [] ∧ u.cores = [] ∧ u.lessons = [] ∧ u.queues = [] ∧ u.hostMem = s.hostMem)))

/-- LOAD keeps an image that passes every check, ACTIVATE takes it through its phases to its end, and a failure leaves no activation. (R386, R387, R388, R389, R390, R392) -/
def Obligations.SyllabusesAreLoadedAndActivated : Prop :=
  (∀ (q : QueueId) (s : State) (t : Taken), s.sylTurn q opLOAD = some t → t.src % 128 ≠ 0 ∨ regionOf t.src ≠ .hbm ∨ s.rangeInRegion (s.fld F.queueConfigPart 0 q) t.src t.len = false → Completes (.syllabusLoad q) s (fun u =>
    u.images = s.images.filter (fun i => i.src != t.src) ∧ u.mem = s.mem)) ∧
  (∀ (q : QueueId) (s : State) (t : Taken) (x y : Nat),
    let part := s.fld F.queueConfigPart 0 q
    let img : Image := ⟨t.src, t.len, 0, 0⟩
    s.sylTurn q opLOAD = some t → t.src % 128 = 0 → regionOf t.src = .hbm → s.rangeInRegion part t.src t.len = true → (s.dropTaken q t).loadStatus img part = (0, x, y) →
    Completes (.syllabusLoad q) s (fun u => u.mem = s.mem ∧ ∃ i : Image, i.src = t.src ∧ i.len = t.len ∧ i ∈ u.images ∧ u.images.length ≤ 4
      ∧ i.digest = (s.dropTaken q t).imDigest img ∧ i.keyId = (s.dropTaken q t).imKey img)) ∧
  (∀ (q : QueueId) (s : State) (t : Taken),
    let part := s.fld F.queueConfigPart 0 q
    s.sylTurn q opLOAD = some t → t.src % 128 = 0 → regionOf t.src = .hbm → s.rangeInRegion part t.src t.len = true →
    ((s.dropTaken q t).loadStatus ⟨t.src, t.len, 0, 0⟩ part).1 ≠ 0 → Completes (.syllabusLoad q) s (fun u =>
      u.images = s.images.filter (fun i => i.src != t.src) ∧ u.mem = s.mem)) ∧
  (∀ (q : QueueId) (s : State) (t : Taken), s.sylTurn q opACTIVATE = some t → s.images.find? (fun i => i.src == t.src && i.len == t.len) = none →
    Completes (.activate q) s (fun u => u.activation = none ∧ u.images = s.images ∧ u.mem = s.mem)) ∧
  (∀ (q : QueueId) (s : State) (t : Taken) (img : Image), s.sylTurn q opACTIVATE = some t → s.images.find? (fun i => i.src == t.src && i.len == t.len) = some img →
    (s.dropTaken q t).scopeOk img = true → Completes (.activate q) s (fun u => u.mem = s.mem
      ∧ u.activation = some ⟨q, t.generation, t.index, t.entry.tag, img, BitVec.ofNat 64 s.now, 0, []⟩)) ∧
  (∀ (s : State) (a : Activation), s.activation = some a → a.phase = 0 → s.activateReady a.image = true → Completes .activateQuiesceReached s (fun u =>
    u.activation = some { a with phase := 1 } ∧ u.mem = s.mem ∧ ∀ st ∈ s.imageStacks a.image, u.fld F.tutorSylStateActivating st = 1)) ∧
  (∀ (s : State) (a : Activation), s.activation = some a → a.phase = 0 → Completes .activateQuiesceTimeout s (fun u => u.activation = none ∧ u.mem = s.mem
    ∧ ∀ st ∈ s.imageStacks a.image, u.fld F.tutorSylStateActivating st = 0)) ∧
  (∀ (s : State) (a : Activation), s.activation = some a → a.phase = 1 → a.stops = [] → Completes .activateDigestChecked s (fun u => u.mem = s.mem ∧
    u.activation = (if s.imDigest a.image = a.image.digest then some { a with phase := 2 } else none))) ∧
  (∀ (s : State) (a : Activation), s.activation = some a → a.phase = 2 → a.stops = [] → Completes .activateApplied s (fun u => u.activation = none
    ∧ ∀ st ∈ s.imageStacks a.image, u.fld F.tutorSylStateActive st = 1)) ∧
  (∀ (st : StackId) (s : State), Completes (.ruleApplyComplete st) s (fun u => u.fld F.tutorRuleStatusBusy st = 0 ∧ u.mem = s.mem))

/-- Key slots are installed and revoked in turn, the responder answers in and outside sessions, and IDE streams start and fail (answer codes: log entry 31). (R466, R467, R468, R470, R471, log entry 31) -/
def Obligations.KeysSessionsAndIde : Prop :=
  (∀ (slot parts : BitVec 4) (s : State) (k : KeyCmd),
    let key := s.reg .secKeyStage
    s.keyTurn = some k → k.op = 1 → k.slot = slot → k.parts = parts → Completes (.keyInstall slot parts) s (fun u => u.mem = s.mem ∧ u.proctor.keyCmds = s.proctor.keyCmds.tail ∧
      if Config.onCurve (BitVec.ofNat 768 key) = true ∧ keyDigest key ∉ s.proctor.revoked
      then u.reg .secKey 0 slot.toNat = 1 + parts.toNat * 2 ^ 4 ∧ u.reg .secKeyPub 0 slot.toNat = key % 2 ^ 768 ∧ u.fld F.secKeyStatusResult = 0
      else u.reg .secKey 0 slot.toNat = s.reg .secKey 0 slot.toNat ∧ u.fld F.secKeyStatusResult = 2)) ∧
  (∀ (slot : BitVec 4) (s : State) (k : KeyCmd), s.keyTurn = some k → k.op = 2 → k.slot = slot → s.fld F.secKeyState 0 slot.toNat = keyACTIVE →
    Completes (.keyRevoke slot) s (fun u => u.fld F.secKeyState 0 slot.toNat = keyREVOKED ∧ keyDigest (s.reg .secKeyPub 0 slot.toNat) ∈ u.proctor.revoked
      ∧ u.images = s.images.filter (fun i => i.keyId != slot.toNat) ∧ u.mem = s.mem)) ∧
  (∀ (c : Nat) (b : List Byte) (s : State), (∀ h : HostPort, s.spdmAnswer (.doe h) c b = s.emit (.spdm (.doe h) c b))
    ∧ s.spdmAnswer .i3c c b = (s.emit .inBandInterrupt).emit (.spdm .i3c c b)
    ∧ (∀ p : Port, s.responds (.link p) = false → s.spdmAnswer (.link p) c b = s)
    ∧ (∀ p : Port, s.responds (.link p) = true → b.length ≤ 228 → SendsLinks s (s.spdmAnswer (.link p) c b) p [.spdm 0 1 ([0x13, BitVec.ofNat 8 c, 0, 0] ++ b)])) ∧
  (∀ (t : Transport) (s : State), s.spdmOpen t = true →
    exec (.getVersion t) s = .next (s.spdmAnswer t 0x04 [0x13]) ∧ exec (.getCapabilities t) s = .next (s.spdmAnswer t 0x61 spdmCapabilities)
    ∧ exec (.negotiateAlgorithms t) s = .next (s.spdmAnswer t 0x63 spdmAlgorithms)
    ∧ exec (.getDigests t) s = .next (s.spdmAnswer t 0x01 (toBytes 48 (Config.sha384 s.chain).toNat))
    ∧ exec (.getCertificate t 0) s = .next (s.spdmAnswer t 0x02 s.chain) ∧ (∀ slot : BitVec 8, slot ≠ 0 → exec (.getCertificate t slot) s = .next (s.spdmAnswer t 0x7F []))
    ∧ (∀ nonce : BitVec 256, exec (.challenge t nonce) s = .next (s.spdmAnswer t 0x03 (Config.aliasSign s.firmwareDigests
        (Config.sha384 (toBytes 48 (Config.sha384 s.chain).toNat ++ toBytes 32 nonce.toNat)))))
    ∧ (∀ i : BitVec 8, 1 ≤ i.toNat → i.toNat ≤ 9 → exec (.getMeasurements t i) s = .next (s.spdmAnswer t 0x60 (toBytes 48 (s.measurement i.toNat).toNat)))) ∧
  (∀ (t : Transport) (s : State), s.spdmOpen t = true → ∃ v : State, exec (.keyExchange t true) s = .next (v.spdmAnswer t 0x64 []) ∧ v.spdmSession t = some ⟨t, false⟩
    ∧ v.regs = s.regs ∧ v.mem = s.mem ∧ v.ports = s.ports ∧ v.outbox = s.outbox) ∧
  (∀ (t : Transport) (s : State), s.spdmOpen t = true → s.spdmSession t = some ⟨t, false⟩ → Completes (.finish t true) s (fun u => u.secured t = true ∧ u.mem = s.mem
    ∧ (∀ p : Port, t = .link p → (s.port p).session = .required → (u.port p).session = .up ∧ u.fld F.fabricStateEncrypted p = 1 ∧ (u.port p).txCounter = 0
        ∧ (u.port p).rxCounter = 0))) ∧
  (∀ (t : Transport) (s : State), s.spdmOpen t = true → s.secured t = true → Completes (.keyUpdate t) s (fun u => u.secured t = true ∧ u.regs = s.regs ∧ u.mem = s.mem
    ∧ ∀ p : Port, t = .link p → (u.port p).rxNext = true ∧ (u.port p).rxCounter = (s.port p).rxCounter ∧ (u.port p).rxSlot = (s.port p).rxSlot)) ∧
  (∀ (t : Transport) (s : State), s.spdmOpen t = true → s.secured t = true → exec (.heartbeat t) s = .next (s.spdmAnswer t 0x68 [])) ∧
  (∀ (t : Transport) (s : State), s.spdmOpen t = true → s.secured t = true → Completes (.endSession t) s (fun u => u.secured t = false ∧ u.mem = s.mem
    ∧ ∀ p : Port, t = .link p → (u.port p).session = .required ∧ u.fld F.fabricStateEncrypted p = 0)) ∧
  (∀ (p : Port) (i n : Nat) (b : List Byte) (s : State), s.spdmOpen (.link p) = true → i < n → b.length ≤ 232 → (s.port p).spdmParts = [] → 2 ≤ n →
    Completes (.spdm p i n b) s (fun u => (u.port p).spdmParts = [(i, b)] ∧ u.regs = s.regs)) ∧
  (∀ (h : HostPort) (k : Bool) (s : State), s.hostLink h = hUP → s.secured (.doe h) = true → s.fld F.hostStatusIde h = 0 → s.fld F.secPolicyHostIde = 0 →
    Completes (.kSetGo h k) s (fun u => u.fld F.hostStatusIde h = 1 ∧ (u.hport h).keySets = [k] ∧ u.mem = s.mem)) ∧
  (∀ (h : HostPort) (s : State), s.fld F.hostStatusIde h = 1 → Completes (.ideIntegrityFailure h) s (fun u => u.fld F.hostStatusIde h = 0
    ∧ (u.hport h).keySets = [] ∧ u.mem = s.mem))

/-- The management port answers, updates firmware and resends events; Diary entries, batches and seals are written (completion codes: log entry 32). (R461, R476, R477, R478, R479, R480, R481, R483, R484, R485, log entry 32) -/
def Obligations.ManagementAndDiary : Prop :=
  (∀ (a : BitVec 7) (s : State), s.proctor.powered = true → Completes (.entdaa a) s (fun u => u.fld F.proctorI3cDynAddr = a.toNat ∧ u.mem = s.mem
    ∧ u.outbox = s.outbox ++ [.provisionalId (BitVec.ofNat 48 (s.reg .proctorSerial))])) ∧
  (∀ (e : Byte) (s : State), s.i3cUp = true → Completes (.setEndpointId e) s (fun u => u.fld F.proctorI3cEid = e.toNat ∧ u.mem = s.mem)) ∧
  (∀ (x : Bool) (off size : Nat) (s : State), s.i3cUp = true → s.proctor.recovery = false →
    let r := s.readReg .i3c off size
    exec (.regRead x off size) s = .next (if r.2.2 = true then r.1.pldm 0 (toBytes size r.2.1) else r.1.pldm 2 [])) ∧
  (∀ (x : Bool) (off size : Nat) (v : Word) (s : State), s.i3cUp = true → s.proctor.recovery = false →
    let r := s.writeReg .i3c off size v.toNat
    exec (.regWrite x off size v) s = .next (if s.insecure x = true then s.pldm 5 [] else if r.2 = true then r.1.pldm 0 [] else r.1.pldm 2 [])) ∧
  (∀ (id : BitVec 16) (s : State), s.i3cUp = true → s.proctor.recovery = false → exec (.getSensorReading id) s
    = .next (match s.sensor id.toNat with | some v => s.pldm 0 (toBytes 8 v) | none => s.pldm 2 [])) ∧
  (∀ (x : Bool) (st : StackId) (v : BitVec 32) (s : State), s.i3cUp = true → s.proctor.recovery = false → s.insecure x = false → 1 ≤ v.toNat → v.toNat ≤ 64 →
    s.writable .i3c ⟨.powerHostLimit, st.val, 0, 0⟩ v.toNat = true → Completes (.setNumericEffecterValue x (BitVec.ofNat 16 (0x204 + st.val)) v) s (fun u =>
      u.fld F.powerHostLimitRate st = v.toNat ∧ u.outbox = s.outbox ++ [.inBandInterrupt, .pldm 0 []] ∧ u.mem = s.mem)) ∧
  (∀ (e : Byte) (s : State), s.i3cUp = true → s.proctor.recovery = false → Completes (.setEventReceiver e) s (fun u =>
    u.fld F.proctorI3cReceiver = 1 ∧ u.proctor.receiver = e ∧ u.outbox = s.outbox ++ [.inBandInterrupt, .pldm 0 []])) ∧
  (∀ s : State, s.i3cUp = true → exec .queryDeviceIdentifiers s = .next (s.pldm 0 (toBytes 4 (s.reg .proctorDeviceId) ++ [1, 0]))) ∧
  (∀ (x : Bool) (b : List Byte) (s : State), s.i3cUp = true → s.insecure x = false → b.length ≤ 1024 → s.proctor.update = none →
    Completes (.requestFirmwareData x b) s (fun u => u.proctor.update = some ⟨b, false, false, x⟩ ∧ u.regs = s.regs ∧ u.outbox = s.outbox ++ [.inBandInterrupt, .pldm 0 []])) ∧
  (∀ (s : State) (w : FwUpdate), s.i3cUp = true → s.proctor.update = some w → s.insecure w.secured = false → Completes .verifyComplete s (fun u => u.regs = s.regs
    ∧ u.proctor.update = some { w with verified := s.bundleOk w.bytes })) ∧
  (∀ (s : State) (w : FwUpdate), s.i3cUp = true → s.proctor.update = some w → s.insecure w.secured = false → w.verified = true → w.bytes ≠ [] → Completes .applyComplete s (fun u =>
    u.proctor.update = some { w with applied := true } ∧ Tab.get [] u.proctor.banks s.updateBank = w.bytes ∧ u.bankState s.updateBank = 0)) ∧
  (∀ (x : Bool) (s : State) (w : FwUpdate), s.i3cUp = true → s.insecure x = false → s.proctor.update = some w → w.applied = true → s.proctor.recovery = false →
    Completes (.activateFirmware x) s (fun u => u.proctor.update = none ∧ u.fld F.proctorBootPending = 1 ∧ u.outbox = s.outbox ++ [.inBandInterrupt, .pldm 0x8C []])) ∧
  (∀ (s : State) (w : FwUpdate), s.i3cUp = true → s.proctor.update = some w → s.insecure w.secured = false → Completes .firmwareUpdateCancel s (fun u => u.proctor.update = none
    ∧ u.bankState s.updateBank = 1 ∧ u.mem = s.mem)) ∧
  (∀ (s : State) (w : FwUpdate), s.i3cUp = true → s.proctor.update = some w → s.insecure w.secured = true →
    ∀ i ∈ [Instr.verifyComplete, .applyComplete, .firmwareUpdateCancel], exec i s = .next (s.pldm 5 [])) ∧
  (∀ s : State, Completes .pldmEventResend s (fun u => u.regs = s.regs ∧ u.mem = s.mem ∧
      match s.proctor.eventsToSend.filter (fun m => !Config.eventAcknowledged m.event m.resent) with
      | [] => u.proctor.eventsToSend = [] ∧ u.outbox = s.outbox
      | m :: rest =>
        let e := s.reg .proctorEvent 0 (m.event % 256)
        (s.now < m.sentAt + 1000000000 → u.proctor.eventsToSend = m :: rest ∧ u.outbox = s.outbox) ∧
        (m.sentAt + 1000000000 ≤ s.now → m.resent < 3 → u.proctor.eventsToSend = rest ++ [{ m with resent := m.resent + 1, sentAt := s.now }]
          ∧ u.outbox = s.outbox ++ [.inBandInterrupt, .platformEvent s.proctor.receiver (toBytes 16 e ++ s.eventData e)]) ∧
        (m.sentAt + 1000000000 ≤ s.now → 3 ≤ m.resent → u.proctor.eventsToSend = rest ∧ u.outbox = s.outbox))) ∧
  (∀ (f : Frame) (s : State), f.bcast = false → s.seatValid = true → f.dest.toNat = s.seat → (f.payload.drop 2).take 1 = [0] → s.corridor.bypassOpen = true →
    Completes (.mgmtFrame f) s (fun u => u.mem = s.mem ∧ ∃ g : Frame, g.type = 7 ∧ g.bcast = false ∧ g.dest = f.origin
      ∧ u.corridor.txq = s.corridor.txq ++ [(3, false, g)])) ∧
  (∀ (s : State) (e : DiaryEntry) (rest : List DiaryEntry), s.proctor.diaryQ = e :: rest → s.proctor.diaryGap = 0 → Completes .diaryEntryWrite s (fun u =>
    u.proctor.diaryQ = rest ∧ u.reg .diaryTail = (s.reg .diaryTail + 1) % 2 ^ 32 ∧ Tab.get [] u.proctor.diary (s.reg .diaryTail % 65536) = e.bytes (s.reg .diaryTail))) ∧
  (∀ s : State, s.proctor.batchCount ≠ 0 → Completes .diaryBatchClose s (fun u => u.proctor.batchCount = 0
    ∧ u.proctor.closed = s.proctor.closed ++ [(s.proctor.batchFirst, s.proctor.batchCount, BitVec.ofNat 64 s.now)] ∧ u.regs = s.regs)) ∧
  (∀ (s : State) (first count : Nat) (t : BitVec 64) (rest : List (Nat × Nat × BitVec 64)), s.proctor.closed = (first, count, t) :: rest →
    Completes .sealWrite s (fun u => u.proctor.closed = rest ∧ u.reg .diarySealTail = (s.reg .diarySealTail + 1) % 2 ^ 32
      ∧ ∃ b, Tab.get [] u.proctor.seals (s.reg .diarySealTail % 4096) = b ∧ b.take 16 = toBytes 4 first ++ toBytes 4 count ++ toBytes 8 t.toNat
        ∧ (b.drop 16).take 48 = toBytes 48 s.proctor.lastDigest.toNat ∧ (b.drop 64).take 48 = toBytes 48 u.proctor.lastDigest.toNat))

/-- Every command of the table completes: exec answers a next state for every operand and in every state, with no fault and no refusal. (log entry 5, log entry 8, 95_what_each_step_holds.md) -/
def Obligations.EveryCommandCompletes : Prop :=
  ∀ (i : Instr) (s : State), ∃ t, exec i s = .next t
end

