-- ==== Sys2Proof/Laws/QueueOps.lean ====
section
/-!
SUPPORT. Frame laws: the shared operations, the records, the tick and the slices leave the queue of waiting commands as it is.
-/
namespace Sys2Proof.Machine
set_option linter.all false

/-! ## Machine/Ops.lean -/

theorem pair_pending {α : Type} {x y : State × α} {p : List Instr} (h : x = y) (h2 : x.1.pending = p) : y.1.pending = p := h ▸ h2
/-- Whatever state an optional result holds has the queue `p`. -/
def Keeps (p : List Instr) (o : Option State) : Prop := ∀ t, o = some t → t.pending = p
@[simp ↓] theorem Keeps.getD (o : Option State) (s : State) (h : Keeps s.pending o) : (o.getD s).pending = s.pending := by
  cases o with
  | none => rfl
  | some t => exact h t rfl
theorem keeps_getD' (o : Option State) (s : State) (p) (h : Keeps p o) (h2 : s.pending = p) : (o.getD s).pending = p := by
  subst h2; exact Keeps.getD o s h
@[simp ↓] theorem keeps_none (p) : Keeps p none := by intro t h; cases h
@[simp ↓] theorem keeps_some (p) (t : State) : Keeps p (some t) ↔ t.pending = p := by simp [Keeps]
@[simp ↓] theorem State.setReg_pending (s : State) (a1) (a2) (a3) (a4) : (State.setReg s a1 a2 a3 a4).pending = s.pending := by simp [State.setReg]
@[simp ↓] theorem State.setFld_pending (s : State) (a1) (a2) (a3) (a4) : (State.setFld s a1 a2 a3 a4).pending = s.pending := by simp [State.setFld]
@[simp ↓] theorem State.bump_pending (s : State) (a1) (a2) (a3) (a4) : (State.bump s a1 a2 a3 a4).pending = s.pending := by simp [State.bump]
@[simp ↓] theorem State.bumpSat_pending (s : State) (a1) (a2) (a3) (a4) : (State.bumpSat s a1 a2 a3 a4).pending = s.pending := by simp [State.bumpSat]
@[simp ↓] theorem State.setCore_pending (s : State) (a1) (a2) : (State.setCore s a1 a2).pending = s.pending := by simp [State.setCore]
@[simp ↓] theorem State.setCluster_pending (s : State) (a1) (a2) : (State.setCluster s a1 a2).pending = s.pending := by simp [State.setCluster]
@[simp ↓] theorem State.setSlice_pending (s : State) (a1) (a2) : (State.setSlice s a1 a2).pending = s.pending := by simp [State.setSlice]
@[simp ↓] theorem State.setBell_pending (s : State) (a1) (a2) : (State.setBell s a1 a2).pending = s.pending := by simp [State.setBell]
@[simp ↓] theorem State.setMarker_pending (s : State) (a1) (a2) : (State.setMarker s a1 a2).pending = s.pending := by simp [State.setMarker]
@[simp ↓] theorem State.setPort_pending (s : State) (a1) (a2) : (State.setPort s a1 a2).pending = s.pending := by simp [State.setPort]
@[simp ↓] theorem State.setAssembly_pending (s : State) (a1) (a2) : (State.setAssembly s a1 a2).pending = s.pending := by simp [State.setAssembly]
@[simp ↓] theorem State.setQueue_pending (s : State) (a1) (a2) : (State.setQueue s a1 a2).pending = s.pending := by simp [State.setQueue]
@[simp ↓] theorem State.setHPort_pending (s : State) (a1) (a2) : (State.setHPort s a1 a2).pending = s.pending := by simp [State.setHPort]
@[simp ↓] theorem State.setTutor_pending (s : State) (a1) (a2) : (State.setTutor s a1 a2).pending = s.pending := by simp [State.setTutor]
@[simp ↓] theorem State.setLoop_pending (s : State) (a1) (a2) : (State.setLoop s a1 a2).pending = s.pending := by simp [State.setLoop]
@[simp ↓] theorem State.emit_pending (s : State) (a1) : (State.emit s a1).pending = s.pending := by simp [State.emit]
@[simp ↓] theorem State.each_pending {α : Type} (s : State) (l : List α) (f : State → α → State)
    (h : ∀ s a, (f s a).pending = s.pending) : (s.each l f).pending = s.pending := by
  unfold State.each; induction l generalizing s with
  | nil => rfl
  | cons a l ih => exact (ih (f s a)).trans (h s a)
@[simp ↓] theorem State.setByte_pending (s : State) (a1) (a2) : (State.setByte s a1 a2).pending = s.pending := by simp [State.setByte]
@[simp ↓] theorem State.setBytes_pending (s : State) (a : Nat) (l : List Byte) : (s.setBytes a l).pending = s.pending := by
  induction l generalizing s a with
  | nil => rfl
  | cons b l ih => exact ih _ _
@[simp ↓] theorem State.setNum_pending (s : State) (a1) (a2) (a3) : (State.setNum s a1 a2 a3).pending = s.pending := by simp [State.setNum]
@[simp ↓] theorem State.setHostBytes_pending (s : State) (a : Nat) (l : List Byte) : (s.setHostBytes a l).pending = s.pending := by
  induction l generalizing s a with
  | nil => rfl
  | cons b l ih => exact ih _ _
@[simp ↓] theorem State.onBar_pending (s : State) (a) (f : State → State) (h : ∀ s, (f s).pending = s.pending) :
    (State.onBar s a f).pending = s.pending := by
  unfold State.onBar; repeat' (first | rfl | (simp [h]; done) | split)
@[simp ↓] theorem State.signalMsix_pending (s : State) (a1) (a2) : (State.signalMsix s a1 a2).pending = s.pending := by
  unfold State.signalMsix; repeat' (first | (simp; done) | split)
@[simp ↓] theorem State.signalEvent_pending (s : State) : (State.signalEvent s).pending = s.pending := by
  unfold State.signalEvent; dsimp only; repeat' (first | (simp; done) | split)
@[simp ↓] theorem State.mctp_pending (s : State) (a1) : (State.mctp s a1).pending = s.pending := by simp [State.mctp]
@[simp ↓] theorem State.event_pending (s : State) (a1) (a2) (a3) (a4) (a5) (a6) (a7) : (State.event s a1 a2 a3 a4 a5 a6 a7).pending = s.pending := by
  unfold State.event; dsimp only; repeat' (first | (simp; done) | split)
@[simp ↓] theorem State.eventOther_pending (s : State) (a1) (a2) (a3) (a4) : (State.eventOther s a1 a2 a3 a4).pending = s.pending := by simp [State.eventOther]
@[simp ↓] theorem State.logError_pending (s : State) (a1) (a2) (a3) (a4) (a5) (a6) : (State.logError s a1 a2 a3 a4 a5 a6).pending = s.pending := by
  unfold State.logError; dsimp only; repeat' (first | (simp; done) | split)
@[simp ↓] theorem State.accessError_pending (s : State) (a1) (a2) : (State.accessError s a1 a2).pending = s.pending := by simp [State.accessError]
@[simp ↓] theorem State.diary_pending (s : State) (a1) (a2) (a3) (a4) : (State.diary s a1 a2 a3 a4).pending = s.pending := by
  unfold State.diary; split <;> simp

/-! ## Machine/Access.lean -/

@[simp ↓] theorem accept_pending (s : State) : (accept s).1.pending = s.pending := by simp [accept]
@[simp ↓] theorem State.refuse_pending (s : State) (a1) (a2) : (State.refuse s a1 a2).1.pending = s.pending := by simp [State.refuse]
@[simp ↓] theorem State.takeOr_pending (s : State) (a1) (a2) (o : Option State) (h : Keeps s.pending o) : (s.takeOr a1 a2 o).1.pending = s.pending := by
  unfold State.takeOr; cases o with
  | none => simp
  | some t => exact h t rfl

/-! ## Machine/Records.lean -/

@[simp ↓] theorem State.setRingTail_pending (s : State) (a1) (a2) : (State.setRingTail s a1 a2).pending = s.pending := by
  unfold State.setRingTail; split <;> simp
@[simp ↓] theorem State.setRingHead_pending (s : State) (a1) (a2) : (State.setRingHead s a1 a2).pending = s.pending := by
  unfold State.setRingHead; split <;> simp
@[simp ↓] theorem State.setHostRing_pending (s : State) (b n o : Nat) (l : List Byte) : (s.setHostRing b n o l).pending = s.pending := by
  induction l generalizing s o with
  | nil => rfl
  | cons x l ih => exact (ih _ _).trans (State.setHostBytes_pending _ _ _)
@[simp ↓] theorem State.writeTailWord_pending (s : State) (a1) : (State.writeTailWord s a1).pending = s.pending := by simp [State.writeTailWord]
@[simp ↓] theorem State.hostEvent_pending (s : State) (a1) (a2) : (State.hostEvent s a1 a2).pending = s.pending := by simp [State.hostEvent]
@[simp ↓] theorem State.noteHoldRing_pending (s : State) : (State.noteHoldRing s).pending = s.pending := by
  unfold State.noteHoldRing; dsimp only; repeat' (first | (simp; done) | split)
@[simp ↓] theorem State.admitRec_pending (s : State) (a1) : (State.admitRec s a1).pending = s.pending := by
  unfold State.admitRec; split <;> simp
@[simp ↓] theorem State.enterRec_pending (s : State) (a1) : (State.enterRec s a1).pending = s.pending := by
  unfold State.enterRec; split <;> simp
@[simp ↓] theorem State.admitWaiting_pending (s : State) (n : Nat) : (s.admitWaiting n).pending = s.pending := by
  induction n generalizing s with
  | zero => rfl
  | succ n ih => unfold State.admitWaiting; repeat' (first | rfl | (simp [ih]; done) | split)
@[simp ↓] theorem State.completeRec_pending (s : State) (a1) (a2) (a3) : (State.completeRec s a1 a2 a3).pending = s.pending := by
  unfold State.completeRec; split <;> simp
@[simp ↓] theorem State.stepDrop_pending (s : State) (a1) (a2) : (State.stepDrop s a1 a2).pending = s.pending := by simp [State.stepDrop]
@[simp ↓] theorem State.stepRec_pending (s : State) (a1) (a2) : (State.stepRec s a1 a2).pending = s.pending := by
  unfold State.stepRec; dsimp only; repeat' (first | (simp; done) | split)
@[simp ↓] theorem State.completeQueue_pending (s : State) (a1) (a2) (a3) (a4) (a5) (a6) (a7) (a8) : (State.completeQueue s a1 a2 a3 a4 a5 a6 a7 a8).pending = s.pending := by simp [State.completeQueue]
@[simp ↓] theorem State.signalRing_pending (s : State) (a1) : (State.signalRing s a1).pending = s.pending := by
  unfold State.signalRing; split <;> simp
@[simp ↓] theorem State.coalesce_pending (s : State) (a1) : (State.coalesce s a1).pending = s.pending := by
  unfold State.coalesce; dsimp only; repeat' (first | (simp; done) | split)
@[simp ↓] theorem completionRecordWrite_pending (s : State) (a1) : (completionRecordWrite s a1).pending = s.pending := by
  unfold completionRecordWrite; dsimp only; repeat' (first | (simp; done) | split)
theorem State.moveHead_some {s : State} {a1} {a2} {t : State} (h : (State.moveHead s a1 a2) = some t) : t.pending = s.pending := by
  revert h; unfold State.moveHead; (try dsimp only); repeat' (first | (intro h; cases h; simp; done) | (intro h; simp at h; done) | split)
@[simp ↓] theorem State.moveHead_keeps (s : State) (a1) (a2) (p) (h : s.pending = p) : Keeps p (State.moveHead s a1 a2) := fun t e => (State.moveHead_some e).trans h
@[simp ↓] theorem State.dropRing_pending (s : State) (a1) : (State.dropRing s a1).pending = s.pending := by simp [State.dropRing]
@[simp ↓] theorem msixCoalesceTimer_pending (s : State) (a1) : (msixCoalesceTimer s a1).pending = s.pending := by
  unfold msixCoalesceTimer; repeat' (first | (simp; done) | split)

/-! ## Machine/Timetable.lean -/

@[simp ↓] theorem State.claim_pending (s : State) (a1) (a2) : (State.claim s a1 a2).pending = s.pending := by
  unfold State.claim; dsimp only; repeat' (first | (simp; done) | split)
@[simp ↓] theorem State.passEnd_pending (s : State) (a1) : (State.passEnd s a1).pending = s.pending := by
  unfold State.passEnd; dsimp only; repeat' (first | (simp; done) | split)
@[simp ↓] theorem State.withdrawEntry_pending (s : State) (a1) : (State.withdrawEntry s a1).pending = s.pending := by
  unfold State.withdrawEntry; split <;> simp
@[simp ↓] theorem State.entryStarts_pending (s : State) (a1) (a2) : (State.entryStarts s a1 a2).pending = s.pending := by
  unfold State.entryStarts; split <;> simp

/-! ## Machine/Slice.lean -/

@[simp ↓] theorem State.noteHold_pending (s : State) (a1) : (State.noteHold s a1).pending = s.pending := by simp [State.noteHold]
@[simp ↓] theorem State.countWriteback_pending (s : State) (a1) (a2) : (State.countWriteback s a1 a2).pending = s.pending := by simp [State.countWriteback]
@[simp ↓] theorem State.leaveSlice_pending (s : State) (a1) (a2) (a3) : (State.leaveSlice s a1 a2 a3).pending = s.pending := by
  unfold State.leaveSlice; (try dsimp only); repeat' (first | with_reducible rfl | (simp; done) | split | (refine (State.each_pending _ _ _ ?_).trans ?_ <;> intros <;> (try dsimp only)) | simp)
@[simp ↓] theorem State.setPoison_pending (s : State) (a1) (a2) : (State.setPoison s a1 a2).pending = s.pending := by simp [State.setPoison]
@[simp ↓] theorem State.hbmReport_pending (s : State) (a1) (a2) : (State.hbmReport s a1 a2).pending = s.pending := by simp [State.hbmReport]
@[simp ↓] theorem State.hbmBad_pending (s : State) (a1) (a2) : (State.hbmBad s a1 a2).pending = s.pending := by simp [State.hbmBad]
@[simp ↓] theorem State.hbmCheck_pending (s : State) (a1) : (State.hbmCheck s a1).pending = s.pending := by
  unfold State.hbmCheck; dsimp only; repeat' (first | (simp; done) | split)
@[simp ↓] theorem State.rowHit_pending (s : State) (a1) (a2) : (State.rowHit s a1 a2).pending = s.pending := by simp [State.rowHit]
@[simp ↓] theorem State.arrayCorrected_pending (s : State) (a1) (a2) : (State.arrayCorrected s a1 a2).pending = s.pending := by
  unfold State.arrayCorrected; split <;> simp
@[simp ↓] theorem State.arrayCheck_pending (s : State) (a1) (a2) : (State.arrayCheck s a1 a2).pending = s.pending := by
  unfold State.arrayCheck; dsimp only; repeat' (first | (simp; done) | split)
@[simp ↓] theorem State.readLine_pending (s : State) (a1) (a2) : (State.readLine s a1 a2).pending = s.pending := by simp [State.readLine]
@[simp ↓] theorem State.replaceHbm_pending (s : State) (a1) (a2) : (State.replaceHbm s a1 a2).pending = s.pending := by
  unfold State.replaceHbm; (try dsimp only); repeat' (first | with_reducible rfl | (simp; done) | split | (refine (State.each_pending _ _ _ ?_).trans ?_ <;> intros <;> (try dsimp only)) | simp)
@[simp ↓] theorem State.freeOldest_pending (s : State) (a1) : (State.freeOldest s a1).pending = s.pending := by
  unfold State.freeOldest; repeat' (first | (simp; done) | split)
theorem State.addHold_some {s : State} {a1} {a2} {a3} {a4} {a5} {t : State} (h : (State.addHold s a1 a2 a3 a4 a5) = some t) : t.pending = s.pending := by
  revert h; unfold State.addHold; (try dsimp only); repeat' (first | (intro h; cases h; simp; done) | (intro h; simp at h; done) | split)
@[simp ↓] theorem State.addHold_keeps (s : State) (a1) (a2) (a3) (a4) (a5) (p) (h : s.pending = p) : Keeps p (State.addHold s a1 a2 a3 a4 a5) := fun t e => (State.addHold_some e).trans h
theorem State.allocate_some {s : State} {a1 a2 a3 a4} {t : State × Option (Fin 16)} (h : s.allocate a1 a2 a3 a4 = some t) : t.1.pending = s.pending := by
  unfold State.allocate at h; dsimp only at h
  split at h
  · injection h with h; subst h; exact State.setSlice_pending _ _ _
  · split at h
    · split at h
      · split at h
        · injection h with h; subst h
          simp only [State.leaveSlice_pending, State.readLine_pending, State.setSlice_pending]
        · simp only [Option.map_eq_some_iff] at h; obtain ⟨u, h, rfl⟩ := h
          have q := State.addHold_some h; simpa only [State.readLine_pending, State.setSlice_pending] using q
      · injection h with h; subst h; rfl
    · injection h with h; subst h; rfl
@[simp ↓] theorem State.countHit_pending (s : State) (a1) (a2) (a3) : (State.countHit s a1 a2 a3).pending = s.pending := by
  unfold State.countHit; split <;> simp
@[simp ↓] theorem State.countFetch_pending (s : State) (a1) : (State.countFetch s a1).pending = s.pending := by simp [State.countFetch]
theorem State.cacheAccess_some {s : State} {a1} {a2} {a3} {a4} {t : State} (h : (State.cacheAccess s a1 a2 a3 a4) = some t) : t.pending = s.pending := by
  revert h; unfold State.cacheAccess; (try dsimp only); repeat' (first | (intro h; cases h; simp; done) | (intro h; simp at h; done) | (intro h; cases h; (try have q0 := State.allocate_some ‹State.allocate _ _ _ _ _ = some _›); (try have q1 := State.addHold_some ‹State.addHold _ _ _ _ _ _ = some _›); simp_all; done) | exact fun h => State.allocate_some h | exact fun h => State.addHold_some h | split)
@[simp ↓] theorem State.cacheAccess_keeps (s : State) (a1) (a2) (a3) (a4) (p) (h : s.pending = p) : Keeps p (State.cacheAccess s a1 a2 a3 a4) := fun t e => (State.cacheAccess_some e).trans h
theorem State.sectorAccess_some {s : State} {a1} {a2} {a3} {a4} {t : State} (h : (State.sectorAccess s a1 a2 a3 a4) = some t) : t.pending = s.pending := by
  revert h; unfold State.sectorAccess; (try dsimp only); repeat' (first | (intro h; cases h; simp; done) | (intro h; simp at h; done) | (intro h; cases h; (try have q0 := State.cacheAccess_some ‹State.cacheAccess _ _ _ _ _ = some _›); simp_all; done) | exact fun h => State.cacheAccess_some h | split)
@[simp ↓] theorem State.sectorAccess_keeps (s : State) (a1) (a2) (a3) (a4) (p) (h : s.pending = p) : Keeps p (State.sectorAccess s a1 a2 a3 a4) := fun t e => (State.sectorAccess_some e).trans h
@[simp ↓] theorem State.recordDiscard_pending (s : State) (a1) : (State.recordDiscard s a1).pending = s.pending := by simp [State.recordDiscard]
theorem State.writePiece_some {s : State} {a1} {a2} {a3} {a4} {a5} {t : State} (h : (State.writePiece s a1 a2 a3 a4 a5) = some t) : t.pending = s.pending := by
  revert h; unfold State.writePiece; (try dsimp only); repeat' (first | (intro h; cases h; simp; done) | (intro h; simp at h; done) | (intro h; cases h; (try have q0 := State.sectorAccess_some ‹State.sectorAccess _ _ _ _ _ = some _›); simp_all; done) | exact fun h => State.sectorAccess_some h | split)
@[simp ↓] theorem State.writePiece_keeps (s : State) (a1) (a2) (a3) (a4) (a5) (p) (h : s.pending = p) : Keeps p (State.writePiece s a1 a2 a3 a4 a5) := fun t e => (State.writePiece_some e).trans h
@[simp ↓] theorem State.applyInts_pending (s : State) (a1) (a2) (a3) (a4) : (State.applyInts s a1 a2 a3 a4).pending = s.pending := by simp [State.applyInts]
@[simp ↓] theorem State.applyStats_pending (s : State) (a1) (a2) : (State.applyStats s a1 a2).pending = s.pending := by simp [State.applyStats]
theorem State.reduceInts_some {s : State} {a1} {a2} {a3} {a4} {a5} {a6} {t : State} (h : (State.reduceInts s a1 a2 a3 a4 a5 a6) = some t) : t.pending = s.pending := by
  revert h; unfold State.reduceInts; (try dsimp only); repeat' (first | (intro h; cases h; simp; done) | (intro h; simp at h; done) | (intro h; cases h; (try have q0 := State.sectorAccess_some ‹State.sectorAccess _ _ _ _ _ = some _›); simp_all; done) | exact fun h => State.sectorAccess_some h | split)
@[simp ↓] theorem State.reduceInts_keeps (s : State) (a1) (a2) (a3) (a4) (a5) (a6) (p) (h : s.pending = p) : Keeps p (State.reduceInts s a1 a2 a3 a4 a5 a6) := fun t e => (State.reduceInts_some e).trans h
theorem State.reduceStats_some {s : State} {a1} {a2} {a3} {a4} {t : State} (h : (State.reduceStats s a1 a2 a3 a4) = some t) : t.pending = s.pending := by
  revert h; unfold State.reduceStats; (try dsimp only); repeat' (first | (intro h; cases h; simp; done) | (intro h; simp at h; done) | (intro h; cases h; (try have q0 := State.sectorAccess_some ‹State.sectorAccess _ _ _ _ _ = some _›); simp_all; done) | exact fun h => State.sectorAccess_some h | split)
@[simp ↓] theorem State.reduceStats_keeps (s : State) (a1) (a2) (a3) (a4) (p) (h : s.pending = p) : Keeps p (State.reduceStats s a1 a2 a3 a4) := fun t e => (State.reduceStats_some e).trans h
theorem foldl_keeps {α : Type} (p : List Instr) (f : State → α → Option State) (h : ∀ s a, s.pending = p → Keeps p (f s a)) (l : List α)
    (o : Option State) (ho : Keeps p o) : Keeps p (l.foldl (fun r a => r.bind (fun s => f s a)) o) := by
  induction l generalizing o with
  | nil => exact ho
  | cons a l ih =>
    refine ih _ ?_
    cases o with
    | none => intro t e; cases e
    | some s => exact h s a (ho s rfl)
@[simp ↓] theorem State.writePieces_keeps (s : State) (a1) (a2) (a3) (a4) (a5) (p) (h : s.pending = p) : Keeps p (s.writePieces a1 a2 a3 a4 a5) :=
  foldl_keeps _ (fun s (pc : Nat × Nat) => s.writePiece a1 pc.1 ((a3.drop (pc.1 - a2)).take pc.2) a4 a5)
    (fun s a h => State.writePiece_keeps _ _ _ _ _ _ _ h) _ _ ((keeps_some _ _).mpr h)
theorem State.writePieces_some {s t : State} {a1} {a2} {a3} {a4} {a5} (h : s.writePieces a1 a2 a3 a4 a5 = some t) : t.pending = s.pending :=
  State.writePieces_keeps _ _ _ _ _ _ _ rfl t h
@[simp ↓] theorem State.answerRead_pending (s : State) (a1) : (State.answerRead s a1).pending = s.pending := by
  unfold State.answerRead; dsimp only; repeat' (first | (simp; done) | split)
theorem State.serveReq_some {s t : State} {a1} (h : s.serveReq a1 = some t) : t.pending = s.pending := by
  revert h; unfold State.serveReq; split
  · intro h; simp only [Option.map_eq_some_iff] at h; obtain ⟨u, h, rfl⟩ := h
    have q := State.sectorAccess_some h; simp [q]
  · exact fun h => State.writePieces_some h
  · exact fun h => State.reduceInts_some h
  · exact fun h => State.reduceStats_some h
@[simp ↓] theorem State.serveReq_keeps (s : State) (a1) (p) (h : s.pending = p) : Keeps p (s.serveReq a1) := fun t e => (State.serveReq_some e).trans h
@[simp ↓] theorem State.takeReq_pending (s : State) (a1) : (State.takeReq s a1).pending = s.pending := by
  unfold State.takeReq; split <;> simp
@[simp ↓] theorem State.retryWaiting_pending (s : State) (a1) : (State.retryWaiting s a1).pending = s.pending := by simp [State.retryWaiting]
@[simp ↓] theorem State.settle_pending (s : State) (a n : Nat) : (s.settle a n).pending = s.pending := by
  induction n generalizing s with
  | zero => rfl
  | succ n ih => unfold State.settle; split <;> simp [ih]
@[simp ↓] theorem State.turn_pending (s : State) (a1) : (State.turn s a1).pending = s.pending := by
  unfold State.turn; (try dsimp only); repeat' (first | with_reducible rfl | (simp; done) | split | (refine (State.each_pending _ _ _ ?_).trans ?_ <;> intros <;> (try dsimp only)) | simp)
@[simp ↓] theorem State.memWrite_pending (s : State) (a1) (a2) (a3) (a4) : (State.memWrite s a1 a2 a3 a4).pending = s.pending := by
  unfold State.memWrite; (try dsimp only); repeat' (first | with_reducible rfl | (simp; done) | ((try have q0 := State.writePiece_some ‹State.writePiece _ _ _ _ _ _ = some _›); simp_all; done) | split | (refine (State.each_pending _ _ _ ?_).trans ?_ <;> intros <;> (try dsimp only)) | simp)
@[simp ↓] theorem State.memTouch_pending (s : State) (a1) (a2) (a3) : (State.memTouch s a1 a2 a3).pending = s.pending := by
  unfold State.memTouch; (try dsimp only); repeat' (first | with_reducible rfl | (simp; done) | ((try have q0 := State.sectorAccess_some ‹State.sectorAccess _ _ _ _ _ = some _›); simp_all; done) | split | (refine (State.each_pending _ _ _ ?_).trans ?_ <;> intros <;> (try dsimp only)) | simp)
@[simp ↓] theorem State.memRead_pending (s : State) (a1) (a2) (a3) : (State.memRead s a1 a2 a3).1.pending = s.pending := by simp [State.memRead]
@[simp ↓] theorem State.memReduce_pending (s : State) (a1) (a2) (a3) (a4) (a5) : (State.memReduce s a1 a2 a3 a4 a5).pending = s.pending := by
  unfold State.memReduce; (try dsimp only); repeat' (first | with_reducible rfl | (simp; done) | ((try have q0 := State.reduceInts_some ‹State.reduceInts _ _ _ _ _ _ _ = some _›); simp_all; done) | split | (refine (State.each_pending _ _ _ ?_).trans ?_ <;> intros <;> (try dsimp only)) | simp)
@[simp ↓] theorem State.memStats_pending (s : State) (a1) (a2) : (State.memStats s a1 a2).pending = s.pending := by simp [State.memStats]
@[simp ↓] theorem State.countHallway_pending (s : State) (a1) (a2) (a3) : (State.countHallway s a1 a2 a3).pending = s.pending := by
  unfold State.countHallway; repeat' (first | (simp; done) | split)
@[simp ↓] theorem State.dropAtLink_pending (s : State) (a1) (a2) : (State.dropAtLink s a1 a2).pending = s.pending := by
  unfold State.dropAtLink; split <;> simp
@[simp ↓] theorem State.readFrom_pending (s : State) (a1) (a2) (a3) (a4) : (State.readFrom s a1 a2 a3 a4).1.pending = s.pending := by
  unfold State.readFrom; split <;> simp
@[simp ↓] theorem State.writeFrom_pending (s : State) (a1) (a2) (a3) (a4) (a5) : (State.writeFrom s a1 a2 a3 a4 a5).pending = s.pending := by
  unfold State.writeFrom; split <;> simp
@[simp ↓] theorem State.reduceFrom_pending (s : State) (a1) (a2) (a3) (a4) (a5) (a6) : (State.reduceFrom s a1 a2 a3 a4 a5 a6).pending = s.pending := by
  unfold State.reduceFrom; split <;> simp
@[simp ↓] theorem State.statsFrom_pending (s : State) (a1) (a2) (a3) : (State.statsFrom s a1 a2 a3).pending = s.pending := by
  unfold State.statsFrom; split <;> simp
@[simp ↓] theorem sliceRead_pending (s : State) (a1) (a2) : (sliceRead s a1 a2).pending = s.pending := by
  unfold sliceRead; (try dsimp only); repeat' (first | with_reducible rfl | (simp; done) | split | (refine (State.each_pending _ _ _ ?_).trans ?_ <;> intros <;> (try dsimp only)) | simp)
@[simp ↓] theorem sliceWrite_pending (s : State) (a1) (a2) (a3) (a4) : (sliceWrite s a1 a2 a3 a4).pending = s.pending := by
  unfold sliceWrite; (try dsimp only); repeat' (first | with_reducible rfl | (simp; done) | split | (refine (State.each_pending _ _ _ ?_).trans ?_ <;> intros <;> (try dsimp only)) | simp)
@[simp ↓] theorem sliceReduce_pending (s : State) (a1) (a2) (a3) (a4) (a5) : (sliceReduce s a1 a2 a3 a4 a5).pending = s.pending := by
  unfold sliceReduce; split <;> simp
@[simp ↓] theorem State.replyReads_pending (s : State) (a1) (a2) (a3) : (State.replyReads s a1 a2 a3).pending = s.pending := by simp [State.replyReads]
@[simp ↓] theorem sectorFetchReturn_pending (s : State) (a1) (a2) : (sectorFetchReturn s a1 a2).pending = s.pending := by
  unfold sectorFetchReturn; dsimp only; repeat' (first | (simp; done) | split)
@[simp ↓] theorem holdWritebackComplete_pending (s : State) (a1) (a2) : (holdWritebackComplete s a1 a2).pending = s.pending := by
  unfold holdWritebackComplete; dsimp only; repeat' (first | (simp; done) | split)
@[simp ↓] theorem State.drainSlice_pending (s : State) (a1) : (State.drainSlice s a1).pending = s.pending := by simp [State.drainSlice]
@[simp ↓] theorem State.loseLine_pending (s : State) (a1) : (State.loseLine s a1).pending = s.pending := by
  unfold State.loseLine; (try dsimp only); repeat' (first | with_reducible rfl | (simp; done) | split | (refine (State.each_pending _ _ _ ?_).trans ?_ <;> intros <;> (try dsimp only)) | simp)
@[simp ↓] theorem State.flushSlice_pending (s : State) (a1) (a2) : (State.flushSlice s a1 a2).pending = s.pending := by
  unfold State.flushSlice; (try dsimp only); repeat' (first | with_reducible rfl | (simp; done) | split | (refine (State.each_pending _ _ _ ?_).trans ?_ <;> intros <;> (try dsimp only)) | simp)
@[simp ↓] theorem State.notePins_pending (s : State) (a1) : (State.notePins s a1).pending = s.pending := by simp [State.notePins]
@[simp ↓] theorem State.fetchRest_pending (s : State) (a1) (a2) : (State.fetchRest s a1 a2).pending = s.pending := by
  unfold State.fetchRest; (try dsimp only); repeat' (first | with_reducible rfl | (simp; done) | split | (refine (State.each_pending _ _ _ ?_).trans ?_ <;> intros <;> (try dsimp only)) | simp)
theorem State.pinInstall_some {s : State} {a1} {a2} {a3} {t : State} (h : (State.pinInstall s a1 a2 a3) = some t) : t.pending = s.pending := by
  revert h; unfold State.pinInstall; (try dsimp only); repeat' (first | (intro h; cases h; simp; done) | (intro h; simp at h; done) | (intro h; cases h; (try have q0 := State.allocate_some ‹State.allocate _ _ _ _ _ = some _›); simp_all; done) | exact fun h => State.allocate_some h | split)
@[simp ↓] theorem State.pinInstall_keeps (s : State) (a1) (a2) (a3) (p) (h : s.pending = p) : Keeps p (State.pinInstall s a1 a2 a3) := fun t e => (State.pinInstall_some e).trans h
@[simp ↓] theorem State.pinDone_pending (s : State) (a1) (a2) : (State.pinDone s a1 a2).pending = s.pending := by simp [State.pinDone]
@[simp ↓] theorem pinServe_pending (s : State) (a1) : (pinServe s a1).pending = s.pending := by
  unfold pinServe; (try dsimp only); repeat' (first | with_reducible rfl | (simp; done) | ((try have q0 := State.pinInstall_some ‹State.pinInstall _ _ _ _ = some _›); simp_all; done) | split | (refine (State.each_pending _ _ _ ?_).trans ?_ <;> intros <;> (try dsimp only)) | simp)
@[simp ↓] theorem unpinServe_pending (s : State) (a1) : (unpinServe s a1).pending = s.pending := by
  unfold unpinServe; dsimp only; repeat' (first | (simp; done) | split)
@[simp ↓] theorem pinCommand_pending (s : State) (a1) (a2) (a3) : (pinCommand s a1 a2 a3).pending = s.pending := by
  unfold pinCommand; dsimp only; repeat' (first | (simp; done) | split)

end Sys2Proof.Machine
end

