-- ==== Sys2Proof/Laws/Tables.lean ====
section
/-!
SUPPORT. Laws of sparse tables and of sets of numbers: what a read gives after a write, for every table, and that every write keeps the canonical form.
-/
namespace Sys2Proof.Machine

/-! ## Tables -/

/-- What is written at a key is read there. -/
@[simp] theorem Tab.get_set_same {V : Type} [DecidableEq V] (d : V) (t : Tab V) (k : Nat) (v : V) :
    Tab.get d (Tab.set d t k v) k = v := by
  have drop : ∀ l : Tab V, Tab.get d (l.dropWhile (fun e => e.1 ≤ k)) k = d := by
    intro l
    induction l with
    | nil => rfl
    | cons e l ih =>
      by_cases h : e.1 ≤ k
      · simpa [List.dropWhile, h] using ih
      · have h1 : k ≠ e.1 := by omega
        have h2 : k < e.1 := by omega
        simp [List.dropWhile, h, Tab.get, h1, h2]
  induction t with
  | nil => by_cases h : v = d <;> simp [Tab.set, Tab.get, h]
  | cons e t ih =>
    obtain ⟨j, w⟩ := e
    rcases Nat.lt_trichotomy k j with h | h | h
    · have h2 : k ≠ j := by omega
      by_cases hv : v = d <;> simp [Tab.set, Tab.get, h, h2, hv]
    · subst h; by_cases hv : v = d <;> simp [Tab.set, Tab.get, hv, drop]
    · have h1 : ¬ k < j := by omega
      have h2 : k ≠ j := by omega
      simp [Tab.set, Tab.get, h1, h2, ih]

/-- A write at a key leaves what every other key reads, whatever an unlisted one reads as. -/
theorem Tab.get_set_other {V : Type} [DecidableEq V] (d d' : V) (t : Tab V) {k m : Nat} (v : V) (h : m ≠ k) :
    Tab.get d' (Tab.set d t k v) m = Tab.get d' t m := by
  induction t with
  | nil => by_cases hv : v = d <;> simp [Tab.set, Tab.get, hv, h]
  | cons e t ih =>
    obtain ⟨j, w⟩ := e
    have drop : ∀ l : Tab V, k < m → Tab.get d' (l.dropWhile (fun e => e.1 ≤ k)) m = Tab.get d' l m := by
      intro l hm
      induction l with
      | nil => rfl
      | cons e l ih =>
        by_cases h : e.1 ≤ k
        · have h1 : m ≠ e.1 := by omega
          have h2 : ¬ m < e.1 := by omega
          simpa [List.dropWhile, h, Tab.get, h1, h2] using ih
        · simp [List.dropWhile, h]
    have low : ∀ l : Tab V, m < k → Tab.get d' (l.dropWhile (fun e => e.1 ≤ k)) m = d' := by
      intro l hm
      induction l with
      | nil => rfl
      | cons e l ih =>
        by_cases h : e.1 ≤ k
        · simpa [List.dropWhile, h] using ih
        · have h1 : m ≠ e.1 := by omega
          have h2 : m < e.1 := by omega
          simp [List.dropWhile, h, Tab.get, h1, h2]
    rcases Nat.lt_trichotomy k j with hk | hk | hk
    · by_cases hv : v = d
      · simp [Tab.set, hk, hv]
      · by_cases hm : m < k
        · have : m < j := by omega
          have h2 : m ≠ j := by omega
          simp [Tab.set, Tab.get, hk, hv, h, hm, this, h2]
        · simp [Tab.set, Tab.get, hk, hv, h, hm]
    · subst hk
      by_cases hv : v = d
      · by_cases hm : m < k
        · simp [Tab.set, Tab.get, hv, h, hm, low t hm]
        · simp [Tab.set, Tab.get, hv, h, hm, drop t (by omega)]
      · simp [Tab.set, Tab.get, hv, h]
    · have h1 : ¬ k < j := by omega
      have h2 : k ≠ j := by omega
      simp [Tab.set, Tab.get, h1, h2, ih]

/-- A table whose keys all lie above `k` has nothing to drop. -/
theorem Tab.dropWhile_wf {V : Type} [DecidableEq V] (d : V) (t : Tab V) (k : Nat) (h : Tab.wfFrom d (some k) t = true) :
    t.dropWhile (fun e => e.1 ≤ k) = t := by
  cases t with
  | nil => rfl
  | cons e t =>
    obtain ⟨j, w⟩ := e
    simp only [Tab.wfFrom, Bool.and_eq_true, decide_eq_true_eq] at h
    have : ¬ j ≤ k := by omega
    simp [List.dropWhile, this]

/-- The canonical form above a lower bound holds above a smaller one. -/
theorem Tab.wfFrom_mono {V : Type} [DecidableEq V] (d : V) (t : Tab V) (a : Nat) (lo : Option Nat)
    (hlo : ∀ b, lo = some b → b < a) (h : Tab.wfFrom d (some a) t = true) : Tab.wfFrom d lo t = true := by
  cases t with
  | nil => rfl
  | cons e t =>
    obtain ⟨j, w⟩ := e
    simp only [Tab.wfFrom, Bool.and_eq_true, decide_eq_true_eq] at h ⊢
    refine ⟨⟨?_, h.1.2⟩, h.2⟩
    cases lo with
    | none => rfl
    | some b => have := hlo b rfl; simp; omega

/-- A write above the lower bound keeps the canonical form above it. -/
theorem Tab.set_wfFrom {V : Type} [DecidableEq V] (d : V) (t : Tab V) (k : Nat) (v : V) (lo : Option Nat)
    (hlo : ∀ b, lo = some b → b < k) (h : Tab.wfFrom d lo t = true) : Tab.wfFrom d lo (Tab.set d t k v) = true := by
  induction t generalizing lo with
  | nil =>
    by_cases hv : v = d
    · simp [Tab.set, hv, Tab.wfFrom]
    · cases lo with
      | none => simp [Tab.set, hv, Tab.wfFrom]
      | some b => simp [Tab.set, hv, Tab.wfFrom, hlo b rfl]
  | cons e t ih =>
    obtain ⟨j, w⟩ := e
    have h' := h
    simp only [Tab.wfFrom, Bool.and_eq_true, decide_eq_true_eq] at h
    rcases Nat.lt_trichotomy k j with hk | hk | hk
    · by_cases hv : v = d
      · simpa [Tab.set, hk, hv] using h'
      · cases lo with
        | none => simp [Tab.set, hk, hv, Tab.wfFrom, h.1.2, h.2]
        | some b => simp [Tab.set, hk, hv, Tab.wfFrom, h.1.2, h.2, hlo b rfl]
    · subst hk
      by_cases hv : v = d
      · simp only [Tab.set, hv, Nat.lt_irrefl, ite_true, ite_false]
        rw [Tab.dropWhile_wf d t k h.2]
        exact Tab.wfFrom_mono d t k lo hlo h.2
      · cases lo with
        | none => simp [Tab.set, hv, Tab.wfFrom, h.2]
        | some b => simp [Tab.set, hv, Tab.wfFrom, h.2, hlo b rfl]
    · have h1 : ¬ k < j := by omega
      have h2 : k ≠ j := by omega
      simp only [Tab.set, h1, h2, ite_false, Tab.wfFrom, Bool.and_eq_true, decide_eq_true_eq]
      exact ⟨⟨h.1.1, h.1.2⟩, ih (some j) (fun b hb => by cases hb; exact hk) h.2⟩

/-- A write keeps the canonical form. -/
theorem Tab.set_wf {V : Type} [DecidableEq V] (d : V) (t : Tab V) (k : Nat) (v : V) (h : Tab.wf d t = true) :
    Tab.wf d (Tab.set d t k v) = true :=
  Tab.set_wfFrom d t k v none (fun _ hb => by cases hb) h

/-- Leaving entries out keeps the canonical form. -/
theorem Tab.filter_wfFrom {V : Type} [DecidableEq V] (d : V) (t : Tab V) (p : Nat × V → Bool) (lo : Option Nat)
    (h : Tab.wfFrom d lo t = true) : Tab.wfFrom d lo (t.filter p) = true := by
  induction t generalizing lo with
  | nil => rfl
  | cons e t ih =>
    obtain ⟨j, w⟩ := e
    simp only [Tab.wfFrom, Bool.and_eq_true, decide_eq_true_eq] at h
    by_cases hp : p (j, w) = true
    · simp only [List.filter_cons, hp, ite_true, Tab.wfFrom, Bool.and_eq_true, decide_eq_true_eq]
      exact ⟨⟨h.1.1, h.1.2⟩, ih (some j) h.2⟩
    · simp only [List.filter_cons, hp]
      refine ih lo (Tab.wfFrom_mono d t j lo ?_ h.2)
      intro b hb; subst hb; simpa using h.1.1

/-! ## Sets of numbers -/

/-- The members after a number is added. -/
theorem NatSet.mem_insert (s : NatSet) (k m : Nat) : m ∈ NatSet.insert s k ↔ m = k ∨ m ∈ s := by
  induction s with
  | nil => simp [NatSet.insert]
  | cons j s ih =>
    unfold NatSet.insert
    by_cases h1 : k < j
    · simp [h1]
    · by_cases h2 : k = j
      · subst h2; simp
      · simp only [h1, h2, ite_false, List.mem_cons, ih]; tauto

/-- What has been added is there, and nothing else has changed. -/
@[simp] theorem NatSet.has_insert (s : NatSet) (k m : Nat) : NatSet.has (NatSet.insert s k) m = (m == k || NatSet.has s m) := by
  simp only [NatSet.has]
  rw [Bool.eq_iff_iff]
  simp only [List.elem_iff, NatSet.mem_insert, Bool.or_eq_true, beq_iff_eq]

/-- What has been removed is gone, and nothing else has changed. -/
@[simp] theorem NatSet.has_erase (s : NatSet) (k m : Nat) : NatSet.has (NatSet.erase s k) m = (m != k && NatSet.has s m) := by
  simp only [NatSet.has, NatSet.erase]
  rw [Bool.eq_iff_iff]
  simp only [List.elem_iff, List.mem_filter, Bool.and_eq_true, bne_iff_ne, ne_eq]
  tauto

end Sys2Proof.Machine
end

