-- ==== Sys2Proof/Laws/State.lean ====
section
/-!
SUPPORT. Laws of the updates of State: each leaves every field but its own (its `pending` law stands in QueueOps.lean), and what is written is read.
-/
namespace Sys2Proof.Machine

/-! ## State.setReg: all fields but `regs` -/

@[simp] theorem State.setReg_halves (s : State) (n : RegName) (i j v : Nat) : (s.setReg n i j v).halves = s.halves := rfl
@[simp] theorem State.setReg_mem (s : State) (n : RegName) (i j v : Nat) : (s.setReg n i j v).mem = s.mem := rfl
@[simp] theorem State.setReg_hostMem (s : State) (n : RegName) (i j v : Nat) : (s.setReg n i j v).hostMem = s.hostMem := rfl
@[simp] theorem State.setReg_poison (s : State) (n : RegName) (i j v : Nat) : (s.setReg n i j v).poison = s.poison := rfl
@[simp] theorem State.setReg_hidden (s : State) (n : RegName) (i j v : Nat) : (s.setReg n i j v).hidden = s.hidden := rfl
@[simp] theorem State.setReg_arrayErr (s : State) (n : RegName) (i j v : Nat) : (s.setReg n i j v).arrayErr = s.arrayErr := rfl
@[simp] theorem State.setReg_hbmErr (s : State) (n : RegName) (i j v : Nat) : (s.setReg n i j v).hbmErr = s.hbmErr := rfl
@[simp] theorem State.setReg_rowPoison (s : State) (n : RegName) (i j v : Nat) : (s.setReg n i j v).rowPoison = s.rowPoison := rfl
@[simp] theorem State.setReg_slate (s : State) (n : RegName) (i j v : Nat) : (s.setReg n i j v).slate = s.slate := rfl
@[simp] theorem State.setReg_cores (s : State) (n : RegName) (i j v : Nat) : (s.setReg n i j v).cores = s.cores := rfl
@[simp] theorem State.setReg_clusters (s : State) (n : RegName) (i j v : Nat) : (s.setReg n i j v).clusters = s.clusters := rfl
@[simp] theorem State.setReg_lessons (s : State) (n : RegName) (i j v : Nat) : (s.setReg n i j v).lessons = s.lessons := rfl
@[simp] theorem State.setReg_lessonNext (s : State) (n : RegName) (i j v : Nat) : (s.setReg n i j v).lessonNext = s.lessonNext := rfl
@[simp] theorem State.setReg_partMsgs (s : State) (n : RegName) (i j v : Nat) : (s.setReg n i j v).partMsgs = s.partMsgs := rfl
@[simp] theorem State.setReg_bells (s : State) (n : RegName) (i j v : Nat) : (s.setReg n i j v).bells = s.bells := rfl
@[simp] theorem State.setReg_slices (s : State) (n : RegName) (i j v : Nat) : (s.setReg n i j v).slices = s.slices := rfl
@[simp] theorem State.setReg_hallwayFails (s : State) (n : RegName) (i j v : Nat) : (s.setReg n i j v).hallwayFails = s.hallwayFails := rfl
@[simp] theorem State.setReg_markers (s : State) (n : RegName) (i j v : Nat) : (s.setReg n i j v).markers = s.markers := rfl
@[simp] theorem State.setReg_ports (s : State) (n : RegName) (i j v : Nat) : (s.setReg n i j v).ports = s.ports := rfl
@[simp] theorem State.setReg_trackers (s : State) (n : RegName) (i j v : Nat) : (s.setReg n i j v).trackers = s.trackers := rfl
@[simp] theorem State.setReg_heldReqs (s : State) (n : RegName) (i j v : Nat) : (s.setReg n i j v).heldReqs = s.heldReqs := rfl
@[simp] theorem State.setReg_assemblies (s : State) (n : RegName) (i j v : Nat) : (s.setReg n i j v).assemblies = s.assemblies := rfl
@[simp] theorem State.setReg_corridor (s : State) (n : RegName) (i j v : Nat) : (s.setReg n i j v).corridor = s.corridor := rfl
@[simp] theorem State.setReg_queues (s : State) (n : RegName) (i j v : Nat) : (s.setReg n i j v).queues = s.queues := rfl
@[simp] theorem State.setReg_hports (s : State) (n : RegName) (i j v : Nat) : (s.setReg n i j v).hports = s.hports := rfl
@[simp] theorem State.setReg_holdRing (s : State) (n : RegName) (i j v : Nat) : (s.setReg n i j v).holdRing = s.holdRing := rfl
@[simp] theorem State.setReg_holdWait (s : State) (n : RegName) (i j v : Nat) : (s.setReg n i j v).holdWait = s.holdWait := rfl
@[simp] theorem State.setReg_images (s : State) (n : RegName) (i j v : Nat) : (s.setReg n i j v).images = s.images := rfl
@[simp] theorem State.setReg_activation (s : State) (n : RegName) (i j v : Nat) : (s.setReg n i j v).activation = s.activation := rfl
@[simp] theorem State.setReg_tutors (s : State) (n : RegName) (i j v : Nat) : (s.setReg n i j v).tutors = s.tutors := rfl
@[simp] theorem State.setReg_powerCmd (s : State) (n : RegName) (i j v : Nat) : (s.setReg n i j v).powerCmd = s.powerCmd := rfl
@[simp] theorem State.setReg_loops (s : State) (n : RegName) (i j v : Nat) : (s.setReg n i j v).loops = s.loops := rfl
@[simp] theorem State.setReg_capTicks (s : State) (n : RegName) (i j v : Nat) : (s.setReg n i j v).capTicks = s.capTicks := rfl
@[simp] theorem State.setReg_capSum (s : State) (n : RegName) (i j v : Nat) : (s.setReg n i j v).capSum = s.capSum := rfl
@[simp] theorem State.setReg_coolTicks (s : State) (n : RegName) (i j v : Nat) : (s.setReg n i j v).coolTicks = s.coolTicks := rfl
@[simp] theorem State.setReg_warmTicks (s : State) (n : RegName) (i j v : Nat) : (s.setReg n i j v).warmTicks = s.warmTicks := rfl
@[simp] theorem State.setReg_issueOrder (s : State) (n : RegName) (i j v : Nat) : (s.setReg n i j v).issueOrder = s.issueOrder := rfl
@[simp] theorem State.setReg_resets (s : State) (n : RegName) (i j v : Nat) : (s.setReg n i j v).resets = s.resets := rfl
@[simp] theorem State.setReg_proctor (s : State) (n : RegName) (i j v : Nat) : (s.setReg n i j v).proctor = s.proctor := rfl
@[simp] theorem State.setReg_freeNext (s : State) (n : RegName) (i j v : Nat) : (s.setReg n i j v).freeNext = s.freeNext := rfl
@[simp] theorem State.setReg_outbox (s : State) (n : RegName) (i j v : Nat) : (s.setReg n i j v).outbox = s.outbox := rfl

/-! ## State.setFld: all fields but `regs` -/

@[simp] theorem State.setFld_halves (s : State) (f : RegField) (i j v : Nat) : (s.setFld f i j v).halves = s.halves := rfl
@[simp] theorem State.setFld_mem (s : State) (f : RegField) (i j v : Nat) : (s.setFld f i j v).mem = s.mem := rfl
@[simp] theorem State.setFld_hostMem (s : State) (f : RegField) (i j v : Nat) : (s.setFld f i j v).hostMem = s.hostMem := rfl
@[simp] theorem State.setFld_poison (s : State) (f : RegField) (i j v : Nat) : (s.setFld f i j v).poison = s.poison := rfl
@[simp] theorem State.setFld_hidden (s : State) (f : RegField) (i j v : Nat) : (s.setFld f i j v).hidden = s.hidden := rfl
@[simp] theorem State.setFld_arrayErr (s : State) (f : RegField) (i j v : Nat) : (s.setFld f i j v).arrayErr = s.arrayErr := rfl
@[simp] theorem State.setFld_hbmErr (s : State) (f : RegField) (i j v : Nat) : (s.setFld f i j v).hbmErr = s.hbmErr := rfl
@[simp] theorem State.setFld_rowPoison (s : State) (f : RegField) (i j v : Nat) : (s.setFld f i j v).rowPoison = s.rowPoison := rfl
@[simp] theorem State.setFld_slate (s : State) (f : RegField) (i j v : Nat) : (s.setFld f i j v).slate = s.slate := rfl
@[simp] theorem State.setFld_cores (s : State) (f : RegField) (i j v : Nat) : (s.setFld f i j v).cores = s.cores := rfl
@[simp] theorem State.setFld_clusters (s : State) (f : RegField) (i j v : Nat) : (s.setFld f i j v).clusters = s.clusters := rfl
@[simp] theorem State.setFld_lessons (s : State) (f : RegField) (i j v : Nat) : (s.setFld f i j v).lessons = s.lessons := rfl
@[simp] theorem State.setFld_lessonNext (s : State) (f : RegField) (i j v : Nat) : (s.setFld f i j v).lessonNext = s.lessonNext := rfl
@[simp] theorem State.setFld_partMsgs (s : State) (f : RegField) (i j v : Nat) : (s.setFld f i j v).partMsgs = s.partMsgs := rfl
@[simp] theorem State.setFld_bells (s : State) (f : RegField) (i j v : Nat) : (s.setFld f i j v).bells = s.bells := rfl
@[simp] theorem State.setFld_slices (s : State) (f : RegField) (i j v : Nat) : (s.setFld f i j v).slices = s.slices := rfl
@[simp] theorem State.setFld_hallwayFails (s : State) (f : RegField) (i j v : Nat) : (s.setFld f i j v).hallwayFails = s.hallwayFails := rfl
@[simp] theorem State.setFld_markers (s : State) (f : RegField) (i j v : Nat) : (s.setFld f i j v).markers = s.markers := rfl
@[simp] theorem State.setFld_ports (s : State) (f : RegField) (i j v : Nat) : (s.setFld f i j v).ports = s.ports := rfl
@[simp] theorem State.setFld_trackers (s : State) (f : RegField) (i j v : Nat) : (s.setFld f i j v).trackers = s.trackers := rfl
@[simp] theorem State.setFld_heldReqs (s : State) (f : RegField) (i j v : Nat) : (s.setFld f i j v).heldReqs = s.heldReqs := rfl
@[simp] theorem State.setFld_assemblies (s : State) (f : RegField) (i j v : Nat) : (s.setFld f i j v).assemblies = s.assemblies := rfl
@[simp] theorem State.setFld_corridor (s : State) (f : RegField) (i j v : Nat) : (s.setFld f i j v).corridor = s.corridor := rfl
@[simp] theorem State.setFld_queues (s : State) (f : RegField) (i j v : Nat) : (s.setFld f i j v).queues = s.queues := rfl
@[simp] theorem State.setFld_hports (s : State) (f : RegField) (i j v : Nat) : (s.setFld f i j v).hports = s.hports := rfl
@[simp] theorem State.setFld_holdRing (s : State) (f : RegField) (i j v : Nat) : (s.setFld f i j v).holdRing = s.holdRing := rfl
@[simp] theorem State.setFld_holdWait (s : State) (f : RegField) (i j v : Nat) : (s.setFld f i j v).holdWait = s.holdWait := rfl
@[simp] theorem State.setFld_images (s : State) (f : RegField) (i j v : Nat) : (s.setFld f i j v).images = s.images := rfl
@[simp] theorem State.setFld_activation (s : State) (f : RegField) (i j v : Nat) : (s.setFld f i j v).activation = s.activation := rfl
@[simp] theorem State.setFld_tutors (s : State) (f : RegField) (i j v : Nat) : (s.setFld f i j v).tutors = s.tutors := rfl
@[simp] theorem State.setFld_powerCmd (s : State) (f : RegField) (i j v : Nat) : (s.setFld f i j v).powerCmd = s.powerCmd := rfl
@[simp] theorem State.setFld_loops (s : State) (f : RegField) (i j v : Nat) : (s.setFld f i j v).loops = s.loops := rfl
@[simp] theorem State.setFld_capTicks (s : State) (f : RegField) (i j v : Nat) : (s.setFld f i j v).capTicks = s.capTicks := rfl
@[simp] theorem State.setFld_capSum (s : State) (f : RegField) (i j v : Nat) : (s.setFld f i j v).capSum = s.capSum := rfl
@[simp] theorem State.setFld_coolTicks (s : State) (f : RegField) (i j v : Nat) : (s.setFld f i j v).coolTicks = s.coolTicks := rfl
@[simp] theorem State.setFld_warmTicks (s : State) (f : RegField) (i j v : Nat) : (s.setFld f i j v).warmTicks = s.warmTicks := rfl
@[simp] theorem State.setFld_issueOrder (s : State) (f : RegField) (i j v : Nat) : (s.setFld f i j v).issueOrder = s.issueOrder := rfl
@[simp] theorem State.setFld_resets (s : State) (f : RegField) (i j v : Nat) : (s.setFld f i j v).resets = s.resets := rfl
@[simp] theorem State.setFld_proctor (s : State) (f : RegField) (i j v : Nat) : (s.setFld f i j v).proctor = s.proctor := rfl
@[simp] theorem State.setFld_freeNext (s : State) (f : RegField) (i j v : Nat) : (s.setFld f i j v).freeNext = s.freeNext := rfl
@[simp] theorem State.setFld_outbox (s : State) (f : RegField) (i j v : Nat) : (s.setFld f i j v).outbox = s.outbox := rfl

/-! ## State.bump: all fields but `regs` -/

@[simp] theorem State.bump_halves (s : State) (f : RegField) (i j v : Nat) : (s.bump f i j v).halves = s.halves := rfl
@[simp] theorem State.bump_mem (s : State) (f : RegField) (i j v : Nat) : (s.bump f i j v).mem = s.mem := rfl
@[simp] theorem State.bump_hostMem (s : State) (f : RegField) (i j v : Nat) : (s.bump f i j v).hostMem = s.hostMem := rfl
@[simp] theorem State.bump_poison (s : State) (f : RegField) (i j v : Nat) : (s.bump f i j v).poison = s.poison := rfl
@[simp] theorem State.bump_hidden (s : State) (f : RegField) (i j v : Nat) : (s.bump f i j v).hidden = s.hidden := rfl
@[simp] theorem State.bump_arrayErr (s : State) (f : RegField) (i j v : Nat) : (s.bump f i j v).arrayErr = s.arrayErr := rfl
@[simp] theorem State.bump_hbmErr (s : State) (f : RegField) (i j v : Nat) : (s.bump f i j v).hbmErr = s.hbmErr := rfl
@[simp] theorem State.bump_rowPoison (s : State) (f : RegField) (i j v : Nat) : (s.bump f i j v).rowPoison = s.rowPoison := rfl
@[simp] theorem State.bump_slate (s : State) (f : RegField) (i j v : Nat) : (s.bump f i j v).slate = s.slate := rfl
@[simp] theorem State.bump_cores (s : State) (f : RegField) (i j v : Nat) : (s.bump f i j v).cores = s.cores := rfl
@[simp] theorem State.bump_clusters (s : State) (f : RegField) (i j v : Nat) : (s.bump f i j v).clusters = s.clusters := rfl
@[simp] theorem State.bump_lessons (s : State) (f : RegField) (i j v : Nat) : (s.bump f i j v).lessons = s.lessons := rfl
@[simp] theorem State.bump_lessonNext (s : State) (f : RegField) (i j v : Nat) : (s.bump f i j v).lessonNext = s.lessonNext := rfl
@[simp] theorem State.bump_partMsgs (s : State) (f : RegField) (i j v : Nat) : (s.bump f i j v).partMsgs = s.partMsgs := rfl
@[simp] theorem State.bump_bells (s : State) (f : RegField) (i j v : Nat) : (s.bump f i j v).bells = s.bells := rfl
@[simp] theorem State.bump_slices (s : State) (f : RegField) (i j v : Nat) : (s.bump f i j v).slices = s.slices := rfl
@[simp] theorem State.bump_hallwayFails (s : State) (f : RegField) (i j v : Nat) : (s.bump f i j v).hallwayFails = s.hallwayFails := rfl
@[simp] theorem State.bump_markers (s : State) (f : RegField) (i j v : Nat) : (s.bump f i j v).markers = s.markers := rfl
@[simp] theorem State.bump_ports (s : State) (f : RegField) (i j v : Nat) : (s.bump f i j v).ports = s.ports := rfl
@[simp] theorem State.bump_trackers (s : State) (f : RegField) (i j v : Nat) : (s.bump f i j v).trackers = s.trackers := rfl
@[simp] theorem State.bump_heldReqs (s : State) (f : RegField) (i j v : Nat) : (s.bump f i j v).heldReqs = s.heldReqs := rfl
@[simp] theorem State.bump_assemblies (s : State) (f : RegField) (i j v : Nat) : (s.bump f i j v).assemblies = s.assemblies := rfl
@[simp] theorem State.bump_corridor (s : State) (f : RegField) (i j v : Nat) : (s.bump f i j v).corridor = s.corridor := rfl
@[simp] theorem State.bump_queues (s : State) (f : RegField) (i j v : Nat) : (s.bump f i j v).queues = s.queues := rfl
@[simp] theorem State.bump_hports (s : State) (f : RegField) (i j v : Nat) : (s.bump f i j v).hports = s.hports := rfl
@[simp] theorem State.bump_holdRing (s : State) (f : RegField) (i j v : Nat) : (s.bump f i j v).holdRing = s.holdRing := rfl
@[simp] theorem State.bump_holdWait (s : State) (f : RegField) (i j v : Nat) : (s.bump f i j v).holdWait = s.holdWait := rfl
@[simp] theorem State.bump_images (s : State) (f : RegField) (i j v : Nat) : (s.bump f i j v).images = s.images := rfl
@[simp] theorem State.bump_activation (s : State) (f : RegField) (i j v : Nat) : (s.bump f i j v).activation = s.activation := rfl
@[simp] theorem State.bump_tutors (s : State) (f : RegField) (i j v : Nat) : (s.bump f i j v).tutors = s.tutors := rfl
@[simp] theorem State.bump_powerCmd (s : State) (f : RegField) (i j v : Nat) : (s.bump f i j v).powerCmd = s.powerCmd := rfl
@[simp] theorem State.bump_loops (s : State) (f : RegField) (i j v : Nat) : (s.bump f i j v).loops = s.loops := rfl
@[simp] theorem State.bump_capTicks (s : State) (f : RegField) (i j v : Nat) : (s.bump f i j v).capTicks = s.capTicks := rfl
@[simp] theorem State.bump_capSum (s : State) (f : RegField) (i j v : Nat) : (s.bump f i j v).capSum = s.capSum := rfl
@[simp] theorem State.bump_coolTicks (s : State) (f : RegField) (i j v : Nat) : (s.bump f i j v).coolTicks = s.coolTicks := rfl
@[simp] theorem State.bump_warmTicks (s : State) (f : RegField) (i j v : Nat) : (s.bump f i j v).warmTicks = s.warmTicks := rfl
@[simp] theorem State.bump_issueOrder (s : State) (f : RegField) (i j v : Nat) : (s.bump f i j v).issueOrder = s.issueOrder := rfl
@[simp] theorem State.bump_resets (s : State) (f : RegField) (i j v : Nat) : (s.bump f i j v).resets = s.resets := rfl
@[simp] theorem State.bump_proctor (s : State) (f : RegField) (i j v : Nat) : (s.bump f i j v).proctor = s.proctor := rfl
@[simp] theorem State.bump_freeNext (s : State) (f : RegField) (i j v : Nat) : (s.bump f i j v).freeNext = s.freeNext := rfl
@[simp] theorem State.bump_outbox (s : State) (f : RegField) (i j v : Nat) : (s.bump f i j v).outbox = s.outbox := rfl

/-! ## State.bumpSat: all fields but `regs` -/

@[simp] theorem State.bumpSat_halves (s : State) (f : RegField) (i j v : Nat) : (s.bumpSat f i j v).halves = s.halves := rfl
@[simp] theorem State.bumpSat_mem (s : State) (f : RegField) (i j v : Nat) : (s.bumpSat f i j v).mem = s.mem := rfl
@[simp] theorem State.bumpSat_hostMem (s : State) (f : RegField) (i j v : Nat) : (s.bumpSat f i j v).hostMem = s.hostMem := rfl
@[simp] theorem State.bumpSat_poison (s : State) (f : RegField) (i j v : Nat) : (s.bumpSat f i j v).poison = s.poison := rfl
@[simp] theorem State.bumpSat_hidden (s : State) (f : RegField) (i j v : Nat) : (s.bumpSat f i j v).hidden = s.hidden := rfl
@[simp] theorem State.bumpSat_arrayErr (s : State) (f : RegField) (i j v : Nat) : (s.bumpSat f i j v).arrayErr = s.arrayErr := rfl
@[simp] theorem State.bumpSat_hbmErr (s : State) (f : RegField) (i j v : Nat) : (s.bumpSat f i j v).hbmErr = s.hbmErr := rfl
@[simp] theorem State.bumpSat_rowPoison (s : State) (f : RegField) (i j v : Nat) : (s.bumpSat f i j v).rowPoison = s.rowPoison := rfl
@[simp] theorem State.bumpSat_slate (s : State) (f : RegField) (i j v : Nat) : (s.bumpSat f i j v).slate = s.slate := rfl
@[simp] theorem State.bumpSat_cores (s : State) (f : RegField) (i j v : Nat) : (s.bumpSat f i j v).cores = s.cores := rfl
@[simp] theorem State.bumpSat_clusters (s : State) (f : RegField) (i j v : Nat) : (s.bumpSat f i j v).clusters = s.clusters := rfl
@[simp] theorem State.bumpSat_lessons (s : State) (f : RegField) (i j v : Nat) : (s.bumpSat f i j v).lessons = s.lessons := rfl
@[simp] theorem State.bumpSat_lessonNext (s : State) (f : RegField) (i j v : Nat) : (s.bumpSat f i j v).lessonNext = s.lessonNext := rfl
@[simp] theorem State.bumpSat_partMsgs (s : State) (f : RegField) (i j v : Nat) : (s.bumpSat f i j v).partMsgs = s.partMsgs := rfl
@[simp] theorem State.bumpSat_bells (s : State) (f : RegField) (i j v : Nat) : (s.bumpSat f i j v).bells = s.bells := rfl
@[simp] theorem State.bumpSat_slices (s : State) (f : RegField) (i j v : Nat) : (s.bumpSat f i j v).slices = s.slices := rfl
@[simp] theorem State.bumpSat_hallwayFails (s : State) (f : RegField) (i j v : Nat) : (s.bumpSat f i j v).hallwayFails = s.hallwayFails := rfl
@[simp] theorem State.bumpSat_markers (s : State) (f : RegField) (i j v : Nat) : (s.bumpSat f i j v).markers = s.markers := rfl
@[simp] theorem State.bumpSat_ports (s : State) (f : RegField) (i j v : Nat) : (s.bumpSat f i j v).ports = s.ports := rfl
@[simp] theorem State.bumpSat_trackers (s : State) (f : RegField) (i j v : Nat) : (s.bumpSat f i j v).trackers = s.trackers := rfl
@[simp] theorem State.bumpSat_heldReqs (s : State) (f : RegField) (i j v : Nat) : (s.bumpSat f i j v).heldReqs = s.heldReqs := rfl
@[simp] theorem State.bumpSat_assemblies (s : State) (f : RegField) (i j v : Nat) : (s.bumpSat f i j v).assemblies = s.assemblies := rfl
@[simp] theorem State.bumpSat_corridor (s : State) (f : RegField) (i j v : Nat) : (s.bumpSat f i j v).corridor = s.corridor := rfl
@[simp] theorem State.bumpSat_queues (s : State) (f : RegField) (i j v : Nat) : (s.bumpSat f i j v).queues = s.queues := rfl
@[simp] theorem State.bumpSat_hports (s : State) (f : RegField) (i j v : Nat) : (s.bumpSat f i j v).hports = s.hports := rfl
@[simp] theorem State.bumpSat_holdRing (s : State) (f : RegField) (i j v : Nat) : (s.bumpSat f i j v).holdRing = s.holdRing := rfl
@[simp] theorem State.bumpSat_holdWait (s : State) (f : RegField) (i j v : Nat) : (s.bumpSat f i j v).holdWait = s.holdWait := rfl
@[simp] theorem State.bumpSat_images (s : State) (f : RegField) (i j v : Nat) : (s.bumpSat f i j v).images = s.images := rfl
@[simp] theorem State.bumpSat_activation (s : State) (f : RegField) (i j v : Nat) : (s.bumpSat f i j v).activation = s.activation := rfl
@[simp] theorem State.bumpSat_tutors (s : State) (f : RegField) (i j v : Nat) : (s.bumpSat f i j v).tutors = s.tutors := rfl
@[simp] theorem State.bumpSat_powerCmd (s : State) (f : RegField) (i j v : Nat) : (s.bumpSat f i j v).powerCmd = s.powerCmd := rfl
@[simp] theorem State.bumpSat_loops (s : State) (f : RegField) (i j v : Nat) : (s.bumpSat f i j v).loops = s.loops := rfl
@[simp] theorem State.bumpSat_capTicks (s : State) (f : RegField) (i j v : Nat) : (s.bumpSat f i j v).capTicks = s.capTicks := rfl
@[simp] theorem State.bumpSat_capSum (s : State) (f : RegField) (i j v : Nat) : (s.bumpSat f i j v).capSum = s.capSum := rfl
@[simp] theorem State.bumpSat_coolTicks (s : State) (f : RegField) (i j v : Nat) : (s.bumpSat f i j v).coolTicks = s.coolTicks := rfl
@[simp] theorem State.bumpSat_warmTicks (s : State) (f : RegField) (i j v : Nat) : (s.bumpSat f i j v).warmTicks = s.warmTicks := rfl
@[simp] theorem State.bumpSat_issueOrder (s : State) (f : RegField) (i j v : Nat) : (s.bumpSat f i j v).issueOrder = s.issueOrder := rfl
@[simp] theorem State.bumpSat_resets (s : State) (f : RegField) (i j v : Nat) : (s.bumpSat f i j v).resets = s.resets := rfl
@[simp] theorem State.bumpSat_proctor (s : State) (f : RegField) (i j v : Nat) : (s.bumpSat f i j v).proctor = s.proctor := rfl
@[simp] theorem State.bumpSat_freeNext (s : State) (f : RegField) (i j v : Nat) : (s.bumpSat f i j v).freeNext = s.freeNext := rfl
@[simp] theorem State.bumpSat_outbox (s : State) (f : RegField) (i j v : Nat) : (s.bumpSat f i j v).outbox = s.outbox := rfl

/-! ## State.setCore: all fields but `cores` -/

@[simp] theorem State.setCore_regs (s : State) (c : CoreId) (v : Core) : (s.setCore c v).regs = s.regs := rfl
@[simp] theorem State.setCore_halves (s : State) (c : CoreId) (v : Core) : (s.setCore c v).halves = s.halves := rfl
@[simp] theorem State.setCore_mem (s : State) (c : CoreId) (v : Core) : (s.setCore c v).mem = s.mem := rfl
@[simp] theorem State.setCore_hostMem (s : State) (c : CoreId) (v : Core) : (s.setCore c v).hostMem = s.hostMem := rfl
@[simp] theorem State.setCore_poison (s : State) (c : CoreId) (v : Core) : (s.setCore c v).poison = s.poison := rfl
@[simp] theorem State.setCore_hidden (s : State) (c : CoreId) (v : Core) : (s.setCore c v).hidden = s.hidden := rfl
@[simp] theorem State.setCore_arrayErr (s : State) (c : CoreId) (v : Core) : (s.setCore c v).arrayErr = s.arrayErr := rfl
@[simp] theorem State.setCore_hbmErr (s : State) (c : CoreId) (v : Core) : (s.setCore c v).hbmErr = s.hbmErr := rfl
@[simp] theorem State.setCore_rowPoison (s : State) (c : CoreId) (v : Core) : (s.setCore c v).rowPoison = s.rowPoison := rfl
@[simp] theorem State.setCore_slate (s : State) (c : CoreId) (v : Core) : (s.setCore c v).slate = s.slate := rfl
@[simp] theorem State.setCore_clusters (s : State) (c : CoreId) (v : Core) : (s.setCore c v).clusters = s.clusters := rfl
@[simp] theorem State.setCore_lessons (s : State) (c : CoreId) (v : Core) : (s.setCore c v).lessons = s.lessons := rfl
@[simp] theorem State.setCore_lessonNext (s : State) (c : CoreId) (v : Core) : (s.setCore c v).lessonNext = s.lessonNext := rfl
@[simp] theorem State.setCore_partMsgs (s : State) (c : CoreId) (v : Core) : (s.setCore c v).partMsgs = s.partMsgs := rfl
@[simp] theorem State.setCore_bells (s : State) (c : CoreId) (v : Core) : (s.setCore c v).bells = s.bells := rfl
@[simp] theorem State.setCore_slices (s : State) (c : CoreId) (v : Core) : (s.setCore c v).slices = s.slices := rfl
@[simp] theorem State.setCore_hallwayFails (s : State) (c : CoreId) (v : Core) : (s.setCore c v).hallwayFails = s.hallwayFails := rfl
@[simp] theorem State.setCore_markers (s : State) (c : CoreId) (v : Core) : (s.setCore c v).markers = s.markers := rfl
@[simp] theorem State.setCore_ports (s : State) (c : CoreId) (v : Core) : (s.setCore c v).ports = s.ports := rfl
@[simp] theorem State.setCore_trackers (s : State) (c : CoreId) (v : Core) : (s.setCore c v).trackers = s.trackers := rfl
@[simp] theorem State.setCore_heldReqs (s : State) (c : CoreId) (v : Core) : (s.setCore c v).heldReqs = s.heldReqs := rfl
@[simp] theorem State.setCore_assemblies (s : State) (c : CoreId) (v : Core) : (s.setCore c v).assemblies = s.assemblies := rfl
@[simp] theorem State.setCore_corridor (s : State) (c : CoreId) (v : Core) : (s.setCore c v).corridor = s.corridor := rfl
@[simp] theorem State.setCore_queues (s : State) (c : CoreId) (v : Core) : (s.setCore c v).queues = s.queues := rfl
@[simp] theorem State.setCore_hports (s : State) (c : CoreId) (v : Core) : (s.setCore c v).hports = s.hports := rfl
@[simp] theorem State.setCore_holdRing (s : State) (c : CoreId) (v : Core) : (s.setCore c v).holdRing = s.holdRing := rfl
@[simp] theorem State.setCore_holdWait (s : State) (c : CoreId) (v : Core) : (s.setCore c v).holdWait = s.holdWait := rfl
@[simp] theorem State.setCore_images (s : State) (c : CoreId) (v : Core) : (s.setCore c v).images = s.images := rfl
@[simp] theorem State.setCore_activation (s : State) (c : CoreId) (v : Core) : (s.setCore c v).activation = s.activation := rfl
@[simp] theorem State.setCore_tutors (s : State) (c : CoreId) (v : Core) : (s.setCore c v).tutors = s.tutors := rfl
@[simp] theorem State.setCore_powerCmd (s : State) (c : CoreId) (v : Core) : (s.setCore c v).powerCmd = s.powerCmd := rfl
@[simp] theorem State.setCore_loops (s : State) (c : CoreId) (v : Core) : (s.setCore c v).loops = s.loops := rfl
@[simp] theorem State.setCore_capTicks (s : State) (c : CoreId) (v : Core) : (s.setCore c v).capTicks = s.capTicks := rfl
@[simp] theorem State.setCore_capSum (s : State) (c : CoreId) (v : Core) : (s.setCore c v).capSum = s.capSum := rfl
@[simp] theorem State.setCore_coolTicks (s : State) (c : CoreId) (v : Core) : (s.setCore c v).coolTicks = s.coolTicks := rfl
@[simp] theorem State.setCore_warmTicks (s : State) (c : CoreId) (v : Core) : (s.setCore c v).warmTicks = s.warmTicks := rfl
@[simp] theorem State.setCore_issueOrder (s : State) (c : CoreId) (v : Core) : (s.setCore c v).issueOrder = s.issueOrder := rfl
@[simp] theorem State.setCore_resets (s : State) (c : CoreId) (v : Core) : (s.setCore c v).resets = s.resets := rfl
@[simp] theorem State.setCore_proctor (s : State) (c : CoreId) (v : Core) : (s.setCore c v).proctor = s.proctor := rfl
@[simp] theorem State.setCore_freeNext (s : State) (c : CoreId) (v : Core) : (s.setCore c v).freeNext = s.freeNext := rfl
@[simp] theorem State.setCore_outbox (s : State) (c : CoreId) (v : Core) : (s.setCore c v).outbox = s.outbox := rfl

/-! ## State.setCluster: all fields but `clusters` -/

@[simp] theorem State.setCluster_regs (s : State) (c : Nat) (v : Cluster) : (s.setCluster c v).regs = s.regs := rfl
@[simp] theorem State.setCluster_halves (s : State) (c : Nat) (v : Cluster) : (s.setCluster c v).halves = s.halves := rfl
@[simp] theorem State.setCluster_mem (s : State) (c : Nat) (v : Cluster) : (s.setCluster c v).mem = s.mem := rfl
@[simp] theorem State.setCluster_hostMem (s : State) (c : Nat) (v : Cluster) : (s.setCluster c v).hostMem = s.hostMem := rfl
@[simp] theorem State.setCluster_poison (s : State) (c : Nat) (v : Cluster) : (s.setCluster c v).poison = s.poison := rfl
@[simp] theorem State.setCluster_hidden (s : State) (c : Nat) (v : Cluster) : (s.setCluster c v).hidden = s.hidden := rfl
@[simp] theorem State.setCluster_arrayErr (s : State) (c : Nat) (v : Cluster) : (s.setCluster c v).arrayErr = s.arrayErr := rfl
@[simp] theorem State.setCluster_hbmErr (s : State) (c : Nat) (v : Cluster) : (s.setCluster c v).hbmErr = s.hbmErr := rfl
@[simp] theorem State.setCluster_rowPoison (s : State) (c : Nat) (v : Cluster) : (s.setCluster c v).rowPoison = s.rowPoison := rfl
@[simp] theorem State.setCluster_slate (s : State) (c : Nat) (v : Cluster) : (s.setCluster c v).slate = s.slate := rfl
@[simp] theorem State.setCluster_cores (s : State) (c : Nat) (v : Cluster) : (s.setCluster c v).cores = s.cores := rfl
@[simp] theorem State.setCluster_lessons (s : State) (c : Nat) (v : Cluster) : (s.setCluster c v).lessons = s.lessons := rfl
@[simp] theorem State.setCluster_lessonNext (s : State) (c : Nat) (v : Cluster) : (s.setCluster c v).lessonNext = s.lessonNext := rfl
@[simp] theorem State.setCluster_partMsgs (s : State) (c : Nat) (v : Cluster) : (s.setCluster c v).partMsgs = s.partMsgs := rfl
@[simp] theorem State.setCluster_bells (s : State) (c : Nat) (v : Cluster) : (s.setCluster c v).bells = s.bells := rfl
@[simp] theorem State.setCluster_slices (s : State) (c : Nat) (v : Cluster) : (s.setCluster c v).slices = s.slices := rfl
@[simp] theorem State.setCluster_hallwayFails (s : State) (c : Nat) (v : Cluster) : (s.setCluster c v).hallwayFails = s.hallwayFails := rfl
@[simp] theorem State.setCluster_markers (s : State) (c : Nat) (v : Cluster) : (s.setCluster c v).markers = s.markers := rfl
@[simp] theorem State.setCluster_ports (s : State) (c : Nat) (v : Cluster) : (s.setCluster c v).ports = s.ports := rfl
@[simp] theorem State.setCluster_trackers (s : State) (c : Nat) (v : Cluster) : (s.setCluster c v).trackers = s.trackers := rfl
@[simp] theorem State.setCluster_heldReqs (s : State) (c : Nat) (v : Cluster) : (s.setCluster c v).heldReqs = s.heldReqs := rfl
@[simp] theorem State.setCluster_assemblies (s : State) (c : Nat) (v : Cluster) : (s.setCluster c v).assemblies = s.assemblies := rfl
@[simp] theorem State.setCluster_corridor (s : State) (c : Nat) (v : Cluster) : (s.setCluster c v).corridor = s.corridor := rfl
@[simp] theorem State.setCluster_queues (s : State) (c : Nat) (v : Cluster) : (s.setCluster c v).queues = s.queues := rfl
@[simp] theorem State.setCluster_hports (s : State) (c : Nat) (v : Cluster) : (s.setCluster c v).hports = s.hports := rfl
@[simp] theorem State.setCluster_holdRing (s : State) (c : Nat) (v : Cluster) : (s.setCluster c v).holdRing = s.holdRing := rfl
@[simp] theorem State.setCluster_holdWait (s : State) (c : Nat) (v : Cluster) : (s.setCluster c v).holdWait = s.holdWait := rfl
@[simp] theorem State.setCluster_images (s : State) (c : Nat) (v : Cluster) : (s.setCluster c v).images = s.images := rfl
@[simp] theorem State.setCluster_activation (s : State) (c : Nat) (v : Cluster) : (s.setCluster c v).activation = s.activation := rfl
@[simp] theorem State.setCluster_tutors (s : State) (c : Nat) (v : Cluster) : (s.setCluster c v).tutors = s.tutors := rfl
@[simp] theorem State.setCluster_powerCmd (s : State) (c : Nat) (v : Cluster) : (s.setCluster c v).powerCmd = s.powerCmd := rfl
@[simp] theorem State.setCluster_loops (s : State) (c : Nat) (v : Cluster) : (s.setCluster c v).loops = s.loops := rfl
@[simp] theorem State.setCluster_capTicks (s : State) (c : Nat) (v : Cluster) : (s.setCluster c v).capTicks = s.capTicks := rfl
@[simp] theorem State.setCluster_capSum (s : State) (c : Nat) (v : Cluster) : (s.setCluster c v).capSum = s.capSum := rfl
@[simp] theorem State.setCluster_coolTicks (s : State) (c : Nat) (v : Cluster) : (s.setCluster c v).coolTicks = s.coolTicks := rfl
@[simp] theorem State.setCluster_warmTicks (s : State) (c : Nat) (v : Cluster) : (s.setCluster c v).warmTicks = s.warmTicks := rfl
@[simp] theorem State.setCluster_issueOrder (s : State) (c : Nat) (v : Cluster) : (s.setCluster c v).issueOrder = s.issueOrder := rfl
@[simp] theorem State.setCluster_resets (s : State) (c : Nat) (v : Cluster) : (s.setCluster c v).resets = s.resets := rfl
@[simp] theorem State.setCluster_proctor (s : State) (c : Nat) (v : Cluster) : (s.setCluster c v).proctor = s.proctor := rfl
@[simp] theorem State.setCluster_freeNext (s : State) (c : Nat) (v : Cluster) : (s.setCluster c v).freeNext = s.freeNext := rfl
@[simp] theorem State.setCluster_outbox (s : State) (c : Nat) (v : Cluster) : (s.setCluster c v).outbox = s.outbox := rfl

/-! ## State.setSlice: all fields but `slices` -/

@[simp] theorem State.setSlice_regs (s : State) (n : Nat) (v : Slice) : (s.setSlice n v).regs = s.regs := rfl
@[simp] theorem State.setSlice_halves (s : State) (n : Nat) (v : Slice) : (s.setSlice n v).halves = s.halves := rfl
@[simp] theorem State.setSlice_mem (s : State) (n : Nat) (v : Slice) : (s.setSlice n v).mem = s.mem := rfl
@[simp] theorem State.setSlice_hostMem (s : State) (n : Nat) (v : Slice) : (s.setSlice n v).hostMem = s.hostMem := rfl
@[simp] theorem State.setSlice_poison (s : State) (n : Nat) (v : Slice) : (s.setSlice n v).poison = s.poison := rfl
@[simp] theorem State.setSlice_hidden (s : State) (n : Nat) (v : Slice) : (s.setSlice n v).hidden = s.hidden := rfl
@[simp] theorem State.setSlice_arrayErr (s : State) (n : Nat) (v : Slice) : (s.setSlice n v).arrayErr = s.arrayErr := rfl
@[simp] theorem State.setSlice_hbmErr (s : State) (n : Nat) (v : Slice) : (s.setSlice n v).hbmErr = s.hbmErr := rfl
@[simp] theorem State.setSlice_rowPoison (s : State) (n : Nat) (v : Slice) : (s.setSlice n v).rowPoison = s.rowPoison := rfl
@[simp] theorem State.setSlice_slate (s : State) (n : Nat) (v : Slice) : (s.setSlice n v).slate = s.slate := rfl
@[simp] theorem State.setSlice_cores (s : State) (n : Nat) (v : Slice) : (s.setSlice n v).cores = s.cores := rfl
@[simp] theorem State.setSlice_clusters (s : State) (n : Nat) (v : Slice) : (s.setSlice n v).clusters = s.clusters := rfl
@[simp] theorem State.setSlice_lessons (s : State) (n : Nat) (v : Slice) : (s.setSlice n v).lessons = s.lessons := rfl
@[simp] theorem State.setSlice_lessonNext (s : State) (n : Nat) (v : Slice) : (s.setSlice n v).lessonNext = s.lessonNext := rfl
@[simp] theorem State.setSlice_partMsgs (s : State) (n : Nat) (v : Slice) : (s.setSlice n v).partMsgs = s.partMsgs := rfl
@[simp] theorem State.setSlice_bells (s : State) (n : Nat) (v : Slice) : (s.setSlice n v).bells = s.bells := rfl
@[simp] theorem State.setSlice_hallwayFails (s : State) (n : Nat) (v : Slice) : (s.setSlice n v).hallwayFails = s.hallwayFails := rfl
@[simp] theorem State.setSlice_markers (s : State) (n : Nat) (v : Slice) : (s.setSlice n v).markers = s.markers := rfl
@[simp] theorem State.setSlice_ports (s : State) (n : Nat) (v : Slice) : (s.setSlice n v).ports = s.ports := rfl
@[simp] theorem State.setSlice_trackers (s : State) (n : Nat) (v : Slice) : (s.setSlice n v).trackers = s.trackers := rfl
@[simp] theorem State.setSlice_heldReqs (s : State) (n : Nat) (v : Slice) : (s.setSlice n v).heldReqs = s.heldReqs := rfl
@[simp] theorem State.setSlice_assemblies (s : State) (n : Nat) (v : Slice) : (s.setSlice n v).assemblies = s.assemblies := rfl
@[simp] theorem State.setSlice_corridor (s : State) (n : Nat) (v : Slice) : (s.setSlice n v).corridor = s.corridor := rfl
@[simp] theorem State.setSlice_queues (s : State) (n : Nat) (v : Slice) : (s.setSlice n v).queues = s.queues := rfl
@[simp] theorem State.setSlice_hports (s : State) (n : Nat) (v : Slice) : (s.setSlice n v).hports = s.hports := rfl
@[simp] theorem State.setSlice_holdRing (s : State) (n : Nat) (v : Slice) : (s.setSlice n v).holdRing = s.holdRing := rfl
@[simp] theorem State.setSlice_holdWait (s : State) (n : Nat) (v : Slice) : (s.setSlice n v).holdWait = s.holdWait := rfl
@[simp] theorem State.setSlice_images (s : State) (n : Nat) (v : Slice) : (s.setSlice n v).images = s.images := rfl
@[simp] theorem State.setSlice_activation (s : State) (n : Nat) (v : Slice) : (s.setSlice n v).activation = s.activation := rfl
@[simp] theorem State.setSlice_tutors (s : State) (n : Nat) (v : Slice) : (s.setSlice n v).tutors = s.tutors := rfl
@[simp] theorem State.setSlice_powerCmd (s : State) (n : Nat) (v : Slice) : (s.setSlice n v).powerCmd = s.powerCmd := rfl
@[simp] theorem State.setSlice_loops (s : State) (n : Nat) (v : Slice) : (s.setSlice n v).loops = s.loops := rfl
@[simp] theorem State.setSlice_capTicks (s : State) (n : Nat) (v : Slice) : (s.setSlice n v).capTicks = s.capTicks := rfl
@[simp] theorem State.setSlice_capSum (s : State) (n : Nat) (v : Slice) : (s.setSlice n v).capSum = s.capSum := rfl
@[simp] theorem State.setSlice_coolTicks (s : State) (n : Nat) (v : Slice) : (s.setSlice n v).coolTicks = s.coolTicks := rfl
@[simp] theorem State.setSlice_warmTicks (s : State) (n : Nat) (v : Slice) : (s.setSlice n v).warmTicks = s.warmTicks := rfl
@[simp] theorem State.setSlice_issueOrder (s : State) (n : Nat) (v : Slice) : (s.setSlice n v).issueOrder = s.issueOrder := rfl
@[simp] theorem State.setSlice_resets (s : State) (n : Nat) (v : Slice) : (s.setSlice n v).resets = s.resets := rfl
@[simp] theorem State.setSlice_proctor (s : State) (n : Nat) (v : Slice) : (s.setSlice n v).proctor = s.proctor := rfl
@[simp] theorem State.setSlice_freeNext (s : State) (n : Nat) (v : Slice) : (s.setSlice n v).freeNext = s.freeNext := rfl
@[simp] theorem State.setSlice_outbox (s : State) (n : Nat) (v : Slice) : (s.setSlice n v).outbox = s.outbox := rfl

/-! ## State.setBell: all fields but `bells` -/

@[simp] theorem State.setBell_regs (s : State) (g : Nat) (v : Bell) : (s.setBell g v).regs = s.regs := rfl
@[simp] theorem State.setBell_halves (s : State) (g : Nat) (v : Bell) : (s.setBell g v).halves = s.halves := rfl
@[simp] theorem State.setBell_mem (s : State) (g : Nat) (v : Bell) : (s.setBell g v).mem = s.mem := rfl
@[simp] theorem State.setBell_hostMem (s : State) (g : Nat) (v : Bell) : (s.setBell g v).hostMem = s.hostMem := rfl
@[simp] theorem State.setBell_poison (s : State) (g : Nat) (v : Bell) : (s.setBell g v).poison = s.poison := rfl
@[simp] theorem State.setBell_hidden (s : State) (g : Nat) (v : Bell) : (s.setBell g v).hidden = s.hidden := rfl
@[simp] theorem State.setBell_arrayErr (s : State) (g : Nat) (v : Bell) : (s.setBell g v).arrayErr = s.arrayErr := rfl
@[simp] theorem State.setBell_hbmErr (s : State) (g : Nat) (v : Bell) : (s.setBell g v).hbmErr = s.hbmErr := rfl
@[simp] theorem State.setBell_rowPoison (s : State) (g : Nat) (v : Bell) : (s.setBell g v).rowPoison = s.rowPoison := rfl
@[simp] theorem State.setBell_slate (s : State) (g : Nat) (v : Bell) : (s.setBell g v).slate = s.slate := rfl
@[simp] theorem State.setBell_cores (s : State) (g : Nat) (v : Bell) : (s.setBell g v).cores = s.cores := rfl
@[simp] theorem State.setBell_clusters (s : State) (g : Nat) (v : Bell) : (s.setBell g v).clusters = s.clusters := rfl
@[simp] theorem State.setBell_lessons (s : State) (g : Nat) (v : Bell) : (s.setBell g v).lessons = s.lessons := rfl
@[simp] theorem State.setBell_lessonNext (s : State) (g : Nat) (v : Bell) : (s.setBell g v).lessonNext = s.lessonNext := rfl
@[simp] theorem State.setBell_partMsgs (s : State) (g : Nat) (v : Bell) : (s.setBell g v).partMsgs = s.partMsgs := rfl
@[simp] theorem State.setBell_slices (s : State) (g : Nat) (v : Bell) : (s.setBell g v).slices = s.slices := rfl
@[simp] theorem State.setBell_hallwayFails (s : State) (g : Nat) (v : Bell) : (s.setBell g v).hallwayFails = s.hallwayFails := rfl
@[simp] theorem State.setBell_markers (s : State) (g : Nat) (v : Bell) : (s.setBell g v).markers = s.markers := rfl
@[simp] theorem State.setBell_ports (s : State) (g : Nat) (v : Bell) : (s.setBell g v).ports = s.ports := rfl
@[simp] theorem State.setBell_trackers (s : State) (g : Nat) (v : Bell) : (s.setBell g v).trackers = s.trackers := rfl
@[simp] theorem State.setBell_heldReqs (s : State) (g : Nat) (v : Bell) : (s.setBell g v).heldReqs = s.heldReqs := rfl
@[simp] theorem State.setBell_assemblies (s : State) (g : Nat) (v : Bell) : (s.setBell g v).assemblies = s.assemblies := rfl
@[simp] theorem State.setBell_corridor (s : State) (g : Nat) (v : Bell) : (s.setBell g v).corridor = s.corridor := rfl
@[simp] theorem State.setBell_queues (s : State) (g : Nat) (v : Bell) : (s.setBell g v).queues = s.queues := rfl
@[simp] theorem State.setBell_hports (s : State) (g : Nat) (v : Bell) : (s.setBell g v).hports = s.hports := rfl
@[simp] theorem State.setBell_holdRing (s : State) (g : Nat) (v : Bell) : (s.setBell g v).holdRing = s.holdRing := rfl
@[simp] theorem State.setBell_holdWait (s : State) (g : Nat) (v : Bell) : (s.setBell g v).holdWait = s.holdWait := rfl
@[simp] theorem State.setBell_images (s : State) (g : Nat) (v : Bell) : (s.setBell g v).images = s.images := rfl
@[simp] theorem State.setBell_activation (s : State) (g : Nat) (v : Bell) : (s.setBell g v).activation = s.activation := rfl
@[simp] theorem State.setBell_tutors (s : State) (g : Nat) (v : Bell) : (s.setBell g v).tutors = s.tutors := rfl
@[simp] theorem State.setBell_powerCmd (s : State) (g : Nat) (v : Bell) : (s.setBell g v).powerCmd = s.powerCmd := rfl
@[simp] theorem State.setBell_loops (s : State) (g : Nat) (v : Bell) : (s.setBell g v).loops = s.loops := rfl
@[simp] theorem State.setBell_capTicks (s : State) (g : Nat) (v : Bell) : (s.setBell g v).capTicks = s.capTicks := rfl
@[simp] theorem State.setBell_capSum (s : State) (g : Nat) (v : Bell) : (s.setBell g v).capSum = s.capSum := rfl
@[simp] theorem State.setBell_coolTicks (s : State) (g : Nat) (v : Bell) : (s.setBell g v).coolTicks = s.coolTicks := rfl
@[simp] theorem State.setBell_warmTicks (s : State) (g : Nat) (v : Bell) : (s.setBell g v).warmTicks = s.warmTicks := rfl
@[simp] theorem State.setBell_issueOrder (s : State) (g : Nat) (v : Bell) : (s.setBell g v).issueOrder = s.issueOrder := rfl
@[simp] theorem State.setBell_resets (s : State) (g : Nat) (v : Bell) : (s.setBell g v).resets = s.resets := rfl
@[simp] theorem State.setBell_proctor (s : State) (g : Nat) (v : Bell) : (s.setBell g v).proctor = s.proctor := rfl
@[simp] theorem State.setBell_freeNext (s : State) (g : Nat) (v : Bell) : (s.setBell g v).freeNext = s.freeNext := rfl
@[simp] theorem State.setBell_outbox (s : State) (g : Nat) (v : Bell) : (s.setBell g v).outbox = s.outbox := rfl

/-! ## State.setMarker: all fields but `markers` -/

@[simp] theorem State.setMarker_regs (s : State) (st : StackId) (v : Marker) : (s.setMarker st v).regs = s.regs := rfl
@[simp] theorem State.setMarker_halves (s : State) (st : StackId) (v : Marker) : (s.setMarker st v).halves = s.halves := rfl
@[simp] theorem State.setMarker_mem (s : State) (st : StackId) (v : Marker) : (s.setMarker st v).mem = s.mem := rfl
@[simp] theorem State.setMarker_hostMem (s : State) (st : StackId) (v : Marker) : (s.setMarker st v).hostMem = s.hostMem := rfl
@[simp] theorem State.setMarker_poison (s : State) (st : StackId) (v : Marker) : (s.setMarker st v).poison = s.poison := rfl
@[simp] theorem State.setMarker_hidden (s : State) (st : StackId) (v : Marker) : (s.setMarker st v).hidden = s.hidden := rfl
@[simp] theorem State.setMarker_arrayErr (s : State) (st : StackId) (v : Marker) : (s.setMarker st v).arrayErr = s.arrayErr := rfl
@[simp] theorem State.setMarker_hbmErr (s : State) (st : StackId) (v : Marker) : (s.setMarker st v).hbmErr = s.hbmErr := rfl
@[simp] theorem State.setMarker_rowPoison (s : State) (st : StackId) (v : Marker) : (s.setMarker st v).rowPoison = s.rowPoison := rfl
@[simp] theorem State.setMarker_slate (s : State) (st : StackId) (v : Marker) : (s.setMarker st v).slate = s.slate := rfl
@[simp] theorem State.setMarker_cores (s : State) (st : StackId) (v : Marker) : (s.setMarker st v).cores = s.cores := rfl
@[simp] theorem State.setMarker_clusters (s : State) (st : StackId) (v : Marker) : (s.setMarker st v).clusters = s.clusters := rfl
@[simp] theorem State.setMarker_lessons (s : State) (st : StackId) (v : Marker) : (s.setMarker st v).lessons = s.lessons := rfl
@[simp] theorem State.setMarker_lessonNext (s : State) (st : StackId) (v : Marker) : (s.setMarker st v).lessonNext = s.lessonNext := rfl
@[simp] theorem State.setMarker_partMsgs (s : State) (st : StackId) (v : Marker) : (s.setMarker st v).partMsgs = s.partMsgs := rfl
@[simp] theorem State.setMarker_bells (s : State) (st : StackId) (v : Marker) : (s.setMarker st v).bells = s.bells := rfl
@[simp] theorem State.setMarker_slices (s : State) (st : StackId) (v : Marker) : (s.setMarker st v).slices = s.slices := rfl
@[simp] theorem State.setMarker_hallwayFails (s : State) (st : StackId) (v : Marker) : (s.setMarker st v).hallwayFails = s.hallwayFails := rfl
@[simp] theorem State.setMarker_ports (s : State) (st : StackId) (v : Marker) : (s.setMarker st v).ports = s.ports := rfl
@[simp] theorem State.setMarker_trackers (s : State) (st : StackId) (v : Marker) : (s.setMarker st v).trackers = s.trackers := rfl
@[simp] theorem State.setMarker_heldReqs (s : State) (st : StackId) (v : Marker) : (s.setMarker st v).heldReqs = s.heldReqs := rfl
@[simp] theorem State.setMarker_assemblies (s : State) (st : StackId) (v : Marker) : (s.setMarker st v).assemblies = s.assemblies := rfl
@[simp] theorem State.setMarker_corridor (s : State) (st : StackId) (v : Marker) : (s.setMarker st v).corridor = s.corridor := rfl
@[simp] theorem State.setMarker_queues (s : State) (st : StackId) (v : Marker) : (s.setMarker st v).queues = s.queues := rfl
@[simp] theorem State.setMarker_hports (s : State) (st : StackId) (v : Marker) : (s.setMarker st v).hports = s.hports := rfl
@[simp] theorem State.setMarker_holdRing (s : State) (st : StackId) (v : Marker) : (s.setMarker st v).holdRing = s.holdRing := rfl
@[simp] theorem State.setMarker_holdWait (s : State) (st : StackId) (v : Marker) : (s.setMarker st v).holdWait = s.holdWait := rfl
@[simp] theorem State.setMarker_images (s : State) (st : StackId) (v : Marker) : (s.setMarker st v).images = s.images := rfl
@[simp] theorem State.setMarker_activation (s : State) (st : StackId) (v : Marker) : (s.setMarker st v).activation = s.activation := rfl
@[simp] theorem State.setMarker_tutors (s : State) (st : StackId) (v : Marker) : (s.setMarker st v).tutors = s.tutors := rfl
@[simp] theorem State.setMarker_powerCmd (s : State) (st : StackId) (v : Marker) : (s.setMarker st v).powerCmd = s.powerCmd := rfl
@[simp] theorem State.setMarker_loops (s : State) (st : StackId) (v : Marker) : (s.setMarker st v).loops = s.loops := rfl
@[simp] theorem State.setMarker_capTicks (s : State) (st : StackId) (v : Marker) : (s.setMarker st v).capTicks = s.capTicks := rfl
@[simp] theorem State.setMarker_capSum (s : State) (st : StackId) (v : Marker) : (s.setMarker st v).capSum = s.capSum := rfl
@[simp] theorem State.setMarker_coolTicks (s : State) (st : StackId) (v : Marker) : (s.setMarker st v).coolTicks = s.coolTicks := rfl
@[simp] theorem State.setMarker_warmTicks (s : State) (st : StackId) (v : Marker) : (s.setMarker st v).warmTicks = s.warmTicks := rfl
@[simp] theorem State.setMarker_issueOrder (s : State) (st : StackId) (v : Marker) : (s.setMarker st v).issueOrder = s.issueOrder := rfl
@[simp] theorem State.setMarker_resets (s : State) (st : StackId) (v : Marker) : (s.setMarker st v).resets = s.resets := rfl
@[simp] theorem State.setMarker_proctor (s : State) (st : StackId) (v : Marker) : (s.setMarker st v).proctor = s.proctor := rfl
@[simp] theorem State.setMarker_freeNext (s : State) (st : StackId) (v : Marker) : (s.setMarker st v).freeNext = s.freeNext := rfl
@[simp] theorem State.setMarker_outbox (s : State) (st : StackId) (v : Marker) : (s.setMarker st v).outbox = s.outbox := rfl

/-! ## State.setPort: all fields but `ports` -/

@[simp] theorem State.setPort_regs (s : State) (p : Nat) (v : FPort) : (s.setPort p v).regs = s.regs := rfl
@[simp] theorem State.setPort_halves (s : State) (p : Nat) (v : FPort) : (s.setPort p v).halves = s.halves := rfl
@[simp] theorem State.setPort_mem (s : State) (p : Nat) (v : FPort) : (s.setPort p v).mem = s.mem := rfl
@[simp] theorem State.setPort_hostMem (s : State) (p : Nat) (v : FPort) : (s.setPort p v).hostMem = s.hostMem := rfl
@[simp] theorem State.setPort_poison (s : State) (p : Nat) (v : FPort) : (s.setPort p v).poison = s.poison := rfl
@[simp] theorem State.setPort_hidden (s : State) (p : Nat) (v : FPort) : (s.setPort p v).hidden = s.hidden := rfl
@[simp] theorem State.setPort_arrayErr (s : State) (p : Nat) (v : FPort) : (s.setPort p v).arrayErr = s.arrayErr := rfl
@[simp] theorem State.setPort_hbmErr (s : State) (p : Nat) (v : FPort) : (s.setPort p v).hbmErr = s.hbmErr := rfl
@[simp] theorem State.setPort_rowPoison (s : State) (p : Nat) (v : FPort) : (s.setPort p v).rowPoison = s.rowPoison := rfl
@[simp] theorem State.setPort_slate (s : State) (p : Nat) (v : FPort) : (s.setPort p v).slate = s.slate := rfl
@[simp] theorem State.setPort_cores (s : State) (p : Nat) (v : FPort) : (s.setPort p v).cores = s.cores := rfl
@[simp] theorem State.setPort_clusters (s : State) (p : Nat) (v : FPort) : (s.setPort p v).clusters = s.clusters := rfl
@[simp] theorem State.setPort_lessons (s : State) (p : Nat) (v : FPort) : (s.setPort p v).lessons = s.lessons := rfl
@[simp] theorem State.setPort_lessonNext (s : State) (p : Nat) (v : FPort) : (s.setPort p v).lessonNext = s.lessonNext := rfl
@[simp] theorem State.setPort_partMsgs (s : State) (p : Nat) (v : FPort) : (s.setPort p v).partMsgs = s.partMsgs := rfl
@[simp] theorem State.setPort_bells (s : State) (p : Nat) (v : FPort) : (s.setPort p v).bells = s.bells := rfl
@[simp] theorem State.setPort_slices (s : State) (p : Nat) (v : FPort) : (s.setPort p v).slices = s.slices := rfl
@[simp] theorem State.setPort_hallwayFails (s : State) (p : Nat) (v : FPort) : (s.setPort p v).hallwayFails = s.hallwayFails := rfl
@[simp] theorem State.setPort_markers (s : State) (p : Nat) (v : FPort) : (s.setPort p v).markers = s.markers := rfl
@[simp] theorem State.setPort_trackers (s : State) (p : Nat) (v : FPort) : (s.setPort p v).trackers = s.trackers := rfl
@[simp] theorem State.setPort_heldReqs (s : State) (p : Nat) (v : FPort) : (s.setPort p v).heldReqs = s.heldReqs := rfl
@[simp] theorem State.setPort_assemblies (s : State) (p : Nat) (v : FPort) : (s.setPort p v).assemblies = s.assemblies := rfl
@[simp] theorem State.setPort_corridor (s : State) (p : Nat) (v : FPort) : (s.setPort p v).corridor = s.corridor := rfl
@[simp] theorem State.setPort_queues (s : State) (p : Nat) (v : FPort) : (s.setPort p v).queues = s.queues := rfl
@[simp] theorem State.setPort_hports (s : State) (p : Nat) (v : FPort) : (s.setPort p v).hports = s.hports := rfl
@[simp] theorem State.setPort_holdRing (s : State) (p : Nat) (v : FPort) : (s.setPort p v).holdRing = s.holdRing := rfl
@[simp] theorem State.setPort_holdWait (s : State) (p : Nat) (v : FPort) : (s.setPort p v).holdWait = s.holdWait := rfl
@[simp] theorem State.setPort_images (s : State) (p : Nat) (v : FPort) : (s.setPort p v).images = s.images := rfl
@[simp] theorem State.setPort_activation (s : State) (p : Nat) (v : FPort) : (s.setPort p v).activation = s.activation := rfl
@[simp] theorem State.setPort_tutors (s : State) (p : Nat) (v : FPort) : (s.setPort p v).tutors = s.tutors := rfl
@[simp] theorem State.setPort_powerCmd (s : State) (p : Nat) (v : FPort) : (s.setPort p v).powerCmd = s.powerCmd := rfl
@[simp] theorem State.setPort_loops (s : State) (p : Nat) (v : FPort) : (s.setPort p v).loops = s.loops := rfl
@[simp] theorem State.setPort_capTicks (s : State) (p : Nat) (v : FPort) : (s.setPort p v).capTicks = s.capTicks := rfl
@[simp] theorem State.setPort_capSum (s : State) (p : Nat) (v : FPort) : (s.setPort p v).capSum = s.capSum := rfl
@[simp] theorem State.setPort_coolTicks (s : State) (p : Nat) (v : FPort) : (s.setPort p v).coolTicks = s.coolTicks := rfl
@[simp] theorem State.setPort_warmTicks (s : State) (p : Nat) (v : FPort) : (s.setPort p v).warmTicks = s.warmTicks := rfl
@[simp] theorem State.setPort_issueOrder (s : State) (p : Nat) (v : FPort) : (s.setPort p v).issueOrder = s.issueOrder := rfl
@[simp] theorem State.setPort_resets (s : State) (p : Nat) (v : FPort) : (s.setPort p v).resets = s.resets := rfl
@[simp] theorem State.setPort_proctor (s : State) (p : Nat) (v : FPort) : (s.setPort p v).proctor = s.proctor := rfl
@[simp] theorem State.setPort_freeNext (s : State) (p : Nat) (v : FPort) : (s.setPort p v).freeNext = s.freeNext := rfl
@[simp] theorem State.setPort_outbox (s : State) (p : Nat) (v : FPort) : (s.setPort p v).outbox = s.outbox := rfl

/-! ## State.setAssembly: all fields but `assemblies` -/

@[simp] theorem State.setAssembly_regs (s : State) (st : Nat) (v : Assembly) : (s.setAssembly st v).regs = s.regs := rfl
@[simp] theorem State.setAssembly_halves (s : State) (st : Nat) (v : Assembly) : (s.setAssembly st v).halves = s.halves := rfl
@[simp] theorem State.setAssembly_mem (s : State) (st : Nat) (v : Assembly) : (s.setAssembly st v).mem = s.mem := rfl
@[simp] theorem State.setAssembly_hostMem (s : State) (st : Nat) (v : Assembly) : (s.setAssembly st v).hostMem = s.hostMem := rfl
@[simp] theorem State.setAssembly_poison (s : State) (st : Nat) (v : Assembly) : (s.setAssembly st v).poison = s.poison := rfl
@[simp] theorem State.setAssembly_hidden (s : State) (st : Nat) (v : Assembly) : (s.setAssembly st v).hidden = s.hidden := rfl
@[simp] theorem State.setAssembly_arrayErr (s : State) (st : Nat) (v : Assembly) : (s.setAssembly st v).arrayErr = s.arrayErr := rfl
@[simp] theorem State.setAssembly_hbmErr (s : State) (st : Nat) (v : Assembly) : (s.setAssembly st v).hbmErr = s.hbmErr := rfl
@[simp] theorem State.setAssembly_rowPoison (s : State) (st : Nat) (v : Assembly) : (s.setAssembly st v).rowPoison = s.rowPoison := rfl
@[simp] theorem State.setAssembly_slate (s : State) (st : Nat) (v : Assembly) : (s.setAssembly st v).slate = s.slate := rfl
@[simp] theorem State.setAssembly_cores (s : State) (st : Nat) (v : Assembly) : (s.setAssembly st v).cores = s.cores := rfl
@[simp] theorem State.setAssembly_clusters (s : State) (st : Nat) (v : Assembly) : (s.setAssembly st v).clusters = s.clusters := rfl
@[simp] theorem State.setAssembly_lessons (s : State) (st : Nat) (v : Assembly) : (s.setAssembly st v).lessons = s.lessons := rfl
@[simp] theorem State.setAssembly_lessonNext (s : State) (st : Nat) (v : Assembly) : (s.setAssembly st v).lessonNext = s.lessonNext := rfl
@[simp] theorem State.setAssembly_partMsgs (s : State) (st : Nat) (v : Assembly) : (s.setAssembly st v).partMsgs = s.partMsgs := rfl
@[simp] theorem State.setAssembly_bells (s : State) (st : Nat) (v : Assembly) : (s.setAssembly st v).bells = s.bells := rfl
@[simp] theorem State.setAssembly_slices (s : State) (st : Nat) (v : Assembly) : (s.setAssembly st v).slices = s.slices := rfl
@[simp] theorem State.setAssembly_hallwayFails (s : State) (st : Nat) (v : Assembly) : (s.setAssembly st v).hallwayFails = s.hallwayFails := rfl
@[simp] theorem State.setAssembly_markers (s : State) (st : Nat) (v : Assembly) : (s.setAssembly st v).markers = s.markers := rfl
@[simp] theorem State.setAssembly_ports (s : State) (st : Nat) (v : Assembly) : (s.setAssembly st v).ports = s.ports := rfl
@[simp] theorem State.setAssembly_trackers (s : State) (st : Nat) (v : Assembly) : (s.setAssembly st v).trackers = s.trackers := rfl
@[simp] theorem State.setAssembly_heldReqs (s : State) (st : Nat) (v : Assembly) : (s.setAssembly st v).heldReqs = s.heldReqs := rfl
@[simp] theorem State.setAssembly_corridor (s : State) (st : Nat) (v : Assembly) : (s.setAssembly st v).corridor = s.corridor := rfl
@[simp] theorem State.setAssembly_queues (s : State) (st : Nat) (v : Assembly) : (s.setAssembly st v).queues = s.queues := rfl
@[simp] theorem State.setAssembly_hports (s : State) (st : Nat) (v : Assembly) : (s.setAssembly st v).hports = s.hports := rfl
@[simp] theorem State.setAssembly_holdRing (s : State) (st : Nat) (v : Assembly) : (s.setAssembly st v).holdRing = s.holdRing := rfl
@[simp] theorem State.setAssembly_holdWait (s : State) (st : Nat) (v : Assembly) : (s.setAssembly st v).holdWait = s.holdWait := rfl
@[simp] theorem State.setAssembly_images (s : State) (st : Nat) (v : Assembly) : (s.setAssembly st v).images = s.images := rfl
@[simp] theorem State.setAssembly_activation (s : State) (st : Nat) (v : Assembly) : (s.setAssembly st v).activation = s.activation := rfl
@[simp] theorem State.setAssembly_tutors (s : State) (st : Nat) (v : Assembly) : (s.setAssembly st v).tutors = s.tutors := rfl
@[simp] theorem State.setAssembly_powerCmd (s : State) (st : Nat) (v : Assembly) : (s.setAssembly st v).powerCmd = s.powerCmd := rfl
@[simp] theorem State.setAssembly_loops (s : State) (st : Nat) (v : Assembly) : (s.setAssembly st v).loops = s.loops := rfl
@[simp] theorem State.setAssembly_capTicks (s : State) (st : Nat) (v : Assembly) : (s.setAssembly st v).capTicks = s.capTicks := rfl
@[simp] theorem State.setAssembly_capSum (s : State) (st : Nat) (v : Assembly) : (s.setAssembly st v).capSum = s.capSum := rfl
@[simp] theorem State.setAssembly_coolTicks (s : State) (st : Nat) (v : Assembly) : (s.setAssembly st v).coolTicks = s.coolTicks := rfl
@[simp] theorem State.setAssembly_warmTicks (s : State) (st : Nat) (v : Assembly) : (s.setAssembly st v).warmTicks = s.warmTicks := rfl
@[simp] theorem State.setAssembly_issueOrder (s : State) (st : Nat) (v : Assembly) : (s.setAssembly st v).issueOrder = s.issueOrder := rfl
@[simp] theorem State.setAssembly_resets (s : State) (st : Nat) (v : Assembly) : (s.setAssembly st v).resets = s.resets := rfl
@[simp] theorem State.setAssembly_proctor (s : State) (st : Nat) (v : Assembly) : (s.setAssembly st v).proctor = s.proctor := rfl
@[simp] theorem State.setAssembly_freeNext (s : State) (st : Nat) (v : Assembly) : (s.setAssembly st v).freeNext = s.freeNext := rfl
@[simp] theorem State.setAssembly_outbox (s : State) (st : Nat) (v : Assembly) : (s.setAssembly st v).outbox = s.outbox := rfl

/-! ## State.setQueue: all fields but `queues` -/

@[simp] theorem State.setQueue_regs (s : State) (q : Nat) (v : Queue) : (s.setQueue q v).regs = s.regs := rfl
@[simp] theorem State.setQueue_halves (s : State) (q : Nat) (v : Queue) : (s.setQueue q v).halves = s.halves := rfl
@[simp] theorem State.setQueue_mem (s : State) (q : Nat) (v : Queue) : (s.setQueue q v).mem = s.mem := rfl
@[simp] theorem State.setQueue_hostMem (s : State) (q : Nat) (v : Queue) : (s.setQueue q v).hostMem = s.hostMem := rfl
@[simp] theorem State.setQueue_poison (s : State) (q : Nat) (v : Queue) : (s.setQueue q v).poison = s.poison := rfl
@[simp] theorem State.setQueue_hidden (s : State) (q : Nat) (v : Queue) : (s.setQueue q v).hidden = s.hidden := rfl
@[simp] theorem State.setQueue_arrayErr (s : State) (q : Nat) (v : Queue) : (s.setQueue q v).arrayErr = s.arrayErr := rfl
@[simp] theorem State.setQueue_hbmErr (s : State) (q : Nat) (v : Queue) : (s.setQueue q v).hbmErr = s.hbmErr := rfl
@[simp] theorem State.setQueue_rowPoison (s : State) (q : Nat) (v : Queue) : (s.setQueue q v).rowPoison = s.rowPoison := rfl
@[simp] theorem State.setQueue_slate (s : State) (q : Nat) (v : Queue) : (s.setQueue q v).slate = s.slate := rfl
@[simp] theorem State.setQueue_cores (s : State) (q : Nat) (v : Queue) : (s.setQueue q v).cores = s.cores := rfl
@[simp] theorem State.setQueue_clusters (s : State) (q : Nat) (v : Queue) : (s.setQueue q v).clusters = s.clusters := rfl
@[simp] theorem State.setQueue_lessons (s : State) (q : Nat) (v : Queue) : (s.setQueue q v).lessons = s.lessons := rfl
@[simp] theorem State.setQueue_lessonNext (s : State) (q : Nat) (v : Queue) : (s.setQueue q v).lessonNext = s.lessonNext := rfl
@[simp] theorem State.setQueue_partMsgs (s : State) (q : Nat) (v : Queue) : (s.setQueue q v).partMsgs = s.partMsgs := rfl
@[simp] theorem State.setQueue_bells (s : State) (q : Nat) (v : Queue) : (s.setQueue q v).bells = s.bells := rfl
@[simp] theorem State.setQueue_slices (s : State) (q : Nat) (v : Queue) : (s.setQueue q v).slices = s.slices := rfl
@[simp] theorem State.setQueue_hallwayFails (s : State) (q : Nat) (v : Queue) : (s.setQueue q v).hallwayFails = s.hallwayFails := rfl
@[simp] theorem State.setQueue_markers (s : State) (q : Nat) (v : Queue) : (s.setQueue q v).markers = s.markers := rfl
@[simp] theorem State.setQueue_ports (s : State) (q : Nat) (v : Queue) : (s.setQueue q v).ports = s.ports := rfl
@[simp] theorem State.setQueue_trackers (s : State) (q : Nat) (v : Queue) : (s.setQueue q v).trackers = s.trackers := rfl
@[simp] theorem State.setQueue_heldReqs (s : State) (q : Nat) (v : Queue) : (s.setQueue q v).heldReqs = s.heldReqs := rfl
@[simp] theorem State.setQueue_assemblies (s : State) (q : Nat) (v : Queue) : (s.setQueue q v).assemblies = s.assemblies := rfl
@[simp] theorem State.setQueue_corridor (s : State) (q : Nat) (v : Queue) : (s.setQueue q v).corridor = s.corridor := rfl
@[simp] theorem State.setQueue_hports (s : State) (q : Nat) (v : Queue) : (s.setQueue q v).hports = s.hports := rfl
@[simp] theorem State.setQueue_holdRing (s : State) (q : Nat) (v : Queue) : (s.setQueue q v).holdRing = s.holdRing := rfl
@[simp] theorem State.setQueue_holdWait (s : State) (q : Nat) (v : Queue) : (s.setQueue q v).holdWait = s.holdWait := rfl
@[simp] theorem State.setQueue_images (s : State) (q : Nat) (v : Queue) : (s.setQueue q v).images = s.images := rfl
@[simp] theorem State.setQueue_activation (s : State) (q : Nat) (v : Queue) : (s.setQueue q v).activation = s.activation := rfl
@[simp] theorem State.setQueue_tutors (s : State) (q : Nat) (v : Queue) : (s.setQueue q v).tutors = s.tutors := rfl
@[simp] theorem State.setQueue_powerCmd (s : State) (q : Nat) (v : Queue) : (s.setQueue q v).powerCmd = s.powerCmd := rfl
@[simp] theorem State.setQueue_loops (s : State) (q : Nat) (v : Queue) : (s.setQueue q v).loops = s.loops := rfl
@[simp] theorem State.setQueue_capTicks (s : State) (q : Nat) (v : Queue) : (s.setQueue q v).capTicks = s.capTicks := rfl
@[simp] theorem State.setQueue_capSum (s : State) (q : Nat) (v : Queue) : (s.setQueue q v).capSum = s.capSum := rfl
@[simp] theorem State.setQueue_coolTicks (s : State) (q : Nat) (v : Queue) : (s.setQueue q v).coolTicks = s.coolTicks := rfl
@[simp] theorem State.setQueue_warmTicks (s : State) (q : Nat) (v : Queue) : (s.setQueue q v).warmTicks = s.warmTicks := rfl
@[simp] theorem State.setQueue_issueOrder (s : State) (q : Nat) (v : Queue) : (s.setQueue q v).issueOrder = s.issueOrder := rfl
@[simp] theorem State.setQueue_resets (s : State) (q : Nat) (v : Queue) : (s.setQueue q v).resets = s.resets := rfl
@[simp] theorem State.setQueue_proctor (s : State) (q : Nat) (v : Queue) : (s.setQueue q v).proctor = s.proctor := rfl
@[simp] theorem State.setQueue_freeNext (s : State) (q : Nat) (v : Queue) : (s.setQueue q v).freeNext = s.freeNext := rfl
@[simp] theorem State.setQueue_outbox (s : State) (q : Nat) (v : Queue) : (s.setQueue q v).outbox = s.outbox := rfl

/-! ## State.setHPort: all fields but `hports` -/

@[simp] theorem State.setHPort_regs (s : State) (h : Nat) (v : HPort) : (s.setHPort h v).regs = s.regs := rfl
@[simp] theorem State.setHPort_halves (s : State) (h : Nat) (v : HPort) : (s.setHPort h v).halves = s.halves := rfl
@[simp] theorem State.setHPort_mem (s : State) (h : Nat) (v : HPort) : (s.setHPort h v).mem = s.mem := rfl
@[simp] theorem State.setHPort_hostMem (s : State) (h : Nat) (v : HPort) : (s.setHPort h v).hostMem = s.hostMem := rfl
@[simp] theorem State.setHPort_poison (s : State) (h : Nat) (v : HPort) : (s.setHPort h v).poison = s.poison := rfl
@[simp] theorem State.setHPort_hidden (s : State) (h : Nat) (v : HPort) : (s.setHPort h v).hidden = s.hidden := rfl
@[simp] theorem State.setHPort_arrayErr (s : State) (h : Nat) (v : HPort) : (s.setHPort h v).arrayErr = s.arrayErr := rfl
@[simp] theorem State.setHPort_hbmErr (s : State) (h : Nat) (v : HPort) : (s.setHPort h v).hbmErr = s.hbmErr := rfl
@[simp] theorem State.setHPort_rowPoison (s : State) (h : Nat) (v : HPort) : (s.setHPort h v).rowPoison = s.rowPoison := rfl
@[simp] theorem State.setHPort_slate (s : State) (h : Nat) (v : HPort) : (s.setHPort h v).slate = s.slate := rfl
@[simp] theorem State.setHPort_cores (s : State) (h : Nat) (v : HPort) : (s.setHPort h v).cores = s.cores := rfl
@[simp] theorem State.setHPort_clusters (s : State) (h : Nat) (v : HPort) : (s.setHPort h v).clusters = s.clusters := rfl
@[simp] theorem State.setHPort_lessons (s : State) (h : Nat) (v : HPort) : (s.setHPort h v).lessons = s.lessons := rfl
@[simp] theorem State.setHPort_lessonNext (s : State) (h : Nat) (v : HPort) : (s.setHPort h v).lessonNext = s.lessonNext := rfl
@[simp] theorem State.setHPort_partMsgs (s : State) (h : Nat) (v : HPort) : (s.setHPort h v).partMsgs = s.partMsgs := rfl
@[simp] theorem State.setHPort_bells (s : State) (h : Nat) (v : HPort) : (s.setHPort h v).bells = s.bells := rfl
@[simp] theorem State.setHPort_slices (s : State) (h : Nat) (v : HPort) : (s.setHPort h v).slices = s.slices := rfl
@[simp] theorem State.setHPort_hallwayFails (s : State) (h : Nat) (v : HPort) : (s.setHPort h v).hallwayFails = s.hallwayFails := rfl
@[simp] theorem State.setHPort_markers (s : State) (h : Nat) (v : HPort) : (s.setHPort h v).markers = s.markers := rfl
@[simp] theorem State.setHPort_ports (s : State) (h : Nat) (v : HPort) : (s.setHPort h v).ports = s.ports := rfl
@[simp] theorem State.setHPort_trackers (s : State) (h : Nat) (v : HPort) : (s.setHPort h v).trackers = s.trackers := rfl
@[simp] theorem State.setHPort_heldReqs (s : State) (h : Nat) (v : HPort) : (s.setHPort h v).heldReqs = s.heldReqs := rfl
@[simp] theorem State.setHPort_assemblies (s : State) (h : Nat) (v : HPort) : (s.setHPort h v).assemblies = s.assemblies := rfl
@[simp] theorem State.setHPort_corridor (s : State) (h : Nat) (v : HPort) : (s.setHPort h v).corridor = s.corridor := rfl
@[simp] theorem State.setHPort_queues (s : State) (h : Nat) (v : HPort) : (s.setHPort h v).queues = s.queues := rfl
@[simp] theorem State.setHPort_holdRing (s : State) (h : Nat) (v : HPort) : (s.setHPort h v).holdRing = s.holdRing := rfl
@[simp] theorem State.setHPort_holdWait (s : State) (h : Nat) (v : HPort) : (s.setHPort h v).holdWait = s.holdWait := rfl
@[simp] theorem State.setHPort_images (s : State) (h : Nat) (v : HPort) : (s.setHPort h v).images = s.images := rfl
@[simp] theorem State.setHPort_activation (s : State) (h : Nat) (v : HPort) : (s.setHPort h v).activation = s.activation := rfl
@[simp] theorem State.setHPort_tutors (s : State) (h : Nat) (v : HPort) : (s.setHPort h v).tutors = s.tutors := rfl
@[simp] theorem State.setHPort_powerCmd (s : State) (h : Nat) (v : HPort) : (s.setHPort h v).powerCmd = s.powerCmd := rfl
@[simp] theorem State.setHPort_loops (s : State) (h : Nat) (v : HPort) : (s.setHPort h v).loops = s.loops := rfl
@[simp] theorem State.setHPort_capTicks (s : State) (h : Nat) (v : HPort) : (s.setHPort h v).capTicks = s.capTicks := rfl
@[simp] theorem State.setHPort_capSum (s : State) (h : Nat) (v : HPort) : (s.setHPort h v).capSum = s.capSum := rfl
@[simp] theorem State.setHPort_coolTicks (s : State) (h : Nat) (v : HPort) : (s.setHPort h v).coolTicks = s.coolTicks := rfl
@[simp] theorem State.setHPort_warmTicks (s : State) (h : Nat) (v : HPort) : (s.setHPort h v).warmTicks = s.warmTicks := rfl
@[simp] theorem State.setHPort_issueOrder (s : State) (h : Nat) (v : HPort) : (s.setHPort h v).issueOrder = s.issueOrder := rfl
@[simp] theorem State.setHPort_resets (s : State) (h : Nat) (v : HPort) : (s.setHPort h v).resets = s.resets := rfl
@[simp] theorem State.setHPort_proctor (s : State) (h : Nat) (v : HPort) : (s.setHPort h v).proctor = s.proctor := rfl
@[simp] theorem State.setHPort_freeNext (s : State) (h : Nat) (v : HPort) : (s.setHPort h v).freeNext = s.freeNext := rfl
@[simp] theorem State.setHPort_outbox (s : State) (h : Nat) (v : HPort) : (s.setHPort h v).outbox = s.outbox := rfl

/-! ## State.setTutor: all fields but `tutors` -/

@[simp] theorem State.setTutor_regs (s : State) (st : Nat) (v : Tutor) : (s.setTutor st v).regs = s.regs := rfl
@[simp] theorem State.setTutor_halves (s : State) (st : Nat) (v : Tutor) : (s.setTutor st v).halves = s.halves := rfl
@[simp] theorem State.setTutor_mem (s : State) (st : Nat) (v : Tutor) : (s.setTutor st v).mem = s.mem := rfl
@[simp] theorem State.setTutor_hostMem (s : State) (st : Nat) (v : Tutor) : (s.setTutor st v).hostMem = s.hostMem := rfl
@[simp] theorem State.setTutor_poison (s : State) (st : Nat) (v : Tutor) : (s.setTutor st v).poison = s.poison := rfl
@[simp] theorem State.setTutor_hidden (s : State) (st : Nat) (v : Tutor) : (s.setTutor st v).hidden = s.hidden := rfl
@[simp] theorem State.setTutor_arrayErr (s : State) (st : Nat) (v : Tutor) : (s.setTutor st v).arrayErr = s.arrayErr := rfl
@[simp] theorem State.setTutor_hbmErr (s : State) (st : Nat) (v : Tutor) : (s.setTutor st v).hbmErr = s.hbmErr := rfl
@[simp] theorem State.setTutor_rowPoison (s : State) (st : Nat) (v : Tutor) : (s.setTutor st v).rowPoison = s.rowPoison := rfl
@[simp] theorem State.setTutor_slate (s : State) (st : Nat) (v : Tutor) : (s.setTutor st v).slate = s.slate := rfl
@[simp] theorem State.setTutor_cores (s : State) (st : Nat) (v : Tutor) : (s.setTutor st v).cores = s.cores := rfl
@[simp] theorem State.setTutor_clusters (s : State) (st : Nat) (v : Tutor) : (s.setTutor st v).clusters = s.clusters := rfl
@[simp] theorem State.setTutor_lessons (s : State) (st : Nat) (v : Tutor) : (s.setTutor st v).lessons = s.lessons := rfl
@[simp] theorem State.setTutor_lessonNext (s : State) (st : Nat) (v : Tutor) : (s.setTutor st v).lessonNext = s.lessonNext := rfl
@[simp] theorem State.setTutor_partMsgs (s : State) (st : Nat) (v : Tutor) : (s.setTutor st v).partMsgs = s.partMsgs := rfl
@[simp] theorem State.setTutor_bells (s : State) (st : Nat) (v : Tutor) : (s.setTutor st v).bells = s.bells := rfl
@[simp] theorem State.setTutor_slices (s : State) (st : Nat) (v : Tutor) : (s.setTutor st v).slices = s.slices := rfl
@[simp] theorem State.setTutor_hallwayFails (s : State) (st : Nat) (v : Tutor) : (s.setTutor st v).hallwayFails = s.hallwayFails := rfl
@[simp] theorem State.setTutor_markers (s : State) (st : Nat) (v : Tutor) : (s.setTutor st v).markers = s.markers := rfl
@[simp] theorem State.setTutor_ports (s : State) (st : Nat) (v : Tutor) : (s.setTutor st v).ports = s.ports := rfl
@[simp] theorem State.setTutor_trackers (s : State) (st : Nat) (v : Tutor) : (s.setTutor st v).trackers = s.trackers := rfl
@[simp] theorem State.setTutor_heldReqs (s : State) (st : Nat) (v : Tutor) : (s.setTutor st v).heldReqs = s.heldReqs := rfl
@[simp] theorem State.setTutor_assemblies (s : State) (st : Nat) (v : Tutor) : (s.setTutor st v).assemblies = s.assemblies := rfl
@[simp] theorem State.setTutor_corridor (s : State) (st : Nat) (v : Tutor) : (s.setTutor st v).corridor = s.corridor := rfl
@[simp] theorem State.setTutor_queues (s : State) (st : Nat) (v : Tutor) : (s.setTutor st v).queues = s.queues := rfl
@[simp] theorem State.setTutor_hports (s : State) (st : Nat) (v : Tutor) : (s.setTutor st v).hports = s.hports := rfl
@[simp] theorem State.setTutor_holdRing (s : State) (st : Nat) (v : Tutor) : (s.setTutor st v).holdRing = s.holdRing := rfl
@[simp] theorem State.setTutor_holdWait (s : State) (st : Nat) (v : Tutor) : (s.setTutor st v).holdWait = s.holdWait := rfl
@[simp] theorem State.setTutor_images (s : State) (st : Nat) (v : Tutor) : (s.setTutor st v).images = s.images := rfl
@[simp] theorem State.setTutor_activation (s : State) (st : Nat) (v : Tutor) : (s.setTutor st v).activation = s.activation := rfl
@[simp] theorem State.setTutor_powerCmd (s : State) (st : Nat) (v : Tutor) : (s.setTutor st v).powerCmd = s.powerCmd := rfl
@[simp] theorem State.setTutor_loops (s : State) (st : Nat) (v : Tutor) : (s.setTutor st v).loops = s.loops := rfl
@[simp] theorem State.setTutor_capTicks (s : State) (st : Nat) (v : Tutor) : (s.setTutor st v).capTicks = s.capTicks := rfl
@[simp] theorem State.setTutor_capSum (s : State) (st : Nat) (v : Tutor) : (s.setTutor st v).capSum = s.capSum := rfl
@[simp] theorem State.setTutor_coolTicks (s : State) (st : Nat) (v : Tutor) : (s.setTutor st v).coolTicks = s.coolTicks := rfl
@[simp] theorem State.setTutor_warmTicks (s : State) (st : Nat) (v : Tutor) : (s.setTutor st v).warmTicks = s.warmTicks := rfl
@[simp] theorem State.setTutor_issueOrder (s : State) (st : Nat) (v : Tutor) : (s.setTutor st v).issueOrder = s.issueOrder := rfl
@[simp] theorem State.setTutor_resets (s : State) (st : Nat) (v : Tutor) : (s.setTutor st v).resets = s.resets := rfl
@[simp] theorem State.setTutor_proctor (s : State) (st : Nat) (v : Tutor) : (s.setTutor st v).proctor = s.proctor := rfl
@[simp] theorem State.setTutor_freeNext (s : State) (st : Nat) (v : Tutor) : (s.setTutor st v).freeNext = s.freeNext := rfl
@[simp] theorem State.setTutor_outbox (s : State) (st : Nat) (v : Tutor) : (s.setTutor st v).outbox = s.outbox := rfl

/-! ## State.setLoop: all fields but `loops` -/

@[simp] theorem State.setLoop_regs (s : State) (st : Nat) (v : Loops) : (s.setLoop st v).regs = s.regs := rfl
@[simp] theorem State.setLoop_halves (s : State) (st : Nat) (v : Loops) : (s.setLoop st v).halves = s.halves := rfl
@[simp] theorem State.setLoop_mem (s : State) (st : Nat) (v : Loops) : (s.setLoop st v).mem = s.mem := rfl
@[simp] theorem State.setLoop_hostMem (s : State) (st : Nat) (v : Loops) : (s.setLoop st v).hostMem = s.hostMem := rfl
@[simp] theorem State.setLoop_poison (s : State) (st : Nat) (v : Loops) : (s.setLoop st v).poison = s.poison := rfl
@[simp] theorem State.setLoop_hidden (s : State) (st : Nat) (v : Loops) : (s.setLoop st v).hidden = s.hidden := rfl
@[simp] theorem State.setLoop_arrayErr (s : State) (st : Nat) (v : Loops) : (s.setLoop st v).arrayErr = s.arrayErr := rfl
@[simp] theorem State.setLoop_hbmErr (s : State) (st : Nat) (v : Loops) : (s.setLoop st v).hbmErr = s.hbmErr := rfl
@[simp] theorem State.setLoop_rowPoison (s : State) (st : Nat) (v : Loops) : (s.setLoop st v).rowPoison = s.rowPoison := rfl
@[simp] theorem State.setLoop_slate (s : State) (st : Nat) (v : Loops) : (s.setLoop st v).slate = s.slate := rfl
@[simp] theorem State.setLoop_cores (s : State) (st : Nat) (v : Loops) : (s.setLoop st v).cores = s.cores := rfl
@[simp] theorem State.setLoop_clusters (s : State) (st : Nat) (v : Loops) : (s.setLoop st v).clusters = s.clusters := rfl
@[simp] theorem State.setLoop_lessons (s : State) (st : Nat) (v : Loops) : (s.setLoop st v).lessons = s.lessons := rfl
@[simp] theorem State.setLoop_lessonNext (s : State) (st : Nat) (v : Loops) : (s.setLoop st v).lessonNext = s.lessonNext := rfl
@[simp] theorem State.setLoop_partMsgs (s : State) (st : Nat) (v : Loops) : (s.setLoop st v).partMsgs = s.partMsgs := rfl
@[simp] theorem State.setLoop_bells (s : State) (st : Nat) (v : Loops) : (s.setLoop st v).bells = s.bells := rfl
@[simp] theorem State.setLoop_slices (s : State) (st : Nat) (v : Loops) : (s.setLoop st v).slices = s.slices := rfl
@[simp] theorem State.setLoop_hallwayFails (s : State) (st : Nat) (v : Loops) : (s.setLoop st v).hallwayFails = s.hallwayFails := rfl
@[simp] theorem State.setLoop_markers (s : State) (st : Nat) (v : Loops) : (s.setLoop st v).markers = s.markers := rfl
@[simp] theorem State.setLoop_ports (s : State) (st : Nat) (v : Loops) : (s.setLoop st v).ports = s.ports := rfl
@[simp] theorem State.setLoop_trackers (s : State) (st : Nat) (v : Loops) : (s.setLoop st v).trackers = s.trackers := rfl
@[simp] theorem State.setLoop_heldReqs (s : State) (st : Nat) (v : Loops) : (s.setLoop st v).heldReqs = s.heldReqs := rfl
@[simp] theorem State.setLoop_assemblies (s : State) (st : Nat) (v : Loops) : (s.setLoop st v).assemblies = s.assemblies := rfl
@[simp] theorem State.setLoop_corridor (s : State) (st : Nat) (v : Loops) : (s.setLoop st v).corridor = s.corridor := rfl
@[simp] theorem State.setLoop_queues (s : State) (st : Nat) (v : Loops) : (s.setLoop st v).queues = s.queues := rfl
@[simp] theorem State.setLoop_hports (s : State) (st : Nat) (v : Loops) : (s.setLoop st v).hports = s.hports := rfl
@[simp] theorem State.setLoop_holdRing (s : State) (st : Nat) (v : Loops) : (s.setLoop st v).holdRing = s.holdRing := rfl
@[simp] theorem State.setLoop_holdWait (s : State) (st : Nat) (v : Loops) : (s.setLoop st v).holdWait = s.holdWait := rfl
@[simp] theorem State.setLoop_images (s : State) (st : Nat) (v : Loops) : (s.setLoop st v).images = s.images := rfl
@[simp] theorem State.setLoop_activation (s : State) (st : Nat) (v : Loops) : (s.setLoop st v).activation = s.activation := rfl
@[simp] theorem State.setLoop_tutors (s : State) (st : Nat) (v : Loops) : (s.setLoop st v).tutors = s.tutors := rfl
@[simp] theorem State.setLoop_powerCmd (s : State) (st : Nat) (v : Loops) : (s.setLoop st v).powerCmd = s.powerCmd := rfl
@[simp] theorem State.setLoop_capTicks (s : State) (st : Nat) (v : Loops) : (s.setLoop st v).capTicks = s.capTicks := rfl
@[simp] theorem State.setLoop_capSum (s : State) (st : Nat) (v : Loops) : (s.setLoop st v).capSum = s.capSum := rfl
@[simp] theorem State.setLoop_coolTicks (s : State) (st : Nat) (v : Loops) : (s.setLoop st v).coolTicks = s.coolTicks := rfl
@[simp] theorem State.setLoop_warmTicks (s : State) (st : Nat) (v : Loops) : (s.setLoop st v).warmTicks = s.warmTicks := rfl
@[simp] theorem State.setLoop_issueOrder (s : State) (st : Nat) (v : Loops) : (s.setLoop st v).issueOrder = s.issueOrder := rfl
@[simp] theorem State.setLoop_resets (s : State) (st : Nat) (v : Loops) : (s.setLoop st v).resets = s.resets := rfl
@[simp] theorem State.setLoop_proctor (s : State) (st : Nat) (v : Loops) : (s.setLoop st v).proctor = s.proctor := rfl
@[simp] theorem State.setLoop_freeNext (s : State) (st : Nat) (v : Loops) : (s.setLoop st v).freeNext = s.freeNext := rfl
@[simp] theorem State.setLoop_outbox (s : State) (st : Nat) (v : Loops) : (s.setLoop st v).outbox = s.outbox := rfl

/-! ## State.emit: all fields but `outbox` -/

@[simp] theorem State.emit_regs (s : State) (o : Out) : (s.emit o).regs = s.regs := rfl
@[simp] theorem State.emit_halves (s : State) (o : Out) : (s.emit o).halves = s.halves := rfl
@[simp] theorem State.emit_mem (s : State) (o : Out) : (s.emit o).mem = s.mem := rfl
@[simp] theorem State.emit_hostMem (s : State) (o : Out) : (s.emit o).hostMem = s.hostMem := rfl
@[simp] theorem State.emit_poison (s : State) (o : Out) : (s.emit o).poison = s.poison := rfl
@[simp] theorem State.emit_hidden (s : State) (o : Out) : (s.emit o).hidden = s.hidden := rfl
@[simp] theorem State.emit_arrayErr (s : State) (o : Out) : (s.emit o).arrayErr = s.arrayErr := rfl
@[simp] theorem State.emit_hbmErr (s : State) (o : Out) : (s.emit o).hbmErr = s.hbmErr := rfl
@[simp] theorem State.emit_rowPoison (s : State) (o : Out) : (s.emit o).rowPoison = s.rowPoison := rfl
@[simp] theorem State.emit_slate (s : State) (o : Out) : (s.emit o).slate = s.slate := rfl
@[simp] theorem State.emit_cores (s : State) (o : Out) : (s.emit o).cores = s.cores := rfl
@[simp] theorem State.emit_clusters (s : State) (o : Out) : (s.emit o).clusters = s.clusters := rfl
@[simp] theorem State.emit_lessons (s : State) (o : Out) : (s.emit o).lessons = s.lessons := rfl
@[simp] theorem State.emit_lessonNext (s : State) (o : Out) : (s.emit o).lessonNext = s.lessonNext := rfl
@[simp] theorem State.emit_partMsgs (s : State) (o : Out) : (s.emit o).partMsgs = s.partMsgs := rfl
@[simp] theorem State.emit_bells (s : State) (o : Out) : (s.emit o).bells = s.bells := rfl
@[simp] theorem State.emit_slices (s : State) (o : Out) : (s.emit o).slices = s.slices := rfl
@[simp] theorem State.emit_hallwayFails (s : State) (o : Out) : (s.emit o).hallwayFails = s.hallwayFails := rfl
@[simp] theorem State.emit_markers (s : State) (o : Out) : (s.emit o).markers = s.markers := rfl
@[simp] theorem State.emit_ports (s : State) (o : Out) : (s.emit o).ports = s.ports := rfl
@[simp] theorem State.emit_trackers (s : State) (o : Out) : (s.emit o).trackers = s.trackers := rfl
@[simp] theorem State.emit_heldReqs (s : State) (o : Out) : (s.emit o).heldReqs = s.heldReqs := rfl
@[simp] theorem State.emit_assemblies (s : State) (o : Out) : (s.emit o).assemblies = s.assemblies := rfl
@[simp] theorem State.emit_corridor (s : State) (o : Out) : (s.emit o).corridor = s.corridor := rfl
@[simp] theorem State.emit_queues (s : State) (o : Out) : (s.emit o).queues = s.queues := rfl
@[simp] theorem State.emit_hports (s : State) (o : Out) : (s.emit o).hports = s.hports := rfl
@[simp] theorem State.emit_holdRing (s : State) (o : Out) : (s.emit o).holdRing = s.holdRing := rfl
@[simp] theorem State.emit_holdWait (s : State) (o : Out) : (s.emit o).holdWait = s.holdWait := rfl
@[simp] theorem State.emit_images (s : State) (o : Out) : (s.emit o).images = s.images := rfl
@[simp] theorem State.emit_activation (s : State) (o : Out) : (s.emit o).activation = s.activation := rfl
@[simp] theorem State.emit_tutors (s : State) (o : Out) : (s.emit o).tutors = s.tutors := rfl
@[simp] theorem State.emit_powerCmd (s : State) (o : Out) : (s.emit o).powerCmd = s.powerCmd := rfl
@[simp] theorem State.emit_loops (s : State) (o : Out) : (s.emit o).loops = s.loops := rfl
@[simp] theorem State.emit_capTicks (s : State) (o : Out) : (s.emit o).capTicks = s.capTicks := rfl
@[simp] theorem State.emit_capSum (s : State) (o : Out) : (s.emit o).capSum = s.capSum := rfl
@[simp] theorem State.emit_coolTicks (s : State) (o : Out) : (s.emit o).coolTicks = s.coolTicks := rfl
@[simp] theorem State.emit_warmTicks (s : State) (o : Out) : (s.emit o).warmTicks = s.warmTicks := rfl
@[simp] theorem State.emit_issueOrder (s : State) (o : Out) : (s.emit o).issueOrder = s.issueOrder := rfl
@[simp] theorem State.emit_resets (s : State) (o : Out) : (s.emit o).resets = s.resets := rfl
@[simp] theorem State.emit_proctor (s : State) (o : Out) : (s.emit o).proctor = s.proctor := rfl
@[simp] theorem State.emit_freeNext (s : State) (o : Out) : (s.emit o).freeNext = s.freeNext := rfl

/-! ## State.setByte: all fields but `mem` -/

@[simp] theorem State.setByte_regs (s : State) (a : Nat) (b : Byte) : (s.setByte a b).regs = s.regs := rfl
@[simp] theorem State.setByte_halves (s : State) (a : Nat) (b : Byte) : (s.setByte a b).halves = s.halves := rfl
@[simp] theorem State.setByte_hostMem (s : State) (a : Nat) (b : Byte) : (s.setByte a b).hostMem = s.hostMem := rfl
@[simp] theorem State.setByte_poison (s : State) (a : Nat) (b : Byte) : (s.setByte a b).poison = s.poison := rfl
@[simp] theorem State.setByte_hidden (s : State) (a : Nat) (b : Byte) : (s.setByte a b).hidden = s.hidden := rfl
@[simp] theorem State.setByte_arrayErr (s : State) (a : Nat) (b : Byte) : (s.setByte a b).arrayErr = s.arrayErr := rfl
@[simp] theorem State.setByte_hbmErr (s : State) (a : Nat) (b : Byte) : (s.setByte a b).hbmErr = s.hbmErr := rfl
@[simp] theorem State.setByte_rowPoison (s : State) (a : Nat) (b : Byte) : (s.setByte a b).rowPoison = s.rowPoison := rfl
@[simp] theorem State.setByte_slate (s : State) (a : Nat) (b : Byte) : (s.setByte a b).slate = s.slate := rfl
@[simp] theorem State.setByte_cores (s : State) (a : Nat) (b : Byte) : (s.setByte a b).cores = s.cores := rfl
@[simp] theorem State.setByte_clusters (s : State) (a : Nat) (b : Byte) : (s.setByte a b).clusters = s.clusters := rfl
@[simp] theorem State.setByte_lessons (s : State) (a : Nat) (b : Byte) : (s.setByte a b).lessons = s.lessons := rfl
@[simp] theorem State.setByte_lessonNext (s : State) (a : Nat) (b : Byte) : (s.setByte a b).lessonNext = s.lessonNext := rfl
@[simp] theorem State.setByte_partMsgs (s : State) (a : Nat) (b : Byte) : (s.setByte a b).partMsgs = s.partMsgs := rfl
@[simp] theorem State.setByte_bells (s : State) (a : Nat) (b : Byte) : (s.setByte a b).bells = s.bells := rfl
@[simp] theorem State.setByte_slices (s : State) (a : Nat) (b : Byte) : (s.setByte a b).slices = s.slices := rfl
@[simp] theorem State.setByte_hallwayFails (s : State) (a : Nat) (b : Byte) : (s.setByte a b).hallwayFails = s.hallwayFails := rfl
@[simp] theorem State.setByte_markers (s : State) (a : Nat) (b : Byte) : (s.setByte a b).markers = s.markers := rfl
@[simp] theorem State.setByte_ports (s : State) (a : Nat) (b : Byte) : (s.setByte a b).ports = s.ports := rfl
@[simp] theorem State.setByte_trackers (s : State) (a : Nat) (b : Byte) : (s.setByte a b).trackers = s.trackers := rfl
@[simp] theorem State.setByte_heldReqs (s : State) (a : Nat) (b : Byte) : (s.setByte a b).heldReqs = s.heldReqs := rfl
@[simp] theorem State.setByte_assemblies (s : State) (a : Nat) (b : Byte) : (s.setByte a b).assemblies = s.assemblies := rfl
@[simp] theorem State.setByte_corridor (s : State) (a : Nat) (b : Byte) : (s.setByte a b).corridor = s.corridor := rfl
@[simp] theorem State.setByte_queues (s : State) (a : Nat) (b : Byte) : (s.setByte a b).queues = s.queues := rfl
@[simp] theorem State.setByte_hports (s : State) (a : Nat) (b : Byte) : (s.setByte a b).hports = s.hports := rfl
@[simp] theorem State.setByte_holdRing (s : State) (a : Nat) (b : Byte) : (s.setByte a b).holdRing = s.holdRing := rfl
@[simp] theorem State.setByte_holdWait (s : State) (a : Nat) (b : Byte) : (s.setByte a b).holdWait = s.holdWait := rfl
@[simp] theorem State.setByte_images (s : State) (a : Nat) (b : Byte) : (s.setByte a b).images = s.images := rfl
@[simp] theorem State.setByte_activation (s : State) (a : Nat) (b : Byte) : (s.setByte a b).activation = s.activation := rfl
@[simp] theorem State.setByte_tutors (s : State) (a : Nat) (b : Byte) : (s.setByte a b).tutors = s.tutors := rfl
@[simp] theorem State.setByte_powerCmd (s : State) (a : Nat) (b : Byte) : (s.setByte a b).powerCmd = s.powerCmd := rfl
@[simp] theorem State.setByte_loops (s : State) (a : Nat) (b : Byte) : (s.setByte a b).loops = s.loops := rfl
@[simp] theorem State.setByte_capTicks (s : State) (a : Nat) (b : Byte) : (s.setByte a b).capTicks = s.capTicks := rfl
@[simp] theorem State.setByte_capSum (s : State) (a : Nat) (b : Byte) : (s.setByte a b).capSum = s.capSum := rfl
@[simp] theorem State.setByte_coolTicks (s : State) (a : Nat) (b : Byte) : (s.setByte a b).coolTicks = s.coolTicks := rfl
@[simp] theorem State.setByte_warmTicks (s : State) (a : Nat) (b : Byte) : (s.setByte a b).warmTicks = s.warmTicks := rfl
@[simp] theorem State.setByte_issueOrder (s : State) (a : Nat) (b : Byte) : (s.setByte a b).issueOrder = s.issueOrder := rfl
@[simp] theorem State.setByte_resets (s : State) (a : Nat) (b : Byte) : (s.setByte a b).resets = s.resets := rfl
@[simp] theorem State.setByte_proctor (s : State) (a : Nat) (b : Byte) : (s.setByte a b).proctor = s.proctor := rfl
@[simp] theorem State.setByte_freeNext (s : State) (a : Nat) (b : Byte) : (s.setByte a b).freeNext = s.freeNext := rfl
@[simp] theorem State.setByte_outbox (s : State) (a : Nat) (b : Byte) : (s.setByte a b).outbox = s.outbox := rfl

/-! ## Records: what is written is read, and every other record is as it was -/

@[simp] theorem State.core_setCore_same (s : State) (k : CoreId) (v : Core) : (s.setCore k v).core k = v := Tab.get_set_same _ _ _ _
theorem State.core_setCore_other (s : State) (k m : CoreId) (v : Core) (h : m ≠ k) : (s.setCore k v).core m = s.core m :=
  Tab.get_set_other _ _ _ _ (fun e => h (Fin.ext e))
@[simp] theorem State.cluster_setCluster_same (s : State) (k : Nat) (v : Cluster) : (s.setCluster k v).cluster k = v := Tab.get_set_same _ _ _ _
theorem State.cluster_setCluster_other (s : State) (k m : Nat) (v : Cluster) (h : m ≠ k) : (s.setCluster k v).cluster m = s.cluster m :=
  Tab.get_set_other _ _ _ _ h
@[simp] theorem State.slice_setSlice_same (s : State) (k : Nat) (v : Slice) : (s.setSlice k v).slice k = v := Tab.get_set_same _ _ _ _
theorem State.slice_setSlice_other (s : State) (k m : Nat) (v : Slice) (h : m ≠ k) : (s.setSlice k v).slice m = s.slice m :=
  Tab.get_set_other _ _ _ _ h
@[simp] theorem State.bell_setBell_same (s : State) (k : Nat) (v : Bell) : (s.setBell k v).bell k = v := Tab.get_set_same _ _ _ _
theorem State.bell_setBell_other (s : State) (k m : Nat) (v : Bell) (h : m ≠ k) : (s.setBell k v).bell m = s.bell m :=
  Tab.get_set_other _ _ _ _ h
@[simp] theorem State.marker_setMarker_same (s : State) (k : StackId) (v : Marker) : (s.setMarker k v).marker k = v := Tab.get_set_same _ _ _ _
theorem State.marker_setMarker_other (s : State) (k m : StackId) (v : Marker) (h : m ≠ k) : (s.setMarker k v).marker m = s.marker m :=
  Tab.get_set_other _ _ _ _ (fun e => h (Fin.ext e))
@[simp] theorem State.port_setPort_same (s : State) (k : Nat) (v : FPort) : (s.setPort k v).port k = v := Tab.get_set_same _ _ _ _
theorem State.port_setPort_other (s : State) (k m : Nat) (v : FPort) (h : m ≠ k) : (s.setPort k v).port m = s.port m :=
  Tab.get_set_other _ _ _ _ h
@[simp] theorem State.assembly_setAssembly_same (s : State) (k : Nat) (v : Assembly) : (s.setAssembly k v).assembly k = v := Tab.get_set_same _ _ _ _
theorem State.assembly_setAssembly_other (s : State) (k m : Nat) (v : Assembly) (h : m ≠ k) : (s.setAssembly k v).assembly m = s.assembly m :=
  Tab.get_set_other _ _ _ _ h
@[simp] theorem State.queue_setQueue_same (s : State) (k : Nat) (v : Queue) : (s.setQueue k v).queue k = v := Tab.get_set_same _ _ _ _
theorem State.queue_setQueue_other (s : State) (k m : Nat) (v : Queue) (h : m ≠ k) : (s.setQueue k v).queue m = s.queue m :=
  Tab.get_set_other _ _ _ _ h
@[simp] theorem State.hport_setHPort_same (s : State) (k : Nat) (v : HPort) : (s.setHPort k v).hport k = v := Tab.get_set_same _ _ _ _
theorem State.hport_setHPort_other (s : State) (k m : Nat) (v : HPort) (h : m ≠ k) : (s.setHPort k v).hport m = s.hport m :=
  Tab.get_set_other _ _ _ _ h
@[simp] theorem State.tutor_setTutor_same (s : State) (k : Nat) (v : Tutor) : (s.setTutor k v).tutor k = v := Tab.get_set_same _ _ _ _
theorem State.tutor_setTutor_other (s : State) (k m : Nat) (v : Tutor) (h : m ≠ k) : (s.setTutor k v).tutor m = s.tutor m :=
  Tab.get_set_other _ _ _ _ h
@[simp] theorem State.loop_setLoop_same (s : State) (k : Nat) (v : Loops) : (s.setLoop k v).loop k = v := Tab.get_set_same _ _ _ _
theorem State.loop_setLoop_other (s : State) (k m : Nat) (v : Loops) (h : m ≠ k) : (s.setLoop k v).loop m = s.loop m :=
  Tab.get_set_other _ _ _ _ h
@[simp] theorem Core.thread_setThread_same (c : Core) (n : Nat) (t : Thread) : (c.setThread n t).thread n = t := Tab.get_set_same _ _ _ _
theorem Core.thread_setThread_other (c : Core) (n m : Nat) (t : Thread) (h : m ≠ n) : (c.setThread n t).thread m = c.thread m :=
  Tab.get_set_other _ _ _ _ h

/-! ## Registers -/

/-- A register reads what was written, cut to its width. -/
@[simp] theorem State.reg_setReg_same (s : State) (n : RegName) (i j v : Nat) : (s.setReg n i j v).reg n i j = v % 2 ^ n.desc.width :=
  Tab.get_set_same _ _ _ _
/-- A write of a register leaves every register at another address. -/
theorem State.reg_setReg_other (s : State) (n m : RegName) (i j k l v : Nat) (h : m.addr k l ≠ n.addr i j) :
    (s.setReg n i j v).reg m k l = s.reg m k l := Tab.get_set_other _ _ _ _ h
/-- A write of a field leaves every register at another address. -/
theorem State.reg_setFld_other (s : State) (f : RegField) (m : RegName) (i j k l v : Nat) (h : m.addr k l ≠ f.reg.addr i j) :
    (s.setFld f i j v).reg m k l = s.reg m k l := State.reg_setReg_other s f.reg m i j k l _ h

/-- The bits that were put are read back. -/
theorem bits_putBits_same (x lo w v : Nat) : bits (putBits x lo w v) lo w = v % 2 ^ w := by
  unfold bits putBits
  have h0 : 0 < 2 ^ lo := Nat.two_pow_pos lo
  have h1 : x % 2 ^ lo + v % 2 ^ w * 2 ^ lo + x / 2 ^ (lo + w) * 2 ^ (lo + w)
      = x % 2 ^ lo + (v % 2 ^ w + x / 2 ^ (lo + w) * 2 ^ w) * 2 ^ lo := by rw [Nat.pow_add]; ring
  rw [h1, Nat.add_mul_div_right _ _ h0, Nat.div_eq_of_lt (Nat.mod_lt _ h0), Nat.zero_add, Nat.add_mul_mod_self_right, Nat.mod_mod]

/-! ## Taking a step over a list -/

/-- What each step keeps, a run over a list keeps. -/
theorem State.each_induct {α : Type} (P : State → Prop) (l : List α) (f : State → α → State) (s : State) (h : P s)
    (hf : ∀ s a, P s → P (f s a)) : P (s.each l f) := by
  unfold State.each
  induction l generalizing s with
  | nil => exact h
  | cons a l ih => exact ih _ (hf s a h)

end Sys2Proof.Machine
end

