-- ==== Sys2Proof/Laws/Memory.lean ====
section
/-!
SUPPORT. Laws of memory: what is written is read, a write leaves every other byte, and every memory operation keeps the canonical form.
-/
namespace Sys2Proof.Machine

/-! ## Numbers as bytes (R4) -/

@[simp] theorem toBytes_length (n x : Nat) : (toBytes n x).length = n := by
  induction n generalizing x with
  | zero => rfl
  | succ n ih => simp [toBytes, ih]

/-- The bytes of a number give it back, cut to their width. -/
@[simp] theorem ofBytes_toBytes (n x : Nat) : ofBytes (toBytes n x) = x % 256 ^ n := by
  induction n generalizing x with
  | zero => simp [toBytes, ofBytes, Nat.mod_one]
  | succ n ih =>
    simp only [toBytes, ofBytes, ih, BitVec.toNat_ofNat]
    have h8 : (2 : Nat) ^ 8 = 256 := rfl
    rw [h8, Nat.pow_succ, Nat.mul_comm (256 ^ n) 256, Nat.mod_mul]

/-! ## One byte -/

@[simp] theorem State.byte_setByte_same (s : State) (a : Nat) (b : Byte) : (s.setByte a b).byte a = b := Tab.get_set_same _ _ _ _
theorem State.byte_setByte_other (s : State) {a x : Nat} (b : Byte) (h : x ≠ a) : (s.setByte a b).byte x = s.byte x :=
  Tab.get_set_other _ _ _ _ h

/-! ## Runs of bytes -/

/-- A write of bytes leaves every byte outside them. -/
theorem State.byte_setBytes_outside (s : State) (a : Nat) (l : List Byte) (x : Nat) (h : x < a ∨ a + l.length ≤ x) :
    (s.setBytes a l).byte x = s.byte x := by
  induction l generalizing s a with
  | nil => rfl
  | cons b l ih =>
    simp only [List.length_cons] at h
    have h1 : x ≠ a := by omega
    exact (ih (s.setByte a b) (a + 1) (by omega)).trans (State.byte_setByte_other s b h1)

/-- Each byte written is read at its place. -/
theorem State.byte_setBytes_inside (s : State) (a : Nat) (l : List Byte) (i : Nat) (h : i < l.length) :
    (s.setBytes a l).byte (a + i) = l[i] := by
  induction l generalizing s a i with
  | nil => exact absurd h (by simp)
  | cons b l ih =>
    cases i with
    | zero =>
      have := State.byte_setBytes_outside (s.setByte a b) (a + 1) l a (Or.inl (by omega))
      simpa [State.setBytes] using this
    | succ i =>
      have := ih (s.setByte a b) (a + 1) i (by simpa using h)
      have e : a + (i + 1) = a + 1 + i := by omega
      rw [e]; simpa [State.setBytes] using this

/-- What is written to a range is read from it. -/
@[simp] theorem State.bytes_setBytes (s : State) (a : Nat) (l : List Byte) : (s.setBytes a l).bytes a l.length = l := by
  apply List.ext_getElem
  · simp [State.bytes]
  · intro i h1 h2
    simp only [State.bytes, List.getElem_map, List.getElem_range]
    exact State.byte_setBytes_inside s a l i h2

/-- A number written is read back, cut to its bytes (R4). -/
theorem State.num_setNum (s : State) (a n v : Nat) : (s.setNum a n v).num a n = v % 256 ^ n := by
  have h := State.bytes_setBytes s a (toBytes n v)
  rw [toBytes_length] at h
  simp only [State.num, State.setNum, h, ofBytes_toBytes]

/-- A write of bytes touches module memory alone: every other field is as it was. -/
theorem State.setBytes_eq (s : State) (a : Nat) (l : List Byte) : s.setBytes a l = { s with mem := (s.setBytes a l).mem } := by
  induction l generalizing s a with
  | nil => rfl
  | cons b l ih => exact ih (s.setByte a b) (a + 1)

@[simp] theorem State.setBytes_regs (s : State) (a : Nat) (l : List Byte) : (s.setBytes a l).regs = s.regs := by rw [State.setBytes_eq]
@[simp] theorem State.setBytes_cores (s : State) (a : Nat) (l : List Byte) : (s.setBytes a l).cores = s.cores := by rw [State.setBytes_eq]
@[simp] theorem State.setBytes_poison (s : State) (a : Nat) (l : List Byte) : (s.setBytes a l).poison = s.poison := by rw [State.setBytes_eq]
@[simp] theorem State.setBytes_hostMem (s : State) (a : Nat) (l : List Byte) : (s.setBytes a l).hostMem = s.hostMem := by rw [State.setBytes_eq]
@[simp] theorem State.setBytes_slices (s : State) (a : Nat) (l : List Byte) : (s.setBytes a l).slices = s.slices := by rw [State.setBytes_eq]
@[simp] theorem State.setBytes_reg (s : State) (a : Nat) (l : List Byte) (n : RegName) (i j : Nat) : (s.setBytes a l).reg n i j = s.reg n i j := by
  simp only [State.reg, State.setBytes_regs]

/-! ## The canonical form -/

@[simp] theorem State.setByte_wf (s : State) (a : Nat) (b : Byte) (h : Memory.wf s.mem = true) : Memory.wf (s.setByte a b).mem = true :=
  Tab.set_wf _ _ _ _ h

@[simp] theorem State.setBytes_wf (s : State) (a : Nat) (l : List Byte) (h : Memory.wf s.mem = true) : Memory.wf (s.setBytes a l).mem = true := by
  induction l generalizing s a with
  | nil => exact h
  | cons b l ih => exact ih _ _ (State.setByte_wf s a b h)

@[simp] theorem State.setNum_wf (s : State) (a n v : Nat) (h : Memory.wf s.mem = true) : Memory.wf (s.setNum a n v).mem = true :=
  State.setBytes_wf s a _ h

@[simp] theorem State.setHostBytes_wf (s : State) (a : Nat) (l : List Byte) (h : Memory.wf s.hostMem = true) :
    Memory.wf (s.setHostBytes a l).hostMem = true := by
  induction l generalizing s a with
  | nil => exact h
  | cons b l ih => exact ih _ _ (Tab.set_wf _ _ _ _ h)

/-- A stretch of memory that is cleared keeps the canonical form of the rest. -/
@[simp] theorem State.clearMem_wf (s : State) (lo n : Nat) (h : Memory.wf s.mem = true) : Memory.wf (s.clearMem lo n).mem = true :=
  Tab.filter_wfFrom _ _ _ _ h

/-- The state right after reset has the canonical form. -/
theorem State.reset_memWf : State.reset.memWf = true := rfl

end Sys2Proof.Machine
end

