-- ==== Sys2Proof/Laws/QueueThreads.lean ====
section
/-!
SUPPORT. Frame laws: what threads, engines and streams do leaves the queue of waiting commands as it is.
-/
namespace Sys2Proof.Machine
set_option linter.all false

/-! ## Machine/Operands.lean -/

@[simp ↓] theorem State.setRowPoison_pending (s : State) (a1) (a2) (a3) : (State.setRowPoison s a1 a2 a3).pending = s.pending := by simp [State.setRowPoison]
@[simp ↓] theorem State.storeWrite_pending (s : State) (a1) (a2) (a3) (a4) : (State.storeWrite s a1 a2 a3 a4).pending = s.pending := by
  unfold State.storeWrite; repeat' (first | (simp; done) | split)
@[simp ↓] theorem State.storeWriteRange_pending (s : State) (a1) (a2) (a3) : (State.storeWriteRange s a1 a2 a3).pending = s.pending := by simp [State.storeWriteRange]
@[simp ↓] theorem State.writeTile_pending (s : State) (a1) (a2) (a3) : (State.writeTile s a1 a2 a3).pending = s.pending := by
  unfold State.writeTile; (try dsimp only); repeat' (first | with_reducible rfl | (simp; done) | split | (refine (State.each_pending _ _ _ ?_).trans ?_ <;> intros <;> (try dsimp only)) | simp)
@[simp ↓] theorem State.writeLx_pending (s : State) (a1) (a2) (a3) : (State.writeLx s a1 a2 a3).pending = s.pending := by simp [State.writeLx]
@[simp ↓] theorem State.setAcc_pending (s : State) (a1) (a2) (a3) : (State.setAcc s a1 a2 a3).pending = s.pending := by simp [State.setAcc]

/-! ## Machine/Faults.lean -/

@[simp ↓] theorem State.recordFault_pending (s : State) (a1) (a2) : (State.recordFault s a1 a2).pending = s.pending := by
  unfold State.recordFault; dsimp only; repeat' (first | (simp; done) | split)
@[simp ↓] theorem State.raise_pending (s : State) (a1) (a2) (a3) : (State.raise s a1 a2 a3).pending = s.pending := by
  unfold State.raise; dsimp only; repeat' (first | (simp; done) | split)
@[simp ↓] theorem State.raiseEngine_pending (s : State) (a1) (a2) (a3) (a4) : (State.raiseEngine s a1 a2 a3 a4).pending = s.pending := by simp [State.raiseEngine]

/-! ## Machine/Streams.lean -/

@[simp ↓] theorem State.takeReleases_pending (s : State) (a1) : (State.takeReleases s a1).pending = s.pending := by
  unfold State.takeReleases; split <;> simp
@[simp ↓] theorem State.touchAhead_pending (s : State) (a1) (a2) (a3) (a4) (a5) : (State.touchAhead s a1 a2 a3 a4 a5).pending = s.pending := by
  unfold State.touchAhead; (try dsimp only); repeat' (first | with_reducible rfl | (simp; done) | split | (refine (State.each_pending _ _ _ ?_).trans ?_ <;> intros <;> (try dsimp only)) | simp)
@[simp ↓] theorem streamTransferStart_pending (s : State) (a1) (a2) : (streamTransferStart s a1 a2).pending = s.pending := by
  unfold streamTransferStart; dsimp only; repeat' (first | (simp; done) | split)
@[simp ↓] theorem State.markLesson_pending (s : State) (a1) (a2) : (State.markLesson s a1 a2).pending = s.pending := by
  unfold State.markLesson; split <;> simp
@[simp ↓] theorem State.raiseStream_pending (s : State) (a1) (a2) (a3) (a4) : (State.raiseStream s a1 a2 a3 a4).pending = s.pending := by simp [State.raiseStream]
@[simp ↓] theorem State.sendRequest_pending (s : State) (a1) (a2) (a3) (a4) (a5) : (State.sendRequest s a1 a2 a3 a4 a5).pending = s.pending := by
  unfold State.sendRequest; repeat' (first | (simp; done) | split)
@[simp ↓] theorem streamRequestSend_pending (s : State) (a1) : (streamRequestSend s a1).pending = s.pending := by
  unfold streamRequestSend; repeat' (first | (simp; done) | split)
@[simp ↓] theorem State.moveSector_pending (s : State) (a1) (a2) (a3) : (State.moveSector s a1 a2 a3).pending = s.pending := by
  unfold State.moveSector; repeat' (first | (simp; done) | split)
@[simp ↓] theorem streamRequestReturn_pending (s : State) (a1) (a2) : (streamRequestReturn s a1 a2).pending = s.pending := by
  unfold streamRequestReturn; dsimp only; repeat' (first | (simp; done) | split)
@[simp ↓] theorem streamTransferEnd_pending (s : State) (a1) (a2) : (streamTransferEnd s a1 a2).pending = s.pending := by
  unfold streamTransferEnd; dsimp only; repeat' (first | (simp; done) | split)

/-! ## Machine/Messages.lean -/

@[simp ↓] theorem State.sendFrame_pending (s : State) (a1) (a2) (a3) (a4) : (State.sendFrame s a1 a2 a3 a4).pending = s.pending := by
  unfold State.sendFrame; split <;> simp
@[simp ↓] theorem State.portSend_pending (s : State) (a1) (a2) (a3) : (State.portSend s a1 a2 a3).pending = s.pending := by
  unfold State.portSend; split <;> simp
@[simp ↓] theorem State.sendVc0_pending (s : State) (a1) (a2) (a3) (a4) : (State.sendVc0 s a1 a2 a3 a4).pending = s.pending := by
  unfold State.sendVc0; repeat' (first | (simp; done) | split)

/-! ## Machine/Bells.lean -/

@[simp ↓] theorem State.onLesson_pending (s : State) (a1) (a2) : (State.onLesson s a1 a2).pending = s.pending := by simp [State.onLesson]
@[simp ↓] theorem State.stopLesson_pending (s : State) (a1) (a2) : (State.stopLesson s a1 a2).pending = s.pending := by
  unfold State.stopLesson; repeat' (first | (simp; done) | split)
@[simp ↓] theorem State.sendBell_pending (s : State) (a1) (a2) (a3) (a4) (a5) : (State.sendBell s a1 a2 a3 a4 a5).pending = s.pending := by
  unfold State.sendBell; split <;> simp
@[simp ↓] theorem State.bellReport_pending (s : State) (a1) : (State.bellReport s a1).pending = s.pending := by
  unfold State.bellReport; dsimp only; repeat' (first | (simp; done) | split)
@[simp ↓] theorem bellArrive_pending (s : State) (a1) (a2) (a3) (a4) : (bellArrive s a1 a2 a3 a4).pending = s.pending := by simp [bellArrive]
@[simp ↓] theorem State.wakeBell_pending (s : State) (a1) (a2) (a3) : (State.wakeBell s a1 a2 a3).pending = s.pending := by
  unfold State.wakeBell; dsimp only; repeat' (first | (simp; done) | split)
@[simp ↓] theorem State.endArrive_pending (s : State) (a1) : (State.endArrive s a1).pending = s.pending := by simp [State.endArrive]
@[simp ↓] theorem State.releaseBell_pending (s : State) (a1) (a2) : (State.releaseBell s a1 a2).pending = s.pending := by simp [State.releaseBell]
@[simp ↓] theorem bellRelease_pending (s : State) (a1) : (bellRelease s a1).pending = s.pending := by
  unfold bellRelease; dsimp only; repeat' (first | (simp; done) | split)
@[simp ↓] theorem bellReleaseMessage_pending (s : State) (a1) : (bellReleaseMessage s a1).pending = s.pending := by
  unfold bellReleaseMessage; dsimp only; repeat' (first | (simp; done) | split)
@[simp ↓] theorem bellArriveMessage_pending (s : State) (a1) : (bellArriveMessage s a1).pending = s.pending := by
  unfold bellArriveMessage; dsimp only; repeat' (first | (simp; done) | split)
@[simp ↓] theorem State.breakBell_pending (s : State) (a1) : (State.breakBell s a1).pending = s.pending := by simp [State.breakBell]
@[simp ↓] theorem State.leaderBreak_pending (s : State) (a1) : (State.leaderBreak s a1).pending = s.pending := by
  unfold State.leaderBreak; dsimp only; repeat' (first | (simp; done) | split)
@[simp ↓] theorem State.ownBreak_pending (s : State) (a1) : (State.ownBreak s a1).pending = s.pending := by
  unfold State.ownBreak; dsimp only; repeat' (first | (simp; done) | split)
@[simp ↓] theorem bellTimeout_pending (s : State) (a1) : (bellTimeout s a1).pending = s.pending := by
  unfold bellTimeout; dsimp only; repeat' (first | (simp; done) | split)
@[simp ↓] theorem bellBreakMessage_pending (s : State) (a1) : (bellBreakMessage s a1).pending = s.pending := by
  unfold bellBreakMessage; dsimp only; repeat' (first | (simp; done) | split)
@[simp ↓] theorem bellArrivalReport_pending (s : State) (a1) (a2) : (bellArrivalReport s a1 a2).pending = s.pending := by
  unfold bellArrivalReport; dsimp only; repeat' (first | (simp; done) | split)

/-! ## Machine/Threads.lean -/

@[simp ↓] theorem State.onThread_pending (s : State) (a1) (a2) (a3) : (State.onThread s a1 a2 a3).pending = s.pending := by simp [State.onThread]
@[simp ↓] theorem State.addOutst_pending (s : State) (a1) (a2) : (State.addOutst s a1 a2).pending = s.pending := by simp [State.addOutst]
@[simp ↓] theorem State.enqueue_pending (s : State) (a1) (a2) (a3) (a4) (a5) (a6) : (State.enqueue s a1 a2 a3 a4 a5 a6).pending = s.pending := by simp [State.enqueue]
@[simp ↓] theorem State.atBell_pending (s : State) (a1) (a2) (a3) (a4) (a5) : (State.atBell s a1 a2 a3 a4 a5).pending = s.pending := by
  unfold State.atBell; split <;> simp
@[simp ↓] theorem effect_pending (s : State) (a1) (a2) (a3) (a4) (a5) (a6) : (effect s a1 a2 a3 a4 a5 a6).pending = s.pending := by
  unfold effect; repeat' (first | (simp; done) | split)
@[simp ↓] theorem issued_pending (s : State) (a1) (a2) (a3) (a4) (a5) : (issued s a1 a2 a3 a4 a5).pending = s.pending := by
  unfold issued; split <;> simp
@[simp ↓] theorem State.refuseBundle_pending (s : State) (a1) (a2) (a3) (a4) (a5) (a6) : (State.refuseBundle s a1 a2 a3 a4 a5 a6).pending = s.pending := by
  unfold State.refuseBundle; split <;> simp
@[simp ↓] theorem issueBundle_pending (s : State) (a1) (a2) : (issueBundle s a1 a2).pending = s.pending := by
  unfold issueBundle; dsimp only; repeat' (first | (simp; done) | split)
@[simp ↓] theorem State.retryWait_pending (s : State) (a1) (a2) : (State.retryWait s a1 a2).pending = s.pending := by
  unfold State.retryWait; dsimp only; repeat' (first | (simp; done) | split)
@[simp ↓] theorem State.wakeStreams_pending (s : State) (a1) : (State.wakeStreams s a1).pending = s.pending := by simp [State.wakeStreams]

/-! ## Machine/Scalar.lean -/

@[simp ↓] theorem issue_pending (a1) (a2) (s : State) : (issue a1 a2 s).pending = s.pending := by simp [issue]
@[simp ↓] theorem issueLi_pending (a1) (a2) (s : State) : (issueLi a1 a2 s).pending = s.pending := by simp [issueLi]
@[simp ↓] theorem State.freeAccess_pending (s : State) (a1) (a2) : (State.freeAccess s a1 a2).pending = s.pending := by simp [State.freeAccess]
@[simp ↓] theorem ldxReturn_pending (s : State) (a1) (a2) : (ldxReturn s a1 a2).pending = s.pending := by
  unfold ldxReturn; dsimp only; repeat' (first | (simp; done) | split)
@[simp ↓] theorem stxAccepted_pending (s : State) (a1) (a2) : (stxAccepted s a1 a2).pending = s.pending := by
  unfold stxAccepted; split <;> simp
@[simp ↓] theorem fenceComplete_pending (s : State) (a1) (a2) : (fenceComplete s a1 a2).pending = s.pending := by
  unfold fenceComplete; dsimp only; repeat' (first | (simp; done) | split)
@[simp ↓] theorem fetchPastRange_pending (s : State) (a1) (a2) (a3) : (fetchPastRange s a1 a2 a3).pending = s.pending := by
  unfold fetchPastRange; dsimp only; repeat' (first | (simp; done) | split)
@[simp ↓] theorem illegalBundle_pending (s : State) (a1) (a2) (a3) : (illegalBundle s a1 a2 a3).pending = s.pending := by
  unfold illegalBundle; repeat' (first | (simp; done) | split)

/-! ## Machine/Convert.lean -/

@[simp ↓] theorem State.addStats_pending (s : State) (a1) (a2) (a3) (a4) : (State.addStats s a1 a2 a3 a4).pending = s.pending := by
  unfold State.addStats; split <;> simp
@[simp ↓] theorem State.putConverted_pending (s : State) (a1) (a2) (a3) : (State.putConverted s a1 a2 a3).pending = s.pending := by
  unfold State.putConverted; split <;> simp
@[simp ↓] theorem State.convertInto_pending (s : State) (a1) (a2) (a3) (a4) (a5) (a6) (a7) : (State.convertInto s a1 a2 a3 a4 a5 a6 a7).pending = s.pending := by simp [State.convertInto]
@[simp ↓] theorem State.engFault_pending (s : State) (a1) (a2) (a3) (a4) : (State.engFault s a1 a2 a3 a4).pending = s.pending := by
  unfold State.engFault; split <;> simp
@[simp ↓] theorem State.withStage_pending (s : State) (c : CoreId) (f : Core → Stage → State) (h : ∀ a b, (f a b).pending = s.pending) :
    (s.withStage c f).pending = s.pending := by
  unfold State.withStage; split <;> simp [h]

/-! ## Machine/Matrix.lean -/

@[simp ↓] theorem feedSide_pending (c) (g) (k) (x) (n : Nat) (s : State) (codes) : (feedSide c g k x n s codes).1.pending = s.pending := by
  induction n generalizing s codes with
  | zero => rfl
  | succ n ih => unfold feedSide; dsimp only; repeat' (first | with_reducible rfl | (simp [ih]; done) | split)
@[simp ↓] theorem mmaAdvance_pending (s : State) (a1) (a2) : (mmaAdvance s a1 a2).pending = s.pending := by
  unfold mmaAdvance; (try dsimp only); repeat' (first | with_reducible rfl | (simp; done) | split | (refine (State.each_pending _ _ _ ?_).trans ?_ <;> intros <;> (try dsimp only)) | (refine State.withStage_pending _ _ _ ?_ <;> intros <;> (try dsimp only)) | simp)
@[simp ↓] theorem mmaFeed_pending (s : State) (a1) : (mmaFeed s a1).pending = s.pending := by
  unfold mmaFeed; split <;> simp
@[simp ↓] theorem State.healSlate_pending (s : State) (a1) (a2) : (State.healSlate s a1 a2).pending = s.pending := by simp [State.healSlate]
@[simp ↓] theorem State.transposeFault_pending (s : State) (a1) (a2) : (State.transposeFault s a1 a2).pending = s.pending := by simp [State.transposeFault]
@[simp ↓] theorem mmaOccupancyStart_pending (s : State) (a1) : (mmaOccupancyStart s a1).pending = s.pending := by
  unfold mmaOccupancyStart; (try dsimp only); repeat' (first | with_reducible rfl | (simp; done) | split | (refine (State.each_pending _ _ _ ?_).trans ?_ <;> intros <;> (try dsimp only)) | (refine State.withStage_pending _ _ _ ?_ <;> intros <;> (try dsimp only)) | simp)
@[simp ↓] theorem State.depositAll_pending (s : State) (a1) (a2) (a3) (a4) (a5) : (State.depositAll s a1 a2 a3 a4 a5).pending = s.pending := by
  unfold State.depositAll; (try dsimp only); repeat' (first | with_reducible rfl | (simp; done) | split | (refine (State.each_pending _ _ _ ?_).trans ?_ <;> intros <;> (try dsimp only)) | simp)
@[simp ↓] theorem mmaLastDeposit_pending (s : State) (a1) : (mmaLastDeposit s a1).pending = s.pending := by
  unfold mmaLastDeposit; (try dsimp only); repeat' (first | with_reducible rfl | (simp; done) | split | (refine (State.each_pending _ _ _ ?_).trans ?_ <;> intros <;> (try dsimp only)) | (refine State.withStage_pending _ _ _ ?_ <;> intros <;> (try dsimp only)) | simp)
@[simp ↓] theorem slateOpStart_pending (s : State) (a1) : (slateOpStart s a1).pending = s.pending := by
  unfold slateOpStart; (try dsimp only); repeat' (first | with_reducible rfl | (simp; done) | split | (refine (State.each_pending _ _ _ ?_).trans ?_ <;> intros <;> (try dsimp only)) | (refine State.withStage_pending _ _ _ ?_ <;> intros <;> (try dsimp only)) | simp)
@[simp ↓] theorem State.saveRow_pending (s : State) (a1) (a2) (a3) : (State.saveRow s a1 a2 a3).pending = s.pending := by
  unfold State.saveRow; dsimp only; repeat' (first | (simp; done) | split)
@[simp ↓] theorem State.restRow_pending (s : State) (a1) (a2) (a3) : (State.restRow s a1 a2 a3).pending = s.pending := by simp [State.restRow]
@[simp ↓] theorem slateOpComplete_pending (s : State) (a1) : (slateOpComplete s a1).pending = s.pending := by
  unfold slateOpComplete; (try dsimp only); repeat' (first | with_reducible rfl | (simp; done) | split | (refine (State.each_pending _ _ _ ?_).trans ?_ <;> intros <;> (try dsimp only)) | (refine State.withStage_pending _ _ _ ?_ <;> intros <;> (try dsimp only)) | simp)

/-! ## Machine/StreamRows.lean -/

@[simp ↓] theorem linkBufferMove_pending (s : State) (a1) (a2) : (linkBufferMove s a1 a2).pending = s.pending := by
  unfold linkBufferMove; dsimp only; repeat' (first | (simp; done) | split)
@[simp ↓] theorem streamTransferComplete_pending (s : State) (a1) (a2) : (streamTransferComplete s a1 a2).pending = s.pending := by
  unfold streamTransferComplete; (try dsimp only); repeat' (first | with_reducible rfl | (simp; done) | split | (refine (State.each_pending _ _ _ ?_).trans ?_ <;> intros <;> (try dsimp only)) | simp)

/-! ## Machine/Vector.lean -/

@[simp ↓] theorem State.countRange_pending (s : State) (a1) (a2) : (State.countRange s a1 a2).pending = s.pending := by
  unfold State.countRange; split <;> simp
@[simp ↓] theorem State.putLx_pending (s : State) (a1) (a2) (a3) (a4) (a5) (a6) : (State.putLx s a1 a2 a3 a4 a5 a6).pending = s.pending := by simp [State.putLx]
@[simp ↓] theorem State.redSum_pending (s : State) (a1) (a2) (a3) (a4) : (State.redSum s a1 a2 a3 a4).pending = s.pending := by simp [State.redSum]
@[simp ↓] theorem State.redScale_pending (s : State) (a1) (a2) (a3) (a4) : (State.redScale s a1 a2 a3 a4).pending = s.pending := by simp [State.redScale]
@[simp ↓] theorem State.vlxSum_pending (s : State) (a1) (a2) (a3) (a4) (a5) : (State.vlxSum s a1 a2 a3 a4 a5).pending = s.pending := by simp [State.vlxSum]
@[simp ↓] theorem State.vlxFrom_pending (s : State) (a1) (a2) (a3) : (State.vlxFrom s a1 a2 a3).pending = s.pending := by simp [State.vlxFrom]
@[simp ↓] theorem State.statOnly_pending (s : State) (a1) (a2) (a3) (a4) (a5) (a6) : (State.statOnly s a1 a2 a3 a4 a5 a6).pending = s.pending := by simp [State.statOnly]
@[simp ↓] theorem vecResult_pending (s : State) (a1) (a2) (a3) : (vecResult s a1 a2 a3).pending = s.pending := by
  unfold vecResult; repeat' (first | (simp; done) | split)
@[simp ↓] theorem vectorOpStart_pending (s : State) (a1) : (vectorOpStart s a1).pending = s.pending := by
  unfold vectorOpStart; (try dsimp only); repeat' (first | with_reducible rfl | (simp; done) | split | (refine (State.each_pending _ _ _ ?_).trans ?_ <;> intros <;> (try dsimp only)) | (refine State.withStage_pending _ _ _ ?_ <;> intros <;> (try dsimp only)) | simp)
@[simp ↓] theorem vectorOpComplete_pending (s : State) (a1) : (vectorOpComplete s a1).pending = s.pending := by
  unfold vectorOpComplete; (try dsimp only); repeat' (first | with_reducible rfl | (simp; done) | split | (refine (State.each_pending _ _ _ ?_).trans ?_ <;> intros <;> (try dsimp only)) | (refine State.withStage_pending _ _ _ ?_ <;> intros <;> (try dsimp only)) | simp)
@[simp ↓] theorem issueEng_pending (a1) (a2) (a3) (a4) (s : State) : (issueEng a1 a2 a3 a4 s).pending = s.pending := by simp [issueEng]

/-! ## Machine/Finish.lean -/

@[simp ↓] theorem finServeStart_pending (s : State) (a1) : (finServeStart s a1).pending = s.pending := by
  unfold finServeStart; (try dsimp only); repeat' (first | with_reducible rfl | (simp; done) | split | (refine (State.each_pending _ _ _ ?_).trans ?_ <;> intros <;> (try dsimp only)) | (refine State.withStage_pending _ _ _ ?_ <;> intros <;> (try dsimp only)) | simp)
@[simp ↓] theorem finComplete_pending (s : State) (a1) : (finComplete s a1).pending = s.pending := by
  unfold finComplete; (try dsimp only); repeat' (first | with_reducible rfl | (simp; done) | split | (refine (State.each_pending _ _ _ ?_).trans ?_ <;> intros <;> (try dsimp only)) | (refine State.withStage_pending _ _ _ ?_ <;> intros <;> (try dsimp only)) | simp)

/-! ## Machine/Gather.lean -/

@[simp ↓] theorem State.zeroNullRows_pending (s : State) (a1) (a2) (a3) (a4) : (State.zeroNullRows s a1 a2 a3 a4).pending = s.pending := by
  unfold State.zeroNullRows; repeat' (first | (simp; done) | split)
@[simp ↓] theorem gatherOpStart_pending (s : State) (a1) : (gatherOpStart s a1).pending = s.pending := by
  unfold gatherOpStart; (try dsimp only); repeat' (first | with_reducible rfl | (simp; done) | split | (refine (State.each_pending _ _ _ ?_).trans ?_ <;> intros <;> (try dsimp only)) | (refine State.withStage_pending _ _ _ ?_ <;> intros <;> (try dsimp only)) | simp)
@[simp ↓] theorem gatherSectorRequest_pending (s : State) (a1) : (gatherSectorRequest s a1).pending = s.pending := by
  unfold gatherSectorRequest; (try dsimp only); repeat' (first | with_reducible rfl | (simp; done) | split | (refine (State.each_pending _ _ _ ?_).trans ?_ <;> intros <;> (try dsimp only)) | (refine State.withStage_pending _ _ _ ?_ <;> intros <;> (try dsimp only)) | simp)
@[simp ↓] theorem State.sectorDone_pending (s : State) (a1) (a2) (a3) (a4) : (State.sectorDone s a1 a2 a3 a4).pending = s.pending := by
  unfold State.sectorDone; dsimp only; repeat' (first | (simp; done) | split)
@[simp ↓] theorem gatherSectorReturn_pending (s : State) (a1) (a2) : (gatherSectorReturn s a1 a2).pending = s.pending := by
  unfold gatherSectorReturn; (try dsimp only); repeat' (first | with_reducible rfl | (simp; done) | split | (refine (State.each_pending _ _ _ ?_).trans ?_ <;> intros <;> (try dsimp only)) | (refine State.withStage_pending _ _ _ ?_ <;> intros <;> (try dsimp only)) | simp)

end Sys2Proof.Machine
end

