-- ==== Sys2Proof/Laws/QueueLessons.lean ====
section
/-!
SUPPORT. Frame laws: what lessons, Hallway links and host ports do leaves the queue of waiting commands as it is.
-/
namespace Sys2Proof.Machine
set_option linter.all false

/-! ## Machine/Lessons.lean -/

@[simp ↓] theorem State.dropTaken_pending (s : State) (a1) (a2) : (State.dropTaken s a1 a2).pending = s.pending := by simp [State.dropTaken]
@[simp ↓] theorem State.dispatchParts_pending (s : State) (a1) (a2) : (State.dispatchParts s a1 a2).pending = s.pending := by
  unfold State.dispatchParts; (try dsimp only); repeat' (first | with_reducible rfl | (simp; done) | split | (refine (State.each_pending _ _ _ ?_).trans ?_ <;> intros <;> (try dsimp only)) | simp)
@[simp ↓] theorem State.startLesson_pending (s : State) (a1) (a2) (a3) (a4) : (State.startLesson s a1 a2 a3 a4).pending = s.pending := by
  unfold State.startLesson
  extract_lets e s1 h s2 s3
  have h1 : s1.pending = s.pending := by
    unfold s1; split
    · rfl
    · exact State.writeFrom_pending _ _ _ _ _ _
  have h3 : s3.pending = s.pending := (State.claim_pending _ _ _).trans h1
  clear_value s3
  split
  · exact (State.stopLesson_pending _ _ _).trans h3
  · split
    · exact (State.stopLesson_pending _ _ _).trans h3
    · refine (State.each_pending _ _ _ ?_).trans h3
      intro s a; split
      · exact State.dispatchParts_pending _ _ _
      · rfl
@[simp ↓] theorem lessonCommand_pending (s : State) (a1) : (lessonCommand s a1).pending = s.pending := by
  unfold lessonCommand; dsimp only; repeat' (first | (simp; done) | split)
@[simp ↓] theorem State.setPart_pending (s : State) (a1) (a2) (a3) : (State.setPart s a1 a2 a3).pending = s.pending := by simp [State.setPart]
@[simp ↓] theorem State.noteRetire_pending (s : State) (a1) : (State.noteRetire s a1).pending = s.pending := by
  unfold State.noteRetire; split <;> simp
@[simp ↓] theorem State.reportEnd_pending (s : State) (a1) (a2) (a3) : (State.reportEnd s a1 a2 a3).pending = s.pending := by
  unfold State.reportEnd; repeat' (first | (simp; done) | split)
@[simp ↓] theorem State.handleMsg_pending (s : State) (a1) : (State.handleMsg s a1).pending = s.pending := by
  unfold State.handleMsg; dsimp only; repeat' (first | (simp; done) | split)
@[simp ↓] theorem tutorPartMessage_pending (s : State) (a1) : (tutorPartMessage s a1).pending = s.pending := by
  unfold tutorPartMessage; repeat' (first | (simp; done) | split)
@[simp ↓] theorem State.loadFrom_pending (s : State) (a1) (a2) (a3) : (State.loadFrom s a1 a2 a3).pending = s.pending := by
  unfold State.loadFrom; dsimp only; repeat' (first | (simp; done) | split)
@[simp ↓] theorem State.startPart_pending (s : State) (a1) (a2) : (State.startPart s a1 a2).pending = s.pending := by simp [State.startPart]
@[simp ↓] theorem lessonPartStart_pending (s : State) (a1) : (lessonPartStart s a1).pending = s.pending := by
  unfold lessonPartStart; dsimp only; repeat' (first | (simp; done) | split)
@[simp ↓] theorem State.closeLink_pending (s : State) (a1) (a2) : (State.closeLink s a1 a2).pending = s.pending := by
  unfold State.closeLink; dsimp only; repeat' (first | (simp; done) | split)
@[simp ↓] theorem State.closeFed_pending (s : State) (a1) (a2) : (State.closeFed s a1 a2).pending = s.pending := by
  unfold State.closeFed; (try dsimp only); repeat' (first | with_reducible rfl | (simp; done) | split | (refine (State.each_pending _ _ _ ?_).trans ?_ <;> intros <;> (try dsimp only)) | simp)
@[simp ↓] theorem stageEnd_pending (s : State) (a1) : (stageEnd s a1).pending = s.pending := by
  unfold stageEnd; dsimp only; repeat' (first | (simp; done) | split)
@[simp ↓] theorem State.loadTables_pending (s : State) (a1) (a2) : (State.loadTables s a1 a2).pending = s.pending := by
  unfold State.loadTables; (try dsimp only); repeat' (first | with_reducible rfl | (simp; done) | split | (refine (State.each_pending _ _ _ ?_).trans ?_ <;> intros <;> (try dsimp only)) | simp)
@[simp ↓] theorem stageLoadComplete_pending (s : State) (a1) : (stageLoadComplete s a1).pending = s.pending := by
  unfold stageLoadComplete; (try dsimp only); repeat' (first | with_reducible rfl | (simp; done) | split | (refine (State.each_pending _ _ _ ?_).trans ?_ <;> intros <;> (try dsimp only)) | simp)
@[simp ↓] theorem State.withdrawHeld_pending (s : State) (a1) : (State.withdrawHeld s a1).pending = s.pending := by simp [State.withdrawHeld]
@[simp ↓] theorem clusterLessonStop_pending (s : State) (a1) : (clusterLessonStop s a1).pending = s.pending := by
  unfold clusterLessonStop; dsimp only; repeat' (first | (simp; done) | split)
@[simp ↓] theorem coresReportIdle_pending (s : State) (a1) : (coresReportIdle s a1).pending = s.pending := by
  unfold coresReportIdle; dsimp only; repeat' (first | (simp; done) | split)
@[simp ↓] theorem lessonTimeout_pending (s : State) (a1) : (lessonTimeout s a1).pending = s.pending := by
  unfold lessonTimeout; repeat' (first | (simp; done) | split)
@[simp ↓] theorem State.dropLesson_pending (s : State) (a1) : (State.dropLesson s a1).pending = s.pending := by simp [State.dropLesson]
@[simp ↓] theorem lessonRetire_pending (s : State) (a1) : (lessonRetire s a1).pending = s.pending := by
  unfold lessonRetire; (try dsimp only); repeat' (first | with_reducible rfl | (simp; done) | split | (refine (State.each_pending _ _ _ ?_).trans ?_ <;> intros <;> (try dsimp only)) | simp)
@[simp ↓] theorem State.breakUnstarted_pending (s : State) (a1) : (State.breakUnstarted s a1).pending = s.pending := by
  unfold State.breakUnstarted; (try dsimp only); repeat' (first | with_reducible rfl | (simp; done) | split | (refine (State.each_pending _ _ _ ?_).trans ?_ <;> intros <;> (try dsimp only)) | simp)
@[simp ↓] theorem lessonCompletionWrite_pending (s : State) (a1) : (lessonCompletionWrite s a1).pending = s.pending := by
  unfold lessonCompletionWrite; repeat' (first | (simp; done) | split)
@[simp ↓] theorem abortCommand_pending (s : State) (a1) : (abortCommand s a1).pending = s.pending := by
  unfold abortCommand; dsimp only; repeat' (first | (simp; done) | split)
@[simp ↓] theorem State.retireCluster_pending (s : State) (a1) : (State.retireCluster s a1).pending = s.pending := by simp [State.retireCluster]
@[simp ↓] theorem State.retireCore_pending (s : State) (a1) (a2) (a3) : (State.retireCore s a1 a2 a3).pending = s.pending := by
  unfold State.retireCore; dsimp only; repeat' (first | (simp; done) | split)
@[simp ↓] theorem spareCoreSwitch_pending (s : State) (a1) (a2) : (spareCoreSwitch s a1 a2).pending = s.pending := by
  unfold spareCoreSwitch; (try dsimp only); repeat' (first | with_reducible rfl | (simp; done) | split | (refine (State.each_pending _ _ _ ?_).trans ?_ <;> intros <;> (try dsimp only)) | simp)
@[simp ↓] theorem coreStoreTest_pending (s : State) (a1) (a2) : (coreStoreTest s a1 a2).pending = s.pending := by
  unfold coreStoreTest; split <;> simp
@[simp ↓] theorem istoreReload_pending (s : State) (a1) (a2) (a3) : (istoreReload s a1 a2 a3).pending = s.pending := by
  unfold istoreReload; dsimp only; repeat' (first | (simp; done) | split)

/-! ## Machine/Links.lean -/

@[simp ↓] theorem hallwayFlitError_pending (s : State) (a1) : (hallwayFlitError s a1).pending = s.pending := by simp [hallwayFlitError]
@[simp ↓] theorem State.dropWrites_pending (s : State) (a1) (a2) : (State.dropWrites s a1 a2).1.pending = s.pending := by
  unfold State.dropWrites
  extract_lets co here across stx scat outs gath co1 co2 s1 s2 s3
  have h1 : s1.pending = s.pending := State.setCore_pending _ _ _
  clear_value s1
  have h2 : s2.pending = s1.pending := State.each_pending _ _ _ (by intros; simp)
  have h3 : s3.pending = s2.pending := State.each_pending _ _ _ (by intros; simp)
  refine (State.each_pending _ _ _ ?_).trans (h3.trans (h2.trans h1))
  intro s a; split <;> simp
@[simp ↓] theorem State.linkDown_pending (s : State) (a1) : (State.linkDown s a1).pending = s.pending := by
  unfold State.linkDown; dsimp only
  have hf : ∀ (l : List CoreId) (p : State × Nat), p.1.pending = s.pending → (l.foldl (fun (p : State × Nat) (c : CoreId) =>
    if stackOfCore c == (hallwayEnds a1).1 || stackOfCore c == (hallwayEnds a1).2 then
      ((p.1.dropWrites a1 c).1, p.2 + (p.1.dropWrites a1 c).2) else p) p).1.pending = s.pending := by
    intro l; induction l with
    | nil => intro p h; exact h
    | cons c l ih =>
      intro p h; refine ih _ ?_; dsimp only; split
      · exact (State.dropWrites_pending _ _ _).trans h
      · exact h
  refine (State.each_pending _ _ _ (by intros; simp)).trans ?_
  refine (State.each_pending _ _ _ (by intros; simp)).trans ?_
  refine (State.logError_pending _ _ _ _ _ _ _).trans ?_
  exact hf _ _ (State.setFld_pending _ _ _ _ _)
@[simp ↓] theorem hallwayDownEvent_pending (s : State) (a1) : (hallwayDownEvent s a1).pending = s.pending := by
  unfold hallwayDownEvent; split <;> simp
@[simp ↓] theorem State.startRetrain_pending (s : State) (a1) : (State.startRetrain s a1).pending = s.pending := by
  unfold State.startRetrain; split <;> simp
@[simp ↓] theorem hallwayRetrain_pending (s : State) (a1) (a2) : (hallwayRetrain s a1 a2).pending = s.pending := by
  unfold hallwayRetrain; dsimp only; repeat' (first | (simp; done) | split)
@[simp ↓] theorem hallwayRetrainComplete_pending (s : State) (a1) (a2) : (hallwayRetrainComplete s a1 a2).pending = s.pending := by
  unfold hallwayRetrainComplete; dsimp only; repeat' (first | (simp; done) | split)
@[simp ↓] theorem State.setChannel_pending (s : State) (a1) (a2) : (State.setChannel s a1 a2).pending = s.pending := by simp [State.setChannel]
@[simp ↓] theorem State.channelFailed_pending (s : State) (a1) : (State.channelFailed s a1).pending = s.pending := by simp [State.channelFailed]
@[simp ↓] theorem hbmLaneRepair_pending (s : State) (a1) (a2) (a3) : (hbmLaneRepair s a1 a2 a3).pending = s.pending := by
  unfold hbmLaneRepair; dsimp only; repeat' (first | (simp; done) | split)
@[simp ↓] theorem hbmRowRepair_pending (s : State) (a1) (a2) : (hbmRowRepair s a1 a2).pending = s.pending := by
  unfold hbmRowRepair; split <;> simp
@[simp ↓] theorem hbmRepairComplete_pending (s : State) (a1) : (hbmRepairComplete s a1).pending = s.pending := by
  unfold hbmRepairComplete; split <;> simp
@[simp ↓] theorem hbmChannelFailed_pending (s : State) (a1) : (hbmChannelFailed s a1).pending = s.pending := by
  unfold hbmChannelFailed; split <;> simp

/-! ## Machine/Host.lean -/

@[simp ↓] theorem State.sendFetch_pending (s : State) (a1) (a2) (a3) (a4) : (State.sendFetch s a1 a2 a3 a4).pending = s.pending := by
  unfold State.sendFetch; split <;> simp
@[simp ↓] theorem State.endFetch_pending (s : State) (a1) : (State.endFetch s a1).pending = s.pending := by simp [State.endFetch]
@[simp ↓] theorem State.fetchNext_pending (s : State) (a1) : (State.fetchNext s a1).pending = s.pending := by
  unfold State.fetchNext; dsimp only; repeat' (first | (simp; done) | split)
@[simp ↓] theorem State.park_pending (s : State) (a1) (a2) : (State.park s a1 a2).pending = s.pending := by simp [State.park]
@[simp ↓] theorem State.actOnBell_pending (s : State) (a1) : (State.actOnBell s a1).pending = s.pending := by
  unfold State.actOnBell; dsimp only; repeat' (first | (simp; done) | split)
@[simp ↓] theorem doorbellWrite_pending (s : State) (a1) (a2) : (doorbellWrite s a1 a2).pending = s.pending := by
  unfold doorbellWrite; dsimp only; repeat' (first | (simp; done) | split)
@[simp ↓] theorem State.take_pending (s : State) (a1) (a2) : (State.take s a1 a2).pending = s.pending := by
  unfold State.take; split <;> simp
@[simp ↓] theorem State.takeFresh_pending (s : State) (a1) : (State.takeFresh s a1).pending = s.pending := by
  unfold State.takeFresh; dsimp only; repeat' (first | (simp; done) | split)
@[simp ↓] theorem State.freshEntry_pending (s : State) (a1) (a2) : (State.freshEntry s a1 a2).pending = s.pending := by
  unfold State.freshEntry; dsimp only; repeat' (first | (simp; done) | split)
@[simp ↓] theorem commandFetchReturn_pending (s : State) (a1) (a2) (a3) : (commandFetchReturn s a1 a2 a3).pending = s.pending := by
  unfold commandFetchReturn; dsimp only; repeat' (first | (simp; done) | split)
@[simp ↓] theorem State.serveQueues_pending (s : State) : (State.serveQueues s).pending = s.pending := by simp [State.serveQueues]
@[simp ↓] theorem refetchTimer_pending (s : State) (a1) : (refetchTimer s a1).pending = s.pending := by
  unfold refetchTimer; dsimp only; repeat' (first | (simp; done) | split)
@[simp ↓] theorem State.placeBytes_pending (s : State) (a1) (a2) (a3) (a4) (a5) : (State.placeBytes s a1 a2 a3 a4 a5).pending = s.pending := by simp [State.placeBytes]
@[simp ↓] theorem State.exportBytes_pending (s : State) (a1) (a2) (a3) (l : List Nat) : (s.exportBytes a1 a2 a3 l).1.pending = s.pending := by
  induction l generalizing s with
  | nil => rfl
  | cons k l ih => unfold State.exportBytes; dsimp only; rw [ih]; split <;> simp
@[simp ↓] theorem State.sendExport_pending (s : State) (a1) : (State.sendExport s a1).pending = s.pending := by
  unfold State.sendExport; (try dsimp only); repeat' (first | with_reducible rfl | (simp; done) | split | (refine (State.each_pending _ _ _ ?_).trans ?_ <;> intros <;> (try dsimp only)) | simp)
@[simp ↓] theorem State.sendPlace_pending (s : State) (a1) : (State.sendPlace s a1).pending = s.pending := by
  unfold State.sendPlace; repeat' (first | (simp; done) | split)
@[simp ↓] theorem State.sendCopy_pending (s : State) (a1) : (State.sendCopy s a1).pending = s.pending := by simp [State.sendCopy]
@[simp ↓] theorem State.startCopy_pending (s : State) (a1) (a2) : (State.startCopy s a1 a2).pending = s.pending := by simp [State.startCopy]
@[simp ↓] theorem placeCommand_pending (s : State) (a1) : (placeCommand s a1).pending = s.pending := by
  unfold placeCommand; dsimp only; repeat' (first | (simp; done) | split)
@[simp ↓] theorem State.endCopy_pending (s : State) (a1) (a2) (a3) (a4) : (State.endCopy s a1 a2 a3 a4).pending = s.pending := by simp [State.endCopy]
@[simp ↓] theorem placeComplete_pending (s : State) (a1) : (placeComplete s a1).pending = s.pending := by
  unfold placeComplete; repeat' (first | (simp; done) | split)
@[simp ↓] theorem exportCommand_pending (s : State) (a1) : (exportCommand s a1).pending = s.pending := by
  unfold exportCommand; dsimp only; repeat' (first | (simp; done) | split)
@[simp ↓] theorem exportReadback_pending (s : State) (a1) (a2) : (exportReadback s a1 a2).pending = s.pending := by
  unfold exportReadback; repeat' (first | (simp; done) | split)
@[simp ↓] theorem State.detachQueue_pending (s : State) (a1) : (State.detachQueue s a1).pending = s.pending := by
  unfold State.detachQueue; dsimp only; repeat' (first | (simp; done) | split)
@[simp ↓] theorem State.detachStep_pending (s : State) (a1) : (State.detachStep s a1).pending = s.pending := by
  unfold State.detachStep; split <;> simp
@[simp ↓] theorem State.detachPort_pending (s : State) (a1) : (State.detachPort s a1).pending = s.pending := by
  unfold State.detachPort; (try dsimp only); repeat' (first | with_reducible rfl | (simp; done) | split | (refine (State.each_pending _ _ _ ?_).trans ?_ <;> intros <;> (try dsimp only)) | simp)
theorem State.enableQueue_some {s : State} {a1} {t : State} (h : (State.enableQueue s a1) = some t) : t.pending = s.pending := by
  revert h; unfold State.enableQueue; (try dsimp only); repeat' (first | (intro h; cases h; simp; done) | (intro h; simp at h; done) | split)
@[simp ↓] theorem State.enableQueue_keeps (s : State) (a1) (p) (h : s.pending = p) : Keeps p (State.enableQueue s a1) := fun t e => (State.enableQueue_some e).trans h
theorem State.resumeQueue_some {s : State} {a1} {t : State} (h : (State.resumeQueue s a1) = some t) : t.pending = s.pending := by
  revert h; unfold State.resumeQueue; (try dsimp only); repeat' (first | (intro h; cases h; simp; done) | (intro h; simp at h; done) | split)
@[simp ↓] theorem State.resumeQueue_keeps (s : State) (a1) (p) (h : s.pending = p) : Keeps p (State.resumeQueue s a1) := fun t e => (State.resumeQueue_some e).trans h
@[simp ↓] theorem ctrlBit_pending (w : State × Bool) (on : Bool) (f : State → Option State) (h : ∀ s, Keeps s.pending (f s)) :
    (ctrlBit w on f).1.pending = w.1.pending := by
  unfold ctrlBit; split
  · split
    · exact h _ _ ‹_›
    · rfl
  · rfl
@[simp ↓] theorem queueCtrlWrite_pending (s : State) (a1) (a2) (a3) (a4) : (queueCtrlWrite s a1 a2 a3 a4).1.pending = s.pending := by
  unfold queueCtrlWrite; dsimp only; repeat' (first | (simp; done) | split)
theorem State.enableStep_some {s : State} {a1} {t : State} (h : (State.enableStep s a1) = some t) : t.pending = s.pending := by
  revert h; unfold State.enableStep; (try dsimp only); repeat' (first | (intro h; cases h; simp; done) | (intro h; simp at h; done) | split)
@[simp ↓] theorem State.enableStep_keeps (s : State) (a1) (p) (h : s.pending = p) : Keeps p (State.enableStep s a1) := fun t e => (State.enableStep_some e).trans h
@[simp ↓] theorem stepCtrlWrite_pending (s : State) (a1) (a2) (a3) (a4) : (stepCtrlWrite s a1 a2 a3 a4).1.pending = s.pending := by
  unfold stepCtrlWrite; dsimp only; repeat' (first | (simp; done) | split)
@[simp ↓] theorem headWrite_pending (s : State) (a1) (a2) (a3) (a4) : (headWrite s a1 a2 a3 a4).1.pending = s.pending :=
  State.takeOr_pending _ _ _ _ (State.moveHead_keeps _ _ _ _ rfl)
@[simp ↓] theorem primaryCtrlWrite_pending (s : State) (a1) (a2) : (primaryCtrlWrite s a1 a2).pending = s.pending := by
  unfold primaryCtrlWrite; split <;> simp
@[simp ↓] theorem hostLinkLoss_pending (s : State) (a1) : (hostLinkLoss s a1).pending = s.pending := by
  unfold hostLinkLoss; split <;> simp
@[simp ↓] theorem State.rewriteRing_pending (s : State) (a1) : (State.rewriteRing s a1).pending = s.pending := by
  unfold State.rewriteRing; repeat' (first | (simp; done) | split)
@[simp ↓] theorem State.refetchLost_pending (s : State) (a1) : (State.refetchLost s a1).pending = s.pending := by
  unfold State.refetchLost; dsimp only; repeat' (first | (simp; done) | split)
theorem foldl_fst_pending {α β : Type} (f : State × β → α → State × β) (h : ∀ x a, (f x a).1.pending = x.1.pending) (l : List α) (x : State × β) :
    (l.foldl f x).1.pending = x.1.pending := by
  induction l generalizing x with
  | nil => rfl
  | cons a l ih => exact (ih _).trans (h x a)
@[simp ↓] theorem State.rewriteHomework_pending (s : State) (a1) (a2) : (State.rewriteHomework s a1 a2).pending = s.pending :=
  foldl_fst_pending _ (fun _ _ => State.setHostRing_pending _ _ _ _ _) _ _
@[simp ↓] theorem State.resumePort_pending (s : State) (a1) : (State.resumePort s a1).pending = s.pending := by
  unfold State.resumePort; (try dsimp only); repeat' (first | with_reducible rfl | (simp; done) | split | (refine (State.each_pending _ _ _ ?_).trans ?_ <;> intros <;> (try dsimp only)) | simp)
@[simp ↓] theorem hostLinkReturn_pending (s : State) (a1) : (hostLinkReturn s a1).pending = s.pending := by
  unfold hostLinkReturn; (try dsimp only); repeat' (first | with_reducible rfl | (simp; done) | split | (refine (State.each_pending _ _ _ ?_).trans ?_ <;> intros <;> (try dsimp only)) | simp)
@[simp ↓] theorem State.forgetDue_pending (s : State) (a1) : (State.forgetDue s a1).pending = s.pending := by simp [State.forgetDue]
@[simp ↓] theorem linkHoldExpiry_pending (s : State) (a1) : (linkHoldExpiry s a1).pending = s.pending := by
  unfold linkHoldExpiry; split <;> simp
@[simp ↓] theorem State.resetHostRegs_pending (s : State) (a1) : (State.resetHostRegs s a1).pending = s.pending := by simp [State.resetHostRegs]
@[simp ↓] theorem hotReset_pending (s : State) (a1) : (hotReset s a1).pending = s.pending := by simp [hotReset]
@[simp ↓] theorem State.trainPort_pending (s : State) (a1) : (State.trainPort s a1).pending = s.pending := by
  unfold State.trainPort; split <;> simp
@[simp ↓] theorem perstDeassert_pending (s : State) (a1) : (perstDeassert s a1).pending = s.pending := by
  unfold perstDeassert; dsimp only; repeat' (first | (simp; done) | split)
@[simp ↓] theorem hostLinkUp_pending (s : State) (a1) (a2) (a3) (a4) : (hostLinkUp s a1 a2 a3 a4).pending = s.pending := by
  unfold hostLinkUp; split <;> simp
@[simp ↓] theorem letterboxWrite_pending (s : State) (a1) (a2) (a3) (a4) : (letterboxWrite s a1 a2 a3 a4).pending = s.pending := by simp [letterboxWrite]
@[simp ↓] theorem letterboxRead_pending (s : State) (a1) (a2) : (letterboxRead s a1 a2).pending = s.pending := by simp [letterboxRead]

end Sys2Proof.Machine
end

