-- ==== Sys2Proof/Laws/QueueFabric.lean ====
section
/-!
SUPPORT. Frame laws: what the Marker, the fabric, the Assembly engine, Homework and the Corridor do leaves the queue of waiting commands as it is.
-/
namespace Sys2Proof.Machine
set_option linter.all false

/-! ## Machine/Fabric.lean -/

@[simp ↓] theorem State.setPeerEpoch_pending (s : State) (a1) (a2) : (State.setPeerEpoch s a1 a2).pending = s.pending := by simp [State.setPeerEpoch]
@[simp ↓] theorem State.learnEpoch_pending (s : State) (a1) (a2) : (State.learnEpoch s a1 a2).pending = s.pending := by
  unfold State.learnEpoch; dsimp only; repeat' (first | (simp; done) | split)
@[simp ↓] theorem State.failInstance_pending (s : State) (a1) (a2) (a3) (a4) : (State.failInstance s a1 a2 a3 a4).pending = s.pending := by
  unfold State.failInstance; dsimp only; repeat' (first | (simp; done) | split)
@[simp ↓] theorem State.packetDone_pending (s : State) (a1) (a2) (a3) (a4) : (State.packetDone s a1 a2 a3 a4).pending = s.pending := by
  unfold State.packetDone; split <;> simp
@[simp ↓] theorem State.noteTracker_pending (s : State) (a1) : (State.noteTracker s a1).pending = s.pending := by simp [State.noteTracker]
@[simp ↓] theorem State.countStatus_pending (s : State) (a1) (a2) (a3) : (State.countStatus s a1 a2 a3).pending = s.pending := by
  unfold State.countStatus; repeat' (first | (simp; done) | split)
@[simp ↓] theorem State.finishTrans_pending (s : State) (a1) (a2) (a3) (a4) (a5) : (State.finishTrans s a1 a2 a3 a4 a5).pending = s.pending := by
  unfold State.finishTrans; repeat' (first | (simp; done) | split)
@[simp ↓] theorem State.sinkTid_pending (s : State) (a1) (a2) : (State.sinkTid s a1 a2).pending = s.pending := by
  unfold State.sinkTid; repeat' (first | (simp; done) | split)
@[simp ↓] theorem State.completeTid_pending (s : State) (a1) (a2) : (State.completeTid s a1 a2).pending = s.pending := by
  unfold State.completeTid; repeat' (first | (simp; done) | split)
@[simp ↓] theorem State.fabStore_pending (s : State) (a1) (a2) (a3) : (State.fabStore s a1 a2 a3).pending = s.pending := by simp [State.fabStore]
@[simp ↓] theorem State.notify_pending (s : State) (a1) (a2) : (State.notify s a1 a2).1.pending = s.pending := by
  unfold State.notify; (try dsimp only); repeat' (first | with_reducible rfl | (simp; done) | split | (refine (State.each_pending _ _ _ ?_).trans ?_ <;> intros <;> (try dsimp only)) | simp)
@[simp ↓] theorem State.performLoad_pending (s : State) (a1) (a2) : (State.performLoad s a1 a2).1.pending = s.pending := by simp [State.performLoad]
@[simp ↓] theorem State.noteStore_pending (s : State) (a1) (a2) (a3) : (State.noteStore s a1 a2 a3).1.pending = s.pending := by
  unfold State.noteStore; split <;> simp
@[simp ↓] theorem State.storeAndNote_pending (s : State) (a1) (a2) (a3) : (State.storeAndNote s a1 a2 a3).1.pending = s.pending := by simp [State.storeAndNote]
@[simp ↓] theorem State.performStore_pending (s : State) (a1) (a2) (a3) : (State.performStore s a1 a2 a3).1.pending = s.pending := by
  unfold State.performStore; split <;> simp
@[simp ↓] theorem State.fxReduce_pending (s : State) (a1) (a2) (a3) (a4) : (State.fxReduce s a1 a2 a3 a4).pending = s.pending := by
  unfold State.fxReduce; split <;> simp
@[simp ↓] theorem State.performReduce_pending (s : State) (a1) (a2) (a3) : (State.performReduce s a1 a2 a3).1.pending = s.pending := by
  unfold State.performReduce; split <;> simp
@[simp ↓] theorem State.performAtomic_pending (s : State) (a1) (a2) (a3) : (State.performAtomic s a1 a2 a3).1.pending = s.pending := by
  unfold State.performAtomic; dsimp only; repeat' (first | (simp; done) | split)
@[simp ↓] theorem State.perform_pending (s : State) (a1) (a2) (a3) : (State.perform s a1 a2 a3).1.pending = s.pending := by
  unfold State.perform; split <;> simp
@[simp ↓] theorem State.performFrom_pending (s : State) (a1) (a2) (a3) : (State.performFrom s a1 a2 a3).1.pending = s.pending := by simp [State.performFrom]
@[simp ↓] theorem State.admitMessage_pending (s : State) (a1) (a2) (a3) (a4) (a5) : (State.admitMessage s a1 a2 a3 a4 a5).1.pending = s.pending := by
  unfold State.admitMessage; repeat' (first | (simp; done) | split)
@[simp ↓] theorem State.respond_pending (s : State) (a1) (a2) (a3) (a4) : (State.respond s a1 a2 a3 a4).pending = s.pending := by
  unfold State.respond; repeat' (first | (simp; done) | split)
@[simp ↓] theorem inbound_pending (s : State) (a1) (a2) (a3) : (inbound s a1 a2 a3).pending = s.pending := by
  unfold inbound; dsimp only; repeat' (first | (simp; done) | split)
@[simp ↓] theorem State.issueNow_pending (s : State) (a1) (a2) : (State.issueNow s a1 a2).pending = s.pending := by
  unfold State.issueNow; dsimp only; repeat' (first | (simp; done) | split)
@[simp ↓] theorem State.retryHeld_pending (s : State) : (State.retryHeld s).pending = s.pending := by
  unfold State.retryHeld; (try dsimp only); repeat' (first | with_reducible rfl | (simp; done) | split | (refine (State.each_pending _ _ _ ?_).trans ?_ <;> intros <;> (try dsimp only)) | simp)
@[simp ↓] theorem fabricRequestIssue_pending (s : State) (a1) (a2) : (fabricRequestIssue s a1 a2).pending = s.pending := by
  unfold fabricRequestIssue; repeat' (first | (simp; done) | split)
@[simp ↓] theorem response_pending (s : State) (a1) (a2) : (response s a1 a2).pending = s.pending := by
  unfold response; dsimp only; repeat' (first | (simp; done) | split)
@[simp ↓] theorem transactionTimeout_pending (s : State) (a1) (a2) : (transactionTimeout s a1 a2).pending = s.pending := by
  unfold transactionTimeout; dsimp only; repeat' (first | (simp; done) | split)
@[simp ↓] theorem quarantineExpiry_pending (s : State) (a1) (a2) : (quarantineExpiry s a1 a2).pending = s.pending := by simp [quarantineExpiry]

/-! ## Machine/Marker.lean -/

@[simp ↓] theorem State.writeWord0_pending (s : State) (a1) (a2) (a3) : (State.writeWord0 s a1 a2 a3).pending = s.pending := by simp [State.writeWord0]
@[simp ↓] theorem State.setStepState_pending (s : State) (a1) (a2) : (State.setStepState s a1 a2).pending = s.pending := by simp [State.setStepState]
@[simp ↓] theorem State.countSat_pending (s : State) (a1) (a2) : (State.countSat s a1 a2).pending = s.pending := by
  unfold State.countSat; split <;> simp
@[simp ↓] theorem State.stepLr_pending (s : State) (a1) (a2) : (State.stepLr s a1 a2).1.pending = s.pending := by
  unfold State.stepLr; dsimp only; repeat' (first | (simp; done) | split)
@[simp ↓] theorem State.markerReads_pending (s : State) (a1) (a2) : (State.markerReads s a1 a2).1.pending = s.pending := by
  unfold State.markerReads; exact foldl_fst_pending _ (by intros; simp) _ _
@[simp ↓] theorem State.markerWrites_pending (s : State) (a1) (a2) (a3) (a4) : (State.markerWrites s a1 a2 a3 a4).pending = s.pending := by
  unfold State.markerWrites; split <;> simp
@[simp ↓] theorem State.satsOf_pending (s : State) (a1) (a2) : (State.satsOf s a1 a2).1.pending = s.pending := by
  unfold State.satsOf; split <;> simp
@[simp ↓] theorem State.markUnit_pending (s : State) (a1) (a2) (a3) : (State.markUnit s a1 a2 a3).pending = s.pending := by simp [State.markUnit]
@[simp ↓] theorem State.applyWhole_pending (s : State) (a1) (a2) (a3) (a4) : (State.applyWhole s a1 a2 a3 a4).pending = s.pending := by
  unfold State.applyWhole; dsimp only; repeat' (first | (simp; done) | split)
@[simp ↓] theorem State.copyRun_pending (s : State) (a1) (a2) (a3) (a4) : (State.copyRun s a1 a2 a3 a4).pending = s.pending := by
  unfold State.copyRun; dsimp only; repeat' (first | (simp; done) | split)
@[simp ↓] theorem State.applyPart_pending (s : State) (a1) (a2) (a3) (a4) (a5) (a6) (a7) : (State.applyPart s a1 a2 a3 a4 a5 a6 a7).pending = s.pending := by
  unfold State.applyPart; dsimp only; repeat' (first | (simp; done) | split)
@[simp ↓] theorem State.applyUnit_pending (s : State) (a1) (a2) (a3) (a4) : (State.applyUnit s a1 a2 a3 a4).pending = s.pending := by
  unfold State.applyUnit; dsimp only; repeat' (first | (simp; done) | split)
@[simp ↓] theorem State.applyReady_pending (s : State) (a1) (a2) (a3) : (State.applyReady s a1 a2 a3).pending = s.pending := by
  unfold State.applyReady; (try dsimp only); repeat' (first | with_reducible rfl | (simp; done) | split | (refine (State.each_pending _ _ _ ?_).trans ?_ <;> intros <;> (try dsimp only)) | simp)
@[simp ↓] theorem State.applyWaiting_pending (s : State) (a1) : (State.applyWaiting s a1).pending = s.pending := by
  unfold State.applyWaiting; split <;> simp
@[simp ↓] theorem State.notePages_pending (s : State) (a1) : (State.notePages s a1).pending = s.pending := by simp [State.notePages]
@[simp ↓] theorem State.putPage_pending (s : State) (a1) (a2) (a3) (a4) : (State.putPage s a1 a2 a3 a4).pending = s.pending := by
  unfold State.putPage; split <;> simp
@[simp ↓] theorem State.setPool_pending (s : State) (a1) (a2) : (State.setPool s a1 a2).pending = s.pending := by
  unfold State.setPool; (try dsimp only); repeat' (first | with_reducible rfl | (simp; done) | split | (refine (State.each_pending _ _ _ ?_).trans ?_ <;> intros <;> (try dsimp only)) | simp)
@[simp ↓] theorem State.loadPool_pending (s : State) (a1) : (State.loadPool s a1).pending = s.pending := by simp [State.loadPool]
@[simp ↓] theorem State.putSegment_pending (s : State) (a1) (a2) (a3) (a4) (a5) : (State.putSegment s a1 a2 a3 a4 a5).pending = s.pending := by simp [State.putSegment]
@[simp ↓] theorem State.slowRequests_pending (s : State) (a1) (a2) (a3) (a4) (a5) (a6) : (State.slowRequests s a1 a2 a3 a4 a5 a6).pending = s.pending := by simp [State.slowRequests]
@[simp ↓] theorem State.ownRequest_pending (s : State) (a1) (a2) (a3) (a4) (a5) : (State.ownRequest s a1 a2 a3 a4 a5).1.pending = s.pending := by
  unfold State.ownRequest; dsimp only; repeat' (first | (simp; done) | split)
@[simp ↓] theorem State.ownRead_pending (s : State) (a1) (a2) (a3) : (State.ownRead s a1 a2 a3).1.pending = s.pending := by
  unfold State.ownRead; exact foldl_fst_pending _ (by intros; simp) _ _
@[simp ↓] theorem State.ownWrite_pending (s : State) (a1) (a2) (a3) (a4) : (State.ownWrite s a1 a2 a3 a4).1.pending = s.pending := by
  unfold State.ownWrite; exact foldl_fst_pending _ (by intros; simp) _ _
theorem State.addSlip_some {s : State} {a1} {a2} {a3} {t : State} (h : (State.addSlip s a1 a2 a3) = some t) : t.pending = s.pending := by
  revert h; unfold State.addSlip; (try dsimp only); repeat' (first | (intro h; cases h; simp; done) | (intro h; simp at h; done) | split)
@[simp ↓] theorem State.addSlip_keeps (s : State) (a1) (a2) (a3) (p) (h : s.pending = p) : Keeps p (State.addSlip s a1 a2 a3) := fun t e => (State.addSlip_some e).trans h
@[simp ↓] theorem State.setWithhold_pending (s : State) (a1) (a2) : (State.setWithhold s a1 a2).pending = s.pending := by simp [State.setWithhold]
@[simp ↓] theorem State.badChunk_pending (s : State) (a1) (a2) (a3) : (State.badChunk s a1 a2 a3).pending = s.pending := by simp [State.badChunk]
@[simp ↓] theorem State.takeChunk_pending (s : State) (a1) (a2) : (State.takeChunk s a1 a2).pending = s.pending := by
  unfold State.takeChunk; (try dsimp only); repeat' (first | with_reducible rfl | (simp; done) | ((try have q0 := State.addSlip_some ‹State.addSlip _ _ _ _ = some _›); simp_all; done) | split | (refine (State.each_pending _ _ _ ?_).trans ?_ <;> intros <;> (try dsimp only)) | simp)
@[simp ↓] theorem gradientChunk_pending (s : State) (a1) (a2) : (gradientChunk s a1 a2).pending = s.pending := by
  unfold gradientChunk; repeat' (first | (simp; done) | split)
@[simp ↓] theorem State.pageFree_pending (s : State) (a1) : (State.pageFree s a1).pending = s.pending := by
  unfold State.pageFree; dsimp only; repeat' (first | (simp; done) | split)
@[simp ↓] theorem State.takeQ_pending (s : State) (a1) (a2) (a3) : (State.takeQ s a1 a2 a3).pending = s.pending := by
  unfold State.takeQ; dsimp only; repeat' (first | (simp; done) | split)
@[simp ↓] theorem normQArrival_pending (s : State) (a1) (a2) (a3) : (normQArrival s a1 a2 a3).pending = s.pending := by
  unfold normQArrival; split <;> simp
@[simp ↓] theorem State.drainScan_pending (s : State) (a1) : (State.drainScan s a1).pending = s.pending := by simp [State.drainScan]
@[simp ↓] theorem arm_pending (s : State) (a1) (a2) : (arm s a1 a2).pending = s.pending := by
  unfold arm; split <;> simp
@[simp ↓] theorem State.countPsd_pending (s : State) (a1) (a2) : (State.countPsd s a1 a2).pending = s.pending := by simp [State.countPsd]
@[simp ↓] theorem armScanComplete_pending (s : State) (a1) : (armScanComplete s a1).pending = s.pending := by
  unfold armScanComplete; dsimp only; repeat' (first | (simp; done) | split)
@[simp ↓] theorem State.releaseStages_pending (s : State) (a1) : (State.releaseStages s a1).pending = s.pending := by simp [State.releaseStages]
@[simp ↓] theorem State.endStep_pending (s : State) (a1) (a2) (a3) (a4) (a5) (a6) (a7) : (State.endStep s a1 a2 a3 a4 a5 a6 a7).pending = s.pending := by simp [State.endStep]
@[simp ↓] theorem State.dropSlips_pending (s : State) (a1) (a2) : (State.dropSlips s a1 a2).pending = s.pending := by
  unfold State.dropSlips; repeat' (first | (simp; done) | split)
@[simp ↓] theorem State.discardStep_pending (s : State) (a1) (a2) (a3) (a4) (a5) : (State.discardStep s a1 a2 a3 a4 a5).pending = s.pending := by
  unfold State.discardStep; dsimp only; repeat' (first | (simp; done) | split)
@[simp ↓] theorem State.dropShadows_pending (s : State) (a1) (a2) : (State.dropShadows s a1 a2).pending = s.pending := by simp [State.dropShadows]
@[simp ↓] theorem State.abandonStep_pending (s : State) (a1) : (State.abandonStep s a1).pending = s.pending := by simp [State.abandonStep]
@[simp ↓] theorem State.stateFault_pending (s : State) (a1) (a2) : (State.stateFault s a1 a2).pending = s.pending := by
  unfold State.stateFault; dsimp only; repeat' (first | (simp; done) | split)
@[simp ↓] theorem State.decideSlips_pending (s : State) (a1) (a2) : (State.decideSlips s a1 a2).pending = s.pending := by
  unfold State.decideSlips; (try dsimp only); repeat' (first | with_reducible rfl | (simp; done) | split | (refine (State.each_pending _ _ _ ?_).trans ?_ <;> intros <;> (try dsimp only)) | simp)
@[simp ↓] theorem stepDecision_pending (s : State) (a1) : (stepDecision s a1).pending = s.pending := by
  unfold stepDecision; dsimp only; repeat' (first | (simp; done) | split)
@[simp ↓] theorem clipRerunComplete_pending (s : State) (a1) : (clipRerunComplete s a1).pending = s.pending := by
  unfold clipRerunComplete; dsimp only; repeat' (first | (simp; done) | split)
@[simp ↓] theorem State.commitStage_pending (s : State) (a1) (a2) : (State.commitStage s a1 a2).pending = s.pending := by simp [State.commitStage]
@[simp ↓] theorem markerCommit_pending (s : State) (a1) : (markerCommit s a1).pending = s.pending := by
  unfold markerCommit; (try dsimp only); repeat' (first | with_reducible rfl | (simp; done) | split | (refine (State.each_pending _ _ _ ?_).trans ?_ <;> intros <;> (try dsimp only)) | simp)
@[simp ↓] theorem State.queueHomework_pending (s : State) (a1) (a2) : (State.queueHomework s a1 a2).pending = s.pending := by
  unfold State.queueHomework; (try dsimp only); repeat' (first | with_reducible rfl | (simp; done) | split | (refine (State.each_pending _ _ _ ?_).trans ?_ <;> intros <;> (try dsimp only)) | simp)
@[simp ↓] theorem commitComplete_pending (s : State) (a1) : (commitComplete s a1).pending = s.pending := by
  unfold commitComplete; dsimp only; repeat' (first | (simp; done) | split)
@[simp ↓] theorem State.onStage_pending (s : State) (a1) (a2) (a3) : (State.onStage s a1 a2 a3).pending = s.pending := by simp [State.onStage]
@[simp ↓] theorem slipStateFetchComplete_pending (s : State) (a1) (a2) (a3) : (slipStateFetchComplete s a1 a2 a3).pending = s.pending := by
  unfold slipStateFetchComplete; dsimp only; repeat' (first | (simp; done) | split)
@[simp ↓] theorem slipApply_pending (s : State) (a1) (a2) : (slipApply s a1 a2).pending = s.pending := by
  unfold slipApply; dsimp only; repeat' (first | (simp; done) | split)
@[simp ↓] theorem slipWritebackComplete_pending (s : State) (a1) (a2) (a3) : (slipWritebackComplete s a1 a2 a3).pending = s.pending := by
  unfold slipWritebackComplete; dsimp only; repeat' (first | (simp; done) | split)
theorem abandonWrite_some {s : State} {a1} {t : State} (h : (abandonWrite s a1) = some t) : t.pending = s.pending := by
  revert h; unfold abandonWrite; (try dsimp only); repeat' (first | (intro h; cases h; simp; done) | (intro h; simp at h; done) | split)
@[simp ↓] theorem abandonWrite_keeps (s : State) (a1) (p) (h : s.pending = p) : Keeps p (abandonWrite s a1) := fun t e => (abandonWrite_some e).trans h
@[simp ↓] theorem calStart_pending (s : State) (a1) (a2) : (calStart s a1 a2).pending = s.pending := by
  unfold calStart; repeat' (first | (simp; done) | split)
@[simp ↓] theorem calibrationComplete_pending (s : State) (a1) : (calibrationComplete s a1).pending = s.pending := by
  unfold calibrationComplete; dsimp only; repeat' (first | (simp; done) | split)
@[simp ↓] theorem State.masterBytes_pending (s : State) (a1) (a2) : (State.masterBytes s a1 a2).1.pending = s.pending := by
  unfold State.masterBytes; repeat' (first | (simp; done) | split)
@[simp ↓] theorem State.rollBlock_pending (s : State) (a1) (a2) : (State.rollBlock s a1 a2).pending = s.pending := by
  unfold State.rollBlock; dsimp only; repeat' (first | (simp; done) | split)
@[simp ↓] theorem rollCheck_pending (s : State) (a1) : (rollCheck s a1).pending = s.pending := by
  unfold rollCheck; dsimp only; repeat' (first | (simp; done) | split)

/-! ## Machine/Assembly.lean -/

@[simp ↓] theorem State.readColl_pending (s : State) (a1) (a2) (a3) : (State.readColl s a1 a2 a3).1.pending = s.pending := by simp [State.readColl]
@[simp ↓] theorem State.onInst_pending (s : State) (a1) (a2) (a3) (a4) : (State.onInst s a1 a2 a3 a4).pending = s.pending := by simp [State.onInst]
@[simp ↓] theorem State.noteActive_pending (s : State) (a1) : (State.noteActive s a1).pending = s.pending := by simp [State.noteActive]
@[simp ↓] theorem State.beginInst_pending (s : State) (a1) (a2) (a3) (a4) (a5) : (State.beginInst s a1 a2 a3 a4 a5).1.pending = s.pending := by
  unfold State.beginInst; dsimp only; repeat' (first | (simp; done) | split)
@[simp ↓] theorem State.checkE_pending (s : State) (a1) (a2) (a3) (a4) : (State.checkE s a1 a2 a3 a4).1.pending = s.pending := by
  unfold State.checkE; repeat' (first | (simp; done) | split)
@[simp ↓] theorem State.blockOf_pending (s : State) (a1) (a2) (a3) (a4) (a5) : (State.blockOf s a1 a2 a3 a4 a5).1.pending = s.pending := by
  induction a3 generalizing s a4 a5 with
  | zero => rfl
  | succ n ih => unfold State.blockOf; dsimp only; split <;> (try split) <;> simp [ih]
@[simp ↓] theorem State.takeNorm_pending (s : State) (a1) (a2) (a3) (a4) (a5) : (State.takeNorm s a1 a2 a3 a4 a5).pending = s.pending := by
  unfold State.takeNorm; split <;> simp
@[simp ↓] theorem State.handSegment_pending (s : State) (a1) (a2) (a3) (a4) (a5) (a6) (a7) : (State.handSegment s a1 a2 a3 a4 a5 a6 a7).pending = s.pending := by
  unfold State.handSegment; dsimp only; repeat' (first | (simp; done) | split)
@[simp ↓] theorem State.deliverUnit_pending (s : State) (a1) (a2) (a3) (a4) (a5) : (State.deliverUnit s a1 a2 a3 a4 a5).pending = s.pending := by
  unfold State.deliverUnit; dsimp only
  split
  · split <;> (have q := pair_pending ‹State.blockOf _ _ _ _ _ _ = _› (State.blockOf_pending _ _ _ _ _ _)) <;> (dsimp only at q) <;>
      repeat' (first | (simp [q]; done) | split)
  · split <;> simp
@[simp ↓] theorem State.writeResult_pending (s : State) (a1) (a2) (a3) (a4) : (State.writeResult s a1 a2 a3 a4).pending = s.pending := by simp [State.writeResult]
@[simp ↓] theorem State.finalRange_pending (s : State) (a1) (a2) (a3) (a4) (a5) : (State.finalRange s a1 a2 a3 a4 a5).pending = s.pending := by
  unfold State.finalRange; dsimp only; repeat' (first | (simp; done) | split)
@[simp ↓] theorem State.settleRange_pending (s : State) (a1) (a2) (a3) (a4) (a5) : (State.settleRange s a1 a2 a3 a4 a5).pending = s.pending := by
  unfold State.settleRange; dsimp only; repeat' (first | (simp; done) | split)
@[simp ↓] theorem State.addUnit_pending (s : State) (a1) (a2) (a3) (a4) (a5) (a6) (a7) : (State.addUnit s a1 a2 a3 a4 a5 a6 a7).pending = s.pending := by
  unfold State.addUnit; dsimp only; repeat' (first | (simp; done) | split)
@[simp ↓] theorem State.contributeNorm_pending (s : State) (a1) (a2) : (State.contributeNorm s a1 a2).pending = s.pending := by
  unfold State.contributeNorm; dsimp only
  split
  · rfl
  · split
    · rfl
    · split
      · exact (State.setAssembly_pending _ _ _).trans (pair_pending ‹State.beginInst _ _ _ _ _ _ = _› (State.beginInst_pending _ _ _ _ _ _))
      · split
        · exact (State.settleRange_pending _ _ _ _ _ _).trans ((State.onInst_pending _ _ _ _ _).trans ((State.setAssembly_pending _ _ _).trans
            (pair_pending ‹State.beginInst _ _ _ _ _ _ = _› (State.beginInst_pending _ _ _ _ _ _))))
        · exact (State.setAssembly_pending _ _ _).trans (pair_pending ‹State.beginInst _ _ _ _ _ _ = _› (State.beginInst_pending _ _ _ _ _ _))
@[simp ↓] theorem State.addBuffer_pending (s : State) (a1) (a2) (a3) (a4) (a5) (a6) (a7) : (State.addBuffer s a1 a2 a3 a4 a5 a6 a7).pending = s.pending := by
  unfold State.addBuffer; split <;> simp
@[simp ↓] theorem State.meetBuffer_pending (s : State) (a1) (a2) (a3) (a4) (a5) (a6) (a7) (a8) : (State.meetBuffer s a1 a2 a3 a4 a5 a6 a7 a8).pending = s.pending := by
  unfold State.meetBuffer; dsimp only; repeat' (first | (simp; done) | split)
theorem State.handBuffer_some {s : State} {t : State × Bool} {a1} {a2} {a3} {a4} {a5} {a6} {a7} (h : State.handBuffer s a1 a2 a3 a4 a5 a6 a7 = some t) :
    t.1.pending = s.pending := by
  revert h; unfold State.handBuffer; dsimp only
  split
  · intro h; cases h; rfl
  · split
    · intro h; cases h
    · intro h; cases h; have q := pair_pending ‹State.beginInst _ _ _ _ _ _ = _› (State.beginInst_pending _ _ _ _ _ _); exact q
    · intro h; cases h
      have q := pair_pending ‹State.beginInst _ _ _ _ _ _ = _› (State.beginInst_pending _ _ _ _ _ _)
      exact (State.meetBuffer_pending _ _ _ _ _ _ _ _ _).trans q
@[simp ↓] theorem assemblyBufferAccept_pending (s : State) (a1) (a2) : (assemblyBufferAccept s a1 a2).pending = s.pending := by
  unfold assemblyBufferAccept; refine Eq.trans ?_ (State.takeReleases_pending s a1); generalize s.takeReleases a1 = s; dsimp only
  split
  · rfl
  · split
    · rfl
    · split
      · split
        · rfl
        · have q := State.handBuffer_some ‹State.handBuffer _ _ _ _ _ _ _ _ = _›
          split
          · exact (State.markLesson_pending _ _ _).trans ((State.wakeStreams_pending _ _).trans ((State.setCore_pending _ _ _).trans q))
          · exact (State.wakeStreams_pending _ _).trans ((State.setCore_pending _ _ _).trans q)
      · rfl
@[simp ↓] theorem State.takePacket_pending (s : State) (a1) (a2) (a3) (a4) (a5) (a6) : (State.takePacket s a1 a2 a3 a4 a5 a6).pending = s.pending := by
  unfold State.takePacket; dsimp only; repeat' (first | (simp; done) | split)
theorem State.packetAnswer_some {s : State} {a1} {a2} {a3} {t : State × Nat} (h : s.packetAnswer a1 a2 a3 = some t) : t.1.pending = s.pending := by
  revert h; unfold State.packetAnswer; dsimp only
  repeat' (first | (intro h; cases h; simp; done) | (intro h; cases h; done) | (intro h; cases h; have q := pair_pending ‹State.beginInst _ _ _ _ _ _ = _› (State.beginInst_pending _ _ _ _ _ _); simp_all; done) | split)
@[simp ↓] theorem State.answerPacket_pending (s : State) (a1) (a2) (a3) : (State.answerPacket s a1 a2 a3).pending = s.pending := by
  unfold State.answerPacket; split <;> simp
@[simp ↓] theorem State.meetPacket_pending (s : State) (a1) (a2) (a3) : (State.meetPacket s a1 a2 a3).pending = s.pending := by
  unfold State.meetPacket; (try dsimp only); repeat' (first | with_reducible rfl | (simp; done) | ((try have q0 := State.packetAnswer_some ‹State.packetAnswer _ _ _ _ = some _›); simp_all; done) | split | (refine (State.each_pending _ _ _ ?_).trans ?_ <;> intros <;> (try dsimp only)) | simp)
@[simp ↓] theorem State.carryPacket_pending (s : State) (a1) (a2) (a3) : (State.carryPacket s a1 a2 a3).pending = s.pending := by
  unfold State.carryPacket; repeat' (first | (simp; done) | split)
@[simp ↓] theorem collPacket_pending (s : State) (a1) (a2) (a3) : (collPacket s a1 a2 a3).pending = s.pending := by
  unfold collPacket; (try dsimp only); repeat' (first | with_reducible rfl | (simp; done) | split | (refine (State.each_pending _ _ _ ?_).trans ?_ <;> intros <;> (try dsimp only)) | simp)
@[simp ↓] theorem State.retryInsts_pending (s : State) (a1) : (State.retryInsts s a1).pending = s.pending := by simp [State.retryInsts]
@[simp ↓] theorem State.trackPacket_pending (s : State) (a1) (a2) (a3) (a4) (a5) (a6) : (State.trackPacket s a1 a2 a3 a4 a5 a6).pending = s.pending := by simp [State.trackPacket]
@[simp ↓] theorem State.sendPacket_pending (s : State) (a1) (a2) (a3) (a4) (a5) : (State.sendPacket s a1 a2 a3 a4 a5).pending = s.pending := by
  unfold State.sendPacket; (try dsimp only); repeat' (first | with_reducible rfl | (simp; done) | split | (refine (State.each_pending _ _ _ ?_).trans ?_ <;> intros <;> (try dsimp only)) | simp)
@[simp ↓] theorem State.packetData_pending (s : State) (a1) (a2) (a3) (a4) (a5) : (State.packetData s a1 a2 a3 a4 a5).1.pending = s.pending := by
  unfold State.packetData; split <;> simp
@[simp ↓] theorem State.sendRange_pending (s : State) (a1) (a2) (a3) (a4) (a5) (a6) : (State.sendRange s a1 a2 a3 a4 a5 a6).pending = s.pending := by
  unfold State.sendRange; repeat' (first | (simp; done) | split)
@[simp ↓] theorem collectivePacketSend_pending (s : State) (a1) (a2) (a3) : (collectivePacketSend s a1 a2 a3).pending = s.pending := by
  unfold collectivePacketSend; repeat' (first | (simp; done) | split)
@[simp ↓] theorem collectiveInstanceComplete_pending (s : State) (a1) (a2) : (collectiveInstanceComplete s a1 a2).pending = s.pending := by
  unfold collectiveInstanceComplete; dsimp only; repeat' (first | (simp; done) | split)
@[simp ↓] theorem armScanAndNorm_pending (s : State) (a1) : (armScanAndNorm s a1).pending = s.pending := by
  unfold armScanAndNorm; dsimp only; repeat' (first | (simp; done) | split)

/-! ## Machine/Link.lean -/

@[simp ↓] theorem State.header_pending (s : State) (a1) (a2) : (State.header s a1 a2).1.pending = s.pending := by simp [State.header]
@[simp ↓] theorem State.sendSeq_pending (s : State) (a1) (a2) (a3) (a4) : (State.sendSeq s a1 a2 a3 a4).pending = s.pending := by simp [State.sendSeq]
@[simp ↓] theorem State.sendLink_pending (s : State) (a1) (a2) (a3) : (State.sendLink s a1 a2 a3).pending = s.pending := by
  unfold State.sendLink; split <;> simp
@[simp ↓] theorem State.closeGroup_pending (s : State) (a1) : (State.closeGroup s a1).pending = s.pending := by
  unfold State.closeGroup; dsimp only; repeat' (first | (simp; done) | split)
@[simp ↓] theorem State.joinGroup_pending (s : State) (a1) (a2) : (State.joinGroup s a1 a2).pending = s.pending := by
  unfold State.joinGroup; split <;> simp
@[simp ↓] theorem State.sendData_pending (s : State) (a1) (a2) : (State.sendData s a1 a2).pending = s.pending := by
  unfold State.sendData; dsimp only; repeat' (first | (simp; done) | split)
@[simp ↓] theorem State.recrypt_pending (s : State) (a1) (a2) : (State.recrypt s a1 a2).1.pending = s.pending := by
  induction a2 generalizing s with
  | nil => rfl
  | cons f l ih => unfold State.recrypt; dsimp only; repeat' (first | (simp [ih]; done) | split)
@[simp ↓] theorem State.resendAfter_pending (s : State) (a1) (a2) : (State.resendAfter s a1 a2).pending = s.pending := by
  unfold State.resendAfter; (try dsimp only); repeat' (first | with_reducible rfl | (simp; done) | split | (refine (State.each_pending _ _ _ ?_).trans ?_ <;> intros <;> (try dsimp only)) | simp)
@[simp ↓] theorem State.resendAll_pending (s : State) (a1) : (State.resendAll s a1).pending = s.pending := by simp [State.resendAll]
@[simp ↓] theorem State.rollEvent_pending (s : State) (a1) (a2) (a3) : (State.rollEvent s a1 a2 a3).pending = s.pending := by simp [State.rollEvent]
@[simp ↓] theorem State.sessionFailed_pending (s : State) (a1) : (State.sessionFailed s a1).pending = s.pending := by simp [State.sessionFailed]
@[simp ↓] theorem State.leaveUp_pending (s : State) (a1) (a2) : (State.leaveUp s a1 a2).pending = s.pending := by
  unfold State.leaveUp; dsimp only; repeat' (first | (simp; done) | split)
@[simp ↓] theorem State.goDown_pending (s : State) (a1) (a2) (a3) : (State.goDown s a1 a2 a3).pending = s.pending := by
  unfold State.goDown; repeat' (first | (simp; done) | split)
@[simp ↓] theorem State.protocolError_pending (s : State) (a1) : (State.protocolError s a1).pending = s.pending := by simp [State.protocolError]
@[simp ↓] theorem State.portDisable_pending (s : State) (a1) : (State.portDisable s a1).pending = s.pending := by
  unfold State.portDisable; dsimp only; repeat' (first | (simp; done) | split)
@[simp ↓] theorem State.portEnable_pending (s : State) (a1) : (State.portEnable s a1).pending = s.pending := by
  unfold State.portEnable; split <;> simp
@[simp ↓] theorem State.sendLaneMap_pending (s : State) (a1) : (State.sendLaneMap s a1).pending = s.pending := by simp [State.sendLaneMap]
@[simp ↓] theorem State.moveLane_pending (s : State) (a1) (a2) : (State.moveLane s a1 a2).pending = s.pending := by simp [State.moveLane]
@[simp ↓] theorem State.trained_pending (s : State) (a1) : (State.trained s a1).pending = s.pending := by simp [State.trained]
@[simp ↓] theorem State.endExchange_pending (s : State) (a1) : (State.endExchange s a1).pending = s.pending := by
  unfold State.endExchange; dsimp only; repeat' (first | (simp; done) | split)
@[simp ↓] theorem portTrainingComplete_pending (s : State) (a1) (a2) : (portTrainingComplete s a1 a2).pending = s.pending := by
  unfold portTrainingComplete; repeat' (first | (simp; done) | split)
@[simp ↓] theorem State.beginRetrain_pending (s : State) (a1) (a2) : (State.beginRetrain s a1 a2).pending = s.pending := by
  unfold State.beginRetrain; repeat' (first | (simp; done) | split)
@[simp ↓] theorem State.askRetrain_pending (s : State) (a1) (a2) (a3) : (State.askRetrain s a1 a2 a3).pending = s.pending := by simp [State.askRetrain]
@[simp ↓] theorem laneFailing_pending (s : State) (a1) (a2) (a3) : (laneFailing s a1 a2 a3).pending = s.pending := by
  unfold laneFailing; repeat' (first | (simp; done) | split)
@[simp ↓] theorem State.answered_pending (s : State) (a1) (a2) : (State.answered s a1 a2).pending = s.pending := by simp [State.answered]
@[simp ↓] theorem retrainReceived_pending (s : State) (a1) (a2) : (retrainReceived s a1 a2).pending = s.pending := by
  unfold retrainReceived; dsimp only; repeat' (first | (simp; done) | split)
@[simp ↓] theorem laneMapReceived_pending (s : State) (a1) (a2) (a3) : (laneMapReceived s a1 a2 a3).pending = s.pending := by
  unfold laneMapReceived; dsimp only; repeat' (first | (simp; done) | split)
@[simp ↓] theorem alignedReceived_pending (s : State) (a1) (a2) (a3) (a4) : (alignedReceived s a1 a2 a3 a4).pending = s.pending := by
  unfold alignedReceived; split <;> simp
@[simp ↓] theorem alignmentAndFecLock_pending (s : State) (a1) (a2) : (alignmentAndFecLock s a1 a2).pending = s.pending := by
  unfold alignmentAndFecLock; dsimp only; repeat' (first | (simp; done) | split)
@[simp ↓] theorem linkMessageRepeat_pending (s : State) (a1) : (linkMessageRepeat s a1).pending = s.pending := by
  unfold linkMessageRepeat; repeat' (first | (simp; done) | split)
@[simp ↓] theorem retrainTimeout_pending (s : State) (a1) : (retrainTimeout s a1).pending = s.pending := by
  unfold retrainTimeout; dsimp only; repeat' (first | (simp; done) | split)
@[simp ↓] theorem downReceived_pending (s : State) (a1) (a2) : (downReceived s a1 a2).pending = s.pending := by simp [downReceived]
@[simp ↓] theorem State.sendSpdm_pending (s : State) (a1) (a2) (a3) : (State.sendSpdm s a1 a2 a3).pending = s.pending := by simp [State.sendSpdm]
@[simp ↓] theorem State.askSpdm_pending (s : State) (a1) (a2) : (State.askSpdm s a1 a2).pending = s.pending := by simp [State.askSpdm]
@[simp ↓] theorem State.sessionUp_pending (s : State) (a1) : (State.sessionUp s a1).pending = s.pending := by simp [State.sessionUp]
@[simp ↓] theorem identReceived_pending (s : State) (a1) (a2) (a3) (a4) : (identReceived s a1 a2 a3 a4).pending = s.pending := by
  unfold identReceived; dsimp only; repeat' (first | (simp; done) | split)
@[simp ↓] theorem sessionSetupTimeout_pending (s : State) (a1) : (sessionSetupTimeout s a1).pending = s.pending := by
  unfold sessionSetupTimeout; dsimp only; repeat' (first | (simp; done) | split)
@[simp ↓] theorem State.installRx_pending (s : State) (a1) : (State.installRx s a1).pending = s.pending := by simp [State.installRx]
@[simp ↓] theorem linkRekey_pending (s : State) (a1) (a2) : (linkRekey s a1 a2).pending = s.pending := by
  unfold linkRekey; repeat' (first | (simp; done) | split)
@[simp ↓] theorem State.counterCheck_pending (s : State) (a1) : (State.counterCheck s a1).pending = s.pending := by
  unfold State.counterCheck; split <;> simp
@[simp ↓] theorem tagGroupClose_pending (s : State) (a1) : (tagGroupClose s a1).pending = s.pending := by
  unfold tagGroupClose; split <;> simp
@[simp ↓] theorem State.takeMsg_pending (s : State) (a1) (a2) (a3) (a4) : (State.takeMsg s a1 a2 a3 a4).pending = s.pending := by simp [State.takeMsg]
@[simp ↓] theorem State.packMore_pending (s : State) (p) (n : Nat) (l) : (s.packMore p n l).1.pending = s.pending := by
  induction n generalizing s l with
  | zero => rfl
  | succ n ih => unfold State.packMore; repeat' (first | rfl | (simp [ih]; done) | split)
@[simp ↓] theorem State.sendSlots_pending (s : State) (a1) (a2) : (State.sendSlots s a1 a2).pending = s.pending := by simp [State.sendSlots]
@[simp ↓] theorem messageSend_pending (s : State) (a1) : (messageSend s a1).pending = s.pending := by
  unfold messageSend; (try dsimp only); repeat' (first | with_reducible rfl | (simp; done) | split | (refine (State.each_pending _ _ _ ?_).trans ?_ <;> intros <;> (try dsimp only)) | simp)
@[simp ↓] theorem nakResend_pending (s : State) (a1) (a2) : (nakResend s a1 a2).pending = s.pending := by
  unfold nakResend; split <;> simp

/-! ## Machine/Homework.lean -/

@[simp ↓] theorem State.versionRead_pending (s : State) (a1) (a2) (a3) : (State.versionRead s a1 a2 a3).1.pending = s.pending := by
  unfold State.versionRead; exact foldl_fst_pending _ (by intros; simp) _ _
@[simp ↓] theorem State.hwPayload_pending (s : State) (a1) (a2) : (State.hwPayload s a1 a2).1.pending = s.pending := by
  unfold State.hwPayload; dsimp only; repeat' (first | (simp; done) | split)
@[simp ↓] theorem State.hwRecord_pending (s : State) (a1) (a2) : (State.hwRecord s a1 a2).1.pending = s.pending := by simp [State.hwRecord]
@[simp ↓] theorem State.readHwHead_pending (s : State) (a1) : (State.readHwHead s a1).pending = s.pending := by
  unfold State.readHwHead; split <;> simp
@[simp ↓] theorem State.hwPop_pending (s : State) (a1) : (State.hwPop s a1).pending = s.pending := by simp [State.hwPop]
@[simp ↓] theorem State.hwWritten_pending (s : State) (a1) (a2) : (State.hwWritten s a1 a2).pending = s.pending := by simp [State.hwWritten]
@[simp ↓] theorem State.hwStore_pending (s : State) (a1) (a2) : (State.hwStore s a1 a2).pending = s.pending := by simp [State.hwStore]
@[simp ↓] theorem State.hwPost_pending (s : State) (a1) (a2) (a3) : (State.hwPost s a1 a2 a3).pending = s.pending := by
  unfold State.hwPost; (try dsimp only); repeat' (first | with_reducible rfl | (simp; done) | split | (refine (State.each_pending _ _ _ ?_).trans ?_ <;> intros <;> (try dsimp only)) | simp)
@[simp ↓] theorem homeworkRecordWrite_pending (s : State) (a1) : (homeworkRecordWrite s a1).pending = s.pending := by
  unfold homeworkRecordWrite; dsimp only; repeat' (first | (simp; done) | split)
@[simp ↓] theorem homeworkReadback_pending (s : State) (a1) (a2) : (homeworkReadback s a1 a2).pending = s.pending := by
  unfold homeworkReadback; dsimp only; repeat' (first | (simp; done) | split)
@[simp ↓] theorem readbackComplete_pending (s : State) (a1) (a2) : (readbackComplete s a1 a2).pending = s.pending := by
  unfold readbackComplete; split <;> simp

/-! ## Machine/Corridor.lean -/

@[simp ↓] theorem State.openBypass_pending (s : State) : (State.openBypass s).pending = s.pending := by
  unfold State.openBypass; split <;> simp
@[simp ↓] theorem State.corridorJoin_pending (s : State) : (State.corridorJoin s).pending = s.pending := by
  unfold State.corridorJoin; (try dsimp only); repeat' (first | with_reducible rfl | (simp; done) | split | (refine (State.each_pending _ _ _ ?_).trans ?_ <;> intros <;> (try dsimp only)) | simp)
@[simp ↓] theorem bypassMoved_pending (s : State) : (bypassMoved s).pending = s.pending := by
  unfold bypassMoved; split <;> simp
@[simp ↓] theorem corridorFrameTransmit_pending (s : State) : (corridorFrameTransmit s).pending = s.pending := by
  unfold corridorFrameTransmit; repeat' (first | (simp; done) | split)
@[simp ↓] theorem corridorResendTimer_pending (s : State) : (corridorResendTimer s).pending = s.pending := by
  unfold corridorResendTimer; dsimp only; repeat' (first | (simp; done) | split)
@[simp ↓] theorem State.returned_pending (s : State) (a1) : (State.returned s a1).pending = s.pending := by simp [State.returned]
@[simp ↓] theorem State.forward_pending (s : State) (a1) : (State.forward s a1).pending = s.pending := by simp [State.forward]
@[simp ↓] theorem State.noteSeen_pending (s : State) (a1) : (State.noteSeen s a1).1.pending = s.pending := by
  unfold State.noteSeen; dsimp only; repeat' (first | (simp; done) | split)
@[simp ↓] theorem State.stopTaken_pending (s : State) (a1) : (State.stopTaken s a1).pending = s.pending := by simp [State.stopTaken]
@[simp ↓] theorem State.stopPartition_pending (s : State) (a1) : (State.stopPartition s a1).pending = s.pending := by
  unfold State.stopPartition; (try dsimp only); repeat' (first | with_reducible rfl | (simp; done) | ((try have q0 := abandonWrite_some ‹abandonWrite _ _ = some _›); simp_all; done) | split | (refine (State.each_pending _ _ _ ?_).trans ?_ <;> intros <;> (try dsimp only)) | simp)
@[simp ↓] theorem State.acceptStop_pending (s : State) (a1) (a2) (a3) : (State.acceptStop s a1 a2 a3).pending = s.pending := by
  unfold State.acceptStop; split <;> simp
@[simp ↓] theorem stopReceived_pending (s : State) (a1) (a2) : (stopReceived s a1 a2).pending = s.pending := by
  unfold stopReceived; dsimp only; repeat' (first | (simp; done) | split)
@[simp ↓] theorem State.stopSend_pending (s : State) (a1) : (State.stopSend s a1).pending = s.pending := by simp [State.stopSend]
@[simp ↓] theorem State.stopClear_pending (s : State) (a1) : (State.stopClear s a1).pending = s.pending := by simp [State.stopClear]
@[simp ↓] theorem timeFrameSend_pending (s : State) : (timeFrameSend s).pending = s.pending := by
  unfold timeFrameSend; split <;> simp
@[simp ↓] theorem State.alignTime_pending (s : State) (a1) : (State.alignTime s a1).pending = s.pending := by
  unfold State.alignTime; dsimp only; repeat' (first | (simp; done) | split)
@[simp ↓] theorem State.followTime_pending (s : State) (a1) (a2) : (State.followTime s a1 a2).pending = s.pending := by simp [State.followTime]
@[simp ↓] theorem timeFrame_pending (s : State) (a1) (a2) (a3) : (timeFrame s a1 a2 a3).pending = s.pending := by
  unfold timeFrame; repeat' (first | (simp; done) | split)
@[simp ↓] theorem rollCallSend_pending (s : State) (a1) : (rollCallSend s a1).pending = s.pending := by
  unfold rollCallSend; dsimp only; repeat' (first | (simp; done) | split)
@[simp ↓] theorem State.hearMember_pending (s : State) (a1) : (State.hearMember s a1).pending = s.pending := by simp [State.hearMember]
@[simp ↓] theorem State.setPartner_pending (s : State) (a1) (a2) : (State.setPartner s a1 a2).pending = s.pending := by simp [State.setPartner]
@[simp ↓] theorem State.portRollCall_pending (s : State) (a1) (a2) : (State.portRollCall s a1 a2).pending = s.pending := by
  unfold State.portRollCall; dsimp only; repeat' (first | (simp; done) | split)
@[simp ↓] theorem rollCall_pending (s : State) (a1) (a2) : (rollCall s a1 a2).pending = s.pending := by
  unfold rollCall; repeat' (first | (simp; done) | split)
@[simp ↓] theorem rollCallMissed_pending (s : State) (a1) : (rollCallMissed s a1).pending = s.pending := by
  unfold rollCallMissed; dsimp only; repeat' (first | (simp; done) | split)
@[simp ↓] theorem epochReceived_pending (s : State) (a1) (a2) : (epochReceived s a1 a2).pending = s.pending := by
  unfold epochReceived; split <;> simp
theorem State.seatWrite_some {s : State} {a1} {t : State} (h : (State.seatWrite s a1) = some t) : t.pending = s.pending := by
  revert h; unfold State.seatWrite; (try dsimp only); repeat' (first | (intro h; cases h; simp; done) | (intro h; simp at h; done) | split)
@[simp ↓] theorem State.seatWrite_keeps (s : State) (a1) (p) (h : s.pending = p) : Keeps p (State.seatWrite s a1) := fun t e => (State.seatWrite_some e).trans h
@[simp ↓] theorem epochMessageSend_pending (s : State) : (epochMessageSend s).pending = s.pending := by
  unfold epochMessageSend; repeat' (first | (simp; done) | split)

end Sys2Proof.Machine
end

