-- ==== Sys2Proof/Laws/QueueModule.lean ====
section
/-!
SUPPORT. Frame laws: what the Syllabus, power, resets, security, registers and management do leaves the queue of waiting commands as it is.
-/
namespace Sys2Proof.Machine
set_option linter.all false

/-! ## Machine/Resident.lean -/

@[simp ↓] theorem State.clearMem_pending (s : State) (a1) (a2) : (State.clearMem s a1 a2).pending = s.pending := by simp [State.clearMem]
@[simp ↓] theorem State.clearPoison_pending (s : State) (a1) (a2) : (State.clearPoison s a1 a2).pending = s.pending := by simp [State.clearPoison]
@[simp ↓] theorem State.checkResident_pending (s : State) (a1) : (State.checkResident s a1).pending = s.pending := by
  unfold State.checkResident; split <;> simp
@[simp ↓] theorem State.restoreStores_pending (s : State) (a1) : (State.restoreStores s a1).pending = s.pending := by simp [State.restoreStores]
@[simp ↓] theorem State.restoreBells_pending (s : State) (a1) : (State.restoreBells s a1).pending = s.pending := by
  unfold State.restoreBells; (try dsimp only); repeat' (first | with_reducible rfl | (simp; done) | split | (refine (State.each_pending _ _ _ ?_).trans ?_ <;> intros <;> (try dsimp only)) | simp)
@[simp ↓] theorem State.loseCores_pending (s : State) (a1) : (State.loseCores s a1).pending = s.pending := by simp [State.loseCores]
@[simp ↓] theorem State.hbmMode_pending (s : State) (a1) (a2) : (State.hbmMode s a1 a2).pending = s.pending := by simp [State.hbmMode]
@[simp ↓] theorem State.drainHold_pending (s : State) (a1) : (State.drainHold s a1).pending = s.pending := by simp [State.drainHold]
@[simp ↓] theorem State.sylError_pending (s : State) (a1) (a2) (a3) (a4) : (State.sylError s a1 a2 a3 a4).pending = s.pending := by simp [State.sylError]
@[simp ↓] theorem State.failActivation_pending (s : State) (a1) : (State.failActivation s a1).pending = s.pending := by
  unfold State.failActivation; split <;> simp
@[simp ↓] theorem State.cancelWaiting_pending (s : State) : (State.cancelWaiting s).pending = s.pending := by
  unfold State.cancelWaiting; repeat' (first | (simp; done) | split)

/-! ## Machine/Power.lean -/

@[simp ↓] theorem State.setPstate_pending (s : State) (a1) (a2) : (State.setPstate s a1 a2).pending = s.pending := by simp [State.setPstate]
@[simp ↓] theorem State.setResult_pending (s : State) (a1) : (State.setResult s a1).pending = s.pending := by simp [State.setResult]
@[simp ↓] theorem recessCommand_pending (s : State) (a1) (a2) : (recessCommand s a1 a2).1.pending = s.pending := by
  unfold recessCommand; dsimp only; repeat' (first | (simp; done) | split)
@[simp ↓] theorem State.resumeRecess_pending (s : State) : (State.resumeRecess s).pending = s.pending := by
  unfold State.resumeRecess; dsimp only; repeat' (first | (simp; done) | split)
@[simp ↓] theorem State.acceptWake_pending (s : State) (a1) : (State.acceptWake s a1).pending = s.pending := by simp [State.acceptWake]
@[simp ↓] theorem wakeCommand_pending (s : State) (a1) : (wakeCommand s a1).1.pending = s.pending := by
  unfold wakeCommand; dsimp only; repeat' (first | (simp; done) | split)
@[simp ↓] theorem recessQuiesceReached_pending (s : State) : (recessQuiesceReached s).pending = s.pending := by
  unfold recessQuiesceReached; repeat' (first | (simp; done) | split)
@[simp ↓] theorem recessQuiesceTimeout_pending (s : State) : (recessQuiesceTimeout s).pending = s.pending := by
  unfold recessQuiesceTimeout; dsimp only; repeat' (first | (simp; done) | split)
@[simp ↓] theorem State.stopClusters_pending (s : State) (a1) : (State.stopClusters s a1).pending = s.pending := by simp [State.stopClusters]
@[simp ↓] theorem State.resumeQueues_pending (s : State) (a1) : (State.resumeQueues s a1).pending = s.pending := by
  unfold State.resumeQueues; (try dsimp only); repeat' (first | with_reducible rfl | (simp; done) | split | (refine (State.each_pending _ _ _ ?_).trans ?_ <;> intros <;> (try dsimp only)) | simp)
@[simp ↓] theorem State.setRates_pending (s : State) (a1) : (State.setRates s a1).pending = s.pending := by simp [State.setRates]
@[simp ↓] theorem State.setAllRates_pending (s : State) : (State.setAllRates s).pending = s.pending := by simp [State.setAllRates]
@[simp ↓] theorem recessGated_pending (s : State) : (recessGated s).pending = s.pending := by
  unfold recessGated; dsimp only; repeat' (first | (simp; done) | split)
@[simp ↓] theorem wakeComplete_pending (s : State) (a1) (a2) : (wakeComplete s a1 a2).pending = s.pending := by
  unfold wakeComplete; dsimp only; repeat' (first | (simp; done) | split)
@[simp ↓] theorem reportCardTick_pending (s : State) : (reportCardTick s).pending = s.pending := by
  unfold reportCardTick; (try dsimp only); repeat' (first | with_reducible rfl | (simp; done) | split | (refine (State.each_pending _ _ _ ?_).trans ?_ <;> intros <;> (try dsimp only)) | simp)
@[simp ↓] theorem State.setEffective_pending (s : State) : (State.setEffective s).pending = s.pending := by
  unfold State.setEffective; dsimp only; repeat' (first | (simp; done) | split)
@[simp ↓] theorem State.setCap_pending (s : State) (a1) : (State.setCap s a1).pending = s.pending := by simp [State.setCap]
@[simp ↓] theorem State.watchFloor_pending (s : State) (a1) : (State.watchFloor s a1).pending = s.pending := by
  unfold State.watchFloor; dsimp only; repeat' (first | (simp; done) | split)
@[simp ↓] theorem capLoopTick_pending (s : State) (a1) : (capLoopTick s a1).pending = s.pending := by simp [capLoopTick]
@[simp ↓] theorem coolantLimitTick_pending (s : State) (a1) (a2) (a3) : (coolantLimitTick s a1 a2 a3).pending = s.pending := by simp [coolantLimitTick]
@[simp ↓] theorem coolantTrip_pending (s : State) : (coolantTrip s).pending = s.pending := by
  unfold coolantTrip; split <;> simp
@[simp ↓] theorem coolantTripEnd_pending (s : State) : (coolantTripEnd s).pending = s.pending := by
  unfold coolantTripEnd; split <;> simp
@[simp ↓] theorem railSample_pending (s : State) (a1) (a2) : (railSample s a1 a2).pending = s.pending := by simp [railSample]
@[simp ↓] theorem droopDetect_pending (s : State) (a1) : (droopDetect s a1).pending = s.pending := by
  unfold droopDetect; split <;> simp
@[simp ↓] theorem droopEnd_pending (s : State) (a1) : (droopEnd s a1).pending = s.pending := by simp [droopEnd]
@[simp ↓] theorem State.setHostLimit_pending (s : State) (a1) (a2) : (State.setHostLimit s a1 a2).pending = s.pending := by simp [State.setHostLimit]
@[simp ↓] theorem State.suspect_pending (s : State) (a1) (a2) : (State.suspect s a1 a2).pending = s.pending := by
  unfold State.suspect; split <;> simp
@[simp ↓] theorem State.sample_pending (s : State) (a1) (a2) (a3) (a4) (a5) : (State.sample s a1 a2 a3 a4 a5).1.pending = s.pending := by
  unfold State.sample; dsimp only; repeat' (first | (simp; done) | split)
@[simp ↓] theorem State.samples_pending (s : State) (a) (b) (c) (l : List (Nat × Option Int)) : (s.samples a b c l).1.pending = s.pending := by
  induction l generalizing s with
  | nil => rfl
  | cons x l ih => unfold State.samples; simp [ih]
@[simp ↓] theorem State.endParts_pending (s : State) (a1) : (State.endParts s a1).pending = s.pending := by simp [State.endParts]
@[simp ↓] theorem State.thermalShutdown_pending (s : State) (a1) (a2) (a3) : (State.thermalShutdown s a1 a2 a3).pending = s.pending := by simp [State.thermalShutdown]
@[simp ↓] theorem thermalLoopTick_pending (s : State) (a1) (a2) (a3) : (thermalLoopTick s a1 a2 a3).pending = s.pending := by
  unfold thermalLoopTick; dsimp only; repeat' (first | (simp; done) | split)
@[simp ↓] theorem sensorSuspect_pending (s : State) (a1) (a2) : (sensorSuspect s a1 a2).pending = s.pending := by
  unfold sensorSuspect; split <;> simp
@[simp ↓] theorem State.clearSuspect_pending (s : State) (a1) (a2) : (State.clearSuspect s a1 a2).pending = s.pending := by simp [State.clearSuspect]
@[simp ↓] theorem clusterPllStart_pending (s : State) (a1) : (clusterPllStart s a1).pending = s.pending := by
  unfold clusterPllStart; dsimp only; repeat' (first | (simp; done) | split)
@[simp ↓] theorem clusterPllLocked_pending (s : State) (a1) : (clusterPllLocked s a1).pending = s.pending := by
  unfold clusterPllLocked; dsimp only; repeat' (first | (simp; done) | split)
@[simp ↓] theorem clusterPllStop_pending (s : State) (a1) : (clusterPllStop s a1).pending = s.pending := by
  unfold clusterPllStop; dsimp only; repeat' (first | (simp; done) | split)

/-! ## Machine/Syllabus.lean -/

@[simp ↓] theorem State.keepImage_pending (s : State) (a1) : (State.keepImage s a1).pending = s.pending := by simp [State.keepImage]
@[simp ↓] theorem syllabusLoad_pending (s : State) (a1) : (syllabusLoad s a1).pending = s.pending := by
  unfold syllabusLoad; dsimp only; repeat' (first | (simp; done) | split)
@[simp ↓] theorem activateCommand_pending (s : State) (a1) : (activateCommand s a1).pending = s.pending := by
  unfold activateCommand; dsimp only; repeat' (first | (simp; done) | split)
@[simp ↓] theorem activateQuiesceReached_pending (s : State) : (activateQuiesceReached s).pending = s.pending := by
  unfold activateQuiesceReached; repeat' (first | (simp; done) | split)
@[simp ↓] theorem activateDigestChecked_pending (s : State) : (activateDigestChecked s).pending = s.pending := by
  unfold activateDigestChecked; repeat' (first | (simp; done) | split)
@[simp ↓] theorem State.resplit_pending (s : State) (a1) (a2) : (State.resplit s a1 a2).pending = s.pending := by simp [State.resplit]
@[simp ↓] theorem State.resplitStack_pending (s : State) (a1) (a2) : (State.resplitStack s a1 a2).pending = s.pending := by simp [State.resplitStack]
@[simp ↓] theorem State.writeStack_pending (s : State) (s2 : State) (a1) (a2) : (State.writeStack s s2 a1 a2).pending = s.pending := by simp [State.writeStack]
@[simp ↓] theorem State.loadStack_pending (s : State) (s2 : State) (a1) (a2) : (State.loadStack s s2 a1 a2).pending = s.pending := by
  unfold State.loadStack; repeat' (first | extract_lets | with_reducible rfl | split | with_reducible refine (State.setReg_pending _ _ _ _ _).trans ?_ | with_reducible refine (State.setAssembly_pending _ _ _).trans ?_ | with_reducible refine (State.setMarker_pending _ _ _).trans ?_ | with_reducible refine (State.pageFree_pending _ _).trans ?_ | with_reducible refine (State.loadPool_pending _ _).trans ?_ | with_reducible refine (State.notePages_pending _ _).trans ?_ | with_reducible refine (State.bump_pending _ _ _ _ _).trans ?_ | (with_reducible refine (State.each_pending _ _ _ ?_).trans ?_ <;> intros) | dsimp only | simp)
@[simp ↓] theorem State.loadWindows_pending (s : State) (s2 : State) (a1) : (State.loadWindows s s2 a1).pending = s.pending := by
  unfold State.loadWindows; split <;> simp
@[simp ↓] theorem State.loadEpochs_pending (s : State) (s2 : State) (a1) : (State.loadEpochs s s2 a1).pending = s.pending := by
  unfold State.loadEpochs; split <;> simp
@[simp ↓] theorem State.loadQueues_pending (s : State) (s2 : State) (a1) : (State.loadQueues s s2 a1).pending = s.pending := by
  unfold State.loadQueues; (try dsimp only); repeat' (first | with_reducible rfl | (simp; done) | split | (refine (State.each_pending _ _ _ ?_).trans ?_ <;> intros <;> (try dsimp only)) | simp)
@[simp ↓] theorem State.loadBells_pending (s : State) (s2 : State) (a1) : (State.loadBells s s2 a1).pending = s.pending := by
  unfold State.loadBells; (try dsimp only); repeat' (first | with_reducible rfl | (simp; done) | split | (refine (State.each_pending _ _ _ ?_).trans ?_ <;> intros <;> (try dsimp only)) | simp)
@[simp ↓] theorem State.loadPower_pending (s : State) (s2 : State) (a1) : (State.loadPower s s2 a1).pending = s.pending := by
  unfold State.loadPower; dsimp only; repeat' (first | (simp; done) | split)
@[simp ↓] theorem State.loadPins_pending (s : State) (s2 : State) (a1) (a2) : (State.loadPins s s2 a1 a2).pending = s.pending := by
  unfold State.loadPins; (try dsimp only); repeat' (first | with_reducible rfl | (simp; done) | ((try have q0 := State.pinInstall_some ‹State.pinInstall _ _ _ _ = some _›); simp_all; done) | split | (refine (State.each_pending _ _ _ ?_).trans ?_ <;> intros <;> (try dsimp only)) | simp)
@[simp ↓] theorem State.disableChanged_pending (s : State) (s2 : State) : (State.disableChanged s s2).pending = s.pending := by
  unfold State.disableChanged; (try dsimp only); repeat' (first | with_reducible rfl | (simp; done) | split | (refine (State.each_pending _ _ _ ?_).trans ?_ <;> intros <;> (try dsimp only)) | simp)
@[simp ↓] theorem State.endActivation_pending (s : State) (s2 : State) (a1) : (State.endActivation s s2 a1).pending = s.pending := by
  unfold State.endActivation; (try dsimp only); repeat' (first | with_reducible rfl | (simp; done) | split | (refine (State.each_pending _ _ _ ?_).trans ?_ <;> intros <;> (try dsimp only)) | simp)
@[simp ↓] theorem activateApplied_pending (s : State) : (activateApplied s).pending = s.pending := by
  unfold activateApplied; repeat' (first | (simp; done) | split)
@[simp ↓] theorem State.applyRule_pending (s : State) (a1) (a2) (a3) (a4) (a5) : (State.applyRule s a1 a2 a3 a4 a5).pending = s.pending := by
  unfold State.applyRule; dsimp only; repeat' (first | (simp; done) | split)
@[simp ↓] theorem State.applyRules_pending (s : State) (a1) (a2) : (State.applyRules s a1 a2).pending = s.pending := by simp [State.applyRules]
@[simp ↓] theorem ruleApplyComplete_pending (s : State) (a1) : (ruleApplyComplete s a1).pending = s.pending := by simp [ruleApplyComplete]

/-! ## Machine/Reliability.lean -/

theorem State.windowStore_some {s : State} {a1} {a2} {t : State} (h : (State.windowStore s a1 a2) = some t) : t.pending = s.pending := by
  revert h; unfold State.windowStore; (try dsimp only); repeat' (first | (intro h; cases h; simp; done) | (intro h; simp at h; done) | split)
@[simp ↓] theorem State.windowStore_keeps (s : State) (a1) (a2) (p) (h : s.pending = p) : Keeps p (State.windowStore s a1 a2) := fun t e => (State.windowStore_some e).trans h
@[simp ↓] theorem State.arrayError_pending (s : State) (a1) (a2) : (State.arrayError s a1 a2).pending = s.pending := by
  unfold State.arrayError; dsimp only; repeat' (first | (simp; done) | split)
@[simp ↓] theorem State.channelError_pending (s : State) (a1) (a2) : (State.channelError s a1 a2).pending = s.pending := by
  unfold State.channelError; dsimp only; repeat' (first | (simp; done) | split)
@[simp ↓] theorem State.scrubHbm_pending (s : State) (a1) (a2) (a3) : (State.scrubHbm s a1 a2 a3).pending = s.pending := by
  unfold State.scrubHbm; dsimp only; repeat' (first | (simp; done) | split)
@[simp ↓] theorem State.scrubArray_pending (s : State) (a1) (a2) (a3) : (State.scrubArray s a1 a2 a3).pending = s.pending := by
  unfold State.scrubArray; dsimp only; repeat' (first | (simp; done) | split)
@[simp ↓] theorem janitorScrub_pending (s : State) (a1) (a2) (a3) (a4) : (janitorScrub s a1 a2 a3 a4).pending = s.pending := by
  unfold janitorScrub; dsimp only; repeat' (first | (simp; done) | split)
@[simp ↓] theorem sliceFailure_pending (s : State) (a1) : (sliceFailure s a1).pending = s.pending := by
  unfold sliceFailure; (try dsimp only); repeat' (first | with_reducible rfl | (simp; done) | split | (refine (State.each_pending _ _ _ ?_).trans ?_ <;> intros <;> (try dsimp only)) | simp)
@[simp ↓] theorem State.repairLane_pending (s : State) (a1) (a2) (a3) (a4) (a5) : (State.repairLane s a1 a2 a3 a4 a5).pending = s.pending := by
  unfold State.repairLane; dsimp only; repeat' (first | (simp; done) | split)
@[simp ↓] theorem State.pauseQuiz_pending (s : State) (a1) : (State.pauseQuiz s a1).pending = s.pending := by simp [State.pauseQuiz]
@[simp ↓] theorem bondLaneRepair_pending (s : State) (a1) (a2) (a3) (a4) : (bondLaneRepair s a1 a2 a3 a4).pending = s.pending := by
  unfold bondLaneRepair; dsimp only; repeat' (first | (simp; done) | split)
@[simp ↓] theorem State.bondWord_pending (s : State) (a1) (a2) : (State.bondWord s a1 a2).pending = s.pending := by
  unfold State.bondWord; dsimp only; repeat' (first | (simp; done) | split)
@[simp ↓] theorem State.finishRepair_pending (s : State) (a1) : (State.finishRepair s a1).pending = s.pending := by
  unfold State.finishRepair; split <;> simp
@[simp ↓] theorem State.finishRepairs_pending (s : State) (a1) : (State.finishRepairs s a1).pending = s.pending := by simp [State.finishRepairs]
@[simp ↓] theorem bondRepairComplete_pending (s : State) (a1) : (bondRepairComplete s a1).pending = s.pending := by
  unfold bondRepairComplete; split <;> simp
@[simp ↓] theorem quizVisit_pending (s : State) (a1) : (quizVisit s a1).pending = s.pending := by
  unfold quizVisit; dsimp only; repeat' (first | (simp; done) | split)
@[simp ↓] theorem quizVisitEnd_pending (s : State) (a1) (a2) : (quizVisitEnd s a1 a2).pending = s.pending := by
  unfold quizVisitEnd; dsimp only; repeat' (first | (simp; done) | split)
@[simp ↓] theorem arrayRowRepair_pending (s : State) (a1) (a2) : (arrayRowRepair s a1 a2).pending = s.pending := by
  unfold arrayRowRepair; dsimp only; repeat' (first | (simp; done) | split)
@[simp ↓] theorem arrayRowRepairComplete_pending (s : State) (a1) : (arrayRowRepairComplete s a1).pending = s.pending := by simp [arrayRowRepairComplete]

/-! ## Machine/Reset.lean -/

@[simp ↓] theorem State.resetRecord_pending (s : State) (a1) : (State.resetRecord s a1).pending = s.pending := by simp [State.resetRecord]
@[simp ↓] theorem State.noteReset_pending (s : State) (a1) : (State.noteReset s a1).pending = s.pending := by simp [State.noteReset]
@[simp ↓] theorem State.showReset_pending (s : State) : (State.showReset s).pending = s.pending := by simp [State.showReset]
@[simp ↓] theorem State.resetLessons_pending (s : State) (a1) (a2) : (State.resetLessons s a1 a2).pending = s.pending := by simp [State.resetLessons]
@[simp ↓] theorem State.resetBells_pending (s : State) (a1) : (State.resetBells s a1).pending = s.pending := by simp [State.resetBells]
@[simp ↓] theorem State.resetWork_pending (s : State) (a1) : (State.resetWork s a1).pending = s.pending := by
  unfold State.resetWork; (try dsimp only); repeat' (first | with_reducible rfl | (simp; done) | ((try have q0 := abandonWrite_some ‹abandonWrite _ _ = some _›); simp_all; done) | split | (refine (State.each_pending _ _ _ ?_).trans ?_ <;> intros <;> (try dsimp only)) | simp)
@[simp ↓] theorem State.resetCounters_pending (s : State) (a1) : (State.resetCounters s a1).pending = s.pending := by
  unfold State.resetCounters; (try dsimp only); repeat' (first | with_reducible rfl | (simp; done) | split | (refine (State.each_pending _ _ _ ?_).trans ?_ <;> intros <;> (try dsimp only)) | simp)
@[simp ↓] theorem State.noteStack_pending (s : State) (a1) : (State.noteStack s a1).pending = s.pending := by simp [State.noteStack]
@[simp ↓] theorem State.resetPorts_pending (s : State) (a1) : (State.resetPorts s a1).pending = s.pending := by simp [State.resetPorts]
@[simp ↓] theorem State.resetStack_pending (s : State) (a1) (a2) : (State.resetStack s a1 a2).pending = s.pending := by
  unfold State.resetStack
  extract_lets k s1 s2 m s3 s4 s5 s6 s7 s8
  have h1 : s1.pending = s.pending := by simp [s1]
  have h2 : s2.pending = s1.pending := by simp [s2]
  have h3 : s3.pending = s2.pending := by simp [s3]
  have h4 : s4.pending = s3.pending := by simp [s4]
  have h5 : s5.pending = s4.pending := (State.each_pending _ _ _ (by intros; simp)).trans (State.loseCores_pending _ _)
  have h6 : s6.pending = s5.pending := State.each_pending _ _ _ (by intros; simp)
  have h7 : s7.pending = s6.pending := by
    refine State.each_pending _ _ _ ?_
    intro s j; dsimp only; split
    · rfl
    · exact (State.flushSlice_pending _ _ _).trans (State.setSlice_pending _ _ _)
  have h8 : s8.pending = s7.pending := by simp [s8]
  refine (State.setRates_pending _ _).trans ((State.each_pending _ _ _ ?_).trans (h8.trans (h7.trans (h6.trans (h5.trans (h4.trans (h3.trans (h2.trans h1))))))))
  intro s j; split
  · simp
  · rfl
@[simp ↓] theorem State.stopActivation_pending (s : State) (a1) : (State.stopActivation s a1).pending = s.pending := by
  unfold State.stopActivation; repeat' (first | (simp; done) | split)
@[simp ↓] theorem State.listReset_pending (s : State) (a1) : (State.listReset s a1).pending = s.pending := by simp [State.listReset]
@[simp ↓] theorem State.resetNamed_pending (s : State) (a1) (a2) : (State.resetNamed s a1 a2).pending = s.pending := by
  unfold State.resetNamed
  extract_lets s1
  have h1 : s1.pending = s.pending := (State.each_pending _ _ _ (fun s st =>
    (congrArg State.pending (show (fun (s : State) (st : Nat) => s.resetStack st a1) s st = s.resetStack st a1 from rfl)).trans
      (State.resetStack_pending s st a1))).trans (State.resetWork_pending _ _)
  clear_value s1
  split <;> exact (State.bump_pending _ _ _ _ _).trans h1
@[simp ↓] theorem State.enterReset_pending (s : State) (a1) : (State.enterReset s a1).pending = s.pending := by simp [State.enterReset]
@[simp ↓] theorem resetTakesEffect_pending (s : State) : (resetTakesEffect s).pending = s.pending := by simp [resetTakesEffect]
@[simp ↓] theorem State.setBankState_pending (s : State) (a1) (a2) : (State.setBankState s a1 a2).pending = s.pending := by
  unfold State.setBankState; split <;> simp
@[simp ↓] theorem State.firmwareEntry_pending (s : State) (a1) (a2) (a3) : (State.firmwareEntry s a1 a2 a3).pending = s.pending := by simp [State.firmwareEntry]
@[simp ↓] theorem State.badBank_pending (s : State) (a1) (a2) : (State.badBank s a1 a2).pending = s.pending := by simp [State.badBank]
@[simp ↓] theorem State.runBank_pending (s : State) (a1) (a2) : (State.runBank s a1 a2).pending = s.pending := by
  unfold State.runBank; split <;> simp
@[simp ↓] theorem State.failBank_pending (s : State) (a1) : (State.failBank s a1).pending = s.pending := by
  unfold State.failBank; split <;> simp
@[simp ↓] theorem State.boot_pending (s : State) : (State.boot s).pending = s.pending := by
  unfold State.boot; dsimp only; repeat' (first | (simp; done) | split)
@[simp ↓] theorem State.dropUpdate_pending (s : State) (a1) : (State.dropUpdate s a1).pending = s.pending := by
  unfold State.dropUpdate; split <;> simp
@[simp ↓] theorem State.failChannels_pending (s : State) (a1) : (State.failChannels s a1).pending = s.pending := by simp [State.failChannels]
@[simp ↓] theorem State.noteLanes_pending (s : State) (a1) : (State.noteLanes s a1).pending = s.pending := by simp [State.noteLanes]
@[simp ↓] theorem State.newKey_pending (s : State) (a1) : (State.newKey s a1).pending = s.pending := by simp [State.newKey]
@[simp ↓] theorem State.clearModule_pending (s : State) (a1) : (State.clearModule s a1).pending = s.pending := by simp [State.clearModule]
@[simp ↓] theorem State.coldReset_pending (s : State) (a1) : (State.coldReset s a1).pending = s.pending := by
  unfold State.coldReset; split <;> simp
@[simp ↓] theorem State.warmReset_pending (s : State) (a1) : (State.warmReset s a1).pending = s.pending := by simp [State.warmReset]
@[simp ↓] theorem State.acceptReset_pending (s : State) (a1) : (State.acceptReset s a1).pending = s.pending := by
  unfold State.acceptReset; dsimp only; repeat' (first | (simp; done) | split)
@[simp ↓] theorem State.resetWrite_pending (s : State) (a1) (a2) : (State.resetWrite s a1 a2).1.pending = s.pending := by
  unfold State.resetWrite; split <;> simp
@[simp ↓] theorem State.faultReset_pending (s : State) (a1) : (State.faultReset s a1).pending = s.pending := by simp [State.faultReset]
@[simp ↓] theorem tagUe_pending (s : State) (a1) (a2) (a3) : (tagUe s a1 a2 a3).pending = s.pending := by
  unfold tagUe; dsimp only; repeat' (first | (simp; done) | split)
@[simp ↓] theorem tutorUe_pending (s : State) (a1) (a2) : (tutorUe s a1 a2).pending = s.pending := by simp [tutorUe]
@[simp ↓] theorem proctorFault_pending (s : State) : (proctorFault s).pending = s.pending := by
  unfold proctorFault; dsimp only; repeat' (first | (simp; done) | split)
@[simp ↓] theorem bondDrainEnd_pending (s : State) (a1) (a2) : (bondDrainEnd s a1 a2).pending = s.pending := by
  unfold bondDrainEnd; split <;> simp
@[simp ↓] theorem State.checkArray_pending (s : State) (a1) : (State.checkArray s a1).pending = s.pending := by simp [State.checkArray]
@[simp ↓] theorem State.marchTest_pending (s : State) (a1) (a2) : (State.marchTest s a1 a2).pending = s.pending := by simp [State.marchTest]
@[simp ↓] theorem State.exam_pending (s : State) (a1) (a2) : (State.exam s a1 a2).pending = s.pending := by
  unfold State.exam; dsimp only; repeat' (first | (simp; done) | split)
@[simp ↓] theorem State.countSpares_pending (s : State) (a1) : (State.countSpares s a1).pending = s.pending := by simp [State.countSpares]
@[simp ↓] theorem State.zeroFill_pending (s : State) (a1) : (State.zeroFill s a1).pending = s.pending := by simp [State.zeroFill]
@[simp ↓] theorem State.hallwayReturn_pending (s : State) (a1) : (State.hallwayReturn s a1).pending = s.pending := by
  unfold State.hallwayReturn; (try dsimp only); repeat' (first | with_reducible rfl | (simp; done) | split | (refine (State.each_pending _ _ _ ?_).trans ?_ <;> intros <;> (try dsimp only)) | simp)
@[simp ↓] theorem State.syllabusDefaults_pending (s : State) : (State.syllabusDefaults s).pending = s.pending := by simp [State.syllabusDefaults]
@[simp ↓] theorem State.ageCore_pending (s : State) (a1) : (State.ageCore s a1).1.pending = s.pending := by
  unfold State.ageCore; dsimp only; repeat' (first | (simp; done) | split)
@[simp ↓] theorem State.testCores_pending (s : State) (cl) (l : List Nat) : (s.testCores cl l).1.pending = s.pending := by
  induction l generalizing s with
  | nil => rfl
  | cons x l ih => unfold State.testCores; dsimp only; rw [ih]; split <;> simp
@[simp ↓] theorem State.mapCores_pending (s : State) (a1) : (State.mapCores s a1).pending = s.pending := by
  unfold State.mapCores; dsimp only; repeat' (first | (simp; done) | split)
@[simp ↓] theorem State.identifyHbm_pending (s : State) (a1) : (State.identifyHbm s a1).1.pending = s.pending := by
  unfold State.identifyHbm
  have hf : ∀ (l : List Nat) (p : State × Bool), p.1.pending = s.pending → (l.foldl (fun (w : State × Bool) k =>
      let i := 8 * a1 + k
      let d := (Config.hbmDevice i).toNat
      let s := w.1.setReg .hbmDevice i 0 d
      if bits d 0 8 == 16 && bits d 8 8 == 64 then (s, w.2) else (s.logError .hbm i fatal 0x01B d 0, false)) p).1.pending = s.pending := by
    intro l; induction l with
    | nil => intro p h; exact h
    | cons c l ih =>
      intro p h; refine ih _ ?_; dsimp only; split
      · exact (State.setReg_pending _ _ _ _ _).trans h
      · exact (State.logError_pending _ _ _ _ _ _ _).trans ((State.setReg_pending _ _ _ _ _).trans h)
  exact hf _ _ rfl
@[simp ↓] theorem State.retestCores_pending (s : State) (a1) : (State.retestCores s a1).pending = s.pending := by
  unfold State.retestCores; (try dsimp only); repeat' (first | with_reducible rfl | (simp; done) | split | (refine (State.each_pending _ _ _ ?_).trans ?_ <;> intros <;> (try dsimp only)) | simp)
@[simp ↓] theorem State.testChannels_pending (s : State) : (State.testChannels s).pending = s.pending := by
  unfold State.testChannels; (try dsimp only); repeat' (first | with_reducible rfl | (simp; done) | split | (refine (State.each_pending _ _ _ ?_).trans ?_ <;> intros <;> (try dsimp only)) | simp)
@[simp ↓] theorem State.serveStack_pending (s : State) (a1) : (State.serveStack s a1).pending = s.pending := by simp [State.serveStack]
@[simp ↓] theorem State.failStack_pending (s : State) (a1) (a2) : (State.failStack s a1 a2).pending = s.pending := by simp [State.failStack]
@[simp ↓] theorem State.serveAgain_pending (s : State) (a1) (a2) : (State.serveAgain s a1 a2).pending = s.pending := by
  unfold State.serveAgain; dsimp only; repeat' (first | (simp; done) | split)
@[simp ↓] theorem State.returnStack_pending (s : State) (a1) (a2) : (State.returnStack s a1 a2).pending = s.pending := by
  unfold State.returnStack; dsimp only; repeat' (first | (simp; done) | split)
@[simp ↓] theorem State.finishModule_pending (s : State) (a1) (a2) : (State.finishModule s a1 a2).pending = s.pending := by simp [State.finishModule]
@[simp ↓] theorem State.checkStacks_pending (s : State) (a1) : (State.checkStacks s a1).1.pending = s.pending := by simp [State.checkStacks]
@[simp ↓] theorem State.warmDone_pending (s : State) (a1) (a2) : (State.warmDone s a1 a2).pending = s.pending := by simp [State.warmDone]
@[simp ↓] theorem startupDone_pending (s : State) (a1) (a2) (a3) : (startupDone s a1 a2 a3).pending = s.pending := by
  unfold startupDone; (try dsimp only); repeat' (first | with_reducible rfl | (simp; done) | split | (refine (State.each_pending _ _ _ ?_).trans ?_ <;> intros <;> (try dsimp only)) | simp)
@[simp ↓] theorem resetComplete_pending (s : State) : (resetComplete s).pending = s.pending := by
  unfold resetComplete; repeat' (first | (simp; done) | split)
@[simp ↓] theorem State.dropSupply_pending (s : State) : (State.dropSupply s).pending = s.pending := by simp [State.dropSupply]
@[simp ↓] theorem State.dropControl_pending (s : State) : (State.dropControl s).pending = s.pending := by simp [State.dropControl]
@[simp ↓] theorem State.setPerst_pending (s : State) (a1) (a2) : (State.setPerst s a1 a2).pending = s.pending := by simp [State.setPerst]
@[simp ↓] theorem inputPowerLoss_pending (s : State) : (inputPowerLoss s).pending = s.pending := by simp [inputPowerLoss]
@[simp ↓] theorem powerOn_pending (s : State) : (powerOn s).pending = s.pending := by
  unfold powerOn; split <;> simp

/-! ## Machine/Clock.lean -/

@[simp ↓] theorem countCycles_pending (s : State) (a1) (a2) : (countCycles s a1 a2).pending = s.pending := by
  unfold countCycles; dsimp only; repeat' (first | (simp; done) | split)
@[simp ↓] theorem tickCluster_pending (s : State) (a1) : (tickCluster s a1).pending = s.pending := by simp [tickCluster]
@[simp ↓] theorem tickPort_pending (s : State) (a1) : (tickPort s a1).pending = s.pending := by
  unfold tickPort; (try dsimp only); repeat' (first | with_reducible rfl | (simp; done) | split | (refine (State.each_pending _ _ _ ?_).trans ?_ <;> intros <;> (try dsimp only)) | simp)
@[simp ↓] theorem tickWithhold_pending (a1) (s : State) (a2) : (tickWithhold a1 s a2).pending = s.pending := by
  unfold tickWithhold; split <;> simp
@[simp ↓] theorem State.mustTest_pending (s : State) (a1) : (State.mustTest s a1).pending = s.pending := by simp [State.mustTest]
@[simp ↓] theorem State.holdError_pending (s : State) (a1) (a2) : (State.holdError s a1 a2).pending = s.pending := by
  unfold State.holdError; dsimp only; repeat' (first | (simp; done) | split)
@[simp ↓] theorem State.arrayUpset_pending (s : State) (a1) (a2) : (State.arrayUpset s a1 a2).pending = s.pending := by
  unfold State.arrayUpset; split <;> simp
@[simp ↓] theorem State.hbmUpset_pending (s : State) (a1) (a2) : (State.hbmUpset s a1 a2).pending = s.pending := by
  unfold State.hbmUpset; split <;> simp
@[simp ↓] theorem State.strike_pending (s : State) (a1) : (State.strike s a1).pending = s.pending := by
  unfold State.strike; repeat' (first | (simp; done) | split)
@[simp ↓] theorem State.strikes_pending (s : State) : (State.strikes s).pending = s.pending := by simp [State.strikes]
@[simp ↓] theorem passTime_pending (s : State) : (passTime s).pending = s.pending := by
  unfold passTime; (try dsimp only); repeat' (first | with_reducible rfl | (simp; done) | split | (refine (State.each_pending _ _ _ ?_).trans ?_ <;> intros <;> (try dsimp only)) | simp)
@[simp ↓] theorem State.showPhase_pending (s : State) : (State.showPhase s).pending = s.pending := by
  unfold State.showPhase; repeat' (first | (simp; done) | split)
@[simp ↓] theorem State.startOn_pending (s : State) (s2 : State) : (State.startOn s s2).pending = s.pending := by
  unfold State.startOn; dsimp only; repeat' (first | (simp; done) | split)

/-! ## Machine/Security.lean -/

@[simp ↓] theorem State.keyDone_pending (s : State) (a1) : (State.keyDone s a1).pending = s.pending := by simp [State.keyDone]
@[simp ↓] theorem State.keyEntry_pending (s : State) (a1) (a2) : (State.keyEntry s a1 a2).pending = s.pending := by simp [State.keyEntry]
@[simp ↓] theorem keyInstall_pending (s : State) (a1) (a2) : (keyInstall s a1 a2).pending = s.pending := by
  unfold keyInstall; dsimp only; repeat' (first | (simp; done) | split)
@[simp ↓] theorem keyRevoke_pending (s : State) (a1) : (keyRevoke s a1).pending = s.pending := by
  unfold keyRevoke; repeat' (first | (simp; done) | split)
@[simp ↓] theorem State.keyCommand_pending (s : State) (a1) (a2) : (State.keyCommand s a1 a2).pending = s.pending := by simp [State.keyCommand]
theorem State.svnCommit_some {s : State} {t : State} (h : (State.svnCommit s) = some t) : t.pending = s.pending := by
  revert h; unfold State.svnCommit; (try dsimp only); repeat' (first | (intro h; cases h; simp; done) | (intro h; simp at h; done) | split)
@[simp ↓] theorem State.svnCommit_keeps (s : State) (p) (h : s.pending = p) : Keeps p (State.svnCommit s) := fun t e => (State.svnCommit_some e).trans h
@[simp ↓] theorem State.spdmAnswer_pending (s : State) (a1) (a2) (a3) : (State.spdmAnswer s a1 a2 a3).pending = s.pending := by
  unfold State.spdmAnswer; repeat' (first | (simp; done) | split)
@[simp ↓] theorem State.spdmReply_pending (s : State) (a1) (a2) (a3) : (State.spdmReply s a1 a2 a3).pending = s.pending := by
  unfold State.spdmReply; split <;> simp
@[simp ↓] theorem State.setSession_pending (s : State) (a1) (a2) : (State.setSession s a1 a2).pending = s.pending := by simp [State.setSession]
@[simp ↓] theorem getCertificate_pending (s : State) (a1) (a2) : (getCertificate s a1 a2).pending = s.pending := by
  unfold getCertificate; split <;> simp
@[simp ↓] theorem challenge_pending (s : State) (a1) (a2) : (challenge s a1 a2).pending = s.pending := by simp [challenge]
@[simp ↓] theorem getMeasurements_pending (s : State) (a1) (a2) : (getMeasurements s a1 a2).pending = s.pending := by
  unfold getMeasurements; dsimp only; repeat' (first | (simp; done) | split)
@[simp ↓] theorem keyExchange_pending (s : State) (a1) (a2) : (keyExchange s a1 a2).pending = s.pending := by
  unfold keyExchange; repeat' (first | (simp; done) | split)
@[simp ↓] theorem finishSession_pending (s : State) (a1) (a2) : (finishSession s a1 a2).pending = s.pending := by
  unfold finishSession; dsimp only; repeat' (first | (simp; done) | split)
@[simp ↓] theorem keyUpdate_pending (s : State) (a1) : (keyUpdate s a1).pending = s.pending := by
  unfold keyUpdate; repeat' (first | (simp; done) | split)
@[simp ↓] theorem heartbeat_pending (s : State) (a1) : (heartbeat s a1).pending = s.pending := by
  unfold heartbeat; split <;> simp
@[simp ↓] theorem endSession_pending (s : State) (a1) : (endSession s a1).pending = s.pending := by
  unfold endSession; repeat' (first | (simp; done) | split)
@[simp ↓] theorem State.spdmAnswered_pending (s : State) (a1) (a2) : (State.spdmAnswered s a1 a2).pending = s.pending := by
  unfold State.spdmAnswered; dsimp only; repeat' (first | (simp; done) | split)
@[simp ↓] theorem spdmFragment_pending (s : State) (a1) (a2) (a3) (a4) : (spdmFragment s a1 a2 a3 a4).pending = s.pending := by
  unfold spdmFragment; dsimp only; repeat' (first | (simp; done) | split)
@[simp ↓] theorem kSetGo_pending (s : State) (a1) (a2) : (kSetGo s a1 a2).pending = s.pending := by
  unfold kSetGo; dsimp only; repeat' (first | (simp; done) | split)
@[simp ↓] theorem ideIntegrityFailure_pending (s : State) (a1) : (ideIntegrityFailure s a1).pending = s.pending := by
  unfold ideIntegrityFailure; split <;> simp

/-! ## Machine/Registers.lean -/

@[simp ↓] theorem State.clearRc_pending (s : State) (a1) (a2) (a3) : (State.clearRc s a1 a2 a3).pending = s.pending := by simp [State.clearRc]
@[simp ↓] theorem State.read32_pending (s : State) (a1) (a2) : (State.read32 s a1 a2).1.pending = s.pending := by
  unfold State.read32; repeat' (first | (simp; done) | split)
@[simp ↓] theorem State.readReg_pending (s : State) (a1) (a2) (a3) : (State.readReg s a1 a2 a3).1.pending = s.pending := by
  unfold State.readReg; dsimp only; repeat' (first | (simp; done) | split)
@[simp ↓] theorem State.writePlain_pending (s : State) (a1) (a2) (a3) : (State.writePlain s a1 a2 a3).1.pending = s.pending := by
  unfold State.writePlain; repeat' (first | (simp; done) | split)
@[simp ↓] theorem policyWrite_pending (s : State) (a1) (a2) (a3) : (policyWrite s a1 a2 a3).1.pending = s.pending := by
  unfold policyWrite; (try dsimp only); repeat' (first | with_reducible rfl | (simp; done) | split | (refine (State.each_pending _ _ _ ?_).trans ?_ <;> intros <;> (try dsimp only)) | simp)
@[simp ↓] theorem keyCmdWrite_pending (s : State) (a1) (a2) (a3) : (keyCmdWrite s a1 a2 a3).1.pending = s.pending := by
  unfold keyCmdWrite; split <;> simp
@[simp ↓] theorem svnCommitWrite_pending (s : State) (a1) (a2) (a3) : (svnCommitWrite s a1 a2 a3).1.pending = s.pending := by
  unfold svnCommitWrite; split <;> simp
@[simp ↓] theorem State.setDiaryIndex_pending (s : State) (a1) (a2) (a3) : (State.setDiaryIndex s a1 a2 a3).pending = s.pending := by simp [State.setDiaryIndex]
@[simp ↓] theorem corridorCtrlWrite_pending (s : State) (a1) : (corridorCtrlWrite s a1).pending = s.pending := by
  unfold corridorCtrlWrite; split <;> simp
@[simp ↓] theorem capRegWrite_pending (s : State) (a1) (a2) (a3) : (capRegWrite s a1 a2 a3).1.pending = s.pending := by
  unfold capRegWrite; repeat' (first | (simp; done) | split)
@[simp ↓] theorem pstateWrite_pending (s : State) (a1) (a2) (a3) : (pstateWrite s a1 a2 a3).1.pending = s.pending := by
  unfold pstateWrite; dsimp only; repeat' (first | (simp; done) | split)
@[simp ↓] theorem msixWrite_pending (s : State) (a1) (a2) (a3) : (msixWrite s a1 a2 a3).1.pending = s.pending := by
  unfold msixWrite; dsimp only; repeat' (first | (simp; done) | split)
@[simp ↓] theorem ruleStepWrite_pending (s : State) (a1) (a2) : (ruleStepWrite s a1 a2).1.pending = s.pending := by
  unfold ruleStepWrite; split <;> simp
@[simp ↓] theorem ringWrite_pending (s : State) (a1) (a2) (a3) (a4) : (ringWrite s a1 a2 a3 a4).1.pending = s.pending := by
  unfold ringWrite; split <;> simp
@[simp ↓] theorem markerStateWrite_pending (s : State) (a1) (a2) (a3) : (markerStateWrite s a1 a2 a3).1.pending = s.pending := by
  unfold markerStateWrite; repeat' (first | (simp; done) | split)
@[simp ↓] theorem committedWrite_pending (s : State) (a1) (a2) (a3) : (committedWrite s a1 a2 a3).1.pending = s.pending := by
  unfold committedWrite; split <;> simp
@[simp ↓] theorem stepCmdWrite_pending (s : State) (a1) (a2) (a3) : (stepCmdWrite s a1 a2 a3).1.pending = s.pending := by
  unfold stepCmdWrite; split <;> simp
@[simp ↓] theorem calCmdWrite_pending (s : State) (a1) (a2) (a3) : (calCmdWrite s a1 a2 a3).1.pending = s.pending := by
  unfold calCmdWrite; split <;> simp
@[simp ↓] theorem windowWrite_pending (s : State) (a1) (a2) (a3) (a4) : (windowWrite s a1 a2 a3 a4).1.pending = s.pending := by
  unfold windowWrite; extract_lets e others
  clear_value e others
  split
  · exact State.writePlain_pending _ _ _ _
  · exact State.refuse_pending _ _ _
@[simp ↓] theorem pinCmdWrite_pending (s : State) (a1) (a2) (a3) : (pinCmdWrite s a1 a2 a3).1.pending = s.pending := by
  unfold pinCmdWrite; split <;> simp
@[simp ↓] theorem State.writePlace_pending (s : State) (a1) (a2) (a3) : (State.writePlace s a1 a2 a3).1.pending = s.pending := by
  unfold State.writePlace; dsimp only; repeat' (first | (simp; done) | split)
@[simp ↓] theorem State.writeLogged_pending (s : State) (a1) (a2) (a3) : (State.writeLogged s a1 a2 a3).1.pending = s.pending := by
  unfold State.writeLogged; dsimp only; repeat' (first | (simp; done) | split)
@[simp ↓] theorem State.dropHalf_pending (s : State) (a1) : (State.dropHalf s a1).pending = s.pending := by simp [State.dropHalf]
@[simp ↓] theorem State.write32_pending (s : State) (a1) (a2) (a3) : (State.write32 s a1 a2 a3).1.pending = s.pending := by
  unfold State.write32; dsimp only; repeat' (first | (simp; done) | split)
@[simp ↓] theorem State.writeReg_pending (s : State) (a1) (a2) (a3) (a4) : (State.writeReg s a1 a2 a3 a4).1.pending = s.pending := by
  unfold State.writeReg; dsimp only; repeat' (first | (simp; done) | split)
@[simp ↓] theorem State.onPath_pending (s : State) (a) (f : State → State) (h : ∀ s, (f s).pending = s.pending) :
    (State.onPath s a f).pending = s.pending := by
  unfold State.onPath; repeat' (first | rfl | (simp [h]; done) | split)
@[simp ↓] theorem registerWrite_pending (s : State) (a1) (a2) (a3) (a4) : (registerWrite s a1 a2 a3 a4).pending = s.pending := by simp [registerWrite]
@[simp ↓] theorem registerRead_pending (s : State) (a1) (a2) (a3) : (registerRead s a1 a2 a3).pending = s.pending := by simp [registerRead]
@[simp ↓] theorem regCommand_pending (s : State) (a1) (a2) (a3) (a4) (a5) : (regCommand s a1 a2 a3 a4 a5).pending = s.pending := by simp [regCommand]
@[simp ↓] theorem registerReadRefused_pending (s : State) (a1) (a2) (a3) : (registerReadRefused s a1 a2 a3).pending = s.pending := by
  unfold registerReadRefused; split <;> simp

/-! ## Machine/Management.lean -/

@[simp ↓] theorem State.onI3c_pending (s : State) (a) (f : State → State) (h : ∀ s, (f s).pending = s.pending) :
    (State.onI3c s a f).pending = s.pending := by
  unfold State.onI3c; repeat' (first | rfl | (simp [h]; done) | split)
@[simp ↓] theorem State.pldm_pending (s : State) (a1) (a2) : (State.pldm s a1 a2).pending = s.pending := by simp [State.pldm]
@[simp ↓] theorem regRead_pending (s : State) (a1) (a2) : (regRead s a1 a2).pending = s.pending := by
  unfold regRead; (try dsimp only); repeat' (first | with_reducible rfl | (simp; done) | split | (refine (State.each_pending _ _ _ ?_).trans ?_ <;> intros <;> (try dsimp only)) | (refine State.onI3c_pending _ _ _ ?_ <;> intros <;> (try dsimp only)) | simp)
@[simp ↓] theorem State.i3cWrite_pending (s : State) (a1) (a2) (a3) : (State.i3cWrite s a1 a2 a3).pending = s.pending := by simp [State.i3cWrite]
@[simp ↓] theorem regWrite_pending (s : State) (a1) (a2) (a3) (a4) : (regWrite s a1 a2 a3 a4).pending = s.pending := by
  unfold regWrite; (try dsimp only); repeat' (first | with_reducible rfl | (simp; done) | split | (refine (State.each_pending _ _ _ ?_).trans ?_ <;> intros <;> (try dsimp only)) | (refine State.onI3c_pending _ _ _ ?_ <;> intros <;> (try dsimp only)) | simp)
@[simp ↓] theorem getSensorReading_pending (s : State) (a1) : (getSensorReading s a1).pending = s.pending := by
  unfold getSensorReading; (try dsimp only); repeat' (first | with_reducible rfl | (simp; done) | split | (refine (State.each_pending _ _ _ ?_).trans ?_ <;> intros <;> (try dsimp only)) | (refine State.onI3c_pending _ _ _ ?_ <;> intros <;> (try dsimp only)) | simp)
@[simp ↓] theorem setEffecter_pending (s : State) (a1) (a2) (a3) : (setEffecter s a1 a2 a3).pending = s.pending := by
  unfold setEffecter; (try dsimp only); repeat' (first | with_reducible rfl | (simp; done) | split | (refine (State.each_pending _ _ _ ?_).trans ?_ <;> intros <;> (try dsimp only)) | (refine State.onI3c_pending _ _ _ ?_ <;> intros <;> (try dsimp only)) | simp)
@[simp ↓] theorem State.onUpdate_pending (s : State) (a) (f : State → State) (h : ∀ s, (f s).pending = s.pending) :
    (State.onUpdate s a f).pending = s.pending := by
  unfold State.onUpdate
  refine State.onI3c_pending _ _ _ ?_; intro s; split
  · simp
  · exact h s
@[simp ↓] theorem State.onOwnUpdate_pending (s : State) (f : State → State) (h : ∀ s, (f s).pending = s.pending) : (State.onOwnUpdate s f).pending = s.pending := by
  unfold State.onOwnUpdate; exact State.onUpdate_pending _ _ _ h
@[simp ↓] theorem requestFirmwareData_pending (s : State) (a1) (a2) : (requestFirmwareData s a1 a2).pending = s.pending := by
  unfold requestFirmwareData; split <;> simp
@[simp ↓] theorem verifyComplete_pending (s : State) : (verifyComplete s).pending = s.pending := by
  unfold verifyComplete; refine State.onOwnUpdate_pending _ _ ?_; intro s; dsimp only; repeat' (first | rfl | (simp; done) | split)
@[simp ↓] theorem applyComplete_pending (s : State) : (applyComplete s).pending = s.pending := by
  unfold applyComplete; refine State.onOwnUpdate_pending _ _ ?_; intro s; dsimp only; repeat' (first | rfl | (simp; done) | split)
@[simp ↓] theorem activateFirmware_pending (s : State) (a1) : (activateFirmware s a1).pending = s.pending := by
  unfold activateFirmware; (try dsimp only); repeat' (first | with_reducible rfl | (simp; done) | split | (refine (State.each_pending _ _ _ ?_).trans ?_ <;> intros <;> (try dsimp only)) | (refine State.onUpdate_pending _ _ _ ?_ <;> intros <;> (try dsimp only)) | simp)
@[simp ↓] theorem State.setEvents_pending (s : State) (a1) : (State.setEvents s a1).pending = s.pending := by simp [State.setEvents]
@[simp ↓] theorem pldmEventResend_pending (s : State) : (pldmEventResend s).pending = s.pending := by
  unfold pldmEventResend; repeat' (first | (simp; done) | split)
@[simp ↓] theorem setEventReceiver_pending (s : State) (a1) : (setEventReceiver s a1).pending = s.pending := by simp [setEventReceiver]
@[simp ↓] theorem mgmtFrame_pending (s : State) (a1) : (mgmtFrame s a1).pending = s.pending := by
  unfold mgmtFrame; dsimp only; repeat' (first | (simp; done) | split)
@[simp ↓] theorem State.closeBatch_pending (s : State) : (State.closeBatch s).pending = s.pending := by
  unfold State.closeBatch; dsimp only; repeat' (first | (simp; done) | split)
@[simp ↓] theorem State.putDiary_pending (s : State) (a1) : (State.putDiary s a1).pending = s.pending := by
  unfold State.putDiary; dsimp only; repeat' (first | (simp; done) | split)
@[simp ↓] theorem diaryEntryWrite_pending (s : State) : (diaryEntryWrite s).pending = s.pending := by
  unfold diaryEntryWrite; dsimp only; repeat' (first | (simp; done) | split)
@[simp ↓] theorem sealWrite_pending (s : State) : (sealWrite s).pending = s.pending := by
  unfold sealWrite; split <;> simp

/-! ## Machine/Deliver.lean -/

@[simp ↓] theorem controlMessage_pending (s : State) (a1) (a2) (a3) : (controlMessage s a1 a2 a3).pending = s.pending := by
  unfold controlMessage; repeat' (first | (simp; done) | split)
@[simp ↓] theorem State.deliver_pending (s : State) (a1) (a2) : (State.deliver s a1 a2).pending = s.pending := by
  unfold State.deliver; repeat' (first | (simp; done) | split)
@[simp ↓] theorem State.takeSlots_pending (s : State) (a1) (a2) : (State.takeSlots s a1 a2).1.pending = s.pending := by simp [State.takeSlots]
@[simp ↓] theorem State.takeAll_pending (s : State) (a1) (l : List FabMsg) : (s.takeAll a1 l).1.pending = s.pending := by
  unfold State.takeAll
  have hf : ∀ (l : List FabMsg) (p : State × Bool), p.1.pending = s.pending → (l.foldl (fun (w : State × Bool) m =>
      let r := w.1.takeSlots a1 m; (r.1, w.2 && r.2)) p).1.pending = s.pending := by
    intro l; induction l with
    | nil => intro p h; exact h
    | cons c l ih => intro p h; exact ih _ ((State.takeSlots_pending _ _ _).trans h)
  exact hf _ _ rfl
@[simp ↓] theorem State.flitHeader_pending (s : State) (a1) (a2) : (State.flitHeader s a1 a2).pending = s.pending := by
  unfold State.flitHeader; split <;> simp
@[simp ↓] theorem State.linkMessage_pending (s : State) (a1) (a2) : (State.linkMessage s a1 a2).pending = s.pending := by
  unfold State.linkMessage; split <;> simp
@[simp ↓] theorem State.deliverAll_pending (s : State) (a1) (a2) (a3) : (State.deliverAll s a1 a2 a3).pending = s.pending := by
  unfold State.deliverAll; dsimp only; repeat' (first | (simp; done) | split)
@[simp ↓] theorem State.holdFlit_pending (s : State) (a1) (a2) : (State.holdFlit s a1 a2).pending = s.pending := by simp [State.holdFlit]
@[simp ↓] theorem State.dataFlit_pending (s : State) (a1) (a2) : (State.dataFlit s a1 a2).pending = s.pending := by
  unfold State.dataFlit; dsimp only; repeat' (first | (simp; done) | split)
@[simp ↓] theorem State.seqFlit_pending (s : State) (a1) (a2) : (State.seqFlit s a1 a2).pending = s.pending := by
  unfold State.seqFlit; dsimp only; repeat' (first | (simp; done) | split)
@[simp ↓] theorem flitReceive_pending (s : State) (a1) (a2) : (flitReceive s a1 a2).pending = s.pending := by
  unfold flitReceive; dsimp only; repeat' (first | (simp; done) | split)
@[simp ↓] theorem tagFlitVerify_pending (s : State) (a1) (a2) : (tagFlitVerify s a1 a2).pending = s.pending := by
  unfold tagFlitVerify; dsimp only; repeat' (first | (simp; done) | split)
@[simp ↓] theorem State.deliverFrame_pending (s : State) (a1) : (State.deliverFrame s a1).pending = s.pending := by
  unfold State.deliverFrame; dsimp only; repeat' (first | (simp; done) | split)
@[simp ↓] theorem corridorFrameReceive_pending (s : State) (a1) : (corridorFrameReceive s a1).pending = s.pending := by
  unfold corridorFrameReceive; dsimp only; repeat' (first | (simp; done) | split)

end Sys2Proof.Machine
end

