-- ==== Sys2Proof/Laws/Threads.lean ====
section
/-!
SUPPORT. Laws of threads: registers, and the one way in which a bundle that nothing holds back issues.
-/
namespace Sys2Proof.Machine

@[simp] theorem Thread.rx_zero (t : Thread) : t.rx 0 = 0 := by simp [Thread.rx]
@[simp] theorem Thread.wx_zero (t : Thread) (v : Word) : t.wx 0 v = t := by simp [Thread.wx]
/-- A scalar register reads what was written; x0 reads 0 (R90). -/
theorem Thread.rx_wx_same (t : Thread) (r : Fin 32) (v : Word) : (t.wx r v).rx r = if r = 0 then 0 else v := by
  by_cases h : r = 0
  · simp [h]
  · simp [Thread.rx, Thread.wx, h, Tab.get_set_same]
theorem Thread.rx_wx_other (t : Thread) (r q : Fin 32) (v : Word) (h : q ≠ r) : (t.wx r v).rx q = t.rx q := by
  by_cases h0 : r = 0
  · simp [h0]
  · by_cases hq : q = 0
    · simp [hq]
    · simp only [Thread.rx, Thread.wx, h0, hq, ite_false]
      exact Tab.get_set_other _ _ _ _ (fun e => h (Fin.ext e))
@[simp] theorem Thread.rt_wt_same (t : Thread) (r : Fin 16) (v : Word) : (t.wt r v).rt r = v := Tab.get_set_same _ _ _ _
theorem Thread.rt_wt_other (t : Thread) (r q : Fin 16) (v : Word) (h : q ≠ r) : (t.wt r v).rt q = t.rt q :=
  Tab.get_set_other _ _ _ _ (fun e => h (Fin.ext e))
@[simp] theorem Thread.rx_wt (t : Thread) (r : Fin 16) (q : Fin 32) (v : Word) : (t.wt r v).rx q = t.rx q := rfl
@[simp] theorem Thread.t_wx (t : Thread) (r : Fin 32) (v : Word) : (t.wx r v).t = t.t := by unfold Thread.wx; split <;> rfl
@[simp] theorem Thread.pc_wx (t : Thread) (r : Fin 32) (v : Word) : (t.wx r v).pc = t.pc := by unfold Thread.wx; split <;> rfl
@[simp] theorem Thread.state_wx (t : Thread) (r : Fin 32) (v : Word) : (t.wx r v).state = t.state := by unfold Thread.wx; split <;> rfl

/-- What a change of one thread does to the threads of its core. -/
theorem State.thread_onThread_same (s : State) (c : CoreId) (n : Fin 16) (f : Thread → Thread) :
    ((s.onThread c n f).core c).thread n = f ((s.core c).thread n) := by simp [State.onThread]
theorem State.thread_onThread_other (s : State) (c : CoreId) (n : Fin 16) (m : Nat) (f : Thread → Thread) (h : m ≠ n.val) :
    ((s.onThread c n f).core c).thread m = (s.core c).thread m := by
  simp [State.onThread, Core.thread_setThread_other _ _ _ _ h]
/-- It leaves every other core. -/
theorem State.core_onThread_other (s : State) (c d : CoreId) (n : Fin 16) (f : Thread → Thread) (h : d ≠ c) :
    (s.onThread c n f).core d = s.core d := State.core_setCore_other _ _ _ _ h
/-! ## Releases -/

/-- Taking releases changes the descriptors, the slot owners and the release queue of a core, and nothing else of it. -/
theorem Core.release_eq (c : Core) (g : Stage) (d : Nat) : ∃ y o, c.release g d = { c with streams := y, owner := o } := by
  unfold Core.release
  dsimp only
  split
  · exact ⟨c.streams, c.owner, rfl⟩
  · exact ⟨_, _, rfl⟩
theorem Core.takeReleases_eq (c : Core) (g : Stage) : ∃ y o q, c.takeReleases g = { c with streams := y, owner := o, streamQ := q } := by
  unfold Core.takeReleases
  generalize c.streamQ = l
  induction l generalizing c with
  | nil => exact ⟨c.streams, c.owner, c.streamQ, rfl⟩
  | cons e l ih =>
    rw [List.foldl_cons]
    by_cases h : c.releaseReady g e = true
    · rw [if_pos h]
      obtain ⟨y, o, hr⟩ := Core.release_eq c g (streamDescOf e)
      obtain ⟨y', o', q', hi⟩ := ih { c.release g (streamDescOf e) with streamQ := c.streamQ.filter (fun o => o.order != e.order) }
      exact ⟨y', o', q', by rw [hi, hr]⟩
    · rw [if_neg h]; exact ih c

/-- What the judged state keeps of the state before it. -/
theorem State.judged_core_same (s : State) (r : ThreadRef) :
    ∃ y o q, (s.judged r).core r.core = { s.core r.core with streams := y, owner := o, streamQ := q } := by
  unfold State.judged State.takeReleases
  split
  · exact ⟨_, _, _, rfl⟩
  · rw [State.core_setCore_same]; exact Core.takeReleases_eq _ _
theorem State.judged_core_other (s : State) (r : ThreadRef) (d : CoreId) (h : d ≠ r.core) : (s.judged r).core d = s.core d := by
  unfold State.judged State.takeReleases
  split
  · rfl
  · exact State.core_setCore_other _ _ _ _ h
@[simp] theorem State.judged_thread (s : State) (r : ThreadRef) (n : Nat) : ((s.judged r).core r.core).thread n = (s.core r.core).thread n := by
  obtain ⟨y, o, q, h⟩ := State.judged_core_same s r; rw [h]; rfl
@[simp] theorem State.judged_outst (s : State) (r : ThreadRef) : ((s.judged r).core r.core).outst = (s.core r.core).outst := by
  obtain ⟨y, o, q, h⟩ := State.judged_core_same s r; rw [h]
@[simp] theorem State.judged_stage (s : State) (r : ThreadRef) : ((s.judged r).core r.core).stage = (s.core r.core).stage := by
  obtain ⟨y, o, q, h⟩ := State.judged_core_same s r; rw [h]
@[simp] theorem State.judged_regs (s : State) (r : ThreadRef) : (s.judged r).regs = s.regs := by unfold State.judged State.takeReleases; split <;> rfl
@[simp] theorem State.judged_mem (s : State) (r : ThreadRef) : (s.judged r).mem = s.mem := by unfold State.judged State.takeReleases; split <;> rfl
@[simp] theorem State.judged_hostMem (s : State) (r : ThreadRef) : (s.judged r).hostMem = s.hostMem := by unfold State.judged State.takeReleases; split <;> rfl
@[simp] theorem State.judged_poison (s : State) (r : ThreadRef) : (s.judged r).poison = s.poison := by unfold State.judged State.takeReleases; split <;> rfl
@[simp] theorem State.judged_rowPoison (s : State) (r : ThreadRef) : (s.judged r).rowPoison = s.rowPoison := by unfold State.judged State.takeReleases; split <;> rfl
@[simp] theorem State.judged_slate (s : State) (r : ThreadRef) : (s.judged r).slate = s.slate := by unfold State.judged State.takeReleases; split <;> rfl
@[simp] theorem State.judged_clusters (s : State) (r : ThreadRef) : (s.judged r).clusters = s.clusters := by unfold State.judged State.takeReleases; split <;> rfl
@[simp] theorem State.judged_lessons (s : State) (r : ThreadRef) : (s.judged r).lessons = s.lessons := by unfold State.judged State.takeReleases; split <;> rfl
@[simp] theorem State.judged_bells (s : State) (r : ThreadRef) : (s.judged r).bells = s.bells := by unfold State.judged State.takeReleases; split <;> rfl
@[simp] theorem State.judged_outbox (s : State) (r : ThreadRef) : (s.judged r).outbox = s.outbox := by unfold State.judged State.takeReleases; split <;> rfl
@[simp] theorem State.judged_pending (s : State) (r : ThreadRef) : (s.judged r).pending = s.pending := by unfold State.judged State.takeReleases; split <;> rfl
@[simp] theorem State.judged_freeNext (s : State) (r : ThreadRef) : (s.judged r).freeNext = s.freeNext := by unfold State.judged State.takeReleases; split <;> rfl
@[simp] theorem State.judged_issueOrder (s : State) (r : ThreadRef) : (s.judged r).issueOrder = s.issueOrder := by unfold State.judged State.takeReleases; split <;> rfl

/-! ## Issue -/

/-- A bundle that nothing holds back issues. -/
theorem issueBundle_of_issues {s : State} {r : ThreadRef} {b : Bundle} {g : Stage} {t : Thread} (h : Issues s r b g t) :
    issueBundle s r b = issued (s.judged r) r.core r.thread g t b := by
  have h1 := h.runs; have h2 := h.registers; have h3 := h.entries; have h4 := h.storeA; have h5 := h.storeB
  have h6 := h.passes; have h7 := h.streamA; have h8 := h.streamB
  unfold State.judged at *
  simp [issueBundle, h1, h2, h3, h4, h5, h6, h7, h8]
/-- A bundle that a check refuses raises its fault, with the other slot's beside it, and has no other effect (R93, R115). -/
theorem issueBundle_of_fault {s : State} {r : ThreadRef} {b : Bundle} {g : Stage} {t : Thread} {f : ThreadFault}
    (runs : (s.judged r).runnable r.core r.thread = some (g, t)) (regs : ((s.judged r).core r.core).regsWait r.thread b = false)
    (entries : ((s.judged r).core r.core).entriesFree r.thread b = true) (wa : ((s.judged r).core r.core).storeWaits g r.thread t b.a = false)
    (wb : ((s.judged r).core r.core).storeWaits g r.thread t b.b = false) (hf : checkBundle (s.judged r) r.core r.thread g t b = some f) :
    issueBundle s r b = (s.judged r).refuseBundle r.core r.thread g t b f := by
  unfold State.judged at *
  simp [issueBundle, runs, regs, entries, wa, wb, hf]

end Sys2Proof.Machine
end

