-- ==== Sys2Proof/Tests/Slice0.lean ====
section
/-!
SUPPORT. Tests: an ill-formed command for each check of WellFormed, what the rows do on small states, and states that meet the premises of each statement.
-/
namespace Sys2Proof.Tests
open Machine
set_option Elab.async false

/-! ## The core -/

theorem test_words : decodeSlot (0x00 * 2 ^ 54 + 1 * 2 ^ 49 + 2 * 2 ^ 44 + 3 * 2 ^ 39) = some (.alu .add 1 2 3) := by decide
theorem test_bad_word : decodeSlot (0x00 * 2 ^ 54 + 1) = none := by decide
theorem test_li_word : decodeBundle (encodeLi 0x11 3 5) = some (.li 3 5, none) := by decide
theorem witness_idle : State.reset.pending = [] ∧ State.reset.corridor.slew = 0 := by decide
theorem witness_wf : State.pendingWf { State.reset with pending := [.flush 0] } = true := by decide
theorem witness_step : ∃ t, step { State.reset with pending := [.flush 0] } = .next t := ⟨_, rfl⟩
theorem witness_slot : encodeSlot (.alu .add 1 2 3) = some (0x00 * 2 ^ 54 + 1 * 2 ^ 49 + 2 * 2 ^ 44 + 3 * 2 ^ 39) := by decide
theorem witness_bundle : (encodeSlot (.alu .add 1 2 3)).isSome = true ∧ (encodeSlot .halt).isSome = true ∧ (Op.alu .add 1 2 3).slotAOk = true := by
  decide

/-! ## Each check of WellFormed refuses an ill-formed command -/

theorem test_wf_other_slot : (Instr.add ⟨⟨0, 0⟩, false, .li 1 2⟩ 1 2 3).wf = false := by decide
theorem test_wf_chunk : (Instr.gradientChunk 0 ⟨0, 0, 1, 0, 0xB, 0, [32768], false⟩).wf = false := by decide
theorem test_wf_request : (Instr.load (.port 0) ⟨0, 0, 0, 0, false, 0, 0, 0, 0, List.replicate 129 0, 0⟩).wf = false := by decide +kernel
theorem test_wf_response : (Instr.response (.port 0) ⟨0, 0, 0, 0, 0, 0, 0, 0, List.replicate 129 0⟩).wf = false := by decide +kernel
theorem test_wf_packet : (Instr.data (.port 0) ⟨0, 0, 0, 15, 0, 0, 0, 0, 0, 0, List.replicate 255 0, false⟩).wf = false := by decide +kernel
theorem test_wf_frame : (Instr.corridorFrameReceive ⟨0, 0, 0, false, 0, 0, List.replicate 31 0, 0⟩ 0).wf = false := by decide
theorem test_wf_control : (Instr.flitReceive 0 ⟨0, 0, 0, false, false, 0, 0, List.replicate 15 (.part (.control 0 0 0 [] 0 0) 0), none, none, 0, []⟩ 0).wf = false := by decide
theorem test_wf_slots : (Instr.flitReceive 0 ⟨0, 0, 0, false, false, 0, 0, [], none, none, 0, []⟩ 0).wf = false
    ∧ (Instr.flitReceive 0 ⟨0, 0, 0, false, false, 0, 0, List.replicate 15 (.part (.control 0 0 0 (List.replicate 32 0) 0 0) 3), none, none, 0, []⟩ 0).wf = false
    ∧ (Instr.flitReceive 0 ⟨0, 0, 0, false, false, 0, 0, List.replicate 15 (.reserved 1), none, none, 0, []⟩ 0).wf = false := by decide +kernel
theorem test_wf_link_flit : (Instr.flitReceive 0 ⟨3, 0, 0, false, false, 0, 0, [], none, none, 0, []⟩ 0).wf = false
    ∧ (Instr.flitReceive 0 ⟨2, 0, 0, false, false, 0, 0, [], none, none, 0, []⟩ 0).wf = false := by decide
theorem test_wf_args : (Instr.commandFetchReturn 0 ⟨0, .entry ⟨1, 0, 0, 0, [0, 0, 0, 0, 0], []⟩⟩).wf = false := by decide
theorem test_wf_inline : (Instr.commandFetchReturn 0 ⟨0, .entry ⟨1, 0, 0, 0, [0, 0, 0, 0, 0, 0], List.replicate 449 0⟩⟩).wf = false
    ∧ (Instr.commandFetchReturn 0 ⟨0, .rest (List.replicate 449 0)⟩).wf = false := by decide +kernel
theorem test_wf_slice_read : (Instr.sliceRead 16 0).wf = false := by decide
theorem test_wf_slice_write : (Instr.sliceWrite 31 [1, 2] false 0).wf = false ∧ (Instr.sliceWrite 32 [] false 0).wf = false := by decide
theorem test_wf_reduce32 : (Instr.reduceAdd32 2 [1] 0).wf = false ∧ (Instr.reduceAdd32 28 [1, 2] 0).wf = false ∧ (Instr.reduceAdd32 0 [] 0).wf = false := by decide
theorem test_wf_reduce64 : (Instr.reduceAdd64 4 [1] 0).wf = false ∧ (Instr.reduceAdd64 24 [1, 2] 0).wf = false ∧ (Instr.reduceAdd64 0 [] 0).wf = false := by decide
theorem test_wf_reduce32to64 : (Instr.reduceAdd32to64 4 [1] 0).wf = false ∧ (Instr.reduceAdd32to64 24 [1, 2] 0).wf = false ∧ (Instr.reduceAdd32to64 0 [] 0).wf = false := by decide
theorem test_wf_stats : (Instr.reduceStats 8 0).wf = false := by decide
theorem test_wf_fetch_return : (Instr.sectorFetchReturn 33 .clean).wf = false := by decide
theorem test_wf_hallway_lane : (Instr.hallwayRetrain 0 (some 320)).wf = false := by decide
theorem test_wf_failed_lanes : (Instr.portTrainingComplete 0 [3, 3]).wf = false := by decide
theorem test_wf_lane_cause : (Instr.laneFailing 0 4 0).wf = false := by decide
theorem test_wf_retrain : (Instr.retrain 0 1 4 0).wf = false ∧ (Instr.retrain 0 1 0 9).wf = false := by decide
theorem test_wf_lane_map : (Instr.laneMap 0 1 [0, 1, 2] 0).wf = false ∧ (Instr.laneMap 0 1 [0, 1, 2, 3, 4, 5, 6, 9] 0).wf = false := by decide
theorem test_wf_down : (Instr.down 0 5).wf = false := by decide
theorem test_wf_issue : (Instr.fabricRequestIssue 0 ⟨.marker, .store, 0, 0, false, List.replicate 129 0, 0, 0⟩).wf = false := by decide +kernel
theorem test_wf_mgmt : (Instr.mgmtFrame ⟨6, 0, 0, false, 0, 0, List.replicate 32 0, 0⟩).wf = false := by decide
theorem test_wf_letterbox : (Instr.letterboxWrite 0 0xFFFFFFF [some 1, some 2] ⟨false, false⟩).wf = false ∧ (Instr.letterboxWrite 0 0 [] ⟨false, false⟩).wf = false
    ∧ (Instr.letterboxRead 0 0xFFFFFFF 2).wf = false ∧ (Instr.letterboxRead 0 0 0).wf = false := by decide
theorem test_wf_thermal : (Instr.thermalLoopTick 0 [] [0, 0, 0, 0]).wf = false ∧ (Instr.thermalLoopTick 0 (List.replicate 44 (some 0)) []).wf = false := by decide
theorem test_wf_row : (Instr.arrayRowRepair 0 (2 ^ 32)).wf = false := by decide
theorem test_wf_drain : (Instr.bondDrainEnd [32] [33]).wf = false := by decide
theorem test_wf_startup : (Instr.startupDone [(0, 1), (0, 2)] 0 0).wf = false := by decide
theorem test_wf_spdm : (Instr.spdm 0 2 2 []).wf = false ∧ (Instr.spdm 0 0 1 (List.replicate 233 0)).wf = false := by decide +kernel
theorem test_wf_mgmt_read : (Instr.regRead false 0 2).wf = false ∧ (Instr.regWrite false 0 2 0).wf = false ∧ (Instr.regWrite false 0 4 (2 ^ 32)).wf = false := by decide
theorem test_wf_firmware : (Instr.requestFirmwareData false (List.replicate 1025 0)).wf = false := by decide +kernel
theorem test_wf_illegal : (Instr.illegalBundle ⟨0, 0⟩ (BitVec.ofNat 128 (encodeBundle .nop .nop))).wf = false := by decide

/-- A stage whose one core and thread run bundles at 0, with tensor descriptor 0 (binary32, unscaled) and stream descriptor 0 (IN, two buffers). -/
def stage0 : Stage :=
  { lesson := 0, index := 0, loading := false, coreMask := 1, threadMask := 1, entryPc := 0, progLo := 0, progHi := 4096
    args := [], step := 3, tregs := [], tdesc := [(0, 0x40)], sdesc := [(0, 0x1040)] }
/-- A thread at PC 32 with x2 = 5, x3 = 7. -/
def thread0 : Thread := { Thread.init with state := .ready, pc := 32, x := [(2, 5), (3, 7)] }
/-- A core that runs it. -/
def core0 : Core := { Core.init with stage := some stage0, threads := [(0, thread0)], owner := [(0, 0x10)], slateMap := [(0, 0x80)] }
/-- The module with a core at place 0. -/
def withCore (c : Core) : State := { State.reset with cores := [(0, c)] }
/-- The module with that core at place 0. -/
def state0 : State := withCore core0
/-- A row of thread 0 of core 0 in slot A (false) or B (true), beside a no-op. -/
def at0 (b : Bool) : Issue := ⟨⟨0, 0⟩, b, .nop⟩
/-- What a command leaves, where it answers a next state. -/
def after {α : Type} (i : Instr) (s : State) (f : State → α) : Option α :=
  match exec i s with
  | .next u => some (f u)
  | _ => none
/-- Engine operands that name tile register 0 for everything. -/
def ef (f : BitVec 12) : EFields := ⟨0, 0, 0, 0, 0, 0, false, f⟩

theorem witness_alu : Issues state0 ⟨0, 0⟩ (bundleOf (at0 false) (.alu .add 1 2 3)) stage0 thread0 := by constructor <;> decide +kernel
theorem witness_aluImm : Issues state0 ⟨0, 0⟩ (bundleOf (at0 true) (.aluImm .add 1 2 0xFFFFFFFF)) stage0 thread0 := by constructor <;> decide +kernel
theorem witness_ld : Issues state0 ⟨0, 0⟩ (bundleOf (at0 false) (.ld 8 0 0 0x3FF8)) stage0 thread0 := by constructor <;> decide +kernel
theorem witness_tget : Issues state0 ⟨0, 0⟩ (bundleOf (at0 false) (.tget 1 15)) stage0 thread0 := by constructor <;> decide +kernel
theorem witness_csrr : Issues state0 ⟨0, 0⟩ (bundleOf (at0 false) (.csrr 31 5)) stage0 thread0 := by constructor <;> decide +kernel
theorem witness_st : Issues state0 ⟨0, 0⟩ (bundleOf (at0 false) (.st 8 2 0 0x3FF8)) stage0 thread0 := by constructor <;> decide +kernel
theorem witness_branch : Issues state0 ⟨0, 0⟩ (bundleOf (at0 true) (.branch .eq 2 3 4)) stage0 thread0 := by constructor <;> decide +kernel
theorem witness_jal : Issues state0 ⟨0, 0⟩ (bundleOf (at0 true) (.jal 0 0xFFFFE)) stage0 thread0 := by constructor <;> decide +kernel
theorem witness_jalr : Issues state0 ⟨0, 0⟩ (bundleOf (at0 true) (.jalr 1 2 11)) stage0 thread0 := by constructor <;> decide +kernel
theorem witness_fence : Issues state0 ⟨0, 0⟩ (bundleOf (at0 true) .fence) stage0 thread0 := by constructor <;> decide +kernel
theorem witness_halt : Issues state0 ⟨0, 0⟩ (bundleOf (at0 true) .halt) stage0 thread0 := by constructor <;> decide +kernel
theorem witness_tset : Issues state0 ⟨0, 0⟩ (bundleOf (at0 false) (.tset 15 2)) stage0 thread0 := by constructor <;> decide +kernel
theorem witness_tslot : Issues state0 ⟨0, 0⟩ (bundleOf (at0 false) (.tslot 0 0 127)) stage0 thread0 := by constructor <;> decide +kernel
theorem witness_li : Issues state0 ⟨0, 0⟩ (liBundle (.li 4 9)) stage0 thread0 := by constructor <;> decide +kernel
theorem witness_tli : Issues state0 ⟨0, 0⟩ (liBundle (.tli 4 9)) stage0 thread0 := by constructor <;> decide +kernel
theorem witness_ldx : Issues state0 ⟨0, 0⟩ (bundleOf (at0 true) (.ldx 8 1 0 0x40000000)) stage0 thread0 := by constructor <;> decide +kernel
theorem witness_stx : Issues state0 ⟨0, 0⟩ (bundleOf (at0 true) (.stx 4 2 0 0x40000004)) stage0 thread0 := by constructor <;> decide +kernel
theorem witness_mma : Issues state0 ⟨0, 0⟩ (bundleOf (at0 true) (.mma ⟨0, 0, 0, 0, false, false, false, 0⟩)) stage0 thread0 := by constructor <;> decide +kernel
theorem witness_save : Issues state0 ⟨0, 0⟩ (bundleOf (at0 true) (.eng .save (ef 0))) stage0 thread0 := by constructor <;> decide +kernel
theorem witness_stream : Issues state0 ⟨0, 0⟩ (bundleOf (at0 true) (.stream .qry ⟨0, 1, 0, 0⟩)) stage0 thread0 := by constructor <;> decide +kernel
theorem witness_varith : Issues state0 ⟨0, 0⟩ (bundleOf (at0 true) (.eng .varith (ef 0))) stage0 thread0 := by constructor <;> decide +kernel
theorem witness_gath : Issues state0 ⟨0, 0⟩ (bundleOf (at0 true) (.eng .gath (ef 0))) stage0 thread0 := by constructor <;> decide +kernel
theorem witness_fin : Issues state0 ⟨0, 0⟩ (bundleOf (at0 true) (.eng .fin (ef 0x300))) stage0 thread0 := by constructor <;> decide +kernel
theorem witness_vfn : Issues (withCore { core0 with tableIds := [(3, 5)] }) ⟨0, 0⟩ (bundleOf (at0 true) (.eng .vfn (ef 0x300))) stage0 thread0
    ∧ Issues (withCore { core0 with tableIds := [(3, 5)] }) ⟨0, 0⟩ (bundleOf (at0 true) (.eng .vder (ef 0x300))) stage0 thread0 := by constructor <;> constructor <;> decide +kernel
theorem witness_slotRow : slotRow (.varithAdd (at0 true) (ef 0)) = some (at0 true, .eng .varith (ef 0)) := by decide
theorem witness_trap : (state0.judged ⟨0, 0⟩).runnable 0 0 = some (stage0, thread0) ∧ ((state0.judged ⟨0, 0⟩).core 0).illegalSlot stage0 thread0 (bundleOf (at0 true) (.trap 7)) = none := by decide +kernel
theorem witness_illegal : state0.runnable 0 0 = some (stage0, thread0) ∧ (state0.core 0).illegalWord stage0 thread0 (0x0F * 2 ^ 118) = some false
    ∧ (state0.core 0).illegalSlots stage0 thread0 (0x0F * 2 ^ 118) = (true, false) ∧ (state0.core 0).illegalSlots stage0 thread0 (1 + 0x3F * 2 ^ 60 + 0x3F * 2 ^ 122) = (true, true) := by decide +kernel
theorem witness_fetch : state0.fetches 0 0 = true ∧ (state0.core 0).stage = some stage0 ∧ pcOk stage0 4096 = false
    ∧ State.fetches (withCore { core0 with threads := [(0, { thread0 with pc := 4096 })] }) 0 0 = true := by decide +kernel

/-- The access that thread 0 has under way: a load of x1 or a store at an address. -/
def outst0 (load : Bool) (a : Nat) : Outst := ⟨0, 0, 32, true, 0, load, 8, 1, a, 9⟩
/-- A core with one access under way. -/
def state1 (load : Bool) (a : Nat) : State := withCore { core0 with outst := [outst0 load a] }
theorem witness_ldxReturn : (state1 true 0x40000000).accessDue 0 0 true = some (outst0 true 0x40000000)
    ∧ (outst0 true 0x40000000).addr % 8 = 0 ∧ (state1 true 0x40000000).sound 0x40000000 = true ∧ (state1 true 0x40000000).anyPoison 0x40000000 8 = false ∧ (state1 true 0x40000000).hallwayDown (stackOfCore 0) (addrStack 0x40000000) = false := by decide +kernel
theorem witness_ldxPoison : State.accessDue { state1 true 0x40000000 with poison := [0x2000000] } 0 0 true = some (outst0 true 0x40000000)
    ∧ State.anyPoison { state1 true 0x40000000 with poison := [0x2000000] } 0x40000000 8 = true
    ∧ State.sound { state1 true 0x40000000 with poison := [0x2000000] } 0x40000000 = true := by decide +kernel
theorem witness_stxAccepted : (state1 false 0x40000008).accessDue 0 0 false = some (outst0 false 0x40000008)
    ∧ (outst0 false 0x40000008).addr % 8 = 0 ∧ (state1 false 0x40000008).setWaits 0x40000008 = false ∧ (state1 false 0x40000008).discards 0x40000008 = false := by decide +kernel
theorem witness_fenceComplete : ∃ s : State, (s.core 0).stage = some stage0 ∧ (s.threadAt ⟨0, 0⟩).state = .waitFence ∧ (s.threadAt ⟨0, 0⟩).waitBell = none
    ∧ ((s.judged ⟨0, 0⟩).core 0).fenceClear stage0 0 = true ∧ (s.cluster (clusterOfCore 0)).stopping = false ∧ s.outOfService (stackOfCore 0) = false := ⟨withCore { core0 with threads := [(0, { thread0 with state := .waitFence })] }, by decide +kernel⟩
theorem witness_fenceWaits : ((state1 false 0x40000000).core 0).stage = some stage0 ∧ (((state1 false 0x40000000).judged ⟨0, 0⟩).core 0).fenceClear stage0 0 = false := by decide +kernel

/-- An engine operation of thread 0. -/
def eng0 (o : Op) : EngOp := ⟨0, 32, true, 0, 0, o, 0, 0, 0, 0, 0, 0, 0⟩
/-- A stage like stage0, whose tensor descriptor 0 has the word `w`. -/
def stageOf (w : BitVec 256) : Stage := { stage0 with tdesc := [(0, w)] }
/-- An MMA of one row and a group of 32, on tile register 0. -/
def mma0 : MFields := ⟨0, 0, 0, 0, false, false, false, 0⟩
/-- Core 0 runs stage `stageOf w`. -/
def coreOn (w : BitVec 256) : Core := { core0 with stage := some (stageOf w) }
theorem witness_mmaStart : ∃ s : State, (s.core 0).stage = some (stageOf 0x40) ∧ (s.core 0).mmaQ = [eng0 (.mma mma0)] ∧ (s.core 0).mmaAtInput = none
    ∧ (s.core 0).clear (stageOf 0x40) (eng0 (.mma mma0)) = true ∧ (s.core 0).fedReady (eng0 (.mma mma0)) = true
    ∧ (Op.mma mma0).slateRows.find? (NatSet.has (s.core 0).slateBad) = none ∧ (s.core 0).transposeBad = false :=
  ⟨withCore { coreOn 0x40 with mmaQ := [eng0 (.mma mma0)] }, by decide +kernel⟩
theorem witness_mmaFault : mmaFault ((eng0 (.mma mma0)).srcA (stageOf 0x4F)) ((eng0 (.mma mma0)).srcB (stageOf 0x4F)) mma0 false false = some 0
    ∧ mmaFault ((eng0 (.mma mma0)).srcA (stageOf 0x43)) ((eng0 (.mma mma0)).srcB (stageOf 0x43)) mma0 false false = none := by decide +kernel
theorem witness_slateStart : ∃ s : State, (s.core 0).stage = some (stageOf 0x4D) ∧ (s.core 0).slateQ = [eng0 (.eng .save (ef 0))] ∧ (s.core 0).slateRun = none
    ∧ (s.core 0).clear (stageOf 0x4D) (eng0 (.eng .save (ef 0))) = true ∧ (s.core 0).fedReady (eng0 (.eng .save (ef 0))) = true
    ∧ slateFault s 0 (stageOf 0x4D) (eng0 (.eng .save (ef 0))) = none ∧ (slateFault s 0 (stageOf 0x4F) (eng0 (.eng .save (ef 0)))).isSome = true :=
  ⟨withCore { coreOn 0x4D with slateQ := [eng0 (.eng .save (ef 0))] }, by decide +kernel⟩
theorem witness_vectorStart : ∃ s : State, (s.core 0).stage = some (stageOf 0x40) ∧ (s.core 0).vecQ = [eng0 (.eng .varith (ef 0))]
    ∧ (s.core 0).clear (stageOf 0x40) (eng0 (.eng .varith (ef 0))) = true ∧ (s.core 0).fedReady (eng0 (.eng .varith (ef 0))) = true
    ∧ vecFault s 0 (stageOf 0x40) (eng0 (.eng .varith (ef 0))) = none ∧ (vecFault s 0 (stageOf 0x4F) (eng0 (.eng .varith (ef 0)))).isSome = true :=
  ⟨withCore { coreOn 0x40 with vecQ := [eng0 (.eng .varith (ef 0))] }, by decide +kernel⟩
theorem witness_finStart : ∃ s : State, (s.cluster 0).finRun = none ∧ s.firstFin 0 = some (0, eng0 (.eng .fin (ef 0x300))) ∧ (s.core 0).stage = some (stageOf 0x40)
    ∧ (s.core 0).clear (stageOf 0x40) (eng0 (.eng .fin (ef 0x300))) = true ∧ (s.core 0).fedReady (eng0 (.eng .fin (ef 0x300))) = true
    ∧ finFault s 0 (stageOf 0x40) (eng0 (.eng .fin (ef 0x300))) (ef 0x300) = none
    ∧ (finFault s 0 (stageOf 0x4F) (eng0 (.eng .fin (ef 0x300))) (ef 0x300)).isSome = true :=
  ⟨withCore { coreOn 0x40 with finQ := [eng0 (.eng .fin (ef 0x300))] }, by decide +kernel⟩

/-- A gather: indices in tile register 0's slot 1 (INT32), data to slot 0. -/
def gather0 : EngOp := { eng0 (.eng .gath (ef 0)) with tA := 0x100001, xa := 0x40000000, xb := 32 }
/-- The stage of that gather. -/
def stageG : Stage := { stage0 with tdesc := [(0, 0x40), (1, 0x49)] }
/-- A sector of it. -/
def sector0 : GSector := ⟨0, 0, 0x40000000, [], false⟩
theorem witness_gatherStart : ∃ s : State, (s.core 0).stage = some stageG ∧ (s.core 0).gathQ = [gather0] ∧ (s.core 0).gathRun = none
    ∧ (s.core 0).clear stageG gather0 = true ∧ (s.core 0).fedReady gather0 = true ∧ gatherFault s 0 stageG gather0 (ef 0) = none
    ∧ (gatherFault s 0 stageG { gather0 with xa := 1 } (ef 0)).isSome = true :=
  ⟨withCore { core0 with stage := some stageG, gathQ := [gather0] }, by decide +kernel⟩
theorem witness_gatherRequest : ∃ s : State, (s.core 0).stage = some stageG ∧ (s.core 0).gathRun = some ⟨gather0, [sector0], []⟩
    ∧ s.coreReaches 0 sector0.addr = true ∧ s.coreReaches 0 (2 ^ 50) = false :=
  ⟨withCore { core0 with stage := some stageG, gathRun := some ⟨gather0, [sector0], []⟩ }, by decide +kernel⟩
theorem witness_gatherReturn : ∃ s : State, (s.core 0).stage = some stageG ∧ (s.core 0).gathRun = some ⟨gather0, [], [(5, sector0)]⟩
    ∧ GathRun.behind ⟨gather0, [], [(5, sector0)]⟩ 5 sector0 = false ∧ s.sliceReady sector0.addr = true :=
  ⟨withCore { core0 with stage := some stageG, gathRun := some ⟨gather0, [], [(5, sector0)]⟩ }, by decide +kernel⟩
theorem witness_mmaEnd : ∃ s : State, (s.core 0).stage = some (stageOf 0x43) ∧ (s.core 0).mmaRun = [⟨eng0 (.mma mma0), 1, 1, 32, 32, [[]], [[]]⟩] :=
  ⟨withCore { coreOn 0x43 with mmaRun := [⟨eng0 (.mma mma0), 1, 1, 32, 32, [[]], [[]]⟩] }, by decide +kernel⟩
theorem witness_slateEnd : ∃ s : State, (s.core 0).stage = some (stageOf 0x4D) ∧ (s.core 0).slateRun = some (eng0 (.eng .rest (ef 0))) :=
  ⟨withCore { coreOn 0x4D with slateRun := some (eng0 (.eng .rest (ef 0))) }, by decide +kernel⟩
theorem witness_vectorEnd : ∃ s : State, (s.core 0).stage = some (stageOf 0x40) ∧ (s.core 0).vecRun = [eng0 (.eng .varith (ef 0))] :=
  ⟨withCore { coreOn 0x40 with vecRun := [eng0 (.eng .varith (ef 0))] }, by decide +kernel⟩
theorem witness_finEnd : ∃ s : State, (s.cluster 0).finRun = some 0 ∧ (s.core (coreOf 0 0)).stage = some (stageOf 0x40)
    ∧ (s.core (coreOf 0 0)).finRun = some (eng0 (.eng .fin (ef 0x300))) :=
  ⟨{ withCore { coreOn 0x40 with finRun := some (eng0 (.eng .fin (ef 0x300))) } with clusters := [(0, { Cluster.init with finRun := some 0 })] }, by decide +kernel⟩

/-! ## Streams -/

/-- Core 0 with a run-time state of stream descriptor 0. -/
def streamCore (y : StreamDyn) : Core := { core0 with streams := [(0, y)] }
/-- A run of four transfers that is armed. -/
def armed0 : StreamDyn := { StreamDyn.init with state := 1, base := 0x40000000, count := 4, armed := 4 }
theorem witness_sarm : Issues (withCore (streamCore StreamDyn.init)) ⟨0, 0⟩ (bundleOf (at0 true) (.stream .arm ⟨0, 1, 0, 4⟩)) stage0 thread0 := by
  constructor <;> decide +kernel
theorem witness_swait : Issues (withCore (streamCore { armed0 with started := 1, done := 1, landed := [0] })) ⟨0, 0⟩ (bundleOf (at0 true) (.stream .wait ⟨0, 1, 0, 0⟩)) stage0 thread0 := by
  constructor <;> decide +kernel
theorem witness_swaitWaits : ∃ j : State, j = (withCore (streamCore armed0)).judged ⟨0, 0⟩ ∧ j.runnable 0 0 = some (stage0, thread0)
    ∧ (j.core 0).regsWait 0 (bundleOf (at0 true) (.stream .wait ⟨0, 1, 0, 0⟩)) = false ∧ (j.core 0).entriesFree 0 (bundleOf (at0 true) (.stream .wait ⟨0, 1, 0, 0⟩)) = true
    ∧ checkBundle j 0 0 stage0 thread0 (bundleOf (at0 true) (.stream .wait ⟨0, 1, 0, 0⟩)) = none ∧ ((j.core 0).dyn 0).nextReady (stage0.stream 0) = false :=
  ⟨_, rfl, by decide +kernel⟩
theorem witness_srel : Issues (withCore (streamCore { armed0 with held := [0] })) ⟨0, 0⟩ (bundleOf (at0 true) (.stream .rel ⟨0, 0, 0, 0⟩)) stage0 thread0 := by
  constructor <;> decide +kernel
theorem witness_transferStart : ∃ s : State, (s.core 0).stage = some stage0 ∧ (stage0.stream 0).valid = true ∧ (stage0.stream 0).dir = dirIn
    ∧ (s.core 0).dyn 0 = armed0 ∧ armed0.fillFree (stage0.stream 0).nbuf armed0.started = true
    ∧ s.noWaits = true ∧ ((s.takeReleases 0).core 0).dyn 0 = armed0 := ⟨withCore (streamCore armed0), by decide +kernel⟩
/-- The first transfer of that run, with `sent` requests sent and `ret` returned. -/
def xfer0 (sent ret : Nat) : Xfer := ⟨0, 0, 0x40000000, sent, ret, false, false⟩
/-- Stage0 with rows of 32 bytes. -/
def stageS : Stage := { stage0 with sdesc := [(0, 0x1040 + 32 * 2 ^ 96)] }
theorem witness_requestSend : ∃ s : State, (s.core 0).stage = some stageS ∧ nextSender stageS (s.core 0) = some (0, xfer0 0 0)
    ∧ s.unreached 0 stageS 0 (xfer0 0 0) = none ∧ (s.unreached 0 stageS 0 { xfer0 0 0 with base := 2 ^ 50 }).isSome = true :=
  ⟨withCore { streamCore { armed0 with started := 1, xfers := [xfer0 0 0] } with stage := some stageS }, by decide +kernel⟩
theorem witness_requestReturn : ∃ s : State, (s.core 0).stage = some stageS ∧ (s.core 0).sreqs = [⟨7, 0, 0, 0⟩]
    ∧ ((s.core 0).dyn 0).xfers = [xfer0 1 0] ∧ ((xferRequests stageS (stageS.stream 0) (xfer0 1 0)).getD 0 []).any (fun p => s.outOfService (addrStack p.1)
      || NatSet.has (s.slice (homeSlice p.1)).fetching (p.1 / 32)) = false :=
  ⟨withCore { streamCore { armed0 with started := 1, xfers := [xfer0 1 0] } with stage := some stageS, sreqs := [⟨7, 0, 0, 0⟩] }, by decide +kernel⟩
theorem witness_transferComplete : ∃ s : State, (s.core 0).stage = some stageS ∧ (s.core 0).mmaRun = [] ∧ (s.threadAt ⟨0, 0⟩).state ≠ .waitStream
    ∧ (((s.core 0).dyn 0).xfers.find? (fun x => x.over (xferRequests stageS (stageS.stream 0) x).length)) = some (xfer0 1 1) :=
  ⟨withCore { streamCore { armed0 with started := 1, xfers := [xfer0 1 1] } with stage := some stageS }, by decide +kernel⟩
/-- A producing stage whose descriptor 0 is OUT to descriptor 1 of stage 1, and the consuming stage on core 1. -/
def stageP : Stage := { stage0 with sdesc := [(0, 0x1045 + 1 * 2 ^ 448 + 1 * 2 ^ 456 + 32 * 2 ^ 96)] }
/-- The consuming stage. -/
def stageC : Stage := { stage0 with index := 1, coreMask := 2, sdesc := [(1, 0x1042 + 32 * 2 ^ 96)] }
theorem witness_linkMove : ∃ s : State, (s.core 0).stage = some stageP ∧ ((s.core 0).dyn 0).outPend = [0]
    ∧ (s.takeReleases 0).linkConsumer 0 stageP (stageP.stream 0) = some (1, stageC) ∧ (stageP.stream 0).dir = dirOut ∧ (stageP.stream 0).target = 1
    ∧ (stageP.stream 0).linkDesc = 1 ∧ (stageC.stream 1).valid = true ∧ (stageC.stream 1).dir = dirLinkIn
    ∧ (((s.takeReleases 0).takeReleases 1).core 1).dyn 1 = (s.core 1).dyn 1 ∧ (((s.takeReleases 0).core 0).dyn 0) = (s.core 0).dyn 0 ∧ ((s.core 1).dyn 1).fillFree (stageC.stream 1).nbuf 0 = true ∧ (s.core 1).mmaRun = [] :=
  ⟨{ State.reset with cores := [(0, { streamCore { armed0 with outPend := [0] } with stage := some stageP }), (1, { Core.init with stage := some stageC })] },
    by decide +kernel⟩

/-! ## Bells, lessons, clusters -/

/-- A Bell record: LEVEL, one thread of core 0, the clusters of `clusters`, member seats 0 and 1, leader `leader`, 100 µs. -/
def bell0 (level clusters leader : Nat) : BitVec 256 :=
  BitVec.ofNat 256 (level + 0x80 + 1 * 2 ^ 16 + clusters * 2 ^ 32 + 3 * 2 ^ 96 + leader * 2 ^ 112 + 100 * 2 ^ 128)
/-- The module with Bell group 5. -/
def withBell (b : Bell) : State := { state0 with bells := [(5, b)] }
/-- Group 5 of one cluster of stack 0. -/
def bellA : Bell := { Bell.init with record := bell0 1 1 0 }
theorem witness_bell : Issues (withBell bellA) ⟨0, 0⟩ (bundleOf (at0 true) (.bell 5 3)) stage0 thread0 ∧ (((withBell bellA).judged ⟨0, 0⟩).core 0).fenceClear stage0 0 = true
    ∧ (bellRec bellA.record).level ≠ 3 := by refine ⟨?_, by decide +kernel, by decide +kernel⟩; constructor <;> decide +kernel
theorem witness_bellFence : Issues { withBell bellA with cores := [(0, { core0 with outst := [outst0 false 0x40000000] })] } ⟨0, 0⟩ (bundleOf (at0 true) (.bell 5 3)) stage0 thread0
    ∧ ((State.judged { withBell bellA with cores := [(0, { core0 with outst := [outst0 false 0x40000000] })] } ⟨0, 0⟩).core 0).fenceClear stage0 0 = false := by refine ⟨?_, by decide +kernel⟩; constructor <;> decide +kernel
theorem witness_bellOpen : (bellRec bellA.record).valid = true ∧ (bellRec bellA.record).level ≤ 2 ∧ bellA.complete = false
    ∧ (bellRec bellA.record).timeoutUs ≠ 0 ∧ Bell.complete { bellA with arrivals := [(0, 0, 3)] } = true := by decide +kernel
theorem witness_bellTimeout : ∃ b : Bell, (bellRec b.record).valid = true ∧ (bellRec b.record).level ≤ 2 ∧ (bellRec b.record).timeoutUs ≠ 0 ∧ b.complete = false
    ∧ b.open' = true ∧ b.held = [] :=
  ⟨{ Bell.init with record := bell0 1 3 0, arrivals := [(0, 0, 3)] }, by decide +kernel⟩
theorem witness_bellReport : ∃ s : State, (bellRec (s.bell 5).record).valid = true ∧ (bellRec (s.bell 5).record).level = 2
    ∧ (bellRec (s.bell 5).record).counting = 0 ∧ (bellRec (s.bell 5).record).stackList = [0, 1] ∧ s.hallwayDown 1 0 = false :=
  ⟨withBell { Bell.init with record := bell0 2 0x10001 0 }, by decide +kernel⟩
/-- A module at seat `n` with Bell group 5. -/
def seated (n : Nat) (b : Bell) : State := { withBell b with regs := [(RegName.addr .fabricSeat 0 0, n + 1 * 2 ^ 12 + 1 * 2 ^ 16)] }
/-- A job-level group whose leader is seat 0. -/
def bellJ : Bell := { Bell.init with record := bell0 3 1 0 }
theorem witness_bellArrive : (seated 0 bellJ).seatValid = true ∧ (bellRec bellJ.record).valid = true ∧ (bellRec bellJ.record).level = 3
    ∧ (bellRec bellJ.record).leader = (seated 0 bellJ).seat ∧ ((seated 0 bellJ).bell 5) = bellJ ∧ bellJ.seats.elem 1 = false ∧ bellJ.seatHeld.elem 1 = false
    ∧ Bell.seats { bellJ with seats := [1] } = [1] := by decide +kernel
theorem witness_bellMember : (seated 1 { bellJ with arriveSent := true, arrivals := [(0, 0, 3)] }).seat = 1 ∧ (bellRec bellJ.record).leader = 0
    ∧ (seated 1 { bellJ with arriveSent := true, arrivals := [(0, 0, 3)] }).bell 5 = { bellJ with arriveSent := true, arrivals := [(0, 0, 3)] }
    ∧ Bell.open' { bellJ with arriveSent := true, arrivals := [(0, 0, 3)] } = true := by decide +kernel

/-- A command entry of an opcode. -/
def entry0 (opc : Nat) : CmdEntry := ⟨BitVec.ofNat 32 opc, 7, 3, 0, [7, 0, 0, 0, 0, 0], []⟩
/-- Queue 0 has taken it. -/
def taken0 (opc : Nat) : Taken := ⟨0, 0, 0, entry0 opc, false⟩
/-- A queue that has taken a command. -/
def queue0 (opc : Nat) : Queue := { Queue.init with taken := [taken0 opc] }
theorem witness_lesson : ∃ s : State, s.takenFirst 0 [opLESSON] = some (taken0 1) ∧ s.fld F.queueConfigHome 0 0 = 0 ∧ s.fld F.tutorSylStateActive 0 = 1
    ∧ (entry0 1).lesson < (s.tutor 0).lessonCount ∧ (entry0 1).inlineLen = 0 ∧ s.lesson 0 = none
    ∧ (taken0 1).stopped = false ∧ (∀ k, k < 6 → s.fld F.hallwayStateLink k ≠ 2) :=
  ⟨State.setFld { State.reset with queues := [(0, queue0 1)], tutors := [(0, { Tutor.init with lessonCount := 1 })] } F.tutorSylStateActive 0 0 1, by decide +kernel⟩
theorem witness_noLesson : ∃ s : State, s.takenFirst 0 [opLESSON] = some (taken0 1) ∧ s.fld F.tutorSylStateActive 0 = 0 :=
  ⟨{ State.reset with queues := [(0, queue0 1)] }, by decide +kernel⟩
/-- A lesson of cluster 0 from queue 0 with tag 7. -/
def lesson0 : Lesson :=
  { id := 4, queue := 0, generation := 0, cmdIndex := 0, home := 0, part := 0, lib := 0, tag := 7, step := 3, args := [0, 0, 0, 0, 0, 0], nstages := 1
    stopOnDetach := false, scheduled := false, position := none, clusterMask := 1, timeoutUs := 50, parts := [(0, .running)], startTime := 0
    stagesStarted := [], stagesEnded := [], wroteMemory := false, handedAssembly := false, bellBroken := false, fault := none, cause := none
    abortSeen := none, retiring := false, lost := false, stats := [] }
/-- The module with that lesson, and cluster `c` at place 0. -/
def inLesson (l : Lesson) (c : Cluster) : State := { State.reset with lessons := [l], clusters := [(0, c)] }
/-- Cluster 0 runs it. -/
def running0 : Cluster := { Cluster.init with run := some 4, pll := .on }
theorem witness_abort : ∃ s : State, s.takenFirst 0 [opLESSON, opABORT] = some (taken0 2) ∧ (entry0 2).opc = opABORT ∧ s.lessons.find? (fun l => l.queue == 0 && l.tag.toNat == bits ((entry0 2).arg 0) 0 32) = some lesson0
    ∧ s.lesson 4 = some lesson0 := ⟨{ inLesson lesson0 running0 with queues := [(0, queue0 2)] }, by decide +kernel⟩
theorem witness_noAbort : ∃ s : State, s.takenFirst 0 [opLESSON, opABORT] = some (taken0 2) ∧ (entry0 2).opc = opABORT ∧ s.lessons = [] := ⟨{ State.reset with queues := [(0, queue0 2)] }, by decide +kernel⟩
theorem witness_partStart : ∃ s : State, s.nextPart 0 = some { lesson0 with parts := [(0, .notStarted)] } ∧ (s.cluster 0).run = none ∧ s.outOfService (stackOfCluster 0) = false
    ∧ s.fld F.clusterStateRetired 0 = 0 ∧ (s.cluster 0).pll = .on ∧ (s.cluster 0).istoreBad = [] ∧ (∀ k : Fin 8, (s.core (coreOf 0 k)).testPending = false) :=
  ⟨inLesson { lesson0 with parts := [(0, .notStarted)] } { Cluster.init with waiting := [4], pll := .on }, by decide +kernel⟩
/-- The lesson's stage on core 0. -/
def stageL (loading : Bool) : Stage := { stage0 with lesson := 4, loading := loading, sdesc := [] }
theorem witness_loaded : ∃ s : State, (s.core 0).stage = some (stageL true) ∧ s.lesson 4 = some lesson0 ∧ (s.cluster (clusterOfCore 0)).stopping = false
    ∧ ∀ d, ((stageL true).stream d).dir ≠ dirLinkIn :=
  ⟨{ inLesson lesson0 running0 with cores := [(0, { Core.init with stage := some (stageL true) })] }, by decide +kernel, by decide +kernel, by decide +kernel,
    fun d => by simp [Stage.stream, stageL, Tab.get, streamDesc, bits]⟩
theorem witness_stageEnd : ∃ s : State, (s.core 0).stage = some (stageL false) ∧ ((s.takeReleases 0).core 0).stageOver (stageL false) = true ∧ (s.cluster (clusterOfCore 0)).stopping = false
    ∧ s.lesson 4 = some lesson0 ∧ (∀ (e : CoreId) (n : Fin 16), ((s.core e).thread n).state ≠ .waitStream) :=
  ⟨{ inLesson lesson0 running0 with cores := [(0, { Core.init with stage := some (stageL false), threads := [(0, { Thread.init with state := .halted })] })] }, by decide +kernel⟩
theorem witness_faultMessage : ∃ s : State, s.partMsgs[0]? = some (.fault 4 ⟨0, 0, 0, 0, 0x0B, 32, 7⟩) ∧ s.lesson 4 = some lesson0 :=
  ⟨{ inLesson lesson0 running0 with partMsgs := [.fault 4 ⟨0, 0, 0, 0, 0x0B, 32, 7⟩] }, by decide +kernel⟩
theorem witness_endMessage : ∃ s : State, s.partMsgs[0]? = some (.ended 4 0 false) ∧ s.lesson 4 = some lesson0 :=
  ⟨{ inLesson lesson0 running0 with partMsgs := [.ended 4 0 false] }, by decide +kernel⟩
theorem witness_dispatch : ∃ s : State, s.partMsgs[0]? = some (.dispatch 4 0) ∧ s.lesson 4 = some { lesson0 with parts := [(0, .notStarted)] }
    ∧ s.hallwayDown 0 0 = false ∧ (s.cluster 0).run ≠ some 4 := ⟨{ inLesson { lesson0 with parts := [(0, .notStarted)] } Cluster.init with partMsgs := [.dispatch 4 0] }, by decide +kernel⟩
theorem witness_stop : ∃ s : State, (s.cluster 0).run = some 4 ∧ (s.cluster 0).stopping = false ∧ s.stopDue 0 4 = true :=
  ⟨inLesson { lesson0 with cause := some .timeout } running0, by decide +kernel⟩
theorem witness_idleCores : ∃ s : State, (s.cluster 0).run = some 4 ∧ (s.cluster 0).stopping = true ∧ (∀ k : Fin 8, (s.core (coreOf 0 k)).drained = true) :=
  ⟨inLesson lesson0 { running0 with stopping := true }, by decide +kernel⟩
theorem witness_lessonTimeout : (inLesson lesson0 running0).lesson 4 = some lesson0 ∧ lesson0.timeoutUs ≠ 0
    ∧ lesson0.parts.any (fun p => p.2 != .notStarted && p.2 != .withdrawn) = true ∧ lesson0.retiring = false ∧ lesson0.cause = none := by decide +kernel
theorem witness_retire : ∃ s : State, ∃ l : Lesson, s.lesson 4 = some l ∧ l.cause = none ∧ l.parts.all (fun p => p.2 == .ended) = true ∧ s.reportsFor 4 = false :=
  ⟨inLesson { lesson0 with parts := [(0, .ended)] } Cluster.init, { lesson0 with parts := [(0, .ended)] }, by decide +kernel⟩
theorem witness_stopRecord : ∃ s : State, ∃ l : Lesson, s.lesson 4 = some l ∧ l.decided = some .timeout ∧ l.lost = false
    ∧ l.parts.all (fun p => p.2 == .ended || p.2 == .withdrawn) = true ∧ s.reportsFor 4 = false ∧ (∀ p ∈ l.parts, s.neverRan l p = true → s.groupsOn p.1 = []) ∧ l.fits = true ∧ s.now < 2 ^ 64 ∧ s.holdsNext l.queue l.generation = true :=
  ⟨inLesson { lesson0 with parts := [(0, .withdrawn)], cause := some .timeout } Cluster.init, { lesson0 with parts := [(0, .withdrawn)], cause := some .timeout }, by decide +kernel⟩
/-- A state in which core 0 owes a test of its stores, or has failed it. -/
def failedCore (failed : Bool) : State := { State.reset with cores := [(0, { Core.init with testPending := true, testFailed := failed })] }
theorem witness_repairs : (failedCore true).fld F.clusterCoreMapSpare 0 ≠ 0xF ∧ ((failedCore true).setFld F.clusterCoreMapSpare 0 0 0xF).fld F.clusterCoreMapSpare 0 = 0xF
    ∧ ((failedCore true).core (coreOf 0 0)).testFailed = true ∧ ((failedCore false).core 0).testPending = true ∧ (State.reset.core 0).testFailed = false
    ∧ (State.reset.core 0).testPending = false ∧ ((failedCore true).cluster 0).run = none ∧ ((inLesson lesson0 running0).cluster 0).run ≠ none := by decide +kernel
theorem witness_istore : ∃ s : State, (s.cluster 0).run = none ∧ (s.cluster 0).istoreBad.any (fun a => a / 16 == 32 / 16) = true
    ∧ s.residentProgram 0 (32 / 8 * 8) = some 0x50000020 :=
  ⟨{ State.reset with clusters := [(0, { Cluster.init with istoreBad := [32] })], tutors := [(0, { Tutor.init with progs := [(0, 0x50000000, 4096)] })] }, by decide +kernel⟩

/-! ## Host coupling -/

/-- A state with host port 0 UP and open. -/
def upState (s : State) : State := (s.setFld F.hostStatusLink 0 0 2).setFld F.secPolicyHostIde 0 0 0
/-- Host port 0 UP, queue 0 ACTIVE on it. -/
def hostState (s : State) : State := (upState s).setFld F.queueStateState 0 0 qACTIVE
/-- A record of queue 0 in the hold ring. -/
def rec0 : HoldRec := ⟨.queue 0, 0, List.replicate 64 7, false⟩
theorem witness_recordWrite : ∃ s : State, s.holdRing.find? (fun h => h.ring == .queue 0 && !h.written) = some rec0 ∧ s.ringState (.queue 0) = qACTIVE
    ∧ s.portOpen (s.ringPort (.queue 0)) = true ∧ idxDiff (s.ringTail (.queue 0)) (s.ringHead (.queue 0)) ≠ s.ringSize (.queue 0) ∧ rec0.bytes[63]? = some 7
    ∧ (let slot := s.ringBase (.queue 0) + s.ringTail (.queue 0) % s.ringSize (.queue 0) * 64; slot + 63 < s.ringTailAddr (.queue 0)) :=
  ⟨((hostState { State.reset with holdRing := [rec0] }).setReg .queueTailAddr 0 0 0x1000).setFld F.queueSizesCqLog2 0 0 4, by decide +kernel⟩
theorem witness_coalesce : ∃ s : State, (s.queue 0).unsignalled ≠ 0 ∧ bitOf (s.reg .hostMsix (s.ringPort (.queue 0)) (s.ringVector (.queue 0))) 96 = false
    ∧ s.portOpen (s.ringPort (.queue 0)) = true :=
  ⟨(hostState { State.reset with queues := [(0, { Queue.init with unsignalled := 3 })] }).setReg .hostMsix 0 0 0, by decide +kernel⟩
/-- Queue 0 is fetching. -/
def fetching0 (n : Nat) : State := hostState { State.reset with queues := [(0, { Queue.init with fetching := true, stale := n, refetchDue := n - 1 })] }
theorem witness_fetchReturn : ((fetching0 0).queue 0).fetching = true ∧ (fetching0 0).ringState (.queue 0) = qACTIVE ∧ (fetching0 0).portOpen ((fetching0 0).ringPort (.queue 0)) = true
    ∧ (0 : BitVec 32).toNat = (fetching0 0).reg .queueSqHead 0 0 ∧ (entry0 0x102).phase = (fetching0 0).phaseOf 0 0 ∧ restLines (entry0 0x102) = 0
    ∧ (fetching0 0).mayTake 0 { entry0 0x102 with step := 0 } = true ∧ CmdEntry.bad { entry0 0x102 with step := 0 } = false
    ∧ (1 : BitVec 32).toNat ≠ (fetching0 0).reg .queueSqHead 0 0 := by decide +kernel
theorem witness_fetchWaits : ∃ s : State, (s.queue 0).fetching = true ∧ s.ringState (.queue 0) = qACTIVE ∧ s.portOpen (s.ringPort (.queue 0)) = true
    ∧ (0 : BitVec 32).toNat = s.reg .queueSqHead 0 0 ∧ (entry0 0x102).phase = s.phaseOf 0 0 ∧ restLines (entry0 0x102) = 0 ∧ s.mayTake 0 (entry0 0x102) = false :=
  ⟨(fetching0 0).setFld F.corridorStateStopped 0 0 1, by decide +kernel⟩
theorem witness_fetchRest : ∃ s t : State, (s.queue 0).fetching = true ∧ s.ringState (.queue 0) = qACTIVE ∧ s.portOpen (s.ringPort (.queue 0)) = true
    ∧ (0 : BitVec 32).toNat = s.reg .queueSqHead 0 0 ∧ (entry0 0x400101).phase = s.phaseOf 0 0 ∧ restLines (entry0 0x400101) = 1
    ∧ (t.queue 0).restWait = true ∧ (t.queue 0).fresh = some (entry0 0x400101) ∧ t.ringState (.queue 0) = qACTIVE ∧ t.portOpen (t.ringPort (.queue 0)) = true
    ∧ (0 : BitVec 32).toNat = t.reg .queueSqHead 0 0 ∧ t.mayTake 0 (entry0 0x400101) = true ∧ (entry0 0x400101).bad = false :=
  ⟨fetching0 0, hostState { State.reset with queues := [(0, { Queue.init with restWait := true, fresh := some (entry0 0x400101) })] }, by decide +kernel⟩
theorem witness_staleSlot : (entry0 2).phase ≠ (fetching0 8).phaseOf 0 ((fetching0 8).reg .queueSqHead 0 0) ∧ (fetching0 8).ringState (.queue 0) = qACTIVE
    ∧ ((fetching0 8).queue 0).fetching = true ∧ ((fetching0 8).queue 0).stale = 8 ∧ (fetching0 8).portOpen ((fetching0 8).ringPort (.queue 0)) = true := by decide +kernel
theorem witness_refetch : ((fetching0 1).queue 0).stale ≠ 0 ∧ ((fetching0 1).queue 0).refetchDue < 8 ∧ ((fetching0 1).queue 0).fetching = true := by decide +kernel
/-- A PLACE of 32 bytes to 0x40000000 from intake ring 0, and an EXPORT of 32 bytes from there to host address 0x2000. -/
def placeCmd (off : Nat) : Taken := ⟨0, 0, 0, ⟨3, 7, 0, 0, [BitVec.ofNat 64 (off * 2 ^ 8), 0x40000000, 32, 0, 0, 0], []⟩, false⟩
/-- The EXPORT. -/
def exportCmd : Taken := ⟨0, 0, 0, ⟨4, 7, 0, 0, [0, 0x40000000, 0x2000, 32, 0, 0], []⟩, false⟩
/-- A state whose queue 0 has taken a command and whose intake ring 0 may write 0x40000000. -/
def copyState (t : Taken) : State :=
  ((((hostState { State.reset with queues := [(0, { Queue.init with taken := [t] })] }).setFld F.hostIntakeLoValid 0 0 1).setFld F.hostIntakeLoPart 0 0 0).setFld
    F.hostIntakeLoLo 0 0 0).setFld F.hostIntakeHiHi 0 0 0x80000000
theorem witness_place : (copyState (placeCmd 0)).takenFirst 0 [opPLACE, opEXPORT] = some (placeCmd 0) ∧ (placeCmd 0).entry.opc = opPLACE
    ∧ ((copyState (placeCmd 0)).queue 0).copies = [] ∧ bits ((placeCmd 0).entry.arg 2) 0 23 = 32 ∧ (copyState (placeCmd 0)).fld F.hostIntakeLoValid 0 0 = 1
    ∧ (copyState (placeCmd 0)).fld F.hostIntakeLoPart 0 0 = (copyState (placeCmd 0)).fld F.queueConfigPart 0 0 ∧ (copyState (placeCmd 0)).ringPort (.queue 0) = 0
    ∧ (copyState (placeCmd 0)).fld F.hostIntakeLoLo 0 0 ≤ 0x40000000 ∧ 0x40000000 + 32 ≤ (copyState (placeCmd 0)).fld F.hostIntakeHiHi 0 0
    ∧ (copyState (placeCmd 0)).rangeInRegion 0 0x40000000 32 = true ∧ (copyState (placeCmd 0)).overStaging 0x40000000 32 = false
    ∧ (copyState (placeCmd 0)).discards 0x40000000 = false ∧ (copyState (placeCmd 0)).noWaits = true
    ∧ (copyState (placeCmd 0)).hallwayDown (portStack ((copyState (placeCmd 0)).ringPort (.queue 0))) (addrStack 0x40000000) = false := by decide +kernel
theorem witness_badPlace : (copyState (placeCmd 8)).takenFirst 0 [opPLACE, opEXPORT] = some (placeCmd 8) ∧ bits ((placeCmd 8).entry.arg 0) 8 22 % 32 ≠ 0 := by decide +kernel
theorem witness_placeComplete : ∃ s : State, ∃ c : Copy, (s.queue 0).copies = [c] ∧ c.opc.toNat = opPLACE ∧ c.sent = true :=
  ⟨{ State.reset with queues := [(0, { Queue.init with copies := [⟨0, 0, 7, 3, 0, 0x40000000, 32, 0, 0, 0, false, true⟩] })] }, ⟨0, 0, 7, 3, 0, 0x40000000, 32, 0, 0, 0, false, true⟩, by decide +kernel⟩
theorem witness_export : (copyState exportCmd).takenFirst 0 [opPLACE, opEXPORT] = some exportCmd ∧ exportCmd.entry.opc = opEXPORT
    ∧ (copyState exportCmd).rangeInRegion ((copyState exportCmd).fld F.queueConfigPart 0 0) 0x40000000 32 = true ∧ exportCmd.entry.arg 3 = 32
    ∧ (copyState exportCmd).overStaging 0x40000000 32 = false ∧ (copyState exportCmd).portOpen ((copyState exportCmd).ringPort (.queue 0)) = true
    ∧ (copyState exportCmd).noWaits = true ∧ (copyState exportCmd).inReset (addrStack 0x40000000) = false ∧ (∀ i, i < 32 → (copyState exportCmd).hallwayDown (portStack ((copyState exportCmd).ringPort (.queue 0))) (addrStack (0x40000000 + i)) = false) := by decide +kernel
theorem witness_exportReadback : ∃ s : State, ∃ c : Copy, (s.queue 0).copies = [c] ∧ c.opc.toNat = opEXPORT ∧ c.sent = true :=
  ⟨{ State.reset with queues := [(0, { Queue.init with copies := [⟨0, 0, 7, 4, 0x40000000, 0x2000, 32, 0, 0, 0, false, true⟩] })] }, ⟨0, 0, 7, 4, 0x40000000, 0x2000, 32, 0, 0, 0, false, true⟩, by decide +kernel⟩
theorem witness_hostPorts : (upState State.reset).hostLink 0 = hUP ∧ (State.reset.setFld F.hostStatusLink 1 0 3).hostLink 1 = hHELD ∧ (State.reset.setFld F.hostStatusLink 1 0 3).noWaits = true ∧ State.reset.hostLink 0 = hDOWN := by decide +kernel
theorem witness_letterbox : ∃ s t : State, s.hostLink 0 = hUP ∧ s.portOpen 0 = true ∧ s.fld F.hostIntakeLoValid 0 63 = 1 ∧ s.outOfService (hostStack 0) = false
    ∧ s.discards (s.reg .hostIntakeBase 0 + 0xFFFFFFF) = false ∧ s.setWaits (s.reg .hostIntakeBase 0 + 0xFFFFFFF) = false ∧ t.hostLink 0 = hUP ∧ t.portOpen 0 = true ∧ t.fld F.hostIntakeLoValid 0 63 = 0 :=
  ⟨(upState State.reset).setFld F.hostIntakeLoValid 0 63 1, upState State.reset, by decide +kernel⟩

/-! ## The Marker -/

/-- A one-element block with two version slots, slow or not. -/
def psd0 (slow : Bool) : Psd := ⟨0, [0, BitVec.ofNat 64 (1 + bit slow * 4 + 2 * 2 ^ 12), 0, 0, 0x60000000, 0x70000000, 0x78000000, 0]⟩
/-- A Marker in STEP_STATE `k`. -/
def marking (k : Nat) (m : Marker) : State := ({ State.reset with markers := [(0, m)], proctor := { Proctor.init with powered := true } }.setFld F.markerStateStepState 0 0 k)
/-- A chunk of that block. -/
def chunk0 (data : List Int) : Chunk := ⟨0, 0, 1, 0, 0xA, 0, data, false⟩
theorem witness_arm : (marking mIDLE Marker.init).reachesReg (.tutor 0) .markerArm 0 0 9 = true ∧ (marking mIDLE Marker.init).stepState 0 = mIDLE
    ∧ (marking mIDLE Marker.init).stepRecordWaits 0 = false ∧ (marking mOPEN Marker.init).reachesReg (.tutor 0) .markerArm 0 0 9 = true
    ∧ (marking mOPEN Marker.init).stepState 0 ≠ mIDLE ∧ (marking mSCANNING Marker.init).stepState 0 = mSCANNING := by decide +kernel
theorem witness_chunk : ∃ s : State, s.stepState 0 = mOPEN ∧ s.fld F.markerStateWithhold 0 = 0 ∧ s.scanned 0 0 = some (psd0 false)
    ∧ s.chunkBad 0 (psd0 false) (chunk0 [5]) = false ∧ s.chunkBad 0 (psd0 false) (chunk0 []) = true ∧ (∀ k, k < (chunk0 [5]).nseg → (s.marker 0).hasSeg (psd0 false).index ((chunk0 [5]).seg + k) = false) ∧ (psd0 false).slow = false :=
  ⟨marking mOPEN { Marker.init with scan := [psd0 false] }, by decide +kernel⟩
theorem witness_dupChunk : ∃ s : State, s.stepState 0 = mOPEN ∧ s.scanned 0 0 = some (psd0 false) ∧ s.chunkBad 0 (psd0 false) (chunk0 [5]) = false
    ∧ (∃ k, k < (chunk0 [5]).nseg ∧ (s.marker 0).hasSeg (psd0 false).index ((chunk0 [5]).seg + k) = true) ∧ s.fld F.markerStateWithhold 0 = 0 := ⟨marking mOPEN { Marker.init with scan := [psd0 false], segs := [(0, 0)] }, by decide +kernel⟩
theorem witness_q : ((marking mOPEN Marker.init).marker 0).q = none ∧ (0 : BitVec 32).toNat = (marking mOPEN Marker.init).reg .markerOpenStep 0
    ∧ ((marking mOPEN { Marker.init with q := some ⟨0, false, false, false⟩ }).marker 0).q ≠ none := by decide +kernel
/-- An open step that holds Q. -/
def decided0 (q : LxValue) (clip : BitVec 32) : State := marking mOPEN { Marker.init with q := some q, clip := clip }
theorem witness_decision : ((decided0 ⟨0, false, false, true⟩ 0).marker 0).q = some ⟨0, false, false, true⟩ ∧ (decided0 ⟨0, false, false, true⟩ 0).stepState 0 = mOPEN
    ∧ ((decided0 ⟨0, false, false, true⟩ 0).marker 0).decision = none ∧ (decided0 ⟨0, false, false, true⟩ 0).reg .markerArrived 0 = (decided0 ⟨0, false, false, true⟩ 0).reg .markerExpected 0
    ∧ (decided0 ⟨0, false, false, true⟩ 0).fld F.markerStateWithhold 0 = 0 ∧ ((decided0 ⟨0, false, false, true⟩ 0).marker 0).chunkWait = []
    ∧ ((decided0 ⟨0, false, false, true⟩ 0).marker 0).qWait = [] ∧ (decided0 ⟨0, false, false, true⟩ 0).noWaits = true
    ∧ (match (⟨0, false, false, true⟩ : LxValue).read with | .zero _ => false | .num n _ => n | _ => true) = true
    ∧ (match (⟨2 ^ 330, false, false, false⟩ : LxValue).read with | .zero _ => false | .num n _ => n | _ => true) = false
    ∧ ((decodeFp32 0x3F800000).mul (decodeFp32 0x3F800000)).lt (⟨2 ^ 330, false, false, false⟩ : LxValue).read = true
    ∧ ((decodeFp32 0x7F000000).mul (decodeFp32 0x7F000000)).lt (⟨1, false, false, false⟩ : LxValue).read = false := by decide +kernel
theorem witness_rerun : ∃ s : State, s.stepState 0 = mRERUN ∧ NatSet.has (s.marker 0).firstShadow rerunKey = false
    ∧ (s.marker 0).fastBlocks.any (fun p => s.shadowHeld 0 p) = false := ⟨marking mRERUN { Marker.init with scan := [psd0 false] }, by decide +kernel⟩
theorem witness_commit : ∃ s : State, s.commitReady 0 = true ∧ (s.marker 0).scan = [psd0 false] ∧ (psd0 false).trained = true ∧ s.psdAt 0 0 % 8 = 0 ∧ s.discards (s.psdAt 0 0) = false
    ∧ (psd0 false).slow = false ∧ s.setWaits (s.psdAt 0 0) = false :=
  ⟨marking mOPEN { Marker.init with scan := [psd0 false], decision := some 0, applied := [0] }, by decide +kernel⟩
theorem witness_commitComplete : ∃ s : State, s.stepState 0 = mCOMMITTING ∧ s.fld F.markerStateWithhold 0 = 0 ∧ (s.marker 0).chunkWait = [] ∧ (s.marker 0).qWait = []
    ∧ s.ringState (.step (Fin.ofNat 4 (s.partOf 0))) = qACTIVE ∧ s.holdRing.length < holdRingSize ∧ s.holdWait = [] :=
  ⟨(marking mCOMMITTING Marker.init).setFld F.queueStepStateState 0 0 1, by decide +kernel⟩
theorem witness_abandon : (marking mOPEN Marker.init).stepState 0 = mOPEN ∧ (marking mOPEN Marker.init).fld F.markerStateWithhold 0 = 0
    ∧ ((marking mOPEN Marker.init).marker 0).chunkWait = [] ∧ ((marking mOPEN Marker.init).marker 0).qWait = []
    ∧ (marking mOPEN Marker.init).reachesReg (.tutor 0) .markerStepCmd 0 0 1 = true ∧ (marking mRERUN Marker.init).reachesReg (.tutor 0) .markerStepCmd 0 0 1 = true := by decide +kernel
/-- The stage of the slow block. -/
def stage1 (f w : Bool) : SlipStage := ⟨0, f, [], none, 0, w, false, false, (0, 0), 0, none, false⟩
/-- A slip of it whose step has been decided. -/
def slip0 : Slip := ⟨0, 0, 0, 0, [5], some (0x3F800000, 0)⟩
/-- A Marker with that stage in STEP_STATE `k`, in a module with a valid seat. -/
def staging (k : Nat) (g : SlipStage) (l : List Slip) : State :=
  (marking k { Marker.init with scan := [psd0 true], stages := [g], slips := l }).setFld F.fabricSeatSeatValid 0 0 1
theorem witness_slipFetch : ∃ s : State, (s.marker 0).stages.find? (fun g => g.index == 0) = some (stage1 false false) ∧ s.scanned 0 0 = some (psd0 true)
    ∧ (stage1 false false).fetched = false ∧ (psd0 true).hs ≤ 0xF0000 ∧ s.ownSeat (psd0 true) = true ∧ s.noWaits = true
    ∧ (s.ownRead 0 (s.slowHalf 0 (psd0 true) false) (psd0 true).hs).2.2 = true ∧ (State.setReg s .fabricSeat 0 0 5).ownSeat (psd0 true) = false
    ∧ (List.replicate (psd0 true).hs (0 : Byte)).length = (psd0 true).hs ∧ s.stepState 0 = mOPEN ∧ s.fld F.markerStateWithhold 0 = 0
    ∧ (s.marker 0).chunkWait = [] ∧ (s.marker 0).qWait = [] ∧ (staging mIDLE (stage1 false false) []).stepState 0 = mIDLE :=
  ⟨staging mOPEN (stage1 false false) [], by decide +kernel⟩
theorem witness_slipApply : ∃ s : State, (s.marker 0).stages.find? (fun g => g.index == 0) = some (stage1 true false) ∧ s.scanned 0 0 = some (psd0 true)
    ∧ s.dueSlip 0 (psd0 true) (stage1 true false) = some slip0 ∧ slip0.decided = some (0x3F800000, 0) ∧ s.stepState 0 = mOPEN ∧ (stage1 true false).fetched = true
    ∧ (stage1 true false).kept = none ∧ s.shadowHeld 0 (psd0 true) = false ∧ (s.markerReads 0 (s.slipRuns 0 (psd0 true) (stage1 true false) slip0)).2 = false ∧ s.noWaits = true :=
  ⟨(staging mOPEN (stage1 true false) [slip0]).setReg .markerOpenStep 0 0 1, by decide +kernel⟩
theorem witness_slipWriteback : ∃ s : State, (s.marker 0).stages.find? (fun g => g.index == 0) = some (stage1 true true) ∧ s.scanned 0 0 = some (psd0 true)
    ∧ (stage1 true true).writing = true ∧ (stage1 true true).poison = false ∧ s.fld F.markerStateWithhold 0 = 0 ∧ (s.marker 0).chunkWait = [] ∧ (s.marker 0).qWait = []
    ∧ s.stepState 0 = mOPEN ∧ s.ownSeat (psd0 true) = true ∧ (s.ownWrite 0 (s.slowHalf 0 (psd0 true) true) ((stage1 true true).shadow.getD []) false).2 = true
    ∧ (State.setReg s .fabricSeat 0 0 5).ownSeat (psd0 true) = false :=
  ⟨staging mOPEN (stage1 true true) [], by decide +kernel⟩
theorem witness_calibration : ∃ s : State, (s.marker 0).cal = some (⟨true, false, false, 1, 0⟩, psd0 false) ∧ s.noWaits = true
    ∧ (s.readFrom 0 5 (s.reg .markerCalSrc 0) (4 * (psd0 false).rows * (psd0 false).rows)).2.2 = false :=
  ⟨marking mIDLE { Marker.init with cal := some (⟨true, false, false, 1, 0⟩, psd0 false) }, by decide +kernel⟩
/-- A 1 × 1 block with both preconditioners. -/
def psdCal : Psd := ⟨0, [0, BitVec.ofNat 64 (1 + 3 * 2 ^ 19), 0, 0, 0x60000000, 0x70000000, 0x78000000, 0]⟩
/-- A module in MODE 1 whose last scan found it at entry 0. -/
def calState : State :=
  ((((((({ State.reset with markers := [(0, { Marker.init with scan := [psdCal] })], proctor := { Proctor.init with powered := true } }.setReg .psdTable 0 0 0x40000000).setReg .psdEntries 0 0 1).setFld
    F.markerStateMode 0 0 1).setReg .markerCalDamp 0 0 0).setReg .markerCalTol 0 0 0x3F800000).setReg .markerCalSrc 0 0 0x50000000))
theorem witness_calCommands : calState.reachesReg (.tutor 0) .markerCalCmd 0 0 (2 + 1 * 2 ^ 4) = true ∧ calState.scanned 0 0 = some psdCal
    ∧ calState.calOk 0 ⟨true, false, false, 1, 0⟩ psdCal = true
    ∧ calState.reachesReg (.tutor 0) .markerCalCmd 0 0 (1 + 1 * 2 ^ 4) = true ∧ calState.calOk 0 ⟨false, false, false, 1, 0⟩ psdCal = true := by decide +kernel
theorem witness_rollCheck : ∃ s : State, (s.marker 0).scan = [psd0 false] ∧ (psd0 false).valid = true ∧ (s.marker 0).rollDue = 1 ∧ s.stepState 0 = mIDLE ∧ s.noWaits = true
    ∧ (psd0 false).slow = false ∧ (let m := (s.bump F.markerRollCheckedCount 0 0 1).masterBytes 0 (psd0 false)
        m.2.2 = false ∧ (m.1.readFrom 0 5 ((psd0 false).vers + bits (s.psdWord0 0 0) 0 3 * (psd0 false).ws) (psd0 false).nbytes).2.2 = false)
    ∧ rolledCopy (psd0 false) (s.seedOf 0) (BitVec.ofNat 32 (bits (s.psdWord0 0 0) 32 32)) (s.halfBytes (psd0 false) (s.psdSsel 0 0) 0 (4 * (psd0 false).nelem))
      = s.bytes ((psd0 false).vers + bits (s.psdWord0 0 0) 0 3 * (psd0 false).ws) (psd0 false).nbytes :=
  ⟨marking mIDLE { Marker.init with scan := [psd0 false], rollDue := 1 }, by decide +kernel⟩
theorem witness_rollMismatch : ∃ s : State, (s.marker 0).scan = [psd0 false] ∧ (s.marker 0).rollDue = 1 ∧ s.stepState 0 = mIDLE ∧ s.noWaits = true
    ∧ rolledCopy (psd0 false) (s.seedOf 0) (BitVec.ofNat 32 (bits (s.psdWord0 0 0) 32 32)) (s.halfBytes (psd0 false) (s.psdSsel 0 0) 0 (4 * (psd0 false).nelem))
      ≠ s.bytes ((psd0 false).vers + bits (s.psdWord0 0 0) 0 3 * (psd0 false).ws) (psd0 false).nbytes :=
  ⟨(marking mIDLE { Marker.init with scan := [psd0 false], rollDue := 1 }).setByte (psd0 false).vers 1, by decide +kernel⟩
theorem witness_homework : ∃ s t : State, s.noWaits = true ∧ s.fld F.markerHwCtrlMode 0 ≠ 0 ∧ t.fld F.markerHwCtrlMode 0 ≠ 0 ∧ (s.marker 0).hwQueue = [⟨psd0 false, 0, 0, 0, false⟩] ∧ s.hwToSeat 0 = false ∧ s.stepState 0 ≠ mOPEN
    ∧ s.ringState (.step (Fin.ofNat 4 (s.partOf 0))) = qACTIVE ∧ s.portOpen (s.ringPort (.step (Fin.ofNat 4 (s.partOf 0)))) = true
    ∧ s.hwFits 0 4096 = true ∧ (t.marker 0).hwQueue = [⟨psd0 false, 0, 0, 0, false⟩] ∧ t.hwToSeat 0 = false ∧ t.stepState 0 ≠ mOPEN
    ∧ t.ringState (.step (Fin.ofNat 4 (t.partOf 0))) ≠ qACTIVE :=
  ⟨((upState (marking mIDLE { Marker.init with hwQueue := [⟨psd0 false, 0, 0, 0, false⟩] })).setFld F.queueStepStateState 0 0 1).setReg .markerHwSize 0 0 0x10000 |>.setFld F.markerHwCtrlMode 0 0 1,
   (marking mIDLE { Marker.init with hwQueue := [⟨psd0 false, 0, 0, 0, false⟩] }).setFld F.markerHwCtrlMode 0 0 1, by decide +kernel⟩
theorem witness_markerWrites : (marking mIDLE Marker.init).reachesReg (.tutor 0) .markerHwHead 0 0 64 = true
    ∧ (marking mIDLE Marker.init).reachesReg (.tutor 0) .markerCommittedStep 0 0 5 = true ∧ ((marking mIDLE Marker.init).setFld F.markerStateMode 0 0 1).fld F.markerStateMode 0 = 1
    ∧ (marking mIDLE Marker.init).reachesReg (.tutor 0) .markerState 0 0 1 = true := by decide +kernel

/-! ## The fabric -/

/-- A module at seat 0, epoch 1, whose near entry 0 covers seat 1 (IN and OUT, port 0), with seat 1 at epoch 2 and port 0 UP. -/
def fabric0 : State :=
  ((((State.reset.setReg .fabricSeat 0 0 0x11000).setReg .fabricNear 0 0 (7 + 1 * 2 ^ 8 + 1 * 2 ^ 20 + 1 * 2 ^ 32)).setReg .corridorPeerEpoch 0 0 0x80020000).setFld
    F.fabricStateLink 0 0 2)
/-- A request of seat 1 at an address of stack 0. -/
def req0 (len : BitVec 4) (a : BitVec 48) (data : List Byte) : FabReq := ⟨0, 1, 7, len, false, a, 1, 2, 0, data, 9⟩
theorem witness_load : Admitted fabric0 0 .load (req0 15 0x40000000 []) ∧ fabric0.poisonBits 0x40000000 (reqBytes 15) = 0 :=
  ⟨by constructor <;> decide +kernel, by decide +kernel⟩
theorem witness_store : Admitted fabric0 0 .store (req0 0 0x40000008 (List.replicate 8 3)) ∧ (List.replicate 8 (3 : Byte)).length = reqBytes 0 :=
  ⟨by constructor <;> decide +kernel, by decide +kernel⟩
theorem witness_fxadd : Admitted fabric0 0 .fxadd32to64 (req0 1 0x40000000 (List.replicate 8 3)) ∧ fabric0.anyPoison 0x40000000 16 = false
    ∧ Admitted fabric0 0 .fxadd32 (req0 0 0x40000000 (List.replicate 8 3)) ∧ Admitted fabric0 0 .fxadd64 (req0 0 0x40000000 (List.replicate 8 3)) := by
  refine ⟨?_, by decide +kernel, ?_, ?_⟩ <;> constructor <;> decide +kernel
theorem witness_atomic : Admitted fabric0 0 .add64 (req0 0 0x40000018 (List.replicate 8 3)) ∧ Admitted fabric0 0 .cas128 (req0 1 0x40000010 (List.replicate 32 3))
    ∧ fabric0.poisoned 0x40000018 = false ∧ Admitted { fabric0 with poison := [0x2000000] } 0 .add64 (req0 0 0x40000018 (List.replicate 8 3))
    ∧ State.poisoned { fabric0 with poison := [0x2000000] } 0x40000018 = true := by
  refine ⟨?_, ?_, by decide +kernel, ?_, by decide +kernel⟩ <;> constructor <;> decide +kernel
/-- A notify ring of two entries at 0x50000000, its head word at 0x50001000, `n` records written. -/
def notify0 (n : Nat) : State :=
  ((((fabric0.setReg .fabricNotifyBase 0 0 0x50000000).setReg .fabricNotifyEntries 0 0 2).setReg .fabricNotifyHeadAddr 0 0 0x50001000).setReg .fabricNotifyTail 0 0 n)
theorem witness_notify : Admitted (notify0 1) 0 .storeNotify (req0 0 0x40000000 (List.replicate 8 3)) ∧ (notify0 1).discards 0x50000010 = false
    ∧ ((notify0 1).reg .fabricNotifyTail 0 + 2 ^ 32 - (notify0 1).num ((notify0 1).reg .fabricNotifyHeadAddr 0) 8 % 2 ^ 32) % 2 ^ 32 ≠ (notify0 1).reg .fabricNotifyEntries 0
    ∧ (notify0 1).reg .fabricNotifyBase 0 = 0x50000000 := ⟨by constructor <;> decide +kernel, by decide +kernel⟩
theorem witness_notifyFull : Admitted (notify0 2) 0 .storeNotify (req0 0 0x40000000 (List.replicate 8 3))
    ∧ ((notify0 2).reg .fabricNotifyTail 0 + 2 ^ 32 - (notify0 2).num ((notify0 2).reg .fabricNotifyHeadAddr 0) 8 % 2 ^ 32) % 2 ^ 32 = (notify0 2).reg .fabricNotifyEntries 0 :=
  ⟨by constructor <;> decide +kernel, by decide +kernel⟩
/-- A request that the Marker issues to seat 1 in the near window. -/
def issue0 : FabIssue := ⟨.marker, .load, BitVec.ofNat 64 (1 * 2 ^ 60 + 1 * 2 ^ 48 + 0x40000000), 0, false, [], 0, 0⟩
theorem witness_issue : ∃ e : Nat, reqShape issue0.op issue0.len (bits issue0.addr.toNat 0 48) = true ∧ fabric0.mustHold 0 issue0 = false ∧ fabric0.heldReqs = []
    ∧ fabSeat issue0.addr.toNat ≠ fabric0.seat ∧ fabric0.freeTid 0 = some 0 ∧ fabric0.outEntry (fabric0.partOf 0) issue0.addr.toNat = some e
    ∧ choosePort (winPorts e) (bits issue0.addr.toNat 0 48) = some 0 ∧ fabric0.link 0 = lUP ∧ fabric0.hallwayDown 0 (stackOfPort 0) = false :=
  ⟨7 + 1 * 2 ^ 8 + 1 * 2 ^ 20 + 1 * 2 ^ 32, by decide +kernel⟩
/-- An entry of the tracker. -/
def track0 (q : Bool) : TrackEntry := ⟨5, some .load, .marker, 1, 0, some 0, none, q⟩
theorem witness_response : List.find? (fun (t : TrackEntry) => t.entry == 5 && !t.quarantine) [track0 false] = some (track0 false)
    ∧ (∀ t ∈ [track0 true], t.entry = 5 → t.quarantine = true) ∧ (track0 false).coll = none := by decide +kernel
theorem witness_tracker : ∃ s : State, s.trackers.find? (fun t => t.entry == (0 : StackId).val * 2 ^ 16 + 5 && !t.quarantine) = some (track0 false) ∧ s.heldReqs = [] :=
  ⟨{ fabric0 with trackers := [track0 false] }, by decide +kernel⟩
/-- Port 0 in LINK state `k`. -/
def portIn (k : Nat) (fp : FPort) : State := { fabric0 with ports := [(0, fp)] }.setFld F.fabricStateLink 0 0 k
theorem witness_training : (portIn 1 FPort.init).link 0 = lTRAINING ∧ (portIn 3 FPort.init).link 0 = lRETRAINING ∧ (portIn 2 FPort.init).link 0 = lUP
    ∧ ((portIn 2 FPort.init).port 0).tids = [] ∧ (portIn 2 FPort.init).heldReqs = [] ∧ (5 : BitVec 8) ≠ ((portIn 2 FPort.init).port 0).trainEpoch := by decide +kernel
theorem witness_retraining : ∃ s : State, s.link 0 = lRETRAINING ∧ (s.port 0).trainEpoch = 5 ∧ 2 ∉ (s.port 0).actedOps ∧ 3 ∉ (s.port 0).actedOps
    ∧ (3 : BitVec 8).getLsbD 0 = true ∧ (3 : BitVec 8).getLsbD 1 = true ∧ (s.port 0).mapSent = true ∧ (s.port 0).lockDone = false ∧ (s.port 0).rxSeq = 0 :=
  ⟨portIn 3 { FPort.init with trainEpoch := 5, mapSent := true }, by decide +kernel⟩
/-- A control message and a flit that carries it. -/
def control0 : FabMsg := .control 5 0 1 (List.replicate 32 0) 0 0
/-- The flit. -/
def flit0 (n : BitVec 12) : Flit := ⟨0, n, 0, false, false, 0, 0, control0.parts ++ List.replicate 12 .null, none, none, 0, []⟩
/-- A TAG flit, with counter 3. -/
def tagFlit0 : Flit := ⟨2, 8, 0, false, false, 0, 0, [], some (0, 3), none, 0, []⟩
/-- The flit with its CRC. -/
def goodFlit (n : BitVec 12) : Flit := flitSealed (flit0 n)
/-- The same flit with another CRC. -/
def badFlit (n : BitVec 12) : Flit := { goodFlit n with crc := (goodFlit n).crc + 1 }
theorem sealed_good (f : Flit) : Machine.flitGood (flitSealed f) = true := beq_self_eq_true (α := BitVec 64) _
theorem other_crc (f : Flit) : Machine.flitGood { flitSealed f with crc := (flitSealed f).crc + 1 } = false := by
  show (flitCrc f + 1 == flitCrc f) = false
  simp
/-- Port 0 UP in clear, with `n` its next sequence number. -/
def clearPort (n : BitVec 12) : State := portIn 2 { FPort.init with session := .skipped, rxSeq := n }
theorem witness_flit : ∃ s : State, s.link 0 = lUP ∧ Machine.flitGood (badFlit 7) = false ∧ Machine.flitGood (goodFlit 7) = true ∧ (goodFlit 7).type = 0 ∧ (goodFlit 7).nak = false
    ∧ (goodFlit 7).badSlot = false ∧ (goodFlit 7).msgs = [control0] ∧ (goodFlit 7).seq = (s.port 0).rxSeq ∧ (s.port 0).session = .skipped
    ∧ (s.port 0).creditOwed.getD control0.vc.val 0 + control0.slots ≤ vcBuffer control0.vc.val :=
  ⟨clearPort 7, by decide +kernel, other_crc _, sealed_good _, by decide +kernel⟩
theorem witness_nextKey : ∃ s : State, s.link 0 = lUP ∧ Machine.flitGood (flitSealed { flit0 7 with key := true }) = true ∧ (s.port 0).rxSeq = 7 ∧ (s.port 0).session = .up
    ∧ (s.port 0).groupRx = [] ∧ (s.port 0).rxNext = true ∧ (s.port 0).rxSlot = false :=
  ⟨portIn 2 { FPort.init with session := .up, rxSeq := 7, rxNext := true }, by decide +kernel, sealed_good _, by decide +kernel⟩
theorem witness_send : ∃ s : State, s.link 0 = lUP ∧ (s.port 0).session = .skipped ∧ (s.port 0).txq = [(0, control0)] ∧ s.pick 0 = some (0, control0, [0, 0, 0, 0]) ∧ control0.flits = 1
    ∧ (s.port 0).txCounter < 2 ^ 48 ∧ (s.port 0).rxCounter < 2 ^ 48 :=
  ⟨portIn 2 { FPort.init with session := .skipped, rollSent := true, rollPresent := true, txq := [(0, control0)], credit := [64, 2048, 4096, 8192] }, by decide +kernel⟩
theorem witness_tagGroups : ∃ s : State, s.link 0 = lUP ∧ (s.port 0).session = .up ∧ (s.port 0).groupTx ≠ 0 ∧ (s.port 0).groupRx = [flit0 7] ++ tagFlit0 :: []
    ∧ (∀ y ∈ [flit0 7], y.type ≠ 2) ∧ tagFlit0.type = 2 ∧ tagFlit0.tag = some (0, 3) ∧ [flit0 7].flatMap (fun x => x.msgs) = [control0] ∧ [flit0 7].any Flit.badSlot = false
    ∧ (s.port 0).tagFails = 0 ∧ (s.port 0).creditOwed.getD control0.vc.val 0 + control0.slots ≤ vcBuffer control0.vc.val ∧ (s.port 0).txCounter + 1 < 2 ^ 48
    ∧ (s.port 0).rxCounter < 2 ^ 48 := ⟨portIn 2 { FPort.init with session := .up, groupOut := [flit0 3], groupRx := [flit0 7, tagFlit0] }, by decide +kernel⟩
theorem witness_tagFailsTwice : ∃ s : State, s.link 0 = lUP ∧ (s.port 0).session = .up ∧ (s.port 0).groupRx = flit0 7 :: [] ++ tagFlit0 :: [] ∧ (s.port 0).tagFails ≠ 0 :=
  ⟨portIn 2 { FPort.init with session := .up, groupRx := [flit0 7, tagFlit0], tagFails := 1 }, by decide +kernel⟩
theorem witness_sessions : ((portIn 2 { FPort.init with session := .identSent }).port 0).session = .identSent ∧ ((portIn 2 { FPort.init with session := .required }).port 0).session = .required
    ∧ 2 ^ 47 ≤ ((portIn 2 { FPort.init with session := .up, rxCounter := 2 ^ 47, txCounter := 2 ^ 47 }).port 0).rxCounter
    ∧ 2 ^ 47 ≤ ((portIn 2 { FPort.init with session := .up, rxCounter := 2 ^ 47, txCounter := 2 ^ 47 }).port 0).txCounter := by decide +kernel

/-! ## Hallway links, HBM4, caretakers, slices -/

theorem witness_hallwayDown : ∃ s : State, s.fld F.hallwayStateLink 5 ≠ 2 ∧ bitOf (s.fld F.hallwayStateSparesUsed 5) (319 / 32) = true ∧ s.fld F.hallwayStateLink 5 = 1
    ∧ 2 ≤ Tab.get 0 s.hallwayFails 5 ∧ s.lessons = [] ∧ s.bells = [] ∧ s.cores = [] :=
  ⟨{ (State.reset.setFld F.hallwayStateLink 5 0 1).setFld F.hallwayStateSparesUsed 5 0 0x3FF with hallwayFails := [(5, 2)] }, by decide +kernel⟩
theorem witness_hallway : (State.reset.setFld F.hallwayStateLink 5 0 0).fld F.hallwayStateLink 5 = 0 ∧ bitOf ((State.reset.setFld F.hallwayStateLink 5 0 0).fld F.hallwayStateSparesUsed 5) (319 / 32) = false
    ∧ (State.reset.setFld F.hallwayStateLink 5 0 1).fld F.hallwayStateLink 5 = 1 ∧ Tab.get 0 State.reset.hallwayFails 5 < 2 := by decide +kernel
theorem witness_channel : State.reset.fld F.hbmChannelState (hbmOf 1023) (channelOf 1023) ≠ 2 ∧ (State.reset.slice 1023).waitQ = []
    ∧ (State.reset.setFld F.hbmChannelState (hbmOf 1023) (channelOf 1023) 1).fld F.hbmChannelState (hbmOf 1023) (channelOf 1023) = 1
    ∧ ((State.reset.slice 1023).laneSpares.filter (fun x => x.1 == true)).length < 2 := by decide +kernel
/-- A module that has started up. -/
def started0 : State := { State.reset with proctor := { Proctor.init with powered := true } }.setFld F.proctorStartupPhase 0 0 7
theorem witness_caretakers : started0.caretakersStop 3 = false ∧ Tab.get 0 started0.hbmErr (channelAddr (256 * 3 + 255) (Tab.get 0 (started0.tutor 3).janitorHbm 255 % channelSectors) / 32) = 0
    ∧ (started0.setFld F.sliceConfigCacheWays (256 * 3 + 255) 0 0).arrayAddr (256 * 3 + 255) 0 = some (scratchAddr (256 * 3 + 255) 0 0 0) ∧ started0.arrayAddr (256 * 3 + 255) 0 = none ∧ Tab.get 0 started0.arrayErr (scratchAddr (256 * 3 + 255) 0 0 0 / 32) = 0 ∧ started0.heldSector (channelAddr (256 * 3 + 255) 0) = (false, false)
    ∧ (started0.setFld F.tutorQuizCtrlEnable 3 0 1).fld F.tutorQuizCtrlEnable 3 ≠ 0 ∧ (started0.setFld F.tutorQuizCtrlEnable 3 0 1).caretakersStop 3 = false
    ∧ ((started0.setFld F.tutorQuizCtrlEnable 3 0 1).slice (256 * 3 + (started0.setFld F.tutorQuizCtrlEnable 3 0 1).fld F.tutorQuizStatusNextSlice 3)).bondRepairs = [] := by decide +kernel
theorem witness_quizEnd : ∃ s : State, s.caretakersStop 0 = false ∧ (s.tutor 0).quizActive = true := ⟨{ started0 with tutors := [(0, { Tutor.init with quizActive := true })] }, by decide +kernel⟩
theorem witness_sliceRepairs : started0.outOfService 3 = false ∧ (started0.slice 1023).waitQ = [] ∧ (started0.slice 1023).rowRepair = none ∧ (started0.slice 1023).failed = false ∧ (started0.slice 1023).bondRepairs = [] ∧ (started0.slice 1023).rowsUsed < 32
    ∧ (State.slice { started0 with slices := [(0, { Slice.init with bondRepairs := [(true, 35, 31)] })] } 0).bondRepairs = [(true, 35, 31)] := by decide +kernel
/-- Slice 0 holds the line of address `128 n`. -/
def lineState (n : Nat) (pinned : Bool) (q : List PinCmd) : State :=
  { started0 with slices := [(homeSlice (128 * n), { Slice.init with lines := [⟨setOf (128 * n), 3, n, 15, 0, pinned⟩], pinQ := q })] }
theorem witness_takesNow : (lineState 0x800000 false []).takesNow 0x40000020 = true ∧ 0x40000020 % 32 = 0 := by decide +kernel
theorem witness_sectorFetch : ∃ s : State, NatSet.has (s.slice (homeSlice 0x40000000)).fetching (0x40000000 / 32) = true :=
  ⟨{ started0 with slices := [(homeSlice 0x40000000, { Slice.init with fetching := [0x2000000] })] }, by decide +kernel⟩
theorem witness_hold : ∃ s : State, (s.slice 9).findHold 77 = some ⟨77, 15, 15, true, 0⟩ ∧ (s.slice 9).waitQ = [] := ⟨{ started0 with slices := [(9, { Slice.init with hold := [⟨77, 15, 15, true, 0⟩] })] }, by decide +kernel⟩
theorem witness_pin : ∃ l : CacheLine, ∃ s : State, (s.slice (homeSlice 0x40000000)).pinQ = [⟨false, 0x800000⟩] ∧ pinAddr (homeSlice 0x40000000) 0x800000 = 0x40000000
    ∧ regionOf 0x40000000 = .hbm ∧ (s.slice (homeSlice 0x40000000)).find (0x40000000 / 128) = some l ∧ l.pinned = false
    ∧ (s.slice (homeSlice 0x40000000)).pinnedIn (setOf 0x40000000) < s.fld F.sliceConfigPinCap (homeSlice 0x40000000) ∧ (s.slice (homeSlice 0x40000000)).findHold (0x40000000 / 128) = none :=
  ⟨⟨setOf 0x40000000, 3, 0x800000, 15, 0, false⟩, (lineState 0x800000 false [⟨false, 0x800000⟩]).setFld F.sliceConfigPinCap (homeSlice 0x40000000) 0 4, by decide +kernel⟩
theorem witness_unpin : ∃ l : CacheLine, ∃ s : State, (s.slice (homeSlice 0x40000000)).pinQ = [⟨true, 0x800000⟩]
    ∧ (s.slice (homeSlice 0x40000000)).find (0x40000000 / 128) = some l ∧ l.pinned = true :=
  ⟨⟨setOf 0x40000000, 3, 0x800000, 15, 0, true⟩, lineState 0x800000 true [⟨true, 0x800000⟩], by decide +kernel⟩
theorem witness_sliceRead : ∃ s : State, s.served 0x10000000000 = true ∧ NatSet.has (s.slice (homeSlice 0x10000000000)).fetching (0x10000000000 / 32) = false
    ∧ regionOf 0x10000000000 = .scratch ∧ s.sound 0x10000000000 = true := ⟨started0.setFld F.sliceConfigCacheWays (homeSlice 0x10000000000) 0 0, by decide +kernel⟩

/-! ## The Corridor -/

/-- A directed frame of type `t` from seat 9 to seat 5. -/
def frame0 (t : BitVec 4) : Frame := ⟨t, 9, 5, false, 31, 1, List.replicate 32 0, 1⟩
/-- A module at seat 0 that has joined the Corridor. -/
def joined (c : Corridor) : State := { fabric0 with corridor := { c with bypassOpen := true } }
theorem witness_transmit : (joined { Corridor.init with txq := [(2, false, frame0 4), (2, true, frame0 4)] }).corridor.bypassOpen = true
    ∧ nextFrame [(2, false, frame0 4), (2, true, frame0 4)] = some (2, true, frame0 4) := by decide +kernel
theorem witness_resend : ∀ r ∈ [(⟨frame0 0, 99⟩ : Resend)], r.tries < 100 := by decide
theorem witness_bypass : State.corridor { State.reset with corridor := { Corridor.init with moving := some true } } = { Corridor.init with moving := some true } ∧ (some true : Option Bool) ≠ none := by decide +kernel
theorem witness_crc : frameGood (frame0 4) = false ∧ frameGood (frameSealed (frame0 4)) = true ∧ (frameSealed (frame0 4)).dest = 5 ∧ (joined Corridor.init).corridor.bypassOpen = true := by decide +kernel
theorem witness_forward : (joined Corridor.init).corridor.bypassOpen = true ∧ (frame0 4).type.toNat < 8 ∧ (frame0 4).type.toNat ≠ 6 ∧ (frame0 4).dest.toNat ≠ (joined Corridor.init).seat
    ∧ (frame0 4).hops.toNat < 32 ∧ (joined Corridor.init).seatValid = true ∧ (joined Corridor.init).activation = none := by decide +kernel
theorem witness_epochSend : ∃ s : State, s.corridor.epochQueue = [(5, none)] ∧ s.corridor.bypassOpen = true ∧ s.seatValid = true :=
  ⟨joined { Corridor.init with epochQueue := [(5, none)] }, by decide +kernel⟩
theorem witness_roll : ∃ s : State, s.link 0 = lUP ∧ (s.port 0).sessionOpen = true ∧ s.fld F.fabricRollStateMissed 0 = 2 ∧ s.fld F.powerPstateState (stackOfPort 0) ≠ 2
    ∧ (s.port 0).rollPresent = false ∧ s.reg .fabricPartnerSerial 0 = (0 : Word).toNat ∧ s.fld F.fabricPartnerSeat 0 ≠ (77 : BitVec 12).toNat := ⟨(portIn 2 { FPort.init with session := .skipped }).setFld F.fabricRollStateMissed 0 0 2, by decide +kernel⟩
theorem witness_time : ∃ s t : State, s.fld F.corridorCtrlTimeMaster = 1 ∧ s.fld F.corridorStateTimeConflict = 0 ∧ s.corridor.bypassOpen = true ∧ s.seatValid = true
    ∧ t.seatValid = true ∧ t.fld F.corridorCtrlTimeMaster = 0 ∧ t.corridor.master = none ∧ t.now + 2000 < 2001 :=
  ⟨(joined Corridor.init).setFld F.corridorCtrlTimeMaster 0 0 1, joined Corridor.init, by decide +kernel⟩

/-! ## Registers -/

theorem witness_accesses : (upState State.reset).pathOpen .h0 = true ∧ aligned 2 4 = false ∧ aligned 4 8 = false ∧ placeAt 0x3FFFFF8 = none ∧ placeAt 0x3FFFFFC = none
    ∧ placeAt (RegName.addr .hostStatus 1 0) = some ⟨.hostStatus, 1, 0, 0⟩ := by decide +kernel
theorem witness_seatWrite : started0.reachesReg .proctor .fabricSeat 0 0 0x11005 = true ∧ (State.reachesReg { fabric0 with proctor := { Proctor.init with powered := true } } .proctor .fabricSeat 0 0 5) = true
    ∧ fabric0.seatValid = true := by decide +kernel
/-- Queue 0 in a state `k` on an UP port, VALID, its rings of 16 entries. -/
def queueIn (k : Nat) (q : Queue) : State :=
  ((((upState { started0 with queues := [(0, q)] }).setFld F.queueStateState 0 0 k).setFld F.queueConfigValid 0 0 1).setFld F.queueSizesSqLog2 0 0 4).setFld F.queueSizesCqLog2 0 0 4
theorem witness_resume : (queueIn qPARKED Queue.init).reachesReg .h0 .queueCtrl 0 0 2 = true ∧ (queueIn qPARKED Queue.init).ringState (.queue 0) = qPARKED
    ∧ Queue.init.fetching = false ∧ Queue.init.fresh = none ∧ (queueIn qPARKED Queue.init).homeServes 0 = true
    ∧ (State.queue (queueIn qPARKED { Queue.init with badBell := true }) 0).badBell = true ∧ (queueIn qPARKED { Queue.init with badBell := true }).homeServes 0 = true
    ∧ (queueIn qPARKED { Queue.init with doorbell := 16 }).reg .queueSqHead 0 0 ≠ (16 : BitVec 32).toNat
    ∧ (queueIn qPARKED { Queue.init with doorbell := 16 }).portOpen ((queueIn qPARKED { Queue.init with doorbell := 16 }).ringPort (.queue 0)) = true
    ∧ ((queueIn qPARKED Queue.init).setPstate [0, 1, 2, 3] pRECESS).homeServes 0 = false := by decide +kernel
theorem witness_doorbell : ∃ s : State, s.reachesReg .h0 .queueDoorbell 0 0 16 = true ∧ s.ringState (.queue 0) = qACTIVE ∧ (16 : BitVec 32) ≠ (s.queue 0).doorbell
    ∧ (s.queue 0).fetching = false ∧ (s.queue 0).fresh = none ∧ s.pastRing 0 16 (s.reg .queueSqHead 0 0) = false ∧ s.pastRing 0 16 (s.queue 0).doorbell.toNat = false
    ∧ s.homeServes 0 = true ∧ s.reg .queueSqHead 0 0 ≠ 16 ∧ s.portOpen (s.ringPort (.queue 0)) = true ∧ s.pastRing 0 17 (s.reg .queueSqHead 0 0) = true
    ∧ s.reachesReg .h0 .queueDoorbell 0 0 17 = true :=
  ⟨queueIn qACTIVE Queue.init, by decide +kernel⟩
theorem witness_doorbellIdle : (queueIn qDISABLED Queue.init).reachesReg .h0 .queueDoorbell 0 0 16 = true ∧ (queueIn qDISABLED Queue.init).ringState (.queue 0) ≠ qACTIVE
    ∧ ((queueIn qACTIVE Queue.init).setPstate [0, 1, 2, 3] pRECESS).homeServes 0 = false := by decide +kernel
theorem witness_heads : ∃ s : State, s.reachesReg .h0 .queueCqHead 0 0 3 = true ∧ idxDiff 3 (s.ringHead (.queue 0)) ≤ idxDiff (s.ringTail (.queue 0)) (s.ringHead (.queue 0))
    ∧ s.reachesReg .h0 .queueStepHead 0 0 2 = true ∧ idxDiff 2 (s.ringHead (.step 0)) ≤ idxDiff (s.ringTail (.step 0)) (s.ringHead (.step 0)) :=
  ⟨((queueIn qACTIVE Queue.init).setReg .queueCqTail 0 0 3).setReg .queueStepTail 0 0 2, by decide +kernel⟩
theorem witness_queueControl : (queueIn qDISABLED Queue.init).reachesReg .h0 .queueCtrl 0 0 1 = true ∧ (queueIn qDISABLED Queue.init).fld F.queueConfigValid 0 0 = 1
    ∧ (queueIn qDISABLED Queue.init).ringState (.queue 0) = qDISABLED ∧ (queueIn qDISABLED Queue.init).ringsValid 0 = true
    ∧ (queueIn qACTIVE Queue.init).reachesReg .h0 .queueCtrl 0 0 4 = true ∧ (queueIn qACTIVE Queue.init).lessons = [] := by decide +kernel
/-- Step ring 0 in a state `k`. -/
def stepIn (k : Nat) : State := (((upState started0).setFld F.queueStepStateState 0 0 k).setFld F.queueStepConfigValid 0 0 1).setFld F.queueStepSizeLog2 0 0 16
theorem witness_stepRings : (stepIn 0).reachesReg .h0 .queueStepCtrl 0 0 1 = true ∧ (stepIn 0).fld F.queueStepConfigValid 0 0 = 1 ∧ (stepIn 0).ringState (.step 0) ≠ qACTIVE
    ∧ (stepIn 0).stepValid 0 = true ∧ (stepIn 1).reachesReg .h0 .queueStepCtrl 0 0 2 = true ∧ (stepIn 1).ringState (.step 0) = qACTIVE
    ∧ started0.reachesReg .proctor .hostCtrl 0 0 1 = true := by decide +kernel
theorem witness_ports : started0.reachesReg .proctor .fabricCtrl 15 0 1 = true ∧ (started0.setFld F.fabricCtrlEnable 15 0 0).fld F.fabricCtrlEnable 15 = 0
    ∧ started0.reachesReg .proctor .fabricCtrl 15 0 0 = true ∧ (started0.port 15).tids = [] ∧ started0.heldReqs = [] := by decide +kernel
theorem witness_corridorWrites : started0.reachesReg .proctor .corridorCtrl 0 0 (1 + started0.fld F.corridorCtrlTimeMaster * 2) = true ∧ started0.fld F.corridorCtrlJoin = 0
    ∧ started0.corridor.bypassOpen = false ∧ started0.corridor.moving = none ∧ State.reachesReg { joined Corridor.init with proctor := { Proctor.init with powered := true } } .proctor .corridorStopSend 0 0 0xFFFFFFFF = true
    ∧ started0.reachesReg .proctor .corridorStopClear 0 0 15 = true := by decide +kernel
theorem witness_recess : started0.reachesReg .proctor .powerPstateCmd 0 0 (1 + 15 * 2 ^ 4 + 10000 * 2 ^ 16) = true ∧ started0.splitsPartition (stackList 15) = false ∧ started0.powerCmd = none ∧ started0.activation = none
    ∧ (∀ st ∈ stackList 15, started0.pstate st = pACTIVE ∧ started0.inReset st = false) := by decide +kernel
/-- Every stack in power state `v`. -/
def powered (v : Nat) : State := started0.setPstate [0, 1, 2, 3] v
theorem witness_wake : (powered pRECESS).reachesReg .proctor .powerPstateCmd 0 0 (2 + 15 * 2 ^ 4) = true ∧ (powered pRECESS).splitsPartition (stackList 15) = false ∧ (powered pRECESS).powerCmd = none
    ∧ (∀ st ∈ stackList 15, (powered pRECESS).pstate st = pRECESS ∧ (powered pRECESS).inReset st = false) := by decide +kernel
theorem witness_powerWrites : started0.reachesReg .proctor .powerCap 0 0 5800 = true ∧ started0.reachesReg .proctor .powerHostLimit 3 0 65 = true
    ∧ started0.reachesReg .proctor .thermalSensor 3 43 (2 ^ 25) = true := by decide +kernel
theorem witness_ruleStep : ∃ s : State, s.reachesReg .proctor .tutorRuleStep 0 0 1 = true ∧ s.ruleStepOk 0 1 = true :=
  ⟨(started0.setFld F.tutorSylStateActive 0 0 1).setReg .tutorRuleLastStep 0 0 0, by decide +kernel⟩
theorem witness_otherWrites : started0.reachesReg .i3c .secFwSvnCommit 0 0 1 = true
    ∧ ((started0.setFld F.secFwSvnCurrent 0 0 2).setFld F.secFwSvnMin 0 0 1).fld F.secFwSvnMin < ((started0.setFld F.secFwSvnCurrent 0 0 2).setFld F.secFwSvnMin 0 0 1).fld F.secFwSvnCurrent
    ∧ started0.reachesReg .proctor .diarySealIndex 0 0 4095 = true ∧ started0.reachesReg .proctor .diaryEntryIndex 0 0 65535 = true
    ∧ (upState started0).reachesReg .h0 .hostLinkHold 0 0 60001 = true ∧ started0.pathOpen .proctor = true ∧ started0.readable .proctor ⟨.corridorCrcErrors, 0, 0, 0⟩ = true := by decide +kernel

/-! ## Power -/

/-- A Recess of all stacks under way. -/
def recess0 (q w : Bool) : PowerCmd := ⟨15, 1000, w, q⟩
theorem witness_recessPhases : State.recessReady { powered pENTERING with powerCmd := some (recess0 false false) } (stackList 15) = true ∧ (recess0 false false).waking = false ∧ (recess0 false false).quiesced = false ∧ (recess0 true false).quiesced = true ∧ State.activation { powered pENTERING with powerCmd := some (recess0 false false) } = none
    ∧ (∀ st ∈ stackList 15, State.pstate { powered pENTERING with powerCmd := some (recess0 false false) } st = pENTERING)
    ∧ (∀ st : StackId, State.fld { powered pENTERING with powerCmd := some (recess0 true false) } F.powerPstateWakeHeld st = 0) ∧ (recess0 true true).waking = true := by decide +kernel
theorem witness_coolant : started0.fld F.thermalFlowTrip = 0 ∧ (started0.setFld F.thermalFlowTrip 0 0 1).fld F.thermalFlowTrip ≠ 0 ∧ (1000 ≤ State.coolTicks { started0 with coolTicks := 10000 } ∨ 1000 ≤ State.warmTicks { started0 with coolTicks := 10000 }) ∧ 10000 ≤ State.coolTicks { started0 with coolTicks := 10000 } := by decide +kernel
theorem witness_clusters : (started0.cluster 63).droop = false ∧ started0.pstate 3 < pRECESS ∧ started0.pstate 0 = pACTIVE
    ∧ (Cluster.wanted { Cluster.init with waiting := [4] }) = true ∧ started0.outOfService (stackOfCluster 63) = false ∧ (Cluster.init).pll = .off ∧ (Cluster.init).wanted = false := by decide +kernel
theorem witness_groups : (∃ k ∈ groupSensors false, (thresholds k).2.2.1 ≤ (List.replicate 44 (10000 : Int)).getD k 0) ∧ (∀ k ∈ groupSensors false, (List.replicate 44 (0 : Int)).getD k 0 < (thresholds k).2.1)
    ∧ (∀ k ∈ groupSensors false, (thresholds k).2.1 ≤ (thresholds k).1) ∧ (∀ k ∈ groupSensors true, (List.replicate 44 (0 : Int)).getD k 0 < (thresholds k).2.1)
    ∧ (∀ k ∈ groupSensors true, (thresholds k).2.1 ≤ (thresholds k).1) := by decide +kernel
theorem witness_suspect : ∃ s : State, 10 ≤ Tab.get 0 (s.loop 0).diffCount 43 ∧ s.fld F.thermalSensorSuspect 0 43 = 0 :=
  ⟨{ started0 with loops := [(0, { Loops.init with diffCount := [(43, 10)] })] }, by decide +kernel⟩

/-! ## Resets, Syllabuses, security, management -/

theorem witness_moduleResets : started0.reachesReg .proctor .proctorResetCmd 0 0 (1 + 0xA55A * 2 ^ 16) = true ∧ started0.inModuleReset 1 = false
    ∧ started0.reachesReg .proctor .proctorResetCmd 0 0 (2 + 0xA55A * 2 ^ 16) = true ∧ started0.inModuleReset 2 = false := by decide +kernel
theorem witness_resets : started0.reachesReg .proctor .proctorResetCmd 0 0 3 = true ∧ started0.resetOk 3 = true ∧ started0.resets = []
    ∧ (∀ st ∈ started0.resetStacks 3, started0.stepState (Fin.ofNat 4 st) ≠ mCOMMITTING ∧ started0.applying st = false)
    ∧ started0.reachesReg .proctor .proctorResetCmd 0 0 (4 + 15 * 2 ^ 4) = true ∧ started0.resetOk (4 + 15 * 2 ^ 4) = true
    ∧ (∀ st ∈ started0.resetStacks (4 + 15 * 2 ^ 4), started0.stepState (Fin.ofNat 4 st) ≠ mCOMMITTING ∧ started0.applying st = false)
    ∧ started0.reachesReg .proctor .proctorResetCmd 0 0 (5 + 8 * 2 ^ 4) = true ∧ started0.resetOk (5 + 8 * 2 ^ 4) = true
    ∧ (∀ st ∈ started0.resetStacks (5 + 8 * 2 ^ 4), started0.stepState (Fin.ofNat 4 st) ≠ mCOMMITTING ∧ started0.applying st = false) := by decide +kernel
theorem witness_deferred : ∃ s : State, s.reachesReg .proctor .proctorResetCmd 0 0 (4 + 1 * 2 ^ 4) = true ∧ s.resetOk (4 + 1 * 2 ^ 4) = true ∧ s.resets = []
    ∧ (0 : StackId).val ∈ s.resetStacks (4 + 1 * 2 ^ 4) ∧ s.stepState 0 = mCOMMITTING := ⟨started0.setFld F.markerStateStepState 0 0 4, by decide +kernel⟩
/-- A reset request. -/
def reset0 (d : Fin 6) (active : Bool) : ResetReq := ⟨d, 15, 1, 0, active, 0, false, 0⟩
theorem witness_resetPhases : State.resetDeferred { started0 with resets := [reset0 4 false] } (reset0 4 false) = false ∧ (reset0 5 true).domain.val = domBASE ∧ (reset0 2 true).domain.val = domWARM
    ∧ (reset0 5 true).drained = false := by decide +kernel
theorem witness_startup : State.reset.proctor.powered = false ∧ ∃ s : State, s.proctor.powered = true ∧ s.proctor.recovery = false ∧ s.started = false ∧ s.fld F.proctorResetStatusWarm = 0 :=
  ⟨by decide, { State.reset with proctor := { Proctor.init with powered := true } }.setFld F.proctorStartupPhase 0 0 1, by decide +kernel⟩
/-- Queue 0 has taken a LOAD or ACTIVATE of an image at `a`. -/
def sylState (opc : Nat) (a : Word) (l : List Image) : State :=
  { started0 with queues := [(0, { Queue.init with taken := [⟨0, 0, 0, ⟨BitVec.ofNat 32 opc, 7, 0, 0, [a, 4096, 1000, 0, 0, 0], []⟩, false⟩] })], images := l }
/-- That command. -/
def sylCmd (opc : Nat) (a : Word) : Taken := ⟨0, 0, 0, ⟨BitVec.ofNat 32 opc, 7, 0, 0, [a, 4096, 1000, 0, 0, 0], []⟩, false⟩
/-- An image of that place. -/
def image0 : Image := ⟨0x40000000, 4096, 5, 0⟩
theorem witness_badLoad : (sylState 0x10 0x40000020 []).sylTurn 0 opLOAD = some (sylCmd 0x10 0x40000020) ∧ (sylCmd 0x10 0x40000020).src % 128 ≠ 0
    ∧ (sylState 0x10 0x40000000 []).sylTurn 0 opLOAD = some (sylCmd 0x10 0x40000000) ∧ (sylCmd 0x10 0x40000000).src % 128 = 0 ∧ regionOf (sylCmd 0x10 0x40000000).src = .hbm
    ∧ (sylState 0x10 0x40000000 []).rangeInRegion 0 0x40000000 4096 = true
    ∧ (((sylState 0x10 0x40000000 []).dropTaken 0 (sylCmd 0x10 0x40000000)).loadStatus ⟨0x40000000, 4096, 0, 0⟩ 0).1 ≠ 0 := by decide +kernel
theorem witness_activate : (sylState 0x11 0x40000000 [image0]).sylTurn 0 opACTIVATE = some (sylCmd 0x11 0x40000000)
    ∧ (sylState 0x11 0x40000000 [image0]).images.find? (fun i => i.src == (sylCmd 0x11 0x40000000).src && i.len == (sylCmd 0x11 0x40000000).len) = some image0
    ∧ ((sylState 0x11 0x40000000 [image0]).dropTaken 0 (sylCmd 0x11 0x40000000)).scopeOk image0 = true
    ∧ (sylState 0x11 0x40000000 []).images.find? (fun i => i.src == (sylCmd 0x11 0x40000000).src && i.len == (sylCmd 0x11 0x40000000).len) = none := by decide +kernel
/-- An activation in phase `k`. -/
def act0 (k : Fin 3) : Activation := ⟨0, 0, 0, 7, image0, 0, k, []⟩
theorem witness_activation : State.activation { started0 with activation := some (act0 2) } = some (act0 2) ∧ State.activateReady { started0 with activation := some (act0 0) } image0 = true := by decide +kernel
theorem witness_keys : ∃ s t : State, s.keyTurn = some ⟨3, 1, 5, 0, 0⟩ ∧ t.keyTurn = some ⟨3, 2, 0, 0, 0⟩ ∧ t.fld F.secKeyState 0 3 = keyACTIVE :=
  ⟨{ started0 with proctor := { started0.proctor with keyCmds := [⟨3, 1, 5, 0, 0⟩] } },
   { started0 with proctor := { started0.proctor with keyCmds := [⟨3, 2, 0, 0, 0⟩] } }.setFld F.secKeyState 0 3 1, by decide +kernel⟩
/-- A module with an SPDM session over DOE of host port 0. -/
def sessionState (f : Bool) : State := upState { started0 with proctor := { started0.proctor with sessions := [⟨.doe 0, f⟩] } }
theorem witness_spdm : (sessionState false).spdmOpen (.doe 0) = true ∧ (sessionState false).responds (.doe 0) = true ∧ (sessionState false).spdmSession (.doe 0) = some ⟨.doe 0, false⟩
    ∧ (sessionState true).secured (.doe 0) = true ∧ (portIn 2 { FPort.init with session := .required }).spdmOpen (.link 0) = true := by decide +kernel
theorem witness_ide : (sessionState true).hostLink 0 = hUP ∧ (sessionState true).fld F.hostStatusIde 0 = 0 ∧ (sessionState true).fld F.secPolicyHostIde = 0
    ∧ ((sessionState true).setFld F.hostStatusIde 0 0 1).fld F.hostStatusIde 0 = 1 := by decide +kernel
/-- A module whose management port has an address, with an update in progress. -/
def mgmtState (w : Option FwUpdate) : State := { started0 with proctor := { started0.proctor with update := w } }.setFld F.proctorI3cDynAddr 0 0 9
theorem witness_management : (mgmtState none).i3cUp = true ∧ (mgmtState none).proctor.recovery = false ∧ (mgmtState none).proctor.powered = true
    ∧ (mgmtState none).insecure true = (mgmtState none).insecure false ∧ ((mgmtState none).setFld F.secPolicyMgmtSecure 0 0 0).insecure false = false ∧ ((mgmtState none).setFld F.secPolicyMgmtSecure 0 0 0).insecure true = false
    ∧ (mgmtState none).writable .i3c ⟨.powerHostLimit, 3, 0, 0⟩ 64 = true ∧ (mgmtState none).proctor.update = none
    ∧ (mgmtState (some ⟨[1], true, true, false⟩)).proctor.update = some ⟨[1], true, true, false⟩
    ∧ ((mgmtState (some ⟨[1], true, true, false⟩)).setFld F.secPolicyMgmtSecure 0 0 1).insecure false = true ∧ ((mgmtState (some ⟨[1], true, true, true⟩)).setFld F.secPolicyMgmtSecure 0 0 0).insecure true = false := by decide +kernel
theorem witness_diary : ∃ s : State, s.proctor.eventsToSend = []  ∧ s.proctor.diaryQ = [⟨0, 1, 2, 3, 4⟩] ∧ s.proctor.diaryGap = 0 ∧ s.proctor.batchCount ≠ 0
    ∧ s.proctor.closed = [(0, 256, 9)] :=
  ⟨{ State.reset with proctor := { Proctor.init with diaryQ := [⟨0, 1, 2, 3, 4⟩], batchCount := 1, closed := [(0, 256, 9)] } }, by decide +kernel⟩
/-- A MGMT request to seat 0. -/
def mgmt0 : Frame := ⟨7, 9, 0, false, 0, 1, List.replicate 32 0, 0⟩
theorem witness_mgmtFrame : mgmt0.dest.toNat = (joined Corridor.init).seat ∧ (mgmt0.payload.drop 2).take 1 = [0] ∧ (joined Corridor.init).seatValid = true := by decide +kernel

/-! ## Collectives and scans -/

/-- The record of an ALL_GATHER of two ranks, seats 0 and 1, with two units, at collective 0 of stack 0. -/
def collState (l : List Instance') : State :=
  ({ fabric0 with mem := [(0x40000000, 0x81), (0x40000004, 2), (0x40000006, 1), (0x40000009, 0x10), (0x4000000B, 0x40), (0x40000010, 2), (0x4000002B, 0x60),
      (0x40000033, 0x70), (0x40001002, 1)], assemblies := [(0, { Assembly.init with insts := l })] }.setReg .assemblyCollTable 0 0 0x40000000).setReg .assemblyCollCount 0 0 1
/-- That record as the model reads it. -/
def coll0 : Coll := ⟨1, 0, false, true, 0, 0, false, false, 0, 2, 1, 0x40001000, 2, 0, 0, 0x60000000, 0x70000000⟩
/-- An instance of it at rank 0 whose range 0 is final. -/
def inst0 (f : Option (BitVec 4)) : Instance' := ⟨0, 3, true, none, some 0, [0], [], [0], [], [], [], LxValue.zero, 0, f, false⟩
/-- A DATA packet of it. -/
def packet0 : CollPkt := ⟨0, 1, 5, 15, 0, 3, 1, 0, 2, 0, List.replicate 256 9, false⟩
/-- A scan of one entry of all zeros but its first bytes. -/
def badScan : State := ({ marking mSCANNING Marker.init with mem := [(0x40000008, 1)] }.setReg .psdTable 0 0 0x40000000).setReg .psdEntries 0 0 1
/-- A scan of no entry, with the norm expected. -/
def emptyScan : State := (marking mSCANNING Marker.init).setFld F.assemblyNormExpect 0 0 1
/-- The state in which a scan judges its entries (R237). -/
def scanView (s : State) : State × List Psd :=
  let t := (s.markerReads 0 [(s.reg .psdTable 0, 64 * s.reg .psdEntries 0)]).1
  (((t.markerReads 0 (t.hpRuns 0 (t.scanPsd 0))).1).countPsd 0 (t.scanPsd 0), t.scanPsd 0)
theorem witness_scanBad : badScan.noWaits = true ∧ badScan.stepState 0 = mSCANNING ∧ (badScan.marker 0).chunkWait = [] ∧ (badScan.marker 0).qWait = []
    ∧ (List.range (badScan.reg .psdEntries 0)).find? ((scanView badScan).1.entryFails 0) = some 0 := by decide +kernel
theorem witness_scanOpens : emptyScan.noWaits = true ∧ emptyScan.stepState 0 = mSCANNING ∧ emptyScan.reg .psdEntries 0 = 0 ∧ (scanView emptyScan).2 = []
    ∧ (emptyScan.marker 0).chunkWait = [] ∧ (emptyScan.marker 0).qWait = [] ∧ emptyScan.fld F.assemblyNormExpect 0 ≠ 0 := by decide +kernel
/-- A stage whose descriptor 0 is OUT to the Assembly engine. -/
def stageA : Stage := { stage0 with sdesc := [(0, 0x1049)] }
theorem witness_accept : ∃ s s0 : State, s0 = s.takeReleases 0 ∧ (s0.core 0).stage = some stageA ∧ stageA.loading = false ∧ (stageA.stream 0).valid = true
    ∧ (stageA.stream 0).dir = dirOut ∧ (stageA.stream 0).target = 2 ∧ ((s0.core 0).dyn 0).state = 1 ∧ ((s0.core 0).dyn 0).outPend = [0]
    ∧ 0 < ((s0.core 0).dyn 0).runStart + ((s0.core 0).dyn 0).count
    ∧ (s0.handBuffer (stackOfCore 0) 0 stageA (stageA.stream 0) 0 0 0).isSome = true :=
  ⟨{ collState [] with cores := [(0, { streamCore { armed0 with base := 0, outPend := [0] } with stage := some stageA })] }, _, rfl, by decide +kernel⟩
theorem witness_packet : (collState []).offline 0 = false ∧ (collState []).coll 0 0 = some coll0 ∧ coll0.uses .data = true ∧ packet0.offset.toNat < coll0.ranges
    ∧ packet0.dlen = 15 ∧ (collState []).hallwayDown 0 0 = false ∧ (((collState []).countHallway 0 0 256).beginInst 0 0 coll0 3 false).2 = .ok ∧ coll0.uses .reduce = false := by decide +kernel
/-- A REDUCE packet of the same collective as an ALL_REDUCE meets its check at `E` 0. -/
theorem witness_checkE : ∃ s : State, (s.checkE 0 0 3 0).2 = true := ⟨((collState []).beginInst 0 0 coll0 3 false).1, by decide +kernel⟩
theorem witness_refusedPacket : (State.setFld (collState []) F.tutorSylStateActivating 0 0 1).offline 0 = true ∧ fabric0.offline 0 = false ∧ fabric0.coll 0 0 = none
    ∧ (State.setFld fabric0 F.hallwayStateLink 0 0 2).hallwayDown 0 1 = true := by decide +kernel
theorem witness_packetSend : ∃ s : State, s.noWaits = true ∧ s.coll 0 0 = some coll0
    ∧ (let q := s.packetData 0 coll0 (inst0 none) 0 .data; let m := q.1.makePacket coll0 (inst0 none) 0 0 0 .data (s.member coll0 1).1 (s.member coll0 1).2 q.2.1 q.2.2
       m.dst.toNat = 1 ∧ m.offset.toNat = 0)
    ∧ (s.assembly 0).insts.find? (fun i => i.coll == 0 && i.failed.isNone && !i.complete && !(i.unsent coll0 0).isEmpty) = some (inst0 none)
    ∧ s.freeTid 0 = some 0 ∧ (inst0 none).unsent coll0 0 = [(1, .data, true)] ∧ s.member coll0 1 = (1, 0) ∧ s.seat = 0 ∧ s.seatValid = true
    ∧ (portList coll0.ports)[0 % (portList coll0.ports).length]? = some 0 ∧ (s.coverEntry (s.partOf 0) 1 (fun e => bitOf e 1)).any (fun e => bitOf (winPorts e) 0) = true
    ∧ s.link 0 = lUP ∧ s.hallwayDown 0 (stackOfPort 0) = false := ⟨collState [inst0 none], by decide +kernel⟩
theorem witness_instanceEnd : ∃ s : State, s.noWaits = true ∧ s.hallwayDown 0 (addrStack coll0.doneAddr) = false ∧ s.hallwayDown 0 (addrStack (coll0.half 3)) = false ∧ (s.assembly 0).packetWait = [] ∧ (s.assembly 0).normWait = []
    ∧ (List.range 512).all (fun j => !s.discards (coll0.half 3 + j)) = true ∧ s.coll 0 0 = some coll0 ∧ coll0.kind ≠ kNE
    ∧ (s.assembly 0).insts.find? (fun i => i.coll == 0 && !i.complete && (i.failed.isSome || i.finished coll0)) = some (inst0 (some 15))
    ∧ coll0.doneAddr % 8 = 0 ∧ s.discards coll0.doneAddr = false ∧ coll0.half 3 + coll0.ranges * 256 ≤ coll0.doneAddr :=
  ⟨collState [inst0 (some 15)], by decide +kernel⟩

/-! ## Numbers -/

theorem witness_deposit : ∀ p ∈ [(⟨3, -320, 22⟩ : Piece), ⟨-5, 0, 22⟩], -320 ≤ p.q ∧ p.w ≤ 22 := by decide
theorem test_dot : (dotInto Acc.zero 3 3 [0x38, 0x40] [0x38, 0x38]).acc.value = 3 * 2 ^ 320 := by decide +kernel

/-- An image of one stack with the three sections it must have, as it lies in memory. -/
def imageBytes : List Host.Cell :=
  [(0x40000000, 0x4C), (0x40000001, 0x4C), (0x40000002, 0x59), (0x40000003, 0x53), (0x40000004, 1), (0x40000009, 0x10), (0x4000000B, 0x44), (0x40000011, 0x10),
   (0x40000024, 1), (0x40000028, 3), (0x4000002C, 1), (0x40000031, 0xFF), (0x40000032, 0xFF), (0x40000033, 0xFF),
   (0x40000100, 1), (0x40000105, 1), (0x40000108, 0x80), (0x40000109, 1), (0x40000111, 2),
   (0x40000120, 0xE), (0x40000124, 1), (0x40000128, 0x80), (0x40000129, 3), (0x40000131, 1),
   (0x40000140, 4), (0x40000142, 0xFF), (0x40000148, 0x80), (0x40000149, 4),
   (0x40000383, 0x50), (0x40000398, 0xFF), (0x40000399, 3), (0x400003A3, 0x55), (0x400003B3, 0x51), (0x400003BB, 0x56), (0x400003E3, 0x52), (0x400003E8, 0x40), (0x400003EC, 100), (0x400003F3, 0x53), (0x400003FB, 0x54)]
/-- That image. -/
def image1 : Image := ⟨0x40000000, 4096, 0, 0⟩
/-- A module whose stack 0 is partition 0 and whose key slot 0 is ACTIVE; queue 0 has taken a LOAD of the image. -/
def loadState : State :=
  (((({ sylState 0x10 0x40000000 [] with mem := imageBytes }.setFld F.tutorSylStatePart 1 0 1).setFld F.tutorSylStatePart 2 0 2).setFld F.tutorSylStatePart 3 0 3).setFld
    F.secKeyState 0 0 1).setFld F.secKeyParts 0 0 1
/-- The state that LOAD checks the image in. -/
def checkState : State := loadState.dropTaken 0 (sylCmd 0x10 0x40000000)
theorem witness_load1 : loadState.sylTurn 0 opLOAD = some (sylCmd 0x10 0x40000000) ∧ loadState.rangeInRegion 0 0x40000000 4096 = true ∧ loadState.fld F.queueConfigPart 0 0 = 0 := by decide +kernel
theorem witness_layout : checkState.layoutOk image1 = true := by decide +kernel
theorem witness_sections : checkState.badSection image1 = none := by decide +kernel
theorem witness_policy : (checkState.im image1 8 4 != checkState.reg .proctorDeviceId) = false ∧ checkState.policyOk image1 = true
    ∧ (checkState.scopeOk image1 && (checkState.replaced image1).elem 0) = true ∧ checkState.imKey image1 = 0 ∧ (checkState.keyState 0 != 0) = true := by decide +kernel
theorem witness_scope : checkState.scopeOk image1 = true ∧ 0 ∈ checkState.replaced image1 := by decide +kernel
/-- The image passes every check of LOAD wherever its signature verifies, which the opaque curve arithmetic decides. -/
theorem witness_goodLoad (h : Config.ecdsaVerify (checkState.keyOf 0) (checkState.imDigest image1) (BitVec.ofNat 384 (checkState.im image1 (image1.len - 112) 48))
    (BitVec.ofNat 384 (checkState.im image1 (image1.len - 64) 48)) = true) : checkState.loadStatus image1 0 = (0, 0, 0) := by
  have hs : checkState.signatureOk image1 = true := by
    simp [State.signatureOk, witness_policy.2.2.2.1, witness_policy.2.2.2.2, h]
  simp [State.loadStatus, witness_layout, witness_policy.1, hs, witness_policy.2.1, witness_scope.1, witness_scope.2, witness_sections]
/-- A diagnostic write of core 3's window changes its store, and none happens while a stage runs there (R87). -/
theorem test_window : ((State.reset.windowStore (coreWindow 3 0x20) [7, 8]).map (fun s => s.bytes (coreStoreKey (s.physCore 3) 0x20) 2)) = some [7, 8]
    ∧ State.windowStore { State.reset with cores := [(3, { Core.init with stage := some stage0 })] } (coreWindow 3 0x20) [7, 8] = none := by decide +kernel

/-! ## Registers by access code, and halves -/

theorem witness_memWf : State.reset.memWf = true ∧ ∃ t, step { State.reset with pending := [.flush 0] } = .next t := ⟨by decide, _, rfl⟩
/-- HOST.LINK_HOLD of port 0, and POWER.CAP's neighbour in MODULE scope. -/
def holdPlace : Place := ⟨.hostLinkHold, 0, 0, 0⟩
theorem witness_plainWrite : RegName.isPlain .hostLinkHold = true ∧ (RegName.desc .hostLinkHold).width ≤ 64 ∧ placeAt holdPlace.addr = some holdPlace
    ∧ aligned holdPlace.addr 4 = true ∧ (upState started0).reachesReg .h0 .hostLinkHold 0 0 60000 = true ∧ (upState started0).allTake .hostLinkHold 60000 = true
    ∧ (upState started0).allTake .hostLinkHold 0 = false := by decide +kernel
/-- QUEUE.SQ_BASE's like in the Corridor: MARKER.SLIP, 64 bits, of stack 0. -/
def slipPlace : Place := ⟨.markerSlip, 0, 0, 0⟩
theorem witness_plainLogged : (started0.diaryWants .proctor ⟨.fabricNotifyBase, 0, 0, 0⟩ 0 = false) ∧ started0.diaryWants .i3c ⟨.secSylMinSvn, 0, 0, 0⟩ 5 = true
    ∧ RegName.isPlain .secSylMinSvn = true ∧ started0.reachesReg .i3c .secSylMinSvn 0 0 5 = true ∧ started0.proctor.diaryQ.length < 64 := by decide +kernel
theorem witness_halves : slipPlace.wide = true ∧ placeAt slipPlace.addr = some slipPlace ∧ placeAt (slipPlace.addr + 4) = some ⟨.markerSlip, 0, 0, 1⟩
    ∧ aligned slipPlace.addr 8 = true ∧ started0.reachesReg (.tutor 0) .markerSlip 0 0 0xFFFFFFFF = true ∧ started0.dropHalf (.tutor 0) = started0
    ∧ started0.heldHalf (.tutor 0) slipPlace.addr = none
    ∧ State.heldHalf { started0 with halves := [(requesterCode (.tutor 0), (slipPlace.addr, 7))] } (.tutor 0) slipPlace.addr = some 7 := by decide +kernel
theorem witness_rcRead : (RegName.desc .corridorCrcErrors).width = 32 ∧ placeAt (Place.addr ⟨.corridorCrcErrors, 0, 0, 0⟩) = some ⟨.corridorCrcErrors, 0, 0, 0⟩
    ∧ started0.pathOpen .proctor = true ∧ started0.readable .proctor ⟨.corridorCrcErrors, 0, 0, 0⟩ = true := by decide +kernel

/-! ## Bells, records and copies -/

/-- Thread 0 of core 0 waits at group 5 for x3. -/
def bellWaiter : State := { withBell { bellA with arrivals := [(0, 0, 3)] } with
  cores := [(0, { core0 with threads := [(0, { thread0 with state := .waitBell, waitBell := some (5, 3) })] })] }
theorem witness_bellWakes : (bellRec (bellWaiter.bell 5).record).valid = true ∧ (bellRec (bellWaiter.bell 5).record).level ≤ 2 ∧ (bellWaiter.bell 5).complete = true
    ∧ ((bellWaiter.core 0).thread 0).state = .waitBell ∧ ((bellWaiter.core 0).thread 0).waitBell = some (5, 3) := by decide +kernel
theorem witness_bellJob : Issues (seated 1 bellJ) ⟨0, 0⟩ (bundleOf (at0 true) (.bell 5 3)) stage0 thread0 ∧ (((seated 1 bellJ).judged ⟨0, 0⟩).core 0).fenceClear stage0 0 = true
    ∧ (bellRec ((seated 1 bellJ).bell 5).record).level = 3 := by refine ⟨?_, by decide +kernel, by decide +kernel⟩; constructor <;> decide +kernel
theorem witness_bellStops : ∃ s : State, (bellRec (s.bell 5).record).valid = true ∧ (bellRec (s.bell 5).record).level ≤ 2 ∧ (bellRec (s.bell 5).record).timeoutUs ≠ 0
    ∧ (s.bell 5).complete = false ∧ ((0, 0, 3) : CoreId × Fin 16 × Fin 32) ∈ (s.bell 5).arrivals ∧ (s.cluster (clusterOfCore 0)).run = some 4 ∧ s.lesson 4 = some lesson0 :=
  ⟨{ inLesson lesson0 running0 with bells := [(5, { Bell.init with record := bell0 1 3 0, arrivals := [(0, 0, 3)] })] }, by decide +kernel⟩
theorem witness_record : ∃ s : State, ∃ l : Lesson, s.lesson 4 = some l ∧ l.cause = none ∧ l.parts.all (fun p => p.2 == .ended) = true ∧ s.reportsFor 4 = false
    ∧ l.fits = true ∧ l.lost = false ∧ s.now < 2 ^ 64 ∧ s.holdsNext l.queue l.generation = true :=
  ⟨inLesson { lesson0 with parts := [(0, .ended)], fault := some ⟨3, 15, 7, 15, 0x0B, 0xFFFF0, 7⟩ } Cluster.init,
   { lesson0 with parts := [(0, .ended)], fault := some ⟨3, 15, 7, 15, 0x0B, 0xFFFF0, 7⟩ }, by decide +kernel⟩
theorem witness_coalesceCount : ∃ s : State, s.holdRing.find? (fun h => h.ring == .queue 0 && !h.written) = some ⟨.queue 0, 0, List.replicate 64 1, false⟩ ∧ s.ringState (.queue 0) = qACTIVE
    ∧ s.portOpen (s.ringPort (.queue 0)) = true ∧ idxDiff (s.ringTail (.queue 0)) (s.ringHead (.queue 0)) ≠ s.ringSize (.queue 0)
    ∧ s.fld F.queueCoalesceCount 0 0 = 1 ∧ (s.queue 0).unsignalled = 0 :=
  ⟨(hostState { State.reset with holdRing := [⟨.queue 0, 0, List.replicate 64 1, false⟩] }).setFld F.queueCoalesceCount 0 0 1, by decide +kernel⟩
theorem witness_placeRefused : ∃ s : State, s.takenFirst 0 [opPLACE, opEXPORT] = some (placeCmd 31) ∧ (placeCmd 31).entry.opc = opPLACE ∧ (s.queue 0).copies = []
    ∧ bits ((placeCmd 31).entry.arg 0) 8 22 % 32 ≠ 0 := ⟨copyState (placeCmd 31), by decide +kernel⟩

/-! ## Gathers, engines and values -/

/-- A SCAT ADD of INT32 rows. -/
def scatAdd0 : EngOp := { eng0 (.eng .scat (ef 0x008)) with tA := 0x100001, tB := 0x100000 }
/-- A sector of it. -/
def addSector : GSector := ⟨0, 0, 0x40000000, List.replicate 32 0xFF, true⟩
theorem witness_scatAdd : scatAdd0.op = .eng .scat (ef 0x008) ∧ scatAdds (ef 0x008) = true ∧ addSize (scatAdd0.srcB stageG).d.fmt = some 4 ∧ State.reset.noWaits = true
    ∧ addSector.addr % 32 = 0 ∧ addSector.data.length = 32 ∧ State.reset.discards addSector.addr = false := by decide +kernel
theorem test_scatAdd : (State.reset.sectorDone 0 stageG scatAdd0 addSector).num 0x40000004 4 = 0xFFFFFFFF := by decide +kernel
theorem witness_vectorWrites : ∃ s : State, (s.core 0).stage = some (stageOf 0x40) ∧ (s.core 0).vecRun = [eng0 (.eng .vcvt (ef 0))] ∧ ((eng0 (.eng .vcvt (ef 0))).dst (stageOf 0x40)).d.saxis = 0
    ∧ ((eng0 (.eng .vcvt (ef 0))).dst (stageOf 0x40)).d.fmt ≤ 0xC ∧ 0 < ((eng0 (.eng .vcvt (ef 0))).dst (stageOf 0x40)).rows
    ∧ 31 < ((eng0 (.eng .vcvt (ef 0))).dst (stageOf 0x40)).cols := ⟨withCore { coreOn 0x40 with vecRun := [eng0 (.eng .vcvt (ef 0))] }, by decide +kernel⟩
/-- The magnitude 3. -/
def three : Mag := .rat 3 1 0
theorem witness_conversions : floatFmt 3 = some ⟨4, 3, 7, 8, 14, false, some 0x7F⟩ ∧ three.proper = true ∧ intWidth 8 = some 8 ∧ decodeElem 3 0 0x7E ≠ .nan
    ∧ signed 8 0x7F ≠ -2 ^ 7 ∧ mayBeScaled 3 = true ∧ maxMag [.num false three, .zero true] = some three ∧ (Val.num false three).proper = true := by decide
theorem witness_scaleRow : ∀ v ∈ [Val.num false three, Val.zero true], v.toRat ≠ none := by
  intro v hv
  simp only [List.mem_cons, List.not_mem_nil, or_false] at hv
  rcases hv with rfl | rfl <;> simp [Val.toRat, three]
theorem witness_exact : ∃ x, (decodeElem 3 0 0x7E).toRat = some x := ⟨_, rfl⟩
theorem witness_arith : ∃ x y z : Rat, (Val.num false three).toRat = some x ∧ (Val.num true three).toRat = some y ∧ (Val.zero false).toRat = some z := ⟨_, _, _, rfl, rfl, rfl⟩
/-- The words of an image of zeros are 0. -/
theorem zero_words (k lo n : Nat) : imgNum (List.replicate k 0) lo n = 0 := by
  have h : ∀ m : Nat, ofBytes (List.replicate m (0#8)) = 0 := by
    intro m
    induction m with
    | zero => rfl
    | succ m ih => rw [List.replicate_succ, ofBytes, ih]; rfl
  show ofBytes (((List.replicate k 0#8).drop lo).take n) = 0
  rw [List.drop_replicate, List.take_replicate, h]
theorem zero_one : decodeFp32 0 = .zero false := by decide
theorem witness_uniformTable : tableOk (List.replicate 8256 0) = true ∧ (tableHdr (List.replicate 8256 0)).mode = 0 := by
  have hz : tableHdr (List.replicate 8256 0) = ⟨0, 0, 0, 0, 0⟩ := by unfold tableHdr; simp only [zero_words]; decide
  refine ⟨?_, by rw [hz]⟩
  unfold tableOk
  rw [hz]
  simp only [zero_words, List.length_replicate, fp32Special, fp32Nan, zero_one]
  have h : (List.range 2048).all (fun _ => !Val.special (.zero false)) = true := List.all_eq_true.mpr (fun _ _ => rfl)
  rw [h]
  decide
/-- An exponent table of zeros. -/
theorem one_word (k lo n : Nat) (h : 0 < lo) : imgNum (1 :: List.replicate k 0) lo n = 0 := by
  obtain ⟨m, rfl⟩ : ∃ m, lo = m + 1 := ⟨lo - 1, by omega⟩
  exact zero_words k m n
theorem witness_exponentTable : tableOk (1 :: List.replicate 8255 0) = true ∧ (tableHdr (1 :: List.replicate 8255 0)).mode = 1 ∧ (Val.num false three).proper = true := by
  have h0 : imgNum (1 :: List.replicate 8255 0) 0 1 = 1 := rfl
  have hz : tableHdr (1 :: List.replicate 8255 0) = ⟨1, 0, 0, 0, 0⟩ := by
    unfold tableHdr; rw [h0, one_word _ 1 _ (by decide), one_word _ 4 _ (by decide), one_word _ 6 _ (by decide), one_word _ 12 _ (by decide)]; decide
  refine ⟨?_, by rw [hz], rfl⟩
  have h : (List.range 2048).all (fun i => !Val.special (decodeFp32 (imgNum (1 :: List.replicate 8255 0) (64 + 4 * i) 4))) = true := by
    refine List.all_eq_true.mpr (fun i _ => ?_)
    rw [one_word _ _ _ (by omega)]; decide
  unfold tableOk
  simp only [hz, h0, one_word, Nat.ofNat_pos, List.length_cons, List.length_replicate, fp32Special, fp32Nan, zero_one, List.all_cons, List.all_nil]
  rw [h]
  decide
theorem witness_rowRepair : ((State.reset.setSlice 0 { State.reset.slice 0 with rowHits := [(7, 5), (7, 6)] }).slice 0).rowRepair = none
    ∧ State.rowDue (State.reset.setSlice 0 { State.reset.slice 0 with rowHits := [(7, 5), (7, 6)] }) 0 7 = true := by decide +kernel

/-! ## Encodings and what rows do -/

/-- The worked example of R107: ADDI x5, x5, 1 beside MMA t2, t3, SROW 0, MROWS 31, INIT, K 8,192. -/
theorem test_example_bundle : decodeBundle (0x502307C007F80000 * 2 ^ 64 + 0x40A5000000010002)
    = some (.aluImm .add 5 5 1, some (.mma ⟨2, 3, 0, 31, false, false, false, 255⟩)) := by decide +kernel
theorem test_word_branch : decodeSlot (0x31 * 2 ^ 54 + 2 * 2 ^ 44 + 3 * 2 ^ 39 + 0xFFFFF * 2 ^ 19) = some (.branch .ne 2 3 0xFFFFF) := by decide
theorem test_word_trap : decodeSlot (0x3A * 2 ^ 54 + 7 * 2 ^ 12) = some (.trap 7) := by decide
theorem test_add_wraps : after (.add (at0 false) 1 2 3) { state0 with cores := [(0, { core0 with threads := [(0, { thread0 with x := [(2, 0xFFFFFFFFFFFFFFFF), (3, 2)] })] })] }
    (fun u => (u.threadAt ⟨0, 0⟩).rx 1) = some 1 := by decide +kernel
theorem test_add_x0 : after (.add (at0 false) 0 2 3) state0 (fun u => ((u.threadAt ⟨0, 0⟩).rx 0, (u.threadAt ⟨0, 0⟩).pc)) = some (0, 48) := by decide +kernel
theorem test_sub_same : after (.sub (at0 true) 2 3 2) state0 (fun u => (u.threadAt ⟨0, 0⟩).rx 2) = some 2 := by decide +kernel
/-- A thread whose x2 is negative. -/
def negative : State := withCore { core0 with threads := [(0, { thread0 with x := [(2, 0xFFFFFFFFFFFFFFF0), (3, 68)] })] }
theorem test_sra : after (.sra (at0 false) 1 2 3) negative (fun u => (u.threadAt ⟨0, 0⟩).rx 1) = some 0xFFFFFFFFFFFFFFFF := by decide +kernel
theorem test_shr : after (.shr (at0 false) 1 2 3) negative (fun u => (u.threadAt ⟨0, 0⟩).rx 1) = some 0x0FFFFFFFFFFFFFFF := by decide +kernel
theorem test_mulhu : after (.mulhu (at0 false) 1 2 3) negative (fun u => (u.threadAt ⟨0, 0⟩).rx 1) = some 67 := by decide +kernel
theorem test_min : after (.min (at0 false) 1 3 2) negative (fun u => (u.threadAt ⟨0, 0⟩).rx 1) = some 0xFFFFFFFFFFFFFFF0 := by decide +kernel
theorem test_slt_sltu : after (.slt (at0 false) 1 2 3) negative (fun u => (u.threadAt ⟨0, 0⟩).rx 1) = some 1
    ∧ after (.sltu (at0 false) 1 2 3) negative (fun u => (u.threadAt ⟨0, 0⟩).rx 1) = some 0 := by decide +kernel
theorem test_addi_sign : after (.addi (at0 false) 1 2 0xFFFFFFFF) state0 (fun u => (u.threadAt ⟨0, 0⟩).rx 1) = some 4 := by decide +kernel
theorem test_branch_back : after (.blt (at0 true) 2 3 0xFFFFE) state0 (fun u => (u.threadAt ⟨0, 0⟩).pc) = some 0
    ∧ after (.bge (at0 true) 2 3 0xFFFFE) state0 (fun u => (u.threadAt ⟨0, 0⟩).pc) = some 48 := by decide +kernel
theorem test_branch_out : after (.beq (at0 true) 2 2 0xFFFF0) state0 (fun u => ((u.threadAt ⟨0, 0⟩).state, u.fld F.coreFaultInfoCode 0)) = some (.faulted, 2) := by decide +kernel
theorem test_jal : after (.jal (at0 true) 1 1) state0 (fun u => ((u.threadAt ⟨0, 0⟩).rx 1, (u.threadAt ⟨0, 0⟩).pc)) = some (48, 48) := by decide +kernel
theorem test_store_load : after (.st16 (at0 false) 3 0 0x102) state0 (fun u => (u.storeByte 0 0x102, u.storeByte 0 0x103, u.storeByte 0 0x101)) = some (7, 0, 0) := by decide +kernel
theorem test_slot_fault : after (.ld8u (at0 false) 1 0 0x4000) state0 (fun u => ((u.threadAt ⟨0, 0⟩).state, u.fld F.coreFaultInfoCode 0, u.reg .coreFaultAddr 0)) = some (.faulted, 5, 1) := by decide +kernel
theorem test_tslot_wraps : after (.tslot (at0 false) 1 0 0xFFFFFFFF) state0 (fun u => (u.threadAt ⟨0, 0⟩).rt 1) = some 127 := by decide +kernel
theorem test_csrr_thread : after (.csrr (at0 false) 1 2) state0 (fun u => (u.threadAt ⟨0, 0⟩).rx 1) = some 3 := by decide +kernel
theorem test_halt : after (.halt (at0 true)) state0 (fun u => (u.threadAt ⟨0, 0⟩).state) = some .halted := by decide +kernel
theorem test_stx : after (.stxAccepted 0 0) (state1 false 0x40000008) (fun u => (u.byte 0x40000008, (u.core 0).outst)) = some (9, []) := by decide +kernel
theorem test_sarm : after (.sarm (at0 true) ⟨0, 1, 2, 0x804⟩) (withCore (streamCore StreamDyn.init)) (fun u => (((u.core 0).dyn 0).base, ((u.core 0).dyn 0).count, (u.threadAt ⟨0, 0⟩).rx 1))
    = some (5, 4, 0) := by decide +kernel
theorem test_cap : after (.capWrite .proctor 1) started0 (fun u => u.fld F.powerCapRequestedW) = some 1 ∧ after (.capWrite .proctor 5801) started0 (fun u => u.fld F.powerCapRequestedW)
    = some (started0.fld F.powerCapRequestedW) := by decide +kernel
theorem test_notify_full : after (.storeNotify (.port 0) (req0 0 0x40000000 (List.replicate 8 3))) (notify0 2) (fun u => (u.byte 0x40000007, u.reg .fabricNotifyTail 0, u.fld F.fabricNotifyFullCount 0))
    = some (3, 2, 1) := by decide +kernel
theorem test_cas : after (.cas64 (.port 0) (req0 0 0x40000018 (List.replicate 8 0 ++ List.replicate 8 3))) fabric0 (fun u => u.num 0x40000018 8) = some 0x0303030303030303 := by decide +kernel
theorem test_min64 : after (.min64 (.port 0) (req0 0 0x40000018 (List.replicate 8 0xFF))) fabric0 (fun u => u.num 0x40000018 8) = some 0xFFFFFFFFFFFFFFFF
    ∧ after (.max64 (.port 0) (req0 0 0x40000018 (List.replicate 8 0xFF))) fabric0 (fun u => u.num 0x40000018 8) = some 0 := by decide +kernel
theorem test_reduce_wraps : after (.reduceAdd32 0x40000020 [0xFFFFFFFF, 1] 4) { lineState 0x800000 false [] with mem := [(0x40000020, 2)] } (fun u => (u.num 0x40000020 4, u.num 0x40000024 4)) = some (1, 1) := by decide +kernel
theorem test_reduce_signed : after (.reduceAdd32to64 0x40000020 [0xFFFFFFFF] 4) (lineState 0x800000 false []) (fun u => u.num 0x40000020 8) = some 0xFFFFFFFFFFFFFFFF := by decide +kernel
theorem test_link_loss : after (.hostLinkLoss 0) (upState State.reset) (fun u => (u.hostLink 0, u.reg .hostLinkEpoch 0)) = some (hHELD, (State.reset.reg .hostLinkEpoch 0 + 1) % 2 ^ 32) := by decide +kernel
theorem test_idle_tick : (passTime State.reset).now = 40 := by decide +kernel
/-- A tick of 40 ns is 64 cycles at 1,600 MHz, in which a thread that awaits an LDX is counted once a cycle and no thread is eligible (R117, R418). -/
theorem test_tick_counts : (fun t : State => (t.fld F.coreIssueIdleCount (coreInst 0), t.fld F.coreWaitMemCount (coreInst 0), t.fld F.coreWaitQueueCount (coreInst 0)))
    (passTime ({ inLesson lesson0 running0 with cores := [(0, { Core.init with stage := some (stageL false), threads := [(0, { Thread.init with state := .waitReg })] })] }.setFld
      F.coreClockFmaxMhz (coreInst 0) 0 1600)) = (64, 64, 0) := by decide +kernel
theorem test_core_window : windowCore (coreWindow 511 0x1FFFFF) = some (511, 0x1FFFFF) ∧ coreWindow 0 0 = 0x10100000000 ∧ started0.windowRead (coreWindow 511 128) 2 = some ([0, 0], false) := by decide +kernel

end Sys2Proof.Tests
end

section
/-!
SUPPORT. A bundle that acts on its own thread alone: what it makes of the thread, and what it leaves (R90, R105, R107).
-/
namespace Sys2Proof.Machine

/-- `u` differs from `s` in thread `n` of core `c` and in nothing else. -/
structure ThreadOnly (s u : State) (c : CoreId) (n : Fin 16) : Prop where
  fields : u = { s with cores := u.cores }
  core : ∃ l, u.core c = { s.core c with threads := l }
  threads : ∀ m : Fin 16, m ≠ n → (u.core c).thread m = (s.core c).thread m
  cores : ∀ d : CoreId, d ≠ c → u.core d = s.core d

theorem ThreadOnly.refl (s : State) (c : CoreId) (n : Fin 16) : ThreadOnly s s c n :=
  ⟨rfl, ⟨(s.core c).threads, rfl⟩, fun _ _ => rfl, fun _ _ => rfl⟩

/-- A further change of the thread is a change of the thread. -/
theorem ThreadOnly.onThread {s u : State} {c : CoreId} {n : Fin 16} (h : ThreadOnly s u c n) (f : Thread → Thread) :
    ThreadOnly s (u.onThread c n f) c n where
  fields := by
    have hu := h.fields
    unfold State.onThread State.setCore
    rw [hu]
  core := by
    obtain ⟨l, hl⟩ := h.core
    refine ⟨Tab.set Thread.init (u.core c).threads n (f ((u.core c).thread n)), ?_⟩
    simp only [State.onThread, State.core_setCore_same, Core.setThread, hl]
  threads m hm := by
    rw [State.thread_onThread_other _ _ _ _ _ (fun e => hm (Fin.ext e))]
    exact h.threads m hm
  cores d hd := by rw [State.core_onThread_other _ _ _ _ _ hd]; exact h.cores d hd

section
variable {s u : State} {c : CoreId} {n : Fin 16} (h : ThreadOnly s u c n)
include h

theorem ThreadOnly.mem : u.mem = s.mem := by rw [h.fields]
theorem ThreadOnly.hostMem : u.hostMem = s.hostMem := by rw [h.fields]
theorem ThreadOnly.slate : u.slate = s.slate := by rw [h.fields]
theorem ThreadOnly.poison : u.poison = s.poison := by rw [h.fields]
theorem ThreadOnly.clusters : u.clusters = s.clusters := by rw [h.fields]
theorem ThreadOnly.regs : u.regs = s.regs := by rw [h.fields]
theorem ThreadOnly.cycles : (u.core c).cycles25 = (s.core c).cycles25 := by obtain ⟨l, hl⟩ := h.core; rw [hl]

end

/-- A no-op gives its thread back (R106). -/
theorem effect_nop (s : State) (c : CoreId) (n : Fin 16) (g : Stage) (t0 : Thread) (slotB : Bool) :
    effect s c n g t0 slotB .nop = s.onThread c n id := by
  simp only [effect, Op.nop, Thread.wx_zero]; rfl

theorem opTarget_nop (t : Thread) : opTarget t .nop = none := rfl

/-- The thread that a bundle finds is the one that its core holds. -/
theorem State.thread_of_runnable {s : State} {c : CoreId} {n : Fin 16} {g : Stage} {t : Thread} (h : s.runnable c n = some (g, t)) :
    (s.core c).thread n = t := by
  simp only [State.runnable] at h
  split at h
  · cases h
  · split at h
    · cases h; rfl
    · cases h

/-- In whatever state the bundle has brought its thread to, the operation changes that thread by `f` and nothing else. -/
def ActsOnThread (s : State) (c : CoreId) (n : Fin 16) (g : Stage) (t : Thread) (o : Op) (f : Thread → Thread) : Prop :=
  ∀ (u : State) (slotB : Bool), ThreadOnly s u c n → effect u c n g t slotB o = u.onThread c n f

/-- An operation that acts on its thread issues beside a no-op: the thread moves on, then the operation changes it, and a count of bundles goes up. -/
theorem issued_bundleOf {s : State} {c : CoreId} {n : Fin 16} {g : Stage} {t : Thread} {b : Issue} {o : Op} {f : Thread → Thread}
    (hn : b.other = .nop) (hf : ActsOnThread s c n g t o f) :
    ∃ w : State, ThreadOnly s w c n ∧ issued s c n g t (bundleOf b o) = w.bump F.coreIssueBundlesCount (coreInst c) 0 1
      ∧ (w.core c).thread n = f (advanced t (bundleOf b o) { (s.core c).thread n with state := .ready }) := by
  let s1 := s.onThread c n (fun x => advanced t (bundleOf b o) { x with state := .ready })
  have h1 : ThreadOnly s s1 c n := (ThreadOnly.refl s c n).onThread _
  have e1 : (s1.core c).thread n = advanced t (bundleOf b o) { (s.core c).thread n with state := .ready } := State.thread_onThread_same _ _ _ _
  cases hb : b.slotB with
  | false =>
    refine ⟨(s1.onThread c n f).onThread c n id, (h1.onThread f).onThread id, ?_, ?_⟩
    · have ha : (bundleOf b o).a = o := by simp [bundleOf, hb]
      have hbb : (bundleOf b o).b = .nop := by simp [bundleOf, hb, hn]
      have hl : (bundleOf b o).li = false := by simp [bundleOf, hb]
      simp only [issued, hl, ha, hbb, effect_nop]
      rw [hf _ _ h1]; rfl
    · rw [State.thread_onThread_same, State.thread_onThread_same, e1]; rfl
  | true =>
    refine ⟨(s1.onThread c n id).onThread c n f, (h1.onThread id).onThread f, ?_, ?_⟩
    · have ha : (bundleOf b o).a = .nop := by simp [bundleOf, hb, hn]
      have hbb : (bundleOf b o).b = o := by simp [bundleOf, hb]
      have hl : (bundleOf b o).li = false := by simp [bundleOf, hb]
      simp only [issued, hl, ha, hbb, effect_nop]
      rw [hf _ _ (h1.onThread id)]; rfl
    · rw [State.thread_onThread_same, State.thread_onThread_same, e1]; rfl

/-- A bundle that transfers no control moves its thread to the next bundle (R107). -/
theorem advanced_bundleOf_pc {b : Issue} {o : Op} {t : Thread} (x : Thread) (hn : b.other = .nop) (ho : opTarget t o = none) :
    (advanced t (bundleOf b o) x).pc = t.pc + 16 := by
  cases hb : b.slotB <;> simp [advanced, bundleOf, hb, hn, ho, opTarget_nop]

/-- A row whose operation writes `v` to `rd` and transfers no control is a scalar row (R107, R108). -/
theorem writesScalar_of_acts {i : Instr} {b : Issue} {rd : Fin 32} {o : Op} {v : State → Stage → Thread → Word}
    (row : ∀ s, exec i s = .next (issueBundle s b.at' (bundleOf b o))) (target : ∀ t, opTarget t o = none)
    (acts : ∀ s g t, ActsOnThread (s.judged b.at') b.at'.core b.at'.thread g t o (fun x => x.wx rd (v s g t))) :
    WritesScalar i b rd o v := by
  intro s g t hn hi
  obtain ⟨w, hw, hu, ht⟩ := issued_bundleOf hn (acts s g t)
  refine ⟨_, (row s).trans (congrArg _ ((issueBundle_of_issues hi).trans hu)), ?_⟩
  have hold : (s.core b.at'.core).thread b.at'.thread = t := by
    rw [← State.judged_thread s b.at']; exact State.thread_of_runnable hi.runs
  rw [State.judged_thread, hold] at ht
  have core (d : CoreId) : (w.bump F.coreIssueBundlesCount (coreInst b.at'.core) 0 1).core d = w.core d := rfl
  simp only [core, ht, State.bump_mem, State.bump_hostMem, State.bump_slate, State.bump_poison]
  refine ⟨Thread.rx_wx_same _ _ _, ?_, ?_, ?_, ?_, ?_, ?_, ?_, ?_, ?_, ?_⟩
  · rw [Thread.pc_wx]; exact advanced_bundleOf_pc _ hn (target t)
  · rw [Thread.state_wx]; rfl
  · rw [Thread.t_wx]; rfl
  · exact fun r hr => Thread.rx_wx_other _ _ _ _ hr
  · exact fun m hm => (hw.threads m hm).trans (State.judged_thread _ _ _)
  · exact fun d hd => (hw.cores d hd).trans (State.judged_core_other _ _ _ hd)
  · exact hw.mem.trans (State.judged_mem _ _)
  · exact hw.hostMem.trans (State.judged_hostMem _ _)
  · exact hw.slate.trans (State.judged_slate _ _)
  · exact hw.poison.trans (State.judged_poison _ _)

/-! ## What an operation reads of the state does not depend on its thread -/

section
variable {s u : State} {r : ThreadRef} (h : ThreadOnly (s.judged r) u r.core r.thread)
include h

theorem ThreadOnly.reg_judged (n : RegName) (i j : Nat) : u.reg n i j = s.reg n i j := by
  simp only [State.reg, h.regs, State.judged_regs]
theorem ThreadOnly.fld_judged (f : RegField) (i j : Nat) : u.fld f i j = s.fld f i j := by
  simp only [State.fld, h.reg_judged]
theorem ThreadOnly.physOf_judged (cl k : Nat) : u.physOf cl k = s.physOf cl k := by
  simp only [State.physOf, h.reg_judged]
theorem ThreadOnly.storeNum_judged (c off n : Nat) : u.storeNum c off n = s.num (coreStoreKey (s.physCore c) off) n := by
  simp only [State.storeNum, State.num, State.bytes, State.byte, State.physCore, h.physOf_judged, h.mem, State.judged_mem]
theorem ThreadOnly.now_judged : u.now = s.now := h.reg_judged _ _ _
theorem ThreadOnly.cycles_judged : (u.core r.core).cycles25 = (s.core r.core).cycles25 := by
  obtain ⟨y, o, q, hj⟩ := State.judged_core_same s r
  rw [h.cycles, hj]
theorem ThreadOnly.issueRate_judged (cl : Nat) : u.issueRate cl = s.issueRate cl := by
  have hc : u.cluster cl = s.cluster cl := by simp only [State.cluster, h.clusters, State.judged_clusters]
  rw [State.issueRate, State.issueRate, hc, h.fld_judged]

end

/-- Loads of every size: the bytes of the core store, zero-extended (R108). -/
theorem writesScalar_ld {i : Instr} {b : Issue} (bytes : Nat) (rd ra : Fin 32) (imm : BitVec 32)
    (row : ∀ s, exec i s = .next (issueBundle s b.at' (bundleOf b (.ld bytes rd ra imm)))) :
    WritesScalar i b rd (.ld bytes rd ra imm)
      (fun s _ t => BitVec.ofNat 64 (s.num (coreStoreKey (s.physCore b.at'.core) (t.rx ra + imm.signExtend 64).toNat) bytes)) :=
  writesScalar_of_acts row (fun _ => rfl) (fun s g t u slotB h => by
    simp only [effect, h.storeNum_judged]; rfl)

/-- CSRR of a number that names a system value (R110). -/
theorem writesScalar_csrr (b : Issue) (rd : Fin 32) (imm : BitVec 32) (v : State → Stage → Thread → Word)
    (value : ∀ s g t u, ThreadOnly (s.judged b.at') u b.at'.core b.at'.thread →
      csrValue u b.at'.core b.at'.thread g imm.toNat = some (v s g t)) :
    WritesScalar (.csrr b rd imm) b rd (.csrr rd imm) v :=
  writesScalar_of_acts (fun _ => rfl) (fun _ => rfl) (fun s g t u slotB h => by
    simp only [effect, value s g t u h]; rfl)

/-- Settles O12: each row acts on its thread alone (`writesScalar_of_acts`), and what it reads is what the state before it holds. -/
theorem loadTgetCsrrResults : Obligations.LoadTgetCsrrResults := by
  refine ⟨fun b rd ra imm => writesScalar_ld 1 rd ra imm (fun _ => rfl), fun b rd ra imm => writesScalar_ld 2 rd ra imm (fun _ => rfl),
    fun b rd ra imm => writesScalar_ld 4 rd ra imm (fun _ => rfl), fun b rd ra imm => writesScalar_ld 8 rd ra imm (fun _ => rfl),
    fun b rd ta => writesScalar_of_acts (fun _ => rfl) (fun _ => rfl) (fun _ _ _ _ _ _ => rfl),
    fun b rd => ?place, fun b rd => ?thread, fun b rd => ?step, fun b rd => ?seat, fun b rd => ?cycles, fun b rd => ?time,
    fun b rd => ?fclk, fun b rd => ?fmax, fun b rd => ?rate⟩ <;> refine writesScalar_csrr b rd _ _ (fun s g t u h => ?_)
  case place =>
    exact congrArg (fun k => some (BitVec.ofNat 64 (stackOfCore b.at'.core + clusterOfCore b.at'.core % 16 * 4 + logicalCore b.at'.core * 64 + k * 512)))
      (h.physOf_judged _ _)
  case thread => rfl
  case step => rfl
  case seat => exact congrArg (fun k => some (BitVec.ofNat 64 k)) (h.fld_judged _ _ _)
  case cycles => exact congrArg (fun k => some (BitVec.ofNat 64 (k / 25))) h.cycles_judged
  case time => exact congrArg (fun k => some (BitVec.ofNat 64 k)) (h.reg_judged .corridorTime 0 0)
  case fclk => exact congrArg (fun k => some (BitVec.ofNat 64 k)) (h.fld_judged _ _ _)
  case fmax => exact congrArg (fun k => some (BitVec.ofNat 64 k)) (h.fld_judged _ _ _)
  case rate => exact congrArg (fun k => some (BitVec.ofNat 64 k)) (h.issueRate_judged _)

/-! ## After the last bundle of the instruction store -/

/-- A stage whose program range reaches the end of the instruction store. -/
def fullStage : Stage :=
  { lesson := 0, index := 0, loading := false, coreMask := 1, threadMask := 1, entryPc := 0, progLo := 0, progHi := 0x100000
    args := [], step := 0, tregs := [], tdesc := [], sdesc := [] }
/-- A thread that is READY at the last bundle of the instruction store. -/
def lastThread : Thread := { Thread.init with state := .ready, pc := 0xFFFF0 }
/-- The module after reset, with that thread and stage on core 0. -/
def lastState : State := { State.reset with cores := [(0, { Core.init with stage := some fullStage, threads := [(0, lastThread)] })] }

/-- LI at the last bundle issues: nothing holds it back. -/
theorem lastState_issues_li : Issues lastState ⟨0, 0⟩ (liBundle (.li 1 5)) fullStage lastThread := by constructor <;> decide +kernel

/-- LI at the last bundle leaves its thread past the end of the instruction store (R109). -/
theorem lastState_li_pastEnd {u : State} (h : exec (.li ⟨0, 0⟩ 1 5) lastState = .next u) : (u.threadAt ⟨0, 0⟩).pastEnd = true := by
  have hu : u = issueBundle lastState ⟨0, 0⟩ (liBundle (.li 1 5)) := by injection h with h; exact h.symm
  subst hu
  decide +kernel

/-- Refutes O13: its rows are said to leave the thread with `Thread.goesTo`, so with `pastEnd` false; at the last bundle of the instruction
store, 0xFFFF0, the thread has run past the end (R109), and the model records it. -/
theorem not_storeAndTileRegisterResults : ¬ Obligations.StoreAndTileRegisterResults := by
  rintro ⟨_, _, _, li, _⟩
  obtain ⟨u, hu, hthread, _⟩ := li ⟨0, 0⟩ 1 5 lastState fullStage lastThread lastState_issues_li
  have hpast := lastState_li_pastEnd hu
  rw [hthread] at hpast
  exact absurd hpast (by decide)

end Sys2Proof.Machine
end

section
/-!
SUPPORT. The register map: every register of the tables stands at an address of its own, and every field at bits of its own (R23, R503).
-/
namespace Sys2Proof.Machine

/-! ## Where the rows of one block lie -/

/-- The end of a run of registers, from the start of its copy of the block. -/
def RegDesc.ends (d : RegDesc) : Nat := d.off + (d.count - 1) * d.gap + d.width / 8

/-- Two runs do not meet: one ends before the other begins, or both take turns at one distance. -/
def RegDesc.apart (d e : RegDesc) : Bool :=
  decide (d.ends ≤ e.off) || decide (e.ends ≤ d.off)
    || (decide (0 < d.gap ∧ d.gap = e.gap)
      && (decide (d.off + d.width / 8 ≤ e.off ∧ e.off < d.off + d.gap) || decide (e.off < d.off ∧ d.off + d.width / 8 ≤ e.off + e.gap)))

/-- The registers of one run do not meet, and the first of their 32-bit parts is whole. -/
def RegDesc.run (d : RegDesc) : Bool :=
  decide (4 ≤ d.width / 8) && decide (0 < d.count) && (d.count == 1 || decide (0 < d.gap ∧ d.width / 8 ≤ d.gap))

/-- Whether a run holds an offset, by the place that the offset's distance gives. -/
theorem RegDesc.hit_of_le {d : RegDesc} {r k : Nat} (hle : d.off ≤ r) (hk : (if d.gap = 0 then 0 else (r - d.off) / d.gap) = k) :
    d.hit r = if k < d.count ∧ r - d.off - k * d.gap < d.width / 8 then some (k, (r - d.off - k * d.gap) / 4) else none := by
  subst hk; simp only [RegDesc.hit, if_pos hle]

/-- A run holds the offset of each of its registers. -/
theorem RegDesc.hit_self {d : RegDesc} {j : Nat} (h : d.run = true) (hj : j < d.count) : d.hit (d.off + j * d.gap) = some (j, 0) := by
  simp only [RegDesc.run, Bool.and_eq_true, Bool.or_eq_true, decide_eq_true_eq, beq_iff_eq] at h
  obtain ⟨⟨hw, -⟩, hg⟩ := h
  have hk : (if d.gap = 0 then 0 else (d.off + j * d.gap - d.off) / d.gap) = j := by
    split
    · next h0 => omega
    · next h0 => rw [Nat.add_sub_cancel_left, Nat.mul_div_cancel _ (by omega)]
  have hr : d.off + j * d.gap - d.off - j * d.gap = 0 := by omega
  rw [RegDesc.hit_of_le (Nat.le_add_right _ _) hk, hr, if_pos ⟨hj, by omega⟩]

/-- A run does not hold what lies past its end or before its start. -/
theorem RegDesc.hit_outside {d : RegDesc} {r : Nat} (h : r < d.off ∨ d.ends ≤ r) : d.hit r = none := by
  by_cases hle : d.off ≤ r
  · rw [RegDesc.hit_of_le hle rfl, if_neg]
    rintro ⟨hc, hw⟩
    generalize (if d.gap = 0 then 0 else (r - d.off) / d.gap) = k at hc hw
    have hm : k * d.gap ≤ (d.count - 1) * d.gap := Nat.mul_le_mul_right _ (by omega)
    simp only [RegDesc.ends] at h
    omega
  · simp only [RegDesc.hit, if_neg hle]

/-- A run does not hold the offsets of a run apart from it. -/
theorem RegDesc.hit_apart {d e : RegDesc} {j : Nat} (h : d.apart e = true) (he : e.run = true) (hj : j < e.count) :
    d.hit (e.off + j * e.gap) = none := by
  simp only [RegDesc.run, Bool.and_eq_true, decide_eq_true_eq] at he
  simp only [RegDesc.apart, Bool.or_eq_true, Bool.and_eq_true, decide_eq_true_eq] at h
  have hle : j * e.gap ≤ (e.count - 1) * e.gap := Nat.mul_le_mul_right _ (by omega)
  have inTurn (k x : Nat) (hg : 0 < d.gap) (hoff : e.off + j * e.gap = d.off + k * d.gap + x) (hx : x < d.gap) (hw : d.width / 8 ≤ x) :
      d.hit (e.off + j * e.gap) = none := by
    have hq : (if d.gap = 0 then 0 else (e.off + j * e.gap - d.off) / d.gap) = k := by
      rw [if_neg (by omega), hoff, show d.off + k * d.gap + x - d.off = x + k * d.gap by omega, Nat.add_mul_div_right _ _ hg, Nat.div_eq_of_lt hx, Nat.zero_add]
    rw [RegDesc.hit_of_le (by omega) hq, if_neg (by omega)]
  rcases h with (h | h) | ⟨⟨hg, heq⟩, h | h⟩
  · exact RegDesc.hit_outside (Or.inr (by omega))
  · exact RegDesc.hit_outside (Or.inl (by simp only [RegDesc.ends] at h; omega))
  · exact inTurn j (e.off - d.off) hg (by rw [heq]; omega) (by omega) (by omega)
  · cases j with
    | zero => exact RegDesc.hit_outside (Or.inl (by omega))
    | succ j => exact inTurn j (d.gap - (d.off - e.off)) hg (by rw [heq, Nat.add_mul]; omega) (by omega) (by omega)

/-! ## What the tables keep -/

/-- Two fields share no bit. -/
def FieldDesc.apart (f g : FieldDesc) : Bool := decide (f.lo + f.width ≤ g.lo) || decide (g.lo + g.width ≤ f.lo)

/-- A row of the tables is in order: it is one run inside its copy of the block, apart from every other of its block, and its fields lie inside it, apart from each other. -/
def RegName.inOrder (n : RegName) : Bool :=
  n.block.regs.elem n && n.desc.run && decide (n.desc.ends ≤ n.block.stride)
    && n.block.regs.all (fun m => m == n || m.desc.apart n.desc)
    && n.desc.fields.all (fun f => decide (f.lo + f.width ≤ n.desc.width))
    && decide (n.desc.fields.Pairwise (fun f g => f.apart g = true))

theorem Block.mem_all (b : Block) : b ∈ Block.all := by cases b <;> decide
theorem RegName.mem_regs (n : RegName) : n ∈ n.block.regs := by cases n <;> decide

/-- What a check of every row of every block finds holds of every register. -/
theorem RegName.forall_of_all {p : RegName → Bool} (h : (Block.all.all (fun b => b.regs.all p)) = true) (n : RegName) : p n = true :=
  List.all_eq_true.mp (List.all_eq_true.mp h n.block (Block.mem_all _)) n (RegName.mem_regs n)

/-- Every row of the tables is in order. -/
theorem RegName.inOrder_true (n : RegName) : n.inOrder = true := RegName.forall_of_all (by decide +kernel) n

theorem RegName.desc_run (n : RegName) : n.desc.run = true := by
  have h := n.inOrder_true
  simp only [RegName.inOrder, Bool.and_eq_true] at h
  obtain ⟨⟨⟨⟨⟨_, hrun⟩, _⟩, _⟩, _⟩, _⟩ := h
  exact hrun
theorem RegName.ends_le_stride (n : RegName) : n.desc.ends ≤ n.block.stride := by
  have h := n.inOrder_true
  simp only [RegName.inOrder, Bool.and_eq_true, decide_eq_true_eq] at h
  obtain ⟨⟨⟨⟨_, hends⟩, _⟩, _⟩, _⟩ := h
  exact hends
theorem RegName.desc_apart {n m : RegName} (hm : m ∈ n.block.regs) (h : m ≠ n) : m.desc.apart n.desc = true := by
  have k := n.inOrder_true
  simp only [RegName.inOrder, Bool.and_eq_true, List.all_eq_true, Bool.or_eq_true, beq_iff_eq] at k
  obtain ⟨⟨⟨_, hapart⟩, _⟩, _⟩ := k
  exact (hapart m hm).resolve_left h
/-- A field lies inside its register. -/
theorem RegName.field_le_width {n : RegName} {f : FieldDesc} (hf : f ∈ n.desc.fields) : f.lo + f.width ≤ n.desc.width := by
  have k := n.inOrder_true
  simp only [RegName.inOrder, Bool.and_eq_true, List.all_eq_true, decide_eq_true_eq] at k
  obtain ⟨⟨_, hin⟩, _⟩ := k
  exact hin f hf
/-- The fields of a register share no bit. -/
theorem RegName.fields_apart (n : RegName) : n.desc.fields.Pairwise (fun f g => f.apart g = true) := by
  have k := n.inOrder_true
  simp only [RegName.inOrder, Bool.and_eq_true, decide_eq_true_eq] at k
  exact k.2

/-! ## The register at an address -/

/-- The ranges of two blocks do not meet (R23). -/
theorem Block.ranges_apart : ∀ b ∈ Block.all, ∀ c ∈ Block.all, b = c ∨ b.base + b.instances * b.stride ≤ c.base ∨ c.base + c.instances * c.stride ≤ b.base := by
  decide
theorem Block.stride_pos (b : Block) : 0 < b.stride := by cases b <;> decide

/-- A list's `find?` gives the one element that passes. -/
theorem find?_of_unique {α : Type} {p : α → Bool} {l : List α} {b : α} (hb : b ∈ l) (hp : p b = true) (h : ∀ c ∈ l, p c = true → c = b) :
    l.find? p = some b := by
  cases hf : l.find? p with
  | none => exact absurd hp (List.find?_eq_none.mp hf b hb)
  | some c => rw [h c (List.mem_of_find?_eq_some hf) (List.find?_some hf)]

/-- A list's `findSome?` gives the answer of the one element that has one. -/
theorem findSome?_of_unique {α β : Type} {f : α → Option β} {l : List α} {n : α} {y : β} (hn : n ∈ l) (hf : f n = some y)
    (h : ∀ m ∈ l, m ≠ n → f m = none) : l.findSome? f = some y := by
  cases hs : l.findSome? f with
  | none => rw [List.findSome?_eq_none_iff.mp hs n hn] at hf; exact absurd hf (by simp)
  | some z =>
    obtain ⟨m, hm, hz⟩ := List.exists_of_findSome?_eq_some hs
    by_cases e : m = n
    · rw [← hz, e, hf]
    · rw [h m hm e] at hz; exact absurd hz (by simp)

/-- The copy of a block at an offset inside it (R23). -/
theorem blockAt_inside (b : Block) (i r : Nat) (hi : i < b.instances) (hr : r < b.stride) : blockAt (b.base + i * b.stride + r) = some (b, i) := by
  have hend : i * b.stride + r < b.instances * b.stride := by
    have := Nat.mul_le_mul_right b.stride (Nat.succ_le_of_lt hi)
    rw [Nat.succ_mul] at this; omega
  have hfind : Block.all.find? (fun c => c.base ≤ b.base + i * b.stride + r && b.base + i * b.stride + r < c.base + c.instances * c.stride) = some b := by
    refine find?_of_unique b.mem_all ?_ (fun c hc hp => ?_)
    · simp only [Bool.and_eq_true, decide_eq_true_eq]; omega
    · simp only [Bool.and_eq_true, decide_eq_true_eq] at hp
      rcases Block.ranges_apart c hc b b.mem_all with h | h | h
      · exact h
      · omega
      · omega
  have hq : (b.base + i * b.stride + r - b.base) / b.stride = i := by
    rw [show b.base + i * b.stride + r - b.base = r + i * b.stride by omega, Nat.add_mul_div_right _ _ b.stride_pos, Nat.div_eq_of_lt hr, Nat.zero_add]
  simp [blockAt, hfind, hq]

/-- Register `n` of copy `i` of its block, at place `j` of its run, is what its address names. -/
def RegName.Stands (n : RegName) (i j : Nat) : Prop := placeAt (n.addr i j) = some ⟨n, i, j, 0⟩

/-- Every register of every copy of a block that has it stands at its address (R23). -/
theorem RegName.stands {n : RegName} {i j : Nat} (hi : i < n.block.instances) (hin : n.inInstance i = true) (hj : j < n.desc.count) : n.Stands i j := by
  have hr : n.desc.off + j * n.desc.gap < n.block.stride := by
    have hm : j * n.desc.gap ≤ (n.desc.count - 1) * n.desc.gap := Nat.mul_le_mul_right _ (by omega)
    have hs := n.ends_le_stride
    have hw := n.desc_run
    simp only [RegDesc.run, Bool.and_eq_true, decide_eq_true_eq] at hw
    simp only [RegDesc.ends] at hs
    omega
  have haddr : n.addr i j = n.block.base + i * n.block.stride + (n.desc.off + j * n.desc.gap) := by simp only [RegName.addr]; omega
  have hmod : (n.addr i j - n.block.base) % n.block.stride = n.desc.off + j * n.desc.gap := by
    rw [haddr, show n.block.base + i * n.block.stride + (n.desc.off + j * n.desc.gap) - n.block.base
      = n.desc.off + j * n.desc.gap + i * n.block.stride by omega, Nat.add_mul_mod_self_right, Nat.mod_eq_of_lt hr]
  unfold RegName.Stands placeAt
  rw [show blockAt (n.addr i j) = some (n.block, i) by rw [haddr]; exact blockAt_inside _ _ _ hi hr]
  simp only [hmod]
  refine findSome?_of_unique n.mem_regs ?_ (fun m hm hne => ?_)
  · simp only [hin, if_true, RegDesc.hit_self n.desc_run hj, Option.map_some]
  · simp only [RegDesc.hit_apart (RegName.desc_apart hm hne) n.desc_run hj, Option.map_none, ite_self]

/-- Two registers that stand do not stand at one address. -/
theorem RegName.Stands.addr_ne {n m : RegName} {i j a b : Nat} (h : n.Stands i j) (k : m.Stands a b) (hne : (m, a, b) ≠ (n, i, j)) :
    m.addr a b ≠ n.addr i j := by
  intro e
  rw [RegName.Stands, e, h] at k
  injection k with k
  injection k with h1 h2 h3
  exact hne (by rw [h1, h2, h3])

/-! ## Registers that stand -/

/-- A write of a register leaves every other that stands. -/
theorem State.reg_setReg_stands {s : State} {n m : RegName} {i j a b : Nat} (v : Nat) (h : n.Stands i j) (k : m.Stands a b)
    (hne : (m, a, b) ≠ (n, i, j)) : (s.setReg n i j v).reg m a b = s.reg m a b :=
  State.reg_setReg_other _ _ _ _ _ _ _ _ (h.addr_ne k hne)

/-- Every register that stands and that `p` names holds in `u` what it holds in `s`. -/
def RegsKept (p : RegName → Nat → Nat → Prop) (s u : State) : Prop :=
  ∀ (m : RegName) (a b : Nat), m.Stands a b → p m a b → u.reg m a b = s.reg m a b

section
variable {p : RegName → Nat → Nat → Prop} {s t u : State}

theorem RegsKept.refl (p : RegName → Nat → Nat → Prop) (s : State) : RegsKept p s s := fun _ _ _ _ _ => rfl
theorem RegsKept.of_regs (h : u.regs = s.regs) : RegsKept p s u := fun _ _ _ _ _ => by simp only [State.reg, h]
theorem RegsKept.trans (h : RegsKept p s t) (k : RegsKept p t u) : RegsKept p s u :=
  fun m a b hs hp => (k m a b hs hp).trans (h m a b hs hp)
theorem RegsKept.mono {q : RegName → Nat → Nat → Prop} (h : RegsKept p s u) (hq : ∀ m a b, q m a b → p m a b) : RegsKept q s u :=
  fun m a b hs hp => h m a b hs (hq m a b hp)
theorem RegsKept.setReg {n : RegName} {i j : Nat} (h : RegsKept p s u) (v : Nat) (hn : n.Stands i j) (hp : ¬ p n i j) :
    RegsKept p s (u.setReg n i j v) :=
  fun m a b hs hm => (State.reg_setReg_stands v hn hs (fun e => hp (by cases e; exact hm))).trans (h m a b hs hm)
theorem RegsKept.setFld {f : RegField} {i j : Nat} (h : RegsKept p s u) (v : Nat) (hn : f.reg.Stands i j) (hp : ¬ p f.reg i j) :
    RegsKept p s (u.setFld f i j v) := h.setReg _ hn hp
theorem RegsKept.fld {f : RegField} {i j : Nat} (h : RegsKept p s u) (hn : f.reg.Stands i j) (hp : p f.reg i j) : u.fld f i j = s.fld f i j := by
  simp only [State.fld, h _ _ _ hn hp]

end

/-! ## Bits -/

theorem testBit_bits (x lo w k : Nat) : (bits x lo w).testBit k = (decide (k < w) && x.testBit (lo + k)) := by
  rw [bits, Nat.testBit_mod_two_pow, Nat.testBit_div_two_pow, Nat.add_comm]

/-- Replaced bits are those of the new value, and the others are as they were. -/
theorem testBit_putBits (x lo w v k : Nat) :
    (putBits x lo w v).testBit k = if lo ≤ k ∧ k < lo + w then v.testBit (k - lo) else x.testBit k := by
  have hform : putBits x lo w v = 2 ^ lo * (2 ^ w * (x / 2 ^ (lo + w)) + v % 2 ^ w) + x % 2 ^ lo := by
    unfold putBits; rw [Nat.pow_add]; ring
  rw [hform, Nat.testBit_two_pow_mul_add _ (Nat.mod_lt _ (Nat.two_pow_pos lo))]
  split
  · next h => rw [if_neg (by omega), Nat.testBit_mod_two_pow]; simp [h]
  · next h =>
    rw [Nat.testBit_two_pow_mul_add _ (Nat.mod_lt _ (Nat.two_pow_pos w))]
    split
    · next h1 => rw [if_pos (by omega), Nat.testBit_mod_two_pow]; simp [h1]
    · next h1 => rw [if_neg (by omega), Nat.testBit_div_two_pow]; congr 1; omega

/-- Bits that lie apart from those replaced are as they were. -/
theorem bits_putBits_apart (x v : Nat) {lo w lo' w' : Nat} (h : lo + w ≤ lo' ∨ lo' + w' ≤ lo) : bits (putBits x lo w v) lo' w' = bits x lo' w' := by
  refine Nat.eq_of_testBit_eq (fun k => ?_)
  rw [testBit_bits, testBit_bits, testBit_putBits]
  by_cases hk : k < w'
  · rw [if_neg (by omega)]
  · simp [hk]

/-- A word cut to a width keeps the bits below it. -/
theorem bits_mod (x : Nat) {lo w n : Nat} (h : lo + w ≤ n) : bits (x % 2 ^ n) lo w = bits x lo w := by
  refine Nat.eq_of_testBit_eq (fun k => ?_)
  rw [testBit_bits, testBit_bits, Nat.testBit_mod_two_pow]
  by_cases hk : k < w
  · have : lo + k < n := by omega
    simp [this]
  · simp [hk]

theorem bits_lt (x lo w : Nat) : bits x lo w < 2 ^ w := Nat.mod_lt _ (Nat.two_pow_pos w)

/-! ## Fields -/

/-- A field lies inside its register. -/
def RegField.inside (f : RegField) : Bool := decide (f.lo + f.width ≤ f.reg.desc.width)

/-- A field reads what was written, cut to its width. -/
theorem State.fld_setFld_same {f : RegField} (h : f.inside = true) (s : State) (i j v : Nat) : (s.setFld f i j v).fld f i j = v % 2 ^ f.width := by
  simp only [RegField.inside, decide_eq_true_eq] at h
  rw [State.fld, State.setFld, State.reg_setReg_same, bits_mod _ h, bits_putBits_same]
/-- A write of a field leaves the others of its register. -/
theorem State.fld_setFld_apart {f g : RegField} (hr : g.reg = f.reg) (hg : g.inside = true) (h : f.lo + f.width ≤ g.lo ∨ g.lo + g.width ≤ f.lo)
    (s : State) (i j v : Nat) : (s.setFld f i j v).fld g i j = s.fld g i j := by
  simp only [RegField.inside, decide_eq_true_eq] at hg
  rw [State.fld, State.setFld, hr, State.reg_setReg_same, bits_mod _ (hr ▸ hg), bits_putBits_apart _ _ h, State.fld, hr]
/-- A write of a field leaves the fields of every other register that stands. -/
theorem State.fld_setFld_stands {f g : RegField} {i j a b : Nat} (s : State) (v : Nat) (hf : f.reg.Stands i j) (hg : g.reg.Stands a b)
    (hne : (g.reg, a, b) ≠ (f.reg, i, j)) : (s.setFld f i j v).fld g a b = s.fld g a b := by
  simp only [State.fld, State.setFld, State.reg_setReg_stands _ hf hg hne]
theorem State.fld_setReg_stands {n : RegName} {g : RegField} {i j a b : Nat} (s : State) (v : Nat) (hn : n.Stands i j) (hg : g.reg.Stands a b)
    (hne : (g.reg, a, b) ≠ (n, i, j)) : (s.setReg n i j v).fld g a b = s.fld g a b := by
  simp only [State.fld, State.reg_setReg_stands _ hn hg hne]

end Sys2Proof.Machine
end

section
/-!
SUPPORT. Error records and events: what an access error changes, and that it does not touch the halves that requesters hold (R441 to R445, R481).
-/
namespace Sys2Proof.Machine

/-! ## What a log entry may change -/

/-- The registers that an error record or an event may change, beyond the count of the record's class (R441, R445, R481). -/
def RegName.logged (n : RegName) : Bool :=
  [RegName.proctorErrlog, .proctorErrlogTail, .proctorErrlogOverwritten, .proctorEvent, .proctorEventTail, .hostMsixPba].elem n

/-- `u` is `s` after updates of the registers of the log, of the vectors due at the host ports, of what leaves the module, and of the records of recent errors and of events to send. -/
inductive Logs (s : State) : State → Prop where
  | refl : Logs s s
  | reg {u : State} (h : Logs s u) (n : RegName) (i j v : Nat) (hn : n.Stands i j) (hl : n.logged = true) : Logs s (u.setReg n i j v)
  | due {u : State} (h : Logs s u) (k : Nat) (q : HPort) : Logs s (u.setHPort k q)
  | emit {u : State} (h : Logs s u) (o : Out) : Logs s (u.emit o)
  | recent {u : State} (h : Logs s u) (l : List RecentRec) : Logs s { u with proctor := { u.proctor with recent := l } }
  | toSend {u : State} (h : Logs s u) (l : List EventMsg) : Logs s { u with proctor := { u.proctor with eventsToSend := l } }

/-- Every register that stands and is not of the log keeps its value. -/
theorem Logs.regsKept {s u : State} (h : Logs s u) : RegsKept (fun m _ _ => m.logged = false) s u := by
  induction h with
  | refl => exact RegsKept.refl _ _
  | reg _ n i j v hn hl ih => exact ih.setReg v hn (by simp [hl])
  | due _ _ _ ih => exact ih
  | emit _ _ ih => exact ih
  | recent _ _ ih => exact ih
  | toSend _ _ ih => exact ih

section
variable {s u : State} (h : Logs s u)
include h

/-- The fields of State outside the log. -/
theorem Logs.fields : u = { s with
    regs := u.regs, hports := u.hports, outbox := u.outbox
    proctor := { s.proctor with recent := u.proctor.recent, eventsToSend := u.proctor.eventsToSend } } := by
  induction h with
  | refl => rfl
  | reg _ n i j v _ _ ih => unfold State.setReg; rw [ih]
  | due _ _ _ ih => unfold State.setHPort; rw [ih]
  | emit _ _ ih => unfold State.emit; rw [ih]
  | recent _ _ ih => rw [ih]
  | toSend _ _ ih => rw [ih]

theorem Logs.mem : u.mem = s.mem := by rw [h.fields]
theorem Logs.cores : u.cores = s.cores := by rw [h.fields]
theorem Logs.diaryQ : u.proctor.diaryQ = s.proctor.diaryQ := by rw [h.fields]

end

theorem stands_msixPba (h : Fin 2) : RegName.Stands .hostMsixPba h.val 0 := RegName.stands h.isLt rfl (by decide)

theorem Logs.signalMsix {s u : State} (k : Logs s u) (h : Fin 2) (v : Nat) : Logs s (u.signalMsix h v) := by
  unfold State.signalMsix
  split_ifs
  · exact k.reg _ _ _ _ (stands_msixPba h) rfl
  · exact k.emit _
  · exact k.due _ _
  · exact k

theorem Logs.signalEvent {s u : State} (k : Logs s u) : Logs s u.signalEvent := by
  unfold State.signalEvent; dsimp only
  split_ifs
  · exact k.signalMsix 0 0
  · exact k.signalMsix 1 0
  · exact (k.signalMsix 0 0).signalMsix 1 0

theorem Logs.event {s u : State} (k : Logs s u) (mgmt : Bool) (ref kind block inst code : Nat) (data : List Byte) :
    Logs s (u.event mgmt ref kind block inst code data) := by
  have entry (n v w : Nat) : Logs s (((u.setReg .proctorEvent 0 (n % 256) v).setReg .proctorEventTail 0 0 w).signalEvent) :=
    ((k.reg _ _ _ _ (RegName.stands (by decide) rfl (Nat.mod_lt _ (by decide))) rfl).reg _ _ _ _
      (RegName.stands (by decide) rfl (by decide)) rfl).signalEvent
  unfold State.event; dsimp only
  split_ifs
  · exact (((entry _ _ _).emit _).emit _).toSend _
  · exact entry _ _ _

/-- A record: the count of its class goes up, and the rest is the log's. -/
theorem State.logError_logs (s : State) (b : Block) (inst cls code d0 d1 : Nat) :
    Logs (s.bumpSat F.proctorErrlogClassCount 0 cls 1) (s.logError b inst cls code d0 d1) := by
  have slot (k : Nat) : RegName.Stands .proctorErrlog 0 (k % 1024) := RegName.stands (by decide) rfl (Nat.mod_lt _ (by decide))
  have lost {t : State} (p : Prop) [Decidable p] : Logs t (if p then t else t.bumpSat F.proctorErrlogOverwrittenCount 0 0 1) := by
    split
    · exact .refl
    · exact Logs.refl.reg _ _ _ _ (RegName.stands (by decide) rfl (by decide)) rfl
  have written {t : State} (p : Prop) [Decidable p] (k v w : Nat) (l : State → List RecentRec) :
      Logs t (let u := ((if p then t else t.bumpSat F.proctorErrlogOverwrittenCount 0 0 1).setReg .proctorErrlog 0 (k % 1024) v).setReg .proctorErrlogTail 0 0 w
        { u with proctor := { u.proctor with recent := l u } }) :=
    (((lost p).reg _ _ _ _ (slot k) rfl).reg _ _ _ _ (RegName.stands (by decide) rfl (by decide)) rfl).recent _
  unfold State.logError; dsimp only
  split
  · exact Logs.refl.reg _ _ _ _ (slot _) rfl
  · split
    · exact Logs.event (written _ _ _ _ (fun u => (u.proctor.recent ++ _).drop _)) _ _ _ _ _ _ _
    · exact written _ _ _ _ (fun u => (u.proctor.recent ++ _).drop _)

/-! ## An access error -/

section
variable (s : State) (who : Requester) (off : Nat)

theorem stands_errlogClass {cls : Nat} (h : cls < 4) : RegName.Stands .proctorErrlogClass 0 cls := RegName.stands (by decide) rfl h

theorem State.accessError_logs : Logs (s.bumpSat F.proctorErrlogClassCount 0 uncorrected 1) (s.accessError who off) := State.logError_logs _ _ _ _ _ _ _

theorem State.accessError_mem : (s.accessError who off).mem = s.mem := (s.accessError_logs who off).mem
theorem State.accessError_cores : (s.accessError who off).cores = s.cores := (s.accessError_logs who off).cores
theorem State.accessError_diaryQ : (s.accessError who off).proctor.diaryQ = s.proctor.diaryQ := (s.accessError_logs who off).diaryQ

/-- An access error leaves every register outside the log. -/
theorem State.accessError_regsKept :
    RegsKept (fun m _ _ => m.logged = false ∧ m ≠ .proctorErrlogClass) s (s.accessError who off) :=
  ((RegsKept.refl _ s).setFld (f := F.proctorErrlogClassCount) _ (stands_errlogClass (by decide)) (by simp)).trans
    ((s.accessError_logs who off).regsKept.mono (fun _ _ _ h => h.1))

/-- An access error counts in its class, up to all ones (R441, R444). -/
theorem State.accessError_count :
    (s.accessError who off).fld F.proctorErrlogClassCount 0 2 = min (s.fld F.proctorErrlogClassCount 0 2 + 1) (2 ^ 32 - 1) := by
  have keep : (s.accessError who off).fld F.proctorErrlogClassCount 0 2 = (s.bumpSat F.proctorErrlogClassCount 0 2 1).fld F.proctorErrlogClassCount 0 2 :=
    RegsKept.fld (s.accessError_logs who off).regsKept (stands_errlogClass (by decide)) rfl
  have same : (s.bumpSat F.proctorErrlogClassCount 0 2 1).fld F.proctorErrlogClassCount 0 2
      = min (s.fld F.proctorErrlogClassCount 0 2 + 1) (2 ^ 32 - 1) % 2 ^ 32 := State.fld_setFld_same (by decide) _ _ _ _
  rw [keep, same]
  exact Nat.mod_eq_of_lt (by omega)

end

end Sys2Proof.Machine
end

section
/-!
SUPPORT. Register accesses over an open path, and the accesses that are refused (R8, R24, R26).
-/
namespace Sys2Proof.Machine

/-! ## The held halves -/

/-- A state with other held halves. -/
def State.withHalves (s : State) (x : Tab (Nat × Nat)) : State := { s with halves := x }

section
variable (s : State) (x : Tab (Nat × Nat))

@[simp] theorem State.reg_withHalves (n : RegName) (i j : Nat) : (s.withHalves x).reg n i j = s.reg n i j := (rfl)
@[simp] theorem State.fld_withHalves (f : RegField) (i j : Nat) : (s.withHalves x).fld f i j = s.fld f i j := (rfl)
@[simp] theorem State.portOpen_withHalves (h : Nat) : (s.withHalves x).portOpen h = s.portOpen h := (rfl)
@[simp] theorem State.now_withHalves : (s.withHalves x).now = s.now := (rfl)
@[simp] theorem State.proctor_withHalves : (s.withHalves x).proctor = s.proctor := (rfl)
@[simp] theorem State.hport_withHalves (h : Nat) : (s.withHalves x).hport h = s.hport h := (rfl)
@[simp] theorem State.mergesInto_withHalves (key : Nat) : (s.withHalves x).mergesInto key = s.mergesInto key := (rfl)
@[simp] theorem State.setReg_withHalves (n : RegName) (i j v : Nat) : (s.withHalves x).setReg n i j v = (s.setReg n i j v).withHalves x := (rfl)
@[simp] theorem State.bumpSat_withHalves (f : RegField) (i j n : Nat) : (s.withHalves x).bumpSat f i j n = (s.bumpSat f i j n).withHalves x := (rfl)

/-- A choice between two states with the same halves is a choice and then those halves. -/
theorem State.ite_withHalves (p : Prop) [Decidable p] (t : State) :
    (if p then s.withHalves x else t.withHalves x) = (if p then s else t).withHalves x := by split <;> rfl

/- The laws above are stated with `(rfl)`, so that `simp` rewrites the condition of an `if` together with its decision. -/

/-- What neither reads nor writes the held halves comes before or after a change of them. -/
theorem State.signalMsix_withHalves (h : Fin 2) (v : Nat) : (s.withHalves x).signalMsix h v = (s.signalMsix h v).withHalves x := by
  simp only [State.signalMsix, State.reg_withHalves, State.fld_withHalves, State.portOpen_withHalves, State.hport_withHalves]
  split_ifs <;> rfl

theorem State.signalEvent_withHalves : (s.withHalves x).signalEvent = s.signalEvent.withHalves x := by
  simp only [State.signalEvent, State.fld_withHalves, State.signalMsix_withHalves, State.ite_withHalves]

theorem State.event_withHalves (mgmt : Bool) (ref kind block inst code : Nat) (data : List Byte) :
    (s.withHalves x).event mgmt ref kind block inst code data = (s.event mgmt ref kind block inst code data).withHalves x := by
  simp only [State.event, State.reg_withHalves, State.now_withHalves, State.setReg_withHalves, State.signalEvent_withHalves, State.fld_withHalves]
  split_ifs <;> rfl

/-- The recent records with record `k` after them, as `State.logError` keeps them. -/
def State.remember (s : State) (k : Nat) : State :=
  { s with proctor := { s.proctor with recent := (s.proctor.recent ++ [RecentRec.mk k (s.now + 1000000)]).drop (s.proctor.recent.length - 15) } }

@[simp] theorem State.remember_withHalves (k : Nat) : (s.withHalves x).remember k = (s.remember k).withHalves x := (rfl)

/-- `State.logError` with its branches, the recent records by name. -/
theorem State.logError_eq (b : Block) (inst cls code d0 d1 : Nat) : s.logError b inst cls code d0 d1 =
    let t := s.bumpSat F.proctorErrlogClassCount 0 cls 1
    let key := b.code + inst % 1024 * 2 ^ 8 + cls * 2 ^ 18 + code * 2 ^ 20
    match t.proctor.recent.find? (t.mergesInto key) with
    | some r => t.setReg .proctorErrlog 0 (r.number % 1024)
        (putBits (t.reg .proctorErrlog 0 (r.number % 1024)) 96 16 (min (bits (t.reg .proctorErrlog 0 (r.number % 1024)) 96 16 + 1) 0xFFFF))
    | none =>
      let tail := t.reg .proctorErrlogTail
      let r := t.now % 2 ^ 64 + key * 2 ^ 64 + d0 % 2 ^ 64 * 2 ^ 128 + d1 % 2 ^ 64 * 2 ^ 192
      let u := if t.reg .proctorErrlog 0 (tail % 1024) = 0 then t else t.bumpSat F.proctorErrlogOverwrittenCount 0 0 1
      let u := ((u.setReg .proctorErrlog 0 (tail % 1024) r).setReg .proctorErrlogTail 0 0 (tail + 1)).remember tail
      if cls ≥ 2 then u.event true tail 0 b.code inst code (toBytes 32 r) else u := rfl

theorem State.logError_withHalves (b : Block) (inst cls code d0 d1 : Nat) :
    (s.withHalves x).logError b inst cls code d0 d1 = (s.logError b inst cls code d0 d1).withHalves x := by
  simp only [State.logError_eq, State.bumpSat_withHalves, State.proctor_withHalves, State.mergesInto_withHalves, State.reg_withHalves, State.now_withHalves]
  generalize List.find? _ (s.bumpSat F.proctorErrlogClassCount 0 cls 1).proctor.recent = found
  cases found with
  | some r => exact State.setReg_withHalves _ _ _ _ _ _
  | none => simp only [State.ite_withHalves, State.setReg_withHalves, State.remember_withHalves, State.event_withHalves]

theorem State.accessError_withHalves (who : Requester) (off : Nat) : (s.withHalves x).accessError who off = (s.accessError who off).withHalves x :=
  State.logError_withHalves _ _ _ _ _ _ _ _

end

/-- Forgetting a half before or after an access error is one. -/
theorem State.accessError_dropHalf (s : State) (who whose : Requester) (off : Nat) :
    (s.dropHalf whose).accessError who off = (s.accessError who off).dropHalf whose := by
  have h : (s.accessError who off).halves = s.halves := by rw [(s.accessError_logs who off).fields]; rfl
  unfold State.dropHalf
  rw [h]
  exact State.accessError_withHalves s _ who off

/-! ## The path -/

/-- Over an open path an access reaches the register space (R345, R471). -/
theorem State.onPath_of_open {s : State} {who : Requester} (h : s.pathOpen who = true) (f : State → State) : s.onPath who f = f s := by
  cases who with
  | h0 =>
    simp only [State.pathOpen, Bool.and_eq_true, beq_iff_eq] at h
    obtain ⟨hl, hp⟩ := h
    simp [State.onPath, State.onBar, hl, hp]
  | h1 =>
    simp only [State.pathOpen, Bool.and_eq_true, beq_iff_eq] at h
    obtain ⟨hl, hp⟩ := h
    simp [State.onPath, State.onBar, hl, hp]
  | tutor st => simp only [State.pathOpen] at h; simp [State.onPath, h]
  | proctor => simp only [State.pathOpen] at h; simp [State.onPath, h]
  | i3c => simp only [State.pathOpen] at h; simp [State.onPath, h]

/-- REGISTER_WRITE over an open path. -/
theorem exec_registerWrite {s : State} {who : Requester} (h : s.pathOpen who = true) (off size : Nat) (v : Word) :
    exec (.registerWrite who off size v) s = .next (s.writeReg who off size v.toNat).1 :=
  congrArg Host.Outcome.next (State.onPath_of_open h _)

/-- REGISTER_READ_REFUSED of a read that is refused, over an open path: its value goes back (R8). -/
theorem exec_registerReadRefused {s u : State} {who : Requester} {off size v : Nat} (h : s.pathOpen who = true)
    (hr : s.readReg who off size = (u, v, false)) :
    exec (.registerReadRefused who off size) s = .next (u.emit (.readData who (BitVec.ofNat 64 v))) := by
  have e : registerReadRefused s who off size = registerRead s who off size := by simp [registerReadRefused, hr]
  have e2 : registerRead s who off size = u.emit (.readData who (BitVec.ofNat 64 v)) := by
    rw [registerRead, State.onPath_of_open h, hr]
  exact congrArg Host.Outcome.next (e.trans e2)

/-! ## Sizes and alignment (R8) -/

theorem aligned_iff (off size : Nat) : aligned off size = true ↔ (size = 4 ∨ size = 8) ∧ off % size = 0 := by
  simp only [aligned, Bool.and_eq_true, Bool.or_eq_true, beq_iff_eq]

theorem State.writeReg_of_unaligned {off size : Nat} (h : aligned off size = false) (s : State) (who : Requester) (v : Nat) :
    s.writeReg who off size v = (s.accessError who off, false) := by simp [State.writeReg, h]
theorem State.readReg_of_unaligned {off size : Nat} (h : aligned off size = false) (s : State) (who : Requester) :
    s.readReg who off size = (s.accessError who off, 0, false) := by simp [State.readReg, h]
theorem State.writeReg_four {off : Nat} (h : off % 4 = 0) (s : State) (who : Requester) (v : Nat) :
    s.writeReg who off 4 v = s.write32 who off (v % 2 ^ 32) := by
  simp [State.writeReg, (aligned_iff off 4).mpr ⟨Or.inl rfl, h⟩]
theorem State.readReg_four {off : Nat} (h : off % 4 = 0) (s : State) (who : Requester) : s.readReg who off 4 = s.read32 who off := by
  simp [State.readReg, (aligned_iff off 4).mpr ⟨Or.inl rfl, h⟩]

/-! ## Reserved offsets (R24) -/

section
variable {off : Nat} (h : placeAt off = none) (s : State) (who : Requester)
include h

theorem State.write32_of_reserved (v : Nat) : s.write32 who off v = ((s.dropHalf who).accessError who off, false) := by
  simp [State.write32, h]
theorem State.read32_of_reserved : s.read32 who off = (s.accessError who off, 0, false) := by simp [State.read32, h]
theorem wideAt_of_reserved : wideAt off = none := by simp [wideAt, h]

variable (h4 : placeAt (off + 4) = none) (h8 : off % 8 = 0)
include h4 h8

theorem State.writeReg_eight_of_reserved (v : Nat) :
    (s.writeReg who off 8 v).1 = (((s.dropHalf who).dropHalf who).accessError who off).accessError who (off + 4) := by
  have ha : aligned off 8 = true := (aligned_iff off 8).mpr ⟨Or.inr rfl, h8⟩
  simp only [State.writeReg, ha, wideAt_of_reserved h, State.write32_of_reserved h, State.write32_of_reserved h4, ← State.accessError_dropHalf]
  rfl
theorem State.readReg_eight_of_reserved : s.readReg who off 8 = ((s.accessError who off).accessError who (off + 4), 0, false) := by
  have ha : aligned off 8 = true := (aligned_iff off 8).mpr ⟨Or.inr rfl, h8⟩
  simp only [State.readReg, ha, wideAt_of_reserved h, State.read32_of_reserved h, State.read32_of_reserved h4]
  rfl

end

/-- Settles O49: each refused access is one or two access errors, whose effects `State.accessError_logs` bounds. -/
theorem accessesRefused : Obligations.AccessesRefused := by
  refine ⟨aligned_iff, fun who off size value s hp ha => ⟨?_, ?_⟩, fun who off value s hp h4 hn => ⟨?_, ?_⟩,
    fun who off value s hp h8 hlo hhi => ⟨?_, ?_⟩, fun who off s => ?_⟩
  · rw [exec_registerWrite hp, State.writeReg_of_unaligned ha]
  · exact exec_registerReadRefused hp (State.readReg_of_unaligned ha s who)
  · refine ⟨s.dropHalf who, rfl, ?_⟩
    rw [exec_registerWrite hp, State.writeReg_four h4, State.write32_of_reserved hn]
  · exact exec_registerReadRefused hp ((State.readReg_four h4 s who).trans (State.read32_of_reserved hn s who))
  · refine ⟨(s.dropHalf who).dropHalf who, rfl, ?_⟩
    rw [exec_registerWrite hp, State.writeReg_eight_of_reserved hlo s who hhi h8]
  · exact exec_registerReadRefused hp (State.readReg_eight_of_reserved hlo s who hhi h8)
  · refine ⟨s.accessError_mem who off, s.accessError_cores who off, s.accessError_count who off, fun n i j hs hn => ?_⟩
    refine s.accessError_regsKept who off n i j hs ⟨?_, ?_⟩
    · simp only [RegName.logged, List.elem_eq_mem, decide_eq_false_iff_not]
      simp only [List.mem_cons, List.not_mem_nil, or_false, not_or] at hn ⊢
      tauto
    · simp only [List.mem_cons, List.not_mem_nil, or_false, not_or] at hn
      obtain ⟨_, _, hclass, _⟩ := hn
      exact hclass

end Sys2Proof.Machine
end

section
/-!
SUPPORT. A write that reaches its register: the state on which it takes effect (R9, R26, R482).
-/
namespace Sys2Proof.Machine
-- Proofs one after the other: each thread of the elaborator claims its whole stack.
set_option Elab.async false

/-! ## The state that a write finds -/

/-- `t` is `s` after halves were dropped or held and a Diary entry was queued or lost: what stands between a write and its register. -/
structure Entered (s t : State) : Prop where
  fields : t = { s with
    regs := t.regs
    halves := t.halves
    proctor := { s.proctor with diaryQ := t.proctor.diaryQ, diaryGap := t.proctor.diaryGap } }
  regs : ∀ (m : RegName) (a b : Nat), m.addr a b ≠ RegName.diaryDropped.addr → t.reg m a b = s.reg m a b

theorem stands_diaryDropped : RegName.Stands .diaryDropped 0 0 := RegName.stands (by decide) rfl (by decide)

section
variable {s t : State}

theorem Entered.refl (s : State) : Entered s s := ⟨rfl, fun _ _ _ _ => rfl⟩

theorem Entered.dropHalf (h : Entered s t) (who : Requester) : Entered s (t.dropHalf who) := ⟨by rw [h.fields]; rfl, h.regs⟩

theorem Entered.diary (h : Entered s t) (origin : Nat) (k : DiaryKind) (subject value : Nat) : Entered s (t.diary origin k subject value) := by
  unfold State.diary
  split
  · exact ⟨by rw [h.fields], h.regs⟩
  · exact ⟨by rw [h.fields]; rfl, fun m a b hne => (State.reg_setFld_other t F.diaryDroppedCount m 0 0 a b _ hne).trans (h.regs m a b hne)⟩

variable (h : Entered s t)
include h

theorem Entered.regsKept : RegsKept (fun m _ _ => m ≠ .diaryDropped) s t :=
  fun m a b hs hn => h.regs m a b (stands_diaryDropped.addr_ne hs (by simp [hn]))
theorem Entered.reg {n : RegName} {i j : Nat} (hs : n.Stands i j) (hn : n ≠ .diaryDropped := by decide) : t.reg n i j = s.reg n i j := h.regsKept n i j hs hn
theorem Entered.fld {f : RegField} {i j : Nat} (hs : f.reg.Stands i j) (hn : f.reg ≠ .diaryDropped := by decide) : t.fld f i j = s.fld f i j :=
  RegsKept.fld h.regsKept hs hn
theorem Entered.mem : t.mem = s.mem := by rw [h.fields]

end

/-- The state on which the write of a place takes effect: its REG_WRITE entry comes first (R482). -/
def State.entered (s : State) (who : Requester) (p : Place) (v : Nat) : State :=
  let r := s.writePlace who p v
  if r.2 && s.diaryWants who p v then s.diary (requesterCode who) .regWrite p.off (r.1.valueAfter who p) else s

theorem State.entered_entered {s t : State} (h : Entered s t) (who : Requester) (p : Place) (v : Nat) : Entered s (t.entered who p v) := by
  unfold State.entered
  dsimp only
  split
  · exact h.diary _ _ _ _
  · exact h

theorem State.writeLogged_eq (s : State) (who : Requester) (p : Place) (v : Nat) :
    (s.writeLogged who p v).1 = ((s.entered who p v).writePlace who p v).1 := by
  unfold State.writeLogged State.entered
  dsimp only
  split <;> rfl

/-! ## Reaching a register -/

/-- The tables place registers at whole words, and 64-bit ones at whole double words, which the blocks keep (R23). -/
def RegName.wordPlaced (n : RegName) : Bool :=
  let w := if n.desc.width == 64 then 8 else 4
  n.block.base % w == 0 && n.block.stride % w == 0 && n.desc.off % w == 0 && n.desc.gap % w == 0

theorem RegName.wordPlaced_true (n : RegName) : n.wordPlaced = true := RegName.forall_of_all (by decide +kernel) n

/-- A register is naturally aligned for an access of its own size (R8). -/
theorem RegName.addr_aligned (n : RegName) (i j : Nat) : aligned (n.addr i j) (if n.desc.width == 64 then 8 else 4) = true := by
  refine (aligned_iff _ _).mpr ⟨by split <;> simp, ?_⟩
  have hp := n.wordPlaced_true
  unfold RegName.wordPlaced at hp
  dsimp only at hp
  generalize (if n.desc.width == 64 then 8 else 4) = w at hp
  simp only [Bool.and_eq_true, beq_iff_eq, ← Nat.dvd_iff_mod_eq_zero] at hp ⊢
  obtain ⟨⟨⟨hb, hs⟩, ho⟩, hg⟩ := hp
  exact ((hb.add (hs.mul_left i)).add ho).add (hg.mul_left j)

theorem State.writable_dropHalf (s : State) (who whose : Requester) (p : Place) (v : Nat) :
    (s.dropHalf whose).writable who p v = s.writable who p v := rfl

section
variable {n : RegName} {i j v : Nat} {s : State} {who : Requester}

/-- A 32-bit write of a register of its own width reaches it. -/
theorem State.write32_narrow (hst : n.Stands i j) (hw : (n.desc.width == 64) = false) (h : s.writable who ⟨n, i, j, 0⟩ v = true) :
    s.write32 who (n.addr i j) v = (s.dropHalf who).writeLogged who ⟨n, i, j, 0⟩ v := by
  rw [RegName.Stands] at hst
  simp only [State.write32, hst, Place.wide, hw, Bool.false_and, Bool.false_eq_true, if_false, State.writable_dropHalf, h, Bool.not_true, Bool.not_false, if_true]

/-- A 64-bit write of a 64-bit register reaches it. -/
theorem State.writeReg_wide (hst : n.Stands i j) (hw : (n.desc.width == 64) = true) (h : s.writable who ⟨n, i, j, 0⟩ v = true) :
    s.writeReg who (n.addr i j) 8 v = (s.dropHalf who).writeLogged who ⟨n, i, j, 0⟩ v := by
  have ha := n.addr_aligned i j
  rw [RegName.Stands] at hst
  simp only [hw, if_true] at ha
  have hwide : wideAt (n.addr i j) = some ⟨n, i, j, 0⟩ := by simp [wideAt, hst, Place.wide, hw]
  simp [State.writeReg, ha, hwide, State.writable_dropHalf, h]

theorem State.pathOpen_of_reaches (h : s.reachesReg who n i j v = true) : s.pathOpen who = true := (Bool.and_eq_true_iff.mp h).1
theorem State.writable_of_reaches (h : s.reachesReg who n i j v = true) : s.writable who ⟨n, i, j, 0⟩ v = true := (Bool.and_eq_true_iff.mp h).2

/-- A command that writes a 32-bit register: the register's write takes effect on the state with its entry queued. -/
theorem regCommand_reaches (hst : n.Stands i j) (hw : n.desc.width = 32) (hv : v < 2 ^ 32) (h : s.reachesReg who n i j v = true) :
    ∃ t, Entered s t ∧ regCommand s who n i j v = (t.writePlace who ⟨n, i, j, 0⟩ v).1 := by
  have hn : (n.desc.width == 64) = false := by rw [hw]; rfl
  have ha := n.addr_aligned i j
  simp only [hn, Bool.false_eq_true, if_false] at ha
  refine ⟨_, State.entered_entered ((Entered.refl s).dropHalf who) who ⟨n, i, j, 0⟩ v, ?_⟩
  rw [regCommand, registerWrite, State.onPath_of_open (State.pathOpen_of_reaches h), hn]
  simp only [Bool.false_eq_true, if_false]
  rw [State.writeReg_four ((aligned_iff _ _).mp ha).2, Nat.mod_eq_of_lt hv, State.write32_narrow hst hn (State.writable_of_reaches h), State.writeLogged_eq]

end

end Sys2Proof.Machine
end

section
/-!
SUPPORT. Writes of the Fabric and Corridor registers (R277, R310, R330, R331).
-/
namespace Sys2Proof.Machine
-- Proofs one after the other: each thread of the elaborator claims its whole stack.
set_option Elab.async false

/-- A command that writes a 32-bit register completes with what the write does to the state that it finds. -/
theorem completes_of_reaches {c : Instr} {s : State} {who : Requester} {n : RegName} {i j v : Nat} {P : State → Prop}
    (he : exec c s = .next (regCommand s who n i j v)) (hst : n.Stands i j) (hw : n.desc.width = 32) (hv : v < 2 ^ 32)
    (h : s.reachesReg who n i j v = true) (hP : ∀ t, Entered s t → P (t.writePlace who ⟨n, i, j, 0⟩ v).1) : Completes c s P := by
  obtain ⟨t, ht, e⟩ := regCommand_reaches hst hw hv h
  exact ⟨_, he, e ▸ hP t ht⟩

/-- A Diary entry changes no register but the count of those lost. -/
theorem State.diary_regsKept (s : State) (origin : Nat) (k : DiaryKind) (subject value : Nat) :
    RegsKept (fun m _ _ => m ≠ .diaryDropped) s (s.diary origin k subject value) := ((Entered.refl s).diary _ _ _ _).regsKept
@[simp] theorem State.diary_mem (s : State) (origin : Nat) (k : DiaryKind) (subject value : Nat) : (s.diary origin k subject value).mem = s.mem :=
  ((Entered.refl s).diary _ _ _ _).mem
@[simp] theorem State.diary_heldReqs (s : State) (origin : Nat) (k : DiaryKind) (subject value : Nat) :
    (s.diary origin k subject value).heldReqs = s.heldReqs := by rw [((Entered.refl s).diary _ _ _ _).fields]

theorem State.fld_of_regs {s u : State} (h : u.regs = s.regs) (f : RegField) (i j : Nat) : u.fld f i j = s.fld f i j := by
  simp only [State.fld, State.reg, h]

/-! ## Fabric ports -/

/-- The registers of a port stand in its own copy of the block. -/
theorem stands_port {n : RegName} (p : Port) (hb : n.block = .fabric := by rfl) (ho : n.desc.off < 0x400 := by decide) (hc : 0 < n.desc.count := by decide) :
    n.Stands p 0 := by
  refine RegName.stands (by rw [hb]; exact p.isLt) ?_ hc
  simp only [RegName.inInstance, hb]
  rw [if_neg (by omega), if_neg (by omega)]

/-- PORT_ENABLE of a port whose ENABLE is 0 starts its training (R277). -/
theorem portEnable_completes (who : Requester) (p : Port) (s : State) (h : s.reachesReg who .fabricCtrl p 0 1 = true) (off : s.fld F.fabricCtrlEnable p = 0) :
    Completes (.portEnable who p) s (fun u =>
      u.fld F.fabricCtrlEnable p = 1 ∧ u.link p = lTRAINING ∧ u.port p = FPort.init ∧ u.mem = s.mem) := by
  refine completes_of_reaches rfl (stands_port p) rfl (by decide) h (fun t ht => ?_)
  have hoff : t.fld F.fabricCtrlEnable p = 0 := (ht.fld (stands_port p)).trans off
  have he : (t.writePlace who ⟨.fabricCtrl, p, 0, 0⟩ 1).1 = t.portEnable p := rfl
  rw [he, State.portEnable, hoff]
  have ctrl (u : State) (f : RegField) (hf : f.reg = .fabricState) (v : Nat) : (u.setFld f p 0 v).fld F.fabricCtrlEnable p = u.fld F.fabricCtrlEnable p :=
    State.fld_setFld_stands _ _ (hf ▸ stands_port p) (stands_port p) (by simp [hf])
  refine ⟨?_, ?_, State.port_setPort_same _ _ _, ht.mem⟩
  · refine (ctrl _ F.fabricStateFailedLane rfl _).trans ((ctrl _ F.fabricStateSpareInUse rfl _).trans ((ctrl _ F.fabricStateLink rfl _).trans ?_))
    exact State.fld_setFld_same (by decide) _ _ _ _
  · refine (State.fld_setFld_apart (f := F.fabricStateFailedLane) (g := F.fabricStateLink) rfl (by decide) (by decide) _ _ _ _).trans ?_
    refine (State.fld_setFld_apart (f := F.fabricStateSpareInUse) (g := F.fabricStateLink) rfl (by decide) (by decide) _ _ _ _).trans ?_
    exact State.fld_setFld_same (by decide) _ _ _ _

section
variable (s : State) (p : Nat) (m : LinkMsg)

@[simp] theorem State.sendLink_regs : (s.sendLink p m false).regs = s.regs := rfl
@[simp] theorem State.sendLink_mem : (s.sendLink p m false).mem = s.mem := rfl
@[simp] theorem State.sendLink_heldReqs : (s.sendLink p m false).heldReqs = s.heldReqs := rfl
@[simp] theorem State.sendLink_tids : ((s.sendLink p m false).port p).tids = (s.port p).tids := by
  have e : (s.sendLink p m false).port p = _ := State.port_setPort_same s p _
  rw [e]; rfl

/-- The partner is told three times that the port is disabled (R279). -/
def State.tellDisabled : State :=
  let m := LinkMsg.down (s.port p).trainEpoch (BitVec.ofNat 8 dDISABLED)
  ((s.sendLink p m false).sendLink p m false).sendLink p m false

theorem State.tellDisabled_regs : (s.tellDisabled p).regs = s.regs := by simp only [State.tellDisabled, State.sendLink_regs]
theorem State.tellDisabled_mem : (s.tellDisabled p).mem = s.mem := by simp only [State.tellDisabled, State.sendLink_mem]
theorem State.tellDisabled_heldReqs : (s.tellDisabled p).heldReqs = s.heldReqs := by simp only [State.tellDisabled, State.sendLink_heldReqs]
theorem State.tellDisabled_tids : ((s.tellDisabled p).port p).tids = (s.port p).tids := by simp only [State.tellDisabled, State.sendLink_tids]

theorem State.portDisable_eq : s.portDisable p =
    let t := s.setFld F.fabricCtrlEnable p 0 0
    if t.link p == lDISABLED then t else (if t.link p == lDOWN then t else t.tellDisabled p).leaveUp p lDISABLED := rfl

end

/-- A port whose LINK has just left UP, its link layer afresh (R310). -/
def State.leaving (s : State) (p link : Nat) : State :=
  ((s.setFld F.fabricStateLink p 0 link).setFld F.fabricStateEncrypted p 0 0).setPort p FPort.init

/-- What a port that leaves UP with no request does beyond its own LINK: a Roll call event, and its Roll call state is cleared (R310, R335). -/
def State.rollLeft (s : State) (p : Nat) : State :=
  ((s.rollEvent p F.fabricRollEventsLeft .partnerLeft).setFld F.fabricRollStateState p 0 0).setFld F.fabricRollStateMissed p 0 0

theorem State.leaveUp_eq {s : State} {p : Nat} (link : Nat) (none : (s.port p).tids = []) :
    s.leaveUp p link = if s.link p == lUP || s.link p == lRETRAINING then ((s.leaving p link).rollLeft p).retryHeld else s.leaving p link := by
  unfold State.leaveUp
  rw [none]
  rfl

theorem State.retryHeld_none {s : State} (h : s.heldReqs = []) : s.retryHeld = { s with heldReqs := [] } := by
  rw [State.retryHeld, h]; rfl

section
variable (s : State) (p : Port)

theorem State.leaving_link (link : Nat) : (s.leaving p link).link p = link % 2 ^ 3 :=
  (State.fld_setFld_apart (f := F.fabricStateEncrypted) (g := F.fabricStateLink) rfl (by decide) (by decide) (s.setFld F.fabricStateLink p 0 link) _ _ _).trans
    (State.fld_setFld_same (by decide) _ _ _ _)
theorem State.leaving_regsKept (link : Nat) : RegsKept (fun m _ _ => m ≠ .fabricState) s (s.leaving p link) :=
  (((RegsKept.refl _ s).setFld (f := F.fabricStateLink) _ (stands_port p) (by simp)).setFld (f := F.fabricStateEncrypted) _ (stands_port p) (by simp)).trans
    (RegsKept.of_regs rfl)

theorem State.rollLeft_regsKept : RegsKept (fun m _ _ => m ≠ .fabricRollEvents ∧ m ≠ .fabricRollState ∧ m ≠ .diaryDropped) s (s.rollLeft p) := by
  have event := (RegsKept.refl (fun m _ _ => m ≠ .fabricRollEvents ∧ m ≠ .fabricRollState ∧ m ≠ .diaryDropped) s).setFld
    (f := F.fabricRollEventsLeft) 1 (stands_port p) (by simp)
  have entry := event.trans ((State.diary_regsKept _ originLummir .partnerLeft (s.partnerSubject p) (s.reg .fabricPartnerSerial p)).mono (fun _ _ _ h => h.2.2))
  exact (entry.setFld (f := F.fabricRollStateState) 0 (stands_port p) (by simp)).setFld (f := F.fabricRollStateMissed) 0 (stands_port p) (by simp)
theorem State.rollLeft_mem : (s.rollLeft p).mem = s.mem := by simp [State.rollLeft, State.rollEvent]
theorem State.rollLeft_heldReqs : (s.rollLeft p).heldReqs = s.heldReqs := by simp [State.rollLeft, State.rollEvent]

end

/-- A port with no request leaves UP: its LINK takes the new state, and its ENABLE and memory stay (R310). -/
theorem State.leaveUp_none {s : State} {p : Port} (link : Nat) (held : s.heldReqs = []) (none : (s.port p).tids = []) :
    (s.leaveUp p link).link p = link % 2 ^ 3 ∧ (s.leaveUp p link).fld F.fabricCtrlEnable p = s.fld F.fabricCtrlEnable p ∧ (s.leaveUp p link).mem = s.mem := by
  have enable : (s.leaving p link).fld F.fabricCtrlEnable p = s.fld F.fabricCtrlEnable p :=
    RegsKept.fld (s.leaving_regsKept p link) (stands_port p) (by simp)
  rw [State.leaveUp_eq link none]
  split
  · rw [State.retryHeld_none (s := (s.leaving p link).rollLeft p) ((State.rollLeft_heldReqs _ p).trans held)]
    have kept := State.rollLeft_regsKept (s.leaving p link) p
    exact ⟨(RegsKept.fld (f := F.fabricStateLink) kept (stands_port p) (by simp)).trans (s.leaving_link p link),
      (RegsKept.fld (f := F.fabricCtrlEnable) kept (stands_port p) (by simp)).trans enable, State.rollLeft_mem _ p⟩
  · exact ⟨s.leaving_link p link, enable, rfl⟩

/-- PORT_DISABLE of a port with no request takes it to DISABLED (R277, R310). -/
theorem portDisable_completes (who : Requester) (p : Port) (s : State) (h : s.reachesReg who .fabricCtrl p 0 0 = true) (held : s.heldReqs = [])
    (none : (s.port p).tids = []) :
    Completes (.portDisable who p) s (fun u => u.fld F.fabricCtrlEnable p = 0 ∧ u.link p = lDISABLED ∧ u.mem = s.mem) := by
  refine completes_of_reaches rfl (stands_port p) rfl (by decide) h (fun t ht => ?_)
  have he : (t.writePlace who ⟨.fabricCtrl, p, 0, 0⟩ 0).1 = t.portDisable p := rfl
  rw [he, ← ht.mem]
  rw [State.portDisable_eq]
  have hoff : (t.setFld F.fabricCtrlEnable p 0 0).fld F.fabricCtrlEnable p = 0 := State.fld_setFld_same (by decide) _ _ _ _
  have hmem : (t.setFld F.fabricCtrlEnable p 0 0).mem = t.mem := rfl
  have hheld : (t.setFld F.fabricCtrlEnable p 0 0).heldReqs = [] := by rw [ht.fields]; exact held
  have hnone : ((t.setFld F.fabricCtrlEnable p 0 0).port p).tids = [] := by rw [ht.fields]; exact none
  generalize t.setFld F.fabricCtrlEnable p 0 0 = w at hoff hmem hheld hnone
  dsimp only
  rw [← hmem]
  split
  · next hd => exact ⟨hoff, beq_iff_eq.mp hd, rfl⟩
  · split
    · obtain ⟨hlink, henable, hm⟩ := State.leaveUp_none lDISABLED hheld hnone
      exact ⟨henable.trans hoff, hlink, hm⟩
    · obtain ⟨hlink, henable, hm⟩ := State.leaveUp_none (s := w.tellDisabled p) lDISABLED ((w.tellDisabled_heldReqs p).trans hheld)
        ((w.tellDisabled_tids p).trans hnone)
      exact ⟨henable.trans ((State.fld_of_regs (w.tellDisabled_regs p) _ _ _).trans hoff), hlink, hm.trans (w.tellDisabled_mem p)⟩

end Sys2Proof.Machine
end

section
/-!
SUPPORT. Writes of the Corridor registers (R326, R330, R331).
-/
namespace Sys2Proof.Machine
-- Proofs one after the other: each thread of the elaborator claims its whole stack.
set_option Elab.async false

theorem stands_corridorCtrl : RegName.Stands .corridorCtrl 0 0 := RegName.stands (by decide) rfl (by decide)
theorem stands_corridorState : RegName.Stands .corridorState 0 0 := RegName.stands (by decide) rfl (by decide)

/-- JOIN of a closed bypass that does not move opens it (R330). -/
theorem State.corridorJoin_opens {t : State} (shut : t.corridor.bypassOpen = false) (still : t.corridor.moving = none) :
    t.corridorJoin = { (t.setFld F.corridorCtrlJoin 0 0 1).setFld F.corridorStateRing 0 0 rJOINING with corridor := { t.corridor with moving := some true } } := by
  have join : (t.setFld F.corridorCtrlJoin 0 0 1).fld F.corridorCtrlJoin = 1 := State.fld_setFld_same (by decide) _ _ _ _
  rw [State.corridorJoin, State.openBypass]
  simp [join, shut, still]

/-- CORRIDOR_JOIN begins to open the bypass (R330). -/
theorem corridorJoin_completes (who : Requester) (s : State) (h : s.reachesReg who .corridorCtrl 0 0 (1 + s.fld F.corridorCtrlTimeMaster * 2) = true)
    (shut : s.corridor.bypassOpen = false) (still : s.corridor.moving = none) :
    Completes (.corridorJoin who) s (fun u => u.fld F.corridorCtrlJoin = 1 ∧ u.fld F.corridorStateRing = 1
      ∧ u.corridor.moving = some true ∧ u.fld F.corridorCtrlTimeMaster = s.fld F.corridorCtrlTimeMaster ∧ u.mem = s.mem) := by
  have small : s.fld F.corridorCtrlTimeMaster < 2 := bits_lt _ _ 1
  refine completes_of_reaches rfl stands_corridorCtrl rfl (by omega) h (fun t ht => ?_)
  generalize s.fld F.corridorCtrlTimeMaster = m at small
  have he : (t.writePlace who ⟨.corridorCtrl, 0, 0, 0⟩ (1 + m * 2)).1 = t.corridorJoin.setFld F.corridorCtrlTimeMaster 0 0 m := by
    have hbit : bitOf (1 + m * 2) 0 = true := by simp only [bitOf, beq_iff_eq]; omega
    have hm : bits (1 + m * 2) 1 1 = m := by simp only [bits]; omega
    have e : (t.writePlace who ⟨.corridorCtrl, 0, 0, 0⟩ (1 + m * 2)).1 = corridorCtrlWrite t (1 + m * 2) := rfl
    rw [e, corridorCtrlWrite, hbit, hm]; rfl
  rw [he, State.corridorJoin_opens (by rw [ht.fields]; exact shut) (by rw [ht.fields]; exact still)]
  have master (u : State) (x : Corridor) : (State.setFld { u with corridor := x } F.corridorCtrlTimeMaster 0 0 m).fld F.corridorCtrlJoin = u.fld F.corridorCtrlJoin :=
    State.fld_setFld_apart (f := F.corridorCtrlTimeMaster) (g := F.corridorCtrlJoin) rfl (by decide) (by decide) _ _ _ _
  refine ⟨?_, ?_, rfl, ?_, ht.mem⟩
  · rw [master, State.fld_setFld_stands (f := F.corridorStateRing) (g := F.corridorCtrlJoin) _ _ stands_corridorState stands_corridorCtrl (by simp)]
    exact State.fld_setFld_same (by decide) _ _ _ _
  · rw [State.fld_setFld_stands (f := F.corridorCtrlTimeMaster) (g := F.corridorStateRing) _ _ stands_corridorCtrl stands_corridorState (by simp)]
    exact State.fld_setFld_same (by decide) _ _ _ _
  · rw [State.fld_setFld_same (by decide)]; exact Nat.mod_eq_of_lt small

/-! ## STOP -/

section
variable (s : State)

theorem State.portSend_frame (p : Nat) (vc : Fin 4) (m : FabMsg) : (s.portSend p vc m).corridor = s.corridor ∧ (s.portSend p vc m).mem = s.mem := by
  unfold State.portSend
  split <;> exact ⟨rfl, rfl⟩

/-- A control message over Lummir changes a port alone. -/
theorem State.sendVc0_frame (part type dest : Nat) (payload : List Byte) :
    (s.sendVc0 part type dest payload).corridor = s.corridor ∧ (s.sendVc0 part type dest payload).mem = s.mem := by
  unfold State.sendVc0
  split
  · split
    · split
      · exact s.portSend_frame _ _ _
      · exact ⟨rfl, rfl⟩
    · exact ⟨rfl, rfl⟩
  · exact ⟨rfl, rfl⟩

theorem State.sendVc0_each_frame (l : List (Nat × Nat)) (type : Nat) (payload : List Byte) (u : State) (h : u.corridor = s.corridor ∧ u.mem = s.mem) :
    (u.each l (fun s x => s.sendVc0 x.2 type x.1 payload)).corridor = s.corridor ∧ (u.each l (fun s x => s.sendVc0 x.2 type x.1 payload)).mem = s.mem :=
  State.each_induct (fun t => t.corridor = s.corridor ∧ t.mem = s.mem) _ _ _ h
    (fun t _ ht => ⟨(t.sendVc0_frame _ _ _ _).1.trans ht.1, (t.sendVc0_frame _ _ _ _).2.trans ht.2⟩)

end

/-- STOP_SEND broadcasts one STOP frame for the job (R331). -/
theorem stopSend_completes (who : Requester) (job : BitVec 32) (s : State) (h : s.reachesReg who .corridorStopSend 0 0 job.toNat = true)
    (opened : s.corridor.bypassOpen = true) (seated : s.seatValid = true) :
    Completes (.stopSend who job) s (fun u => u.mem = s.mem ∧ ∃ f : Frame, f.type = 2 ∧ f.bcast = true ∧ f.payload.take 4 = toBytes 4 job.toNat
      ∧ u.corridor.txq = s.corridor.txq ++ [(0, false, f)]) := by
  refine completes_of_reaches rfl (RegName.stands (by decide) rfl (by decide)) rfl job.isLt h (fun t ht => ?_)
  have hc : t.corridor = s.corridor := by rw [ht.fields]
  have hs : t.seatValid = true := by rw [State.seatValid, ht.fld (RegName.stands (by decide) rfl (by decide))]; exact seated
  have he : (t.writePlace who ⟨.corridorStopSend, 0, 0, 0⟩ job.toNat).1 = t.stopSend (BitVec.ofNat 32 job.toNat) := rfl
  rw [he, BitVec.ofNat_toNat, BitVec.setWidth_eq, State.stopSend]
  obtain ⟨hcor, hmem⟩ := (t.sendFrame tSTOP 0 true (payload32 (toBytes 4 job.toNat))).sendVc0_each_frame
    t.outSeats tSTOP (payload32 (toBytes 4 job.toNat)) _ ⟨rfl, rfl⟩
  rw [hcor, hmem, State.sendFrame, hc, opened, hs]
  exact ⟨ht.mem, _, rfl, rfl, rfl, rfl⟩

/-- STOP_CLEAR clears the STOPPED bits that it names (R331). -/
theorem stopClear_completes (who : Requester) (parts : BitVec 4) (s : State) (h : s.reachesReg who .corridorStopClear 0 0 parts.toNat = true) :
    Completes (.stopClear who parts) s (fun u => u.fld F.corridorStateStopped = s.fld F.corridorStateStopped &&& (15 - parts.toNat) ∧ u.mem = s.mem) := by
  refine completes_of_reaches rfl (RegName.stands (by decide) rfl (by decide)) rfl (by omega) h (fun t ht => ?_)
  have he : (t.writePlace who ⟨.corridorStopClear, 0, 0, 0⟩ parts.toNat).1 = t.stopClear (BitVec.ofNat 4 parts.toNat) := rfl
  rw [he, BitVec.ofNat_toNat, BitVec.setWidth_eq, State.stopClear, State.fld_setFld_same (by decide), ht.fld (f := F.corridorStateStopped) stands_corridorState]
  exact ⟨Nat.mod_eq_of_lt (Nat.lt_of_le_of_lt Nat.and_le_left (bits_lt _ _ 4)), ht.mem⟩

end Sys2Proof.Machine
end

section
/-!
SUPPORT. Commands of the power state (R394, R395, R400).
-/
namespace Sys2Proof.Machine
-- Proofs one after the other: each thread of the elaborator claims its whole stack.
set_option Elab.async false

/-! ## Registers of the stacks and of the Proctor -/

/-- A register of a block with four copies stands in each that holds it. -/
theorem stands_stack {n : RegName} {st : Nat} (h : st < 4) (hin : ∀ k : Fin 4, n.inInstance k = true := by decide) (hb : n.block.instances = 4 := by rfl)
    (hc : 0 < n.desc.count := by decide) : n.Stands st 0 := RegName.stands (hb ▸ h) (hin ⟨st, h⟩) hc
/-- A register that the first copy of its block holds stands there. -/
theorem stands_zero {n : RegName} (hin : n.inInstance 0 = true := by rfl) (hb : 0 < n.block.instances := by decide) (hc : 0 < n.desc.count := by decide) :
    n.Stands 0 0 := RegName.stands hb hin hc

/-- What one step of a sweep establishes and the others keep holds after the sweep. -/
theorem State.each_establishes {α : Type} (P : State → Prop) {l : List α} {a : α} (ha : a ∈ l) (f : State → α → State) (s : State)
    (hset : ∀ s, P (f s a)) (hkeep : ∀ s b, b ∈ l → P s → P (f s b)) : P (s.each l f) := by
  have keep : ∀ (m : List α), (∀ b ∈ m, b ∈ l) → ∀ s, P s → P (s.each m f) := by
    intro m
    induction m with
    | nil => exact fun _ _ h => h
    | cons b m ih =>
      intro hm s h
      exact ih (fun c hc => hm c (List.mem_cons_of_mem _ hc)) _ (hkeep s b (hm b List.mem_cons_self) h)
  obtain ⟨l1, l2, rfl⟩ := List.append_of_mem ha
  rw [State.each, List.foldl_append, List.foldl_cons]
  exact keep l2 (fun b hb => List.mem_append_right _ (List.mem_cons_of_mem _ hb)) _ (hset _)

theorem stackList_lt {set st : Nat} (h : st ∈ stackList set) : st < 4 := by
  have := (List.mem_filter.mp h).1
  simp only [List.mem_cons, List.not_mem_nil, or_false] at this
  omega

/-! ## What a waiting entry does not change -/

section
variable {s t : State} (ht : Entered s t)
include ht

theorem Entered.pstate {st : Nat} (h : st < 4) : t.pstate st = s.pstate st := ht.fld (f := F.powerPstateState) (stands_stack h)
theorem Entered.inReset (st : Nat) : t.inReset st = s.inReset st := by
  rw [State.inReset, State.inReset, ht.fld (f := F.proctorResetStatusInReset) stands_zero, ht.fld (f := F.proctorResetStatusWarm) stands_zero]
theorem Entered.partOf {st : Nat} (h : st < 4) : t.partOf st = s.partOf st := ht.fld (f := F.tutorSylStatePart) (stands_stack h)
theorem Entered.stacksOf (p : Nat) : t.stacksOf p = s.stacksOf p := by
  refine List.filter_congr (fun st h => ?_)
  rw [ht.partOf (by simp only [List.mem_cons, List.not_mem_nil, or_false] at h; omega)]
theorem Entered.splitsPartition (set : Nat) : t.splitsPartition (stackList set) = s.splitsPartition (stackList set) := by
  unfold State.splitsPartition
  congr 1
  rw [Bool.eq_iff_iff, List.any_eq_true, List.any_eq_true]
  exact exists_congr (fun st => and_congr_right (fun h => by rw [ht.partOf (stackList_lt h), ht.stacksOf]))
theorem Entered.powerCmd : t.powerCmd = s.powerCmd := by rw [ht.fields]
theorem Entered.activation : t.activation = s.activation := by rw [ht.fields]

/-- Every stack of a set is in a power state and out of reset. -/
theorem Entered.stacksIn {set state : Nat} (h : ∀ st ∈ stackList set, s.pstate st = state ∧ s.inReset st = false) :
    ∀ st ∈ stackList set, t.pstate st = state ∧ t.inReset st = false :=
  fun st hst => ⟨(ht.pstate (stackList_lt hst)).trans (h st hst).1, (ht.inReset st).trans (h st hst).2⟩

end

/-! ## Setting power states -/

section
variable (s : State) (set v : Nat)

theorem State.setPstate_regsKept : RegsKept (fun m _ _ => m ≠ .powerPstate) s (s.setPstate (stackList set) v) := by
  have keep : ∀ (l : List Nat), (∀ st ∈ l, st < 4) → ∀ t, RegsKept (fun m _ _ => m ≠ .powerPstate) s t → RegsKept (fun m _ _ => m ≠ .powerPstate) s (t.setPstate l v) := by
    intro l
    induction l with
    | nil => exact fun _ _ h => h
    | cons st l ih =>
      intro hl t h
      exact ih (fun k hk => hl k (List.mem_cons_of_mem _ hk)) _ (h.setReg v (stands_stack (hl st List.mem_cons_self)) (by simp))
  exact keep _ (fun st h => stackList_lt h) s (RegsKept.refl _ s)
theorem State.setPstate_mem (l : List Nat) : (s.setPstate l v).mem = s.mem :=
  State.each_induct (fun t => t.mem = s.mem) _ _ _ rfl (fun _ _ h => h)
theorem State.setPstate_pstate {st : Nat} (h : st ∈ stackList set) (hv : v < 8) : (s.setPstate (stackList set) v).pstate st = v := by
  have reads (t : State) (e : t.reg .powerPstate st = v % 2 ^ 32) : t.pstate st = v := by
    rw [State.pstate, State.fld, e]; simp only [bits]; omega
  refine reads _ (State.each_establishes (fun t => t.reg .powerPstate st = v % 2 ^ 32) h _ s (fun t => State.reg_setReg_same _ _ _ _ _) (fun t b hb ht => ?_))
  by_cases e : b = st
  · rw [e]; exact State.reg_setReg_same _ _ _ _ _
  · exact (State.reg_setReg_stands _ (stands_stack (stackList_lt hb)) (stands_stack (stackList_lt h)) (by simp [Ne.symm e])).trans ht

/-- A result that is given with its stacks reads as given. -/
theorem State.result_of_setStacks : ((s.setResult rPENDING).setFld F.powerPstateResultStacks 0 0 set).fld F.powerPstateResultResult = rPENDING :=
  (State.fld_setFld_apart (f := F.powerPstateResultStacks) (g := F.powerPstateResultResult) rfl (by decide) (by decide) _ _ _ _).trans
    (State.fld_setFld_same (by decide) _ _ _ _)

end

/-! ## RECESS and WAKE -/

/-- A RECESS that is accepted while no activation runs (R395). -/
theorem recessCommand_accepted {t : State} {set ms : Nat} (whole : t.splitsPartition (stackList set) = false) (idle : t.powerCmd = none)
    (quiet : t.activation = none) (ready : ∀ st ∈ stackList set, t.pstate st = pACTIVE ∧ t.inReset st = false) :
    recessCommand t set ms = (State.setPstate { (t.setResult rPENDING).setFld F.powerPstateResultStacks 0 0 set with
      powerCmd := some ⟨BitVec.ofNat 4 set, ms, false, false⟩ } (stackList set) pENTERING, true) := by
  have none : (stackList set).any (fun st => t.pstate st != pACTIVE || t.inReset st) = false :=
    List.any_eq_false.mpr (fun st h => by simp [(ready st h).1, (ready st h).2])
  unfold recessCommand
  dsimp only
  rw [whole, idle, none]
  simp [State.activatingOn, State.setResult, quiet]

/-- A WAKE that is accepted at once (R395, R400). -/
theorem wakeCommand_accepted {t : State} {set : Nat} (whole : t.splitsPartition (stackList set) = false) (idle : t.powerCmd = none)
    (ready : ∀ st ∈ stackList set, t.pstate st = pRECESS ∧ t.inReset st = false) : wakeCommand t set = (t.acceptWake set, true) := by
  have held : (stackList set).any (fun st => t.pstate st == pENTERING) = false := List.any_eq_false.mpr (fun st h => by simp [(ready st h).1])
  have none : (stackList set).any (fun st => (t.pstate st != pRECESS && t.pstate st != pENTERING) || t.inReset st) = false :=
    List.any_eq_false.mpr (fun st h => by simp [(ready st h).1, (ready st h).2])
  unfold wakeCommand
  dsimp only
  rw [whole, idle, held, none]
  rfl

theorem writePlace_pstateCmd (t : State) (who : Requester) (v : Nat) :
    t.writePlace who ⟨.powerPstateCmd, 0, 0, 0⟩ v = pstateWrite t who ⟨.powerPstateCmd, 0, 0, 0⟩ v := rfl

/-- RECESS of whole partitions that are ACTIVE puts their stacks in ENTERING (R395). -/
theorem recess_completes (who : Requester) (set : BitVec 4) (ms : BitVec 14) (s : State)
    (h : s.reachesReg who .powerPstateCmd 0 0 (1 + set.toNat * 2 ^ 4 + ms.toNat * 2 ^ 16) = true) (least : 1 ≤ ms.toNat) (most : ms.toNat ≤ 10000)
    (whole : s.splitsPartition (stackList set.toNat) = false) (idle : s.powerCmd = none) (quiet : s.activation = none)
    (ready : ∀ st ∈ stackList set.toNat, s.pstate st = pACTIVE ∧ s.inReset st = false) :
    Completes (.recess who set ms) s (fun u =>
      (∀ st ∈ stackList set.toNat, u.pstate st = pENTERING) ∧ u.fld F.powerPstateResultResult = rPENDING ∧ u.mem = s.mem) := by
  refine completes_of_reaches rfl stands_zero rfl (by omega) h (fun t ht => ?_)
  have hop : bits (1 + set.toNat * 2 ^ 4 + ms.toNat * 2 ^ 16) 0 2 = 1 := by simp only [bits]; omega
  have hset : bits (1 + set.toNat * 2 ^ 4 + ms.toNat * 2 ^ 16) 4 4 = set.toNat := by simp only [bits]; omega
  have hms : bits (1 + set.toNat * 2 ^ 4 + ms.toNat * 2 ^ 16) 16 14 = ms.toNat := by simp only [bits]; omega
  have hc := recessCommand_accepted (ms := ms.toNat) ((ht.splitsPartition _).trans whole) (ht.powerCmd.trans idle) (ht.activation.trans quiet) (ht.stacksIn ready)
  rw [writePlace_pstateCmd, pstateWrite, hop, hset, hms, hc]
  simp only [beq_self_eq_true, least, most, decide_true, Bool.and_self, if_true]
  exact ⟨fun st hst => State.setPstate_pstate _ _ _ hst (by decide),
    (RegsKept.fld (State.setPstate_regsKept _ _ _) (f := F.powerPstateResultResult) stands_zero (by simp)).trans (State.result_of_setStacks t _),
    (State.setPstate_mem _ _ _).trans ht.mem⟩

/-- WAKE of whole partitions in RECESS puts their stacks in WAKING (R400). -/
theorem wake_completes (who : Requester) (set : BitVec 4) (s : State) (h : s.reachesReg who .powerPstateCmd 0 0 (2 + set.toNat * 2 ^ 4) = true)
    (whole : s.splitsPartition (stackList set.toNat) = false) (idle : s.powerCmd = none)
    (ready : ∀ st ∈ stackList set.toNat, s.pstate st = pRECESS ∧ s.inReset st = false) :
    Completes (.wake who set) s (fun u =>
      (∀ st ∈ stackList set.toNat, u.pstate st = pWAKING) ∧ u.fld F.powerPstateResultResult = rPENDING ∧ u.mem = s.mem) := by
  refine completes_of_reaches rfl stands_zero rfl (by omega) h (fun t ht => ?_)
  have hop : bits (2 + set.toNat * 2 ^ 4) 0 2 = 2 := by simp only [bits]; omega
  have hset : bits (2 + set.toNat * 2 ^ 4) 4 4 = set.toNat := by simp only [bits]; omega
  have hc := wakeCommand_accepted ((ht.splitsPartition _).trans whole) (ht.powerCmd.trans idle) (ht.stacksIn ready)
  have he : (t.writePlace who ⟨.powerPstateCmd, 0, 0, 0⟩ (2 + set.toNat * 2 ^ 4)).1 = t.acceptWake set.toNat := by
    rw [writePlace_pstateCmd, pstateWrite, hop, hset, hc]; rfl
  rw [he, State.acceptWake]
  refine ⟨fun st hst => ?_, State.result_of_setStacks _ _, (State.setPstate_mem _ _ _).trans ht.mem⟩
  refine Eq.trans ?_ (State.setPstate_pstate t set.toNat pWAKING hst (by decide))
  have first := State.fld_setFld_stands (f := F.powerPstateResultResult) (g := F.powerPstateState) (t.setPstate (stackList set.toNat) pWAKING) rPENDING
    (stands_zero) (stands_stack (stackList_lt hst)) (by simp)
  have second := State.fld_setFld_stands (f := F.powerPstateResultStacks) (g := F.powerPstateState) ((t.setPstate (stackList set.toNat) pWAKING).setResult rPENDING) set.toNat
    (stands_zero) (stands_stack (stackList_lt hst)) (by simp)
  exact second.trans first

end Sys2Proof.Machine
end

section
/-!
SUPPORT. Writes of the power cap, the host limit, a sensor's SUSPECT bit, the minimum version, a Diary index and LINK_HOLD (R404, R411, R414, R464, R486).
-/
namespace Sys2Proof.Machine
-- Proofs one after the other: each thread of the elaborator claims its whole stack.
set_option Elab.async false

/-! ## Rates -/

/-- The registers that no new rate changes. -/
def RegName.notRate (n : RegName) (_ _ : Nat) : Prop := n ≠ .powerLimits ∧ n ≠ .powerRate

section
variable (s : State)

theorem State.setRates_regsKept {st : Nat} (h : st < 4) : RegsKept RegName.notRate s (s.setRates st) :=
  ((RegsKept.refl _ s).setReg _ (n := .powerLimits) (stands_stack h) (by simp [RegName.notRate])).setReg _ (n := .powerRate) (stands_stack h) (by simp [RegName.notRate])
theorem State.setRates_mem (st : Nat) : (s.setRates st).mem = s.mem := rfl
theorem State.setAllRates_regsKept : RegsKept RegName.notRate s s.setAllRates :=
  (((s.setRates_regsKept (st := 0) (by decide)).trans (State.setRates_regsKept _ (st := 1) (by decide))).trans
    (State.setRates_regsKept _ (st := 2) (by decide))).trans (State.setRates_regsKept _ (st := 3) (by decide))
theorem State.setAllRates_mem : s.setAllRates.mem = s.mem := State.each_induct (fun t => t.mem = s.mem) _ _ _ rfl (fun _ _ h => h)

end

/-! ## The cap (R404) -/

/-- EFFECTIVE_W follows REQUESTED_W and the floor, and a request below the floor is reported (R404). -/
theorem State.setEffective_spec (t : State) :
    t.setEffective.fld F.powerCapRequestedW = t.fld F.powerCapRequestedW
      ∧ t.setEffective.fld F.powerCapEffectiveW = max (t.fld F.powerCapRequestedW) (t.fld F.powerFloorW)
      ∧ (t.fld F.powerCapRequestedW < t.fld F.powerFloorW → t.setEffective.fld F.powerCapBelowFloor = 1) ∧ t.setEffective.mem = t.mem := by
  have hw : t.fld F.powerCapRequestedW < 2 ^ 13 := bits_lt _ _ 13
  have hf : t.fld F.powerFloorW < 2 ^ 13 := bits_lt _ _ 13
  unfold State.setEffective
  dsimp only
  generalize he : t.setFld F.powerCapEffectiveW 0 0 (max (t.fld F.powerCapRequestedW) (t.fld F.powerFloorW)) = e
  have asked : e.fld F.powerCapRequestedW = t.fld F.powerCapRequestedW := by
    rw [← he]; exact State.fld_setFld_apart (f := F.powerCapEffectiveW) (g := F.powerCapRequestedW) rfl (by decide) (by decide) _ _ _ _
  have given : e.fld F.powerCapEffectiveW = max (t.fld F.powerCapRequestedW) (t.fld F.powerFloorW) := by
    rw [← he]; exact (State.fld_setFld_same (by decide) _ _ _ _).trans (Nat.mod_eq_of_lt (max_lt hw hf))
  have mem : e.mem = t.mem := by rw [← he]; rfl
  split
  · have entry (f : RegField) (hf : f.reg = .powerCap) (u : State) (a b : Nat) :
        (u.diary originModule .capBelowFloor a b).fld f = u.fld f :=
      RegsKept.fld (u.diary_regsKept _ _ _ _) (by rw [hf]; exact stands_zero) (by rw [hf]; simp)
    refine ⟨?_, ?_, fun _ => ?_, by rw [State.diary_mem]; exact mem⟩
    · rw [entry _ rfl]
      exact (State.fld_setFld_apart (f := F.powerCapBelowFloor) (g := F.powerCapRequestedW) rfl (by decide) (by decide) _ _ _ _).trans asked
    · rw [entry _ rfl]
      exact (State.fld_setFld_apart (f := F.powerCapBelowFloor) (g := F.powerCapEffectiveW) rfl (by decide) (by decide) _ _ _ _).trans given
    · rw [entry _ rfl]
      exact State.fld_setFld_same (by decide) _ _ _ _
  · next hge => exact ⟨asked, given, fun hlt => absurd hlt hge, mem⟩

/-- CAP_WRITE sets the cap, which is never below the floor (R404). -/
theorem capWrite_completes (who : Requester) (w : BitVec 13) (s : State) (h : s.reachesReg who .powerCap 0 0 w.toNat = true) (least : 1 ≤ w.toNat)
    (most : w.toNat ≤ 5800) : Completes (.capWrite who w) s (fun u =>
      u.fld F.powerCapRequestedW = w.toNat ∧ u.fld F.powerCapEffectiveW = max w.toNat (s.fld F.powerFloorW)
        ∧ (w.toNat < s.fld F.powerFloorW → u.fld F.powerCapBelowFloor = 1) ∧ u.mem = s.mem) := by
  have hlt : w.toNat < 2 ^ 13 := w.isLt
  refine completes_of_reaches rfl stands_zero rfl (by omega) h (fun t ht => ?_)
  have hbit : bitOf w.toNat 29 = false := by simp only [bitOf, beq_eq_false_iff_ne]; omega
  have hbits : bits w.toNat 0 13 = w.toNat := by simp only [bits]; omega
  have hok : capOk w.toNat = true := by simp only [capOk, Bool.and_eq_true, bne_iff_ne, decide_eq_true_eq]; omega
  have he : (t.writePlace who ⟨.powerCap, 0, 0, 0⟩ w.toNat).1 = t.setCap w.toNat := by
    have e : t.writePlace who ⟨.powerCap, 0, 0, 0⟩ w.toNat = capRegWrite t who ⟨.powerCap, 0, 0, 0⟩ w.toNat := rfl
    rw [e, capRegWrite, hbit, hbits, hok]; rfl
  rw [he, State.setCap]
  obtain ⟨asked, given, below, mem⟩ := (t.setFld F.powerCapRequestedW 0 0 w.toNat).setEffective_spec
  have request : (t.setFld F.powerCapRequestedW 0 0 w.toNat).fld F.powerCapRequestedW = w.toNat :=
    (State.fld_setFld_same (by decide) _ _ _ _).trans (Nat.mod_eq_of_lt hlt)
  have floor : (t.setFld F.powerCapRequestedW 0 0 w.toNat).fld F.powerFloorW = s.fld F.powerFloorW :=
    (State.fld_setFld_stands (f := F.powerCapRequestedW) (g := F.powerFloorW) _ _ stands_zero stands_zero (by simp)).trans (ht.fld (f := F.powerFloorW) stands_zero)
  rw [request] at asked given below
  rw [floor] at given below
  have rates (f : RegField) (hf : f.reg = .powerCap) (u : State) : u.setAllRates.fld f = u.fld f :=
    RegsKept.fld u.setAllRates_regsKept (by rw [hf]; exact stands_zero) (by rw [hf]; simp [RegName.notRate])
  exact ⟨(rates _ rfl _).trans asked, (rates _ rfl _).trans given, fun hb => (rates _ rfl _).trans (below hb),
    (State.setAllRates_mem _).trans (mem.trans ht.mem)⟩

/-! ## Registers of one stack -/

/-- HOST_LIMIT_WRITE sets the rate where it is allowed (R411). -/
theorem hostLimitWrite_completes (who : Requester) (st : StackId) (n : BitVec 7) (s : State) (h : s.reachesReg who .powerHostLimit st 0 n.toNat = true) :
    Completes (.hostLimitWrite who st n) s (fun u =>
      u.fld F.powerHostLimitRate st = (if 1 ≤ n.toNat ∧ n.toNat ≤ 64 then n.toNat else s.fld F.powerHostLimitRate st) ∧ u.mem = s.mem) := by
  have hlt : n.toNat < 2 ^ 7 := n.isLt
  refine completes_of_reaches rfl (stands_stack st.isLt) rfl (by omega) h (fun t ht => ?_)
  have hbits : bits n.toNat 0 7 = n.toNat := by simp only [bits]; omega
  have e : t.writePlace who ⟨.powerHostLimit, st, 0, 0⟩ n.toNat
      = if hostLimitOk (bits n.toNat 0 7) then accept (t.setHostLimit st (bits n.toNat 0 7)) else t.refuse who ⟨.powerHostLimit, st, 0, 0⟩ := rfl
  rw [e, hbits]
  by_cases hok : 1 ≤ n.toNat ∧ n.toNat ≤ 64
  · rw [if_pos (by simpa [hostLimitOk] using hok), if_pos hok]
    have kept := RegsKept.fld (f := F.powerHostLimitRate) ((t.setFld F.powerHostLimitRate st 0 n.toNat).setRates_regsKept st.isLt) (stands_stack st.isLt) (by simp [RegName.notRate])
    exact ⟨kept.trans ((State.fld_setFld_same (by decide) _ _ _ _).trans (Nat.mod_eq_of_lt hlt)), ht.mem⟩
  · rw [if_neg (by simpa [hostLimitOk] using hok), if_neg hok]
    have kept := RegsKept.fld (f := F.powerHostLimitRate) (t.accessError_regsKept who (Place.accessOff ⟨.powerHostLimit, st, 0, 0⟩)) (stands_stack st.isLt)
      (by simp [RegName.logged])
    exact ⟨kept.trans (ht.fld (f := F.powerHostLimitRate) (stands_stack st.isLt)), (t.accessError_mem who _).trans ht.mem⟩

theorem stands_sensor (st : StackId) (k : Fin 44) : RegName.Stands .thermalSensor st k := RegName.stands st.isLt rfl k.isLt

theorem State.clearSuspect_suspect (t : State) (st : StackId) (k : Fin 44) : (t.clearSuspect st k).fld F.thermalSensorSuspect st k = 0 :=
  (State.fld_setFld_stands (f := F.thermalStatusSuspect) (g := F.thermalSensorSuspect) _ _ (stands_stack st.isLt) (stands_sensor st k) (by simp)).trans
    (State.fld_setFld_same (f := F.thermalSensorSuspect) (by decide) t st k 0)

theorem State.loop_setFld (s : State) (f : RegField) (i j v k : Nat) : (s.setFld f i j v).loop k = s.loop k := rfl
theorem State.clearSuspect_loop (t : State) (st k : Nat) :
    (t.clearSuspect st k).loop st = { t.loop st with diffCount := Tab.set 0 (t.loop st).diffCount k 0 } := by
  unfold State.clearSuspect
  dsimp only
  rw [State.loop_setFld, State.loop_setLoop_same, State.loop_setFld]

/-- SUSPECT_CLEAR clears the sensor's bit and restarts its comparison (R414). -/
theorem suspectClear_completes (who : Requester) (st : StackId) (k : Fin 44) (s : State) (h : s.reachesReg who .thermalSensor st k (2 ^ 25) = true) :
    Completes (.suspectClear who st k) s (fun u => u.fld F.thermalSensorSuspect st k = 0 ∧ Tab.get 0 (u.loop st).diffCount k = 0 ∧ u.mem = s.mem) := by
  refine completes_of_reaches rfl (stands_sensor st k) rfl (by norm_num) h (fun t ht => ?_)
  have he : (t.writePlace who ⟨.thermalSensor, st, k, 0⟩ (2 ^ 25)).1 = t.clearSuspect st k := by
    have e : t.writePlace who ⟨.thermalSensor, st, k, 0⟩ (2 ^ 25) = accept (if bitOf (2 ^ 25) 25 then t.clearSuspect st k else t) := rfl
    rw [e, show bitOf (2 ^ 25) 25 = true by norm_num [bitOf]]; rfl
  rw [he]
  refine ⟨t.clearSuspect_suspect st k, ?_, ht.mem⟩
  rw [State.clearSuspect_loop]
  exact Tab.get_set_same _ _ _ _

/-! ## Registers of the Proctor and of a host port -/

/-- FW_SVN_COMMIT raises the minimum to the current version (R464). -/
theorem fwSvnCommit_completes (who : Requester) (s : State) (h : s.reachesReg who .secFwSvnCommit 0 0 1 = true) (below : s.fld F.secFwSvnMin < s.fld F.secFwSvnCurrent) :
    Completes (.fwSvnCommit who) s (fun u => u.fld F.secFwSvnMin = s.fld F.secFwSvnCurrent ∧ u.mem = s.mem) := by
  refine completes_of_reaches rfl stands_zero rfl (by decide) h (fun t ht => ?_)
  have hcur : t.fld F.secFwSvnCurrent = s.fld F.secFwSvnCurrent := ht.fld (f := F.secFwSvnCurrent) stands_zero
  have hmin : t.fld F.secFwSvnMin = s.fld F.secFwSvnMin := ht.fld (f := F.secFwSvnMin) stands_zero
  have he : (t.writePlace who ⟨.secFwSvnCommit, 0, 0, 0⟩ 1).1 = t.setFld F.secFwSvnMin 0 0 (t.fld F.secFwSvnCurrent) := by
    have e : t.writePlace who ⟨.secFwSvnCommit, 0, 0, 0⟩ 1 = t.takeOr who ⟨.secFwSvnCommit, 0, 0, 0⟩ t.svnCommit := rfl
    rw [e, State.svnCommit, if_pos (by rw [hcur, hmin]; exact below)]; rfl
  rw [he, State.fld_setFld_same (by decide), hcur]
  exact ⟨Nat.mod_eq_of_lt (bits_lt _ _ 6), ht.mem⟩

/-- DIARY_INDEX_WRITE sets the index of its requester (R486). -/
theorem diaryIndexWrite_completes (who : Requester) (x : Bool) (n : BitVec 32) (s : State)
    (h : s.reachesReg who (if x then .diarySealIndex else .diaryEntryIndex) 0 0 n.toNat = true) :
    Completes (.diaryIndexWrite who x n) s (fun u => u.diaryIndex who x = n.toNat ∧ u.mem = s.mem) := by
  cases x with
  | false => exact completes_of_reaches rfl stands_zero rfl n.isLt h (fun t ht => ⟨Tab.get_set_same _ _ _ _, ht.mem⟩)
  | true => exact completes_of_reaches rfl stands_zero rfl n.isLt h (fun t ht => ⟨Tab.get_set_same _ _ _ _, ht.mem⟩)

/-- A write of LINK_HOLD sets it where its value is allowed (R10, R482). -/
theorem linkHold_completes (who : Requester) (p : HostPort) (v : Word) (s : State) (h : s.reachesReg who .hostLinkHold p 0 v.toNat = true) (small : v.toNat < 65536) :
    Completes (.registerWrite who (RegName.hostLinkHold.addr p 0) 4 v) s (fun u => u.mem = s.mem
      ∧ u.fld F.hostLinkHoldMs p = (if 1 ≤ v.toNat ∧ v.toNat ≤ 60000 then v.toNat else s.fld F.hostLinkHoldMs p)) := by
  have hst : RegName.Stands .hostLinkHold p 0 := RegName.stands p.isLt rfl (by decide)
  refine completes_of_reaches rfl hst rfl (by omega) h (fun t ht => ?_)
  have hbits : bits v.toNat 0 16 = v.toNat := by simp only [bits]; omega
  have e : t.writePlace who ⟨.hostLinkHold, p, 0, 0⟩ v.toNat = t.writePlain who ⟨.hostLinkHold, p, 0, 0⟩ v.toNat := rfl
  have hf : t.writeFields ⟨.hostLinkHold, p, 0, 0⟩ v.toNat = if (1 ≤ bits v.toNat 0 16 && bits v.toNat 0 16 ≤ 60000) = true
      then (putBits (t.reg .hostLinkHold p 0) 0 16 (bits v.toNat 0 16), true) else (t.reg .hostLinkHold p 0, false) := rfl
  rw [e, State.writePlain, hf, hbits]
  by_cases hok : 1 ≤ v.toNat ∧ v.toNat ≤ 60000
  · rw [if_pos (by simpa using hok), if_pos hok]
    exact ⟨ht.mem, (State.fld_setFld_same (f := F.hostLinkHoldMs) (by decide) t p 0 _).trans (Nat.mod_eq_of_lt small)⟩
  · rw [if_neg (by simpa using hok), if_neg hok]
    have kept := RegsKept.fld (f := F.hostLinkHoldMs) ((t.setReg .hostLinkHold p 0 (t.reg .hostLinkHold p 0)).accessError_regsKept who (Place.accessOff ⟨.hostLinkHold, p, 0, 0⟩)) hst
      (by simp [RegName.logged])
    have same : (t.setReg .hostLinkHold p 0 (t.reg .hostLinkHold p 0)).fld F.hostLinkHoldMs p = t.fld F.hostLinkHoldMs p := by
      rw [State.fld, State.reg_setReg_same, bits_mod _ (by decide)]; rfl
    exact ⟨(State.accessError_mem _ who _).trans ht.mem, kept.trans (same.trans (ht.fld (f := F.hostLinkHoldMs) hst))⟩

end Sys2Proof.Machine
end

section
/-!
SUPPORT. What the accesses of a Tutor to memory leave: the registers of its rules (R206 to R217, R228, R392).
-/
namespace Sys2Proof.Machine
-- Proofs one after the other: each thread of the elaborator claims its whole stack.
set_option Elab.async false

/-! ## The registers of the rules -/

/-- RULE_STATUS and RULE_LAST_STEP of a stack. -/
def State.ruleRegs (s : State) (k : Fin 4) : Nat × Nat := (s.reg .tutorRuleStatus k, s.reg .tutorRuleLastStep k)

/-- The rules' registers stand below every register of the blocks after the Tutors'. -/
theorem rule_addr_lt (k : Fin 4) : RegName.tutorRuleStatus.addr k < 0x80000 ∧ RegName.tutorRuleLastStep.addr k < 0x80000 := by revert k; decide

section
variable {s u : State} (k : Fin 4)

theorem State.ruleRegs_of_regs (h : u.regs = s.regs) : u.ruleRegs k = s.ruleRegs k := by simp only [State.ruleRegs, State.reg, h]

/-- A register of a block after the Tutors' is none of the rules'. -/
theorem State.ruleRegs_setReg {n : RegName} (h : 0x80000 ≤ n.block.base) (i j v : Nat) : (s.setReg n i j v).ruleRegs k = s.ruleRegs k := by
  have hb : n.block.base ≤ n.addr i j := by unfold RegName.addr; omega
  obtain ⟨h1, h2⟩ := rule_addr_lt k
  simp only [State.ruleRegs, State.reg_setReg_other s n .tutorRuleStatus i j k 0 v (by omega), State.reg_setReg_other s n .tutorRuleLastStep i j k 0 v (by omega)]
theorem State.ruleRegs_setFld {f : RegField} (h : 0x80000 ≤ f.reg.block.base) (i j v : Nat) : (s.setFld f i j v).ruleRegs k = s.ruleRegs k :=
  State.ruleRegs_setReg k h i j _
theorem State.ruleRegs_bump {f : RegField} (h : 0x80000 ≤ f.reg.block.base) (i j v : Nat) : (s.bump f i j v).ruleRegs k = s.ruleRegs k :=
  State.ruleRegs_setReg k h i j _
theorem State.ruleRegs_bumpSat {f : RegField} (h : 0x80000 ≤ f.reg.block.base) (i j v : Nat) : (s.bumpSat f i j v).ruleRegs k = s.ruleRegs k :=
  State.ruleRegs_setReg k h i j _

theorem State.ruleRegs_of_kept (h : RegsKept (fun m _ _ => m.block = .tutor) s u) : u.ruleRegs k = s.ruleRegs k := by
  simp only [State.ruleRegs, h .tutorRuleStatus k 0 (stands_stack k.isLt) rfl, h .tutorRuleLastStep k 0 (stands_stack k.isLt) rfl]

/-- A sweep whose steps leave the rules' registers leaves them. -/
theorem State.ruleRegs_each {α : Type} (f : State → α → State) (h : ∀ s a, (f s a).ruleRegs k = s.ruleRegs k) (s : State) (l : List α) :
    (s.each l f).ruleRegs k = s.ruleRegs k := State.each_induct (fun t => t.ruleRegs k = s.ruleRegs k) _ _ _ rfl (fun t a ht => (h t a).trans ht)

end

/-- What an operation answers, if it does, has the rules' registers of `s`. -/
def RulesKept (k : Fin 4) (s : State) (o : Option State) : Prop := ∀ t, o = some t → t.ruleRegs k = s.ruleRegs k

section
variable {k : Fin 4} {s : State}

theorem RulesKept.none : RulesKept k s none := fun _ h => nomatch h
theorem RulesKept.some {u : State} (h : u.ruleRegs k = s.ruleRegs k) : RulesKept k s (some u) := fun _ e => by cases e; exact h
theorem RulesKept.getD {o : Option State} {u : State} (h : RulesKept k s o) (hu : u.ruleRegs k = s.ruleRegs k) : (o.getD u).ruleRegs k = s.ruleRegs k := by
  cases o with
  | none => exact hu
  | some t => exact h t rfl
theorem RulesKept.mono {t : State} {o : Option State} (h : RulesKept k t o) (ht : t.ruleRegs k = s.ruleRegs k) : RulesKept k s o :=
  fun u e => (h u e).trans ht

end

/-! ## The slices' own operations -/

/-- No register of a Tutor is one of the log's. -/
theorem RegName.logged_tutor {n : RegName} (h : n.block = .tutor) : n.logged = false := by
  have k := RegName.forall_of_all (p := fun n => !(n.block == .tutor) || !n.logged) (by decide +kernel) n
  simpa [h] using k

section
variable (s : State) (k : Fin 4)

theorem State.logError_ruleRegs (b : Block) (inst code d0 d1 : Nat) {cls : Nat} (h : cls < 4 := by decide) :
    (s.logError b inst cls code d0 d1).ruleRegs k = s.ruleRegs k := by
  have count : RegsKept (fun m _ _ => m.block = .tutor) s (s.bumpSat F.proctorErrlogClassCount 0 cls 1) :=
    (RegsKept.refl _ s).setFld (f := F.proctorErrlogClassCount) _ (stands_errlogClass h) (by decide)
  exact State.ruleRegs_of_kept k (count.trans ((State.logError_logs s b inst cls code d0 d1).regsKept.mono (fun _ _ _ hm => RegName.logged_tutor hm)))

theorem State.noteHold_ruleRegs (n : Nat) : (s.noteHold n).ruleRegs k = s.ruleRegs k :=
  (State.ruleRegs_setFld k (f := F.sliceHoldPeak) (by decide) _ _ _).trans (State.ruleRegs_setFld k (f := F.sliceHoldInUse) (by decide) _ _ _)
theorem State.countWriteback_ruleRegs (n : Nat) (dirty : BitVec 4) : (s.countWriteback n dirty).ruleRegs k = s.ruleRegs k :=
  (State.ruleRegs_bump k (f := F.hbmWriteSectorsCount) (by decide) _ _ _).trans (State.ruleRegs_bump k (f := F.sliceWritebacksCount) (by decide) _ _ _)
theorem State.leaveSlice_ruleRegs (line : Nat) (valid dirty : BitVec 4) : (s.leaveSlice line valid dirty).ruleRegs k = s.ruleRegs k := by
  refine State.ruleRegs_each k _ (fun t a => ?_) s _
  dsimp only
  split
  · split <;> rfl
  · rfl
theorem State.hbmBad_ruleRegs (a d1 : Nat) : (s.hbmBad a d1).ruleRegs k = s.ruleRegs k :=
  (State.logError_ruleRegs _ k _ _ _ _ _).trans (State.ruleRegs_bumpSat k (f := F.hbmUncorrectedCount) (by decide) _ _ _)
theorem State.hbmCheck_ruleRegs (a : Nat) : (s.hbmCheck a).ruleRegs k = s.ruleRegs k := by
  unfold State.hbmCheck
  dsimp only
  split
  · rfl
  · split
    · exact State.ruleRegs_bumpSat k (f := F.hbmCorrectedCount) (by decide) _ _ _
    · exact State.hbmBad_ruleRegs _ k _ _
theorem State.arrayCorrected_ruleRegs (n : Nat) (o : Option Nat) : (s.arrayCorrected n o).ruleRegs k = s.ruleRegs k := by
  cases o with
  | none => exact State.ruleRegs_bumpSat k (f := F.sliceEccCorrectedCount) (by decide) _ _ _
  | some x => exact State.ruleRegs_bumpSat k (f := F.sliceEccCorrectedCount) (by decide) _ _ _
theorem State.arrayCheck_ruleRegs (a : Nat) (kind : AccessKind) : (s.arrayCheck a kind).ruleRegs k = s.ruleRegs k := by
  unfold State.arrayCheck
  dsimp only
  split
  · rfl
  · split
    · exact State.arrayCorrected_ruleRegs _ k _ _
    · exact (State.logError_ruleRegs _ k _ _ _ _ _).trans (State.ruleRegs_bumpSat k (f := F.sliceEccUncorrectedCount) (by decide) _ _ _)
theorem State.readLine_ruleRegs (line : Nat) (dirty : BitVec 4) : (s.readLine line dirty).ruleRegs k = s.ruleRegs k :=
  State.ruleRegs_each k _ (fun t _ => t.arrayCheck_ruleRegs k _ _) s _
theorem State.replaceHbm_ruleRegs (line : Nat) (dirty : BitVec 4) : (s.replaceHbm line dirty).ruleRegs k = s.ruleRegs k :=
  State.ruleRegs_each k _ (fun t a => by split <;> rfl) s _
theorem State.freeOldest_ruleRegs (n : Nat) : (s.freeOldest n).ruleRegs k = s.ruleRegs k := by
  unfold State.freeOldest
  split
  · rfl
  · next h rest _ =>
    have back : (if h.again = 0 then s else s.countWriteback n h.again).ruleRegs k = s.ruleRegs k := by
      split
      · rfl
      · exact s.countWriteback_ruleRegs k _ _
    exact (State.noteHold_ruleRegs _ k _).trans ((State.replaceHbm_ruleRegs _ k _ _).trans ((State.leaveSlice_ruleRegs _ k _ _ _).trans back))

theorem State.addHold_ruleRegs (n line : Nat) (valid dirty : BitVec 4) (wait : Bool) : RulesKept k s (s.addHold n line valid dirty wait) := by
  unfold State.addHold
  split
  · exact .none
  · have room : (if (s.slice n).hold.length ≥ 32 then s.freeOldest n else s).ruleRegs k = s.ruleRegs k := by
      split
      · exact s.freeOldest_ruleRegs k _
      · rfl
    exact .some ((State.noteHold_ruleRegs _ k _).trans ((State.countWriteback_ruleRegs _ k _ _).trans room))

/-- A line that is put in the place of an old one: the old one goes at once, or to the hold buffer. -/
theorem State.evict_ruleRegs (u : State) (h : u.ruleRegs k = s.ruleRegs k) (n : Nat) (old : CacheLine) (wait : Bool) :
    RulesKept k s ((if old.dirty = 0 then some ((u.readLine old.line old.dirty).leaveSlice old.line old.valid 0, some old.way)
      else ((u.readLine old.line old.dirty).addHold n old.line old.valid old.dirty wait).map (fun t => (t, some old.way))).map Prod.fst) := by
  have read := (u.readLine_ruleRegs k old.line old.dirty).trans h
  split
  · simp only [Option.map_some]
    exact .some ((State.leaveSlice_ruleRegs _ k _ _ _).trans read)
  · rw [Option.map_map]
    exact RulesKept.mono (by simpa only [Function.comp_def, Option.map_id'] using State.addHold_ruleRegs _ k _ _ _ _ _) read

theorem State.allocate_ruleRegs (n line set : Nat) (wait : Bool) : RulesKept k s ((s.allocate n line set wait).map Prod.fst) := by
  unfold State.allocate
  dsimp only
  split
  · rw [Option.map_some]
    exact .some rfl
  · split
    · split
      · exact s.evict_ruleRegs k (s.setSlice n _) rfl n _ wait
      · rw [Option.map_some]
        exact .some rfl
    · rw [Option.map_some]
      exact .some rfl

theorem State.countHit_ruleRegs (n cls : Nat) (hit : Bool) : (s.countHit n cls hit).ruleRegs k = s.ruleRegs k := by
  cases hit with
  | true => exact State.ruleRegs_bump k (f := F.sliceHitCount) (by decide) _ _ _
  | false => exact State.ruleRegs_bump k (f := F.sliceMissCount) (by decide) _ _ _
theorem State.countFetch_ruleRegs (a : Nat) : (s.countFetch a).ruleRegs k = s.ruleRegs k :=
  (State.hbmCheck_ruleRegs _ k _).trans (State.ruleRegs_bump k (f := F.hbmReadSectorsCount) (by decide) _ _ _)

/-- A choice between two states that have the rules' registers of `s`. -/
theorem State.ite_ruleRegs {u v : State} (p : Prop) [Decidable p] (hu : u.ruleRegs k = s.ruleRegs k) (hv : v.ruleRegs k = s.ruleRegs k) :
    (if p then u else v).ruleRegs k = s.ruleRegs k := by split <;> assumption

/-- A reduction that merges in the hold buffer is counted. -/
theorem State.countMerge_ruleRegs (n : Nat) (p : Prop) [Decidable p] : (if p then s.bump F.sliceHoldMergesCount n 0 1 else s).ruleRegs k = s.ruleRegs k :=
  s.ite_ruleRegs k p (State.ruleRegs_bump k (f := F.sliceHoldMergesCount) (by decide) _ _ _) rfl

/-- A sector that an access misses is fetched now, or later. -/
theorem State.fetch_ruleRegs (n a : Nat) (q : Slice) (p : Prop) [Decidable p] (pend : Bool) :
    (if p then s else if pend = true then s.setSlice n q else s.countFetch a).ruleRegs k = s.ruleRegs k :=
  s.ite_ruleRegs k p rfl (s.ite_ruleRegs k _ rfl (s.countFetch_ruleRegs k a))

theorem State.cacheAccess_ruleRegs (a cls : Nat) (kind : AccessKind) (pend : Bool) : RulesKept k s (s.cacheAccess a cls kind pend) := by
  have hitChecked (hit : Bool) : ((s.countHit (homeSlice a) cls hit).arrayCheck a kind).ruleRegs k = s.ruleRegs k :=
    (State.arrayCheck_ruleRegs _ k _ _).trans (s.countHit_ruleRegs k _ _ _)
  unfold State.cacheAccess
  dsimp only
  split
  · exact .some ((State.countMerge_ruleRegs _ k _ _).trans ((State.ite_ruleRegs _ k _ rfl (State.countFetch_ruleRegs _ k _)).trans (hitChecked _)))
  · split
    · exact .some ((State.fetch_ruleRegs _ k _ _ _ _ _).trans (hitChecked _))
    · have room := s.allocate_ruleRegs k (homeSlice a) (a / 128) (setOf a) pend
      split
      · exact .none
      · next u w e =>
        have kept := room u (by rw [e]; rfl)
        exact .some ((State.fetch_ruleRegs _ k _ _ _ _ _).trans ((State.countHit_ruleRegs _ k _ _ _).trans kept))
      · next u e =>
        have kept := room u (by rw [e]; rfl)
        split
        · exact .some ((State.fetch_ruleRegs _ k _ _ _ _ _).trans ((State.countHit_ruleRegs _ k _ _ _).trans kept))
        · have held := u.addHold_ruleRegs k (homeSlice a) (a / 128) (sectorBit a) (sectorBit a) pend
          split
          · exact .none
          · next v e2 =>
            exact .some ((State.countMerge_ruleRegs _ k _ _).trans ((State.ite_ruleRegs _ k _ rfl (State.countFetch_ruleRegs _ k _)).trans
              ((State.countHit_ruleRegs _ k _ _ _).trans ((held v e2).trans kept))))

theorem State.sectorAccess_ruleRegs (a cls : Nat) (kind : AccessKind) (pend : Bool) : RulesKept k s (s.sectorAccess a cls kind pend) := by
  unfold State.sectorAccess
  split
  · exact .some ((State.arrayCheck_ruleRegs _ k _ _).trans (State.ruleRegs_bump k (f := F.sliceScratchSectorsCount) (by decide) _ _ _))
  · split
    · exact .some rfl
    · exact s.cacheAccess_ruleRegs k _ _ _ _
  · exact .some rfl

end

/-! ## Accesses of units -/

section
variable (s : State) (k : Fin 4)

theorem State.recordDiscard_ruleRegs (a : Nat) : (s.recordDiscard a).ruleRegs k = s.ruleRegs k := State.logError_ruleRegs _ k _ _ _ _ _
theorem State.setBytes_ruleRegs (a : Nat) (l : List Byte) : (s.setBytes a l).ruleRegs k = s.ruleRegs k :=
  State.ruleRegs_of_regs k (by rw [State.setBytes_eq])

theorem State.writePiece_ruleRegs (cls a : Nat) (data : List Byte) (p pend : Bool) : RulesKept k s (s.writePiece cls a data p pend) := by
  unfold State.writePiece
  dsimp only
  split
  · exact .some (s.recordDiscard_ruleRegs k a)
  · split
    · exact .none
    · next u e =>
      have kept := (u.setBytes_ruleRegs k a data).trans (s.sectorAccess_ruleRegs k _ _ _ _ u e)
      exact .some (s.ite_ruleRegs k _ kept kept)

theorem State.reduceInts_ruleRegs (cls a size csize : Nat) (xs : List Nat) (pend : Bool) : RulesKept k s (s.reduceInts cls a size csize xs pend) := by
  unfold State.reduceInts
  split
  · exact .some (s.recordDiscard_ruleRegs k a)
  · split
    · exact .none
    · next u e =>
      have counted := (State.ruleRegs_bump k (f := F.sliceReductionsCount) (by decide) (homeSlice a) 0 1).trans (s.sectorAccess_ruleRegs k _ _ _ _ u e)
      exact .some ((State.ruleRegs_each k _ (fun t _ => t.setBytes_ruleRegs k _ _) _ _).trans counted)
theorem State.reduceStats_ruleRegs (cls a : Nat) (r : Stats) (pend : Bool) : RulesKept k s (s.reduceStats cls a r pend) := by
  unfold State.reduceStats
  split
  · exact .some (s.recordDiscard_ruleRegs k a)
  · split
    · exact .none
    · next u e =>
      have counted := (State.ruleRegs_bump k (f := F.sliceReductionsCount) (by decide) (homeSlice a) 0 1).trans (s.sectorAccess_ruleRegs k _ _ _ _ u e)
      exact .some ((State.setBytes_ruleRegs _ k _ _).trans counted)

theorem State.writePieces_ruleRegs (cls a : Nat) (data : List Byte) (p pend : Bool) : RulesKept k s (s.writePieces cls a data p pend) := by
  unfold State.writePieces
  have fold : ∀ (l : List (Nat × Nat)) (o : Option State), RulesKept k s o → RulesKept k s (l.foldl (fun (r : Option State) pc =>
      r.bind (fun s => s.writePiece cls pc.1 ((data.drop (pc.1 - a)).take pc.2) p pend)) o) := by
    intro l
    induction l with
    | nil => exact fun _ h => h
    | cons pc l ih =>
      intro o h
      refine ih _ ?_
      cases o with
      | none => exact .none
      | some t => exact (t.writePiece_ruleRegs k _ _ _ _ _).mono (h t rfl)
  exact fold _ _ (.some rfl)

theorem State.answerRead_ruleRegs (a : Nat) : (s.answerRead a).ruleRegs k = s.ruleRegs k := s.ite_ruleRegs k _ rfl rfl
theorem State.serveReq_ruleRegs (r : SliceReq) : RulesKept k s (s.serveReq r) := by
  unfold State.serveReq
  split
  · intro t e
    obtain ⟨u, hu, rfl⟩ := Option.map_eq_some_iff.mp e
    exact (u.answerRead_ruleRegs k _).trans (s.sectorAccess_ruleRegs k _ _ _ _ u hu)
  · exact s.writePieces_ruleRegs k _ _ _ _ _
  · exact s.reduceInts_ruleRegs k _ _ _ _ _ _
  · exact s.reduceStats_ruleRegs k _ _ _ _
theorem State.takeReq_ruleRegs (r : SliceReq) : (s.takeReq r).ruleRegs k = s.ruleRegs k :=
  s.ite_ruleRegs k _ rfl ((s.serveReq_ruleRegs k r).getD rfl)
theorem State.retryWaiting_ruleRegs (n : Nat) : (s.retryWaiting n).ruleRegs k = s.ruleRegs k :=
  State.ruleRegs_each k _ (fun t r => t.takeReq_ruleRegs k r) (s.setSlice n _) _
theorem State.settle_ruleRegs (a n : Nat) : (s.settle a n).ruleRegs k = s.ruleRegs k := by
  induction n generalizing s with
  | zero => rfl
  | succ n ih =>
    unfold State.settle
    exact s.ite_ruleRegs k _ ((ih _).trans ((State.retryWaiting_ruleRegs _ k _).trans (s.freeOldest_ruleRegs k _))) rfl
theorem State.turn_ruleRegs (a : Nat) : (s.turn a).ruleRegs k = s.ruleRegs k := s.settle_ruleRegs k a _

theorem State.memWrite_ruleRegs (cls a : Nat) (data : List Byte) (p : Bool) : (s.memWrite cls a data p).ruleRegs k = s.ruleRegs k := by
  unfold State.memWrite
  refine State.ruleRegs_each k _ (fun t pc => ?_) s _
  dsimp only
  have kept := (t.turn pc.1).writePiece_ruleRegs k cls pc.1 ((data.drop (pc.1 - a)).take pc.2) p false
  exact (kept.getD rfl).trans (t.turn_ruleRegs k pc.1)
theorem State.memTouch_ruleRegs (cls a n : Nat) : (s.memTouch cls a n).ruleRegs k = s.ruleRegs k := by
  unfold State.memTouch
  refine State.ruleRegs_each k _ (fun t pc => ?_) s _
  dsimp only
  have kept := (t.turn pc.1).sectorAccess_ruleRegs k pc.1 cls .read false
  exact (kept.getD rfl).trans (t.turn_ruleRegs k pc.1)
theorem State.memRead_ruleRegs (cls a n : Nat) : (s.memRead cls a n).1.ruleRegs k = s.ruleRegs k := s.memTouch_ruleRegs k cls a n

theorem State.countHallway_ruleRegs (src dst n : Nat) : (s.countHallway src dst n).ruleRegs k = s.ruleRegs k := by
  unfold State.countHallway
  refine s.ite_ruleRegs k _ rfl ?_
  split
  · rfl
  · exact s.ite_ruleRegs k _ (State.ruleRegs_bump k (f := F.hallwayBytesUpCount) (by decide) _ _ _)
      (State.ruleRegs_bump k (f := F.hallwayBytesDownCount) (by decide) _ _ _)
theorem State.dropAtLink_ruleRegs (src dst : Nat) : (s.dropAtLink src dst).ruleRegs k = s.ruleRegs k := by
  unfold State.dropAtLink
  split
  · rfl
  · exact s.logError_ruleRegs k _ _ _ _ _
theorem State.readFrom_ruleRegs (st cls a n : Nat) : (s.readFrom st cls a n).1.ruleRegs k = s.ruleRegs k := by
  unfold State.readFrom
  split
  · rfl
  · exact (State.countHallway_ruleRegs _ k _ _ _).trans (s.memRead_ruleRegs k _ _ _)
theorem State.writeFrom_ruleRegs (st cls a : Nat) (data : List Byte) (p : Bool) : (s.writeFrom st cls a data p).ruleRegs k = s.ruleRegs k := by
  unfold State.writeFrom
  exact s.ite_ruleRegs k _ (s.dropAtLink_ruleRegs k _ _) ((State.countHallway_ruleRegs _ k _ _ _).trans (s.memWrite_ruleRegs k _ _ _ _))

end

end Sys2Proof.Machine
end

section
/-!
SUPPORT. RULE_STEP (R392).
-/
namespace Sys2Proof.Machine
-- Proofs one after the other: each thread of the elaborator claims its whole stack.
set_option Elab.async false

/-! ## The rules on one stack -/

/-- The application of the rules of one stack for step `n`, as `State.applyRules` makes it stack by stack. -/
def State.applyRulesOn (s : State) (n k : Nat) : State :=
  let s := s.each (s.tutor k).rules.zipIdx (fun s x => s.applyRule k n x.2 x.1.1.toNat x.1.2)
  let s := s.setTutor k { s.tutor k with residentDigest := s.residentNow k }
  (s.setFld F.tutorRuleStatusBusy k 0 1).setReg .tutorRuleLastStep k 0 n

theorem State.applyRules_eq (s : State) (st n : Nat) : s.applyRules st n = s.each (s.sameImage st) (fun s k => s.applyRulesOn n k) := rfl

theorem sameImage_lt {s : State} {st k : Nat} (h : k ∈ s.sameImage st) : k < 4 := by
  have := (List.mem_filter.mp h).1
  simp only [List.mem_cons, List.not_mem_nil, or_false] at this
  omega

section
variable (s : State) (k : Fin 4) {b : Nat} (hb : b < 4) (hk : k.val ≠ b)
include hk

/-- A register of one stack is none of the rules' of another. -/
theorem State.ruleRegs_setReg_stack {n : RegName} (hn : n.Stands b 0) (v : Nat) : (s.setReg n b 0 v).ruleRegs k = s.ruleRegs k := by
  have other (m : RegName) (hm : m.Stands k 0) : (s.setReg n b 0 v).reg m k = s.reg m k := State.reg_setReg_stands v hn hm (by simp [hk])
  simp only [State.ruleRegs, other _ (stands_stack k.isLt : RegName.Stands .tutorRuleStatus k 0), other _ (stands_stack k.isLt : RegName.Stands .tutorRuleLastStep k 0)]

include hb

/-- A rule on one stack leaves the rules' registers of the others. -/
theorem State.applyRule_ruleRegs (n i rule : Nat) (binds : List (BitVec 32)) : (s.applyRule b n i rule binds).ruleRegs k = s.ruleRegs k := by
  unfold State.applyRule
  dsimp only
  refine s.ite_ruleRegs k _ ?_ ?_
  · have poison := State.ruleRegs_setReg_stack (s.readFrom b 7 (if (n + 1) % 2 == 0 then bits rule 64 50 else bits rule 128 50) 32).1 k hk
      (n := .tutorRuleStatus) (stands_stack hb)
    exact (State.logError_ruleRegs _ k _ _ _ _ _).trans ((poison _).trans (s.readFrom_ruleRegs k _ _ _ _))
  · refine (State.ruleRegs_each k _ (fun t x => ?_) (State.setTutor _ _ _) _).trans (s.readFrom_ruleRegs k _ _ _ _)
    exact (State.writeFrom_ruleRegs _ k _ _ _ _ _).trans (t.readFrom_ruleRegs k _ _ _ _)

theorem State.applyRulesOn_others (n : Nat) : (s.applyRulesOn n b).ruleRegs k = s.ruleRegs k := by
  have rules := State.ruleRegs_each k (fun s x => s.applyRule b n x.2 x.1.1.toNat x.1.2) (fun t x => t.applyRule_ruleRegs k hb hk _ _ _ _) s (s.tutor b).rules.zipIdx
  unfold State.applyRulesOn
  dsimp only
  generalize s.each (s.tutor b).rules.zipIdx (fun s x => s.applyRule b n x.2 x.1.1.toNat x.1.2) = t at rules
  have busy (u : State) (v : Nat) : (u.setFld F.tutorRuleStatusBusy b 0 v).ruleRegs k = u.ruleRegs k :=
    State.ruleRegs_setReg_stack u k hk (n := .tutorRuleStatus) (stands_stack hb) _
  have step (u : State) (v : Nat) : (u.setReg .tutorRuleLastStep b 0 v).ruleRegs k = u.ruleRegs k :=
    State.ruleRegs_setReg_stack u k hk (n := .tutorRuleLastStep) (stands_stack hb) _
  exact (step _ _).trans ((busy _ _).trans rules)

end

/-- A stack's rules are being applied for step `n`. -/
def State.rulesRun (s : State) (k n : Nat) : Prop := s.fld F.tutorRuleStatusBusy k = 1 ∧ s.reg .tutorRuleLastStep k = n

theorem State.applyRulesOn_rulesRun (s : State) {k n : Nat} (hk : k < 4) (hn : n < 2 ^ 32) : (s.applyRulesOn n k).rulesRun k n := by
  refine ⟨?_, (State.reg_setReg_same _ _ _ _ _).trans (Nat.mod_eq_of_lt hn)⟩
  refine (State.fld_setReg_stands (n := .tutorRuleLastStep) (g := F.tutorRuleStatusBusy) _ _ (stands_stack hk) (stands_stack hk) (by simp)).trans ?_
  exact State.fld_setFld_same (by decide) _ _ _ _

theorem State.rulesRun_of_ruleRegs {s u : State} {k : Fin 4} {n : Nat} (h : u.ruleRegs k = s.ruleRegs k) (hs : s.rulesRun k n) : u.rulesRun k n := by
  simp only [State.ruleRegs, Prod.mk.injEq] at h
  exact ⟨by rw [State.fld, h.1]; exact hs.1, h.2.trans hs.2⟩

/-- Every stack of the image runs its rules for the step (R392). -/
theorem State.applyRules_rulesRun (s : State) (st n : Nat) (hn : n < 2 ^ 32) {k : Nat} (hk : k ∈ s.sameImage st) : (s.applyRules st n).rulesRun k n := by
  rw [State.applyRules_eq]
  refine State.each_establishes (fun t => t.rulesRun k n) hk _ s (fun t => t.applyRulesOn_rulesRun (sameImage_lt hk) hn) (fun t b hb ht => ?_)
  by_cases e : k = b
  · exact e ▸ t.applyRulesOn_rulesRun (sameImage_lt hk) hn
  · exact State.rulesRun_of_ruleRegs (k := ⟨k, sameImage_lt hk⟩) (t.applyRulesOn_others _ (sameImage_lt hb) e n) ht

/-! ## RULE_STEP -/

section
variable {s t : State} (ht : Entered s t)
include ht

theorem Entered.tutor (k : Nat) : t.tutor k = s.tutor k := by rw [ht.fields]; rfl
theorem Entered.sameImage (st : Nat) : t.sameImage st = s.sameImage st := by
  refine List.filter_congr (fun k hk => ?_)
  have hlt : k < 4 := by simp only [List.mem_cons, List.not_mem_nil, or_false] at hk; omega
  rw [ht.fld (f := F.tutorSylStateActive) (stands_stack hlt), ht.tutor, ht.tutor]
theorem Entered.queuePart (q : Nat) : t.fld F.queueConfigPart 0 q = s.fld F.queueConfigPart 0 q := by
  have hne : RegName.queueConfig.addr 0 q ≠ RegName.diaryDropped.addr := by
    have hq : 0x80000 ≤ RegName.queueConfig.addr 0 q := by simp only [RegName.addr]; exact Nat.le_add_right_of_le (by decide)
    have hd : RegName.diaryDropped.addr < 0x80000 := by decide
    omega
  simp only [State.fld, ht.regs _ _ _ hne]
theorem Entered.lessonsOut (parts : List Nat) : t.lessonsOut parts = s.lessonsOut parts := by
  have hl : t.lessons = s.lessons := by rw [ht.fields]
  have hq : t.queues = s.queues := by rw [ht.fields]
  have hh : t.holdWait = s.holdWait := by rw [ht.fields]
  simp only [State.lessonsOut, hl, hq, hh, ht.queuePart]
theorem Entered.ruleStepOk {st : Nat} (h : st < 4) (n : Nat) : t.ruleStepOk st n = s.ruleStepOk st n := by
  have parts : (s.sameImage st).map t.partOf = (s.sameImage st).map s.partOf :=
    List.map_congr_left (fun k hk => ht.partOf (sameImage_lt hk))
  have busy : (s.sameImage st).any (fun k => t.fld F.tutorRuleStatusBusy k == 1) = (s.sameImage st).any (fun k => s.fld F.tutorRuleStatusBusy k == 1) := by
    rw [Bool.eq_iff_iff, List.any_eq_true, List.any_eq_true]
    exact exists_congr (fun k => and_congr_right (fun hk => by rw [ht.fld (f := F.tutorRuleStatusBusy) (stands_stack (sameImage_lt hk))]))
  unfold State.ruleStepOk
  dsimp only
  rw [ht.sameImage, parts, busy, ht.lessonsOut, ht.fld (f := F.tutorSylStateActive) (stands_stack h), ht.reg (n := .tutorRuleLastStep) (stands_stack h)]

end

/-- RULE_STEP of a quiet image makes its stacks busy with the step (R392). -/
theorem ruleStep_completes (who : Requester) (st : StackId) (n : BitVec 32) (s : State) (h : s.reachesReg who .tutorRuleStep st 0 n.toNat = true)
    (ok : s.ruleStepOk st n.toNat = true) :
    Completes (.ruleStep who st n) s (fun u => ∀ k ∈ s.sameImage st, u.fld F.tutorRuleStatusBusy k = 1 ∧ u.reg .tutorRuleLastStep k = n.toNat) := by
  refine completes_of_reaches rfl (stands_stack st.isLt) rfl n.isLt h (fun t ht => ?_)
  have he : (t.writePlace who ⟨.tutorRuleStep, st, 0, 0⟩ n.toNat).1 = t.applyRules st n.toNat := by
    have e : t.writePlace who ⟨.tutorRuleStep, st, 0, 0⟩ n.toNat = ruleStepWrite t st n.toNat := rfl
    rw [e, ruleStepWrite, (ht.ruleStepOk st.isLt n.toNat).trans ok]; rfl
  rw [he]
  exact fun k hk => t.applyRules_rulesRun st n.toNat n.isLt (by rw [ht.sameImage]; exact hk)

end Sys2Proof.Machine
end

section
/-!
SUPPORT. Writes of plain registers, field by field (R6, R10).
-/
namespace Sys2Proof.Machine
-- Proofs one after the other: each thread of the elaborator claims its whole stack.
set_option Elab.async false

/-! ## One field after the other -/

/-- Whether a field takes its part of a written value: it is not written, or its chapter allows the value (R10). -/
def State.partTaken (s : State) (n : RegName) (v : Nat) (f : FieldDesc) : Bool :=
  !(f.access == .rw || f.access == .wo) || s.fieldTakes n f.lo (bits v f.lo f.width)

/-- One field's part of a write, as `State.writeFields` makes it. -/
def State.writeField (s : State) (n : RegName) (v : Nat) (w : Nat × Bool) (f : FieldDesc) : Nat × Bool :=
  let x := bits v f.lo f.width
  match f.access with
  | .rw | .wo => if s.fieldTakes n f.lo x then (putBits w.1 f.lo f.width x, w.2) else (w.1, false)
  | .w1c => (putBits w.1 f.lo f.width (bits w.1 f.lo f.width &&& (2 ^ f.width - 1 - x)), w.2)
  | .w1s => (putBits w.1 f.lo f.width (bits w.1 f.lo f.width ||| x), w.2)
  | .ro | .rc => w

theorem State.writeFields_eq (s : State) {p : Place} (h : p.name.desc.width ≤ 64) (v : Nat) :
    s.writeFields p v = p.name.desc.fields.foldl (s.writeField p.name v) (s.reg p.name p.inst p.idx, true) := by
  unfold State.writeFields
  rw [if_neg (by omega)]
  rfl

section
variable (s : State) (n : RegName) (v : Nat)

/-- What a field's part of a write leaves of the field. -/
def State.fieldAfter (f : FieldDesc) (old : Nat) : Nat :=
  fieldWritten f.access f.width old (bits v f.lo f.width) (s.fieldTakes n f.lo (bits v f.lo f.width))

theorem State.writeField_same (w : Nat × Bool) (f : FieldDesc) :
    bits (s.writeField n v w f).1 f.lo f.width = s.fieldAfter n v f (bits w.1 f.lo f.width) := by
  have hold := bits_lt w.1 f.lo f.width
  have hx := bits_lt v f.lo f.width
  unfold State.writeField State.fieldAfter fieldWritten
  dsimp only
  cases f.access with
  | ro => rfl
  | rc => rfl
  | rw => dsimp only; split <;> simp [bits_putBits_same, Nat.mod_eq_of_lt hx]
  | wo => dsimp only; split <;> simp [bits_putBits_same, Nat.mod_eq_of_lt hx]
  | w1c => exact (bits_putBits_same _ _ _ _).trans (Nat.mod_eq_of_lt (Nat.lt_of_le_of_lt Nat.and_le_left hold))
  | w1s => exact (bits_putBits_same _ _ _ _).trans (Nat.mod_eq_of_lt (Nat.or_lt_two_pow hold hx))

theorem State.writeField_apart (w : Nat × Bool) {f g : FieldDesc} (h : f.apart g = true) :
    bits (s.writeField n v w f).1 g.lo g.width = bits w.1 g.lo g.width := by
  simp only [FieldDesc.apart, Bool.or_eq_true, decide_eq_true_eq] at h
  unfold State.writeField
  dsimp only
  cases f.access with
  | ro => rfl
  | rc => rfl
  | rw => dsimp only; split <;> simp [bits_putBits_apart _ _ h]
  | wo => dsimp only; split <;> simp [bits_putBits_apart _ _ h]
  | w1c => exact bits_putBits_apart _ _ h
  | w1s => exact bits_putBits_apart _ _ h

theorem State.writeField_taken (w : Nat × Bool) (f : FieldDesc) : (s.writeField n v w f).2 = (w.2 && s.partTaken n v f) := by
  unfold State.writeField State.partTaken
  cases f.access with
  | ro => simp
  | rc => simp
  | rw => dsimp only; split <;> simp_all
  | wo => dsimp only; split <;> simp_all
  | w1c => simp
  | w1s => simp

/-- Bits apart from every field that is written stay. -/
theorem State.foldFields_apart {l : List FieldDesc} {g : FieldDesc} (h : ∀ f ∈ l, f.apart g = true) (w : Nat × Bool) :
    bits (l.foldl (s.writeField n v) w).1 g.lo g.width = bits w.1 g.lo g.width := by
  induction l generalizing w with
  | nil => rfl
  | cons f l ih => exact (ih (fun e he => h e (List.mem_cons_of_mem _ he)) _).trans (s.writeField_apart n v w (h f List.mem_cons_self))

theorem State.foldFields_taken (l : List FieldDesc) (w : Nat × Bool) :
    (l.foldl (s.writeField n v) w).2 = (w.2 && l.all (s.partTaken n v)) := by
  induction l generalizing w with
  | nil => simp
  | cons f l ih => rw [List.foldl_cons, ih, s.writeField_taken, List.all_cons, Bool.and_assoc]

theorem FieldDesc.apart_comm {f g : FieldDesc} (h : f.apart g = true) : g.apart f = true := by rwa [FieldDesc.apart, Bool.or_comm]

/-- Fields that share no bit are written one by one (R6). -/
theorem State.foldFields_same {l : List FieldDesc} (h : l.Pairwise (fun f g => f.apart g = true)) (w : Nat × Bool) {g : FieldDesc} (hg : g ∈ l) :
    bits (l.foldl (s.writeField n v) w).1 g.lo g.width = s.fieldAfter n v g (bits w.1 g.lo g.width) := by
  induction l generalizing w with
  | nil => exact absurd hg List.not_mem_nil
  | cons f l ih =>
    obtain ⟨hf, hl⟩ := List.pairwise_cons.mp h
    rcases List.mem_cons.mp hg with rfl | hg
    · exact (s.foldFields_apart n v (fun e he => FieldDesc.apart_comm (hf e he)) _).trans (s.writeField_same n v w g)
    · rw [List.foldl_cons, ih hl _ hg, s.writeField_apart n v w (hf g hg)]

end

section
variable (s : State) (n : RegName) (i j k v : Nat) (h : n.desc.width ≤ 64)
include h

/-- Every field takes what its access code gives (R6). -/
theorem State.writeFields_field {f : FieldDesc} (hf : f ∈ n.desc.fields) :
    bits (s.writeFields ⟨n, i, j, k⟩ v).1 f.lo f.width = s.fieldAfter n v f (bits (s.reg n i j) f.lo f.width) := by
  rw [s.writeFields_eq (p := ⟨n, i, j, k⟩) h]
  exact s.foldFields_same n v n.fields_apart _ hf

theorem State.writeFields_taken : (s.writeFields ⟨n, i, j, k⟩ v).2 = s.allTake n v := by
  rw [s.writeFields_eq (p := ⟨n, i, j, k⟩) h, s.foldFields_taken]
  rfl

end

theorem State.writePlace_plain (s : State) (who : Requester) {n : RegName} (h : n.isPlain = true) (i j k v : Nat) :
    s.writePlace who ⟨n, i, j, k⟩ v = s.writePlain who ⟨n, i, j, k⟩ v := by
  unfold State.writePlace
  dsimp only
  split
  case h_40 => rfl
  all_goals exact absurd h (by decide)

end Sys2Proof.Machine
end

section
/-!
SUPPORT. REGISTER_WRITE of a plain register, whole or by halves (R6, R9, R10, R26, R482).
-/
namespace Sys2Proof.Machine
-- Proofs one after the other: each thread of the elaborator claims its whole stack.
set_option Elab.async false

/-! ## Registers of the log -/

/-- No write changes a register of the log. -/
theorem RegName.isLog_access {n : RegName} (h : n.isLog = true) : ∀ f ∈ n.desc.fields, f.access = .ro ∨ f.access = .rc := by
  have k := RegName.forall_of_all (p := fun n => !n.isLog || n.desc.fields.all (fun f => f.access == .ro || f.access == .rc)) (by decide +kernel) n
  simpa [h] using k
theorem RegName.isLog_unlisted {n : RegName} (h : n.isLog = true) (i j k v : Nat) : diaryListed ⟨n, i, j, k⟩ v = false := by
  unfold diaryListed
  dsimp only
  split
  case h_9 => rfl
  all_goals exact absurd h (by decide)
theorem RegName.isLog_unlogged {n : RegName} (h : n.isLog = false) : n.logged = false ∧ n ≠ .proctorErrlogClass := by
  have k := RegName.forall_of_all (p := fun n => n.isLog || (!n.logged && n != .proctorErrlogClass)) (by decide +kernel) n
  simpa [h] using k

theorem State.allTake_isLog (s : State) {n : RegName} (h : n.isLog = true) (v : Nat) : s.allTake n v = true := by
  refine List.all_eq_true.mpr (fun f hf => ?_)
  rcases RegName.isLog_access h f hf with e | e <;> simp [e]
theorem State.diaryWants_isLog (s : State) (who : Requester) {n : RegName} (h : n.isLog = true) (i j k v : Nat) :
    s.diaryWants who ⟨n, i, j, k⟩ v = false := by
  have hw : n.desc.writable = [] := by
    refine List.filter_eq_nil_iff.mpr (fun a ha => ?_)
    obtain ⟨f, hf, rfl⟩ := List.mem_map.mp ha
    rcases RegName.isLog_access h f hf with e | e <;> simp [e]
  unfold State.diaryWants
  simp only [hw, RegName.isLog_unlisted h, List.isEmpty_nil, Bool.not_true, Bool.and_false, Bool.false_and, ite_self]

/-! ## What a plain write leaves -/

/-- The state after a plain write has given every field its part. -/
def State.plainWritten (s : State) (n : RegName) (i j k v : Nat) : State := s.setReg n i j (s.writeFields ⟨n, i, j, k⟩ v).1

section
variable (s : State) (who : Requester) (n : RegName) (i j k v : Nat) (hw : n.desc.width ≤ 64)
include hw

theorem State.writePlain_taken (h : s.allTake n v = true) : s.writePlain who ⟨n, i, j, k⟩ v = (s.plainWritten n i j k v, true) := by
  have ht := (s.writeFields_taken n i j k v hw).trans h
  unfold State.writePlain
  dsimp only
  rw [ht]; rfl
theorem State.writePlain_refused (h : s.allTake n v = false) :
    s.writePlain who ⟨n, i, j, k⟩ v = ((s.plainWritten n i j k v).accessError who (Place.accessOff ⟨n, i, j, k⟩), false) := by
  have ht := (s.writeFields_taken n i j k v hw).trans h
  unfold State.writePlain
  dsimp only
  rw [ht]; rfl

theorem State.plainWritten_field {f : FieldDesc} (hf : f ∈ n.desc.fields) :
    bits ((s.plainWritten n i j k v).reg n i j) f.lo f.width = s.fieldAfter n v f (bits (s.reg n i j) f.lo f.width) := by
  rw [State.plainWritten, State.reg_setReg_same, bits_mod _ (RegName.field_le_width hf), s.writeFields_field n i j k v hw hf]

end

/-- A write's fields depend on the register, and on the least version that SYL_MIN_SVN holds. -/
theorem State.writeFields_congr {s t : State} {n : RegName} {i j : Nat} (hr : t.reg n i j = s.reg n i j) (hm : t.reg .secSylMinSvn = s.reg .secSylMinSvn) (k v : Nat) :
    t.writeFields ⟨n, i, j, k⟩ v = s.writeFields ⟨n, i, j, k⟩ v := by
  have takes (lo x : Nat) : t.fieldTakes n lo x = s.fieldTakes n lo x := by unfold State.fieldTakes; rw [hm]
  simp only [State.writeFields, hr, takes]

theorem State.allTake_congr {s t : State} (hm : t.reg .secSylMinSvn = s.reg .secSylMinSvn) (n : RegName) (v : Nat) : t.allTake n v = s.allTake n v := by
  have takes (lo x : Nat) : t.fieldTakes n lo x = s.fieldTakes n lo x := by unfold State.fieldTakes; rw [hm]
  simp only [State.allTake, takes]

/-- A state with other entries that wait for the Diary. -/
def State.withDiaryQ (s : State) (q : List DiaryEntry) : State := { s with proctor := { s.proctor with diaryQ := q } }

section
variable (s : State) (q : List DiaryEntry)

theorem State.takeReleases_withDiaryQ (c : CoreId) : (s.withDiaryQ q).takeReleases c = (s.takeReleases c).withDiaryQ q := by
  have hc : (s.withDiaryQ q).core c = s.core c := rfl
  unfold State.takeReleases
  rw [hc]
  cases (s.core c).stage <;> rfl

/-- What a register shows does not depend on the entries that wait for the Diary. -/
theorem State.view_withDiaryQ (who : Requester) (n : RegName) (i j : Nat) : (s.withDiaryQ q).view who n i j = s.view who n i j := by
  cases n
  case coreSlotOwner => simp only [State.view, State.takeReleases_withDiaryQ]; rfl
  all_goals rfl
theorem State.valueAfter_withDiaryQ (who : Requester) (p : Place) : (s.withDiaryQ q).valueAfter who p = s.valueAfter who p := by
  simp only [State.valueAfter, State.readWhole, State.view_withDiaryQ]

/-- An entry that finds room joins the others. -/
theorem State.diary_of_room (room : s.proctor.diaryQ.length < 64) (origin : Nat) (k : DiaryKind) (subject value : Nat) :
    s.diary origin k subject value = s.withDiaryQ (s.proctor.diaryQ ++
      [⟨BitVec.ofNat 64 s.now, BitVec.ofNat 8 origin, k.code, BitVec.ofNat 64 subject, BitVec.ofNat 64 value⟩]) := if_pos room

end

/-! ## The three ends of a plain write -/

/-- What a write of value `x` to a plain register leaves: its fields by their codes, the registers outside the log, the count of access errors and the Diary's queue. -/
structure PlainEffect (s u : State) (who : Requester) (n : RegName) (i j x : Nat) : Prop where
  mem : u.mem = s.mem
  fields : ∀ f ∈ n.desc.fields, bits (u.reg n i j) f.lo f.width = s.fieldAfter n x f (bits (s.reg n i j) f.lo f.width)
  others : ∀ (m : RegName) (a b : Nat), m.Stands a b → m.isLog = false → (m, a, b) ≠ (n, i, j) → u.reg m a b = s.reg m a b
  count : s.allTake n x = false → u.fld F.proctorErrlogClassCount 0 2 = min (s.fld F.proctorErrlogClassCount 0 2 + 1) (2 ^ 32 - 1)
  silent : s.allTake n x = true → s.diaryWants who ⟨n, i, j, 0⟩ x = false → u.proctor.diaryQ = s.proctor.diaryQ
  entry : s.allTake n x = true → s.diaryWants who ⟨n, i, j, 0⟩ x = true → s.proctor.diaryQ.length < 64 → u.proctor.diaryQ = s.proctor.diaryQ ++
    [⟨BitVec.ofNat 64 s.now, BitVec.ofNat 8 (requesterCode who), 1, BitVec.ofNat 64 (n.addr i j), BitVec.ofNat 64 (u.valueAfter who ⟨n, i, j, 0⟩)⟩]

section
variable {s : State} {who : Requester} {n : RegName} {i j x : Nat} (hw : n.desc.width ≤ 64) (hs : n.Stands i j)
include hw hs

theorem plainEffect_silent (taken : s.allTake n x = true) (h : s.diaryWants who ⟨n, i, j, 0⟩ x = false) : PlainEffect s (s.plainWritten n i j 0 x) who n i j x where
  mem := rfl
  fields _ hf := s.plainWritten_field n i j 0 x hw hf
  others _ _ _ hm _ hne := State.reg_setReg_stands _ hs hm hne
  count hf := absurd hf (by simp [taken])
  silent _ _ := rfl
  entry _ hd := absurd hd (by simp [h])

theorem plainEffect_refused (off : Nat) (taken : s.allTake n x = false) : PlainEffect s ((s.plainWritten n i j 0 x).accessError who off) who n i j x := by
  have hlog : n.isLog = false := Bool.eq_false_iff.mpr (fun h => by simp [s.allTake_isLog h x] at taken)
  have kept (m : RegName) (a b : Nat) (hm : m.Stands a b) (h : m.isLog = false) :
      ((s.plainWritten n i j 0 x).accessError who off).reg m a b = (s.plainWritten n i j 0 x).reg m a b :=
    State.accessError_regsKept _ who off m a b hm (RegName.isLog_unlogged h)
  refine ⟨State.accessError_mem _ who off, fun f hf => ?_, fun m a b hm h hne => ?_, fun _ => ?_, fun h => absurd h (by simp [taken]), fun h => absurd h (by simp [taken])⟩
  · rw [kept n i j hs hlog]; exact s.plainWritten_field n i j 0 x hw hf
  · rw [kept m a b hm h]; exact State.reg_setReg_stands _ hs hm hne
  · have hc : (s.plainWritten n i j 0 x).fld F.proctorErrlogClassCount 0 2 = s.fld F.proctorErrlogClassCount 0 2 :=
      State.fld_setReg_stands _ _ hs (stands_errlogClass (by decide)) (fun e => (RegName.isLog_unlogged hlog).2 (by simp only [Prod.mk.injEq] at e; exact e.1.symm))
    rw [State.accessError_count, hc]

/-- The Diary's entry of the write comes before it (R482). -/
theorem plainEffect_entered (taken : s.allTake n x = true) (h : s.diaryWants who ⟨n, i, j, 0⟩ x = true) :
    let t := s.diary (requesterCode who) .regWrite (n.addr i j) ((s.plainWritten n i j 0 x).valueAfter who ⟨n, i, j, 0⟩)
    t.allTake n x = true ∧ PlainEffect s (t.plainWritten n i j 0 x) who n i j x := by
  intro t
  have ht : Entered s t := (Entered.refl s).diary _ _ _ _
  have hn : n ≠ .diaryDropped := fun e => by rw [e, s.diaryWants_isLog who rfl] at h; exact absurd h (by decide)
  have hr : t.reg n i j = s.reg n i j := ht.reg hs hn
  have hm : t.reg .secSylMinSvn = s.reg .secSylMinSvn := ht.reg stands_zero
  have hf : t.writeFields ⟨n, i, j, 0⟩ x = s.writeFields ⟨n, i, j, 0⟩ x := State.writeFields_congr hr hm 0 x
  refine ⟨(State.allTake_congr hm n x).trans taken, ht.mem, fun f hfm => ?_, fun m a b hst hlog hne => ?_, fun hx => absurd hx (by simp [taken]),
    fun _ hd => absurd hd (by simp [h]), fun _ _ room => ?_⟩
  · rw [← s.plainWritten_field n i j 0 x hw hfm, State.plainWritten, State.plainWritten, hf, State.reg_setReg_same, State.reg_setReg_same]
  · exact (State.reg_setReg_stands _ hs hst hne).trans (ht.reg hst (fun e => by rw [e] at hlog; exact absurd hlog (by decide)))
  · have e : t = s.withDiaryQ _ := s.diary_of_room room _ _ _ _
    have hu : t.plainWritten n i j 0 x = (s.plainWritten n i j 0 x).withDiaryQ t.proctor.diaryQ := by
      rw [State.plainWritten, State.plainWritten, hf, e]; rfl
    rw [hu, State.valueAfter_withDiaryQ]
    exact congrArg (fun t : State => t.proctor.diaryQ) e

end

end Sys2Proof.Machine
end

section
/-!
SUPPORT. REGISTER_WRITE over an open path: a plain register, a lower half, and an upper half (R6, R9, R26, R482).
-/
namespace Sys2Proof.Machine
-- Proofs one after the other: each thread of the elaborator claims its whole stack.
set_option Elab.async false

/-! ## Whole writes of plain registers -/

theorem Place.off_zero (n : RegName) (i j : Nat) : Place.off ⟨n, i, j, 0⟩ = n.addr i j := by simp [Place.off, Place.addr]

theorem writeLogged_plain {s : State} {n : RegName} {i j : Nat} (who : Requester) (x : Nat) (hp : n.isPlain = true) (hw : n.desc.width ≤ 64) (hs : n.Stands i j) :
    PlainEffect s (s.writeLogged who ⟨n, i, j, 0⟩ x).1 who n i j x := by
  unfold State.writeLogged
  dsimp only
  rw [s.writePlace_plain who hp, Place.off_zero]
  cases taken : s.allTake n x with
  | false =>
    rw [s.writePlain_refused who n i j 0 x hw taken]
    exact plainEffect_refused hw hs _ taken
  | true =>
    rw [s.writePlain_taken who n i j 0 x hw taken]
    cases wants : s.diaryWants who ⟨n, i, j, 0⟩ x with
    | false => exact plainEffect_silent hw hs taken wants
    | true =>
      obtain ⟨takes, effect⟩ := plainEffect_entered hw hs taken wants
      simp only [Bool.and_self, if_true]
      rw [State.writePlace_plain _ who hp, State.writePlain_taken _ who n i j 0 x hw takes]
      exact effect

theorem PlainEffect.of_dropHalf {s u : State} {who whose : Requester} {n : RegName} {i j x : Nat} (h : PlainEffect (s.dropHalf whose) u who n i j x) :
    PlainEffect s u who n i j x := ⟨h.mem, h.fields, h.others, h.count, h.silent, h.entry⟩

/-- A write at the register's own width reaches it on the state without the requester's half (R26). -/
theorem exec_registerWrite_own {s : State} {who : Requester} {n : RegName} {i j : Nat} (hs : n.Stands i j) (v : Word)
    (h : s.reachesReg who n i j (if n.desc.width == 64 then v.toNat else v.toNat % 2 ^ 32) = true) :
    exec (.registerWrite who (n.addr i j) (if n.desc.width == 64 then 8 else 4) v) s
      = .next ((s.dropHalf who).writeLogged who ⟨n, i, j, 0⟩ (if n.desc.width == 64 then v.toNat else v.toNat % 2 ^ 32)).1 := by
  rw [exec_registerWrite (State.pathOpen_of_reaches h)]
  have ha := n.addr_aligned i j
  have hwr := State.writable_of_reaches h
  cases wide : n.desc.width == 64 with
  | true =>
    simp only [wide, if_true] at hwr ⊢
    rw [State.writeReg_wide hs wide hwr]
  | false =>
    simp only [wide, Bool.false_eq_true, if_false] at ha hwr ⊢
    rw [State.writeReg_four ((aligned_iff _ _).mp ha).2, State.write32_narrow hs wide hwr]

/-- REGISTER_WRITE of a plain register gives its fields their parts (R6, R10, R482). -/
theorem registerWrite_plain (who : Requester) (n : RegName) (i j : Nat) (v : Word) (s : State) (hp : n.isPlain = true) (hw : n.desc.width ≤ 64) (hs : n.Stands i j)
    (h : s.reachesReg who n i j (if n.desc.width == 64 then v.toNat else v.toNat % 2 ^ 32) = true) :
    Completes (.registerWrite who (n.addr i j) (if n.desc.width == 64 then 8 else 4) v) s
      (fun u => PlainEffect s u who n i j (if n.desc.width == 64 then v.toNat else v.toNat % 2 ^ 32)) :=
  ⟨_, exec_registerWrite_own hs v h, (writeLogged_plain who _ hp hw hs).of_dropHalf⟩

/-! ## The lower half -/

/-- A requester holds a lower half for the register at an address, as `State.write32` keeps it. -/
def State.holdHalf (s : State) (who : Requester) (addr lo : Nat) : State :=
  { s with halves := Tab.set (0, 0) s.halves (requesterCode who) (addr, lo) }

theorem State.heldHalf_holdHalf (s : State) (who : Requester) (addr lo : Nat) : (s.holdHalf who addr lo).heldHalf who addr = some lo := by
  simp [State.holdHalf, State.heldHalf, Tab.get_set_same]

/-- A 32-bit write of the first part of a 64-bit register is held (R9). -/
theorem State.write32_lower {s : State} {who : Requester} {n : RegName} {i j lo : Nat} (wide : (n.desc.width == 64) = true) (hs : n.Stands i j)
    (h : s.writable who ⟨n, i, j, 0⟩ lo = true) :
    s.write32 who (n.addr i j) lo
      = ((if (s.heldHalf who (n.addr i j)).isSome then s else s.dropHalf who).holdHalf who (n.addr i j) lo, true) := by
  rw [RegName.Stands] at hs
  simp only [State.write32, hs, Place.wide, Place.addr, wide, Bool.true_and]
  split
  · simp [h, accept, State.holdHalf]
  · simp [State.writable_dropHalf, h, accept, State.holdHalf]

/-- The lower half of a 64-bit register is held (R9). -/
theorem registerWrite_lower (who : Requester) (n : RegName) (i j : Nat) (v : Word) (s : State) (wide : (n.desc.width == 64) = true) (hs : n.Stands i j)
    (ha : aligned (n.addr i j) 4 = true) (h : s.reachesReg who n i j (v.toNat % 2 ^ 32) = true) :
    Completes (.registerWrite who (n.addr i j) 4 v) s (fun u => u.heldHalf who (n.addr i j) = some (v.toNat % 2 ^ 32) ∧ u.regs = s.regs ∧ u.mem = s.mem
      ∧ u.proctor = s.proctor) := by
  refine ⟨_, exec_registerWrite (State.pathOpen_of_reaches h) _ _ _, ?_⟩
  rw [State.writeReg_four ((aligned_iff _ _).mp ha).2, State.write32_lower wide hs (State.writable_of_reaches h)]
  refine ⟨State.heldHalf_holdHalf _ _ _ _, ?_⟩
  split
  · exact ⟨rfl, rfl, rfl⟩
  · exact ⟨rfl, rfl, rfl⟩

/-! ## The upper half -/

/-- The count of access errors (R441, R444). -/
def State.accessCount (s : State) : Nat := s.fld F.proctorErrlogClassCount 0 2

/-- A write by way of the upper part ends as `r`, the write of the whole, does, unless that one is refused with an access error. -/
def SameOrRefused (s : State) (who : Requester) (r1 r0 : Written) : Prop :=
  r1 = r0 ∨ ∃ (t : State) (off : Nat), r0 = (t.accessError who off, false) ∧ t.accessCount = s.accessCount

section
variable {s : State} {who : Requester}

theorem SameOrRefused.refl (r : Written) : SameOrRefused s who r r := Or.inl rfl
theorem SameOrRefused.refuse (p q : Place) : SameOrRefused s who (s.refuse who p) (s.refuse who q) := Or.inr ⟨s, _, rfl, rfl⟩
theorem SameOrRefused.ite {c : Prop} [Decidable c] {a1 a0 b1 b0 : Written} (ha : SameOrRefused s who a1 a0) (hb : SameOrRefused s who b1 b0) :
    SameOrRefused s who (if c then a1 else b1) (if c then a0 else b0) := by split <;> assumption

/-- The 64-bit registers whose writes do more than give their fields their parts. -/
theorem RegName.wide_special {n : RegName} (wide : (n.desc.width == 64) = true) (hp : n.isPlain = false) :
    n ∈ ([.queueSqBase, .queueCqBase, .queueTailAddr, .queueStepBase, .queueStepTailAddr, .markerCalCmd, .fabricNear, .fabricFar, .slicePinCmd, .coreFaultInfo] : List RegName) := by
  have k := RegName.forall_of_all (p := fun n => !(n.desc.width == 64) || n.isPlain || ([.queueSqBase, .queueCqBase, .queueTailAddr, .queueStepBase, .queueStepTailAddr,
    .markerCalCmd, .fabricNear, .fabricFar, .slicePinCmd, .coreFaultInfo] : List RegName).elem n) (by decide +kernel) n
  rw [wide, hp] at k
  exact List.mem_of_elem_eq_true k

section
variable {n : RegName} {i j : Nat} (wide : (n.desc.width == 64) = true) (hs : n.Stands i j) (v : Nat)
include wide hs

theorem writePlain_upper : SameOrRefused s who (s.writePlain who ⟨n, i, j, 1⟩ v) (s.writePlain who ⟨n, i, j, 0⟩ v) := by
  have hw : n.desc.width ≤ 64 := by rw [beq_iff_eq] at wide; omega
  cases taken : s.allTake n v with
  | true =>
    rw [s.writePlain_taken who n i j 1 v hw taken, s.writePlain_taken who n i j 0 v hw taken, State.plainWritten, State.plainWritten,
      s.writeFields_eq (p := ⟨n, i, j, 1⟩) hw, s.writeFields_eq (p := ⟨n, i, j, 0⟩) hw]
    exact Or.inl rfl
  | false =>
    refine Or.inr ⟨_, _, s.writePlain_refused who n i j 0 v hw taken, State.fld_setReg_stands _ _ hs (stands_errlogClass (by decide)) (fun e => ?_)⟩
    simp only [Prod.mk.injEq] at e
    rw [← e.1] at wide
    exact absurd wide (by decide)

theorem writePlace_upper : SameOrRefused s who (s.writePlace who ⟨n, i, j, 1⟩ v) (s.writePlace who ⟨n, i, j, 0⟩ v) := by
  cases hp : n.isPlain with
  | true => rw [s.writePlace_plain who hp, s.writePlace_plain who hp]; exact writePlain_upper wide hs v
  | false =>
    have ring (r : RingId) : SameOrRefused s who (ringWrite s who ⟨n, i, j, 1⟩ r v) (ringWrite s who ⟨n, i, j, 0⟩ r v) :=
      (SameOrRefused.refuse _ _).ite (writePlain_upper wide hs v)
    have window (far : Bool) : SameOrRefused s who (windowWrite s who ⟨n, i, j, 1⟩ far v) (windowWrite s who ⟨n, i, j, 0⟩ far v) :=
      (writePlain_upper wide hs (winDefined v)).ite (SameOrRefused.refuse _ _)
    have special := RegName.wide_special wide hp
    simp only [List.mem_cons, List.not_mem_nil, or_false] at special
    rcases special with rfl | rfl | rfl | rfl | rfl | rfl | rfl | rfl | rfl | rfl
    · exact ring _
    · exact ring _
    · exact ring _
    · exact ring _
    · exact ring _
    · exact (SameOrRefused.refl _).ite (SameOrRefused.refuse _ _)
    · exact window false
    · exact window true
    · exact (SameOrRefused.refl _).ite (SameOrRefused.refuse _ _)
    · exact SameOrRefused.refl _

end

section
variable (n : RegName) (i j v : Nat)

theorem State.accessCount_diary (origin : Nat) (k : DiaryKind) (subject value : Nat) : (s.diary origin k subject value).accessCount = s.accessCount :=
  RegsKept.fld (f := F.proctorErrlogClassCount) (s.diary_regsKept _ _ _ _) (stands_errlogClass (by decide)) (by decide)

theorem State.accessCount_dropHalf (whose : Requester) : (s.dropHalf whose).accessCount = s.accessCount := rfl

/-- A refused access raises the count, which is not full. -/
theorem accessCount_of_refused {t : State} {off : Nat} (room : s.accessCount < 2 ^ 32 - 1) (h : t.accessCount = s.accessCount) :
    (t.accessError who off).accessCount ≠ s.accessCount := by
  rw [State.accessCount] at room h
  rw [State.accessCount, State.accessError_count, h, State.accessCount]
  omega

/-- Both parts of a 64-bit register have one entry in the Diary. -/
theorem State.entered_upper (wide : (n.desc.width == 64) = true) (h : s.writePlace who ⟨n, i, j, 1⟩ v = s.writePlace who ⟨n, i, j, 0⟩ v) :
    s.entered who ⟨n, i, j, 1⟩ v = s.entered who ⟨n, i, j, 0⟩ v := by
  have hoff : Place.off ⟨n, i, j, 1⟩ = Place.off ⟨n, i, j, 0⟩ := by simp [Place.off, Place.wide, wide, Place.addr]
  have hval (t : State) : t.valueAfter who ⟨n, i, j, 1⟩ = t.valueAfter who ⟨n, i, j, 0⟩ := by
    have hsl : Place.slice ⟨n, i, j, 1⟩ = Place.slice ⟨n, i, j, 0⟩ := by simp [Place.slice, Place.wide, wide]
    rw [State.valueAfter, State.valueAfter, hsl]; rfl
  unfold State.entered
  simp only [h, hoff, hval]
  rfl

theorem State.entered_accessCount (p : Place) : (s.entered who p v).accessCount = s.accessCount := by
  unfold State.entered
  dsimp only
  split
  · exact State.accessCount_diary _ _ _ _
  · rfl

/-- A whole write that raises no access error is what its upper half makes with the lower one (R9). -/
theorem writeLogged_upper (wide : (n.desc.width == 64) = true) (hs : n.Stands i j) (room : s.accessCount < 2 ^ 32 - 1)
    (h : (s.writeLogged who ⟨n, i, j, 0⟩ v).1.accessCount = s.accessCount) :
    (s.writeLogged who ⟨n, i, j, 1⟩ v).1 = (s.writeLogged who ⟨n, i, j, 0⟩ v).1 := by
  rw [State.writeLogged_eq] at h
  rw [State.writeLogged_eq, State.writeLogged_eq]
  rcases writePlace_upper (s := s) (who := who) wide hs v with e | ⟨t, off, e, ht⟩
  · rw [State.entered_upper n i j v wide e]
    rcases writePlace_upper (s := s.entered who ⟨n, i, j, 0⟩ v) (who := who) wide hs v with e2 | ⟨t, off, e2, ht⟩
    · rw [e2]
    · rw [e2] at h
      exact absurd h (accessCount_of_refused room (ht.trans (State.entered_accessCount v _)))
  · have none : s.entered who ⟨n, i, j, 0⟩ v = s := by rw [State.entered, e]; rfl
    rw [none, e] at h
    exact absurd h (accessCount_of_refused room ht)

end

end

section
variable {s u : State} {who : Requester} {n : RegName} {i j : Nat} (wide : (n.desc.width == 64) = true) (hs : n.Stands i j)
  (hs1 : placeAt (n.addr i j + 4) = some ⟨n, i, j, 1⟩)
include wide

/-- A 64-bit write that the requester may not make is refused (R27, R475). -/
theorem State.writeReg_wide_refused (hs : n.Stands i j) {v : Nat} (h : s.writable who ⟨n, i, j, 0⟩ v = false) :
    s.writeReg who (n.addr i j) 8 v = ((s.dropHalf who).accessError who (n.addr i j), false) := by
  have ha := n.addr_aligned i j
  rw [RegName.Stands] at hs
  simp only [wide, if_true] at ha
  have hwide : wideAt (n.addr i j) = some ⟨n, i, j, 0⟩ := by simp [wideAt, hs, Place.wide, wide]
  simp [State.writeReg, ha, hwide, State.writable_dropHalf, h]

include hs1

/-- An upper half after its lower one writes the whole register (R9). -/
theorem State.write32_upper_held {v l : Nat} (h : s.writable who ⟨n, i, j, 0⟩ v = true) (hl : s.heldHalf who (n.addr i j) = some l) :
    s.write32 who (n.addr i j + 4) v = (s.dropHalf who).writeLogged who ⟨n, i, j, 1⟩ (l + v * 2 ^ 32) := by
  have h1 : s.writable who ⟨n, i, j, 1⟩ v = true := h
  simp [State.write32, hs1, Place.wide, Place.addr, wide, hl, h1]

/-- An upper half alone writes 0, or the present value, below (R9). -/
theorem State.write32_upper_alone {v : Nat} (h : s.writable who ⟨n, i, j, 0⟩ v = true) (hl : s.heldHalf who (n.addr i j) = none) (hd : s.dropHalf who = s) :
    s.write32 who (n.addr i j + 4) v = s.writeLogged who ⟨n, i, j, 1⟩ (s.loneLower ⟨n, i, j, 1⟩ + v * 2 ^ 32) := by
  have h1 : s.writable who ⟨n, i, j, 1⟩ v = true := h
  simp [State.write32, hs1, Place.wide, Place.addr, wide, hl, hd, h1]

end

section
variable {s u : State} {who : Requester} {n : RegName} {i j : Nat} (wide : (n.desc.width == 64) = true) (hs : n.Stands i j)
include wide hs

/-- A write of an upper half does what the write of the whole does, if that is accepted (R9). -/
theorem registerWrite_upper {v : Word} {x : Nat} (hx : x < 2 ^ 64) (ha : aligned (n.addr i j) 8 = true) (hp : s.pathOpen who = true)
    (room : s.accessCount < 2 ^ 32 - 1)
    (hup : s.write32 who (n.addr i j + 4) (v.toNat % 2 ^ 32) = (s.dropHalf who).writeLogged who ⟨n, i, j, 1⟩ x)
    (hu : exec (.registerWrite who (n.addr i j) 8 (BitVec.ofNat 64 x)) s = .next u) (hc : u.accessCount = s.accessCount) :
    exec (.registerWrite who (n.addr i j + 4) 4 v) s = .next u := by
  have h4 : (n.addr i j + 4) % 4 = 0 := by
    have := ((aligned_iff _ _).mp ha).2
    omega
  rw [exec_registerWrite hp, BitVec.toNat_ofNat, Nat.mod_eq_of_lt hx] at hu
  rw [exec_registerWrite hp, State.writeReg_four h4, hup]
  injection hu with hu
  cases hw : s.writable who ⟨n, i, j, 0⟩ x with
  | true =>
    rw [State.writeReg_wide hs wide hw] at hu
    rw [← hu] at hc ⊢
    rw [writeLogged_upper n i j x wide hs (by rw [State.accessCount_dropHalf]; exact room) (by rw [State.accessCount_dropHalf]; exact hc)]
  | false =>
    rw [State.writeReg_wide_refused wide hs hw] at hu
    rw [← hu] at hc
    exact absurd hc (accessCount_of_refused room (s.accessCount_dropHalf who))

end

end Sys2Proof.Machine
end

section
/-!
SUPPORT. RC_FIELD_READ (R6, R8).
-/
namespace Sys2Proof.Machine
-- Proofs one after the other: each thread of the elaborator claims its whole stack.
set_option Elab.async false

/-! ## Fields of one register -/

/-- Two different fields of a register share no bit. -/
theorem RegName.fields_apart_of_ne {n : RegName} {f g : FieldDesc} (hf : f ∈ n.desc.fields) (hg : g ∈ n.desc.fields) (hne : f ≠ g) : f.apart g = true := by
  have symm : Std.Symm (fun f g : FieldDesc => f.apart g = true) := ⟨fun _ _ h => FieldDesc.apart_comm h⟩
  exact n.fields_apart.forall hf hg hne

/-- A field is replaced where it lies, and the others stay. -/
theorem bits_putBits_field {n : RegName} {f g : FieldDesc} (hf : f ∈ n.desc.fields) (hg : g ∈ n.desc.fields) (x v : Nat) :
    bits (putBits x f.lo f.width v) g.lo g.width = if g = f then v % 2 ^ f.width else bits x g.lo g.width := by
  split
  · next e => rw [e, bits_putBits_same]
  · next e =>
    have ha := RegName.fields_apart_of_ne hf hg (fun h => e h.symm)
    simp only [FieldDesc.apart, Bool.or_eq_true, decide_eq_true_eq] at ha
    exact bits_putBits_apart _ _ ha

/-- Clearing the fields of one access code leaves the fields of another. -/
theorem bits_clearFields {n : RegName} {g : FieldDesc} (hg : g ∈ n.desc.fields) {a : Access} (ha : g.access ≠ a) (x : Nat) :
    bits (clearFields n.desc.fields a x) g.lo g.width = bits x g.lo g.width := by
  unfold clearFields
  have fold : ∀ (l : List FieldDesc), (∀ f ∈ l, f ∈ n.desc.fields) → ∀ y,
      bits (l.foldl (fun v f => if f.access == a then putBits v f.lo f.width 0 else v) y) g.lo g.width = bits y g.lo g.width := by
    intro l
    induction l with
    | nil => exact fun _ _ => rfl
    | cons f l ih =>
      intro hl y
      refine (ih (fun e he => hl e (List.mem_cons_of_mem _ he)) _).trans ?_
      dsimp only
      split
      · next hfa => rw [bits_putBits_field (hl f List.mem_cons_self) hg, if_neg (fun e => ha (by rw [e]; exact beq_iff_eq.mp hfa))]
      · rfl
  exact fold _ (fun _ h => h) x

/-! ## What a read shows -/

/-- The registers that show the state of a unit. -/
def RegName.shows (n : RegName) : Bool :=
  ([.coreStatus, .coreClock, .coreThreadState, .coreSlotOwner, .coreSlateMap, .clusterState, .tutorLessonLoad, .hostStatus, .hostFlush, .corridorNodes,
    .diaryEntryIndex, .diarySealIndex, .diaryEntryStatus, .diarySealStatus, .diaryEntry, .diarySeal] : List RegName).elem n

theorem RegName.shows_access {n : RegName} (h : n.shows = true) : ∀ f ∈ n.desc.fields, f.access ≠ .rc := by
  have k := RegName.forall_of_all (p := fun n => !n.shows || n.desc.fields.all (fun f => f.access != .rc)) (by decide +kernel) n
  simpa [h] using k
theorem State.view_of_not_shows (s : State) (who : Requester) {n : RegName} (h : n.shows = false) (i j : Nat) : s.view who n i j = s.reg n i j := by
  unfold State.view
  dsimp only
  split
  case h_17 => rfl
  all_goals exact absurd h (by decide)

/-- An RC field reads what its register holds. -/
theorem State.readWhole_rc (s : State) (who : Requester) {n : RegName} (i j k : Nat) {f : FieldDesc} (hf : f ∈ n.desc.fields) (hrc : f.access = .rc) :
    bits (s.readWhole who ⟨n, i, j, k⟩) f.lo f.width = bits (s.reg n i j) f.lo f.width := by
  have hs : n.shows = false := Bool.eq_false_iff.mpr (fun h => RegName.shows_access h f hf hrc)
  unfold State.readWhole
  rw [bits_clearFields hf (by rw [hrc]; decide), s.view_of_not_shows who hs]

/-! ## What a read clears -/

/-- One RC field goes back to its reset value, as `State.clearRc` makes it. -/
def State.clearField (s : State) (n : RegName) (i j : Nat) (f : FieldDesc) : State :=
  s.setReg n i j (putBits (s.reg n i j) f.lo f.width (bits n.desc.reset f.lo f.width))

/-- The fields that a read of a 32-bit register clears. -/
def RegDesc.cleared (d : RegDesc) : List FieldDesc := d.fields.filter (fun f => f.access == .rc && 0 ≤ f.lo && f.lo < 0 + 32)

section
variable (s : State) (n : RegName) (i j : Nat)

theorem State.clearRc_eq : s.clearRc ⟨n, i, j, 0⟩ (32 * 0) 32 = s.each n.desc.cleared (fun s f => s.clearField n i j f) := rfl

/-- The fields of a list go back to their reset values, and the other fields stay. -/
theorem State.clearFields_field {l : List FieldDesc} (hl : ∀ f ∈ l, f ∈ n.desc.fields) {g : FieldDesc} (hg : g ∈ n.desc.fields) :
    bits ((s.each l (fun s f => s.clearField n i j f)).reg n i j) g.lo g.width
      = bits (if g ∈ l then n.desc.reset else s.reg n i j) g.lo g.width := by
  induction l generalizing s with
  | nil => rfl
  | cons f l ih =>
    have step : bits ((s.clearField n i j f).reg n i j) g.lo g.width = bits (if g = f then n.desc.reset else s.reg n i j) g.lo g.width := by
      rw [State.clearField, State.reg_setReg_same, bits_mod _ (RegName.field_le_width hg), bits_putBits_field (hl f List.mem_cons_self) hg]
      split
      · next e => rw [e, Nat.mod_eq_of_lt (bits_lt _ _ _)]
      · rfl
    have rest := ih (s.clearField n i j f) (fun e he => hl e (List.mem_cons_of_mem _ he))
    refine rest.trans ?_
    by_cases hm : g ∈ l
    · simp [hm]
    · simp only [hm, if_false, step, List.mem_cons, or_false]

/-- An RC field of a 32-bit register is among those that a read clears, or has no bits. -/
theorem RegName.mem_cleared {n : RegName} (hw : n.desc.width = 32) {g : FieldDesc} (hg : g ∈ n.desc.fields) (hpos : g.width ≠ 0) :
    g ∈ n.desc.cleared ↔ g.access = .rc := by
  have hin := RegName.field_le_width hg
  simp only [RegDesc.cleared, List.mem_filter, hg, true_and, Bool.and_eq_true, beq_iff_eq, decide_eq_true_eq]
  exact ⟨fun h => h.1.1, fun h => ⟨⟨h, Nat.zero_le _⟩, by omega⟩⟩

theorem State.clearRc_field (hw : n.desc.width = 32) {g : FieldDesc} (hg : g ∈ n.desc.fields) :
    bits ((s.clearRc ⟨n, i, j, 0⟩ (32 * 0) 32).reg n i j) g.lo g.width = bits (if g.access = .rc then n.desc.reset else s.reg n i j) g.lo g.width := by
  by_cases hpos : g.width = 0
  · simp only [bits, hpos, pow_zero, Nat.mod_one]
  · rw [State.clearRc_eq, s.clearFields_field n i j (l := n.desc.cleared) (fun f hf => List.mem_of_mem_filter hf) hg]
    simp only [RegName.mem_cleared hw hg hpos]

/-- A read changes no register but its own, no memory and nothing that has left the module. -/
theorem State.clearRc_frame (hs : n.Stands i j) :
    (s.clearRc ⟨n, i, j, 0⟩ (32 * 0) 32).mem = s.mem ∧ (s.clearRc ⟨n, i, j, 0⟩ (32 * 0) 32).outbox = s.outbox
      ∧ ∀ (m : RegName) (a b : Nat), m.Stands a b → (m, a, b) ≠ (n, i, j) → (s.clearRc ⟨n, i, j, 0⟩ (32 * 0) 32).reg m a b = s.reg m a b := by
  rw [State.clearRc_eq]
  refine State.each_induct (fun t => t.mem = s.mem ∧ t.outbox = s.outbox ∧ ∀ (m : RegName) (a b : Nat), m.Stands a b → (m, a, b) ≠ (n, i, j) → t.reg m a b = s.reg m a b)
    _ _ _ ⟨rfl, rfl, fun _ _ _ _ _ => rfl⟩ (fun t f ht => ?_)
  obtain ⟨hmem, hout, hreg⟩ := ht
  exact ⟨hmem, hout, fun m a b hm hne => (State.reg_setReg_stands _ hs hm hne).trans (hreg m a b hm hne)⟩

end

/-- RC_FIELD_READ of a 32-bit register answers its RC fields and resets them (R6). -/
theorem rcFieldRead_completes (who : Requester) (n : RegName) (i j : Nat) (s : State) (hw : n.desc.width = 32) (hs : n.Stands i j)
    (ha : aligned (n.addr i j) 4 = true) (hp : s.pathOpen who = true) (hr : s.readable who ⟨n, i, j, 0⟩ = true) :
    Completes (.rcFieldRead who (n.addr i j) 4) s (fun u => u.mem = s.mem
      ∧ (∀ f ∈ n.desc.fields, bits (u.reg n i j) f.lo f.width = bits (if f.access = .rc then n.desc.reset else s.reg n i j) f.lo f.width)
      ∧ (∀ (m : RegName) (a b : Nat), m.Stands a b → (m, a, b) ≠ (n, i, j) → u.reg m a b = s.reg m a b)
      ∧ ∃ x, u.outbox = s.outbox ++ [.readData who (BitVec.ofNat 64 x)]
        ∧ ∀ f ∈ n.desc.fields, f.access = .rc → bits x f.lo f.width = bits (s.reg n i j) f.lo f.width) := by
  have hread : s.readReg who (n.addr i j) 4 = (s.clearRc ⟨n, i, j, 0⟩ (32 * 0) 32, bits (s.readWhole who ⟨n, i, j, 0⟩) (32 * 0) 32, true) := by
    rw [RegName.Stands] at hs
    rw [State.readReg_four ((aligned_iff _ _).mp ha).2, State.read32, hs]
    simp only [hr, if_true]
  have he : exec (.rcFieldRead who (n.addr i j) 4) s
      = .next ((s.clearRc ⟨n, i, j, 0⟩ (32 * 0) 32).emit (.readData who (BitVec.ofNat 64 (bits (s.readWhole who ⟨n, i, j, 0⟩) (32 * 0) 32)))) := by
    have e : exec (.rcFieldRead who (n.addr i j) 4) s = .next (registerRead s who (n.addr i j) 4) := rfl
    rw [e, registerRead, State.onPath_of_open hp, hread]
  obtain ⟨hmem, hout, hreg⟩ := s.clearRc_frame n i j hs
  refine ⟨_, he, hmem, fun f hf => s.clearRc_field n i j hw hf, hreg, _, congrArg (· ++ _) hout, fun f hf hrc => ?_⟩
  have hin := RegName.field_le_width hf
  rw [← s.readWhole_rc who i j 0 hf hrc]
  exact (congrArg (fun y => bits y f.lo f.width) (by simp [bits])).trans (bits_mod (s.readWhole who ⟨n, i, j, 0⟩) (n := 32) (by omega))

end Sys2Proof.Machine
end

section
/-!
The obligation on register writes of the module (R6, R9, R10, R26, R277, R330, R331, R392, R395, R404, R482, R486).
-/
namespace Sys2Proof.Machine

/-- Settles O53: each command's write reaches its register by `completes_of_reaches`, and what it does there is the lemma of its chapter; plain writes, halves and reads go field by field. -/
theorem moduleRegisterWrites : Obligations.ModuleRegisterWrites := by
  refine ⟨portEnable_completes, portDisable_completes, fun who s h _ => corridorJoin_completes who s h, stopSend_completes, stopClear_completes,
    recess_completes, wake_completes, capWrite_completes, hostLimitWrite_completes, suspectClear_completes, ruleStep_completes, fwSvnCommit_completes,
    diaryIndexWrite_completes, linkHold_completes, fun who n i j v s plain narrow hs _ h => ?_, fun who n i j v s => registerWrite_lower who n i j v s,
    fun who n i j v s wide hs hs1 ha h room => ⟨fun l u held small hu hc => ?_, fun u hd none hu hc => ?_⟩, fun who n i j s => rcFieldRead_completes who n i j s⟩
  · obtain ⟨u, he, effect⟩ := registerWrite_plain who n i j v s plain narrow hs h
    exact ⟨u, he, effect.mem, effect.fields, effect.others, effect.count, effect.silent, effect.entry⟩
  · have hv : v.toNat % 2 ^ 32 < 2 ^ 32 := Nat.mod_lt _ (by decide)
    exact registerWrite_upper wide hs (by omega) ha (State.pathOpen_of_reaches h) room
      (State.write32_upper_held wide hs1 (State.writable_of_reaches h) held) hu hc
  · have hv : v.toNat % 2 ^ 32 < 2 ^ 32 := Nat.mod_lt _ (by decide)
    have lower : s.loneLower ⟨n, i, j, 1⟩ = if n.desc.writable.elem .rw then s.reg n i j % 2 ^ 32 else 0 := by simp [State.loneLower, bits]
    have small : s.loneLower ⟨n, i, j, 1⟩ < 2 ^ 32 := by
      rw [lower]
      split
      · exact Nat.mod_lt _ (by decide)
      · decide
    have alone := State.write32_upper_alone wide hs1 (State.writable_of_reaches h) none hd
    exact registerWrite_upper wide hs (by omega) ha (State.pathOpen_of_reaches h) room
      (x := s.loneLower ⟨n, i, j, 1⟩ + v.toNat % 2 ^ 32 * 2 ^ 32) (by rw [hd]; exact alone) (by rw [lower]; exact hu) hc

end Sys2Proof.Machine
end

section
/-!
The obligation on the values of vector operations and tables (R44, R53, R103, R126, R128, R129, R130, R135, R139, R140): refuted at a value that is not proper.
-/
namespace Sys2Proof.Machine

/-- A magnitude with numerator 0, which no decoder and no operation makes and `Val.proper` excludes: it reads as the number 0, but it is none of the zeros of R129. -/
def numberedZero : Val := .num false (.rat 0 1 0)

theorem numberedZero_toRat : numberedZero.toRat = some 0 := by simp [numberedZero, Val.toRat]

/-- An infinity times `numberedZero` goes by the rule for non-zero numbers. -/
theorem arith_mul_inf_numberedZero (d : Val) : arith 2 (.inf false) numberedZero d = .inf false := rfl

/-- Refutes O24: its clause on the special cases of R129 asks of `b` that it reads as a rational number, and not that it is proper as the clause on
finite operands does; at `b` = `numberedZero` it claims that infinity times `b` is NaN, and the model answers infinity. -/
theorem not_vectorAndTableValues : ¬ Obligations.VectorAndTableValues := by
  intro h
  obtain ⟨-, -, special, -⟩ := h
  obtain ⟨-, -, -, hmul, -⟩ := special .nan numberedZero .nan false false 0 numberedZero_toRat
  rw [arith_mul_inf_numberedZero, if_pos rfl] at hmul
  exact Val.noConfusion hmul

end Sys2Proof.Machine
end

section
/-!
SUPPORT. What a slice's checks and counts leave: module memory, the slices' configuration, and which lines a slice holds (R206, R209, R217, R223).
-/
namespace Sys2Proof.Machine

/-! ## Homes -/

theorem sliceHash_lt (l : Nat) : sliceHash l < 256 := by
  have h (lo : Nat) : bits l lo 8 < 2 ^ 8 := bits_lt l lo 8
  have h1 : bits l 47 1 < 2 ^ 8 := (bits_lt l 47 1).trans (by decide)
  unfold sliceHash
  exact Nat.xor_lt_two_pow (Nat.xor_lt_two_pow (Nat.xor_lt_two_pow (Nat.xor_lt_two_pow (Nat.xor_lt_two_pow (h 7) (h 15)) (h 23)) (h 31)) (h 39)) h1

theorem homeSlice_lt (a : Nat) : homeSlice a < 1024 := by
  have h1 : addrStack a < 2 ^ 2 := bits_lt a 48 2
  have h2 := sliceHash_lt (addrLocal a)
  unfold homeSlice
  omega

/-- A register of every slice stands in each. -/
theorem stands_slice {n : RegName} {k j : Nat} (h : k < 1024) (hb : n.block = .slice := by rfl) (hj : j < n.desc.count := by decide) : n.Stands k j :=
  RegName.stands (by rw [hb]; exact h) (by unfold RegName.inInstance; rw [hb]) hj
/-- A register of every HBM4 device stands at the device of each slice. -/
theorem stands_hbmOf {n : RegName} {k : Nat} (h : k < 1024) (hb : n.block = .hbm := by rfl) (hj : 0 < n.desc.count := by decide) : n.Stands (hbmOf k) 0 :=
  RegName.stands (by rw [hb]; simp only [hbmOf, Block.instances]; omega) (by unfold RegName.inInstance; rw [hb]) hj

/-- The bits of an address from bit 7 up are those of its line. -/
theorem bits_of_line {a b : Nat} (h : a / 128 = b / 128) {lo : Nat} (hlo : 7 ≤ lo) (w : Nat) : bits a lo w = bits b lo w := by
  obtain ⟨k, rfl⟩ := Nat.exists_eq_add_of_le hlo
  simp only [bits, Nat.pow_add, ← Nat.div_div_eq_div_mul]
  rw [show (2 : Nat) ^ 7 = 128 from rfl, h]

/-- The addresses of one line have one stack, one home slice, one set and one region. -/
theorem addrStack_of_line {a b : Nat} (h : a / 128 = b / 128) : addrStack a = addrStack b := bits_of_line h (by decide) 2
theorem addrLocal_div_of_line {a b : Nat} (h : a / 128 = b / 128) : addrLocal a / 128 = addrLocal b / 128 := by
  simp only [addrLocal, bits]
  omega
theorem homeSlice_of_line {a b : Nat} (h : a / 128 = b / 128) : homeSlice a = homeSlice b := by
  have hl := addrLocal_div_of_line h
  simp only [homeSlice, addrStack_of_line h, sliceHash, bits_of_line hl (show 7 ≤ 7 by decide), bits_of_line hl (show 7 ≤ 15 by decide),
    bits_of_line hl (show 7 ≤ 23 by decide), bits_of_line hl (show 7 ≤ 31 by decide), bits_of_line hl (show 7 ≤ 39 by decide), bits_of_line hl (show 7 ≤ 47 by decide)]
theorem regionOf_of_line {a b : Nat} (h : a / 128 = b / 128) : regionOf a = regionOf b := by
  have hl := addrLocal_div_of_line h
  have cut {x y : Nat} (e : x / 128 = y / 128) (k : Nat) : x < 128 * k ↔ y < 128 * k := by omega
  simp only [regionOf, ge_iff_le, ← Nat.not_lt, cut h (2 ^ 43), cut hl 0x200000000, cut hl 0x202000000, cut hl 0x202200000, cut hl 0x204000000, cut hl 0x204008000,
    show (2 : Nat) ^ 50 = 128 * 2 ^ 43 by decide, show 0x10000000000 = 128 * 0x200000000 by decide, show 0x10100000000 = 128 * 0x202000000 by decide,
    show 0x10110000000 = 128 * 0x202200000 by decide, show 0x10200000000 = 128 * 0x204000000 by decide, show 0x10200400000 = 128 * 0x204008000 by decide]

/-! ## What a check notes -/

/-- Every copy's check, count and record: `u` is `s` but for registers other than SLICE.CONFIG, the log, the marks of wrong symbols and of poison, and what has left the module, to which something may have been added. -/
structure Noted (s u : State) : Prop where
  fields : u = { s with
    regs := u.regs, hports := u.hports, outbox := u.outbox, proctor := u.proctor, poison := u.poison, arrayErr := u.arrayErr, hbmErr := u.hbmErr }
  config : RegsKept (fun m _ _ => m = .sliceConfig) s u
  sent : s.outbox <+: u.outbox

section
variable {s t u : State}

theorem Noted.refl (s : State) : Noted s s := ⟨rfl, .refl _ _, List.prefix_rfl⟩
theorem Noted.trans (h : Noted s t) (k : Noted t u) : Noted s u :=
  ⟨by rw [k.fields, h.fields], h.config.trans k.config, h.sent.trans k.sent⟩
theorem Noted.mem (h : Noted s u) : u.mem = s.mem := by rw [h.fields]
theorem Noted.slices (h : Noted s u) : u.slices = s.slices := by rw [h.fields]
theorem Noted.slice (h : Noted s u) (n : Nat) : u.slice n = s.slice n := by rw [State.slice, h.slices, State.slice]

theorem Noted.setFld (h : Noted s u) {f : RegField} {i j : Nat} (hs : f.reg.Stands i j) (v : Nat) (hc : f.reg ≠ .sliceConfig := by decide) :
    Noted s (u.setFld f i j v) :=
  h.trans ⟨rfl, (RegsKept.refl _ _).setFld v hs hc, List.prefix_rfl⟩
theorem Noted.bump (h : Noted s u) {f : RegField} {i j : Nat} (hs : f.reg.Stands i j) (v : Nat) (hc : f.reg ≠ .sliceConfig := by decide) :
    Noted s (u.bump f i j v) := h.setFld hs _ hc
theorem Noted.bumpSat (h : Noted s u) {f : RegField} {i j : Nat} (hs : f.reg.Stands i j) (v : Nat) (hc : f.reg ≠ .sliceConfig := by decide) :
    Noted s (u.bumpSat f i j v) := h.setFld hs _ hc
theorem Noted.poison (h : Noted s u) (l : NatSet) : Noted s { u with poison := l } := h.trans ⟨rfl, .of_regs rfl, List.prefix_rfl⟩
theorem Noted.arrayErr (h : Noted s u) (l : Tab Nat) : Noted s { u with arrayErr := l } := h.trans ⟨rfl, .of_regs rfl, List.prefix_rfl⟩
theorem Noted.hbmErr (h : Noted s u) (l : Tab Nat) : Noted s { u with hbmErr := l } := h.trans ⟨rfl, .of_regs rfl, List.prefix_rfl⟩

/-- What the log sends comes after what was sent before. -/
theorem Logs.sent (h : Logs s u) : s.outbox <+: u.outbox := by
  induction h with
  | refl => exact List.prefix_rfl
  | emit _ o ih => exact ih.trans (List.prefix_append _ _)
  | reg _ _ _ _ _ _ _ ih | due _ _ _ ih | recent _ _ ih | toSend _ _ ih => exact ih
theorem Logs.poison (h : Logs s u) : u.poison = s.poison := by rw [h.fields]

theorem Noted.logError (h : Noted s u) (b : Block) (inst code d0 d1 : Nat) {cls : Nat} (hc : cls < 4 := by decide) :
    Noted s (u.logError b inst cls code d0 d1) := by
  have k := u.logError_logs b inst cls code d0 d1
  refine (h.bumpSat (f := F.proctorErrlogClassCount) (stands_errlogClass hc) 1).trans ⟨?_, k.regsKept.mono (fun m _ _ e => by rw [e]; rfl), k.sent⟩
  rw [k.fields]
theorem State.logError_poison (s : State) (b : Block) (inst cls code d0 d1 : Nat) : (s.logError b inst cls code d0 d1).poison = s.poison :=
  (s.logError_logs b inst cls code d0 d1).poison

end

section
variable {s u : State} (h : Noted s u) (a : Nat)
include h

theorem Noted.hbmReport (d1 : Nat) : Noted s (u.hbmReport a d1) :=
  (h.bumpSat (f := F.hbmUncorrectedCount) (stands_hbmOf (homeSlice_lt a)) 1).logError _ _ _ _ _
theorem Noted.setPoison (p : Bool) : Noted s (u.setPoison a p) := h.poison _
theorem Noted.hbmCheck : Noted s (u.hbmCheck a) := by
  unfold State.hbmCheck
  dsimp only
  split_ifs
  · exact h.hbmErr _
  · exact (h.hbmErr _).bumpSat (f := F.hbmCorrectedCount) (stands_hbmOf (homeSlice_lt a)) 1
  · exact ((h.hbmErr _).setPoison a true).hbmReport a 0
theorem Noted.countFetch : Noted s (u.countFetch a) := (h.bump (f := F.hbmReadSectorsCount) (stands_hbmOf (homeSlice_lt a)) 1).hbmCheck a
theorem Noted.countHit {cls : Nat} (hc : cls < 8) (hit : Bool) : Noted s (u.countHit (homeSlice a) cls hit) := by
  cases hit with
  | true => exact h.bump (f := F.sliceHitCount) (stands_slice (homeSlice_lt a) rfl hc) 1
  | false => exact h.bump (f := F.sliceMissCount) (stands_slice (homeSlice_lt a) rfl hc) 1
theorem Noted.fetchRest (line : Nat) (valid : BitVec 4) : Noted s (u.fetchRest line valid) := by
  refine State.each_induct (Noted s) _ _ _ h (fun t k ht => ?_)
  split
  · exact ht
  · exact ht.countFetch _

end

/-- The check of a sector read from HBM4 poisons it where more than two of its symbols are wrong, and changes no other mark (R223). -/
theorem State.countFetch_poison (s : State) (a : Nat) :
    (s.countFetch a).poison = if Tab.get 0 s.hbmErr (a / 32) ≤ 2 then s.poison else NatSet.insert s.poison (a / 32) := by
  unfold State.countFetch State.hbmCheck
  dsimp only [State.bump_hbmErr]
  split_ifs
  · rfl
  · omega
  · rfl
  · exact State.logError_poison _ _ _ _ _ _ _

/-! ## Which lines a slice holds -/

/-- `u` has the memory of `s`, and every slice in `u` takes accesses as in `s`: its channel works and it has not failed where they do in `s`, and it holds the same lines. -/
structure LinesKept (s u : State) : Prop where
  mem : u.mem = s.mem
  config : RegsKept (fun m _ _ => m = .sliceConfig) s u
  failed : ∀ n, (u.slice n).failed = (s.slice n).failed
  found : ∀ n line, ((u.slice n).find line).isSome = ((s.slice n).find line).isSome
  held : ∀ n line, ((u.slice n).findHold line).isSome = ((s.slice n).findHold line).isSome

section
variable {s t u : State}

theorem LinesKept.trans (h : LinesKept s t) (k : LinesKept t u) : LinesKept s u :=
  ⟨k.mem.trans h.mem, h.config.trans k.config, fun n => (k.failed n).trans (h.failed n), fun n l => (k.found n l).trans (h.found n l),
    fun n l => (k.held n l).trans (h.held n l)⟩
theorem Noted.linesKept (h : Noted s u) : LinesKept s u :=
  ⟨h.mem, h.config, fun n => by rw [h.slice], fun n _ => by rw [h.slice], fun n _ => by rw [h.slice]⟩

/-- What the records of the slices have in common before and after a change of one of them. -/
theorem State.slice_setSlice_of {β : Type} (f : Slice → β) {s : State} {n : Nat} {v : Slice} (h : f v = f (s.slice n)) (m : Nat) :
    f ((s.setSlice n v).slice m) = f (s.slice m) := by
  by_cases e : m = n
  · rw [e, State.slice_setSlice_same, h]
  · rw [State.slice_setSlice_other _ _ _ _ e]

/-- A slice's record may change otherwise. -/
theorem LinesKept.setSlice (h : LinesKept s u) {n : Nat} {v : Slice} (hf : v.failed = (u.slice n).failed)
    (hl : ∀ line, (v.find line).isSome = ((u.slice n).find line).isSome) (hh : ∀ line, (v.findHold line).isSome = ((u.slice n).findHold line).isSome) :
    LinesKept s (u.setSlice n v) :=
  h.trans ⟨rfl, .of_regs rfl, State.slice_setSlice_of Slice.failed hf, fun m line => State.slice_setSlice_of (fun sl => (sl.find line).isSome) (hl line) m,
    fun m line => State.slice_setSlice_of (fun sl => (sl.findHold line).isSome) (hh line) m⟩
theorem LinesKept.ite (h : LinesKept s t) (k : LinesKept s u) (p : Prop) [Decidable p] : LinesKept s (if p then t else u) := by split <;> assumption

end

/-- A search by line that a replacement of the found line does not change the answer of. -/
theorem find?_isSome_map {α : Type} (key : α → Nat) (x : α) (l : List α) (k : Nat) :
    ((l.map (fun y => if key y == key x then x else y)).find? (fun y => key y == k)).isSome = (l.find? (fun y => key y == k)).isSome := by
  have same (y : α) : key (if key y == key x then x else y) = key y := by
    split
    · next e => exact (beq_iff_eq.mp e).symm
    · rfl
  rw [List.find?_map, Option.isSome_map]
  simp only [Function.comp_def, same]
theorem Slice.find_putLine_isSome (sl : Slice) (l : CacheLine) (line : Nat) : ((sl.putLine l).find line).isSome = (sl.find line).isSome :=
  find?_isSome_map CacheLine.line l sl.lines line
theorem Slice.findHold_putHold_isSome (sl : Slice) (h : HoldEntry) (line : Nat) : ((sl.putHold h).findHold line).isSome = (sl.findHold line).isSome :=
  find?_isSome_map HoldEntry.line h sl.hold line

section
variable {s u : State} (h : LinesKept s u)
include h

theorem LinesKept.noted {v : State} (k : Noted u v) : LinesKept s v := h.trans k.linesKept
theorem LinesKept.arrayCheck (a : Nat) (kind : AccessKind) : LinesKept s (u.arrayCheck a kind) := by
  have cleared := h.noted ((Noted.refl u).arrayErr (Tab.set 0 u.arrayErr (a / 32) 0))
  have home := homeSlice_lt a
  unfold State.arrayCheck
  dsimp only
  split_ifs
  · exact cleared
  · have counted := cleared.noted ((Noted.refl _).bumpSat (f := F.sliceEccCorrectedCount) (j := 0) (stands_slice home) 1)
    unfold State.arrayCorrected
    dsimp only
    split
    · exact counted.setSlice rfl (fun _ => rfl) (fun _ => rfl)
    · exact counted
  · exact cleared.noted (((Noted.refl _).setPoison a true |>.bumpSat (f := F.sliceEccUncorrectedCount) (j := 0) (stands_slice home) 1).logError _ _ _ _ _)

end

section
variable {s u : State} (h : LinesKept s u) (n : Nat)
include h

theorem LinesKept.fetching (l : NatSet) : LinesKept s (u.setSlice n { u.slice n with fetching := l }) := h.setSlice rfl (fun _ => rfl) (fun _ => rfl)
theorem LinesKept.putHold (e : HoldEntry) : LinesKept s (u.setSlice n ((u.slice n).putHold e)) :=
  h.setSlice rfl (fun _ => rfl) (fun _ => Slice.findHold_putHold_isSome _ _ _)
theorem LinesKept.putLine (l : CacheLine) (set : Nat) (way : Fin 16) : LinesKept s (u.setSlice n (((u.slice n).putLine l).touch set way)) :=
  h.setSlice rfl (fun _ => Slice.find_putLine_isSome _ _ _) (fun _ => rfl)

end

/-! ## Accesses of a line that the slice holds -/

theorem LinesKept.refl (s : State) : LinesKept s s := (Noted.refl s).linesKept

section
variable (s : State) {a cls : Nat} (kind : AccessKind)

/-- An access of a line that the slice holds is made at once (R206, R217). -/
theorem State.cacheAccess_held (hc : cls < 8)
    (held : ((s.slice (homeSlice a)).findHold (a / 128)).isSome = true ∨ ((s.slice (homeSlice a)).find (a / 128)).isSome = true) :
    ∃ t, s.cacheAccess a cls kind true = some t ∧ LinesKept s t := by
  have home := homeSlice_lt a
  have checked (hit : Bool) : LinesKept s ((s.countHit (homeSlice a) cls hit).arrayCheck a kind) :=
    ((LinesKept.refl s).noted ((Noted.refl s).countHit a hc hit)).arrayCheck a kind
  unfold State.cacheAccess
  dsimp only
  split
  · next e he =>
    refine ⟨_, rfl, ?_⟩
    have first := checked (hasSector e.valid a)
    generalize (s.countHit (homeSlice a) cls (hasSector e.valid a)).arrayCheck a kind = t at first ⊢
    have fetched := first.ite (first.noted ((Noted.refl t).countFetch a)) ((hasSector e.valid a || decide (kind = .whole)) = true)
    exact ((fetched.noted ((Noted.refl _).bump (f := F.sliceHoldMergesCount) (j := 0) (stands_slice home) 1)).ite fetched _).putHold _ _
  · next he =>
    split
    · next l hl =>
      refine ⟨_, rfl, ?_⟩
      have first := checked (hasSector l.valid a)
      generalize (s.countHit (homeSlice a) cls (hasSector l.valid a)).arrayCheck a kind = t at first ⊢
      exact (first.ite ((first.fetching _ _).ite (first.noted ((Noted.refl t).countFetch a)) _) _).putLine _ _ _ _
    · next hl =>
      rw [he, hl] at held
      simp at held

end

end Sys2Proof.Machine
end

section
/-!
SUPPORT. Requests that a slice takes at once: the bytes of a write, and what a reduction makes of each element (R206, R207, R209, R214).
-/
namespace Sys2Proof.Machine

/-! ## Bytes and numbers -/

/-- A byte after a write of bytes. -/
theorem State.byte_setBytes (s : State) (a : Nat) (l : List Byte) (x : Nat) :
    (s.setBytes a l).byte x = if a ≤ x ∧ x < a + l.length then l.getD (x - a) 0 else s.byte x := by
  split
  · next h =>
    have e := State.byte_setBytes_inside s a l (x - a) (by omega)
    rw [show a + (x - a) = x by omega] at e
    rw [e, List.getD_eq_getElem _ _ (by omega)]
  · next h => exact State.byte_setBytes_outside s a l x (by omega)
theorem State.byte_of_mem {s u : State} (h : u.mem = s.mem) (x : Nat) : u.byte x = s.byte x := by rw [State.byte, h, State.byte]
theorem State.bytes_of_byte {s u : State} {a n : Nat} (h : ∀ x, a ≤ x → x < a + n → u.byte x = s.byte x) : u.bytes a n = s.bytes a n :=
  List.map_congr_left (fun i hi => h _ (by omega) (by have := List.mem_range.mp hi; omega))
theorem State.bytes_of_mem {s u : State} (h : u.mem = s.mem) (a n : Nat) : u.bytes a n = s.bytes a n := State.bytes_of_byte (fun x _ _ => State.byte_of_mem h x)
theorem State.num_of_mem {s u : State} (h : u.mem = s.mem) (a n : Nat) : u.num a n = s.num a n := by rw [State.num, State.bytes_of_mem h, State.num]
theorem State.bytes_length (s : State) (a n : Nat) : (s.bytes a n).length = n := by simp [State.bytes]

theorem unsigned_lt (w : Nat) (z : Int) : unsigned w z < 2 ^ w := by
  have h := Int.emod_lt_of_pos z (b := ((2 ^ w : Nat) : Int)) (by exact_mod_cast Nat.two_pow_pos w)
  have h0 := Int.emod_nonneg z (b := ((2 ^ w : Nat) : Int)) (by exact_mod_cast (Nat.two_pow_pos w).ne')
  unfold unsigned
  omega
/-- Two's complement forgets what is a multiple of 2^w. -/
theorem unsigned_congr {w : Nat} {x y : Int} (h : x % ((2 ^ w : Nat) : Int) = y % ((2 ^ w : Nat) : Int)) : unsigned w x = unsigned w y := by rw [unsigned, h, unsigned]
theorem signed_emod (w x : Nat) : signed w x % ((2 ^ w : Nat) : Int) = (x : Int) % ((2 ^ w : Nat) : Int) := by
  unfold signed
  dsimp only
  split
  · rw [Int.natCast_mod, Int.emod_emod]
  · rw [Int.sub_emod_right, Int.natCast_mod, Int.emod_emod]
/-- A sum of an element and a contribution of its own width is their sum modulo 2^w. -/
theorem unsigned_add_signed (w x y : Nat) : unsigned w ((x : Int) + signed w y) = (x + y) % 2 ^ w := by
  rw [unsigned, Int.add_emod, signed_emod, ← Int.add_emod]
  exact_mod_cast Int.toNat_natCast _
theorem signed_toNat {w : Nat} (x : BitVec w) : signed w x.toNat = x.toInt := by
  rw [BitVec.toInt_eq_toNat_cond, signed, Nat.mod_eq_of_lt x.isLt]

/-! ## A line that is taken at once -/

/-- Whether a write or a reduction of an address finds room: nothing there is discarded, and the address lies in scratch or in a line that its slice holds. -/
def State.takesLine (s : State) (a : Nat) : Bool :=
  !s.discards a && (regionOf a == .scratch || ((s.slice (homeSlice a)).findHold (a / 128)).isSome || ((s.slice (homeSlice a)).find (a / 128)).isSome)

theorem State.takesNow_eq (s : State) (a : Nat) : s.takesNow a = (s.served a && !s.setWaits a && s.takesLine a) := by
  rw [State.takesNow, State.takesLine, Bool.and_right_comm (s.served a), ← Bool.and_assoc]

theorem State.takesLine_of_line (s : State) {a b : Nat} (h : a / 128 = b / 128) : s.takesLine a = s.takesLine b := by
  rw [State.takesLine, State.discards, regionOf_of_line h, homeSlice_of_line h, h, State.takesLine, State.discards]
theorem State.takesLine_of_same {s u : State} (hr : u.regs = s.regs) (hs : u.slices = s.slices) (a : Nat) : u.takesLine a = s.takesLine a := by
  simp only [State.takesLine, State.discards, State.fld, State.reg, State.slice, hr, hs]
theorem LinesKept.takesLine {s u : State} (h : LinesKept s u) (a : Nat) : u.takesLine a = s.takesLine a := by
  have channel : u.fld F.sliceConfigChannelFailed (homeSlice a) = s.fld F.sliceConfigChannelFailed (homeSlice a) :=
    h.config.fld (f := F.sliceConfigChannelFailed) (stands_slice (homeSlice_lt a)) rfl
  rw [State.takesLine, State.discards, channel, h.failed, h.held, h.found, State.takesLine, State.discards]

section
variable {s : State} {a cls : Nat} (hc : cls < 8) (taken : s.takesLine a = true)
include hc taken

/-- An access of such a line is made at once (R206). -/
theorem State.sectorAccess_takesLine (kind : AccessKind) : ∃ t, s.sectorAccess a cls kind true = some t ∧ LinesKept s t := by
  unfold State.sectorAccess
  split
  · exact ⟨_, rfl, ((LinesKept.refl s).noted ((Noted.refl s).bump (f := F.sliceScratchSectorsCount) (j := 0) (stands_slice (homeSlice_lt a)) 1)).arrayCheck a kind⟩
  · next region =>
    split
    · exact ⟨_, rfl, .refl s⟩
    · simp only [State.takesLine, region, Bool.and_eq_true, Bool.or_eq_true] at taken
      exact s.cacheAccess_held kind hc (taken.2.imp_left (fun h => h.resolve_left (by decide)))
  · exact ⟨_, rfl, .refl s⟩

/-- A write of a piece of a sector writes its bytes (R209). -/
theorem State.writePiece_takesLine (data : List Byte) (p : Bool) :
    ∃ t, s.writePiece cls a data p true = some t ∧ (∀ b, t.takesLine b = s.takesLine b) ∧ ∀ x, t.byte x = (s.setBytes a data).byte x := by
  have kept : s.discards a = false := by simpa using (Bool.and_eq_true_iff.mp taken).1
  obtain ⟨t, ht, lines⟩ := State.sectorAccess_takesLine hc taken (if (data.length == 32 && a % 32 == 0) = true then .whole else .part)
  have wrote (x : Nat) : (t.setBytes a data).byte x = (s.setBytes a data).byte x := by
    rw [State.byte_setBytes, State.byte_setBytes, State.byte_of_mem lines.mem]
  have room (b : Nat) : (t.setBytes a data).takesLine b = s.takesLine b :=
    (State.takesLine_of_same (State.setBytes_regs _ _ _) (State.setBytes_slices _ _ _) b).trans (lines.takesLine b)
  unfold State.writePiece
  dsimp only
  rw [kept, ht]
  refine ⟨_, rfl, fun b => ?_, fun x => ?_⟩
  · split
    · exact (State.takesLine_of_same rfl rfl b).trans (room b)
    · exact room b
  · split
    · exact wrote x
    · exact wrote x

/-- A reduction is made in memory as it stands (R214). -/
theorem State.reduceInts_takesLine (size csize : Nat) (xs : List Nat) :
    ∃ t : State, s.reduceInts cls a size csize xs true = some (t.applyInts a size csize xs) ∧ t.mem = s.mem := by
  have kept : s.discards a = false := by simpa using (Bool.and_eq_true_iff.mp taken).1
  obtain ⟨t, ht, lines⟩ := State.sectorAccess_takesLine hc taken .reduce
  unfold State.reduceInts
  rw [kept, ht]
  exact ⟨_, rfl, lines.mem⟩
theorem State.reduceStats_takesLine (r : Stats) : ∃ t : State, s.reduceStats cls a r true = some (t.applyStats a r) ∧ t.mem = s.mem := by
  have kept : s.discards a = false := by simpa using (Bool.and_eq_true_iff.mp taken).1
  obtain ⟨t, ht, lines⟩ := State.sectorAccess_takesLine hc taken .reduce
  unfold State.reduceStats
  rw [kept, ht]
  exact ⟨_, rfl, lines.mem⟩

end

/-! ## A write over several sectors -/

/-- A run of pieces of a write, each of a line that is taken at once, writes each of its bytes. -/
theorem State.writePieces_takesLine {s : State} {a cls : Nat} (hc : cls < 8) (data : List Byte) (p : Bool) (l : List (Nat × Nat))
    (taken : ∀ pc ∈ l, s.takesLine pc.1 = true) (inside : ∀ pc ∈ l, a ≤ pc.1 ∧ pc.1 + pc.2 ≤ a + data.length) :
    ∃ t : State, l.foldl (fun (r : Option State) pc => r.bind (fun s => s.writePiece cls pc.1 ((data.drop (pc.1 - a)).take pc.2) p true)) (some s) = some t
      ∧ ∀ x, t.byte x = if ∃ pc ∈ l, pc.1 ≤ x ∧ x < pc.1 + pc.2 then data.getD (x - a) 0 else s.byte x := by
  induction l generalizing s with
  | nil => exact ⟨s, rfl, fun x => by simp⟩
  | cons pc l ih =>
    obtain ⟨u, hu, room, wrote⟩ := State.writePiece_takesLine hc (taken pc List.mem_cons_self) ((data.drop (pc.1 - a)).take pc.2) p
    obtain ⟨t, ht, bytes⟩ := ih (fun q hq => (room q.1).trans (taken q (List.mem_cons_of_mem _ hq))) (fun q hq => inside q (List.mem_cons_of_mem _ hq))
    refine ⟨t, by rw [List.foldl_cons, Option.bind_some, hu, ht], fun x => ?_⟩
    obtain ⟨lo, hi⟩ := inside pc List.mem_cons_self
    have len : ((data.drop (pc.1 - a)).take pc.2).length = pc.2 := by rw [List.length_take, List.length_drop]; omega
    rw [bytes x, wrote x, State.byte_setBytes, len]
    simp only [List.exists_mem_cons_iff]
    by_cases here : pc.1 ≤ x ∧ x < pc.1 + pc.2
    · have value : ((data.drop (pc.1 - a)).take pc.2).getD (x - pc.1) 0 = data.getD (x - a) 0 := by
        simp only [List.getD_eq_getElem?_getD, List.getElem?_take, List.getElem?_drop, show x - pc.1 < pc.2 by omega, if_true,
          show pc.1 - a + (x - pc.1) = x - a by omega]
      simp only [here, and_self, true_or, if_true, value, ite_self]
    · simp only [here, false_or, if_false]

/-- The pieces of a range lie in it and cover it. -/
theorem sectorPieces_inside {a n : Nat} (hn : 0 < n) {pc : Nat × Nat} (h : pc ∈ sectorPieces a n) : a ≤ pc.1 ∧ pc.1 < a + n ∧ pc.1 + pc.2 ≤ a + n := by
  obtain ⟨k, hk, rfl⟩ := List.mem_map.mp h
  have := List.mem_range.mp hk
  dsimp only
  omega
theorem sectorPieces_cover (a x : Nat) {n : Nat} (hn : 0 < n) : (∃ pc ∈ sectorPieces a n, pc.1 ≤ x ∧ x < pc.1 + pc.2) ↔ a ≤ x ∧ x < a + n := by
  constructor
  · rintro ⟨pc, h, hx⟩
    have := sectorPieces_inside hn h
    omega
  · intro hx
    refine ⟨_, List.mem_map.mpr ⟨x / 32 - a / 32, List.mem_range.mpr ?_, rfl⟩, ?_⟩
    · omega
    · dsimp only
      omega

/-- A write that stays in a line that is taken at once writes its bytes and no other. -/
theorem State.writePieces_byte {s : State} {a cls : Nat} (hc : cls < 8) (taken : s.takesLine a = true) {data : List Byte} (hn : 0 < data.length) (p : Bool)
    (line : a / 128 = (a + data.length - 1) / 128) :
    ∃ t : State, s.writePieces cls a data p true = some t ∧ ∀ x, t.byte x = if a ≤ x ∧ x < a + data.length then data.getD (x - a) 0 else s.byte x := by
  obtain ⟨t, ht, bytes⟩ := State.writePieces_takesLine hc data p (sectorPieces a data.length)
    (fun pc h => by
      have := sectorPieces_inside hn h
      exact (s.takesLine_of_line (by omega)).trans taken)
    (fun pc h => ⟨(sectorPieces_inside hn h).1, (sectorPieces_inside hn h).2.2⟩)
  exact ⟨t, ht, fun x => by simp only [bytes x, sectorPieces_cover a x hn]⟩

/-! ## A reduction over several elements -/

theorem reduceElem_length (size csize : Nat) (old : List Byte) (x : Nat) : (reduceElem size csize old x).length = size := toBytes_length _ _

/-- Contributions to elements from number `k` on: no byte outside changes, and each element is summed with its own. -/
theorem State.addInts_spec (a size csize : Nat) (xs : List Nat) (k : Nat) (s : State) :
    let t := s.each (xs.zipIdx k) (fun s xi => let b := a + size * xi.2; s.setBytes b (reduceElem size csize (s.bytes b size) xi.1))
    (∀ x, (x < a + size * k ∨ a + size * (k + xs.length) ≤ x) → t.byte x = s.byte x)
      ∧ ∀ j x, xs[j]? = some x → t.bytes (a + size * (k + j)) size = reduceElem size csize (s.bytes (a + size * (k + j)) size) x := by
  induction xs generalizing k s with
  | nil => exact ⟨fun _ _ => rfl, fun j x h => by simp at h⟩
  | cons y ys ih =>
    obtain ⟨outside, elements⟩ := ih (k + 1) (s.setBytes (a + size * k) (reduceElem size csize (s.bytes (a + size * k) size) y))
    have next : size * (k + 1) = size * k + size := Nat.mul_succ _ _
    have last : size * (k + (ys.length + 1)) = size * (k + 1 + ys.length) := by congr 1; omega
    have grows : size * (k + 1) ≤ size * (k + 1 + ys.length) := Nat.mul_le_mul_left _ (by omega)
    dsimp only at outside elements ⊢
    rw [List.zipIdx_cons, State.each, List.foldl_cons]
    refine ⟨fun x hx => ?_, fun j x hj => ?_⟩
    · rw [List.length_cons] at hx
      exact (outside x (by omega)).trans (State.byte_setBytes_outside _ _ _ _ (by rw [reduceElem_length]; omega))
    · cases j with
      | zero =>
        cases hj
        refine (State.bytes_of_byte (fun x _ _ => outside x (by rw [Nat.add_zero] at *; omega))).trans ?_
        have wrote := State.bytes_setBytes s (a + size * k) (reduceElem size csize (s.bytes (a + size * k) size) y)
        rw [reduceElem_length] at wrote
        rw [Nat.add_zero, wrote]
      | succ j =>
        have later : size * (k + 1) ≤ size * (k + (j + 1)) := Nat.mul_le_mul_left _ (by omega)
        have e := elements j x (by simpa using hj)
        rw [show k + 1 + j = k + (j + 1) by omega] at e
        refine e.trans ?_
        rw [State.bytes_of_byte (fun x _ _ => State.byte_setBytes_outside _ _ _ x (by rw [reduceElem_length]; omega))]

/-- Each element is summed with its contribution, sign-extended, modulo its width (R214). -/
theorem State.applyInts_num (s : State) (a size csize : Nat) (xs : List Nat) {j x : Nat} (h : xs[j]? = some x) :
    (s.applyInts a size csize xs).num (a + size * j) size = unsigned (8 * size) ((s.num (a + size * j) size : Int) + signed (8 * csize) x) := by
  have e := (s.addInts_spec a size csize xs 0).2 j x h
  rw [Nat.zero_add] at e
  rw [State.num, State.applyInts, e, reduceElem, ofBytes_toBytes, show (256 : Nat) ^ size = 2 ^ (8 * size) by rw [Nat.pow_mul],
    Nat.mod_eq_of_lt (unsigned_lt _ _), State.num]
theorem State.applyInts_outside (s : State) (a size csize : Nat) (xs : List Nat) {x : Nat} (h : x < a ∨ a + size * xs.length ≤ x) :
    (s.applyInts a size csize xs).byte x = s.byte x :=
  (s.addInts_spec a size csize xs 0).1 x (by simpa using h)

/-! ## Requests -/

/-- A request that waits for nothing and is performed. -/
theorem State.takeReq_served {s t : State} {r : SliceReq} (hw : s.setWaits r.addr = false) (h : s.serveReq r = some t) : s.takeReq r = t := by
  rw [State.takeReq, hw, h]
  rfl

section
variable {s : State} {a cls : Nat} (hc : cls < 8) (now : s.takesNow a = true)
include hc now

theorem sliceWrite_takesNow {data : List Byte} (nonempty : data ≠ []) (line : a / 128 = (a + data.length - 1) / 128) (p : Bool) :
    ∀ x, (sliceWrite s a data p cls).byte x = if a ≤ x ∧ x < a + data.length then data.getD (x - a) 0 else s.byte x := by
  simp only [State.takesNow_eq, Bool.and_eq_true, Bool.not_eq_true'] at now
  obtain ⟨⟨served, free⟩, room⟩ := now
  have len := List.length_pos_iff.mpr nonempty
  obtain ⟨t, ht, bytes⟩ := State.writePieces_byte hc room len p line
  have taken : sliceWrite s a data p cls = t := by
    rw [sliceWrite, if_pos (by simp [served, ← line, nonempty])]
    exact State.takeReq_served free ht
  rw [taken]
  exact bytes

theorem sliceReduce_takesNow {size csize : Nat} {xs : List Nat} (nonempty : xs ≠ []) (align : a % size = 0) (fits : a % 32 + size * xs.length ≤ 32) :
    (∀ j x, xs[j]? = some x → (sliceReduce s a size csize xs cls).num (a + size * j) size = unsigned (8 * size) ((s.num (a + size * j) size : Int) + signed (8 * csize) x))
      ∧ ∀ x, (x < a ∨ a + size * xs.length ≤ x) → (sliceReduce s a size csize xs cls).byte x = s.byte x := by
  simp only [State.takesNow_eq, Bool.and_eq_true, Bool.not_eq_true'] at now
  obtain ⟨⟨served, free⟩, room⟩ := now
  obtain ⟨t, ht, mem⟩ := State.reduceInts_takesLine hc room size csize xs
  have taken : sliceReduce s a size csize xs cls = t.applyInts a size csize xs := by
    rw [sliceReduce, if_pos (by simp [served, align, fits, nonempty])]
    exact State.takeReq_served free ht
  rw [taken]
  exact ⟨fun j x h => by rw [t.applyInts_num a size csize xs h, State.num_of_mem mem],
    fun x h => (t.applyInts_outside a size csize xs h).trans (State.byte_of_mem mem x)⟩

end

end Sys2Proof.Machine
end

section
/-!
The obligation on what a slice serves: reads, writes, reductions, fetches that return, write-backs that end, and pins (R58, R206, R209, R211, R212, R214, R217, R223).
-/
namespace Sys2Proof.Machine

/-! ## Reads of scratch -/

/-- The check of a sound copy changes no more than the marks of wrong symbols. -/
theorem State.arrayCheck_sound {s : State} {a : Nat} (h : Tab.get 0 s.arrayErr (a / 32) = 0) (kind : AccessKind) :
    s.arrayCheck a kind = { s with arrayErr := Tab.set 0 s.arrayErr (a / 32) 0 } := by
  unfold State.arrayCheck
  dsimp only
  rw [if_pos (Or.inl h)]

theorem State.poisoned_scratch {s : State} {a : Nat} (h : regionOf a = .scratch) :
    s.poisoned a = (NatSet.has s.poison (a / 32) || (s.slice (homeSlice a)).failed) := by
  simp [State.poisoned, h, show (Region.scratch == Region.hbm) = false from rfl]

/-- A read of a sound sector of scratch answers at once with its bytes (R203, R206). -/
theorem sliceRead_scratch {s : State} {a : Nat} (cls : Nat) (served : s.served a = true) (idle : NatSet.has (s.slice (homeSlice a)).fetching (a / 32) = false)
    (region : regionOf a = .scratch) (sound : s.sound a = true) :
    (sliceRead s a cls).mem = s.mem
      ∧ (sliceRead s a cls).outbox = s.outbox ++ [.sliceData (a / 32 * 32) (s.bytes (a / 32 * 32) 32) (s.poisoned a)] := by
  simp only [State.sound, Bool.and_eq_true, Bool.not_eq_true', beq_iff_eq] at sound
  obtain ⟨⟨free, good⟩, -⟩ := sound
  have access : s.sectorAccess a cls .read true
      = some { s.bump F.sliceScratchSectorsCount (homeSlice a) 0 1 with arrayErr := Tab.set 0 s.arrayErr (a / 32) 0 } := by
    unfold State.sectorAccess
    rw [region]
    exact congrArg some (State.arrayCheck_sound (s := s.bump F.sliceScratchSectorsCount (homeSlice a) 0 1) good .read)
  generalize hu : ({ s.bump F.sliceScratchSectorsCount (homeSlice a) 0 1 with arrayErr := Tab.set 0 s.arrayErr (a / 32) 0 } : State) = u at access
  have serve : s.serveReq ⟨a, cls, .read⟩ = some (u.answerRead a) := by
    unfold State.serveReq
    dsimp only
    rw [access, Option.map_some]
  have slice : u.slice (homeSlice a) = s.slice (homeSlice a) := by rw [← hu]; rfl
  have poison : u.poisoned a = s.poisoned a := by rw [State.poisoned_scratch region, State.poisoned_scratch region, slice, ← hu]; rfl
  have mem : u.mem = s.mem := by rw [← hu]; rfl
  have answer : u.answerRead a = u.emit (.sliceData (a / 32 * 32) (s.bytes (a / 32 * 32) 32) (s.poisoned a)) := by
    unfold State.answerRead
    dsimp only
    rw [slice, idle, State.bytes_of_mem mem, poison]
    rfl
  rw [sliceRead, if_pos served, State.takeReq_served free serve, answer]
  exact ⟨mem, by rw [← hu]; rfl⟩

/-! ## A statistics record -/

theorem reduceStats_takesNow {s : State} {a : Nat} (now : s.takesNow a = true) (align : a % 32 = 0) (r : Stats) :
    ∃ t : State, (if s.served a && a % 32 == 0 then s.takeReq ⟨a, 7, .stats r⟩ else s) = t.applyStats a r ∧ t.mem = s.mem := by
  simp only [State.takesNow_eq, Bool.and_eq_true, Bool.not_eq_true'] at now
  obtain ⟨⟨served, free⟩, room⟩ := now
  obtain ⟨t, ht, mem⟩ := State.reduceStats_takesLine (cls := 7) (by decide) room r
  exact ⟨t, by rw [if_pos (by simp [served, align])]; exact State.takeReq_served free ht, mem⟩

/-! ## A fetch that returns -/

/-- Answers leave one after the other. -/
theorem State.each_emit {α : Type} (s : State) (l : List α) (f : α → Out) : s.each l (fun s x => s.emit (f x)) = { s with outbox := s.outbox ++ l.map f } := by
  induction l generalizing s with
  | nil => simp [State.each]
  | cons x l ih =>
    rw [State.each, List.foldl_cons]
    refine (ih _).trans ?_
    simp [State.emit]

/-- The state in which the sector of an address has been checked after its fetch: the copy that a write has put in its place keeps its poison mark. -/
def State.fetchChecked (s : State) (a wrong : Nat) : State :=
  let t := State.countFetch { s with hbmErr := Tab.set 0 s.hbmErr (a / 32) wrong } a
  if (s.slice (homeSlice a)).holds a then { t with poison := s.poison } else t

theorem State.fetchChecked_noted (s : State) (a wrong : Nat) : Noted s (s.fetchChecked a wrong) := by
  have checked := ((Noted.refl s).hbmErr (Tab.set 0 s.hbmErr (a / 32) wrong)).countFetch a
  unfold State.fetchChecked
  dsimp only
  split
  · exact checked.poison s.poison
  · exact checked
theorem State.fetchChecked_poison (s : State) (a wrong : Nat) :
    (s.fetchChecked a wrong).poison = if (s.slice (homeSlice a)).holds a = true ∨ wrong ≤ 2 then s.poison else NatSet.insert s.poison (a / 32) := by
  have checked : (State.countFetch { s with hbmErr := Tab.set 0 s.hbmErr (a / 32) wrong } a).poison
      = if wrong ≤ 2 then s.poison else NatSet.insert s.poison (a / 32) := (State.countFetch_poison _ a).trans (by rw [Tab.get_set_same])
  unfold State.fetchChecked
  dsimp only
  split
  · next kept => rw [if_pos (.inl kept)]
  · next lost => rw [checked]; simp only [lost, Bool.false_eq_true, false_or]

/-- A fetch that returns: the sector is checked, its line has it, and the reads that wait for it are answered. -/
theorem sectorFetchReturn_eq {s : State} {a : Nat} (found : ScrubFinding) (h : NatSet.has (s.slice (homeSlice a)).fetching (a / 32) = true) :
    sectorFetchReturn s a found =
      let wrong := Tab.get 0 s.hbmErr (a / 32) + hbmSymbols found
      ((s.fetchChecked a wrong).setSlice (homeSlice a) ((s.slice (homeSlice a)).fetched a)).replyReads (homeSlice a) (a / 32) (decide (2 < wrong)) := by
  unfold sectorFetchReturn
  dsimp only
  rw [if_pos h]
  have slice := (s.fetchChecked_noted a (Tab.get 0 s.hbmErr (a / 32) + hbmSymbols found)).slice (homeSlice a)
  rw [← slice]
  rfl
theorem State.replyReads_eq (s : State) (n sector : Nat) (bad : Bool) :
    s.replyReads n sector bad = { s.setSlice n { s.slice n with reads := (s.slice n).reads.filter (fun r => r.sector != sector) } with
      outbox := s.outbox ++ ((s.slice n).reads.filter (fun r => r.sector == sector)).map (fun r => .sliceData (32 * sector) r.data (r.poison || bad)) } :=
  State.each_emit _ _ _

theorem Slice.fetched_reads (sl : Slice) (a : Nat) : (sl.fetched a).reads = sl.reads := rfl
theorem Slice.fetched_fetching (sl : Slice) (a : Nat) : (sl.fetched a).fetching = NatSet.erase sl.fetching (a / 32) := rfl

theorem sectorFetchReturn_completes (a : Nat) (found : ScrubFinding) (s : State) (h : NatSet.has (s.slice (homeSlice a)).fetching (a / 32) = true) :
    Completes (.sectorFetchReturn a found) s (fun u =>
      NatSet.has (u.slice (homeSlice a)).fetching (a / 32) = false ∧ u.mem = s.mem ∧ (found = .uncorrectable → (s.slice (homeSlice a)).holds a = false → u.poisoned a = true)
        ∧ s.outbox <+: u.outbox ∧ (u.slice (homeSlice a)).reads = (s.slice (homeSlice a)).reads.filter (fun r => r.sector != a / 32)
        ∧ ((s.slice (homeSlice a)).reads.filter (fun r => r.sector == a / 32)).map (fun r =>
            Out.sliceData (32 * (a / 32)) r.data (r.poison || decide (2 < Tab.get 0 s.hbmErr (a / 32) + hbmSymbols found))) <:+ u.outbox
        ∧ (found = .clean → Tab.get 0 s.hbmErr (a / 32) = 0 → u.poison = s.poison)) := by
  refine ⟨_, rfl, ?_⟩
  rw [sectorFetchReturn_eq found h]
  dsimp only
  generalize hw : Tab.get 0 s.hbmErr (a / 32) + hbmSymbols found = wrong
  have noted := s.fetchChecked_noted a wrong
  have marks := s.fetchChecked_poison a wrong
  generalize s.fetchChecked a wrong = t at noted marks ⊢
  rw [State.replyReads_eq, State.slice_setSlice_same]
  have after (sl : Slice) (o : List Out) : State.slice { (t.setSlice (homeSlice a) ((s.slice (homeSlice a)).fetched a)).setSlice (homeSlice a) sl with outbox := o } (homeSlice a) = sl :=
    State.slice_setSlice_same _ _ _
  rw [after]
  refine ⟨by simp [Slice.fetched_fetching], noted.mem, fun bad lost => ?_, noted.sent.trans (List.prefix_append _ _), rfl, List.suffix_append _ _, fun clean none => ?_⟩
  · have three : ¬ wrong ≤ 2 := by rw [← hw, bad]; simp [hbmSymbols]
    rw [lost, if_neg (by simp [three])] at marks
    have marked : NatSet.has t.poison (a / 32) = true := by rw [marks, NatSet.has_insert]; simp
    simp only [State.poisoned, State.setSlice_poison, marked, Bool.true_or]
  · have zero : wrong = 0 := by rw [← hw, clean, none]; rfl
    exact marks.trans (if_pos (.inr (by omega)))

/-! ## A write-back that ends -/

/-- What leaves a slice, and what is replaced in HBM4, is told in the marks alone. -/
theorem State.leaveSlice_frame (s : State) (line : Nat) (valid dirty : BitVec 4) :
    (s.leaveSlice line valid dirty).mem = s.mem ∧ (s.leaveSlice line valid dirty).slices = s.slices := by
  refine State.each_induct (fun t => t.mem = s.mem ∧ t.slices = s.slices) _ _ _ ⟨rfl, rfl⟩ (fun t k ht => ?_)
  dsimp only
  split_ifs <;> exact ht
theorem State.replaceHbm_frame (s : State) (line : Nat) (dirty : BitVec 4) :
    (s.replaceHbm line dirty).mem = s.mem ∧ (s.replaceHbm line dirty).slices = s.slices := by
  refine State.each_induct (fun t => t.mem = s.mem ∧ t.slices = s.slices) _ _ _ ⟨rfl, rfl⟩ (fun t k ht => ?_)
  split <;> exact ht

theorem State.retryWaiting_none {s : State} {n : Nat} (h : (s.slice n).waitQ = []) : s.retryWaiting n = s.setSlice n { s.slice n with waitQ := [] } := by
  rw [State.retryWaiting, h]
  rfl

theorem holdWritebackComplete_completes (n : SliceId) (line : Nat) (s : State) (e : HoldEntry) (he : (s.slice n).findHold line = some e) (still : e.again = 0)
    (idle : (s.slice n).waitQ = []) : Completes (.holdWritebackComplete n line) s (fun u =>
      (u.slice n).findHold line = none ∧ u.mem = s.mem ∧ (u.slice n).lines = (s.slice n).lines) := by
  refine ⟨_, rfl, ?_⟩
  have eq : holdWritebackComplete s n line =
      (((((s.leaveSlice line e.valid (e.dirty &&& ~~~e.again)).replaceHbm line (e.dirty &&& ~~~e.again)).setSlice n
        { s.slice n with hold := (s.slice n).hold.filter (fun k => k.line != line) }).noteHold n).retryWaiting n) := by
    unfold holdWritebackComplete
    dsimp only
    rw [he]
    dsimp only
    rw [if_pos still, if_pos still]
  rw [eq]
  generalize ht : (s.leaveSlice line e.valid (e.dirty &&& ~~~e.again)).replaceHbm line (e.dirty &&& ~~~e.again) = t
  have mem : t.mem = s.mem := by rw [← ht]; exact (State.replaceHbm_frame _ _ _).1.trans (State.leaveSlice_frame _ _ _ _).1
  generalize hv : { s.slice n with hold := (s.slice n).hold.filter (fun k => k.line != line) } = v
  have slice : ((t.setSlice n v).noteHold n).slice n = v := State.slice_setSlice_same _ _ _
  rw [State.retryWaiting_none (by rw [slice, ← hv]; exact idle)]
  dsimp only
  rw [State.slice_setSlice_same, slice, ← hv]
  refine ⟨?_, mem, rfl⟩
  simp [Slice.findHold, List.find?_eq_none]

/-! ## Pins -/

/-- The line that is put in place of the one found is found. -/
theorem Slice.find_putLine_same {sl : Slice} {line : Nat} {l k : CacheLine} (h : sl.find line = some l) (e : k.line = l.line) : (sl.putLine k).find line = some k := by
  have same (y : CacheLine) : (if y.line == k.line then k else y).line = y.line := by
    split
    · next e => exact (beq_iff_eq.mp e).symm
    · rfl
  have found : (sl.putLine k).find line = (sl.find line).map (fun y => if y.line == k.line then k else y) := by
    rw [Slice.find, Slice.putLine, List.find?_map]
    simp only [Function.comp_def, same, Slice.find]
  rw [found, h, Option.map_some, if_pos (beq_iff_eq.mpr e.symm)]
theorem Slice.putLine_pinQ (sl : Slice) (k : CacheLine) : (sl.putLine k).pinQ = sl.pinQ := rfl

/-- A pin command that ends leaves its queue and tells its result (R211). -/
theorem State.pinDone_spec (s : State) (n result : Nat) :
    (s.pinDone n result).slice n = { s.slice n with pinQ := (s.slice n).pinQ.drop 1 } ∧ (s.pinDone n result).mem = s.mem
      ∧ (s.pinDone n result).fld F.slicePinStatusLastResult n = result % 2 ^ 3 :=
  ⟨State.slice_setSlice_same _ _ _, rfl, (State.fld_setFld_apart (f := F.slicePinStatusQueued) (g := F.slicePinStatusLastResult) rfl (by decide) (by decide) _ n 0 _).trans
    (State.fld_setFld_same (by decide) _ _ _ _)⟩

/-- A line that is held is pinned or unpinned: it is found so, and the command ends without a fault. -/
theorem State.putLine_pinDone {s t : State} {n : SliceId} {line : Nat} {l k : CacheLine} {c : PinCmd} {rest : List PinCmd} (noted : Noted s t)
    (queue : (s.slice n).pinQ = c :: rest) (found : (s.slice n).find line = some l) (e : k.line = l.line) :
    let u := ((t.setSlice n ((t.slice n).putLine k)).notePins n).pinDone n 0
    (u.slice n).find line = some k ∧ (u.slice n).pinQ = rest ∧ u.fld F.slicePinStatusLastResult n = 0 ∧ u.mem = s.mem := by
  obtain ⟨slice, mem, result⟩ := State.pinDone_spec ((t.setSlice n ((t.slice n).putLine k)).notePins n) n 0
  have put : ((t.setSlice n ((t.slice n).putLine k)).notePins n).slice n = (s.slice n).putLine k := (State.slice_setSlice_same _ _ _).trans (by rw [noted.slice])
  rw [put] at slice
  dsimp only
  rw [slice]
  refine ⟨Slice.find_putLine_same found e, ?_, result, mem.trans noted.mem⟩
  rw [Slice.putLine_pinQ, queue]
  rfl

section
variable (n : SliceId) (s : State) (c : PinCmd) (rest : List PinCmd) (l : CacheLine)

theorem pin_completes (queue : (s.slice n).pinQ = c :: rest) (pins : c.unpin = false) (region : regionOf (pinAddr n c.line) = .hbm)
    (home : homeSlice (pinAddr n c.line) = n) (found : (s.slice n).find (pinAddr n c.line / 128) = some l) (free : l.pinned = false)
    (room : (s.slice n).pinnedIn (setOf (pinAddr n c.line)) < s.fld F.sliceConfigPinCap n) (none : (s.slice n).findHold (pinAddr n c.line / 128) = none) :
    Completes (.pin n) s (fun u => (u.slice n).find (pinAddr n c.line / 128) = some { l with valid := 15, pinned := true } ∧ (u.slice n).pinQ = rest
      ∧ u.fld F.slicePinStatusLastResult n = 0 ∧ u.mem = s.mem) := by
  refine ⟨_, rfl, ?_⟩
  have install : s.pinInstall n (pinAddr n c.line) true = some (((s.fetchRest (pinAddr n c.line / 128) l.valid).setSlice n
      (((s.fetchRest (pinAddr n c.line / 128) l.valid).slice n).putLine { l with valid := 15, pinned := true })).notePins n) := by
    unfold State.pinInstall
    dsimp only
    rw [found]
  have serve : pinServe s n = (((s.fetchRest (pinAddr n c.line / 128) l.valid).setSlice n
      (((s.fetchRest (pinAddr n c.line / 128) l.valid).slice n).putLine { l with valid := 15, pinned := true })).notePins n).pinDone n 0 := by
    have cap : ¬ s.fld F.sliceConfigPinCap n ≤ (s.slice n).pinnedIn (setOf (pinAddr n c.line)) := by omega
    unfold pinServe
    dsimp only
    rw [queue]
    dsimp only
    rw [install]
    simp only [pins, region, home, found, free, none, cap, Option.any_some, Option.isSome_none, bne_self_eq_false, Bool.or_self, Bool.false_eq_true, if_false]
  rw [serve]
  exact State.putLine_pinDone ((Noted.refl s).fetchRest _ _) queue found rfl

theorem unpin_completes (queue : (s.slice n).pinQ = c :: rest) (unpins : c.unpin = true) (region : regionOf (pinAddr n c.line) = .hbm)
    (home : homeSlice (pinAddr n c.line) = n) (found : (s.slice n).find (pinAddr n c.line / 128) = some l) (held : l.pinned = true) :
    Completes (.unpin n) s (fun u => (u.slice n).find (pinAddr n c.line / 128) = some { l with pinned := false } ∧ (u.slice n).pinQ = rest
      ∧ u.fld F.slicePinStatusLastResult n = 0 ∧ u.mem = s.mem) := by
  refine ⟨_, rfl, ?_⟩
  have serve : unpinServe s n = ((s.setSlice n ((s.slice n).putLine { l with pinned := false })).notePins n).pinDone n 0 := by
    unfold unpinServe
    dsimp only
    rw [queue]
    dsimp only
    rw [found]
    simp only [unpins, region, home, held, bne_self_eq_false, Bool.or_self, Bool.not_true, Bool.false_eq_true, if_false, if_true]
  rw [serve]
  exact State.putLine_pinDone (Noted.refl s) queue found rfl

end

/-! ## The obligation -/

theorem sliceWrite_completes (a : Nat) (data : List Byte) (q : Bool) (cls : Fin 8) (s : State) (now : s.takesNow a = true) (nonempty : data ≠ [])
    (line : a / 128 = (a + data.length - 1) / 128) :
    Completes (.sliceWrite a data q cls) s (fun u => u.bytes a data.length = data ∧ ∀ x, (x < a ∨ a + data.length ≤ x) → u.byte x = s.byte x) := by
  have bytes := sliceWrite_takesNow cls.isLt now nonempty line q
  refine ⟨_, rfl, List.ext_getElem (State.bytes_length _ _ _) (fun i _ hi => ?_), fun x hx => ?_⟩
  · simp only [State.bytes, List.getElem_map, List.getElem_range]
    rw [bytes, if_pos (by omega), Nat.add_sub_cancel_left, List.getD_eq_getElem _ _ hi]
  · rw [bytes, if_neg (by omega)]

/-- The value of an element that a list of words gives. -/
theorem getElem?_toNat {w : Nat} {data : List (BitVec w)} {j : Nat} {x : BitVec w} (h : data[j]? = some x) :
    (data.map BitVec.toNat)[j]? = some x.toNat ∧ data.map BitVec.toNat ≠ [] := by
  refine ⟨by rw [List.getElem?_map, h]; rfl, fun e => ?_⟩
  rw [List.map_eq_nil_iff] at e
  simp [e] at h

/-- Elements that take contributions of their own width are summed modulo that width. -/
theorem sliceReduce_same {s : State} {a : Nat} (size : Nat) {data : List (BitVec (8 * size))} {cls j : Nat} {x : BitVec (8 * size)} (hc : cls < 8)
    (now : s.takesNow a = true) (align : a % size = 0) (fits : a % 32 + size * data.length ≤ 32) (h : data[j]? = some x) :
    let u := sliceReduce s a size size (data.map BitVec.toNat) cls
    u.num (a + size * j) size = (s.num (a + size * j) size + x.toNat) % 2 ^ (8 * size) ∧ ∀ y, (y < a ∨ a + size * data.length ≤ y) → u.byte y = s.byte y := by
  obtain ⟨hx, nonempty⟩ := getElem?_toNat h
  have len : (data.map BitVec.toNat).length = data.length := List.length_map _
  obtain ⟨sums, others⟩ := sliceReduce_takesNow (csize := size) hc now nonempty align (by rw [len]; exact fits)
  exact ⟨(sums j _ hx).trans (unsigned_add_signed _ _ _), fun y hy => others y (by rw [len]; exact hy)⟩

theorem reduceAdd32to64_completes (a : Nat) (data : List (BitVec 32)) (cls : Fin 8) (s : State) (j : Nat) (x : BitVec 32) (now : s.takesNow a = true) (align : a % 8 = 0)
    (fits : a % 32 + 8 * data.length ≤ 32) (h : data[j]? = some x) :
    Completes (.reduceAdd32to64 a data cls) s (fun u => u.num (a + 8 * j) 8 = unsigned 64 ((s.num (a + 8 * j) 8 : Int) + x.toInt)
      ∧ ∀ y, (y < a ∨ a + 8 * data.length ≤ y) → u.byte y = s.byte y) := by
  obtain ⟨hx, nonempty⟩ := getElem?_toNat h
  have len : (data.map BitVec.toNat).length = data.length := List.length_map _
  obtain ⟨sums, others⟩ := sliceReduce_takesNow (csize := 4) cls.isLt now nonempty align (by rw [len]; exact fits)
  exact ⟨_, rfl, (sums j _ hx).trans (by rw [← signed_toNat]), fun y hy => others y (by rw [len]; exact hy)⟩

theorem reduceStats_completes (a : Nat) (r : BitVec 256) (s : State) (now : s.takesNow a = true) (align : a % 32 = 0) :
    Completes (.reduceStats a r) s (fun u =>
      u.num a 32 = ((Stats.decode (s.num a 32)).combine (Stats.decode r.toNat)).encode % 2 ^ 256 ∧ ∀ y, (y < a ∨ a + 32 ≤ y) → u.byte y = s.byte y) := by
  obtain ⟨t, ht, mem⟩ := reduceStats_takesNow now align (Stats.decode r.toNat)
  refine ⟨_, congrArg Host.Outcome.next ht, ?_, fun y hy => ?_⟩
  · rw [State.applyStats, State.num_setNum, State.num_of_mem mem, show (256 : Nat) ^ 32 = 2 ^ 256 by decide]
  · exact (State.byte_setBytes_outside _ _ _ _ (by rw [toBytes_length]; exact hy)).trans (State.byte_of_mem mem y)

/-- Settles O48: a write or a reduction of a line that its slice holds is performed at once (`State.sectorAccess_takesLine`), a check of a copy changes marks,
registers and the log alone (`Noted`), and pins and write-backs change the record of one line. -/
theorem slicesServeRequests : Obligations.SlicesServeRequests :=
  ⟨fun _ cls _ served idle region sound => ⟨_, rfl, sliceRead_scratch cls.val served idle region sound⟩, sliceWrite_completes,
    fun _ _ cls _ _ _ now align fits h => ⟨_, rfl, sliceReduce_same 4 cls.isLt now align fits h⟩,
    fun _ _ cls _ _ _ now align fits h => ⟨_, rfl, sliceReduce_same 8 cls.isLt now align fits h⟩,
    reduceAdd32to64_completes, reduceStats_completes, sectorFetchReturn_completes, fun n line s h found still idle => holdWritebackComplete_completes n line s h found still idle,
    pin_completes, unpin_completes⟩

end Sys2Proof.Machine
end

section
/-!
SUPPORT. Magnitudes as real numbers: what `floorMul`, `log2`, `exceeds` and `roundMag` compute of them (R32, R41, R44, R45, R52).
-/
namespace Sys2Proof.Machine

/-! ## Square roots of natural numbers -/

theorem isqrtFrom_eq (n k r : Nat) (lo : r * r ≤ n) (hi : n < (r + 2 ^ k) * (r + 2 ^ k)) : isqrtFrom n k r = Nat.sqrt n := by
  induction k generalizing r with
  | zero => exact Nat.eq_sqrt.mpr ⟨lo, hi⟩
  | succ k ih =>
    have two : r + 2 ^ (k + 1) = r + 2 ^ k + 2 ^ k := by rw [Nat.pow_succ]; omega
    unfold isqrtFrom
    dsimp only
    split
    · next h => exact ih _ h (two ▸ hi)
    · next h => exact ih _ lo (by omega)

/-- The root found bit by bit is the largest whose square is not above the number. -/
theorem isqrt_eq (n : Nat) : isqrt n = Nat.sqrt n := by
  refine isqrtFrom_eq n _ 0 (by omega) ?_
  have bound : n < 2 ^ (n.log2 + 1) := Nat.lt_log2_self
  have wide : 2 ^ (n.log2 + 1) ≤ 2 ^ (2 * (n.log2 / 2 + 1)) := Nat.pow_le_pow_right (by decide) (by omega)
  rw [Nat.zero_add, ← Nat.pow_add, ← two_mul]
  omega

/-! ## The real number that a magnitude is -/

/-- p / q × 2^e, or its square root. -/
noncomputable def Mag.real : Mag → ℝ
  | .rat p q e => p / q * 2 ^ e
  | .root p q e => √(p / q * 2 ^ e)

theorem two_zpow_pos (k : Int) : (0 : ℝ) < 2 ^ k := zpow_pos (by norm_num) k
theorem two_zpow_add (j k : Int) : (2 : ℝ) ^ (j + k) = 2 ^ j * 2 ^ k := zpow_add₀ (by norm_num) j k
theorem four_zpow (k : Int) : (4 : ℝ) ^ k = 2 ^ k * 2 ^ k := by rw [← mul_zpow]; norm_num

theorem fraction_pos {p q : Nat} (hp : 0 < p) (hq : 0 < q) (e : Int) : (0 : ℝ) < p / q * 2 ^ e :=
  mul_pos (div_pos (by exact_mod_cast hp) (by exact_mod_cast hq)) (two_zpow_pos e)

theorem Mag.real_pos {m : Mag} (h : m.proper = true) : 0 < m.real := by
  cases m with
  | rat p q e =>
    simp only [Mag.proper, Bool.and_eq_true, decide_eq_true_eq] at h
    exact fraction_pos h.1 h.2 e
  | root p q e =>
    simp only [Mag.proper, Bool.and_eq_true, decide_eq_true_eq] at h
    exact Real.sqrt_pos.mpr (fraction_pos h.1 h.2 e)

/-- A root of a fraction, scaled, is the root of the fraction scaled twice. -/
theorem sqrt_mul_zpow (x : ℝ) (k : Int) : √x * 2 ^ k = √(x * 2 ^ (2 * k)) := by
  rw [two_mul, two_zpow_add, Real.sqrt_mul' _ (mul_self_nonneg _), Real.sqrt_mul_self (two_zpow_pos k).le]

theorem Mag.real_scale (m : Mag) (k : Int) : (m.scale k).real = m.real * 2 ^ k := by
  cases m with
  | rat p q e => simp only [Mag.scale, Mag.real, two_zpow_add]; ring
  | root p q e => simp only [Mag.scale, Mag.real, sqrt_mul_zpow, two_zpow_add]; ring_nf

/-! ## Floors -/

theorem scaleFrac_eq (p q : Nat) (k : Int) : ((scaleFrac p q k).1 : ℝ) / (scaleFrac p q k).2 = p / q * 2 ^ k := by
  unfold scaleFrac
  split
  · next h =>
    lift k to Nat using h
    push_cast
    rw [zpow_natCast, Int.toNat_natCast]
    ring
  · next h =>
    obtain ⟨j, rfl⟩ : ∃ j : Nat, k = -(j : Int) := ⟨(-k).toNat, by omega⟩
    push_cast
    rw [neg_neg, Int.toNat_natCast, zpow_neg, zpow_natCast]
    field_simp
theorem scaleFrac_pos {p q : Nat} (hq : 0 < q) (k : Int) : 0 < (scaleFrac p q k).2 := by
  unfold scaleFrac
  split
  · exact hq
  · exact Nat.mul_pos hq (Nat.two_pow_pos _)

theorem floor_sqrt (y : ℝ) (hy : 0 ≤ y) : ⌊√y⌋₊ = Nat.sqrt ⌊y⌋₊ := by
  refine (Nat.floor_eq_iff (Real.sqrt_nonneg y)).mpr ⟨?_, ?_⟩
  · refine Real.le_sqrt_of_sq_le ?_
    have h : (((Nat.sqrt ⌊y⌋₊ * Nat.sqrt ⌊y⌋₊ : Nat)) : ℝ) ≤ ⌊y⌋₊ := by exact_mod_cast Nat.sqrt_le ⌊y⌋₊
    push_cast at h
    nlinarith [Nat.floor_le hy]
  · refine (Real.sqrt_lt' (by positivity)).mpr ?_
    have h : ⌊y⌋₊ + 1 ≤ (Nat.sqrt ⌊y⌋₊ + 1) * (Nat.sqrt ⌊y⌋₊ + 1) := Nat.lt_succ_sqrt ⌊y⌋₊
    have h' : ((⌊y⌋₊ : ℝ) + 1) ≤ (Nat.sqrt ⌊y⌋₊ + 1) * (Nat.sqrt ⌊y⌋₊ + 1) := by exact_mod_cast h
    nlinarith [Nat.lt_floor_add_one y]

/-- A quotient of natural numbers is exact where nothing remains. -/
theorem natDiv_floor (a : Nat) {b : Nat} (hb : 0 < b) : ⌊(a : ℝ) / b⌋₊ = a / b ∧ ((a % b != 0) = true ↔ ((a / b : Nat) : ℝ) ≠ (a : ℝ) / b) := by
  have hb' : (b : ℝ) ≠ 0 := by exact_mod_cast hb.ne'
  refine ⟨Nat.floor_div_eq_div a b, ?_⟩
  rw [bne_iff_ne, ne_eq, ne_eq, not_iff_not, eq_div_iff hb']
  constructor
  · intro h
    exact_mod_cast Nat.div_mul_cancel (Nat.dvd_of_mod_eq_zero h)
  · intro h
    have h' : a / b * b = a := by exact_mod_cast h
    exact Nat.mod_eq_zero_of_dvd ⟨a / b, by rw [Nat.mul_comm]; exact h'.symm⟩

/-- `floorMul` is the floor, and tells whether it is short of the value. -/
theorem Mag.floorMul_spec {m : Mag} (h : m.proper = true) (k : Int) :
    (m.floorMul k).1 = ⌊m.real * 2 ^ k⌋₊ ∧ ((m.floorMul k).2 = true ↔ (⌊m.real * 2 ^ k⌋₊ : ℝ) ≠ m.real * 2 ^ k) := by
  cases m with
  | rat p q e =>
    simp only [Mag.proper, Bool.and_eq_true, decide_eq_true_eq] at h
    have value : Mag.real (.rat p q e) * 2 ^ k = ((scaleFrac p q (e + k)).1 : ℝ) / (scaleFrac p q (e + k)).2 := by
      rw [scaleFrac_eq, two_zpow_add, Mag.real, mul_assoc]
    obtain ⟨floor, exact_iff⟩ := natDiv_floor (scaleFrac p q (e + k)).1 (scaleFrac_pos h.2 (e + k) (p := p))
    rw [value, floor]
    exact ⟨rfl, exact_iff⟩
  | root p q e =>
    simp only [Mag.proper, Bool.and_eq_true, decide_eq_true_eq] at h
    have value : Mag.real (.root p q e) * 2 ^ k = √(((scaleFrac p q (e + 2 * k)).1 : ℝ) / (scaleFrac p q (e + 2 * k)).2) := by
      rw [scaleFrac_eq, two_zpow_add, Mag.real, sqrt_mul_zpow, mul_assoc]
    obtain ⟨floor, exact_iff⟩ := natDiv_floor (scaleFrac p q (e + 2 * k)).1 (scaleFrac_pos h.2 (e + 2 * k) (p := p))
    have pos : (0 : ℝ) ≤ ((scaleFrac p q (e + 2 * k)).1 : ℝ) / (scaleFrac p q (e + 2 * k)).2 := by positivity
    unfold Mag.floorMul
    dsimp only
    rw [value, floor_sqrt _ pos, isqrt_eq, floor]
    refine ⟨rfl, ?_⟩
    rw [Bool.or_eq_true, exact_iff, ← not_iff_not, not_or, not_not, not_not, bne_iff_ne, not_not, eq_comm (b := √_), Real.sqrt_eq_iff_mul_self_eq pos (by positivity)]
    generalize ((scaleFrac p q (e + 2 * k)).1 : ℝ) / (scaleFrac p q (e + 2 * k)).2 = y at floor ⊢
    rw [← floor]
    constructor
    · rintro ⟨whole, square⟩
      exact whole.symm.trans (by exact_mod_cast square.symm)
    · intro square
      have whole : ⌊y⌋₊ = Nat.sqrt ⌊y⌋₊ * Nat.sqrt ⌊y⌋₊ := (Nat.floor_eq_iff (square ▸ by positivity)).mpr (by
        push_cast
        rw [← square]
        exact ⟨le_rfl, lt_add_one y⟩)
      exact ⟨Eq.trans (by exact_mod_cast whole) square.symm, whole.symm⟩

/-! ## Logarithms -/

/-- The power of two that lies below a value, with the value below the next, is one. -/
theorem zpow_log_unique {x : ℝ} {j k : Int} (h1 : (2 : ℝ) ^ j ≤ x) (h2 : x < 2 ^ (j + 1)) (h3 : (2 : ℝ) ^ k ≤ x) (h4 : x < 2 ^ (k + 1)) : j = k := by
  have a := (zpow_lt_zpow_iff_right₀ (a := (2 : ℝ)) (by norm_num)).mp (h1.trans_lt h4)
  have b := (zpow_lt_zpow_iff_right₀ (a := (2 : ℝ)) (by norm_num)).mp (h3.trans_lt h2)
  omega

theorem natLog2_spec {n : Nat} (h : 0 < n) : (2 : ℝ) ^ (n.log2 : Int) ≤ n ∧ (n : ℝ) < 2 ^ ((n.log2 : Int) + 1) := by
  constructor
  · exact_mod_cast Nat.log2_self_le h.ne'
  · exact_mod_cast Nat.lt_log2_self (n := n)

theorem ratLog2_spec {p q : Nat} (hp : 0 < p) (hq : 0 < q) (e : Int) :
    (2 : ℝ) ^ (ratLog2 p q e) ≤ p / q * 2 ^ e ∧ (p : ℝ) / q * 2 ^ e < 2 ^ (ratLog2 p q e + 1) := by
  have hp' := natLog2_spec hp
  have hq' := natLog2_spec hq
  have q0 : (0 : ℝ) < q := by exact_mod_cast hq
  have e0 := two_zpow_pos e
  generalize hc : (p.log2 : Int) - (q.log2 : Int) = c
  have above : (p : ℝ) / q < 2 ^ (c + 1) := by
    rw [div_lt_iff₀ q0]
    calc (p : ℝ) < 2 ^ ((p.log2 : Int) + 1) := hp'.2
      _ = 2 ^ (c + 1) * 2 ^ (q.log2 : Int) := by rw [← two_zpow_add, ← hc]; congr 1; omega
      _ ≤ 2 ^ (c + 1) * q := mul_le_mul_of_nonneg_left hq'.1 (two_zpow_pos _).le
  have below : (2 : ℝ) ^ (c - 1) ≤ p / q := by
    rw [le_div_iff₀ q0]
    calc (2 : ℝ) ^ (c - 1) * q ≤ 2 ^ (c - 1) * 2 ^ ((q.log2 : Int) + 1) := mul_le_mul_of_nonneg_left hq'.2.le (two_zpow_pos _).le
      _ = 2 ^ (p.log2 : Int) := by rw [← two_zpow_add, ← hc]; congr 1; omega
      _ ≤ p := hp'.1
  have test : (scaleFrac p q (-c)).2 ≤ (scaleFrac p q (-c)).1 ↔ (2 : ℝ) ^ c ≤ p / q := by
    have d0 : (0 : ℝ) < (scaleFrac p q (-c)).2 := by exact_mod_cast scaleFrac_pos hq (-c)
    rw [← Nat.cast_le (α := ℝ), ← one_le_div d0, scaleFrac_eq, zpow_neg, ← div_eq_mul_inv, one_le_div (two_zpow_pos c)]
  unfold ratLog2
  dsimp only
  rw [hc]
  split
  · next h =>
    rw [two_zpow_add, show c + e + 1 = (c + 1) + e by omega, two_zpow_add (c + 1)]
    exact ⟨mul_le_mul_of_nonneg_right (test.mp h) e0.le, mul_lt_mul_of_pos_right above e0⟩
  · next h =>
    rw [two_zpow_add, show c - 1 + e + 1 = c + e by omega, two_zpow_add c]
    exact ⟨mul_le_mul_of_nonneg_right below e0.le, mul_lt_mul_of_pos_right (lt_of_not_ge (fun k => h (test.mpr k))) e0⟩

/-- `log2` is the floor of the logarithm. -/
theorem Mag.log2_spec {m : Mag} (h : m.proper = true) : (2 : ℝ) ^ m.log2 ≤ m.real ∧ m.real < 2 ^ (m.log2 + 1) := by
  cases m with
  | rat p q e =>
    simp only [Mag.proper, Bool.and_eq_true, decide_eq_true_eq] at h
    exact ratLog2_spec h.1 h.2 e
  | root p q e =>
    simp only [Mag.proper, Bool.and_eq_true, decide_eq_true_eq] at h
    obtain ⟨lo, hi⟩ := ratLog2_spec h.1 h.2 e
    simp only [Mag.log2, Mag.real, Int.fdiv_eq_ediv_of_nonneg _ (show (0 : Int) ≤ 2 by decide)]
    generalize ratLog2 p q e = l at lo hi ⊢
    constructor
    · refine Real.le_sqrt_of_sq_le (le_trans ?_ lo)
      rw [sq, ← two_zpow_add]
      exact zpow_le_zpow_right₀ (by norm_num) (by omega)
    · refine (Real.sqrt_lt' (two_zpow_pos _)).mpr (hi.trans_le ?_)
      rw [sq, ← two_zpow_add]
      exact zpow_le_zpow_right₀ (by norm_num) (by omega)

/-- The logarithm lies below any bound of the magnitude. -/
theorem Mag.log2_lt {m : Mag} (h : m.proper = true) {k : Int} (hk : m.real < 2 ^ k) : m.log2 < k :=
  (zpow_lt_zpow_iff_right₀ (a := (2 : ℝ)) (by norm_num)).mp ((Mag.log2_spec h).1.trans_lt hk)

/-- A magnitude exceeds sig × 2^k where it is greater (R41). -/
theorem Mag.exceeds_iff {m : Mag} (h : m.proper = true) (sig : Nat) (k : Int) : m.exceeds sig k = true ↔ (sig : ℝ) * 2 ^ k < m.real := by
  obtain ⟨floor, short⟩ := Mag.floorMul_spec h (-k)
  have y0 : 0 ≤ m.real * 2 ^ (-k) := mul_nonneg (Mag.real_pos h).le (two_zpow_pos _).le
  rw [show (sig : ℝ) * 2 ^ k < m.real ↔ (sig : ℝ) < m.real * 2 ^ (-k) by rw [zpow_neg, ← div_eq_mul_inv, lt_div_iff₀ (two_zpow_pos k)]]
  unfold Mag.exceeds
  dsimp only
  rw [Bool.or_eq_true, Bool.and_eq_true, short, floor, decide_eq_true_eq, beq_iff_eq]
  generalize m.real * 2 ^ (-k) = y at y0 ⊢
  constructor
  · rintro (above | ⟨same, inexact⟩)
    · exact (show (sig : ℝ) < ⌊y⌋₊ by exact_mod_cast above).trans_le (Nat.floor_le y0)
    · rw [← same]
      exact lt_of_le_of_ne (Nat.floor_le y0) inexact
  · intro above
    rcases (Nat.le_floor above.le).lt_or_eq with lt | eq
    · exact .inl lt
    · exact .inr ⟨eq.symm, by rw [← eq]; exact above.ne⟩

/-! ## Rounding to an integer (R45, R52) -/

/-- A number not below 0 rounded to an integer under RND, `noise` being the noise of the element. -/
noncomputable def roundReal (r : BitVec 2) (noise : Nat) (y : ℝ) : Nat :=
  if r = 1 then ⌊y⌋₊
  else if r = 2 then (if noise < ⌊(y - ⌊y⌋₊) * 2 ^ 32⌋₊ then ⌊y⌋₊ + 1 else ⌊y⌋₊)
  else if y - ⌊y⌋₊ < 1 / 2 ∨ (y - ⌊y⌋₊ = 1 / 2 ∧ ⌊y⌋₊ % 2 = 0) then ⌊y⌋₊ else ⌊y⌋₊ + 1

theorem floor_mul_two_div {y : ℝ} : ⌊y * 2⌋₊ / 2 = ⌊y⌋₊ := by
  rw [← Nat.floor_div_ofNat, mul_div_cancel_right₀ _ (by norm_num)]

/-- The top 32 bits of the remainder. -/
theorem floor_mul_mod {y : ℝ} (hy : 0 ≤ y) : ⌊y * 2 ^ 32⌋₊ % 2 ^ 32 = ⌊(y - ⌊y⌋₊) * 2 ^ 32⌋₊ := by
  have f0 : 0 ≤ (y - ⌊y⌋₊) * 2 ^ 32 := mul_nonneg (sub_nonneg.mpr (Nat.floor_le hy)) (by positivity)
  have split : y * 2 ^ 32 = (y - ⌊y⌋₊) * 2 ^ 32 + ((⌊y⌋₊ * 2 ^ 32 : Nat) : ℝ) := by push_cast; ring
  have small : ⌊(y - ⌊y⌋₊) * 2 ^ 32⌋₊ < 2 ^ 32 := by
    rw [Nat.floor_lt f0]
    have := Nat.lt_floor_add_one y
    push_cast
    nlinarith
  rw [split, Nat.floor_add_natCast f0, Nat.add_mul_mod_self_right, Nat.mod_eq_of_lt small]

/-- The bit after the floor, and whether anything stands after it, tell the remainder from a half. -/
theorem floor_mul_two_odd {y : ℝ} (hy : 0 ≤ y) : (⌊y * 2⌋₊ % 2 = 1 ↔ 1 / 2 ≤ y - ⌊y⌋₊) ∧ (⌊y * 2⌋₊ % 2 = 1 → ((⌊y * 2⌋₊ : ℝ) ≠ y * 2 ↔ y - ⌊y⌋₊ ≠ 1 / 2)) := by
  have lo := Nat.floor_le hy
  have hi := Nat.lt_floor_add_one y
  have lo2 := Nat.floor_le (show 0 ≤ y * 2 by linarith)
  have hi2 := Nat.lt_floor_add_one (y * 2)
  have form : ⌊y * 2⌋₊ = 2 * ⌊y⌋₊ + ⌊y * 2⌋₊ % 2 := by have := floor_mul_two_div (y := y); omega
  have cast : (⌊y * 2⌋₊ : ℝ) = 2 * ⌊y⌋₊ + ((⌊y * 2⌋₊ % 2 : Nat) : ℝ) := by exact_mod_cast form
  have bit : ⌊y * 2⌋₊ % 2 = 0 ∨ ⌊y * 2⌋₊ % 2 = 1 := by omega
  refine ⟨⟨fun h => ?_, fun h => ?_⟩, fun h => ?_⟩
  · rw [h] at cast; push_cast at cast; linarith
  · rcases bit with zero | one
    · rw [zero] at cast; push_cast at cast; linarith
    · exact one
  · rw [cast, h]
    push_cast
    constructor
    · exact fun k e => k (by linarith)
    · exact fun k e => k (by linarith)

/-- `roundMag` rounds the magnitude in units of 2^k. -/
theorem roundMag_eq {m : Mag} (h : m.proper = true) (r : BitVec 2) (noise : Nat) (k : Int) : roundMag r noise m k = roundReal r noise (m.real * 2 ^ (-k)) := by
  have y0 : 0 ≤ m.real * 2 ^ (-k) := mul_nonneg (Mag.real_pos h).le (two_zpow_pos _).le
  obtain ⟨floor1, short⟩ := Mag.floorMul_spec h (1 - k)
  obtain ⟨floor32, -⟩ := Mag.floorMul_spec h (32 - k)
  rw [show (1 : Int) - k = -k + 1 by omega, two_zpow_add, zpow_one, ← mul_assoc] at floor1 short
  rw [show (32 : Int) - k = -k + 32 by omega, two_zpow_add, ← mul_assoc] at floor32
  unfold roundMag roundReal
  dsimp only
  rw [show (1 : Int) - k = -k + 1 by omega, show (32 : Int) - k = -k + 32 by omega, floor1, floor32, floor_mul_two_div]
  generalize m.real * 2 ^ (-k) = y at y0 short ⊢
  obtain ⟨odd, half⟩ := floor_mul_two_odd y0
  refine if_congr Iff.rfl rfl (if_congr Iff.rfl ?_ ?_)
  · have top : ⌊y * (2 : ℝ) ^ (32 : Int)⌋₊ % 2 ^ 32 = ⌊(y - ⌊y⌋₊) * 2 ^ 32⌋₊ := by exact_mod_cast floor_mul_mod y0
    rw [top]
  · have up : ((⌊y * 2⌋₊ % 2 == 1 && ((m.floorMul (-k + 1)).2 || ⌊y⌋₊ % 2 == 1)) = true) ↔ ¬ (y - ⌊y⌋₊ < 1 / 2 ∨ (y - ⌊y⌋₊ = 1 / 2 ∧ ⌊y⌋₊ % 2 = 0)) := by
      rw [Bool.and_eq_true, Bool.or_eq_true, beq_iff_eq, beq_iff_eq, short, not_or, not_lt, not_and, ← odd]
      refine and_congr_right (fun isOdd => ?_)
      rw [half isOdd, ← Nat.mod_two_ne_zero, or_iff_not_imp_left, not_not]
    rw [if_congr up rfl rfl, ite_not]

section
variable {r : BitVec 2} {noise : Nat} {y : ℝ}

/-- What is rounded stays between the natural numbers that bound it. -/
theorem le_roundReal {a : Nat} (h : (a : ℝ) ≤ y) : a ≤ roundReal r noise y := by
  have floor := Nat.le_floor h
  unfold roundReal
  split_ifs <;> omega
theorem roundReal_le {b : Nat} (hy : 0 ≤ y) (h : y ≤ b) : roundReal r noise y ≤ b := by
  rcases (Nat.floor_le_of_le h).lt_or_eq with lt | eq
  · unfold roundReal
    split_ifs <;> omega
  · have whole : y = b := le_antisymm h (eq ▸ Nat.floor_le hy)
    unfold roundReal
    simp [whole]
theorem roundReal_natCast (n : Nat) : roundReal r noise n = n := le_antisymm (roundReal_le (by positivity) le_rfl) (le_roundReal le_rfl)

end

/-! ## The clauses on rounding in units, and on logarithms -/

theorem ratFloor_toNat (x : Rat) : x.floor.toNat = ⌊(x : ℝ)⌋₊ := by
  rw [← Int.floor_toNat, Rat.floor_cast]
  rfl

/-- A fraction in units of 2^k rounds to its floor, to the nearest with ties to even, or by the noise (R45, R52). -/
theorem roundMag_rat (p q : Nat) (e k : Int) (noise : Nat) (hp : 0 < p) (hq : 0 < q) :
    let x : Rat := (p : Rat) / q * 2 ^ (e - k)
    let n := x.floor.toNat
    roundMag 1 noise (.rat p q e) k = n ∧
    roundMag 2 noise (.rat p q e) k = (if noise < ((x - n) * 2 ^ 32).floor.toNat then n + 1 else n) ∧
    roundMag 0 noise (.rat p q e) k = (if x - n < 1 / 2 ∨ (x - n = 1 / 2 ∧ n % 2 = 0) then n else n + 1) := by
  intro x n
  have proper : (Mag.rat p q e).proper = true := by simp [Mag.proper, hp, hq]
  have value : (Mag.rat p q e).real * 2 ^ (-k) = x := by
    simp only [Mag.real, x, sub_eq_add_neg, mul_assoc]
    push_cast
    rw [two_zpow_add]
  have floor : ⌊(x : ℝ)⌋₊ = n := (ratFloor_toNat x).symm
  have rest : ⌊((x : ℝ) - n) * 2 ^ 32⌋₊ = ((x - n) * 2 ^ 32).floor.toNat := by rw [ratFloor_toNat]; push_cast; rfl
  have below : (x : ℝ) - n < 1 / 2 ↔ x - n < 1 / 2 := by rw [← Rat.cast_lt (K := ℝ)]; push_cast; rfl
  have tie : (x : ℝ) - n = 1 / 2 ↔ x - n = 1 / 2 := by rw [← Rat.cast_inj (α := ℝ)]; push_cast; rfl
  simp only [roundMag_eq proper, value, roundReal, floor, rest, below, tie]
  refine ⟨rfl, rfl, rfl⟩

/-- A square root in units of 2^k rounds alike: `n` is its floor and `f` the top 32 bits of its remainder. -/
theorem roundMag_root (p q : Nat) (e k : Int) (noise : Nat) (hp : 0 < p) (hq : 0 < q) :
    let y : Rat := (p : Rat) / q * 2 ^ (e - 2 * k)
    ∃ n f : Nat, (n : Rat) ^ 2 ≤ y ∧ y < (n + 1 : Rat) ^ 2 ∧ f < 2 ^ 32 ∧ (n + (f : Rat) / 2 ^ 32) ^ 2 ≤ y ∧ y < (n + (f + 1 : Rat) / 2 ^ 32) ^ 2 ∧
      roundMag 1 noise (.root p q e) k = n ∧ roundMag 2 noise (.root p q e) k = (if noise < f then n + 1 else n) ∧
      roundMag 0 noise (.root p q e) k = (if y < (n + 1 / 2 : Rat) ^ 2 ∨ (y = (n + 1 / 2 : Rat) ^ 2 ∧ n % 2 = 0) then n else n + 1) := by
  intro y
  have proper : (Mag.root p q e).proper = true := by simp [Mag.proper, hp, hq]
  generalize hz : (Mag.root p q e).real * 2 ^ (-k) = z
  have z0 : 0 ≤ z := hz ▸ mul_nonneg (Mag.real_pos proper).le (two_zpow_pos _).le
  have square : (y : ℝ) = z ^ 2 := by
    have pos : (0 : ℝ) ≤ p / q * 2 ^ e * 2 ^ (2 * -k) := (mul_pos (fraction_pos hp hq e) (two_zpow_pos _)).le
    rw [← hz, Mag.real, sqrt_mul_zpow, Real.sq_sqrt pos, mul_assoc, ← two_zpow_add, show e + 2 * -k = e - 2 * k by ring]
    push_cast [y]
    rfl
  have lo := Nat.floor_le z0
  have hi := Nat.lt_floor_add_one z
  have f0 : 0 ≤ (z - ⌊z⌋₊) * 2 ^ 32 := mul_nonneg (sub_nonneg.mpr lo) (by positivity)
  have flo := (div_le_iff₀ (by positivity)).mpr (Nat.floor_le f0)
  have fhi := (lt_div_iff₀ (by positivity)).mpr (Nat.lt_floor_add_one ((z - ⌊z⌋₊) * 2 ^ 32))
  have le_iff {a : Rat} (ha : 0 ≤ (a : ℝ)) : a ^ 2 ≤ y ↔ (a : ℝ) ≤ z := by rw [← pow_le_pow_iff_left₀ ha z0 two_ne_zero, ← square]; exact_mod_cast Iff.rfl
  have lt_iff {a : Rat} (ha : 0 ≤ (a : ℝ)) : y < a ^ 2 ↔ z < (a : ℝ) := by rw [← pow_lt_pow_iff_left₀ z0 ha two_ne_zero, ← square]; exact_mod_cast Iff.rfl
  have eq_iff {a : Rat} (ha : 0 ≤ (a : ℝ)) : y = a ^ 2 ↔ z = (a : ℝ) := by rw [← pow_left_inj₀ z0 ha two_ne_zero, ← square]; exact_mod_cast Iff.rfl
  refine ⟨⌊z⌋₊, ⌊(z - ⌊z⌋₊) * 2 ^ 32⌋₊, (le_iff (by positivity)).mpr (by exact_mod_cast lo), (lt_iff (by positivity)).mpr (by exact_mod_cast hi), ?_,
    (le_iff (by positivity)).mpr ?_, (lt_iff (by positivity)).mpr ?_, ?_, ?_, ?_⟩
  · rw [Nat.floor_lt f0]
    push_cast
    linarith
  · push_cast
    linarith
  · push_cast
    linarith
  · rw [roundMag_eq proper, hz]
    rfl
  · rw [roundMag_eq proper, hz]
    rfl
  · have nearest : roundReal 0 noise z = if z - ⌊z⌋₊ < 1 / 2 ∨ (z - ⌊z⌋₊ = 1 / 2 ∧ ⌊z⌋₊ % 2 = 0) then ⌊z⌋₊ else ⌊z⌋₊ + 1 := rfl
    rw [roundMag_eq proper, hz, nearest]
    refine if_congr ?_ rfl rfl
    rw [lt_iff (by positivity), eq_iff (by positivity), sub_lt_iff_lt_add', sub_eq_iff_eq_add']
    push_cast
    rfl

/-- `log2` of a fraction, and of a root, in powers of two and of four. -/
theorem Mag.log2_rat (p q : Nat) (e : Int) (hp : 0 < p) (hq : 0 < q) :
    let x : Rat := (p : Rat) / q * 2 ^ e
    (2 : Rat) ^ (Mag.rat p q e).log2 ≤ x ∧ x < (2 : Rat) ^ ((Mag.rat p q e).log2 + 1) ∧
    (4 : Rat) ^ (Mag.root p q e).log2 ≤ x ∧ x < (4 : Rat) ^ ((Mag.root p q e).log2 + 1) := by
  intro x
  obtain ⟨lo, hi⟩ := Mag.log2_spec (m := .rat p q e) (by simp [Mag.proper, hp, hq])
  obtain ⟨rootLo, rootHi⟩ := Mag.log2_spec (m := .root p q e) (by simp [Mag.proper, hp, hq])
  have value : (Mag.rat p q e).real = x := by push_cast [x]; rfl
  have square : (Mag.root p q e).real * (Mag.root p q e).real = x := by
    rw [Mag.real, Real.mul_self_sqrt (fraction_pos hp hq e).le]
    push_cast [x]
    rfl
  rw [value] at lo hi
  have root0 := Mag.real_pos (m := .root p q e) (by simp [Mag.proper, hp, hq])
  have lo4 : (4 : ℝ) ^ (Mag.root p q e).log2 ≤ x := by
    rw [four_zpow, ← square]
    exact mul_self_le_mul_self (two_zpow_pos _).le rootLo
  have hi4 : (x : ℝ) < 4 ^ ((Mag.root p q e).log2 + 1) := by
    rw [four_zpow, ← square]
    exact mul_self_lt_mul_self root0.le rootHi
  refine ⟨?_, ?_, ?_, ?_⟩
  · rw [← Rat.cast_le (K := ℝ)]; push_cast; exact lo
  · rw [← Rat.cast_lt (K := ℝ)]; push_cast; exact hi
  · rw [← Rat.cast_le (K := ℝ)]; push_cast; exact lo4
  · rw [← Rat.cast_lt (K := ℝ)]; push_cast; exact hi4

end Sys2Proof.Machine
end

section
/-!
SUPPORT. Floating-point formats: the value of each code, the code of each value, and the one rounding into a format (R32, R33, R44 to R48).
-/
namespace Sys2Proof.Machine

/-! ## The formats -/

/-- What the parameters of the eight formats have in common (R32): the largest exponent field of a finite value is the last, or the last but one where that of infinity stands after it, and at it every significand is a finite value, or every one but that of NaN. -/
structure FloatFmt.Sound (f : FloatFmt) : Prop where
  fraction : 1 ≤ f.fb
  normal : 1 ≤ f.emax + f.bias
  last : f.emax + f.bias + (if f.hasInf then 2 else 1) = 2 ^ f.eb
  largest : f.maxSig + (if f.hasInf || f.nan.isNone then 1 else 2) = 2 ^ (f.fb + 1)

theorem floatFmt_sound {fmt : Nat} {f : FloatFmt} (h : floatFmt fmt = some f) : f.Sound := by
  unfold floatFmt at h
  split at h
  case h_9 => cases h
  all_goals
    cases h
    constructor <;> decide

/-- The exponent of the unit of subnormal values. -/
def FloatFmt.low (f : FloatFmt) : Int := 1 - f.bias - f.fb

/-- The code of a sign, an exponent field and a fraction. -/
def FloatFmt.codeOf (f : FloatFmt) (neg : Bool) (ef frac : Nat) : Nat := f.signBit neg + frac + ef * 2 ^ f.fb
/-- The significand of a finite code, and the exponent of its unit. -/
def FloatFmt.sigOf (f : FloatFmt) (ef frac : Nat) : Nat := if ef = 0 then frac else 2 ^ f.fb + frac
/-- The exponent of the unit of a finite code. -/
def FloatFmt.unitOf (f : FloatFmt) (ef : Nat) : Int := f.low + (ef - 1 : Nat)
/-- The largest exponent field of a finite value. -/
def FloatFmt.topField (f : FloatFmt) : Nat := (f.emax + f.bias).toNat
/-- Whether an exponent field and a fraction are those of a finite value. -/
def FloatFmt.Finite (f : FloatFmt) (ef frac : Nat) : Prop :=
  frac < 2 ^ f.fb ∧ ef ≤ f.topField ∧ (ef = f.topField → 2 ^ f.fb + frac ≤ f.maxSig)
/-- A signed number of units 2^k. -/
def Val.units (neg : Bool) (n : Nat) (k : Int) : Val := if n = 0 then .zero neg else .num neg (.rat n 1 k)

theorem Val.units_sign (neg : Bool) (n : Nat) (k : Int) : (Val.units neg n k).sign = neg := by
  unfold Val.units
  split <;> rfl
theorem Val.units_toRat (neg : Bool) (n : Nat) (k : Int) : (Val.units neg n k).toRat = some (if neg then -((n : Rat) * 2 ^ k) else n * 2 ^ k) := by
  unfold Val.units
  split
  · next h => simp [Val.toRat, h]
  · cases neg <;> simp [Val.toRat]

/-- The fields of a code. -/
theorem FloatFmt.bits_codeOf {f : FloatFmt} {ef frac : Nat} (neg : Bool) (hfrac : frac < 2 ^ f.fb) (hef : ef < 2 ^ f.eb) :
    bits (f.codeOf neg ef frac) 0 f.fb = frac ∧ bits (f.codeOf neg ef frac) f.fb f.eb = ef ∧ bitOf (f.codeOf neg ef frac) (f.fb + f.eb) = neg := by
  have p0 : 0 < 2 ^ f.fb := Nat.two_pow_pos _
  have q0 : 0 < 2 ^ f.eb := Nat.two_pow_pos _
  have form : f.codeOf neg ef frac = frac + (ef + neg.toNat * 2 ^ f.eb) * 2 ^ f.fb := by
    cases neg
    · simp [FloatFmt.codeOf, FloatFmt.signBit]
    · simp only [FloatFmt.codeOf, FloatFmt.signBit, if_true, Bool.toNat_true, Nat.pow_add]
      ring
  have high : f.codeOf neg ef frac / 2 ^ f.fb = ef + neg.toNat * 2 ^ f.eb := by
    rw [form, Nat.add_mul_div_right _ _ p0, Nat.div_eq_of_lt hfrac, Nat.zero_add]
  refine ⟨?_, ?_, ?_⟩
  · rw [bits, Nat.pow_zero, Nat.div_one, form, Nat.add_mul_mod_self_right, Nat.mod_eq_of_lt hfrac]
  · rw [bits, high, Nat.add_mul_mod_self_right, Nat.mod_eq_of_lt hef]
  · rw [bitOf, Nat.pow_add, ← Nat.div_div_eq_div_mul, high, Nat.add_mul_div_right _ _ q0, Nat.div_eq_of_lt hef, Nat.zero_add]
    cases neg <;> rfl

/-- The code of infinity decodes to infinity. -/
theorem FloatFmt.decode_infCode {f : FloatFmt} (neg : Bool) (inf : f.hasInf = true) : decodeFloat f (f.signBit neg + f.infCode) = .inf neg := by
  have code : f.signBit neg + f.infCode = f.codeOf neg (2 ^ f.eb - 1) 0 := rfl
  obtain ⟨h1, h2, h3⟩ := FloatFmt.bits_codeOf (f := f) (ef := 2 ^ f.eb - 1) (frac := 0) neg (Nat.two_pow_pos _) (Nat.sub_one_lt (Nat.two_pow_pos _).ne')
  unfold decodeFloat
  dsimp only
  rw [code, h1, h2, h3, inf]
  simp

section
variable {f : FloatFmt} (hf : f.Sound) {ef frac : Nat}
include hf

theorem FloatFmt.Sound.two_le : 2 ≤ 2 ^ f.fb := (Nat.pow_le_pow_right (by decide) hf.fraction : 2 ^ 1 ≤ 2 ^ f.fb)
theorem FloatFmt.Sound.maxSig_bounds : 2 ^ f.fb ≤ f.maxSig ∧ f.maxSig < 2 ^ (f.fb + 1) := by
  have h := hf.largest
  have two := hf.two_le
  rw [Nat.pow_succ] at h ⊢
  split at h <;> omega
theorem FloatFmt.Sound.topField_cast : (f.topField : Int) = f.emax + f.bias ∧ 1 ≤ f.topField := by
  have h := hf.normal
  rw [FloatFmt.topField]
  omega
/-- Above the largest exponent field of a finite value stands at most that of infinity. -/
theorem FloatFmt.Sound.topField_add : f.topField + (if f.hasInf then 2 else 1) = 2 ^ f.eb := by
  have h := hf.last
  have e := hf.topField_cast.1
  zify
  split at h <;> simp_all
theorem FloatFmt.Sound.field_lt (le : ef ≤ f.topField) : ef < 2 ^ f.eb := by
  have h := hf.topField_add
  split at h <;> omega
/-- The exponent of the unit of the largest values. -/
theorem FloatFmt.Sound.unitOf_topField : f.unitOf f.topField = f.emax - f.fb := by
  have h := hf.topField_cast
  rw [FloatFmt.unitOf, FloatFmt.low]
  omega

/-- A finite code is none of those of infinity and NaN. -/
theorem FloatFmt.Sound.not_special (fin : f.Finite ef frac) :
    (f.hasInf && ef == 2 ^ f.eb - 1) = false ∧ (!f.hasInf && f.nan.isSome && ef == 2 ^ f.eb - 1 && frac == 2 ^ f.fb - 1) = false := by
  obtain ⟨hfrac, le, top⟩ := fin
  have last := hf.topField_add
  have largest := hf.largest
  have two := hf.two_le
  rw [Nat.pow_succ] at largest
  cases inf : f.hasInf
  · refine ⟨rfl, ?_⟩
    cases nan : f.nan with
    | none => rfl
    | some c =>
      simp only [inf, nan, Bool.false_eq_true, Bool.false_or, Option.isNone_some, if_false] at last largest
      simp only [Bool.not_false, Option.isSome_some, Bool.true_and, Bool.and_eq_false_imp, beq_iff_eq, beq_eq_false_iff_ne]
      intro hef hfr
      have := top (by omega)
      omega
  · simp only [inf, if_true] at last
    refine ⟨?_, rfl⟩
    simp only [Bool.true_and, beq_eq_false_iff_ne]
    omega

/-- A finite code decodes to its significand in its units (R32, R33). -/
theorem FloatFmt.decode_finite (neg : Bool) (fin : f.Finite ef frac) :
    decodeFloat f (f.codeOf neg ef frac) = .units neg (f.sigOf ef frac) (f.unitOf ef) := by
  obtain ⟨noInf, noNan⟩ := hf.not_special fin
  obtain ⟨hfrac, le, -⟩ := fin
  obtain ⟨h1, h2, h3⟩ := FloatFmt.bits_codeOf neg hfrac (hf.field_lt le)
  have p0 : 0 < 2 ^ f.fb := Nat.two_pow_pos _
  unfold decodeFloat
  dsimp only
  rw [h1, h2, h3, noInf, noNan]
  simp only [Bool.false_eq_true, if_false, beq_iff_eq, Val.units, FloatFmt.sigOf, FloatFmt.unitOf, FloatFmt.low]
  split
  · next zero =>
    subst zero
    simp
  · next nonzero =>
    have e : (ef : Int) - f.bias - f.fb = 1 - f.bias - f.fb + (ef - 1 : Nat) := by omega
    rw [if_neg (by omega), e]

/-- The finite codes are those whose value is not above the largest finite value. -/
theorem FloatFmt.finite_iff (hfrac : frac < 2 ^ f.fb) :
    f.Finite ef frac ↔ (f.sigOf ef frac : Rat) * 2 ^ f.unitOf ef ≤ f.maxSig * 2 ^ (f.emax - f.fb) := by
  obtain ⟨lo, hi⟩ := hf.maxSig_bounds
  have one := hf.topField_cast.2
  rw [Nat.pow_succ] at hi
  have scaled : (f.sigOf ef frac : Rat) * 2 ^ f.unitOf ef ≤ f.maxSig * 2 ^ (f.emax - f.fb) ↔ f.sigOf ef frac * 2 ^ (ef - 1) ≤ f.maxSig * 2 ^ (f.topField - 1) := by
    rw [← hf.unitOf_topField, FloatFmt.unitOf, FloatFmt.unitOf, zpow_add₀ (by norm_num), zpow_add₀ (by norm_num), zpow_natCast, zpow_natCast, mul_left_comm, mul_left_comm (f.maxSig : Rat),
      mul_le_mul_iff_right₀ (zpow_pos (by norm_num) _)]
    exact_mod_cast Iff.rfl
  rw [scaled, FloatFmt.Finite]
  rcases lt_trichotomy ef f.topField with below | same | above
  · refine iff_of_true ⟨hfrac, below.le, fun h => absurd h below.ne⟩ ?_
    by_cases zero : ef = 0
    · calc f.sigOf ef frac * 2 ^ (ef - 1) = frac := by simp [FloatFmt.sigOf, zero]
        _ ≤ f.maxSig * 1 := by omega
        _ ≤ f.maxSig * 2 ^ (f.topField - 1) := Nat.mul_le_mul_left _ (Nat.one_le_two_pow)
    · calc f.sigOf ef frac * 2 ^ (ef - 1) ≤ (f.maxSig * 2) * 2 ^ (ef - 1) := Nat.mul_le_mul_right _ (by rw [FloatFmt.sigOf, if_neg zero]; omega)
        _ = f.maxSig * 2 ^ ef := by rw [Nat.mul_assoc, ← Nat.pow_succ', Nat.succ_eq_add_one, Nat.sub_add_cancel (by omega)]
        _ ≤ f.maxSig * 2 ^ (f.topField - 1) := Nat.mul_le_mul_left _ (Nat.pow_le_pow_right (by decide) (by omega))
  · rw [same, FloatFmt.sigOf, if_neg (by omega), Nat.mul_le_mul_right_iff (Nat.two_pow_pos _)]
    exact ⟨fun h => h.2.2 rfl, fun h => ⟨hfrac, le_rfl, fun _ => h⟩⟩
  · refine iff_of_false (fun h => absurd h.2.1 (by omega)) (not_le.mpr ?_)
    calc f.maxSig * 2 ^ (f.topField - 1) < 2 ^ f.fb * 2 * 2 ^ (f.topField - 1) := Nat.mul_lt_mul_of_pos_right hi (Nat.two_pow_pos _)
      _ = 2 ^ f.fb * 2 ^ f.topField := by rw [Nat.mul_assoc, ← Nat.pow_succ', Nat.succ_eq_add_one, Nat.sub_add_cancel one]
      _ ≤ f.sigOf ef frac * 2 ^ (ef - 1) := Nat.mul_le_mul (by rw [FloatFmt.sigOf, if_neg (by omega)]; omega) (Nat.pow_le_pow_right (by decide) (by omega))

end

/-- A significand of at most fb + 1 bits, or the power of two after it, in a unit that is the least one where the significand is short, is a code. -/
theorem FloatFmt.exists_fields (f : FloatFmt) (neg : Bool) {q j : Nat} (le : q ≤ 2 ^ (f.fb + 1)) (h : j = 0 ∨ 2 ^ f.fb ≤ q) :
    ∃ ef frac : Nat, frac < 2 ^ f.fb ∧ f.signBit neg + q + j * 2 ^ f.fb = f.codeOf neg ef frac ∧ (f.sigOf ef frac : Rat) * 2 ^ f.unitOf ef = q * 2 ^ (f.low + j) := by
  have p0 : 0 < 2 ^ f.fb := Nat.two_pow_pos _
  rw [Nat.pow_succ] at le
  rcases Nat.lt_or_ge q (2 ^ f.fb) with short | full
  · have zero : j = 0 := by omega
    subst zero
    exact ⟨0, q, short, rfl, rfl⟩
  rcases le.lt_or_eq with lt | eq
  · refine ⟨j + 1, q - 2 ^ f.fb, by omega, ?_, ?_⟩
    · rw [FloatFmt.codeOf, Nat.add_mul]
      omega
    · rw [FloatFmt.sigOf, if_neg (by omega), FloatFmt.unitOf, Nat.add_sub_cancel, Nat.add_sub_cancel' full]
  · refine ⟨j + 2, 0, p0, ?_, ?_⟩
    · rw [FloatFmt.codeOf, Nat.add_mul]
      omega
    · rw [FloatFmt.sigOf, if_neg (by omega), FloatFmt.unitOf, eq, show j + 2 - 1 = j + 1 from rfl]
      push_cast
      rw [← add_assoc, zpow_add₀ (by norm_num : (2 : Rat) ≠ 0) (f.low + j), zpow_one]
      ring

/-- Such a code decodes to the significand in its unit where that is not above the largest finite value. -/
theorem FloatFmt.decode_encoded {f : FloatFmt} (hf : f.Sound) (neg : Bool) {q j : Nat} (le : q ≤ 2 ^ (f.fb + 1)) (h : j = 0 ∨ 2 ^ f.fb ≤ q)
    (fits : (q : Rat) * 2 ^ (f.low + j) ≤ f.maxSig * 2 ^ (f.emax - f.fb)) :
    (decodeFloat f (f.signBit neg + q + j * 2 ^ f.fb)).toRat = some (if neg then -((q : Rat) * 2 ^ (f.low + j)) else q * 2 ^ (f.low + j)) ∧
    (decodeFloat f (f.signBit neg + q + j * 2 ^ f.fb)).sign = neg := by
  obtain ⟨ef, frac, hfrac, code, value⟩ := f.exists_fields neg le h
  have fin := (FloatFmt.finite_iff hf (ef := ef) hfrac).mpr (by rw [value]; exact fits)
  rw [code, FloatFmt.decode_finite hf neg fin, Val.units_toRat, Val.units_sign, value]
  exact ⟨rfl, rfl⟩

/-- A rounded value overflows where it is above the largest finite value. -/
theorem FloatFmt.overflows_iff (f : FloatFmt) (n : Nat) (k : Int) : f.overflows n k = true ↔ (f.maxSig : Rat) * 2 ^ (f.emax - f.fb) < n * 2 ^ k := by
  unfold FloatFmt.overflows
  dsimp only
  generalize f.emax - (f.fb : Int) = t
  split
  · next h =>
    obtain ⟨j, rfl⟩ : ∃ j : Nat, k = j + t := ⟨(k - t).toNat, by omega⟩
    rw [add_sub_cancel_right, Int.toNat_natCast, decide_eq_true_eq, zpow_add₀ (by norm_num), zpow_natCast, ← mul_assoc, mul_lt_mul_iff_left₀ (zpow_pos (by norm_num) _)]
    exact_mod_cast Iff.rfl
  · next h =>
    obtain ⟨j, rfl⟩ : ∃ j : Nat, t = j + k := ⟨(t - k).toNat, by omega⟩
    rw [add_sub_cancel_right, Int.toNat_natCast, decide_eq_true_eq, zpow_add₀ (by norm_num), zpow_natCast, ← mul_assoc, mul_lt_mul_iff_left₀ (zpow_pos (by norm_num) _)]
    exact_mod_cast Iff.rfl

/-! ## One rounding into a format -/

/-- The exponent of the unit in which a magnitude is rounded (R45): that of its binade, or the subnormal one. -/
def FloatFmt.unitExp (f : FloatFmt) (m : Mag) : Int := max m.log2 (1 - f.bias) - f.fb

theorem FloatFmt.low_le_unitExp (f : FloatFmt) (m : Mag) : f.low ≤ f.unitExp m := by
  rw [FloatFmt.low, FloatFmt.unitExp]
  omega
/-- A magnitude rounded in its unit has at most fb + 1 bits, or is the power of two after those; and it has fb + 1 bits where the unit is not the least. -/
theorem FloatFmt.roundMag_bounds (f : FloatFmt) {m : Mag} (h : m.proper = true) (r : BitVec 2) (noise : Nat) :
    roundMag r noise m (f.unitExp m) ≤ 2 ^ (f.fb + 1) ∧ (f.unitExp m = f.low ∨ 2 ^ f.fb ≤ roundMag r noise m (f.unitExp m)) := by
  obtain ⟨lo, hi⟩ := Mag.log2_spec h
  have y0 : 0 ≤ m.real * 2 ^ (-f.unitExp m) := mul_nonneg (Mag.real_pos h).le (two_zpow_pos _).le
  rw [roundMag_eq h]
  constructor
  · refine roundReal_le y0 ?_
    rw [zpow_neg, ← div_eq_mul_inv, div_le_iff₀ (two_zpow_pos _)]
    push_cast
    rw [← zpow_natCast, ← two_zpow_add]
    refine hi.le.trans (zpow_le_zpow_right₀ (by norm_num) ?_)
    rw [FloatFmt.unitExp]
    push_cast
    omega
  · rcases le_total m.log2 (1 - f.bias) with subnormal | normal
    · left
      rw [FloatFmt.unitExp, FloatFmt.low, max_eq_right subnormal]
    · right
      refine le_roundReal ?_
      rw [zpow_neg, ← div_eq_mul_inv, le_div_iff₀ (two_zpow_pos _)]
      push_cast
      rw [← zpow_natCast, ← two_zpow_add, FloatFmt.unitExp, max_eq_left normal, add_sub_cancel]
      exact lo

/-- The largest finite code decodes to the largest finite value. -/
theorem FloatFmt.decode_maxCode {f : FloatFmt} (hf : f.Sound) (neg : Bool) :
    (decodeFloat f (f.signBit neg + f.maxCode)).toRat = some (if neg then -((f.maxSig : Rat) * 2 ^ (f.emax - f.fb)) else f.maxSig * 2 ^ (f.emax - f.fb)) := by
  have unit : f.low + ((f.emax + f.bias - 1).toNat : Int) = f.emax - f.fb := by
    have := hf.normal
    rw [FloatFmt.low]
    omega
  obtain ⟨lo, hi⟩ := hf.maxSig_bounds
  have h := (FloatFmt.decode_encoded hf neg (j := (f.emax + f.bias - 1).toNat) hi.le (.inr lo) (by rw [unit])).1
  rw [unit, Nat.add_assoc] at h
  exact h

/-- One rounding into a floating-point format (R45 to R48). -/
theorem roundElem_float (fmt : Nat) (f : FloatFmt) (r : Rounding) (noise : Nat) (neg : Bool) (m : Mag) (hfmt : floatFmt fmt = some f) (proper : m.proper = true) :
    let k := max m.log2 (1 - f.bias) - f.fb
    let q : Rat := roundMag r.rnd noise m k * 2 ^ k
    let top : Rat := f.maxSig * 2 ^ (f.emax - f.fb)
    let sg (x : Rat) : Rat := if neg then -x else x
    let x := roundElem fmt 0 r noise (.num neg m)
    (x.overflow = true ↔ top < q) ∧ (x.underflow = true ↔ q = 0) ∧
    (x.overflow = false → (decodeElem fmt 0 x.code).toRat = some (sg q) ∧ (decodeElem fmt 0 x.code).sign = neg) ∧
    (x.overflow = true → if r.ovf = true ∧ f.hasInf = true then decodeElem fmt 0 x.code = .inf neg else (decodeElem fmt 0 x.code).toRat = some (sg top)) := by
  intro k q top sg x
  have hf := floatFmt_sound hfmt
  have decode (code : Nat) : decodeElem fmt 0 code = decodeFloat f code := by rw [decodeElem, hfmt]
  have aboveTop := f.overflows_iff (roundMag r.rnd noise m k) k
  have x_eq : x = if f.overflows (roundMag r.rnd noise m k) k then ⟨f.signBit neg + (if r.ovf && f.hasInf then f.infCode else f.maxCode), true, false⟩
      else ⟨f.signBit neg + roundMag r.rnd noise m k + (k - f.low).toNat * 2 ^ f.fb, false, roundMag r.rnd noise m k == 0⟩ := by
    simp only [x, roundElem, hfmt]
    rfl
  simp only [decode]
  cases overflows : f.overflows (roundMag r.rnd noise m k) k
  · rw [overflows] at aboveTop x_eq
    rw [x_eq]
    simp only [Bool.false_eq_true, if_false, false_iff, not_lt, beq_iff_eq, true_implies, false_implies, and_true] at aboveTop ⊢
    have unit : f.low + ((k - f.low).toNat : Int) = k := by
      have := f.low_le_unitExp m
      rw [FloatFmt.unitExp] at this
      omega
    obtain ⟨le, full⟩ := f.roundMag_bounds proper r.rnd noise
    have encoded := FloatFmt.decode_encoded hf neg (j := (k - f.low).toNat) le (full.imp_left (fun h => by
      change k = f.low at h
      omega)) (by rw [unit]; exact aboveTop)
    rw [unit] at encoded
    refine ⟨aboveTop, ?_, encoded⟩
    rw [mul_eq_zero_iff_right (zpow_pos (by norm_num) _).ne', Nat.cast_eq_zero]
  · rw [overflows] at aboveTop x_eq
    have above : top < q := aboveTop.mp rfl
    have top0 : 0 ≤ top := by positivity
    rw [x_eq]
    simp only [if_true, Bool.false_eq_true, Bool.true_eq_false, true_iff, false_iff, false_implies, true_implies, true_and, Bool.and_eq_true]
    refine ⟨above, (top0.trans_lt above).ne', ?_⟩
    split
    · next h => exact FloatFmt.decode_infCode neg h.2
    · exact FloatFmt.decode_maxCode hf neg

end Sys2Proof.Machine
end

section
/-!
SUPPORT. The one rounding into the integer formats, and the conversions that change nothing: a code into its own format, and a code of a narrower format into FP32 (R36, R39, R44, R50).
-/
namespace Sys2Proof.Machine

/-! ## Two's complement -/

/-- A number that has a two's complement form of w bits is the reading of that form. -/
theorem signed_unsigned {w : Nat} {z : Int} (hw : 0 < w) (lo : -2 ^ (w - 1) ≤ z) (hi : z < 2 ^ (w - 1)) : signed w (unsigned w z) = z := by
  have form : unsigned w z = (BitVec.ofInt w z).toNat := (BitVec.toNat_ofInt z).symm
  rw [form, signed_toNat, BitVec.toInt_ofInt_eq_self hw lo hi]
/-- A code of w bits is the two's complement form of its reading. -/
theorem unsigned_signed {w code : Nat} (h : code < 2 ^ w) : unsigned w (signed w code) = code := by
  have h0 := unsigned_add_signed w 0 code
  rwa [Nat.cast_zero, zero_add, zero_add, Nat.mod_eq_of_lt h] at h0
theorem signed_bounds {w : Nat} (hw : 0 < w) (code : Nat) : -2 ^ (w - 1) ≤ signed w code ∧ signed w code < 2 ^ (w - 1) := by
  have two : 2 ^ w = 2 * 2 ^ (w - 1) := by rw [← Nat.pow_succ', Nat.succ_eq_add_one, Nat.sub_add_cancel hw]
  have small := Nat.mod_lt code (Nat.two_pow_pos w)
  have cast : (2 : Int) ^ (w - 1) = ((2 ^ (w - 1) : Nat) : Int) := by push_cast; rfl
  unfold signed
  dsimp only
  split <;> omega

/-! ## The integer formats -/

theorem intWidth_pos {fmt w : Nat} (h : intWidth fmt = some w) : 0 < w := by
  unfold intWidth at h
  split at h
  case h_6 => cases h
  all_goals
    cases h
    decide
theorem floatFmt_of_intWidth {fmt w : Nat} (h : intWidth fmt = some w) : floatFmt fmt = none := by
  unfold intWidth at h
  split at h
  case h_6 => cases h
  all_goals rfl
theorem roundElem_of_intWidth {fmt w : Nat} (h : intWidth fmt = some w) (e : Int) (r : Rounding) (noise : Nat) (v : Val) :
    roundElem fmt e r noise v = roundInt w (if isFxg fmt then e else 0) r noise v := by
  rw [roundElem, floatFmt_of_intWidth h, h]
theorem decodeElem_of_intWidth {fmt w : Nat} (h : intWidth fmt = some w) (e : Int) (code : Nat) :
    decodeElem fmt e code = .dyadic (signed w code) (if isFxg fmt then e else 0) := by
  rw [decodeElem, floatFmt_of_intWidth h, h]

/-- One rounding into an integer format saturates (R50). -/
theorem roundElem_int (fmt w : Nat) (e : Int) (r : Rounding) (noise : Nat) (neg : Bool) (m : Mag) (h : intWidth fmt = some w) :
    let q := roundMag r.rnd noise m (if isFxg fmt then e else 0)
    let x := roundElem fmt e r noise (.num neg m)
    let c : Int := min q (2 ^ (w - 1) - 1)
    signed w x.code = (if neg then -c else c) ∧ (x.overflow = true ↔ 2 ^ (w - 1) - 1 < q) ∧ (x.underflow = true ↔ q = 0) := by
  intro q x c
  have p0 := Nat.two_pow_pos (w - 1)
  have cast : (2 : Int) ^ (w - 1) = ((2 ^ (w - 1) : Nat) : Int) := by push_cast; rfl
  have clamped : ((if decide (2 ^ (w - 1) - 1 < q) = true then 2 ^ (w - 1) - 1 else q : Nat) : Int) = c := by
    simp only [c, decide_eq_true_eq, cast]
    split <;> omega
  have x_eq : x = ⟨unsigned w (if neg then -c else c), decide (2 ^ (w - 1) - 1 < q), q == 0⟩ := by
    rw [← clamped]
    exact roundElem_of_intWidth h e r noise _
  rw [x_eq]
  refine ⟨signed_unsigned (intWidth_pos h) ?_ ?_, decide_eq_true_iff, beq_iff_eq⟩
  all_goals
    simp only [c, cast]
    split <;> omega

/-! ## Magnitudes that are a whole number of units -/

theorem Mag.whole_proper {a : Nat} (ha : 0 < a) (u : Int) : (Mag.rat a 1 u).proper = true := by simp [Mag.proper, ha]
theorem Mag.whole_real (a : Nat) (u : Int) : (Mag.rat a 1 u).real = a * 2 ^ u := by simp [Mag.real]
/-- A whole number of units is not changed by rounding it in a unit that divides its own. -/
theorem roundMag_whole {a : Nat} (ha : 0 < a) {u k : Int} (le : k ≤ u) (r : BitVec 2) (noise : Nat) : roundMag r noise (.rat a 1 u) k = a * 2 ^ (u - k).toNat := by
  obtain ⟨j, rfl⟩ : ∃ j : Nat, u = k + j := ⟨(u - k).toNat, by omega⟩
  have value : (a : ℝ) * 2 ^ (k + j) * 2 ^ (-k) = ((a * 2 ^ j : Nat) : ℝ) := by
    rw [mul_assoc, ← two_zpow_add, show k + j + -k = j by omega, zpow_natCast]
    push_cast
    rfl
  rw [roundMag_eq (Mag.whole_proper ha _), Mag.whole_real, value, roundReal_natCast, add_sub_cancel_left, Int.toNat_natCast]

/-- A significand of n bits in units of 2^u has a logarithm below u + n. -/
theorem Mag.whole_log2_lt {a n : Nat} (ha : 0 < a) (h : a < 2 ^ n) (u : Int) : (Mag.rat a 1 u).log2 < n + u := by
  refine Mag.log2_lt (Mag.whole_proper ha u) ?_
  rw [Mag.whole_real, two_zpow_add, zpow_natCast]
  exact mul_lt_mul_of_pos_right (by exact_mod_cast h) (two_zpow_pos u)
theorem Mag.le_whole_log2 {a n : Nat} (h : 2 ^ n ≤ a) (u : Int) : n + u ≤ (Mag.rat a 1 u).log2 := by
  have proper := Mag.whole_proper ((Nat.two_pow_pos n).trans_le h) u
  have below : (2 : ℝ) ^ (n + u) ≤ (Mag.rat a 1 u).real := by
    rw [Mag.whole_real, two_zpow_add, zpow_natCast]
    exact mul_le_mul_of_nonneg_right (by exact_mod_cast h) (two_zpow_pos u).le
  have lt := (zpow_lt_zpow_iff_right₀ (a := (2 : ℝ)) (by norm_num)).mp (below.trans_lt (Mag.log2_spec proper).2)
  omega

/-- The unit of a significand that has the bits of the format is not above its own. -/
theorem FloatFmt.unitExp_whole_le (f : FloatFmt) {a : Nat} (ha : 0 < a) (h : a < 2 ^ (f.fb + 1)) {u : Int} (low : f.low ≤ u) : f.unitExp (.rat a 1 u) ≤ u := by
  have lt := Mag.whole_log2_lt ha h u
  rw [FloatFmt.low] at low
  rw [FloatFmt.unitExp]
  push_cast at lt
  omega

/-! ## Every code of a format has fields -/

section
variable {f : FloatFmt}

/-- A code is that of its fields. -/
theorem FloatFmt.codeOf_bits {code : Nat} (h : code < 2 ^ (f.fb + f.eb + 1)) : f.codeOf (bitOf code (f.fb + f.eb)) (bits code f.fb f.eb) (bits code 0 f.fb) = code := by
  have low := Nat.mod_add_div code (2 ^ f.fb)
  have high := Nat.mod_add_div (code / 2 ^ f.fb) (2 ^ f.eb)
  have sign : code / 2 ^ f.fb / 2 ^ f.eb = (bitOf code (f.fb + f.eb)).toNat := by
    rw [Nat.div_div_eq_div_mul, ← Nat.pow_add, bitOf]
    have lt : code / 2 ^ (f.fb + f.eb) < 2 := by
      rw [Nat.div_lt_iff_lt_mul (Nat.two_pow_pos _), ← Nat.pow_succ']
      exact h
    rcases Nat.le_one_iff_eq_zero_or_eq_one.mp (Nat.lt_succ_iff.mp lt) with zero | one
    · simp [zero]
    · simp [one]
  rw [sign] at high
  have place : f.signBit (bitOf code (f.fb + f.eb)) = 2 ^ f.fb * (2 ^ f.eb * (bitOf code (f.fb + f.eb)).toNat) := by
    rw [FloatFmt.signBit, ← Nat.mul_assoc, ← Nat.pow_add]
    cases bitOf code (f.fb + f.eb) <;> simp
  rw [FloatFmt.codeOf, place, bits, bits, Nat.pow_zero, Nat.div_one]
  calc _ = code % 2 ^ f.fb + 2 ^ f.fb * (code / 2 ^ f.fb % 2 ^ f.eb + 2 ^ f.eb * (bitOf code (f.fb + f.eb)).toNat) := by ring
    _ = code := by rw [high, low]

/-- A value is read from the fields of its code. -/
theorem FloatFmt.decode_codeOf (code : Nat) : decodeFloat f code = decodeFloat f (f.codeOf (bitOf code (f.fb + f.eb)) (bits code f.fb f.eb) (bits code 0 f.fb)) := by
  obtain ⟨h1, h2, h3⟩ := FloatFmt.bits_codeOf (f := f) (bitOf code (f.fb + f.eb)) (bits_lt code 0 f.fb) (bits_lt code f.fb f.eb)
  unfold decodeFloat
  dsimp only
  rw [h1, h2, h3]

/-- A code of a format is NaN, an infinity, or finite. -/
theorem FloatFmt.decode_cases (hf : f.Sound) (code : Nat) :
    decodeFloat f code = .nan ∨
    (f.hasInf = true ∧ bits code f.fb f.eb = 2 ^ f.eb - 1 ∧ bits code 0 f.fb = 0 ∧ decodeFloat f code = .inf (bitOf code (f.fb + f.eb))) ∨
    f.Finite (bits code f.fb f.eb) (bits code 0 f.fb) := by
  have hfrac := bits_lt code 0 f.fb
  have hef := bits_lt code f.fb f.eb
  have last := hf.topField_add
  have largest := hf.largest
  rw [Nat.pow_succ] at largest
  unfold FloatFmt.Finite decodeFloat
  dsimp only
  generalize bits code f.fb f.eb = ef at hef ⊢
  generalize bits code 0 f.fb = frac at hfrac ⊢
  by_cases top : ef = 2 ^ f.eb - 1
  · cases inf : f.hasInf
    · cases nan : f.nan with
      | none =>
        simp only [inf, nan, Bool.false_eq_true, Bool.false_or, Option.isNone_none, if_true, if_false] at last largest
        exact .inr (.inr ⟨hfrac, by omega, by omega⟩)
      | some c =>
        simp only [inf, nan, Bool.false_eq_true, Bool.false_or, Option.isNone_some, if_false] at last largest
        by_cases ones : frac = 2 ^ f.fb - 1
        · left
          simp [top, ones]
        · exact .inr (.inr ⟨hfrac, by omega, by omega⟩)
    · by_cases zero : frac = 0
      · right; left
        simp [top, zero]
      · left
        simp [top, zero]
  · refine .inr (.inr ⟨hfrac, ?_, ?_⟩)
    · split at last <;> omega
    · intro isTop
      have inf : f.hasInf = true := by
        by_contra no
        simp only [no, if_false] at last
        omega
      simp only [inf, Bool.true_or, if_true] at largest
      omega

/-- The value of a finite code is rounded to that code. -/
theorem FloatFmt.round_finite (hf : f.Sound) (r : Rounding) (noise : Nat) (neg : Bool) {ef frac : Nat} (fin : f.Finite ef frac) :
    roundFloat f r noise (.units neg (f.sigOf ef frac) (f.unitOf ef)) = ⟨f.codeOf neg ef frac, false, false⟩ := by
  have p0 := Nat.two_pow_pos f.fb
  have hfrac := fin.1
  have fits := (FloatFmt.finite_iff hf hfrac).mp fin
  have sig_lt : f.sigOf ef frac < 2 ^ (f.fb + 1) := by
    rw [FloatFmt.sigOf, Nat.pow_succ]
    split <;> omega
  have low_le : f.low ≤ f.unitOf ef := by rw [FloatFmt.unitOf]; omega
  by_cases zero : f.sigOf ef frac = 0
  · have fields : ef = 0 ∧ frac = 0 := by
      rw [FloatFmt.sigOf] at zero
      split at zero <;> omega
    rw [Val.units, if_pos zero, fields.1, fields.2]
    simp [roundFloat, FloatFmt.codeOf]
  have pos : 0 < f.sigOf ef frac := by omega
  have unit : f.unitExp (.rat (f.sigOf ef frac) 1 (f.unitOf ef)) = f.unitOf ef := by
    refine le_antisymm (f.unitExp_whole_le pos sig_lt low_le) ?_
    by_cases subnormal : ef = 0
    · rw [subnormal]
      exact le_of_eq_of_le (by simp [FloatFmt.unitOf]) (f.low_le_unitExp _)
    · have le := Mag.le_whole_log2 (a := f.sigOf ef frac) (n := f.fb) (by rw [FloatFmt.sigOf, if_neg subnormal]; omega) (f.unitOf ef)
      rw [FloatFmt.unitExp]
      omega
  have exact : roundMag r.rnd noise (.rat (f.sigOf ef frac) 1 (f.unitOf ef)) (f.unitOf ef) = f.sigOf ef frac := by
    rw [roundMag_whole pos le_rfl]
    simp
  have inRange : f.overflows (f.sigOf ef frac) (f.unitOf ef) = false := by
    rw [← Bool.not_eq_true, FloatFmt.overflows_iff, not_lt]
    exact fits
  have code : f.signBit neg + f.sigOf ef frac + (f.unitOf ef - f.low).toNat * 2 ^ f.fb = f.codeOf neg ef frac := by
    rw [FloatFmt.unitOf, add_sub_cancel_left, Int.toNat_natCast, FloatFmt.sigOf, FloatFmt.codeOf]
    cases ef with
    | zero => simp
    | succ n =>
      rw [if_neg (by omega), Nat.add_sub_cancel, Nat.add_mul]
      omega
  unfold FloatFmt.unitExp at unit
  unfold FloatFmt.low at code
  rw [Val.units, if_neg zero, roundFloat]
  rw [unit, exact, inRange, code]
  simp [zero]

/-- A code of a floating-point format is unchanged by a conversion into that format. -/
theorem FloatFmt.round_decode (hf : f.Sound) (r : Rounding) (noise : Nat) {code : Nat} (h : code < 2 ^ (f.fb + f.eb + 1)) (notNan : decodeFloat f code ≠ .nan) :
    roundFloat f r noise (decodeFloat f code) = ⟨code, false, false⟩ := by
  have code_eq := FloatFmt.codeOf_bits h
  rcases FloatFmt.decode_cases hf code with nan | ⟨inf, hef, hfrac, value⟩ | fin
  · exact absurd nan notNan
  · rw [hef, hfrac] at code_eq
    rw [value, roundFloat, if_pos inf, show f.signBit (bitOf code (f.fb + f.eb)) + f.infCode = code from code_eq]
  · rw [FloatFmt.decode_codeOf, FloatFmt.decode_finite hf _ fin, FloatFmt.round_finite hf r noise _ fin, code_eq]

end

/-! ## Codes into their own format -/

theorem fmtWidth_of_floatFmt {fmt : Nat} {f : FloatFmt} (h : floatFmt fmt = some f) : fmtWidth fmt = f.fb + f.eb + 1 := by
  unfold floatFmt at h
  split at h
  case h_9 => cases h
  all_goals
    cases h
    rfl
theorem fmtWidth_of_intWidth {fmt w : Nat} (h : intWidth fmt = some w) : fmtWidth fmt = w := by
  unfold intWidth at h
  split at h
  case h_6 => cases h
  all_goals
    cases h
    rfl
theorem floatFmt_or_intWidth {fmt : Nat} (h : fmt ≤ 0xC) : (∃ f, floatFmt fmt = some f) ∨ ∃ w, intWidth fmt = some w := by
  interval_cases fmt <;> simp [floatFmt, intWidth]

/-- An integer is unchanged by a conversion into an integer format that holds it and its opposite. -/
theorem roundInt_dyadic {w : Nat} (e : Int) (r : Rounding) (noise : Nat) {z : Int} (lo : -2 ^ (w - 1) < z) (hi : z < 2 ^ (w - 1)) :
    roundInt w e r noise (.dyadic z e) = ⟨unsigned w z, false, false⟩ := by
  rw [Val.dyadic]
  split
  · next zero =>
    subst zero
    simp [roundInt, unsigned]
  · next nonzero =>
    have exact : roundMag r.rnd noise (.rat z.natAbs 1 e) e = z.natAbs := by
      rw [roundMag_whole (by omega) le_rfl]
      simp
    have cast : (2 : Int) ^ (w - 1) = ((2 ^ (w - 1) : Nat) : Int) := by push_cast; rfl
    have inRange : ¬ 2 ^ (w - 1) - 1 < z.natAbs := by omega
    have value : (if decide (z < 0) = true then -(z.natAbs : Int) else z.natAbs) = z := by
      rw [if_congr decide_eq_true_iff rfl rfl]
      split <;> omega
    rw [roundInt]
    rw [exact, decide_eq_false inRange, if_neg Bool.false_ne_true, value]
    simp [nonzero]

/-- A code converts into its own format unchanged (R44). -/
theorem roundElem_decodeElem (fmt code noise : Nat) (e : Int) (r : Rounding) (hfmt : fmt ≤ 0xC) (hcode : code < 2 ^ fmtWidth fmt) (notNan : decodeElem fmt e code ≠ .nan)
    (symmetric : ∀ w, intWidth fmt = some w → signed w code ≠ -2 ^ (w - 1)) : roundElem fmt e r noise (decodeElem fmt e code) = ⟨code, false, false⟩ := by
  rcases floatFmt_or_intWidth hfmt with ⟨f, hf⟩ | ⟨w, hw⟩
  · have decode : decodeElem fmt e code = decodeFloat f code := by rw [decodeElem, hf]
    rw [decode] at notNan ⊢
    rw [roundElem, hf]
    exact FloatFmt.round_decode (floatFmt_sound hf) r noise (fmtWidth_of_floatFmt hf ▸ hcode) notNan
  · obtain ⟨lo, hi⟩ := signed_bounds (intWidth_pos hw) code
    rw [decodeElem_of_intWidth hw, roundElem_of_intWidth hw, roundInt_dyadic _ r noise (lt_of_le_of_ne lo (Ne.symm (symmetric w hw))) hi, unsigned_signed]
    rwa [← fmtWidth_of_intWidth hw]

/-! ## Codes into FP32 -/

/-- A significand of at most 24 bits in a unit that is not below the least of FP32 is exact in FP32. -/
theorem roundFp32_exact {a : Nat} (ha : a < 2 ^ 24) {u : Int} (low : -149 ≤ u) (fits : (a : Rat) * 2 ^ u ≤ 0xFFFFFF * 2 ^ (104 : Int)) (neg : Bool) (r : Rounding) (noise : Nat) :
    let y := roundElem 0 0 r noise (.units neg a u)
    (decodeFp32 y.code).toRat = (Val.units neg a u).toRat ∧ y.overflow = false ∧ y.underflow = false := by
  intro y
  have h0 : floatFmt 0 = some ⟨8, 23, 127, 127, 0xFFFFFF, true, some 0x7FC00000⟩ := rfl
  by_cases zero : a = 0
  · have hy : y = ⟨FloatFmt.signBit ⟨8, 23, 127, 127, 0xFFFFFF, true, some 0x7FC00000⟩ neg, false, false⟩ := by
      simp only [y, Val.units, if_pos zero]
      rfl
    rw [hy, Val.units, if_pos zero]
    cases neg <;> exact ⟨rfl, rfl, rfl⟩
  · have pos : 0 < a := by omega
    obtain ⟨above, under, value, -⟩ := roundElem_float 0 _ r noise neg (.rat a 1 u) h0 (Mag.whole_proper pos u)
    have unit := FloatFmt.unitExp_whole_le ⟨8, 23, 127, 127, 0xFFFFFF, true, some 0x7FC00000⟩ pos ha low
    unfold FloatFmt.unitExp at unit
    dsimp only at above under value unit
    generalize max (Mag.rat a 1 u).log2 (1 - 127) - ((23 : Nat) : Int) = k at above under value unit
    have rounded : (roundMag r.rnd noise (.rat a 1 u) k : Rat) * 2 ^ k = a * 2 ^ u := by
      obtain ⟨j, rfl⟩ : ∃ j : Nat, u = k + j := ⟨(u - k).toNat, by omega⟩
      rw [roundMag_whole pos unit, add_sub_cancel_left, Int.toNat_natCast, zpow_add₀ (by norm_num), zpow_natCast]
      push_cast
      ring
    have hy : y = roundElem 0 0 r noise (.num neg (.rat a 1 u)) := by simp only [y, Val.units, if_neg zero]
    rw [← hy, rounded] at above under value
    have inRange : y.overflow = false := by
      rw [← Bool.not_eq_true, above, not_lt]
      exact fits
    refine ⟨?_, inRange, ?_⟩
    · rw [Val.units_toRat]
      exact (value inRange).1
    · rw [← Bool.not_eq_true, under, mul_eq_zero_iff_right (zpow_pos (by norm_num) _).ne']
      exact_mod_cast zero

/-- The formats other than FP32 have no more fraction bits, no smaller units and no greater values than FP32. -/
theorem floatFmt_within_fp32 {fmt : Nat} {f : FloatFmt} (h : floatFmt fmt = some f) :
    f.fb ≤ 23 ∧ -149 ≤ f.low ∧ (f.maxSig : Rat) * 2 ^ (f.emax - f.fb) ≤ 0xFFFFFF * 2 ^ (104 : Int) := by
  unfold floatFmt at h
  split at h
  case h_9 => cases h
  all_goals
    cases h
    exact ⟨by decide, by decide, by norm_num⟩

/-- A code with a value is exact in FP32. -/
theorem roundFp32_decodeElem (fmt code noise : Nat) (r : Rounding) (x : Rat) (hfmt : fmt ≤ 8) (hx : (decodeElem fmt 0 code).toRat = some x) :
    let y := roundElem 0 0 r noise (decodeElem fmt 0 code)
    (decodeFp32 y.code).toRat = some x ∧ y.overflow = false ∧ y.underflow = false := by
  suffices ∃ (neg : Bool) (a : Nat) (u : Int), decodeElem fmt 0 code = .units neg a u ∧ a < 2 ^ 24 ∧ -149 ≤ u ∧ (a : Rat) * 2 ^ u ≤ 0xFFFFFF * 2 ^ (104 : Int) by
    obtain ⟨neg, a, u, value, small, low, fits⟩ := this
    rw [value] at hx ⊢
    rw [← hx]
    exact roundFp32_exact small low fits neg r noise
  rcases floatFmt_or_intWidth (hfmt.trans (by decide)) with ⟨f, hf⟩ | ⟨w, hw⟩
  · have sound := floatFmt_sound hf
    obtain ⟨fb, low, top⟩ := floatFmt_within_fp32 hf
    have decode : decodeElem fmt 0 code = decodeFloat f code := by rw [decodeElem, hf]
    rw [decode] at hx ⊢
    rcases FloatFmt.decode_cases sound code with nan | ⟨-, -, -, inf⟩ | fin
    · rw [nan] at hx
      cases hx
    · rw [inf] at hx
      cases hx
    · refine ⟨_, _, _, (FloatFmt.decode_codeOf code).trans (FloatFmt.decode_finite sound _ fin), ?_, ?_, ?_⟩
      · have sig_lt : f.sigOf (bits code f.fb f.eb) (bits code 0 f.fb) < 2 ^ (f.fb + 1) := by
          have := fin.1
          rw [FloatFmt.sigOf, Nat.pow_succ]
          split <;> omega
        exact sig_lt.trans_le (Nat.pow_le_pow_right (by decide) (by omega))
      · rw [FloatFmt.unitOf]
        omega
      · exact ((FloatFmt.finite_iff sound fin.1).mp fin).trans top
  · have is8 : fmt = 8 ∧ w = 8 := by interval_cases fmt <;> simp_all [intWidth]
    obtain ⟨rfl, rfl⟩ := is8
    obtain ⟨lo, hi⟩ := signed_bounds (w := 8) (by decide) code
    norm_num at lo hi
    refine ⟨decide (signed 8 code < 0), (signed 8 code).natAbs, 0, ?_, by omega, by decide, ?_⟩
    · rw [decodeElem_of_intWidth hw, Val.dyadic, Val.units]
      simp only [Int.natAbs_eq_zero]
      split
      · next zero => simp [zero]
      · rfl
    · have le : ((signed 8 code).natAbs : Rat) ≤ 128 := by exact_mod_cast (show (signed 8 code).natAbs ≤ 128 by omega)
      refine le_trans (by simpa using le) ?_
      norm_num

end Sys2Proof.Machine
end

section
/-!
SUPPORT. The scale chosen for a row (R41), and the settling of O23.
-/
namespace Sys2Proof.Machine

/-! ## The order of magnitudes -/

/-- The fraction that a magnitude is, or is the root of. -/
noncomputable def Mag.radicand (m : Mag) : ℝ := m.parts.1 / m.parts.2.1 * 2 ^ m.parts.2.2
/-- Whether a magnitude is a root. -/
def Mag.isRoot : Mag → Bool
  | .rat _ _ _ => false
  | .root _ _ _ => true

/-- Magnitudes are compared by their fractions. -/
theorem Mag.lt_iff {a b : Mag} (ha : a.proper = true) (hb : b.proper = true) : a.lt b = true ↔ a.radicand < b.radicand := by
  obtain ⟨p, q, e, parts, q0⟩ : ∃ p q e, a.parts = (p, q, e) ∧ 0 < q := by
    cases a <;> exact ⟨_, _, _, rfl, by simp_all [Mag.proper]⟩
  obtain ⟨p', q', e', parts', q0'⟩ : ∃ p q e, b.parts = (p, q, e) ∧ 0 < q := by
    cases b <;> exact ⟨_, _, _, rfl, by simp_all [Mag.proper]⟩
  have lt : a.lt b = true ↔ p * q' * 2 ^ (e - min e e').toNat < p' * q * 2 ^ (e' - min e e').toNat := by
    simp only [Mag.lt, Mag.addSigned, parts, parts', if_true, Bool.false_eq_true, if_false]
    generalize p * q' * 2 ^ (e - min e e').toNat = x
    generalize p' * q * 2 ^ (e' - min e e').toNat = y
    split
    · next h =>
      split at h
      · cases h
      · cases h
        rw [decide_eq_true_eq]
        omega
    · next h =>
      refine iff_of_false Bool.false_ne_true (fun less => ?_)
      rw [if_neg (by omega)] at h
      exact h _ _ rfl
  have c0 : (0 : ℝ) < q * q' := by positivity
  obtain ⟨i, hi⟩ : ∃ i : Nat, e = min e e' + i := ⟨(e - min e e').toNat, by omega⟩
  obtain ⟨j, hj⟩ : ∃ j : Nat, e' = min e e' + j := ⟨(e' - min e e').toNat, by omega⟩
  rw [lt, Mag.radicand, Mag.radicand, parts, parts']
  dsimp only
  generalize min e e' = l at hi hj ⊢
  subst hi hj
  rw [add_sub_cancel_left, add_sub_cancel_left, Int.toNat_natCast, Int.toNat_natCast, two_zpow_add, two_zpow_add, zpow_natCast, zpow_natCast,
    mul_left_comm, mul_left_comm ((p' : ℝ) / q'), mul_lt_mul_iff_right₀ (two_zpow_pos l), div_mul_eq_mul_div, div_mul_eq_mul_div, div_lt_div_iff₀ (by positivity) (by positivity)]
  rw [mul_right_comm, mul_right_comm (p' : ℝ)]
  exact_mod_cast Iff.rfl

/-- Two fractions, and two roots, are ordered as their fractions. -/
theorem Mag.real_le {a b : Mag} (kind : a.isRoot = b.isRoot) (h : a.radicand ≤ b.radicand) : a.real ≤ b.real := by
  cases a <;> cases b
  · exact h
  · cases kind
  · cases kind
  · exact Real.sqrt_le_sqrt h

/-! ## The largest magnitude of a row -/

/-- The largest magnitude with one magnitude more before the others. -/
theorem maxMag_num_cons (neg : Bool) (a : Mag) (vs : List Val) : maxMag (.num neg a :: vs) = some ((maxMag vs).elim a (fun b => if a.lt b then b else a)) := by
  conv_lhs => unfold maxMag
  cases maxMag vs <;> rfl
theorem maxMag_other_cons {v : Val} (h : ∀ neg a, v ≠ .num neg a) (vs : List Val) : maxMag (v :: vs) = maxMag vs := by
  cases v with
  | num neg a => exact absurd rfl (h neg a)
  | nan => rfl
  | inf neg => rfl
  | zero neg => rfl

theorem maxMag_none {row : List Val} (h : maxMag row = none) (neg : Bool) (a : Mag) : .num neg a ∉ row := by
  induction row with
  | nil => exact List.not_mem_nil
  | cons v vs ih =>
    by_cases num : ∃ neg b, v = .num neg b
    · obtain ⟨neg', b, rfl⟩ := num
      rw [maxMag_num_cons] at h
      cases h
    · push Not at num
      rw [maxMag_other_cons num] at h
      rw [List.mem_cons, not_or]
      exact ⟨fun eq => num neg a eq.symm, ih h⟩

/-- `maxMag` is a magnitude of the row, and none there is greater (R41). -/
theorem maxMag_spec {row : List Val} (proper : ∀ v ∈ row, v.proper = true) {m : Mag} (h : maxMag row = some m) :
    (∃ neg, .num neg m ∈ row) ∧ ∀ neg a, .num neg a ∈ row → a.radicand ≤ m.radicand := by
  induction row generalizing m with
  | nil => cases h
  | cons v vs ih =>
    have tailProper : ∀ u ∈ vs, u.proper = true := fun u mem => proper u (List.mem_cons_of_mem _ mem)
    by_cases num : ∃ neg a, v = .num neg a
    · obtain ⟨neg', b, rfl⟩ := num
      have bProper : b.proper = true := proper _ List.mem_cons_self
      rw [maxMag_num_cons, Option.some.injEq] at h
      cases tail : maxMag vs with
      | none =>
        rw [tail, Option.elim_none] at h
        subst h
        refine ⟨⟨neg', List.mem_cons_self⟩, fun neg a mem => ?_⟩
        rcases List.mem_cons.mp mem with eq | mem
        · cases eq
          exact le_rfl
        · exact absurd mem (maxMag_none tail neg a)
      | some n =>
        obtain ⟨⟨negN, memN⟩, largest⟩ := ih tailProper tail
        have nProper : n.proper = true := tailProper _ memN
        rw [tail, Option.elim_some] at h
        have below : b.radicand ≤ m.radicand ∧ n.radicand ≤ m.radicand ∧ ∃ neg, .num neg m ∈ Val.num neg' b :: vs := by
          split at h
          · next less =>
            subst h
            exact ⟨((Mag.lt_iff bProper nProper).mp less).le, le_rfl, negN, List.mem_cons_of_mem _ memN⟩
          · next notLess =>
            subst h
            exact ⟨le_rfl, not_lt.mp (fun less => notLess ((Mag.lt_iff bProper nProper).mpr less)), neg', List.mem_cons_self⟩
        obtain ⟨headLe, tailLe, mem⟩ := below
        refine ⟨mem, fun neg a memA => ?_⟩
        rcases List.mem_cons.mp memA with eq | memA
        · cases eq
          exact headLe
        · exact (largest neg a memA).trans tailLe
    · push Not at num
      rw [maxMag_other_cons num] at h
      obtain ⟨⟨negM, memM⟩, largest⟩ := ih tailProper h
      refine ⟨⟨negM, List.mem_cons_of_mem _ memM⟩, fun neg a mem => ?_⟩
      rcases List.mem_cons.mp mem with eq | mem
      · exact absurd eq.symm (num neg a)
      · exact largest neg a mem

/-- In a row of results of one operation every magnitude is a fraction, or every one a root. -/
theorem row_kind {row : List Val} (proper : ∀ v ∈ row, v.proper = true)
    (kind : (∀ v ∈ row, v.toRat ≠ none) ∨ (∀ v ∈ row, v.toRat = none ∨ v.toRat = some 0)) :
    ∃ root, ∀ neg a, .num neg a ∈ row → a.isRoot = root := by
  rcases kind with rational | roots
  · refine ⟨false, fun neg a mem => ?_⟩
    cases a with
    | rat p q e => rfl
    | root p q e => exact absurd rfl (rational _ mem)
  · refine ⟨true, fun neg a mem => ?_⟩
    cases a with
    | root p q e => rfl
    | rat p q e =>
      have pq := proper _ mem
      simp only [Val.proper, Mag.proper, Bool.and_eq_true, decide_eq_true_eq] at pq
      obtain ⟨p0, q0⟩ := pq
      rcases roots _ mem with none | zero
      · cases none
      · rw [Val.toRat, Option.some.injEq] at zero
        refine absurd zero (mul_ne_zero ?_ (by positivity))
        split <;> norm_num
theorem le_maxMag {row : List Val} (proper : ∀ v ∈ row, v.proper = true)
    (kind : (∀ v ∈ row, v.toRat ≠ none) ∨ (∀ v ∈ row, v.toRat = none ∨ v.toRat = some 0)) {m : Mag} (h : maxMag row = some m) {neg : Bool} {a : Mag} (mem : .num neg a ∈ row) :
    a.real ≤ m.real := by
  obtain ⟨root, same⟩ := row_kind proper kind
  obtain ⟨⟨negM, memM⟩, largest⟩ := maxMag_spec proper h
  exact Mag.real_le ((same _ _ mem).trans (same _ _ memM).symm) (largest _ _ mem)

/-! ## The scale of a row -/

/-- The largest finite value of a format that may be scaled has the logarithm that R41 uses. -/
theorem scaleLimits_spec {fmt : Nat} {emax k : Int} {sig : Nat} (limits : scaleLimits fmt = (emax, sig, k)) :
    (2 : ℝ) ^ emax ≤ sig * 2 ^ k ∧ (sig : ℝ) * 2 ^ k < 2 ^ (emax + 1) := by
  cases hfmt : floatFmt fmt with
  | some f =>
    obtain ⟨lo, hi⟩ := (floatFmt_sound hfmt).maxSig_bounds
    simp only [scaleLimits, hfmt, Prod.mk.injEq] at limits
    obtain ⟨rfl, rfl, rfl⟩ := limits
    have split (j : Int) : (2 : ℝ) ^ (f.emax + j) = 2 ^ (f.fb + j) * 2 ^ (f.emax - f.fb) := by rw [← two_zpow_add]; congr 1; omega
    have lo' : (2 : ℝ) ^ ((f.fb : Int) + 0) ≤ f.maxSig := by rw [add_zero]; exact_mod_cast lo
    have hi' : (f.maxSig : ℝ) < 2 ^ ((f.fb : Int) + 1) := by exact_mod_cast hi
    rw [← add_zero f.emax, split 0, add_assoc, split (0 + 1), add_zero f.emax, zero_add]
    exact ⟨mul_le_mul_of_nonneg_right lo' (two_zpow_pos _).le, mul_lt_mul_of_pos_right hi' (two_zpow_pos _)⟩
  | none =>
    simp only [scaleLimits, hfmt, Prod.mk.injEq] at limits
    obtain ⟨rfl, rfl, rfl⟩ := limits
    norm_num

/-- The exponent that R41 chooses for a magnitude, before it is clamped. -/
def scaleExp (emax : Int) (sig : Nat) (k : Int) (m : Mag) : Int := if m.exceeds sig (k + (m.log2 - emax)) then m.log2 - emax + 1 else m.log2 - emax

/-- It is the least under which the magnitude does not exceed the largest finite value. -/
theorem scaleExp_spec {m : Mag} (hm : m.proper = true) {emax k : Int} {sig : Nat} (lo : (2 : ℝ) ^ emax ≤ sig * 2 ^ k) (hi : (sig : ℝ) * 2 ^ k < 2 ^ (emax + 1)) :
    m.exceeds sig (k + scaleExp emax sig k m) = false ∧ m.exceeds sig (k + scaleExp emax sig k m - 1) = true := by
  obtain ⟨above, below⟩ := Mag.log2_spec hm
  have scaledLo (j : Int) : (2 : ℝ) ^ (emax + j) ≤ sig * 2 ^ (k + j) := by
    rw [two_zpow_add, two_zpow_add, ← mul_assoc]
    exact mul_le_mul_of_nonneg_right lo (two_zpow_pos j).le
  have scaledHi (j : Int) : (sig : ℝ) * 2 ^ (k + j) < 2 ^ (emax + 1 + j) := by
    rw [two_zpow_add, two_zpow_add _ j, ← mul_assoc]
    exact mul_lt_mul_of_pos_right hi (two_zpow_pos j)
  rw [← Bool.not_eq_true, scaleExp]
  split
  · next exceeds =>
    rw [show k + (m.log2 - emax + 1) - 1 = k + (m.log2 - emax) by omega]
    refine ⟨?_, exceeds⟩
    rw [Mag.exceeds_iff hm, not_lt]
    have h := scaledLo (m.log2 - emax + 1)
    rw [show emax + (m.log2 - emax + 1) = m.log2 + 1 by omega] at h
    exact below.le.trans h
  · next fits =>
    refine ⟨fits, ?_⟩
    rw [Mag.exceeds_iff hm]
    have h := scaledHi (m.log2 - emax - 1)
    rw [show emax + 1 + (m.log2 - emax - 1) = m.log2 by omega, show k + (m.log2 - emax - 1) = k + (m.log2 - emax) - 1 by omega] at h
    exact h.trans_le above

theorem chooseScale_finite {fmt : Nat} {row : List Val} (proper : ∀ v ∈ row, v.proper = true) {m : Mag} (h : maxMag row = some m) {emax k : Int} {sig : Nat}
    (limits : scaleLimits fmt = (emax, sig, k)) : chooseScale fmt row = (max (-127) (min 127 (scaleExp emax sig k m)) + 127).toNat := by
  rw [chooseScale]
  split
  · next special =>
    rw [List.any_eq_true] at special
    obtain ⟨v, mem, special⟩ := special
    have isProper := proper v mem
    cases v with
    | nan => cases isProper
    | inf neg => cases isProper
    | zero neg => simp at special
    | num neg a => simp at special
  · rw [h]
    dsimp only
    rw [limits]
    rfl

/-! ## No element of the row overflows -/

/-- A magnitude not above the largest finite value does not overflow, however it is rounded. -/
theorem roundElem_inRange {fmt : Nat} (h : mayBeScaled fmt = true) {emax k : Int} {sig : Nat} (limits : scaleLimits fmt = (emax, sig, k)) {m : Mag} (hm : m.proper = true)
    (fits : m.real ≤ sig * 2 ^ k) (r : Rounding) (noise : Nat) (neg : Bool) : (roundElem fmt 0 r noise (.num neg m)).overflow = false := by
  obtain ⟨-, hi⟩ := scaleLimits_spec limits
  have log_lt := Mag.log2_lt hm (fits.trans_lt hi)
  have units0 (u : Int) : 0 ≤ m.real * 2 ^ (-u) := mul_nonneg (Mag.real_pos hm).le (two_zpow_pos _).le
  cases hfmt : floatFmt fmt with
  | some f =>
    have normal := (floatFmt_sound hfmt).normal
    simp only [scaleLimits, hfmt, Prod.mk.injEq] at limits
    obtain ⟨rfl, rfl, rfl⟩ := limits
    obtain ⟨above, -⟩ := roundElem_float fmt f r noise neg m hfmt hm
    rw [← Bool.not_eq_true, above, not_lt]
    obtain ⟨j, hj⟩ : ∃ j : Nat, f.emax - f.fb = max m.log2 (1 - f.bias) - f.fb + j := ⟨(f.emax - max m.log2 (1 - f.bias)).toNat, by omega⟩
    rw [hj] at fits ⊢
    generalize max m.log2 (1 - f.bias) - f.fb = u at fits ⊢
    have le : roundMag r.rnd noise m u ≤ f.maxSig * 2 ^ j := by
      rw [roundMag_eq hm]
      refine roundReal_le (units0 u) ?_
      rw [zpow_neg, ← div_eq_mul_inv, div_le_iff₀ (two_zpow_pos u)]
      refine fits.trans_eq ?_
      rw [two_zpow_add, zpow_natCast]
      push_cast
      ring
    calc (roundMag r.rnd noise m u : Rat) * 2 ^ u ≤ (f.maxSig * 2 ^ j : Nat) * 2 ^ u := mul_le_mul_of_nonneg_right (by exact_mod_cast le) (zpow_pos (by norm_num) u).le
      _ = f.maxSig * 2 ^ (u + j) := by
        rw [zpow_add₀ (by norm_num), zpow_natCast]
        push_cast
        ring
  | none =>
    have is8 : fmt = 8 := by
      by_contra other
      simp only [mayBeScaled, Bool.or_eq_true, beq_iff_eq] at h
      obtain rfl | rfl | rfl | rfl | rfl : fmt = 3 ∨ fmt = 4 ∨ fmt = 5 ∨ fmt = 6 ∨ fmt = 7 := by omega
      all_goals cases hfmt
    subst is8
    cases limits
    obtain ⟨-, above, -⟩ := roundElem_int 8 8 0 r noise neg m rfl
    rw [← Bool.not_eq_true, above, not_lt]
    have le : roundMag r.rnd noise m 0 ≤ 127 := by
      rw [roundMag_eq hm]
      refine roundReal_le (units0 0) ?_
      simpa using fits
    exact le

/-- The scale chosen for a row is the least that fits it, and where it is not clamped above no element of the row overflows (R41). -/
theorem chooseScale_spec (fmt : Nat) (row : List Val) (m : Mag) (h : mayBeScaled fmt = true) (proper : ∀ v ∈ row, v.proper = true)
    (kind : (∀ v ∈ row, v.toRat ≠ none) ∨ (∀ v ∈ row, v.toRat = none ∨ v.toRat = some 0)) (hm : maxMag row = some m) {emax k : Int} {sig : Nat}
    (limits : scaleLimits fmt = (emax, sig, k)) :
    let sc := chooseScale fmt row
    (∃ x : Int, sc = (max (-127) (min 127 x) + 127).toNat ∧ m.exceeds sig (k + x) = false ∧ m.exceeds sig (k + x - 1) = true) ∧
    (∀ (v : Val) (r : Rounding) (noise : Nat), v ∈ row → sc < 254 → (roundScaled fmt sc r noise v).overflow = false) := by
  intro sc
  obtain ⟨⟨negM, memM⟩, -⟩ := maxMag_spec proper hm
  have mProper : m.proper = true := proper _ memM
  obtain ⟨lo, hi⟩ := scaleLimits_spec limits
  obtain ⟨fits, least⟩ := scaleExp_spec mProper lo hi
  have code : sc = (max (-127) (min 127 (scaleExp emax sig k m)) + 127).toNat := chooseScale_finite proper hm limits
  generalize scaleExp emax sig k m = x at fits least code
  refine ⟨⟨x, code, fits, least⟩, fun v r noise mem low => ?_⟩
  have notNan : (sc == 0xFF) = false := by
    rw [beq_eq_false_iff_ne]
    omega
  rw [roundScaled, notNan, if_neg Bool.false_ne_true]
  have isProper := proper v mem
  cases v with
  | nan => cases isProper
  | inf neg => cases isProper
  | zero neg =>
    simp only [Val.scale, roundElem, roundFloat, roundInt, roundE8M0]
    split
    · rfl
    · split <;> rfl
  | num neg a =>
    have aProper : a.proper = true := isProper
    have scaledProper : (a.scale (127 - sc)).proper = true := by
      cases a <;> exact aProper
    refine roundElem_inRange h limits scaledProper ?_ r noise neg
    rw [← Bool.not_eq_true, Mag.exceeds_iff mProper, not_lt] at fits
    have up : (2 : ℝ) ^ (k + x) ≤ 2 ^ (k + ((sc : Int) - 127)) := zpow_le_zpow_right₀ (by norm_num) (by omega)
    rw [Mag.real_scale, show (127 : Int) - sc = -((sc : Int) - 127) by omega, zpow_neg, ← div_eq_mul_inv, div_le_iff₀ (two_zpow_pos _), mul_assoc, ← two_zpow_add]
    calc a.real ≤ m.real := le_maxMag proper kind hm mem
      _ ≤ sig * 2 ^ (k + x) := fits
      _ ≤ sig * 2 ^ (k + ((sc : Int) - 127)) := mul_le_mul_of_nonneg_left up (by positivity)

/-! ## The obligation -/

/-- Settles O23: a magnitude is read as a real number, of which `roundMag` takes one rounding in the unit of its binade; a significand so rounded is the code of its value,
and a value that is a whole number of units is not changed. -/
theorem conversionsRoundOnce : Obligations.ConversionsRoundOnce := by
  unfold Obligations.ConversionsRoundOnce
  refine ⟨?units, ?roots, ?logs, ?floats, ?ints, ?scales, ?same, ?fp32, ?row⟩
  case units => exact fun p q e k noise hp hq _ => roundMag_rat p q e k noise hp hq
  case roots => exact fun p q e k noise hp hq _ => roundMag_root p q e k noise hp hq
  case logs => exact Mag.log2_rat
  case floats => exact roundElem_float
  case ints => exact fun fmt w e r noise neg m h _ => roundElem_int fmt w e r noise neg m h
  case scales => exact fun r noise neg m => rfl
  case same => exact roundElem_decodeElem
  case fp32 => exact fun fmt code noise r x _ h hx => roundFp32_decodeElem fmt code noise r x h hx
  case row => exact fun fmt row m h proper kind hm => chooseScale_spec fmt row m h proper kind hm rfl

end Sys2Proof.Machine
end

section
/-!
SUPPORT. Exact accumulation: each pass of the window adder takes the products within reach of the heaviest one, so that a group ends
exactly and in time (R66), and the groups of a dot product add up to the sum over its pairs (R60, R65, R68).
-/
namespace Sys2Proof.Machine

/-! ## The window adder (R66) -/

/-- What a product is worth, in units of 2^−320. -/
def Piece.units (p : Piece) : Int := p.m * 2 ^ (p.q + 320).toNat

/-- A product that the window adder holds exactly: no bit of it lies below 2^−320, and it is at most 22 bits wide (R63). -/
def Piece.Fits (p : Piece) : Prop := -320 ≤ p.q ∧ p.w ≤ 22

/-- Some product has the top weight. -/
theorem exists_topWeight : ∀ {ps : List Piece}, ps ≠ [] → ∃ p ∈ ps, topWeight ps = p.q + p.w
  | [], h => absurd rfl h
  | [p], _ => ⟨p, List.mem_singleton_self p, rfl⟩
  | p :: p' :: ps, _ => by
    obtain ⟨x, hx, e⟩ := exists_topWeight (List.cons_ne_nil p' ps)
    rcases max_choice ((p.q + p.w : Int)) (topWeight (p' :: ps)) with h | h
    · exact ⟨p, List.mem_cons_self, h⟩
    · exact ⟨x, List.mem_cons_of_mem _ hx, h.trans e⟩

/-- The shift of a window is exact where no product in it lies below the window's base or below 2^−320. -/
theorem depositShift_window {base : Int} {ps : List Piece} (h : ∀ p ∈ ps, -320 ≤ p.q ∧ base ≤ p.q) :
    depositShift (ps.map (fun p => p.m * 2 ^ (p.q - base).toNat)).sum base = (ps.map Piece.units).sum := by
  unfold depositShift
  split
  · next hb =>
    rw [← List.sum_map_mul_right]
    refine congrArg List.sum (List.map_congr_left fun p hp => ?_)
    have hq := h p hp
    rw [Piece.units, mul_assoc, ← pow_add, show (p.q - base).toNat + (base + 320).toNat = (p.q + 320).toNat by omega]
  · next hb =>
    have shifted : (ps.map (fun p => p.m * 2 ^ (p.q - base).toNat)).sum = (ps.map Piece.units).sum * 2 ^ (-(base + 320)).toNat := by
      rw [← List.sum_map_mul_right]
      refine congrArg List.sum (List.map_congr_left fun p hp => ?_)
      have hq := h p hp
      rw [Piece.units, mul_assoc, ← pow_add, show (p.q + 320).toNat + (-(base + 320)).toNat = (p.q - base).toNat by omega]
    rw [shifted, Int.mul_fdiv_cancel _ (pow_ne_zero _ two_ne_zero)]

/-- A pass leaves fewer products than it found: the heaviest lies within the window. -/
theorem length_belowWindow_lt {ps : List Piece} (hne : ps ≠ []) (h : ∀ p ∈ ps, p.Fits) :
    (ps.filter (fun p => decide (p.q < topWeight ps - 90))).length < ps.length := by
  obtain ⟨p, hp, e⟩ := exists_topWeight hne
  have hw := (h p hp).2
  refine List.length_filter_lt_length_iff_exists.mpr ⟨p, hp, ?_⟩
  rw [decide_eq_true_eq]
  omega

/-- The loop adds every product exactly, in at most as many passes as there are products. -/
theorem depositLoop_spec (fuel : Nat) (ps : List Piece) (sum : Int) (passes : Nat) (hlen : ps.length ≤ fuel) (h : ∀ p ∈ ps, p.Fits) :
    (depositLoop fuel ps sum passes).1 = sum + (ps.map Piece.units).sum ∧ (depositLoop fuel ps sum passes).2 ≤ passes + ps.length := by
  induction fuel generalizing ps sum passes with
  | zero =>
    obtain rfl := List.length_eq_zero_iff.mp (Nat.le_zero.mp hlen)
    exact ⟨(add_zero sum).symm, le_rfl⟩
  | succ fuel ih =>
    cases ps with
    | nil => exact ⟨(add_zero sum).symm, le_rfl⟩
    | cons p ps =>
      have fewer := length_belowWindow_lt (List.cons_ne_nil p ps) h
      have window := depositShift_window (base := topWeight (p :: ps) - 90)
        (ps := (p :: ps).filter (fun x => decide (topWeight (p :: ps) - 90 ≤ x.q)))
        (fun x hx => ⟨(h x (List.mem_of_mem_filter hx)).1, of_decide_eq_true (List.mem_filter.mp hx).2⟩)
      have parts := List.sum_map_filter_add_sum_map_filter_not (fun x : Piece => topWeight (p :: ps) - 90 ≤ x.q) Piece.units (p :: ps)
      simp only [not_le] at parts
      obtain ⟨value, count⟩ := ih ((p :: ps).filter (fun x => decide (x.q < topWeight (p :: ps) - 90)))
        (sum + depositShift _ (topWeight (p :: ps) - 90)) (passes + 1) (by omega) (fun x hx => h x (List.mem_of_mem_filter hx))
      refine ⟨value.trans ?_, count.trans (by omega)⟩
      rw [window, add_assoc, parts]

/-- Products that are 0 are worth nothing. -/
theorem sum_units_nonzero (ps : List Piece) : ((ps.filter (fun p => p.m != 0)).map Piece.units).sum = (ps.map Piece.units).sum := by
  induction ps with
  | nil => rfl
  | cons p ps ih => by_cases hm : p.m = 0 <;> simp [hm, ih, Piece.units]

/-- A group of at most 32 products is deposited exactly, in 1 to 32 passes (R66). -/
theorem depositGroup_spec {ps : List Piece} (hlen : ps.length ≤ 32) (h : ∀ p ∈ ps, p.Fits) :
    (depositGroup ps).1 = (ps.map Piece.units).sum ∧ 1 ≤ (depositGroup ps).2 ∧ (depositGroup ps).2 ≤ 32 := by
  have shorter : (ps.filter (fun p => p.m != 0)).length ≤ ps.length := List.length_filter_le _ _
  obtain ⟨value, count⟩ := depositLoop_spec 32 (ps.filter (fun p => p.m != 0)) 0 0 (by omega) (fun p hp => h p (List.mem_of_mem_filter hp))
  refine ⟨value.trans ((zero_add _).trans (sum_units_nonzero ps)), le_max_right _ _, max_le ?_ (by norm_num)⟩
  omega

/-! ## Operands (R62, R63) -/

/-- An operand whose pieces pair within a group's limits: `n` pieces, none with a bit below 2^−160 nor wider than 11 bits. -/
def Operand.Shaped (n : Nat) (o : Operand) : Prop := o.pieces.length = n ∧ ∀ x ∈ o.pieces, -160 ≤ x.q ∧ x.w ≤ 11

/-- The product of two pieces of shaped operands fits the window adder. -/
theorem Piece.mul_fits {x y : Piece} (hx : -160 ≤ x.q ∧ x.w ≤ 11) (hy : -160 ≤ y.q ∧ y.w ≤ 11) : (x.mul y).Fits := by
  simp only [Piece.Fits, Piece.mul]
  omega

/-- No floating-point code has a bit below the last place of its format's subnormal numbers. -/
theorem le_floatSig_exponent (f : FloatFmt) (code : Nat) : 1 - (f.bias : Int) - f.fb ≤ (floatSig f code).2 := by
  simp only [floatSig]
  split
  · exact le_rfl
  · next h =>
    rw [beq_iff_eq] at h
    omega

/-- The formats of the matrix engine have no bit below 2^−160, and no significand wider than 11 bits apart from FP32's. -/
theorem floatFmt_limits : ∀ fmt ≤ 8, pieceWidth fmt ≤ 11 ∧ ∀ f ∈ floatFmt fmt, -160 ≤ 1 - (f.bias : Int) - f.fb := by decide

/-- Every code of an operand format decodes to the pieces of R62. -/
theorem decodeOperand_shaped {fmt : Nat} (hfmt : fmt ≤ 8) (code : Nat) : (decodeOperand fmt code).Shaped (piecesOf fmt) := by
  obtain ⟨width, low⟩ := floatFmt_limits fmt hfmt
  cases hf : floatFmt fmt with
  | none =>
    have notFP32 : fmt ≠ fmtFP32 := by rintro rfl; cases hf
    simp [decodeOperand, Operand.Shaped, piecesOf, hf, notFP32]
  | some f =>
    have hq := (low f hf).trans (le_floatSig_exponent f code)
    by_cases h32 : fmt = fmtFP32
    · subst h32
      simp only [decodeOperand, hf, Operand.Shaped, piecesOf, beq_self_eq_true, if_true, List.forall_mem_cons, List.length_cons, List.length_nil]
      exact ⟨trivial, by omega, by omega, by omega, List.forall_mem_nil _⟩
    · simp [decodeOperand, Operand.Shaped, piecesOf, hf, h32, hq, width]

/-! ## One group of pairs (R65, R66) -/

/-- What a pair of operands adds to the value, in units of 2^−320: a special product adds nothing. -/
def pairUnits (p : Operand × Operand) : Int :=
  if (specialProduct p.1.val p.2.val).isSome then 0 else (p.1.pieces.flatMap (fun x => p.2.pieces.map (fun y => (x.mul y).units))).sum

/-- The pairs of two lists, row by row, by their number. -/
theorem flatMap_map_eq_range {α β γ : Type} (f : α → β → γ) (a : α) (b : β) (as : List α) (bs : List β) :
    as.flatMap (fun x => bs.map (f x)) = (List.range (as.length * bs.length)).map (fun k => f (as.getD (k / bs.length) a) (bs.getD (k % bs.length) b)) := by
  induction as with
  | nil => simp
  | cons x as ih =>
    rw [List.flatMap_cons, ih, List.length_cons, Nat.succ_mul, Nat.add_comm, List.range_add, List.map_append, List.map_map]
    congr 1
    · refine List.ext_getElem (by simp) (fun k h1 h2 => ?_)
      have hk : k < bs.length := by simpa using h1
      simp [Nat.div_eq_of_lt hk, Nat.mod_eq_of_lt hk, hk]
    · refine List.map_congr_left (fun k hk => ?_)
      have pos : 0 < bs.length := Nat.pos_of_mul_pos_left (Nat.zero_lt_of_lt (List.mem_range.mp hk))
      simp [Nat.add_div_left _ pos, Nat.add_mod_left]

/-- Sums over two lists may be taken in either order. -/
theorem sum_map_sum_map {α β : Type} (as : List α) (bs : List β) (f : α → β → Int) :
    (as.map (fun a => (bs.map (f a)).sum)).sum = (bs.map (fun b => (as.map (fun a => f a b)).sum)).sum := by
  induction as with
  | nil => simp
  | cons a as ih => simp [ih, List.sum_map_add]

/-- The piece that a group takes of an operand, 0 past its pieces (R66). -/
def Operand.piece (o : Operand) (k : Nat) : Piece := o.pieces.getD k ⟨0, 0, 1⟩

theorem Operand.Shaped.piece {n : Nat} {o : Operand} (h : o.Shaped n) (k : Nat) : -160 ≤ (o.piece k).q ∧ (o.piece k).w ≤ 11 := by
  unfold Operand.piece
  by_cases hk : k < o.pieces.length
  · rw [List.getD_eq_getElem _ _ hk]; exact h.2 _ (List.getElem_mem hk)
  · rw [List.getD_eq_default _ _ (Nat.le_of_not_lt hk)]; decide

@[simp] theorem Acc.flag_value (a : Acc) (v : Val) : (a.flag v).value = a.value := by
  cases v with
  | inf n => cases n <;> rfl
  | _ => rfl

theorem foldl_flag_value (l : List Val) (a : Acc) : (l.foldl Acc.flag a).value = a.value := by
  induction l generalizing a with
  | nil => rfl
  | cons v l ih => exact (ih _).trans (Acc.flag_value a v)

/-- The products of one group: one piece of each first operand with one piece of each second (R66). -/
def groupProducts (nb : Nat) (ps : List (Operand × Operand)) (x : Nat) : List Piece :=
  ps.map (fun p => (p.1.piece (x / nb)).mul (p.2.piece (x % nb)))

/-- Deposits one group after the other. -/
def DotSum.depositGroups (nb : Nat) (ps : List (Operand × Operand)) (d : DotSum) (l : List Nat) : DotSum :=
  l.foldl (fun d x => { d with acc := d.acc.add (depositGroup (groupProducts nb ps x)).1, groups := d.groups + 1
                               passes := d.passes + (depositGroup (groupProducts nb ps x)).2 }) d

theorem DotSum.depositGroups_value (nb : Nat) (ps : List (Operand × Operand)) (l : List Nat) (d : DotSum) :
    (d.depositGroups nb ps l).acc.value = d.acc.value + BitVec.ofInt 648 (l.map (fun x => (depositGroup (groupProducts nb ps x)).1)).sum := by
  induction l generalizing d with
  | nil => simp [DotSum.depositGroups]
  | cons x l ih =>
    refine (ih _).trans ?_
    rw [List.map_cons, List.sum_cons, BitVec.ofInt_add, ← BitVec.add_assoc]
    rfl

/-- All groups of pairs of finite operands together are worth the sum over the pairs. -/
theorem sum_depositGroup {na nb : Nat} {ps : List (Operand × Operand)} (hlen : ps.length ≤ 32) (h : ∀ p ∈ ps, p.1.Shaped na ∧ p.2.Shaped nb) :
    ((List.range (na * nb)).map (fun x => (depositGroup (groupProducts nb ps x)).1)).sum
      = (ps.map (fun p => (p.1.pieces.flatMap (fun x => p.2.pieces.map (fun y => (x.mul y).units))).sum)).sum := by
  have exact (x : Nat) : (depositGroup (groupProducts nb ps x)).1
      = (ps.map (fun p => ((p.1.piece (x / nb)).mul (p.2.piece (x % nb))).units)).sum := by
    refine (depositGroup_spec (by simpa [groupProducts] using hlen) (fun y hy => ?_)).1.trans (by simp [groupProducts, List.map_map, Function.comp_def])
    obtain ⟨p, hp, rfl⟩ := List.mem_map.mp hy
    exact Piece.mul_fits ((h p hp).1.piece _) ((h p hp).2.piece _)
  simp only [exact]
  rw [sum_map_sum_map]
  refine congrArg List.sum (List.map_congr_left fun p hp => congrArg List.sum ?_)
  obtain ⟨⟨ha, -⟩, hb, -⟩ := h p hp
  rw [flatMap_map_eq_range _ ⟨0, 0, 1⟩ ⟨0, 0, 1⟩, ha, hb]
  rfl

/-- A special pair adds nothing, and a group of pairs leaves it out. -/
theorem sum_pairUnits (ps : List (Operand × Operand)) :
    ((ps.filter (fun p => (specialProduct p.1.val p.2.val).isNone)).map
      (fun p => (p.1.pieces.flatMap (fun x => p.2.pieces.map (fun y => (x.mul y).units))).sum)).sum = (ps.map pairUnits).sum := by
  induction ps with
  | nil => rfl
  | cons p ps ih => cases hs : specialProduct p.1.val p.2.val <;> simp [hs, ih, pairUnits]

/-- The value after a group of at most 32 pairs: the exact sum of its pairs has been added (R65, R66). -/
theorem DotSum.group_value {na nb : Nat} {ps : List (Operand × Operand)} (d : DotSum) (hlen : ps.length ≤ 32)
    (h : ∀ p ∈ ps, p.1.Shaped na ∧ p.2.Shaped nb) : (d.group na nb ps).acc.value = d.acc.value + BitVec.ofInt 648 (ps.map pairUnits).sum := by
  have finite := List.length_filter_le (fun p : Operand × Operand => (specialProduct p.1.val p.2.val).isNone) ps
  refine (DotSum.depositGroups_value nb _ (List.range (na * nb)) _).trans ?_
  rw [sum_depositGroup (by omega) (fun p hp => h p (List.mem_of_mem_filter hp)), sum_pairUnits, foldl_flag_value]

/-! ## The dot product (R60, R68) -/

/-- Groups of 32 pairs add the sum over all of them. -/
theorem DotSum.deposit_value {na nb : Nat} (n : Nat) (ps : List (Operand × Operand)) (d : DotSum) (hlen : ps.length ≤ 32 * n)
    (h : ∀ p ∈ ps, p.1.Shaped na ∧ p.2.Shaped nb) :
    (DotSum.deposit na nb n ps d).acc.value = d.acc.value + BitVec.ofInt 648 (ps.map pairUnits).sum := by
  induction n generalizing ps d with
  | zero =>
    obtain rfl := List.length_eq_zero_iff.mp (Nat.le_zero.mp hlen)
    simp [DotSum.deposit]
  | succ n ih =>
    have head := d.group_value (ps := ps.take 32) (List.length_take_le _ _) (fun p hp => h p (List.mem_of_mem_take hp))
    refine (ih (ps.drop 32) _ (by rw [List.length_drop]; omega) (fun p hp => h p (List.mem_of_mem_drop hp))).trans ?_
    rw [head, BitVec.add_assoc, ← BitVec.ofInt_add, ← List.sum_append, ← List.map_append, List.take_append_drop]

/-- A dot product adds the exact sum of its element products, modulo 2^648 (R60, R68). -/
theorem dotInto_value (acc : Acc) {fa fb : Nat} (a b : List Nat) (ha : fa ≤ 8) (hb : fb ≤ 8) :
    (dotInto acc fa fb a b).acc.value
      = acc.value + BitVec.ofInt 648 (((a.map (decodeOperand fa)).zip (b.map (decodeOperand fb))).map pairUnits).sum := by
  refine DotSum.deposit_value _ _ _ (by omega) (fun p hp => ?_)
  obtain ⟨hp1, hp2⟩ := List.of_mem_zip (a := p.1) (b := p.2) hp
  obtain ⟨x, -, hx⟩ := List.mem_map.mp hp1
  obtain ⟨y, -, hy⟩ := List.mem_map.mp hp2
  exact ⟨hx ▸ decodeOperand_shaped ha x, hy ▸ decodeOperand_shaped hb y⟩

/-- Settles O18: the heaviest product of a group lies in its window, so that each pass takes one at least and shifts nothing out
(`depositGroup_spec`); the groups of a dot product then add up to the sum over its pairs (`dotInto_value`). -/
theorem productsAreSummedExactly : Obligations.ProductsAreSummedExactly := by
  unfold Obligations.ProductsAreSummedExactly
  exact ⟨fun _ hlen h => depositGroup_spec hlen h, fun acc _ _ a b ha hb => dotInto_value acc a b ha hb⟩

end Sys2Proof.Machine
end

section
/-!
SUPPORT. The engines' shared operations: what waking a queue and releasing buffers leave of a core, and what writing a result leaves of the module (R98, R122, R134).
-/
namespace Sys2Proof.Machine

/-! ## The running stage -/

theorem State.withStage_of_some {s : State} {c : CoreId} {g : Stage} (h : (s.core c).stage = some g) (f : Core → Stage → State) :
    s.withStage c f = f (s.core c) g := by
  rw [State.withStage, h]

/-! ## A core -/

/-- Waking the threads that wait for a queue entry changes threads alone. -/
theorem Core.wakeQueue_eq (c : Core) : ∃ l, c.wakeQueue = { c with threads := l } := by
  unfold Core.wakeQueue
  generalize List.range 16 = ns
  induction ns generalizing c with
  | nil => exact ⟨c.threads, rfl⟩
  | cons n ns ih =>
    rw [List.foldl_cons]
    split
    · obtain ⟨l, hl⟩ := ih (c.setThread n { c.thread n with state := .ready })
      exact ⟨l, hl⟩
    · exact ih c

@[simp] theorem Core.wakeQueue_stage (c : Core) : c.wakeQueue.stage = c.stage := by obtain ⟨l, h⟩ := c.wakeQueue_eq; rw [h]
@[simp] theorem Core.wakeQueue_slateBad (c : Core) : c.wakeQueue.slateBad = c.slateBad := by obtain ⟨l, h⟩ := c.wakeQueue_eq; rw [h]
@[simp] theorem Core.wakeQueue_slateQ (c : Core) : c.wakeQueue.slateQ = c.slateQ := by obtain ⟨l, h⟩ := c.wakeQueue_eq; rw [h]
@[simp] theorem Core.wakeQueue_vecQ (c : Core) : c.wakeQueue.vecQ = c.vecQ := by obtain ⟨l, h⟩ := c.wakeQueue_eq; rw [h]
@[simp] theorem Core.wakeQueue_vecRun (c : Core) : c.wakeQueue.vecRun = c.vecRun := by obtain ⟨l, h⟩ := c.wakeQueue_eq; rw [h]
@[simp] theorem Core.wakeQueue_gathQ (c : Core) : c.wakeQueue.gathQ = c.gathQ := by obtain ⟨l, h⟩ := c.wakeQueue_eq; rw [h]
@[simp] theorem Core.wakeQueue_finQ (c : Core) : c.wakeQueue.finQ = c.finQ := by obtain ⟨l, h⟩ := c.wakeQueue_eq; rw [h]

/-- Releasing an operation's buffers changes stream descriptors alone. -/
theorem Core.releaseFed_eq (c : Core) (o : EngOp) : ∃ y, c.releaseFed o = { c with streams := y } := by
  unfold Core.releaseFed
  dsimp only
  split <;> split <;> exact ⟨_, rfl⟩

@[simp] theorem Core.releaseFed_slateRun (c : Core) (o : EngOp) : (c.releaseFed o).slateRun = c.slateRun := by obtain ⟨y, h⟩ := c.releaseFed_eq o; rw [h]
@[simp] theorem Core.releaseFed_vecRun (c : Core) (o : EngOp) : (c.releaseFed o).vecRun = c.vecRun := by obtain ⟨y, h⟩ := c.releaseFed_eq o; rw [h]
@[simp] theorem Core.releaseFed_finRun (c : Core) (o : EngOp) : (c.releaseFed o).finRun = c.finRun := by obtain ⟨y, h⟩ := c.releaseFed_eq o; rw [h]
@[simp] theorem Core.releaseFed_gathRun (c : Core) (o : EngOp) : (c.releaseFed o).gathRun = c.gathRun := by obtain ⟨y, h⟩ := c.releaseFed_eq o; rw [h]
@[simp] theorem Core.releaseFed_gathQ (c : Core) (o : EngOp) : (c.releaseFed o).gathQ = c.gathQ := by obtain ⟨y, h⟩ := c.releaseFed_eq o; rw [h]

/-- Of two writes at one key the later stays, where the earlier one has left an entry. -/
theorem Tab.set_set {V : Type} [DecidableEq V] {d v : V} (hv : v ≠ d) (t : Tab V) (k : Nat) (w : V) :
    Tab.set d (Tab.set d t k v) k w = Tab.set d t k w := by
  induction t with
  | nil => by_cases hw : w = d <;> simp [Tab.set, hv, hw]
  | cons e t ih =>
    obtain ⟨j, x⟩ := e
    rcases Nat.lt_trichotomy k j with h | h | h
    · have after : ¬ j ≤ k := by omega
      by_cases hw : w = d <;> simp [Tab.set, hv, hw, h, after]
    · subst h
      simp [Tab.set, hv]
    · simp [Tab.set, show ¬ k < j by omega, show k ≠ j by omega, ih]

/-- Of two writes of a core the later stays, where the earlier one has left a stage. -/
theorem State.setCore_setCore {s : State} {c : CoreId} {v : Core} {g : Stage} (hv : v.stage = some g) (w : Core) :
    (s.setCore c v).setCore c w = s.setCore c w := by
  have listed : v ≠ Core.init := by rintro rfl; cases hv
  simp only [State.setCore, Tab.set_set listed]

/-! ## Writes of a core store -/

/-- `u` differs from `s` in bytes of memory and in the poison of core store rows alone. -/
def StoreOnly (s u : State) : Prop := u = { s with mem := u.mem, rowPoison := u.rowPoison }

section
variable {s u : State}

theorem StoreOnly.refl (s : State) : StoreOnly s s := rfl

theorem StoreOnly.each {α : Type} {f : State → α → State} (h : StoreOnly s u) (l : List α) (hf : ∀ t a, StoreOnly s t → StoreOnly s (f t a)) :
    StoreOnly s (u.each l f) := State.each_induct (StoreOnly s) l f u h hf

theorem StoreOnly.setBytes (h : StoreOnly s u) (a : Nat) (l : List Byte) : StoreOnly s (u.setBytes a l) := by
  unfold StoreOnly at h ⊢
  rw [State.setBytes_eq, h]

theorem StoreOnly.setRowPoison (h : StoreOnly s u) (c off : Nat) (p : Bool) : StoreOnly s (u.setRowPoison c off p) := by
  unfold StoreOnly at h ⊢
  rw [State.setRowPoison, h]

theorem StoreOnly.storeWrite (h : StoreOnly s u) (c off : Nat) (data : List Byte) (p : Bool) : StoreOnly s (u.storeWrite c off data p) := by
  have bytes := h.setBytes (coreStoreKey (u.physCore c) off) data
  unfold State.storeWrite
  dsimp only
  split
  · exact bytes.setRowPoison c off true
  · split
    · exact bytes.setRowPoison c off false
    · exact bytes

theorem StoreOnly.storeWriteRange (h : StoreOnly s u) (c off : Nat) (data : List Byte) : StoreOnly s (u.storeWriteRange c off data) :=
  h.each _ (fun _ p ht => ht.storeWrite c p.1 _ false)

theorem StoreOnly.writeLx (h : StoreOnly s u) (c slot : Nat) (f : Nat → LxValue) : StoreOnly s (u.writeLx c slot f) :=
  h.storeWriteRange c _ _

theorem StoreOnly.writeTile (h : StoreOnly s u) (c : Nat) (t : Tile) (f : Nat → Nat → Option Nat) : StoreOnly s (u.writeTile c t f) := by
  refine h.each _ (fun v r hv => hv.each _ (fun w k hw => ?_))
  dsimp only
  split
  · exact hw
  · split
    · exact hw.storeWrite c _ _ false
    · exact hw.setBytes _ _

theorem StoreOnly.cores (h : StoreOnly s u) : u.cores = s.cores := by rw [h]
theorem StoreOnly.slate (h : StoreOnly s u) : u.slate = s.slate := by rw [h]

end

/-! ## What writing a result leaves -/

/-- `u` differs from `s` in what an engine writes its results to: bytes, the poison of rows, the core's records and its counters. -/
def ResultOnly (s u : State) : Prop := u = { s with mem := u.mem, rowPoison := u.rowPoison, cores := u.cores, regs := u.regs }

section
variable {s u : State}

theorem StoreOnly.result (h : StoreOnly s u) : ResultOnly s u := by
  unfold StoreOnly at h
  unfold ResultOnly
  rw [h]

theorem ResultOnly.slate (h : ResultOnly s u) : u.slate = s.slate := by rw [h]
theorem ResultOnly.clusters (h : ResultOnly s u) : u.clusters = s.clusters := by rw [h]

theorem ResultOnly.addStats (h : ResultOnly s u) (c : CoreId) (n : Nat) (d : TensorDesc) (x : Stats) : ResultOnly s (u.addStats c n d x) := by
  unfold State.addStats
  split
  · unfold ResultOnly at h ⊢
    dsimp only [State.setCore]
    rw [h]
  · exact h

theorem ResultOnly.countRange (h : ResultOnly s u) (c : CoreId) (n : Nat) : ResultOnly s (u.countRange c n) := by
  unfold State.countRange
  split
  · exact h
  · unfold ResultOnly at h ⊢
    dsimp only [State.bumpSat, State.setFld, State.setReg]
    rw [h]

end

/-- What a conversion has made is written as a result: the tile, its scale vector and the statistics (R44, R57). -/
theorem State.putConverted_resultOnly (s : State) (c : CoreId) (t : Tile) (k : Converted) : ResultOnly s (s.putConverted c t k) := by
  unfold State.putConverted
  dsimp only
  refine ResultOnly.addStats (StoreOnly.result ?_) c _ _ _
  split
  · exact (StoreOnly.refl s).writeTile _ _ _
  · exact ((StoreOnly.refl s).writeTile _ _ _).storeWriteRange _ _ _

theorem State.convertInto_resultOnly (s : State) (c : CoreId) (g : Stage) (o : EngOp) (e : EFields) (t : Tile) (given : Bool) (rows : List (List (Option Val))) :
    ResultOnly s (s.convertInto c g o e t given rows) := State.putConverted_resultOnly _ _ _ _

/-- So does a write of results into an LX tile (R74, R75). -/
theorem State.putLx_resultOnly (s : State) (c : CoreId) (t : Tile) (vals exact : List LxValue) (exits : Nat) (rest : Nat → LxValue) :
    ResultOnly s (s.putLx c t vals exact exits rest) :=
  (((StoreOnly.refl s).writeLx _ _ _).result.countRange c exits).addStats c _ _ _

/-- A finished vector operation writes results alone (R134, R135). -/
theorem vecResult_resultOnly (s : State) (c : CoreId) (g : Stage) (o : EngOp) : ResultOnly s (vecResult s c g o) := by
  unfold vecResult
  dsimp only
  split
  case h_5 e =>
    split
    · exact State.putLx_resultOnly _ _ _ _ _ _ _
    · split
      · exact State.putLx_resultOnly _ _ _ _ _ _ _
      · exact State.convertInto_resultOnly _ _ _ _ _ _ _ _
  case h_6 e =>
    split
    · exact State.putLx_resultOnly _ _ _ _ _ _ _
    · split
      · exact ((StoreOnly.refl s).writeTile _ _ _).result.addStats c _ _ _
      · exact State.convertInto_resultOnly _ _ _ _ _ _ _ _
  case h_7 e => exact (StoreOnly.refl s).result.addStats c _ _ _
  case h_8 => exact (StoreOnly.refl s).result
  all_goals exact State.convertInto_resultOnly _ _ _ _ _ _ _ _

end Sys2Proof.Machine
end

section
/-!
SUPPORT. The starts of the engines' operations (R72, R96, R98, R113).
-/
namespace Sys2Proof.Machine

/-! ## Slate rows without an error -/

theorem NatSet.erase_of_not_has {s : NatSet} {k : Nat} (h : NatSet.has s k = false) : NatSet.erase s k = s := by
  refine List.filter_eq_self.mpr (fun j hj => bne_iff_ne.mpr ?_)
  rintro rfl
  rw [NatSet.has, List.elem_iff.mpr hj] at h
  cases h

theorem NatSet.foldl_erase_of_not_has {s : NatSet} {ks : List Nat} (h : ∀ k ∈ ks, NatSet.has s k = false) : ks.foldl NatSet.erase s = s := by
  induction ks with
  | nil => rfl
  | cons k ks ih => rw [List.foldl_cons, NatSet.erase_of_not_has (h k List.mem_cons_self)]; exact ih (fun j hj => h j (List.mem_cons_of_mem _ hj))

/-- Writing rows that hold no error anew clears none. -/
theorem State.healSlate_clean {s : State} {c : CoreId} {rows : List Nat} (h : rows.find? (NatSet.has (s.core c).slateBad) = none) :
    s.healSlate c rows = s.setCore c (s.core c) := by
  have clean : ∀ k ∈ rows, NatSet.has (s.core c).slateBad k = false := fun k hk => Bool.eq_false_iff.mpr (List.find?_eq_none.mp h k hk)
  rw [State.healSlate, NatSet.foldl_erase_of_not_has clean]

/-- No row that an operation names holds an error, and so none that it reads. -/
theorem State.badSlate_clean {s : State} {c : CoreId} {o : Op} (h : o.slateRows.find? (NatSet.has (s.core c).slateBad) = none) :
    s.badSlate c o = none := by
  unfold State.badSlate
  dsimp only
  rw [h, ite_self]

/-! ## MMA_OCCUPANCY_START (R125) -/

section
variable {c : CoreId} {s s' : State} {g : Stage} {o : EngOp} {m : MFields} {rest : List EngOp} (stage : (s.core c).stage = some g)
  (front : (s.core c).mmaQ = o :: rest) (op : o.op = .mma m) (free : (s.core c).mmaAtInput = none) (clear : (s.core c).clear g o = true)
  (fed : (s.core c).fedReady o = true) (took : s' = s.setCore c (Core.wakeQueue { s.core c with mmaQ := rest }))
include stage front op free clear fed took

/-- An MMA against the format rules leaves its queue and faults. -/
theorem mmaOccupancyStart_format {w : Nat}
    (fault : mmaFault (o.srcA g) (o.srcB g) m (tileReg o.tA.toNat).stream.isSome (tileReg o.tB.toNat).stream.isSome = some w) :
    mmaOccupancyStart s c = s'.engFault c g o (.format w none) := by
  subst took
  simp [mmaOccupancyStart, State.withStage_of_some stage, front, op, free, clear, fed, fault]

/-- An MMA that meets them begins to take its operands. -/
theorem mmaOccupancyStart_runs
    (legal : mmaFault (o.srcA g) (o.srcB g) m (tileReg o.tA.toNat).stream.isSome (tileReg o.tB.toNat).stream.isSome = none)
    (slate : (Op.mma m).slateRows.find? (NatSet.has (s.core c).slateBad) = none) (transpose : (s.core c).transposeBad = false) :
    mmaOccupancyStart s c = mmaAdvance (s'.setCore c { (s'.core c) with mmaRun := (s'.core c).mmaRun ++
      [⟨o, (m.mrows.val + 1) / ((nExtent (o.srcB g) m.tb + 127) / 128), nExtent (o.srcB g) m.tb, m.kLen, 0, [], []⟩] }) c o.order := by
  have clean : (Op.mma m).slateRows.find? (NatSet.has (s'.core c).slateBad) = none := by simpa [took] using slate
  have staged : (s'.core c).stage = some g := by simpa [took] using stage
  have healed : (s'.healSlate c (Op.mma m).slateRows).core c = s'.core c := by rw [State.healSlate_clean clean, State.core_setCore_same]
  have settled (v : Core) : (s'.healSlate c (Op.mma m).slateRows).setCore c v = s'.setCore c v := by
    rw [State.healSlate_clean clean, State.setCore_setCore staged]
  have gate : ((s.core c).mmaAtInput.isNone && (s.core c).clear g o && (s.core c).fedReady o) = true := by simp [free, clear, fed]
  have start : mmaOccupancyStart s c = (let u := if m.accumulate then s' else s'.healSlate c (Op.mma m).slateRows
      mmaAdvance (u.setCore c { (u.core c) with mmaRun := (u.core c).mmaRun ++
        [⟨o, (m.mrows.val + 1) / ((nExtent (o.srcB g) m.tb + 127) / 128), nExtent (o.srcB g) m.tb, m.kLen, 0, [], []⟩] }) c o.order) := by
    rw [mmaOccupancyStart, State.withStage_of_some stage, front]
    dsimp only
    rw [op]
    dsimp only
    rw [if_pos gate, ← took, legal, State.badSlate_clean clean]
    dsimp only
    rw [if_neg (by simp [transpose])]
  rw [start]
  cases m.accumulate with
  | true => rfl
  | false =>
    simp only [Bool.false_eq_true, if_false, healed]
    rw [settled]

end

/-! ## SLATE_OP_START, VECTOR_OP_START, GATHER_OP_START (R98, R135, R147)

That the unit is free is rewritten in the fault and in the goal first: the state that the operation is judged in holds that field too. -/

section
variable {c : CoreId} {s s' : State} {g : Stage} {o : EngOp} {rest : List EngOp} (stage : (s.core c).stage = some g)
  (clear : (s.core c).clear g o = true) (fed : (s.core c).fedReady o = true)

section
variable (front : (s.core c).slateQ = o :: rest) (took : s' = s.setCore c (Core.wakeQueue { s.core c with slateQ := rest })) (free : (s.core c).slateRun = none)
include stage clear fed front took free

/-- The Slate unit's next operation leaves its queue: a faulty one raises its fault. -/
theorem slateOpStart_fault {f : EngFault} (fault : slateFault s' c g o = some f) : slateOpStart s c = s'.engFault c g o f := by
  subst took
  simp only [free] at fault ⊢
  simp [slateOpStart, State.withStage_of_some stage, front, free, clear, fed, fault]

theorem slateOpStart_runs (legal : slateFault s' c g o = none) : slateOpStart s c = s'.setCore c { (s'.core c) with slateRun := some o } := by
  subst took
  simp only [free] at legal ⊢
  simp [slateOpStart, State.withStage_of_some stage, front, free, clear, fed, legal]

end

section
variable (front : (s.core c).vecQ = o :: rest) (took : s' = s.setCore c (Core.wakeQueue { s.core c with vecQ := rest }))
include stage clear fed front took

/-- The vector engine's next operation leaves its queue: a faulty one raises its fault. -/
theorem vectorOpStart_fault {f : EngFault} (fault : vecFault s' c g o = some f) : vectorOpStart s c = s'.engFault c g o f := by
  subst took
  simp [vectorOpStart, State.withStage_of_some stage, front, clear, fed, fault]

theorem vectorOpStart_runs (legal : vecFault s' c g o = none) :
    vectorOpStart s c = s'.setCore c { (s'.core c) with vecRun := (s'.core c).vecRun ++ [o] } := by
  subst took
  simp [vectorOpStart, State.withStage_of_some stage, front, clear, fed, legal]

end

section
variable {e : EFields} (front : (s.core c).gathQ = o :: rest) (took : s' = s.setCore c (Core.wakeQueue { s.core c with gathQ := rest }))
  (op : o.op = .eng .gath e ∨ o.op = .eng .scat e) (free : (s.core c).gathRun = none)
include stage clear fed front took op free

/-- The gather engine's next operation leaves its queue: a faulty one raises its fault. -/
theorem gatherOpStart_fault {f : EngFault} (fault : gatherFault s' c g o e = some f) : gatherOpStart s c = s'.engFault c g o f := by
  subst took
  simp only [free] at fault ⊢
  rcases op with op | op <;> simp [gatherOpStart, State.withStage_of_some stage, front, free, clear, fed, op, fault]

/-- One that passes every check has its null rows written 0 and its sectors listed (R146, R148). -/
theorem gatherOpStart_runs (legal : gatherFault s' c g o e = none) :
    let z := s'.zeroNullRows c g o e
    gatherOpStart s c = z.setCore c ({ (z.core c) with gathRun := gatherLeft ⟨o, z.gatherSectors c g o e, []⟩ }.releaseFed o) := by
  subst took
  simp only [free] at legal ⊢
  rcases op with op | op <;> simp [gatherOpStart, State.withStage_of_some stage, front, free, clear, fed, op, legal]

end

end

/-! ## FIN_SERVE_START (R143) -/

section
variable {cl : ClusterId} {s s' : State} {k : Fin 8} {g : Stage} {o : EngOp} {e : EFields} (idle : (s.cluster cl.val).finRun = none)
  (first : s.firstFin cl = some (k, o)) (stage : (s.core (coreOf cl k)).stage = some g) (op : o.op = .eng .fin e)
  (clear : (s.core (coreOf cl k)).clear g o = true) (fed : (s.core (coreOf cl k)).fedReady o = true)
  (took : s' = s.setCore (coreOf cl k) (Core.wakeQueue { s.core (coreOf cl k) with finQ := (s.core (coreOf cl k)).finQ.drop 1 }))
include idle first stage op clear fed took

/-- The finishing unit takes the FIN that issued first: a faulty one raises its fault. -/
theorem finServeStart_fault {f : EngFault} (fault : finFault s' (coreOf cl k) g o e = some f) : finServeStart s cl = s'.engFault (coreOf cl k) g o f := by
  subst took
  rw [finServeStart, idle, first]
  simp only [List.drop_one] at fault ⊢
  simp [State.withStage_of_some stage, op, clear, fed, fault]

theorem finServeStart_runs (legal : finFault s' (coreOf cl k) g o e = none) :
    finServeStart s cl = (s'.setCore (coreOf cl k) { (s'.core (coreOf cl k)) with finRun := some o }).setCluster cl.val
      { s.cluster cl.val with finRun := some k } := by
  subst took
  rw [finServeStart, idle, first]
  simp only [List.drop_one] at legal ⊢
  simp [State.withStage_of_some stage, op, clear, fed, legal]

end

/-! ## What a start leaves -/

/-- The null rows of a GATH are written in the core store, and nothing else is (R146). -/
theorem State.zeroNullRows_storeOnly (s : State) (c : CoreId) (g : Stage) (o : EngOp) (e : EFields) : StoreOnly s (s.zeroNullRows c g o e) := by
  unfold State.zeroNullRows
  dsimp only
  split
  · exact StoreOnly.refl s
  · exact (StoreOnly.refl s).each _ (fun t _ ht => ht.each _ (fun v _ hv => hv.storeWrite _ _ _ _))

@[simp] theorem State.core_setCluster (s : State) (cl : Nat) (v : Cluster) (c : CoreId) : (s.setCluster cl v).core c = s.core c := rfl

/-! ## The obligation -/

/-- Settles O20: each unit's start is said by its `_fault` and `_runs` lemmas; apart from the null rows of a GATH nothing is written before the operation
ends (log 15). -/
theorem enginesStart : Obligations.EnginesStart := by
  unfold Obligations.EnginesStart
  refine ⟨?mma, ?slate, ?vector, ?fin, ?gather⟩
  case mma =>
    intro c s g o m rest s' stage front op free clear fed
    exact ⟨fun w fault => congrArg Host.Outcome.next (mmaOccupancyStart_format stage front op free clear fed rfl fault),
      fun legal slate transpose => congrArg Host.Outcome.next (mmaOccupancyStart_runs stage front op free clear fed rfl legal slate transpose)⟩
  case slate =>
    intro c s g o rest s' stage front free clear fed
    refine ⟨fun f fault => congrArg Host.Outcome.next (slateOpStart_fault stage clear fed front rfl free fault), fun legal => ?_⟩
    exact ⟨_, congrArg Host.Outcome.next (slateOpStart_runs stage clear fed front rfl free legal), by simp, by simp, rfl, rfl⟩
  case vector =>
    intro c s g o rest s' stage front clear fed
    refine ⟨fun f fault => congrArg Host.Outcome.next (vectorOpStart_fault stage clear fed front rfl fault), fun legal => ?_⟩
    exact ⟨_, congrArg Host.Outcome.next (vectorOpStart_runs stage clear fed front rfl legal), by simp, by simp, rfl, rfl⟩
  case fin =>
    intro cl s k g o e c s' idle first stage op clear fed
    refine ⟨fun f fault => congrArg Host.Outcome.next (finServeStart_fault idle first stage op clear fed rfl fault), fun legal => ?_⟩
    exact ⟨_, congrArg Host.Outcome.next (finServeStart_runs idle first stage op clear fed rfl legal), by simp [c], by simp, by simp [c], rfl, rfl⟩
  case gather =>
    intro c s g o e rest s' stage front op free clear fed
    refine ⟨fun f fault => congrArg Host.Outcome.next (gatherOpStart_fault stage clear fed front rfl op free fault), fun legal => ?_⟩
    have kept := s'.zeroNullRows_storeOnly c g o e
    have queue : ((s'.zeroNullRows c g o e).core c).gathQ = rest := by
      rw [State.core, kept.cores, ← State.core, State.core_setCore_same, Core.wakeQueue_gathQ]
    have run := gatherOpStart_runs stage clear fed front rfl op free legal
    exact ⟨_, congrArg Host.Outcome.next run, by rw [State.core_setCore_same, Core.releaseFed_gathRun],
      by rw [State.core_setCore_same, Core.releaseFed_gathQ, queue], rfl, kept.slate⟩

end Sys2Proof.Machine
end

section
/-!
SUPPORT. The Slate: one accumulator at a time, sweeps over several, and the deposits of a whole MMA (R68, R74, R118, R121).
-/
namespace Sys2Proof.Machine

/-! ## One accumulator -/

@[simp] theorem State.physCore_setAcc (s : State) (c n k : Nat) (a : Acc) : (s.setAcc c n a).physCore k = s.physCore k := rfl

theorem State.acc_setAcc (s : State) (c n m : Nat) (a : Acc) : (s.setAcc c n a).acc c m = if m = n then a else s.acc c m := by
  unfold State.acc
  rw [State.physCore_setAcc]
  split
  · next h => subst h; exact Tab.get_set_same _ _ _ _
  · next h => exact Tab.get_set_other _ _ _ _ (by omega)

/-- A write of a register other than a CORE_MAP leaves the physical core behind a logical one (R118). -/
theorem State.physCore_setFld {f : RegField} {i : Nat} (hf : f.reg.Stands i 0) (hne : f.reg ≠ .clusterCoreMap) (s : State) (c : CoreId) (v : Nat) :
    (s.setFld f i 0 v).physCore c = s.physCore c := by
  have stands : RegName.Stands .clusterCoreMap (clusterOfCore c) 0 :=
    RegName.stands (by have hc := c.isLt; change clusterOfCore c < 64; simp only [clusterOfCore]; omega) rfl (by decide)
  have kept := State.reg_setReg_stands (s := s) (putBits (s.reg f.reg i 0) f.lo f.width v) hf stands (by simp [hne.symm])
  simp only [State.physCore, State.physOf, State.setFld, kept]

theorem State.acc_setFld {f : RegField} {i : Nat} (hf : f.reg.Stands i 0) (hne : f.reg ≠ .clusterCoreMap) (s : State) (c : CoreId) (v n : Nat) :
    (s.setFld f i 0 v).acc c n = s.acc c n := by
  unfold State.acc
  rw [State.physCore_setFld hf hne, State.setFld_slate]

/-- A register that every core has stands in the block of each enabled core (R23). -/
theorem stands_coreInst {n : RegName} (c : CoreId) (hin : ∀ i, n.inInstance i = true := by intro i; rfl) (hb : n.block.instances = 576 := by rfl)
    (hc : 0 < n.desc.count := by decide) : n.Stands (coreInst c) 0 :=
  RegName.stands (by have h := c.isLt; simp only [hb, coreInst]; omega) (hin _) hc

/-! ## Sweeps -/

/-- A sweep whose steps each write one accumulator of its own: every accumulator that it names takes its step's value, made of what stood there, and the others are as they were.
`inv` holds along the sweep. -/
theorem State.acc_each {α : Type} {c : CoreId} {f : State → α → State} {key : α → Nat} {val : α → Acc → Acc} {inv : State → Prop}
    (keeps : ∀ t a, inv t → inv (f t a)) (step : ∀ t a n, inv t → (f t a).acc c n = if n = key a then val a (t.acc c n) else t.acc c n)
    {l : List α} (once : l.Pairwise (fun a b => key a ≠ key b)) {s : State} (start : inv s) :
    (∀ a ∈ l, (s.each l f).acc c (key a) = val a (s.acc c (key a))) ∧ (∀ n, (∀ a ∈ l, n ≠ key a) → (s.each l f).acc c n = s.acc c n) := by
  induction l generalizing s with
  | nil => exact ⟨fun _ ha => absurd ha List.not_mem_nil, fun _ _ => rfl⟩
  | cons a l ih =>
    obtain ⟨apart, once⟩ := List.pairwise_cons.mp once
    obtain ⟨named, others⟩ := ih once (keeps s a start)
    refine ⟨fun b hb => ?_, fun n hn => ?_⟩
    · rcases List.mem_cons.mp hb with rfl | hb
      · exact (others _ apart).trans (by rw [step _ _ _ start, if_pos rfl])
      · exact (named b hb).trans (by rw [step _ _ _ start, if_neg (apart b hb).symm])
    · exact (others n (fun b hb => hn b (List.mem_cons_of_mem _ hb))).trans (by rw [step _ _ _ start, if_neg (hn a List.mem_cons_self)])

/-! ## REST (R74) -/

/-- An LX tile reads the same where memory and the core's place are the same. -/
theorem State.lxAt_congr {s u : State} {c : Nat} (mem : u.mem = s.mem) (place : u.physCore c = s.physCore c) (slot p : Nat) :
    u.lxAt c slot p = s.lxAt c slot p := by
  simp only [State.lxAt, State.storeNum, State.storeByte, State.num, State.bytes, State.byte, mem, place]

@[simp] theorem State.acc_setCore (s : State) (c : CoreId) (v : Core) (k n : Nat) : (s.setCore c v).acc k n = s.acc k n := rfl
theorem State.acc_healSlate (s : State) (c : CoreId) (rows : List Nat) (k n : Nat) : (s.healSlate c rows).acc k n = s.acc k n := rfl

/-- A REST leaves in each accumulator of its row the LX value of its tile (R74). -/
theorem State.acc_restRow (s : State) (c : CoreId) (t : Tile) (row p : Nat) (hp : p < 128) :
    (s.restRow c t row).acc c (128 * row + p) = (s.lxAt c t.slot p).restore := by
  have sweep := State.acc_each (c := c) (f := fun u k => u.setAcc c (128 * row + k) (u.lxAt c t.slot k).restore) (key := fun k => 128 * row + k)
    (val := fun k _ => (s.lxAt c t.slot k).restore) (inv := fun u => u.mem = s.mem ∧ u.physCore c = s.physCore c) (l := List.range 128)
    (fun _ _ h => h) (fun u k n h => by rw [State.acc_setAcc, State.lxAt_congr h.1 h.2])
    (List.nodup_range.imp (fun h => by omega)) ⟨rfl, rfl⟩
  rw [State.restRow, State.acc_healSlate]
  exact sweep.1 p (List.mem_range.mpr hp)

theorem State.restRow_mem (s : State) (c : CoreId) (t : Tile) (row : Nat) : (s.restRow c t row).mem = s.mem := by
  rw [State.restRow, State.healSlate, State.setCore_mem]
  exact State.each_induct (fun u => u.mem = s.mem) _ _ _ rfl (fun _ _ h => h)

/-! ## The deposits of an MMA (R66, R68, R121) -/

/-- The accumulators of an MMA's outputs lie row by row, a whole number of Slate rows each. -/
theorem outAcc_eq (srow b i j : Nat) : outAcc srow b i j = 128 * srow + (128 * b * i + j) := by
  have hj := Nat.div_add_mod j 128
  unfold outAcc
  rw [Nat.mul_add, Nat.mul_add, Nat.mul_comm i b, ← Nat.mul_assoc]
  omega

/-- Each output has an accumulator of its own. -/
theorem outAcc_injective {srow b i j i' j' : Nat} (hj : j < 128 * b) (hj' : j' < 128 * b) (h : outAcc srow b i j = outAcc srow b i' j') : i = i' ∧ j = j' := by
  rw [outAcc_eq, outAcc_eq] at h
  have sums : j + 128 * b * i = j' + 128 * b * i' := by omega
  have pos : 0 < 128 * b := by omega
  have rows := congrArg (· / (128 * b)) sums
  have columns := congrArg (· % (128 * b)) sums
  simp only [Nat.add_mul_div_left _ _ pos, Nat.div_eq_of_lt hj, Nat.div_eq_of_lt hj', Nat.zero_add] at rows
  simp only [Nat.add_mul_mod_self_left, Nat.mod_eq_of_lt hj, Nat.mod_eq_of_lt hj'] at columns
  exact ⟨rows, columns⟩

/-- Every output lies in the Slate rows that its MMA names. -/
theorem outAcc_lt {srow b i j m rows : Nat} (hi : i < m) (hj : j < 128 * b) (hm : m * b ≤ rows) : outAcc srow b i j < 128 * srow + 128 * rows := by
  have hrow : b * i + b ≤ rows := by
    calc b * i + b = (i + 1) * b := by ring
      _ ≤ m * b := Nat.mul_le_mul_right b hi
      _ ≤ rows := hm
  rw [outAcc_eq, Nat.mul_assoc]
  omega

/-- The state that an MMA's deposits start from: INIT has cleared every accumulator of its rows (R68). -/
def State.cleared (s : State) (c : CoreId) (m : MFields) : State :=
  if m.accumulate then s else s.each (List.range (128 * (m.mrows.val + 1))) (fun s p => s.setAcc c (128 * m.srow.val + p) Acc.zero)

/-- One output element is deposited (R66, R69). -/
def State.depositOne (s : State) (c : CoreId) (m : MFields) (r : MmaRun) (fa fb x : Nat) : State :=
  let n := outAcc m.srow.val ((r.n + 127) / 128) (x / r.n) (x % r.n)
  let d := dotInto (s.acc c n) fa fb (r.aCodes.getD (x / r.n) []) (r.bCodes.getD (x % r.n) [])
  let s := ((s.setAcc c n d.acc).bump F.coreAccGroupsCount (coreInst c) 0 d.groups).bump F.coreAccPassesCount (coreInst c) 0 d.passes
  let s := if d.inf then s.setFld F.coreAccFlagsInfDeposit (coreInst c) 0 1 else s
  if d.nan then s.setFld F.coreAccFlagsNanDeposit (coreInst c) 0 1 else s

theorem State.depositAll_eq (s : State) (c : CoreId) (m : MFields) (r : MmaRun) (fa fb : Nat) :
    s.depositAll c m r fa fb = (s.cleared c m).each (List.range (r.m * r.n)) (fun s x => s.depositOne c m r fa fb x) := rfl

theorem State.acc_cleared (s : State) (c : CoreId) (m : MFields) {n : Nat} (hlo : 128 * m.srow.val ≤ n) (hhi : n < 128 * m.srow.val + 128 * (m.mrows.val + 1)) :
    (s.cleared c m).acc c n = if m.accumulate then s.acc c n else Acc.zero := by
  unfold State.cleared
  split
  · rfl
  · have sweep := State.acc_each (c := c) (f := fun u p => u.setAcc c (128 * m.srow.val + p) Acc.zero) (key := fun p => 128 * m.srow.val + p)
      (val := fun _ _ => Acc.zero) (inv := fun _ => True) (l := List.range (128 * (m.mrows.val + 1)))
      (fun _ _ _ => trivial) (fun u p k _ => State.acc_setAcc _ _ _ _ _) (List.nodup_range.imp (fun h => by omega)) (s := s) trivial
    have here := sweep.1 (n - 128 * m.srow.val) (List.mem_range.mpr (by omega))
    simpa only [Nat.add_sub_cancel' hlo] using here

/-- A deposit changes its own accumulator alone. -/
theorem State.acc_depositOne (s : State) (c : CoreId) (m : MFields) (r : MmaRun) (fa fb x n : Nat) :
    (s.depositOne c m r fa fb x).acc c n = if n = outAcc m.srow.val ((r.n + 127) / 128) (x / r.n) (x % r.n)
      then (dotInto (s.acc c n) fa fb (r.aCodes.getD (x / r.n) []) (r.bCodes.getD (x % r.n) [])).acc else s.acc c n := by
  have groups (u : State) (v : Nat) := State.acc_setFld (f := F.coreAccGroupsCount) (stands_coreInst c) (by decide) u c v n
  have passes (u : State) (v : Nat) := State.acc_setFld (f := F.coreAccPassesCount) (stands_coreInst c) (by decide) u c v n
  have infs (u : State) (v : Nat) := State.acc_setFld (f := F.coreAccFlagsInfDeposit) (stands_coreInst c) (by decide) u c v n
  have nans (u : State) (v : Nat) := State.acc_setFld (f := F.coreAccFlagsNanDeposit) (stands_coreInst c) (by decide) u c v n
  simp only [State.depositOne, apply_ite (fun u : State => u.acc c n), infs, nans, ite_self, State.bump, passes, groups, State.acc_setAcc]
  split
  · next h => rw [h]
  · rfl

/-- The accumulator of output (i, j) takes its old value, or 0 under INIT, plus the dot product of row i and column j (R66, R68, R121). -/
theorem State.acc_depositAll (s : State) (c : CoreId) (m : MFields) (r : MmaRun) (fa fb : Nat) (fits : r.m * ((r.n + 127) / 128) ≤ m.mrows.val + 1) {i j : Nat}
    (hi : i < r.m) (hj : j < r.n) :
    (s.depositAll c m r fa fb).acc c (outAcc m.srow.val ((r.n + 127) / 128) i j)
      = (dotInto (if m.accumulate then s.acc c (outAcc m.srow.val ((r.n + 127) / 128) i j) else Acc.zero) fa fb
          (r.aCodes.getD i []) (r.bCodes.getD j [])).acc := by
  have pos : 0 < r.n := by omega
  have wide {k : Nat} (h : k < r.n) : k < 128 * ((r.n + 127) / 128) := by omega
  have once : (List.range (r.m * r.n)).Pairwise (fun x y => outAcc m.srow.val ((r.n + 127) / 128) (x / r.n) (x % r.n)
      ≠ outAcc m.srow.val ((r.n + 127) / 128) (y / r.n) (y % r.n)) := by
    refine List.nodup_range.imp (fun {x y} hne e => hne ?_)
    obtain ⟨rows, columns⟩ := outAcc_injective (wide (Nat.mod_lt _ pos)) (wide (Nat.mod_lt _ pos)) e
    rw [← Nat.div_add_mod x r.n, ← Nat.div_add_mod y r.n, rows, columns]
  have sweep := State.acc_each (c := c) (f := fun u x => u.depositOne c m r fa fb x)
    (val := fun x old => (dotInto old fa fb (r.aCodes.getD (x / r.n) []) (r.bCodes.getD (x % r.n) [])).acc) (inv := fun _ => True)
    (fun _ _ _ => trivial) (fun u x n _ => u.acc_depositOne c m r fa fb x n) once (s := s.cleared c m) trivial
  have place : i * r.n + j < r.m * r.n := by
    calc i * r.n + j < i * r.n + r.n := Nat.add_lt_add_left hj _
      _ = (i + 1) * r.n := by ring
      _ ≤ r.m * r.n := Nat.mul_le_mul_right _ hi
  have row : (i * r.n + j) / r.n = i := by rw [Nat.mul_comm, Nat.mul_add_div pos, Nat.div_eq_of_lt hj, Nat.add_zero]
  have column : (i * r.n + j) % r.n = j := by rw [Nat.mul_comm, Nat.mul_add_mod, Nat.mod_eq_of_lt hj]
  have here := sweep.1 (i * r.n + j) (List.mem_range.mpr place)
  simp only [row, column] at here
  rw [State.depositAll_eq, here, State.acc_cleared _ _ _ (by rw [outAcc_eq]; omega) (outAcc_lt hi (wide hj) fits)]

theorem State.depositAll_mem (s : State) (c : CoreId) (m : MFields) (r : MmaRun) (fa fb : Nat) : (s.depositAll c m r fa fb).mem = s.mem := by
  refine State.each_induct (fun u => u.mem = s.mem) _ _ _ ?_ (fun u x hu => ?_)
  · split
    · rfl
    · exact State.each_induct (fun u => u.mem = s.mem) _ _ _ rfl (fun _ _ h => h)
  · dsimp only
    split <;> split <;> exact hu

end Sys2Proof.Machine
end

section
/-!
SUPPORT. The ends of the engines' operations (R66, R74, R76, R125, R134, R145): each writes its result, releases its buffers and frees its unit.
-/
namespace Sys2Proof.Machine

/-! ## MMA_LAST_DEPOSIT -/

/-- The oldest MMA whose operands have all been taken makes its deposits and leaves the engine. -/
theorem mmaLastDeposit_eq {s : State} {c : CoreId} {g : Stage} {r : MmaRun} {rest : List MmaRun} {m : MFields} (stage : (s.core c).stage = some g)
    (oldest : (s.core c).mmaRun = r :: rest) (op : r.eng.op = .mma m) (taken : r.k ≤ r.kDone) :
    mmaLastDeposit s c = (s.depositAll c m r (r.eng.srcA g).d.fmt (r.eng.srcB g).d.fmt).setCore c { s.core c with mmaRun := rest } := by
  simp [mmaLastDeposit, State.withStage_of_some stage, oldest, op, taken]

/-! ## SLATE_OP_COMPLETE -/

/-- SAVE writes its LX tile, whatever it counts beside it (R74, R83). -/
theorem State.saveRow_mem (s : State) (c : CoreId) (t : Tile) (row : Nat) :
    (s.saveRow c t row).mem = (s.writeLx c t.slot (fun p => (s.acc c (128 * row + p)).save)).mem := by
  unfold State.saveRow
  dsimp only
  split
  · rfl
  · rw [State.setFld_mem, State.bumpSat_mem]

theorem State.saveRow_slate (s : State) (c : CoreId) (t : Tile) (row : Nat) : (s.saveRow c t row).slate = s.slate := by
  have kept := ((StoreOnly.refl s).writeLx c t.slot (fun p => (s.acc c (128 * row + p)).save)).slate
  unfold State.saveRow
  dsimp only
  split
  · exact kept
  · rw [State.setFld_slate, State.bumpSat_slate, kept]

section
variable {s : State} {c : CoreId} {g : Stage} {o : EngOp} {e : EFields} (stage : (s.core c).stage = some g) (running : (s.core c).slateRun = some o)
include stage running

theorem slateOpComplete_save (op : o.op = .eng .save e) :
    let u := s.saveRow c (o.dst g) e.slateRow
    slateOpComplete s c = u.setCore c (({ (u.core c) with slateRun := none }).releaseFed o) := by
  simp [slateOpComplete, State.withStage_of_some stage, running, op]

theorem slateOpComplete_rest (op : o.op = .eng .rest e) :
    let u := s.restRow c (o.srcA g) e.slateRow
    slateOpComplete s c = u.setCore c (({ (u.core c) with slateRun := none }).releaseFed o) := by
  simp [slateOpComplete, State.withStage_of_some stage, running, op]

theorem slateOpComplete_rnd (op : o.op = .eng .rnd e) :
    let u := s.convertInto c g o e (o.dst g) false (s.rndRows c (o.dst g) (o.srcA g) (o.srcB g) e)
    slateOpComplete s c = u.setCore c (({ (u.core c) with slateRun := none }).releaseFed o) := by
  simp [slateOpComplete, State.withStage_of_some stage, running, op]

end

/-! ## VECTOR_OP_COMPLETE and FIN_COMPLETE -/

theorem vectorOpComplete_eq {s : State} {c : CoreId} {g : Stage} {o : EngOp} {rest : List EngOp} (stage : (s.core c).stage = some g)
    (oldest : (s.core c).vecRun = o :: rest) :
    vectorOpComplete s c = (vecResult s c g o).setCore c (({ ((vecResult s c g o).core c) with vecRun := rest }).releaseFed o) := by
  simp [vectorOpComplete, State.withStage_of_some stage, oldest]

theorem finComplete_eq {s : State} {cl : ClusterId} {k : Fin 8} {g : Stage} {o : EngOp} {e : EFields} (served : (s.cluster cl.val).finRun = some k)
    (stage : (s.core (coreOf cl k)).stage = some g) (running : (s.core (coreOf cl k)).finRun = some o) (op : o.op = .eng .fin e) :
    let s' := s.setCluster cl.val { s.cluster cl.val with finRun := none }
    let u := s'.convertInto (coreOf cl k) g o e (o.dst g) e.smode (s'.finRows (coreOf cl k) g o e)
    finComplete s cl = u.setCore (coreOf cl k) (({ (u.core (coreOf cl k)) with finRun := none }).releaseFed o) := by
  intro s' u
  have stage' : (s'.core (coreOf cl k)).stage = some g := stage
  have running' : (s'.core (coreOf cl k)).finRun = some o := running
  rw [finComplete, served]
  dsimp only
  rw [State.withStage_of_some stage', running']
  dsimp only
  rw [op]

/-- Settles O21: each completion is one result (`ResultOnly`) and a freed unit; the outputs of an MMA lie in accumulators of their own, so that each
deposit meets its old value (`State.acc_depositAll`). All deposits of an MMA land at its last, and results at completion (log 15). -/
theorem enginesFinish : Obligations.EnginesFinish := by
  unfold Obligations.EnginesFinish
  refine ⟨?mma, ?rest, ?save, ?rnd, ?vector, ?fin⟩
  case mma =>
    intro c s g r rest m stage oldest op taken
    have run := mmaLastDeposit_eq stage oldest op taken
    refine ⟨_, congrArg Host.Outcome.next run, State.setCore_slate _ _ _, by rw [State.core_setCore_same],
      (State.setCore_mem _ _ _).trans (State.depositAll_mem _ _ _ _ _ _), fun fits i j hi hj => ?_⟩
    exact (State.acc_setCore _ _ _ _ _).trans (s.acc_depositAll c m r _ _ fits hi hj)
  case rest =>
    intro c s g o e stage running op
    have run := slateOpComplete_rest stage running op
    exact ⟨_, congrArg Host.Outcome.next run, fun p hp => (State.acc_setCore _ _ _ _ _).trans (s.acc_restRow c (o.srcA g) e.slateRow p hp),
      by rw [State.core_setCore_same, Core.releaseFed_slateRun], (State.setCore_mem _ _ _).trans (State.restRow_mem _ _ _ _)⟩
  case save =>
    intro c s g o e stage running op
    have run := slateOpComplete_save stage running op
    exact ⟨_, congrArg Host.Outcome.next run, (State.setCore_mem _ _ _).trans (State.saveRow_mem _ _ _ _),
      by rw [State.core_setCore_same, Core.releaseFed_slateRun], (State.setCore_slate _ _ _).trans (State.saveRow_slate _ _ _ _)⟩
  case rnd =>
    intro c s g o e stage running op
    have run := slateOpComplete_rnd stage running op
    exact ⟨_, congrArg Host.Outcome.next run, State.setCore_mem _ _ _, by rw [State.core_setCore_same, Core.releaseFed_slateRun],
      (State.setCore_slate _ _ _).trans (State.convertInto_resultOnly _ _ _ _ _ _ _ _).slate⟩
  case vector =>
    intro c s g o rest stage oldest
    exact ⟨_, congrArg Host.Outcome.next (vectorOpComplete_eq stage oldest), State.setCore_mem _ _ _, by rw [State.core_setCore_same, Core.releaseFed_vecRun],
      (State.setCore_slate _ _ _).trans (vecResult_resultOnly s c g o).slate⟩
  case fin =>
    intro cl s k g o e c s' served stage running op
    have run := finComplete_eq served stage running op
    have kept := (s'.convertInto_resultOnly c g o e (o.dst g) e.smode (s'.finRows c g o e)).clusters
    refine ⟨_, congrArg Host.Outcome.next run, State.setCore_mem _ _ _, by rw [State.core_setCore_same, Core.releaseFed_finRun], ?_⟩
    rw [State.cluster, State.setCore_clusters, kept, ← State.cluster, State.cluster_setCluster_same]

end Sys2Proof.Machine
end

section
/-!
SUPPORT. Slots and bundles as bits: what a layout puts into a word is read back, so that decoding undoes encoding (R104 to R107).
-/
namespace Sys2Proof

theorem packFields_nil : packFields [] = 0 := rfl
theorem packFields_cons (p v : Nat) (fs : List (Nat × Nat)) : packFields ((p, v) :: fs) = v * 2 ^ p + packFields fs := by
  simp [packFields]

/-- A flag that stands in a field of width 1 is read back. -/
theorem bitOf_of_bits {x k : Nat} {b : Bool} (h : bits x k 1 = b.toNat) : bitOf x k = b := by
  rw [bitOf, show x / 2 ^ k % 2 = b.toNat from h]
  cases b <;> rfl

/-! ## The fields of each layout (R106) -/

section
variable {opc rd ra rb : Nat} (hopc : opc < 256) (hrd : rd < 32) (hra : ra < 32)
include hopc hrd hra

theorem rr_fields (hrb : rb < 32) :
    rr opc rd ra rb < 2 ^ 62 ∧ bits (rr opc rd ra rb) 54 8 = opc ∧ bits (rr opc rd ra rb) 49 5 = rd ∧ bits (rr opc rd ra rb) 44 5 = ra
      ∧ bits (rr opc rd ra rb) 39 5 = rb ∧ bits (rr opc rd ra rb) 0 39 = 0 := by
  simp only [rr, packFields_cons, packFields_nil, bits]
  omega

theorem ri_fields (imm : BitVec 32) :
    ri opc rd ra imm < 2 ^ 62 ∧ bits (ri opc rd ra imm) 54 8 = opc ∧ bits (ri opc rd ra imm) 49 5 = rd ∧ bits (ri opc rd ra imm) 44 5 = ra
      ∧ bits (ri opc rd ra imm) 12 32 = imm.toNat ∧ bits (ri opc rd ra imm) 0 12 = 0 := by
  simp only [ri, packFields_cons, packFields_nil, bits]
  omega

theorem br_fields (hrb : rb < 32) (off : BitVec 20) :
    br opc rd ra rb off < 2 ^ 62 ∧ bits (br opc rd ra rb off) 54 8 = opc ∧ bits (br opc rd ra rb off) 49 5 = rd ∧ bits (br opc rd ra rb off) 44 5 = ra
      ∧ bits (br opc rd ra rb off) 39 5 = rb ∧ bits (br opc rd ra rb off) 19 20 = off.toNat ∧ bits (br opc rd ra rb off) 0 19 = 0 := by
  simp only [br, packFields_cons, packFields_nil, bits]
  omega

end

theorem mLayout_fields (m : MFields) :
    mLayout m < 2 ^ 62 ∧ bits (mLayout m) 54 8 = 0x50 ∧ bits (mLayout m) 50 4 = m.tA ∧ bits (mLayout m) 46 4 = m.tB ∧ bits (mLayout m) 41 5 = m.srow
      ∧ bits (mLayout m) 36 5 = m.mrows ∧ bits (mLayout m) 35 1 = m.accumulate.toNat ∧ bits (mLayout m) 34 1 = m.ta.toNat
      ∧ bits (mLayout m) 33 1 = m.tb.toNat ∧ bits (mLayout m) 17 16 = m.kf.toNat ∧ bits (mLayout m) 0 17 = 0 := by
  have := m.accumulate.toNat_lt
  have := m.ta.toNat_lt
  have := m.tb.toNat_lt
  simp only [mLayout, packFields_cons, packFields_nil, bits]
  omega

theorem eLayout_fields {opc : Nat} (h : opc < 256) (e : EFields) :
    eLayout opc e < 2 ^ 62 ∧ bits (eLayout opc e) 54 8 = opc ∧ bits (eLayout opc e) 50 4 = e.tD ∧ bits (eLayout opc e) 46 4 = e.tA
      ∧ bits (eLayout opc e) 42 4 = e.tB ∧ bits (eLayout opc e) 37 5 = e.xa ∧ bits (eLayout opc e) 32 5 = e.xb ∧ bits (eLayout opc e) 30 2 = e.rnd.toNat
      ∧ bits (eLayout opc e) 29 1 = e.ovf.toNat ∧ bits (eLayout opc e) 17 12 = e.func.toNat ∧ bits (eLayout opc e) 0 17 = 0 := by
  have := e.ovf.toNat_lt
  simp only [eLayout, packFields_cons, packFields_nil, bits]
  omega

theorem sLayout_fields {opc : Nat} (h : opc < 256) (f : SFields) :
    sLayout opc f < 2 ^ 62 ∧ bits (sLayout opc f) 54 8 = opc ∧ bits (sLayout opc f) 48 6 = f.desc ∧ bits (sLayout opc f) 43 5 = f.rd
      ∧ bits (sLayout opc f) 38 5 = f.xa ∧ bits (sLayout opc f) 26 12 = f.func.toNat ∧ bits (sLayout opc f) 0 26 = 0 := by
  simp only [sLayout, packFields_cons, packFields_nil, bits]
  omega

/-- The word of a BELL (R106, R107). -/
def bellWord (group : BitVec 12) (xa : Fin 32) : Nat := packFields [(54, 0xA0), (42, group.toNat), (37, xa)]

theorem bellWord_fields (group : BitVec 12) (xa : Fin 32) :
    bellWord group xa < 2 ^ 62 ∧ bits (bellWord group xa) 54 8 = 0xA0 ∧ bits (bellWord group xa) 42 12 = group.toNat
      ∧ bits (bellWord group xa) 37 5 = xa ∧ bits (bellWord group xa) 0 37 = 0 := by
  simp only [bellWord, packFields_cons, packFields_nil, bits]
  omega

/-! ## Each layout decodes, and fits a slot (R105 to R107) -/

/-- A word of a slot that decodes to an operation. -/
def Spells (w : Nat) (o : Op) : Prop := w < 2 ^ 62 ∧ decodeSlot w = some o

theorem spells_alu (o : AluOp) (rd ra rb : Fin 32) : Spells (rr o.rrOpc rd ra rb) (.alu o rd ra rb) := by
  have op : o.rrOpc < 256 ∧ o.rrOpc ≤ 0x0E ∧ aluAt o.rrOpc = o := by cases o <;> decide
  obtain ⟨lt, w, d, a, b, low⟩ := rr_fields op.1 rd.isLt ra.isLt rb.isLt
  generalize rr _ _ _ _ = word at *
  exact ⟨lt, by simp [decodeSlot, w, op, regAt, d, a, b, low]⟩

theorem spells_aluImm {o : AluOp} {opc : Nat} (h : o.riOpc = some opc) (rd ra : Fin 32) (imm : BitVec 32) : Spells (ri opc rd ra imm) (.aluImm o rd ra imm) := by
  have op : opc < 256 ∧ ¬ opc ≤ 0x0E ∧ ¬ opc = 0x1F ∧ 0x10 ≤ opc ∧ opc ≤ 0x1E ∧ riAluAt opc = some o := by
    cases o <;> cases h <;> decide
  obtain ⟨lt, w, d, a, i, low⟩ := ri_fields op.1 rd.isLt ra.isLt imm
  generalize ri _ _ _ _ = word at *
  exact ⟨lt, by simp [decodeSlot, w, op, regAt, d, a, i, low]⟩

/-- The OPC of a load or a store names its size (R107). -/
theorem sizeOpc_eq {base n opc : Nat} (h : sizeOpc base n = some opc) : base ≤ opc ∧ opc ≤ base + 3 ∧ 2 ^ (opc - base) = n := by
  unfold sizeOpc at h
  split at h <;> cases h <;> simp

theorem spells_ld {n opc : Nat} (h : sizeOpc 0x20 n = some opc) (rd ra : Fin 32) (imm : BitVec 32) : Spells (ri opc rd ra imm) (.ld n rd ra imm) := by
  obtain ⟨lo, hi, size⟩ := sizeOpc_eq h
  obtain ⟨lt, w, d, a, i, low⟩ := ri_fields (opc := opc) (by omega) rd.isLt ra.isLt imm
  have later : ¬ opc ≤ 0x0E ∧ ¬ opc = 0x1F ∧ ¬ opc ≤ 0x1E ∧ opc ≤ 0x23 := by omega
  generalize ri _ _ _ _ = word at *
  exact ⟨lt, by simp [decodeSlot, w, later, lo, size, regAt, d, a, i, low]⟩

theorem spells_st {n opc : Nat} (h : sizeOpc 0x24 n = some opc) (rs ra : Fin 32) (imm : BitVec 32) : Spells (ri opc rs ra imm) (.st n rs ra imm) := by
  obtain ⟨lo, hi, size⟩ := sizeOpc_eq h
  obtain ⟨lt, w, d, a, i, low⟩ := ri_fields (opc := opc) (by omega) rs.isLt ra.isLt imm
  have later : ¬ opc ≤ 0x0E ∧ ¬ opc = 0x1F ∧ ¬ opc ≤ 0x1E ∧ ¬ opc ≤ 0x23 ∧ opc ≤ 0x27 := by omega
  generalize ri _ _ _ _ = word at *
  exact ⟨lt, by simp [decodeSlot, w, later, lo, size, regAt, d, a, i, low]⟩

/-- The layouts with an immediate whose OPC stands for one operation. -/
def riOp (rd ra : Fin 32) (imm : BitVec 32) : Nat → Option Op
  | 0x1F => if ra = 0 then some (.csrr rd imm) else none
  | 0x28 => some (.ldx 8 rd ra imm)
  | 0x29 => some (.stx 8 rd ra imm)
  | 0x2A => some (.ldx 4 rd ra imm)
  | 0x2B => some (.stx 4 rd ra imm)
  | 0x37 => some (.jalr rd ra imm)
  | 0x3A => if rd = 0 ∧ ra = 0 then some (.trap imm) else none
  | _ => none

theorem spells_ri {opc : Nat} {rd ra : Fin 32} {imm : BitVec 32} {o : Op} (h : riOp rd ra imm opc = some o) : Spells (ri opc rd ra imm) o := by
  have hopc : opc < 256 := by
    unfold riOp at h
    split at h
    case h_8 => cases h
    all_goals decide
  obtain ⟨lt, w, d, a, i, low⟩ := ri_fields hopc rd.isLt ra.isLt imm
  generalize ri _ _ _ _ = word at *
  refine ⟨lt, ?_⟩
  unfold riOp at h
  split at h <;> simp_all [decodeSlot, regAt]


theorem spells_branch (c : Cond) (ra rb : Fin 32) (off : BitVec 20) : Spells (br (0x30 + c.ctorIdx) 0 ra rb off) (.branch c ra rb off) := by
  have op : 0x30 + c.ctorIdx < 256 := by cases c <;> decide
  obtain ⟨lt, w, d, a, b, i, low⟩ := br_fields op (by decide : 0 < 32) ra.isLt rb.isLt off
  generalize br _ _ _ _ _ = word at *
  exact ⟨lt, by cases c <;> simp [decodeSlot, w, Cond.ctorIdx, condAt, regAt, d, a, b, i, low]⟩

theorem spells_jal (rd : Fin 32) (off : BitVec 20) : Spells (br 0x36 rd 0 0 off) (.jal rd off) := by
  obtain ⟨lt, w, d, -, -, i, low⟩ := br_fields (by decide : 0x36 < 256) rd.isLt (by decide : 0 < 32) (by decide : 0 < 32) off
  generalize br _ _ _ _ _ = word at *
  exact ⟨lt, by simp [decodeSlot, w, regAt, d, i, low]⟩

theorem tile_lt (t : Fin 16) : t.val < 32 := by omega

theorem spells_tset (td : Fin 16) (ra : Fin 32) : Spells (rr 0x40 td ra 0) (.tset td ra) := by
  obtain ⟨lt, w, d, a, -, low⟩ := rr_fields (by decide : 0x40 < 256) (tile_lt td) ra.isLt (by decide : 0 < 32)
  generalize rr _ _ _ _ = word at *
  exact ⟨lt, by simp [decodeSlot, w, regAt, d, a, low, Nat.mod_eq_of_lt (tile_lt td)]⟩

theorem spells_tget (rd : Fin 32) (ta : Fin 16) : Spells (rr 0x41 rd ta 0) (.tget rd ta) := by
  obtain ⟨lt, w, d, a, -, low⟩ := rr_fields (by decide : 0x41 < 256) rd.isLt (tile_lt ta) (by decide : 0 < 32)
  generalize rr _ _ _ _ = word at *
  exact ⟨lt, by simp [decodeSlot, w, regAt, d, a, low, Nat.mod_eq_of_lt (tile_lt ta)]⟩

theorem spells_tslot (td ta : Fin 16) (imm : BitVec 32) : Spells (ri 0x42 td ta imm) (.tslot td ta imm) := by
  obtain ⟨lt, w, d, a, i, low⟩ := ri_fields (by decide : 0x42 < 256) (tile_lt td) (tile_lt ta) imm
  generalize ri _ _ _ _ = word at *
  exact ⟨lt, by simp [decodeSlot, w, regAt, d, a, i, low, Nat.mod_eq_of_lt (tile_lt td), Nat.mod_eq_of_lt (tile_lt ta)]⟩

theorem spells_mma (m : MFields) : Spells (mLayout m) (.mma m) := by
  obtain ⟨lt, w, tA, tB, srow, mrows, acc, ta, tb, kf, low⟩ := mLayout_fields m
  generalize mLayout m = word at *
  exact ⟨lt, by simp [decodeSlot, w, regAt, tileAt, tA, tB, srow, mrows, bitOf_of_bits acc, bitOf_of_bits ta, bitOf_of_bits tb, kf, low]⟩

theorem spells_eng (k : EngKind) (e : EFields) : Spells (eLayout k.opc e) (.eng k e) := by
  have op : engAt k.opc = some k ∧ 0x60 ≤ k.opc ∧ k.opc < 256 ∧ ¬ (0x90 ≤ k.opc ∧ k.opc ≤ 0x93) ∧ k.opc ≠ 0xA0 := by cases k <;> decide
  generalize k.opc = opc at *
  obtain ⟨kind, lo, hi, stream, bell⟩ := op
  have later : ¬ opc ≤ 0x0E ∧ opc ≠ 0x1F ∧ ¬ opc ≤ 0x1E ∧ ¬ opc ≤ 0x23 ∧ ¬ opc ≤ 0x27 ∧ opc ≠ 0x28 ∧ opc ≠ 0x29 ∧ opc ≠ 0x2A ∧ opc ≠ 0x2B ∧ ¬ opc ≤ 0x35
      ∧ opc ≠ 0x36 ∧ opc ≠ 0x37 ∧ opc ≠ 0x38 ∧ opc ≠ 0x39 ∧ opc ≠ 0x3A ∧ opc ≠ 0x40 ∧ opc ≠ 0x41 ∧ opc ≠ 0x42 ∧ opc ≠ 0x50 := by omega
  obtain ⟨lt, w, tD, tA, tB, xa, xb, rnd, ovf, func, low⟩ := eLayout_fields hi e
  generalize eLayout opc e = word at *
  refine ⟨lt, ?_⟩
  simp [decodeSlot, w, later, stream, bell, kind, regAt, tileAt, tD, tA, tB, xa, xb, rnd, bitOf_of_bits ovf, func, low]

theorem spells_stream (k : StreamKind) (f : SFields) : Spells (sLayout (0x90 + k.ctorIdx) f) (.stream k f) := by
  obtain ⟨lt, w, desc, rd, xa, func, low⟩ := sLayout_fields (opc := 0x90 + k.ctorIdx) (by cases k <;> decide) f
  generalize sLayout _ f = word at *
  exact ⟨lt, by cases k <;> simp [decodeSlot, w, StreamKind.ctorIdx, streamAt, regAt, desc, rd, xa, func, low]⟩

theorem spells_bell (group : BitVec 12) (xa : Fin 32) : Spells (bellWord group xa) (.bell group xa) := by
  obtain ⟨lt, w, g, x, low⟩ := bellWord_fields group xa
  generalize bellWord _ _ = word at *
  exact ⟨lt, by simp [decodeSlot, w, regAt, g, x, low]⟩

/-- The word that encodes an operation spells it. -/
theorem spells_of_encodeSlot {o : Op} {w : Nat} (h : encodeSlot o = some w) : Spells w o := by
  cases o with
  | alu op rd ra rb => cases h; exact spells_alu op rd ra rb
  | aluImm op rd ra imm => obtain ⟨c, hc, rfl⟩ := Option.map_eq_some_iff.mp h; exact spells_aluImm hc rd ra imm
  | csrr rd imm => cases h; exact spells_ri (ra := 0) rfl
  | ld n rd ra imm => obtain ⟨c, hc, rfl⟩ := Option.map_eq_some_iff.mp h; exact spells_ld hc rd ra imm
  | st n rs ra imm => obtain ⟨c, hc, rfl⟩ := Option.map_eq_some_iff.mp h; exact spells_st hc rs ra imm
  | ldx n rd ra imm =>
    simp only [encodeSlot] at h
    split at h <;> rename_i hn
    · cases h; cases hn; exact spells_ri rfl
    · split at h <;> rename_i hn
      · cases h; cases hn; exact spells_ri rfl
      · cases h
  | stx n rs ra imm =>
    simp only [encodeSlot] at h
    split at h <;> rename_i hn
    · cases h; cases hn; exact spells_ri rfl
    · split at h <;> rename_i hn
      · cases h; cases hn; exact spells_ri rfl
      · cases h
  | branch c ra rb off => cases h; exact spells_branch c ra rb off
  | jal rd off => cases h; exact spells_jal rd off
  | jalr rd ra imm => cases h; exact spells_ri rfl
  | fence => cases h; exact ⟨by decide, by decide⟩
  | halt => cases h; exact ⟨by decide, by decide⟩
  | trap imm => cases h; exact spells_ri (rd := 0) (ra := 0) rfl
  | tset td ra => cases h; exact spells_tset td ra
  | tget rd ta => cases h; exact spells_tget rd ta
  | tslot td ta imm => cases h; exact spells_tslot td ta imm
  | li rd imm => cases h
  | tli td imm => cases h
  | mma m => cases h; exact spells_mma m
  | eng k e => cases h; exact spells_eng k e
  | stream k f => cases h; exact spells_stream k f
  | bell group xa => cases h; exact spells_bell group xa

/-! ## Bundles (R104, R105) -/

theorem formOf_cases (o : Op) : formOf o = 1 ∨ formOf o = 2 := by unfold formOf; split <;> simp

/-- The parts of a word that a form and two slots make up. -/
theorem bundle_parts {form x y : Nat} (hf : form < 16) (hx : x < 2 ^ 62) (hy : y < 2 ^ 62) :
    bits (form + x * 2 ^ 4 + y * 2 ^ 66) 0 4 = form ∧ bits (form + x * 2 ^ 4 + y * 2 ^ 66) 4 62 = x ∧ bits (form + x * 2 ^ 4 + y * 2 ^ 66) 66 62 = y := by
  simp only [bits]
  omega

theorem decodeBundle_encodeBundle {a b : Op} {x y : Nat} (ha : encodeSlot a = some x) (hb : encodeSlot b = some y) (ok : a.slotAOk = true) :
    decodeBundle (encodeBundle a b) = some (a, some b) := by
  obtain ⟨hx, da⟩ := spells_of_encodeSlot ha
  obtain ⟨hy, db⟩ := spells_of_encodeSlot hb
  have hf := formOf_cases b
  obtain ⟨form, low, high⟩ := bundle_parts (form := formOf b) (by omega) hx hy
  simp only [decodeBundle, encodeBundle, ha, hb, Option.getD_some, form, low, high, da, db, ok]
  simp [hf]

/-- The parts of the word of an LI or TLI bundle. -/
theorem encodeLi_parts {opc dst : Nat} (ho : opc < 256) (hd : dst < 32) (imm : Word) :
    bits (encodeLi opc dst imm) 0 4 = 3 ∧ bits (encodeLi opc dst imm) 4 8 = opc ∧ bits (encodeLi opc dst imm) 12 5 = dst
      ∧ bits (encodeLi opc dst imm) 17 47 = 0 ∧ bits (encodeLi opc dst imm) 64 64 = imm.toNat := by
  simp only [encodeLi, bits]
  omega

theorem decodeBundle_li (rd : Fin 32) (imm : Word) : decodeBundle (encodeLi 0x11 rd imm) = some (.li rd imm, none) := by
  obtain ⟨form, opc, dst, low, i⟩ := encodeLi_parts (by decide : 0x11 < 256) rd.isLt imm
  generalize encodeLi _ _ _ = word at *
  simp [decodeBundle, form, opc, dst, low, i]

theorem decodeBundle_tli (td : Fin 16) (imm : Word) : decodeBundle (encodeLi 0x43 td imm) = some (.tli td imm, none) := by
  obtain ⟨form, opc, dst, low, i⟩ := encodeLi_parts (by decide : 0x43 < 256) (tile_lt td) imm
  generalize encodeLi _ _ _ = word at *
  simp [decodeBundle, form, opc, dst, low, i]

/-- Settles O8: each layout decodes (`spells_of_encodeSlot`), and a bundle is its form and its two slots. -/
theorem encodingRoundTrip : Obligations.EncodingRoundTrip := by
  refine ⟨fun o w h => spells_of_encodeSlot h, fun a b ha hb ok => ?_, decodeBundle_li, decodeBundle_tli⟩
  obtain ⟨x, hx⟩ := Option.isSome_iff_exists.mp ha
  obtain ⟨y, hy⟩ := Option.isSome_iff_exists.mp hb
  exact decodeBundle_encodeBundle hx hy ok

/-- Settles O9: each word is evaluated. -/
theorem slotWordsDecode : Obligations.SlotWordsDecode := by
  refine ⟨?_, ?_, ?_, ?_, ?_, ?_, ?_, ?_, ?_, ?_⟩ <;> decide

end Sys2Proof
end

section
/-!
SUPPORT. The rows that a thread issues: which operation each brings, and what the ALU operations compute (R93, R107, R108).
-/
namespace Sys2Proof.Machine

/-- A row that a thread issues comes to issue with its own operation in its slot (R93). -/
theorem exec_slotRow {i : Instr} {b : Issue} {o : Op} (row : slotRow i = some (b, o)) (s : State) :
    exec i s = .next (issueBundle s b.at' (bundleOf b o)) := by
  unfold slotRow at row
  split at row <;> cases row <;> rfl

/-- Settles O10: the row comes to issue (`exec_slotRow`), and nothing holds its bundle back. -/
theorem bundleRowsIssueWhole : Obligations.BundleRowsIssueWhole := by
  intro i b o s g t row issues
  rw [exec_slotRow row, issueBundle_of_issues issues]

theorem wordOf_decide (p : Prop) [Decidable p] : wordOf (decide p) = if p then 1 else 0 := by
  by_cases h : p <;> simp [wordOf, h]

/-- An operation on two registers writes its result to rd (R107, R108). -/
theorem writesScalar_alu {i : Instr} {b : Issue} {op : AluOp} {rd ra rb : Fin 32} {v : Thread → Word} (row : slotRow i = some (b, .alu op rd ra rb))
    (value : ∀ t : Thread, aluEval op (t.rx ra) (t.rx rb) = v t) : WritesScalar i b rd (.alu op rd ra rb) (fun _ _ t => v t) :=
  writesScalar_of_acts (exec_slotRow row) (fun _ => rfl) (fun _ _ t _ _ _ => by simp only [effect, value t])

/-- An operation on a register and a sign-extended immediate writes its result to rd (R106, R107, R108). -/
theorem writesScalar_aluImm {i : Instr} {b : Issue} {op : AluOp} {rd ra : Fin 32} {imm : BitVec 32} {v : Thread → Word}
    (row : slotRow i = some (b, .aluImm op rd ra imm)) (value : ∀ t : Thread, aluEval op (t.rx ra) (imm.signExtend 64) = v t) :
    WritesScalar i b rd (.aluImm op rd ra imm) (fun _ _ t => v t) :=
  writesScalar_of_acts (exec_slotRow row) (fun _ => rfl) (fun _ _ t _ _ _ => by simp only [effect, sext32, value t])

/-- Settles O11: each row writes its result to rd; the three comparisons answer 1 or 0. -/
theorem aluResults : Obligations.AluResults := by
  refine ⟨⟨?add, ?sub, ?and, ?or, ?xor, ?shl, ?shr, ?sra, ?mul, ?mulhu, ?min, ?max, ?slt, ?sltu, ?seq⟩,
    ?addi, ?andi, ?ori, ?xori, ?shli, ?shri, ?srai, ?slti, ?sltiu, ?seqi⟩
  case slt | sltu | seq => exact fun _ _ _ _ => writesScalar_alu rfl (fun _ => wordOf_decide _)
  case slti | sltiu | seqi => exact fun _ _ _ _ => writesScalar_aluImm rfl (fun _ => wordOf_decide _)
  case add | sub | and | or | xor | shl | shr | sra | mul | mulhu | min | max => exact fun _ _ _ _ => writesScalar_alu rfl (fun _ => rfl)
  case addi | andi | ori | xori | shli | shri | srai => exact fun _ _ _ _ => writesScalar_aluImm rfl (fun _ => rfl)

end Sys2Proof.Machine
end

section
/-!
SUPPORT. Counterexamples at the end of the instruction store: the last bundle, and a thread that has run past it (R109).
-/
namespace Sys2Proof.Machine

/-- A slot of core 0's thread 0 beside a no-op. -/
def lastSlot (slotB : Bool) : Issue := ⟨⟨0, 0⟩, slotB, .nop⟩

/-! ## A branch that is not taken, and an LDX -/

theorem lastState_issues_bne : Issues lastState (lastSlot true).at' (bundleOf (lastSlot true) (.branch .ne 0 0 0)) fullStage lastThread := by
  constructor <;> decide +kernel
theorem lastState_issues_ldx : Issues lastState (lastSlot false).at' (bundleOf (lastSlot false) (.ldx 8 1 0 0x40000000)) fullStage lastThread := by
  constructor <;> decide +kernel

/-- BNE x0, x0 at the last bundle leaves its thread past the end of the instruction store. -/
theorem lastState_bne_pastEnd {u : State} (h : exec (.bne (lastSlot true) 0 0 0) lastState = .next u) : (u.threadAt (lastSlot true).at').pastEnd = true := by
  have hu : u = issue (lastSlot true) (.branch .ne 0 0 0) lastState := by injection h with h; exact h.symm
  subst hu
  decide +kernel
/-- So does LDX64 x1, [x0 + 0x40000000]. -/
theorem lastState_ldx_pastEnd {u : State} (h : exec (.ldx64 (lastSlot false) 1 0 0x40000000) lastState = .next u) :
    (u.threadAt (lastSlot false).at').pastEnd = true := by
  have hu : u = issue (lastSlot false) (.ldx 8 1 0 0x40000000) lastState := by injection h with h; exact h.symm
  subst hu
  decide +kernel

/-- Refutes O14: a branch that is not taken is said to leave `pastEnd` false (`Thread.goesTo`); at the last bundle of the instruction store the
thread runs past the end (R109). -/
theorem not_controlFlowResults : ¬ Obligations.ControlFlowResults := by
  rintro ⟨⟨_, bne, _⟩, _⟩
  obtain ⟨u, hu, hthread, _⟩ := bne (lastSlot true) 0 0 0 rfl lastState fullStage lastThread lastState_issues_bne
  have hpast := lastState_bne_pastEnd hu
  rw [hthread] at hpast
  exact absurd hpast (by decide)

/-- Refutes O15: an LDX is said to leave `pastEnd` false, and at the last bundle of the instruction store it does not (R109). -/
theorem not_accessesAndFencesComplete : ¬ Obligations.AccessesAndFencesComplete := by
  rintro ⟨⟨ldx, _⟩, _⟩
  obtain ⟨u, hu, hthread, _⟩ := ldx (lastSlot false) 1 0 0x40000000 lastState fullStage lastThread rfl lastState_issues_ldx
  have hpast := lastState_ldx_pastEnd hu
  rw [hthread] at hpast
  exact absurd hpast (by decide)

/-! ## An engine operation -/

/-- A stage that reaches the end of the instruction store, with tensor descriptor 0 (binary32, unscaled). -/
def saveStage : Stage := { fullStage with tdesc := [(0, 0x40)] }
/-- The module whose core 0 runs it; thread 0 stands at the last bundle and has slot 0 and row 0 of the Slate. -/
def saveState : State :=
  { State.reset with cores := [(0, { Core.init with stage := some saveStage, threads := [(0, lastThread)], owner := [(0, 0x10)], slateMap := [(0, 0x80)] })] }
/-- SAVE of Slate row 0 to the tile of t0. -/
def saveFields : EFields := ⟨0, 0, 0, 0, 0, 0, false, 0⟩

theorem saveState_issues : Issues saveState (lastSlot true).at' (bundleOf (lastSlot true) (.eng .save saveFields)) saveStage lastThread := by
  constructor <;> decide +kernel
theorem saveState_pastEnd {u : State} (h : exec (.save (lastSlot true) saveFields) saveState = .next u) : (u.threadAt (lastSlot true).at').pastEnd = true := by
  have hu : u = issue (lastSlot true) (.eng .save saveFields) saveState := by injection h with h; exact h.symm
  subst hu
  decide +kernel

/-- Refutes O17: an engine operation is said to leave `pastEnd` false, and a SAVE at the last bundle of the instruction store does not (R109). -/
theorem not_engineRowsEnqueue : ¬ Obligations.EngineRowsEnqueue := by
  intro h
  obtain ⟨u, hu, _, hthread, _⟩ := h (.save (lastSlot true) saveFields) (lastSlot true) (.eng .save saveFields) saveState saveStage lastThread rfl rfl rfl saveState_issues
  have hpast := saveState_pastEnd hu
  rw [hthread] at hpast
  exact absurd hpast (by decide)

/-! ## A fetch past the end -/

/-- A stage whose program range starts at the second bundle and reaches the end of the instruction store. -/
def upperStage : Stage := { fullStage with progLo := 16 }
/-- The module whose thread 0 of core 0 has run past the end of the instruction store, so that its 20-bit PC is 0 again. -/
def pastState : State :=
  { State.reset with cores := [(0, { Core.init with stage := some upperStage, threads := [(0, { Thread.init with state := .ready, pc := 0, pastEnd := true })] })] }

theorem pastState_fetches : pastState.fetches 0 0 = true ∧ pcOk upperStage (pastState.threadAt ⟨0, 0⟩).pc.toNat = false
    ∧ pastState.fld F.coreFaultInfoValid 0 = 0 := by decide +kernel
/-- The fault's detail is the offset behind the store, 2^20. -/
theorem pastState_faultAddr {u : State} (h : exec (.fetchPastRange ⟨0, 0⟩ false) pastState = .next u) : u.reg .coreFaultAddr 0 = 2 ^ 20 := by
  have hu : u = fetchPastRange pastState 0 0 false := by injection h with h; exact h.symm
  subst hu
  decide +kernel

/-- Refutes O16: the detail of a FETCH fault is said to be the PC's 20 bits; of a thread that has run past the end of the instruction store the
model reports 2^20 (`Thread.at'`). -/
theorem not_issueFaults : ¬ Obligations.IssueFaults := by
  rintro ⟨_, _, past, _⟩
  obtain ⟨fetches, range, valid⟩ := pastState_fetches
  obtain ⟨u, hu, fault⟩ := past ⟨0, 0⟩ pastState upperStage fetches rfl range
  have record := (fault.record valid).2
  exact absurd ((pastState_faultAddr hu).symm.trans record) (by decide)

end Sys2Proof.Machine
end

section
/-!
SUPPORT. Thread faults: what `State.raise` makes of a state is what `TakesFault` says (R113 to R115).
-/
namespace Sys2Proof.Machine

/-- A counter that stops at all ones reads its old value and the increment, cut there. -/
theorem State.fld_bumpSat_same {f : RegField} (h : f.inside = true) (s : State) (i j n : Nat) :
    (s.bumpSat f i j n).fld f i j = min (s.fld f i j + n) (2 ^ f.width - 1) := by
  rw [State.bumpSat, State.fld_setFld_same h]
  exact Nat.mod_eq_of_lt (Nat.lt_of_le_of_lt (Nat.min_le_right _ _) (Nat.sub_lt (Nat.two_pow_pos _) Nat.one_pos))

/-! ## The fault record (R115) -/

section
variable (s : State) (c : CoreId) (f : ThreadFault)

/-- A fault record changes registers and nothing else. -/
theorem State.recordFault_fields : s.recordFault c f = { s with regs := (s.recordFault c f).regs } := by
  unfold State.recordFault
  dsimp only
  split <;> rfl

/-- While VALID is 0, the record is written. -/
theorem State.recordFault_valid (valid : s.fld F.coreFaultInfoValid (coreInst c) = 0) (code : f.code < 256) :
    (s.recordFault c f).reg .coreFaultInfo (coreInst c)
        = f.code % 256 + f.thread.val * 2 ^ 8 + bit f.slotB * 2 ^ 12 + bit f.engine * 2 ^ 13 + 2 ^ 15 + f.pc.toNat * 2 ^ 16
      ∧ (s.recordFault c f).reg .coreFaultAddr (coreInst c) = f.detail % 2 ^ 64 := by
  have bits (b : Bool) : bit b ≤ 1 := by cases b <;> decide
  have hb := bits f.slotB
  have he := bits f.engine
  have fits : f.code + f.thread.val * 2 ^ 8 + bit f.slotB * 2 ^ 12 + bit f.engine * 2 ^ 13 + 2 ^ 15 + f.pc.toNat * 2 ^ 16 < 2 ^ 64 := by omega
  have info : RegName.Stands .coreFaultInfo (coreInst c) 0 := stands_coreInst c
  have addr : RegName.Stands .coreFaultAddr (coreInst c) 0 := stands_coreInst c
  simp only [State.recordFault, valid, BEq.rfl, if_true]
  rw [State.reg_setReg_stands _ addr info (by simp), State.reg_setReg_same, State.reg_setReg_same]
  exact ⟨(Nat.mod_eq_of_lt fits).trans (by rw [Nat.mod_eq_of_lt code]), Nat.mod_mod _ _⟩

/-- While VALID is 1, MORE is set, the count rises, and the record stays. -/
theorem State.recordFault_more (valid : s.fld F.coreFaultInfoValid (coreInst c) ≠ 0) :
    (s.recordFault c f).reg .coreFaultAddr (coreInst c) = s.reg .coreFaultAddr (coreInst c) ∧ (s.recordFault c f).fld F.coreFaultInfoMore (coreInst c) = 1
      ∧ (s.recordFault c f).fld F.coreFaultCountCount (coreInst c) = min (s.fld F.coreFaultCountCount (coreInst c) + 1) (2 ^ 32 - 1) := by
  have info : RegName.Stands .coreFaultInfo (coreInst c) 0 := stands_coreInst c
  have addr : RegName.Stands .coreFaultAddr (coreInst c) 0 := stands_coreInst c
  have count : RegName.Stands .coreFaultCount (coreInst c) 0 := stands_coreInst c
  have written : s.recordFault c f = (s.setFld F.coreFaultInfoMore (coreInst c) 0 1).bumpSat F.coreFaultCountCount (coreInst c) 0 1 := by
    simp [State.recordFault, valid]
  rw [written]
  refine ⟨?_, ?_, ?_⟩
  · have kept : RegsKept (fun m _ _ => m = .coreFaultAddr) s ((s.setFld F.coreFaultInfoMore (coreInst c) 0 1).bumpSat F.coreFaultCountCount (coreInst c) 0 1) :=
      ((RegsKept.refl _ s).setFld (f := F.coreFaultInfoMore) _ info (by simp)).setFld (f := F.coreFaultCountCount) _ count (by simp)
    exact kept _ _ _ addr rfl
  · exact (State.fld_setFld_stands (f := F.coreFaultCountCount) (g := F.coreFaultInfoMore) _ _ count info (by simp)).trans (State.fld_setFld_same (by decide) _ _ _ _)
  · rw [State.fld_bumpSat_same (by decide), State.fld_setFld_stands (f := F.coreFaultInfoMore) (g := F.coreFaultCountCount) _ _ info count (by simp)]

end

/-! ## The fault (R114) -/

/-- The core after a fault: the thread FAULTED at its bundle, and its later operations that have not started gone. -/
def Core.faulted (co : Core) (seq : Nat) (f : ThreadFault) : Core :=
  { (co.setThread f.thread { co.thread f.thread with state := .faulted, pc := f.pc, waitOn := none, waitBell := none }) with
    mmaQ := keepAfterFault f.thread seq co.mmaQ
    slateQ := keepAfterFault f.thread seq co.slateQ
    vecQ := keepAfterFault f.thread seq co.vecQ
    gathQ := keepAfterFault f.thread seq co.gathQ
    finQ := keepAfterFault f.thread seq co.finQ
    streamQ := keepAfterFault f.thread seq co.streamQ }

/-- The report to the home Tutor of the lesson that runs, where one does. -/
def State.faultReport (s : State) (c : CoreId) (f : ThreadFault) : List PartMsg :=
  match (s.cluster (clusterOfCore c)).run with
  | none => []
  | some l => [.fault l ⟨stackOfCore c, clusterOfCore c % 16, logicalCore c, f.thread.val, f.code, f.pc.toNat, f.detail % 2 ^ 64⟩]

theorem State.raise_eq (s : State) (c : CoreId) (seq : Nat) (f : ThreadFault) : s.raise c seq f =
    { s.setCore c ((s.core c).faulted seq f) with
      regs := ((s.setCore c ((s.core c).faulted seq f)).recordFault c f).regs, partMsgs := s.partMsgs ++ s.faultReport c f } := by
  have run : ((s.setCore c ((s.core c).faulted seq f)).recordFault c f).lessonOn (clusterOfCore c) = (s.cluster (clusterOfCore c)).run := by
    rw [State.recordFault_fields]; rfl
  have unfolded : s.raise c seq f = (let u := (s.setCore c ((s.core c).faulted seq f)).recordFault c f
      match u.lessonOn (clusterOfCore c) with
      | none => u
      | some l => { u with partMsgs := u.partMsgs ++
          [.fault l ⟨stackOfCore c, clusterOfCore c % 16, logicalCore c, f.thread.val, f.code, f.pc.toNat, f.detail % 2 ^ 64⟩] }) := rfl
  rw [unfolded]
  simp only [run, State.faultReport]
  rw [State.recordFault_fields]
  cases (s.cluster (clusterOfCore c)).run with
  | none => simp only [List.append_nil]; rfl
  | some l => rfl

/-- A fault whose code is one of R113 is taken (R113 to R115). -/
theorem State.raise_takesFault (s : State) (c : CoreId) (seq : Nat) (f : ThreadFault) (code : f.code < 256) : TakesFault s (s.raise c seq f) c seq f := by
  let s1 := s.setCore c ((s.core c).faulted seq f)
  have core : (s.raise c seq f).core c = (s.core c).faulted seq f := by rw [State.raise_eq]; exact State.core_setCore_same _ _ _
  have reg (n : RegName) : (s.raise c seq f).reg n (coreInst c) = (s1.recordFault c f).reg n (coreInst c) := by rw [State.raise_eq]; rfl
  have fld (g : RegField) : (s.raise c seq f).fld g (coreInst c) = (s1.recordFault c f).fld g (coreInst c) := by rw [State.fld, reg, State.fld]
  refine ⟨?thread, ?mma, ?slateQ, ?fin, ?vec, ?gath, ?rel, fun h => ?record, fun h => ?more, ?report, ?others⟩
  case thread => rw [core]; exact Core.thread_setThread_same _ _ _
  case mma | slateQ | fin | vec | gath | rel => rw [core]; rfl
  case record => rw [reg, reg]; exact s1.recordFault_valid c f h code
  case more => rw [reg, fld, fld]; exact s1.recordFault_more c f h
  case report => rw [State.raise_eq]; rfl
  case others =>
    constructor
    case threads => exact fun m hm => by rw [core]; exact Core.thread_setThread_other _ _ _ _ (fun e => hm (Fin.ext e))
    case cores => exact fun d hd => by rw [State.raise_eq]; exact State.core_setCore_other _ _ _ _ hd
    all_goals rw [State.raise_eq]; rfl

/-! ## Faults beside a log entry -/

theorem Logs.core {s u : State} (h : Logs s u) (c : CoreId) : u.core c = s.core c := by rw [State.core, h.cores, State.core]

/-- A fault that is taken beside an entry in the error log is taken (R423, R441). -/
theorem TakesFault.of_logError {s u : State} {c : CoreId} {seq : Nat} {f : ThreadFault} {b : Block} {inst cls code d0 d1 : Nat} (hc : cls < 4)
    (h : TakesFault (s.logError b inst cls code d0 d1) u c seq f) : TakesFault s u c seq f := by
  have logs := s.logError_logs b inst cls code d0 d1
  have kept : RegsKept (fun m _ _ => m.logged = false ∧ m ≠ .proctorErrlogClass) s (s.logError b inst cls code d0 d1) :=
    ((RegsKept.refl _ s).setFld (f := F.proctorErrlogClassCount) _ (stands_errlogClass hc) (by simp)).trans (logs.regsKept.mono (fun _ _ _ k => k.1))
  generalize s.logError b inst cls code d0 d1 = v at *
  have core (d : CoreId) : v.core d = s.core d := logs.core d
  have valid : v.fld F.coreFaultInfoValid (coreInst c) = s.fld F.coreFaultInfoValid (coreInst c) := kept.fld (stands_coreInst c) ⟨rfl, by decide⟩
  have addr : v.reg .coreFaultAddr (coreInst c) = s.reg .coreFaultAddr (coreInst c) := kept _ _ _ (stands_coreInst c) ⟨rfl, by decide⟩
  have count : v.fld F.coreFaultCountCount (coreInst c) = s.fld F.coreFaultCountCount (coreInst c) := kept.fld (stands_coreInst c) ⟨rfl, by decide⟩
  have cluster : v.cluster (clusterOfCore c) = s.cluster (clusterOfCore c) := by rw [logs.fields]; rfl
  have msgs : v.partMsgs = s.partMsgs := by rw [logs.fields]; rfl
  obtain ⟨thread, mma, slateQ, fin, vec, gath, rel, record, more, report, others⟩ := h
  obtain ⟨threads, cores, mem, hostMem, slate, poison, rowPoison⟩ := others
  rw [core] at thread mma slateQ fin vec gath rel
  rw [valid] at record more
  rw [addr, count] at more
  rw [cluster, msgs] at report
  refine ⟨thread, mma, slateQ, fin, vec, gath, rel, record, more, report, ?_⟩
  constructor
  case threads => exact fun m hm => (threads m hm).trans (by rw [core])
  case cores => exact fun d hd => (cores d hd).trans (core d)
  case mem => exact mem.trans (by rw [logs.fields]; rfl)
  case hostMem => exact hostMem.trans (by rw [logs.fields]; rfl)
  case slate => exact slate.trans (by rw [logs.fields]; rfl)
  case poison => exact poison.trans (by rw [logs.fields]; rfl)
  case rowPoison => exact rowPoison.trans (by rw [logs.fields]; rfl)

/-- Settles O19: each fault of an engine is raised (`State.raise_takesFault`), one of the Slate or of a table beside an entry in the error log. -/
theorem engineFaultsWriteNothing : Obligations.EngineFaultsWriteNothing := by
  intro s c g o
  have code (x detail : Nat) (hx : x < 256) (u : State) := u.raise_takesFault c o.seq ⟨o.thread, o.pc, o.slotB, true, x, detail⟩ hx
  refine ⟨fun w => ?format, fun r => ?poison, fun a => ?address, fun r => ?memory, fun k => ?table⟩
  case format => exact code 0x03 _ (by decide) s
  case poison => exact code 0x08 _ (by decide) s
  case address => exact code 0x04 _ (by decide) s
  case memory => exact (code 0x09 _ (by decide) _).of_logError (by decide)
  case table => exact (code 0x08 _ (by decide) _).of_logError (by decide)

end Sys2Proof.Machine
end

section
/-!
SUPPORT. Repairs between lessons: the spare core, the store test and the instruction store word (R85, R118, R436, R437).
-/
namespace Sys2Proof.Machine

/-! ## An entry in the error log -/

section
variable (s : State) (b : Block) (inst cls code d0 d1 : Nat)

/-- The fields of State that an entry in the error log leaves alone. -/
theorem State.logError_fields : s.logError b inst cls code d0 d1 = { s with
    regs := (s.logError b inst cls code d0 d1).regs, hports := (s.logError b inst cls code d0 d1).hports
    outbox := (s.logError b inst cls code d0 d1).outbox
    proctor := { s.proctor with
      recent := (s.logError b inst cls code d0 d1).proctor.recent, eventsToSend := (s.logError b inst cls code d0 d1).proctor.eventsToSend } } :=
  (s.logError_logs b inst cls code d0 d1).fields

/-- The registers that an entry in the error log leaves alone. -/
theorem State.logError_keeps (hc : cls < 4) :
    RegsKept (fun m _ _ => m.logged = false ∧ m ≠ .proctorErrlogClass) s (s.logError b inst cls code d0 d1) :=
  ((RegsKept.refl _ s).setFld (f := F.proctorErrlogClassCount) _ (stands_errlogClass hc) (by simp)).trans
    ((s.logError_logs b inst cls code d0 d1).regsKept.mono (fun _ _ _ k => k.1))

theorem State.logError_mem : (s.logError b inst cls code d0 d1).mem = s.mem := by rw [State.logError_fields]
theorem State.logError_slate : (s.logError b inst cls code d0 d1).slate = s.slate := by rw [State.logError_fields]
theorem State.logError_core (c : CoreId) : (s.logError b inst cls code d0 d1).core c = s.core c := by rw [State.logError_fields]; rfl
theorem State.logError_cluster (k : Nat) : (s.logError b inst cls code d0 d1).cluster k = s.cluster k := by rw [State.logError_fields]; rfl
theorem State.logError_tutor (k : Nat) : (s.logError b inst cls code d0 d1).tutor k = s.tutor k := by rw [State.logError_fields]; rfl

end

/-! ## The registers of a cluster -/

theorem stands_cluster {n : RegName} (cl : ClusterId) (hin : ∀ k : Fin 64, n.inInstance k = true := by decide)
    (hb : n.block.instances = 64 := by rfl) (hc : 0 < n.desc.count := by decide) : n.Stands cl 0 :=
  RegName.stands (by rw [hb]; exact cl.isLt) (hin cl) hc

/-- The physical core behind a logical one is read from one register. -/
theorem RegsKept.physOf {p : RegName → Nat → Nat → Prop} {s u : State} (h : RegsKept p s u) (cl : ClusterId) (hp : p .clusterCoreMap cl 0) (k : Nat) :
    u.physOf cl k = s.physOf cl k := by
  rw [State.physOf, h _ _ _ (stands_cluster cl) hp, State.physOf]

theorem clusterOfCore_coreOf (cl : ClusterId) (k : Fin 8) : clusterOfCore (coreOf cl k) = cl := by
  have h : (coreOf cl k).val = 8 * cl.val + k.val := Nat.mod_eq_of_lt (by omega)
  unfold clusterOfCore; omega

/-! ## The cluster that has no spare left -/

section
variable (s : State) (cl : ClusterId)

theorem State.retireCluster_retired : (s.retireCluster cl).fld F.clusterStateRetired cl = 1 :=
  ((State.logError_keeps _ .cluster cl uncorrected 0x01A 0 0 (by decide)).fld (f := F.clusterStateRetired) (stands_cluster cl) ⟨rfl, by decide⟩).trans
    (State.fld_setFld_same (by decide) _ _ _ _)

theorem State.retireCluster_keeps : RegsKept (fun m _ _ => m = .clusterCoreMap) s (s.retireCluster cl) :=
  ((RegsKept.refl _ s).setFld (f := F.clusterStateRetired) _ (stands_cluster cl) (by simp)).trans
    ((State.logError_keeps _ .cluster cl uncorrected 0x01A 0 0 (by decide)).mono (fun _ _ _ h => by subst h; exact ⟨rfl, by decide⟩))

theorem State.retireCluster_mem : (s.retireCluster cl).mem = s.mem := State.logError_mem _ _ _ _ _ _ _

end

/-! ## The spare core (R85) -/

section
variable (s : State) (cl : ClusterId) (k : Fin 8) (why : Nat)

/-- The state of a core that has failed its test once that is known: the entry is in the log, and the core owes no test. -/
def State.testEnded : State :=
  let t := s.logError .cluster cl notice 0x019 (s.physOf cl k) why
  t.setCore (coreOf cl k) { t.core (coreOf cl k) with testPending := false, testFailed := false }

/-- CORE_MAP once the spare stands behind logical core `k`. -/
def State.mapSwitched : Nat :=
  putBits (putBits (putBits (s.reg .clusterCoreMap cl) (4 * k.val) 4 (s.fld F.clusterCoreMapSpare cl)) 32 4 0xF) 36 9
    (bits (s.reg .clusterCoreMap cl) 36 9 ||| 2 ^ s.physOf cl k)

theorem State.testEnded_keeps : RegsKept (fun m _ _ => m = .clusterCoreMap) s (s.testEnded cl k why) :=
  (State.logError_keeps s .cluster cl notice 0x019 (s.physOf cl k) why (by decide)).mono (fun _ _ _ h => by subst h; exact ⟨rfl, by decide⟩)

theorem State.testEnded_mem : (s.testEnded cl k why).mem = s.mem := State.logError_mem _ _ _ _ _ _ _
theorem State.testEnded_slate : (s.testEnded cl k why).slate = s.slate := State.logError_slate _ _ _ _ _ _ _

/-- With no spare left the core's bit and its STATUS say RETIRED, and the cluster retires. -/
theorem State.retireCore_noSpare (h : s.fld F.clusterCoreMapSpare cl = 0xF) : s.retireCore cl k why =
    (((s.testEnded cl k why).setFld F.clusterCoreMapRetired cl 0 ((s.testEnded cl k why).fld F.clusterCoreMapRetired cl ||| 2 ^ s.physOf cl k)).setFld
      F.coreStatusRetired (coreInst (coreOf cl k)) 0 1).retireCluster cl := by
  simp only [State.retireCore, h, BEq.rfl, if_true]
  rfl

/-- The state once the spare stands behind the core, before the switch is counted and logged. -/
def State.spareStands : State :=
  let s1 := (s.testEnded cl k why).setReg .clusterCoreMap cl 0 (s.mapSwitched cl k)
  let i := coreInst (coreOf cl k)
  let j := 9 * cl.val + 8
  ((((s1.setReg .coreClock i 0 (s1.reg .coreClock j)).setReg .coreClock j 0 (s1.reg .coreClock i)).setFld
    F.coreStatusPhys i 0 (s.fld F.clusterCoreMapSpare cl)).setFld F.coreStatusPhys j 0 (s.physOf cl k)).setFld F.coreStatusRetired j 0 1

theorem State.retireCore_spare (h : s.fld F.clusterCoreMapSpare cl ≠ 0xF) : s.retireCore cl k why =
    (((s.spareStands cl k why).bump F.clusterSpareSwitchesCount cl 0 1).logError .cluster cl notice 0x018 k.val
      (s.physOf cl k + s.fld F.clusterCoreMapSpare cl * 2 ^ 4)).setCore (coreOf cl k) Core.init := by
  simp only [State.retireCore, beq_eq_false_iff_ne.mpr h, Bool.false_eq_true, if_false]
  rfl

/-- CORE_MAP after the switch. -/
theorem State.retireCore_map (h : s.fld F.clusterCoreMapSpare cl ≠ 0xF) :
    (s.retireCore cl k why).reg .clusterCoreMap cl = s.mapSwitched cl k % 2 ^ 64 := by
  have core (i : Nat) (hi : i < 576) {n : RegName} (hin : n.inInstance i = true) (hb : n.block.instances = 576) (hc : 0 < n.desc.count) : n.Stands i 0 :=
    RegName.stands (by rw [hb]; exact hi) hin hc
  have hi : coreInst (coreOf cl k) < 576 := by have := (coreOf cl k).isLt; unfold coreInst; omega
  have hj : 9 * cl.val + 8 < 576 := by omega
  have stands : RegsKept (fun m _ _ => m = .clusterCoreMap) ((s.testEnded cl k why).setReg .clusterCoreMap cl 0 (s.mapSwitched cl k)) (s.spareStands cl k why) :=
    (((((RegsKept.refl _ _).setReg _ (core _ hi rfl rfl (by decide)) (by simp)).setReg _ (core _ hj rfl rfl (by decide)) (by simp)).setFld (f := F.coreStatusPhys)
      _ (core _ hi rfl rfl (by decide)) (by simp)).setFld (f := F.coreStatusPhys) _ (core _ hj rfl rfl (by decide)) (by simp)).setFld
      (f := F.coreStatusRetired) _ (core _ hj rfl rfl (by decide)) (by simp)
  have counted := stands.setFld (f := F.clusterSpareSwitchesCount) ((s.spareStands cl k why).fld F.clusterSpareSwitchesCount cl + 1) (stands_cluster cl) (by simp)
  rw [State.retireCore_spare s cl k why h]
  exact (State.logError_keeps _ .cluster cl notice 0x018 _ _ (by decide) _ _ _ (stands_cluster cl) ⟨rfl, by decide⟩).trans
    ((counted _ _ _ (stands_cluster cl) rfl).trans (State.reg_setReg_same _ _ _ _ _))

/-- The spare stands behind the logical core, and there is no spare any more. -/
theorem State.mapSwitched_fields : bits (s.mapSwitched cl k % 2 ^ 64) (4 * k.val) 4 = s.fld F.clusterCoreMapSpare cl
    ∧ bits (s.mapSwitched cl k % 2 ^ 64) 32 4 = 0xF := by
  have spare : s.fld F.clusterCoreMapSpare cl < 2 ^ 4 := bits_lt _ _ _
  refine ⟨?_, ?_⟩
  · rw [bits_mod _ (by omega), State.mapSwitched, bits_putBits_apart _ _ (by omega), bits_putBits_apart _ _ (by omega), bits_putBits_same,
      Nat.mod_eq_of_lt spare]
  · rw [bits_mod _ (by omega), State.mapSwitched, bits_putBits_apart _ _ (by omega), bits_putBits_same]; rfl

/-- The bits of the retired cores are none of those that name the physical cores. -/
theorem State.physOf_setRetired (v : Nat) : (s.setFld F.clusterCoreMapRetired cl 0 v).physOf cl k = s.physOf cl k := by
  rw [State.physOf, State.setFld, State.reg_setReg_same, bits_mod _ (n := RegName.clusterCoreMap.desc.width) (Nat.le_trans (by omega : _ ≤ 45) (by decide))]
  exact bits_putBits_apart _ _ (Or.inr (show 4 * k.val + 4 ≤ 36 by omega))

theorem exec_spareCoreSwitch (free : (s.cluster cl).run = none) (failed : (s.core (coreOf cl k)).testFailed = true) :
    exec (.spareCoreSwitch cl k) s = .next (s.retireCore cl k 3) := by
  have unfolded : exec (.spareCoreSwitch cl k) s = .next (if (s.cluster cl).run.isSome || !(s.core (coreOf cl k)).testFailed then s else s.retireCore cl k 3) := rfl
  rw [unfolded, free, failed]; rfl

/-- SPARE_CORE_SWITCH with a spare left (R85). -/
theorem spareCoreSwitch_completes (free : (s.cluster cl).run = none) (failed : (s.core (coreOf cl k)).testFailed = true)
    (left : s.fld F.clusterCoreMapSpare cl ≠ 0xF) : Completes (.spareCoreSwitch cl k) s (fun u =>
      u.physOf cl k = s.fld F.clusterCoreMapSpare cl ∧ u.fld F.clusterCoreMapSpare cl = 0xF ∧ u.core (coreOf cl k) = Core.init ∧ u.mem = s.mem
        ∧ u.slate = s.slate) := by
  obtain ⟨stands, gone⟩ := s.mapSwitched_fields cl k
  refine ⟨_, exec_spareCoreSwitch s cl k free failed, ?phys, ?spare, ?core, ?mem, ?slate⟩
  case phys => rw [State.physOf, State.retireCore_map s cl k 3 left]; exact stands
  case spare => rw [State.fld, State.retireCore_map s cl k 3 left]; exact gone
  case core => rw [State.retireCore_spare s cl k 3 left]; exact State.core_setCore_same _ _ _
  case mem => rw [State.retireCore_spare s cl k 3 left]; exact (State.logError_mem _ _ _ _ _ _ _).trans (s.testEnded_mem cl k 3)
  case slate => rw [State.retireCore_spare s cl k 3 left]; exact (State.logError_slate _ _ _ _ _ _ _).trans (s.testEnded_slate cl k 3)

/-- SPARE_CORE_SWITCH with no spare left (R85, R86). -/
theorem spareCoreSwitch_retires (free : (s.cluster cl).run = none) (failed : (s.core (coreOf cl k)).testFailed = true)
    (none : s.fld F.clusterCoreMapSpare cl = 0xF) : Completes (.spareCoreSwitch cl k) s (fun u =>
      u.fld F.clusterStateRetired cl = 1 ∧ u.physOf cl k = s.physOf cl k ∧ u.mem = s.mem) := by
  refine ⟨_, exec_spareCoreSwitch s cl k free failed, ?retired, ?phys, ?mem⟩
  all_goals rw [State.retireCore_noSpare s cl k 3 none]
  case retired => exact State.retireCluster_retired _ cl
  case mem => exact (State.retireCluster_mem _ cl).trans (s.testEnded_mem cl k 3)
  case phys =>
    rw [(State.retireCluster_keeps _ cl).physOf cl rfl]
    rw [(RegsKept.refl (fun m _ _ => m = .clusterCoreMap) _ |>.setFld (f := F.coreStatusRetired) 1 (stands_coreInst (coreOf cl k)) (by simp)).physOf cl rfl]
    rw [State.physOf_setRetired, (s.testEnded_keeps cl k 3).physOf cl rfl]

end

/-! ## The store test (R436) and the instruction store word (R437) -/

/-- CORE_STORE_TEST (R436). -/
theorem coreStoreTest_completes (c : CoreId) (pass : Bool) (s : State) (free : (s.cluster (clusterOfCore c)).run = none)
    (owed : (s.core c).testPending = true) : Completes (.coreStoreTest c pass) s (fun u =>
      (u.core c).testPending = !pass ∧ (u.core c).testFailed = !pass ∧ (u.core c).slateBad = [] ∧ (u.core c).tableBad = []
        ∧ (u.core c).transposeBad = false ∧ (∀ d, d ≠ c → u.core d = s.core d) ∧ u.mem = s.mem) := by
  have tested : exec (.coreStoreTest c pass) s = .next (s.setCore c
      { s.core c with testPending := !pass, testFailed := !pass, slateBad := [], tableBad := [], transposeBad := false }) := by
    have unfolded : exec (.coreStoreTest c pass) s = .next (if (s.cluster (clusterOfCore c)).run.isSome || !(s.core c).testPending then s
        else s.setCore c { s.core c with testPending := !pass, testFailed := !pass, slateBad := [], tableBad := [], transposeBad := false }) := rfl
    rw [unfolded, free, owed]; rfl
  refine ⟨_, tested, ?_⟩
  simp only [State.core_setCore_same]
  exact ⟨trivial, trivial, trivial, trivial, trivial, fun d hd => State.core_setCore_other _ _ _ _ hd, rfl⟩

section
variable (cl : ClusterId) (off : BitVec 20) (ok : Bool) (s : State)

/-- The state once the failing word is taken off the list and the entry is in the log. -/
def State.wordTaken : State :=
  (s.setCluster cl { s.cluster cl with istoreBad := (s.cluster cl).istoreBad.filter (fun a => a / 16 != off.toNat / 16) }).logError
    .cluster cl uncorrected 0x005 off.toNat (bit !ok)

theorem State.wordTaken_mem : (s.wordTaken cl off ok).mem = s.mem := State.logError_mem _ _ _ _ _ _ _

theorem State.wordTaken_program (w : Nat) : (s.wordTaken cl off ok).residentProgram cl w = s.residentProgram cl w := by
  simp only [State.residentProgram, State.wordTaken, State.logError_tutor]; rfl

theorem exec_istoreReload (free : (s.cluster cl).run = none) (bad : (s.cluster cl).istoreBad.any (fun a => a / 16 == off.toNat / 16) = true) :
    exec (.istoreReload cl off ok) s = .next (if ok then
      (s.wordTaken cl off ok).setBytes (istoreKey cl (off.toNat / 8 * 8)) (match (s.wordTaken cl off ok).residentProgram cl (off.toNat / 8 * 8) with
        | some a => (s.wordTaken cl off ok).bytes a 8
        | none => List.replicate 8 0)
      else (s.wordTaken cl off ok).retireCluster cl) := by
  have taken : ((s.cluster cl).run.isSome || !(s.cluster cl).istoreBad.any (fun a => a / 16 == off.toNat / 16)) = false := by rw [free, bad]; rfl
  simp only [exec, execIstoreReload, istoreReload, taken, Bool.false_eq_true, if_false]
  rfl

/-- ISTORE_RELOAD whose word reads back well (R437). -/
theorem istoreReload_completes (a : Nat) (free : (s.cluster cl).run = none) (bad : (s.cluster cl).istoreBad.any (fun a => a / 16 == off.toNat / 16) = true)
    (resident : s.residentProgram cl (off.toNat / 8 * 8) = some a) : Completes (.istoreReload cl off true) s (fun u =>
      u.bytes (istoreKey cl (off.toNat / 8 * 8)) 8 = s.bytes a 8
        ∧ (u.cluster cl).istoreBad = (s.cluster cl).istoreBad.filter (fun a => a / 16 != off.toNat / 16)) := by
  refine ⟨_, exec_istoreReload cl off true s free bad, ?_, ?_⟩
  · rw [if_pos rfl, State.wordTaken_program, resident]
    have same : (s.wordTaken cl off true).bytes a 8 = s.bytes a 8 := State.bytes_of_mem (s.wordTaken_mem cl off true) a 8
    dsimp only
    rw [same]
    exact State.bytes_setBytes (s.wordTaken cl off true) (istoreKey cl (off.toNat / 8 * 8)) (s.bytes a 8)
  · rw [if_pos rfl, State.setBytes_eq]
    exact (congrArg Cluster.istoreBad (State.logError_cluster _ _ _ _ _ _ _ _)).trans (congrArg Cluster.istoreBad (State.cluster_setCluster_same _ _ _))

/-- ISTORE_RELOAD whose word fails again (R437). -/
theorem istoreReload_retires (free : (s.cluster cl).run = none) (bad : (s.cluster cl).istoreBad.any (fun a => a / 16 == off.toNat / 16) = true) :
    Completes (.istoreReload cl off false) s (fun u => u.fld F.clusterStateRetired cl = 1 ∧ u.mem = s.mem) := by
  refine ⟨_, exec_istoreReload cl off false s free bad, ?_, ?_⟩
  · exact State.retireCluster_retired _ cl
  · exact (State.retireCluster_mem _ cl).trans (s.wordTaken_mem cl off false)

end

/-! ## Where none of them acts -/

/-- While the cluster runs a lesson none of the repairs acts. -/
theorem repairs_wait (cl : ClusterId) (k : Fin 8) (pass ok : Bool) (off : BitVec 20) (s : State) (busy : (s.cluster cl).run ≠ none) :
    exec (.spareCoreSwitch cl k) s = .next s ∧ exec (.coreStoreTest (coreOf cl k) pass) s = .next s ∧ exec (.istoreReload cl off ok) s = .next s := by
  have runs : (s.cluster cl).run.isSome = true := Option.isSome_iff_ne_none.mpr busy
  refine ⟨?_, ?_, ?_⟩
  · simp [exec, execSpareCoreSwitch, spareCoreSwitch, runs]
  · simp [exec, execCoreStoreTest, coreStoreTest, clusterOfCore_coreOf, runs]
  · simp [exec, execIstoreReload, istoreReload, runs]

/-- Only a core that failed its test is replaced, and only a core that owes a test is tested. -/
theorem repairs_asked (cl : ClusterId) (k : Fin 8) (pass : Bool) (s : State) :
    ((s.core (coreOf cl k)).testFailed = false → exec (.spareCoreSwitch cl k) s = .next s)
      ∧ ((s.core (coreOf cl k)).testPending = false → exec (.coreStoreTest (coreOf cl k) pass) s = .next s) := by
  refine ⟨fun h => ?_, fun h => ?_⟩
  · have kept : spareCoreSwitch s cl k = s := if_pos (by rw [show s.core (Fin.ofNat 512 (8 * cl.val + k.val)) = s.core (coreOf cl k) from rfl, h]; simp)
    rw [exec, execSpareCoreSwitch, kept]
  · simp [exec, execCoreStoreTest, coreStoreTest, h]

end Sys2Proof.Machine

namespace Sys2Proof
open Machine

/-- Settles O31: each repair by its own equation, the frames from what the error log leaves alone. -/
theorem repairsBetweenLessons : Obligations.RepairsBetweenLessons :=
  ⟨fun cl k s => spareCoreSwitch_completes s cl k, fun cl k s => spareCoreSwitch_retires s cl k, coreStoreTest_completes,
    fun cl off s a => istoreReload_completes cl off s a, istoreReload_retires, repairs_wait, repairs_asked⟩

end Sys2Proof
end

section
/-!
SUPPORT. What an access of a unit leaves where no request waits: everything but the slices' lines, the counters, the log and the marks of errors (R206, R209, R217, R228).
-/
namespace Sys2Proof.Machine

/-! ## What an access touches -/

/-- The registers that an access of memory may write: those of the slices but SLICE.CONFIG, those of HBM4 and Hallway, and those of the log. -/
def RegName.accessed (n : RegName) : Bool :=
  (n.block == .slice && n != .sliceConfig) || n.block == .hbm || n.block == .hallway || n.logged || n == .proctorErrlogClass

/-- `u` is `s` after steps of accesses: registers that an access may write, the log, the marks of errors and of poison, and the records of the slices but for what has failed and what waits. Where waiting requests are `served` meanwhile, they write memory, what waits changes, data leave, and the counters of their classes rise. -/
inductive Accessed (served : Prop) (s : State) : State → Prop where
  | refl : Accessed served s s
  | reg {u : State} (h : Accessed served s u) (n : RegName) (i j v : Nat) (hn : n.Stands i j) (ha : n.accessed = true) : Accessed served s (u.setReg n i j v)
  | log {u : State} (h : Accessed served s u) (b : Block) (inst cls code d0 d1 : Nat) (hc : cls < 4) : Accessed served s (u.logError b inst cls code d0 d1)
  | slice {u : State} (h : Accessed served s u) (n : Nat) (v : Slice) (hf : v.failed = (u.slice n).failed) (hw : v.waitQ = (u.slice n).waitQ ∨ served) :
    Accessed served s (u.setSlice n v)
  | poison {u : State} (h : Accessed served s u) (l : NatSet) : Accessed served s { u with poison := l }
  | hidden {u : State} (h : Accessed served s u) (l : NatSet) : Accessed served s { u with hidden := l }
  | arrayErr {u : State} (h : Accessed served s u) (l : Tab Nat) : Accessed served s { u with arrayErr := l }
  | hbmErr {u : State} (h : Accessed served s u) (l : Tab Nat) : Accessed served s { u with hbmErr := l }
  | class' {u : State} (h : Accessed served s u) (n : RegName) (i j v : Nat) (hn : 0x180000 ≤ n.block.base) (hs : served) : Accessed served s (u.setReg n i j v)
  | mem {u : State} (h : Accessed served s u) (m : List Host.Cell) (hs : served) : Accessed served s { u with mem := m }
  | emit {u : State} (h : Accessed served s u) (o : Out) (hs : served) : Accessed served s (u.emit o)

section
variable {served : Prop} {s t u : State}

theorem Accessed.trans (h : Accessed served s t) (k : Accessed served t u) : Accessed served s u := by
  induction k with
  | refl => exact h
  | reg _ n i j v hn ha ih => exact ih.reg n i j v hn ha
  | log _ b inst cls code d0 d1 hc ih => exact ih.log b inst cls code d0 d1 hc
  | slice _ n v hf hw ih => exact ih.slice n v hf hw
  | poison _ l ih => exact ih.poison l
  | hidden _ l ih => exact ih.hidden l
  | arrayErr _ l ih => exact ih.arrayErr l
  | hbmErr _ l ih => exact ih.hbmErr l
  | class' _ n i j v hn hs ih => exact ih.class' n i j v hn hs
  | mem _ m hs ih => exact ih.mem m hs
  | emit _ o hs ih => exact ih.emit o hs

/-- The fields of State that no access touches. -/
theorem Accessed.fields (h : Accessed served s u) : u = { s with
    regs := u.regs, hports := u.hports, outbox := u.outbox, proctor := u.proctor, poison := u.poison, hidden := u.hidden
    arrayErr := u.arrayErr, hbmErr := u.hbmErr, slices := u.slices, mem := u.mem } := by
  induction h with
  | refl => rfl
  | reg _ _ _ _ _ _ _ ih | class' _ _ _ _ _ _ _ ih => unfold State.setReg; rw [ih]
  | @log u _ b inst cls code d0 d1 hc ih => rw [u.logError_fields, ih]
  | slice _ n v _ _ ih => unfold State.setSlice; rw [ih]
  | poison _ _ ih | hidden _ _ ih | arrayErr _ _ ih | hbmErr _ _ ih | mem _ _ _ ih => rw [ih]
  | emit _ o _ ih => unfold State.emit; rw [ih]

/-- The registers that no access writes; of those of the slices and cores none is sure while waiting requests are served. -/
theorem Accessed.regsKept (h : Accessed served s u) : RegsKept (fun m a b => m.accessed = false ∧ (served → m.addr a b < 0x180000)) s u := by
  have unlogged {m : RegName} (e : m.accessed = false) : m.logged = false ∧ m ≠ .proctorErrlogClass := by
    simp only [RegName.accessed, Bool.or_eq_false_iff] at e
    exact ⟨e.1.2, fun k => by simp [k] at e⟩
  induction h with
  | refl => exact .refl _ _
  | reg _ n i j v hn ha ih => exact ih.setReg v hn (by simp [ha])
  | log _ b inst cls code d0 d1 hc ih => exact ih.trans ((State.logError_keeps _ b inst cls code d0 d1 hc).mono (fun _ _ _ e => unlogged e.1))
  | class' _ n i j v hn hs ih =>
    intro m a b hm hp
    have low := hp.2 hs
    have high : n.block.base ≤ n.addr i j := by unfold RegName.addr; omega
    exact (State.reg_setReg_other _ _ _ _ _ _ _ _ (by omega)).trans (ih m a b hm hp)
  | slice _ _ _ _ _ ih | poison _ _ ih | hidden _ _ ih | arrayErr _ _ ih | hbmErr _ _ ih | mem _ _ _ ih | emit _ _ _ ih => exact ih

theorem Accessed.failed (h : Accessed served s u) (n : Nat) : (u.slice n).failed = (s.slice n).failed := by
  induction h with
  | refl => rfl
  | @log u _ b inst cls code d0 d1 hc ih => rw [u.logError_fields]; exact ih
  | slice _ k v hf hw ih => exact (State.slice_setSlice_of Slice.failed hf n).trans ih
  | reg _ _ _ _ _ _ _ ih | class' _ _ _ _ _ _ _ ih | poison _ _ ih | hidden _ _ ih | arrayErr _ _ ih | hbmErr _ _ ih | mem _ _ _ ih | emit _ _ _ ih => exact ih

theorem Accessed.cores (h : Accessed served s u) : u.cores = s.cores := by rw [h.fields]
theorem Accessed.core (h : Accessed served s u) (c : CoreId) : u.core c = s.core c := by rw [State.core, h.cores, State.core]
theorem Accessed.ite (h : Accessed served s t) (k : Accessed served s u) (p : Prop) [Decidable p] : Accessed served s (if p then t else u) := by split <;> assumption
theorem Accessed.hold (h : Accessed served s u) (n : Nat) (l : List HoldEntry) : Accessed served s (u.setSlice n { u.slice n with hold := l }) :=
  h.slice n _ rfl (.inl rfl)
theorem Accessed.lines (h : Accessed served s u) (n : Nat) (l : List CacheLine) : Accessed served s (u.setSlice n { u.slice n with lines := l }) :=
  h.slice n _ rfl (.inl rfl)
theorem Accessed.fetching (h : Accessed served s u) (n : Nat) (l : NatSet) : Accessed served s (u.setSlice n { u.slice n with fetching := l }) :=
  h.slice n _ rfl (.inl rfl)
theorem Accessed.each {α : Type} (h : Accessed served s u) (l : List α) (f : State → α → State) (hf : ∀ t a, Accessed served s t → Accessed served s (f t a)) :
    Accessed served s (u.each l f) := State.each_induct (Accessed served s) l f u h hf

end

/-! ## What an access leaves while nothing waits -/

section
variable {s u : State} (h : Accessed False s u)
include h

theorem Accessed.sameMem : u.mem = s.mem := by
  induction h with
  | refl => rfl
  | @log u _ b inst cls code d0 d1 hc ih => exact (State.logError_mem _ _ _ _ _ _ _).trans ih
  | class' _ _ _ _ _ _ hs _ | mem _ _ hs _ | emit _ _ hs _ => exact hs.elim
  | reg _ _ _ _ _ _ _ ih | slice _ _ _ _ _ ih | poison _ _ ih | hidden _ _ ih | arrayErr _ _ ih | hbmErr _ _ ih => exact ih

theorem Accessed.sameWaits (n : Nat) : (u.slice n).waitQ = (s.slice n).waitQ := by
  induction h with
  | refl => rfl
  | @log u _ b inst cls code d0 d1 hc ih => rw [u.logError_fields]; exact ih
  | slice _ k v hf hw ih => exact (State.slice_setSlice_of Slice.waitQ (hw.resolve_right id) n).trans ih
  | class' _ _ _ _ _ _ hs _ | mem _ _ hs _ | emit _ _ hs _ => exact hs.elim
  | reg _ _ _ _ _ _ _ ih | poison _ _ ih | hidden _ _ ih | arrayErr _ _ ih | hbmErr _ _ ih => exact ih

theorem Accessed.physCore (c : CoreId) : u.physCore c = s.physCore c := by
  have stands : RegName.Stands .clusterCoreMap (clusterOfCore c) 0 := RegName.stands (by have := c.isLt; unfold clusterOfCore; simp only [RegName.block, Block.instances]; omega) rfl (by decide)
  have map := h.regsKept .clusterCoreMap (clusterOfCore c) 0 stands ⟨rfl, False.elim⟩
  simp only [State.physCore, State.physOf, map]

theorem Accessed.discards (a : Nat) : u.discards a = s.discards a := by
  have channel : u.fld F.sliceConfigChannelFailed (homeSlice a) = s.fld F.sliceConfigChannelFailed (homeSlice a) :=
    h.regsKept.fld (f := F.sliceConfigChannelFailed) (stands_slice (homeSlice_lt a)) ⟨rfl, False.elim⟩
  simp only [State.discards, channel, h.failed]

theorem Accessed.setWaits (a : Nat) : u.setWaits a = s.setWaits a := by simp only [State.setWaits, h.sameWaits]

end

/-! ## The steps of an access -/

section
variable {served : Prop} {s u : State} (h : Accessed served s u)
include h

theorem Accessed.fld {f : RegField} {i j : Nat} (hs : f.reg.Stands i j) (v : Nat) (ha : f.reg.accessed = true := by decide) :
    Accessed served s (u.setFld f i j v) := h.reg _ _ _ _ hs ha
theorem Accessed.bump {f : RegField} {i j : Nat} (hs : f.reg.Stands i j) (v : Nat) (ha : f.reg.accessed = true := by decide) :
    Accessed served s (u.bump f i j v) := h.fld hs _ ha
theorem Accessed.bumpSat {f : RegField} {i j : Nat} (hs : f.reg.Stands i j) (v : Nat) (ha : f.reg.accessed = true := by decide) :
    Accessed served s (u.bumpSat f i j v) := h.fld hs _ ha

section
variable (a : Nat)

theorem Accessed.hbmCheck : Accessed served s (u.hbmCheck a) := by
  have hbm {n : RegName} (hb : n.block = .hbm) (hj : 0 < n.desc.count) : n.Stands (hbmOf (homeSlice a)) 0 := stands_hbmOf (homeSlice_lt a) hb hj
  unfold State.hbmCheck
  dsimp only
  split_ifs
  · exact h.hbmErr _
  · exact (h.hbmErr _).bumpSat (f := F.hbmCorrectedCount) (hbm rfl (by decide)) 1
  · exact (((h.hbmErr _).poison _).bumpSat (f := F.hbmUncorrectedCount) (hbm rfl (by decide)) 1).log _ _ _ _ _ _ (by decide)
theorem Accessed.countFetch : Accessed served s (u.countFetch a) :=
  (h.bump (f := F.hbmReadSectorsCount) (stands_hbmOf (homeSlice_lt a)) 1).hbmCheck a
theorem Accessed.countHit {cls : Nat} (hc : cls < 8 ∨ served) (hit : Bool) : Accessed served s (u.countHit (homeSlice a) cls hit) := by
  rcases hc with hc | hs
  · exact (h.bump (f := F.sliceHitCount) (stands_slice (homeSlice_lt a) rfl hc) 1).ite (h.bump (f := F.sliceMissCount) (stands_slice (homeSlice_lt a) rfl hc) 1) _
  · exact (h.class' .sliceHit _ _ _ (by decide) hs).ite (h.class' .sliceMiss _ _ _ (by decide) hs) _
theorem Accessed.countMerge (p : Prop) [Decidable p] : Accessed served s (if p then u.bump F.sliceHoldMergesCount (homeSlice a) 0 1 else u) :=
  (h.bump (f := F.sliceHoldMergesCount) (stands_slice (homeSlice_lt a)) 1).ite h p

theorem Accessed.arrayCheck (kind : AccessKind) : Accessed served s (u.arrayCheck a kind) := by
  have home := homeSlice_lt a
  unfold State.arrayCheck
  dsimp only
  split_ifs
  · exact h.arrayErr _
  · have counted := (h.arrayErr (Tab.set 0 u.arrayErr (a / 32) 0)).bumpSat (f := F.sliceEccCorrectedCount) (j := 0) (stands_slice home) 1
    unfold State.arrayCorrected
    dsimp only
    split
    · exact counted.slice _ _ rfl (.inl rfl)
    · exact counted
  · exact (((h.arrayErr _).poison _).bumpSat (f := F.sliceEccUncorrectedCount) (j := 0) (stands_slice home) 1).log _ _ _ _ _ _ (by decide)

end

theorem Accessed.noteHold {n : Nat} (hn : n < 1024) : Accessed served s (u.noteHold n) :=
  (h.fld (f := F.sliceHoldInUse) (stands_slice hn) _).fld (f := F.sliceHoldPeak) (stands_slice hn) _
theorem Accessed.countWriteback {n : Nat} (hn : n < 1024) (dirty : BitVec 4) : Accessed served s (u.countWriteback n dirty) :=
  (h.bump (f := F.sliceWritebacksCount) (stands_slice hn) _).bump (f := F.hbmWriteSectorsCount) (stands_hbmOf hn) _
theorem Accessed.leaveSlice (line : Nat) (valid dirty : BitVec 4) : Accessed served s (u.leaveSlice line valid dirty) := by
  refine h.each _ _ (fun t k ht => ?_)
  have shown := ht.hidden (NatSet.erase t.hidden (4 * line + k))
  exact (shown.ite (shown.poison _) _).ite ht _
theorem Accessed.readLine (line : Nat) (dirty : BitVec 4) : Accessed served s (u.readLine line dirty) :=
  h.each _ _ (fun _ _ ht => ht.arrayCheck _ _)
theorem Accessed.replaceHbm (line : Nat) (dirty : BitVec 4) : Accessed served s (u.replaceHbm line dirty) :=
  h.each _ _ (fun _ _ ht => (ht.hbmErr _).ite ht _)

theorem Accessed.freeOldest {n : Nat} (hn : n < 1024) : Accessed served s (u.freeOldest n) := by
  unfold State.freeOldest
  split
  · exact h
  · exact ((((h.ite (h.countWriteback hn _) _).leaveSlice _ _ _).replaceHbm _ _).hold _ _).noteHold hn

/-- An entry joins the hold buffer, where the access does not wait (R217). -/
theorem Accessed.addHold {n : Nat} (hn : n < 1024) (line : Nat) (valid dirty : BitVec 4) (wait : Bool) {t : State}
    (ht : u.addHold n line valid dirty wait = some t) : Accessed served s t := by
  unfold State.addHold at ht
  split at ht
  · cases ht
  · have room := (h.freeOldest hn).ite h ((u.slice n).hold.length ≥ 32)
    dsimp only at ht
    generalize (if (u.slice n).hold.length ≥ 32 then u.freeOldest n else u) = v at room ht
    cases ht
    exact ((room.hold n _).countWriteback hn dirty).noteHold hn

/-- A way is given, or refused, where the access does not wait (R208). -/
theorem Accessed.allocate {n : Nat} (hn : n < 1024) (line set : Nat) (wait : Bool) {t : State} {w : Option (Fin 16)}
    (ht : u.allocate n line set wait = some (t, w)) : Accessed served s t := by
  unfold State.allocate at ht
  dsimp only at ht
  split at ht
  · cases ht; exact h.lines _ _
  · split at ht
    · split at ht
      · next old _ =>
        have read := (h.lines n (((u.slice n).lines.filter (fun l => l.line != old.line)) ++ [⟨set, old.way, line, 0, 0, false⟩])).readLine old.line old.dirty
        generalize (State.setSlice u n _).readLine old.line old.dirty = v at read ht
        split at ht
        · cases ht; exact read.leaveSlice _ _ _
        · obtain ⟨v, hv, e⟩ := Option.map_eq_some_iff.mp ht
          cases e
          exact read.addHold hn _ _ _ _ hv
      · cases ht; exact h
    · cases ht; exact h

end

/-! ## An access -/

section
variable {served : Prop} {s u : State} (h : Accessed served s u) {a cls : Nat} (hc : cls < 8 ∨ served) (kind : AccessKind) (pend : Bool)
include h hc

/-- An access of the cache (R206, R217). -/
theorem Accessed.cacheAccess {t : State} (ht : u.cacheAccess a cls kind pend = some t) : Accessed served s t := by
  have home := homeSlice_lt a
  have fetched {t : State} (k : Accessed served s t) (p : Prop) [Decidable p] : Accessed served s (if p then t else t.countFetch a) := k.ite (k.countFetch a) p
  have fetch {t : State} (k : Accessed served s t) (p : Prop) [Decidable p] : Accessed served s (if p then t
      else if pend = true then t.setSlice (homeSlice a) { t.slice (homeSlice a) with fetching := NatSet.insert (t.slice (homeSlice a)).fetching (a / 32) } else t.countFetch a) :=
    k.ite ((k.fetching _ _).ite (k.countFetch a) _) p
  unfold State.cacheAccess at ht
  dsimp only at ht
  split at ht
  · next e _ =>
    cases ht
    exact ((fetched ((h.countHit a hc (hasSector e.valid a)).arrayCheck a kind) _).countMerge a _).slice _ _ rfl (.inl rfl)
  · split at ht
    · next l _ =>
      cases ht
      exact (fetch ((h.countHit a hc (hasSector l.valid a)).arrayCheck a kind) _).slice _ _ rfl (.inl rfl)
    · split at ht
      · cases ht
      · next v w hv =>
        cases ht
        exact (fetch ((h.allocate home _ _ _ hv).countHit a hc false) _).slice _ _ rfl (.inl rfl)
      · next v hv =>
        have kept := h.allocate home _ _ _ hv
        split at ht
        · cases ht
          exact fetch (kept.countHit a hc false) _
        · split at ht
          · cases ht
          · next x hx =>
            cases ht
            exact (fetched ((kept.addHold home _ _ _ _ hx).countHit a hc false) _).countMerge a _

/-- An access of a sector (R203, R206). -/
theorem Accessed.sectorAccess {t : State} (ht : u.sectorAccess a cls kind pend = some t) : Accessed served s t := by
  unfold State.sectorAccess at ht
  split at ht
  · cases ht
    exact (h.bump (f := F.sliceScratchSectorsCount) (stands_slice (homeSlice_lt a)) 1).arrayCheck a kind
  · split at ht
    · cases ht; exact h
    · exact h.cacheAccess hc kind pend ht
  · cases ht; exact h

end

/-! ## An access that may not wait is made at once (R217) -/

section
variable (s : State) (n a cls : Nat) (kind : AccessKind)

theorem State.addHold_isSome (line : Nat) (valid dirty : BitVec 4) : (s.addHold n line valid dirty false).isSome = true := by
  unfold State.addHold
  rw [if_neg (by simp)]
  rfl
theorem State.allocate_isSome (line set : Nat) : (s.allocate n line set false).isSome = true := by
  unfold State.allocate
  dsimp only
  split
  · rfl
  · split
    · split
      · split
        · rfl
        · rw [Option.isSome_map]; exact State.addHold_isSome _ _ _ _ _
      · rfl
    · rfl
theorem State.cacheAccess_isSome : (s.cacheAccess a cls kind false).isSome = true := by
  unfold State.cacheAccess
  dsimp only
  split
  · rfl
  · split
    · rfl
    · split
      · next e => exact absurd (s.allocate_isSome (homeSlice a) (a / 128) (setOf a)) (by simp [e])
      · rfl
      · next v _ =>
        split
        · rfl
        · split
          · next e => exact absurd (v.addHold_isSome (homeSlice a) (a / 128) (sectorBit a) (sectorBit a)) (by simp [e])
          · rfl
theorem State.sectorAccess_isSome : (s.sectorAccess a cls kind false).isSome = true := by
  unfold State.sectorAccess
  split
  · rfl
  · split
    · rfl
    · exact s.cacheAccess_isSome a cls kind
  · rfl

end

/-! ## Accesses of the units where nothing waits -/

/-- What holds of every entry of a table, and of what an unlisted key reads as, holds of what is read. -/
theorem Tab.get_of_all {V : Type} {p : V → Bool} {d : V} {t : Tab V} (h : t.all (fun e => p e.2) = true) (hd : p d = true) (k : Nat) :
    p (Tab.get d t k) = true := by
  induction t with
  | nil => exact hd
  | cons e t ih =>
    rw [List.all_cons, Bool.and_eq_true] at h
    unfold Tab.get
    split_ifs
    · exact h.1
    · exact hd
    · exact ih h.2

/-- The waiting requests, slice by slice: none. -/
def State.idleSlices (s : State) : Prop := ∀ a, s.setWaits a = false

theorem State.idleSlices_of_noWaits {s : State} (h : s.noWaits = true) : s.idleSlices := by
  intro a
  have empty := Tab.get_of_all (p := fun sl : Slice => sl.waitQ.isEmpty) h (by decide : Slice.init.waitQ.isEmpty = true) (homeSlice a)
  rw [State.setWaits, State.slice, List.isEmpty_iff.mp empty, List.any_nil, Bool.and_false]
theorem Accessed.idleSlices {s u : State} (h : Accessed False s u) (k : s.idleSlices) : u.idleSlices := fun a => (h.setWaits a).trans (k a)

theorem State.turn_of_idle {s : State} (h : s.idleSlices) (a : Nat) : s.turn a = s := by
  unfold State.turn
  cases (s.slice (homeSlice a)).waitQ.length with
  | zero => rfl
  | succ n => rw [State.settle, h a]; rfl

theorem Accessed.countHallway {served : Prop} {s u : State} (h : Accessed served s u) (src dst n : Nat) : Accessed served s (u.countHallway src dst n) := by
  unfold State.countHallway
  refine h.ite ?_ _
  split
  · exact h
  · next l hl =>
    have stands {m : RegName} (hb : m.block = .hallway) (hj : 0 < m.desc.count) : m.Stands l 0 := by
      have hm := List.mem_of_find?_eq_some hl
      have small : l < 6 := by simp only [List.mem_cons, List.not_mem_nil, or_false] at hm; omega
      exact RegName.stands (by rw [hb]; exact small) (by unfold RegName.inInstance; rw [hb]) hj
    exact (h.bump (f := F.hallwayBytesUpCount) (stands rfl (by decide)) n).ite (h.bump (f := F.hallwayBytesDownCount) (stands rfl (by decide)) n) _

section
variable {s u : State} (h : Accessed False s u) (idle : s.idleSlices)
include h idle

/-- A read of memory changes no byte and finds the bytes that are there (R206). -/
theorem Accessed.memTouch {cls : Nat} (hc : cls < 8) (a n : Nat) : Accessed False s (u.memTouch cls a n) := by
  refine h.each _ _ (fun t pc ht => ?_)
  dsimp only
  rw [State.turn_of_idle (ht.idleSlices idle)]
  obtain ⟨v, hv⟩ := Option.isSome_iff_exists.mp (t.sectorAccess_isSome pc.1 cls .read)
  rw [hv]
  exact ht.sectorAccess (.inl hc) .read false hv
theorem Accessed.memRead {cls : Nat} (hc : cls < 8) (a n : Nat) : Accessed False s (u.memRead cls a n).1 ∧ (u.memRead cls a n).2.1 = s.bytes a n :=
  ⟨h.memTouch idle hc a n, State.bytes_of_mem (h.memTouch idle hc a n).sameMem a n⟩

end

/-- The one piece of a sector. -/
theorem sectorPieces_sector {a : Nat} (ha : a % 32 = 0) : sectorPieces a 32 = [(a, 32)] := by
  have one : (a % 32 + 32 + 31) / 32 = 1 := by omega
  simp only [sectorPieces, one, List.range_one, List.map_cons, List.map_nil]
  congr 2 <;> omega

section
variable {s : State} (idle : s.idleSlices) {a cls : Nat} (hc : cls < 8) (stays : s.discards a = false)
include idle hc stays

/-- A write of a whole sector writes its 32 bytes after an access, and the sector's mark of poison (R206, R209). -/
theorem State.memWrite_sector (ha : a % 32 = 0) {data : List Byte} (len : data.length = 32) (p : Bool) :
    ∃ t, Accessed False s t ∧ s.memWrite cls a data p = (t.setBytes a data).setPoison a p := by
  obtain ⟨t, ht⟩ := Option.isSome_iff_exists.mp (s.sectorAccess_isSome a cls .whole)
  have kept := (Accessed.refl (served := False) (s := s)).sectorAccess (.inl hc) .whole false ht
  refine ⟨t, kept, ?_⟩
  have all : ((data.drop (a - a)).take 32) = data := by rw [Nat.sub_self, List.drop_zero, List.take_of_length_le (Nat.le_of_eq len)]
  rw [State.memWrite, len, sectorPieces_sector ha, State.each, List.foldl_cons, List.foldl_nil, State.turn_of_idle idle, all]
  simp [State.writePiece, stays, len, ha, ht]

/-- A reduction of one sector's elements is made in memory after an access (R214). -/
theorem State.memReduce_sector (ha : a % 32 = 0) {size : Nat} (csize : Nat) {xs : List Nat} (full : 32 / size = xs.length) (nonempty : xs ≠ []) :
    ∃ t, Accessed False s t ∧ s.memReduce cls a size csize xs = t.applyInts a size csize xs := by
  obtain ⟨t, ht⟩ := Option.isSome_iff_exists.mp (s.sectorAccess_isSome a cls .reduce)
  have kept := (Accessed.refl (served := False) (s := s)).sectorAccess (.inl hc) .reduce false ht
  refine ⟨_, kept.bump (f := F.sliceReductionsCount) (j := 0) (stands_slice (homeSlice_lt a)) 1, ?_⟩
  have one : elemPieces size xs.length a xs = [(a, xs)] := by
    obtain ⟨x, ys, rfl⟩ := List.exists_cons_of_ne_nil nonempty
    have k : (32 - a % 32) / size = (x :: ys).length := by rw [ha]; exact full
    show (a, (x :: ys).take ((32 - a % 32) / size)) :: elemPieces size ys.length (a + size * ((32 - a % 32) / size)) ((x :: ys).drop ((32 - a % 32) / size)) = _
    rw [k, List.take_length, List.drop_length]
    cases ys.length <;> rfl
  rw [State.memReduce, one, State.each, List.foldl_cons, List.foldl_nil, State.turn_of_idle idle]
  simp [State.reduceInts, stays, ht]

end

/-! ## Accesses while waiting requests are served (R207, R214, R217) -/

section
variable {s u : State} (h : Accessed True s u)
include h

theorem Accessed.setBytes (a : Nat) (l : List Byte) : Accessed True s (u.setBytes a l) := by rw [State.setBytes_eq]; exact h.mem _ trivial
theorem Accessed.recordDiscard (a : Nat) : Accessed True s (u.recordDiscard a) := h.log _ _ _ _ _ _ (by decide)

variable (cls a : Nat) (pend : Bool)

theorem Accessed.writePiece (data : List Byte) (p : Bool) {t : State} (ht : u.writePiece cls a data p pend = some t) : Accessed True s t := by
  unfold State.writePiece at ht
  dsimp only at ht
  split at ht
  · cases ht; exact h.recordDiscard a
  · split at ht
    · cases ht
    · next v hv =>
      cases ht
      have wrote := (h.sectorAccess (.inr trivial) _ pend hv).setBytes a data
      exact (wrote.poison _).ite wrote _
theorem Accessed.reduceInts (size csize : Nat) (xs : List Nat) {t : State} (ht : u.reduceInts cls a size csize xs pend = some t) : Accessed True s t := by
  unfold State.reduceInts at ht
  split at ht
  · cases ht; exact h.recordDiscard a
  · split at ht
    · cases ht
    · next v hv =>
      cases ht
      exact ((h.sectorAccess (.inr trivial) _ pend hv).bump (f := F.sliceReductionsCount) (j := 0) (stands_slice (homeSlice_lt a)) 1).each _ _
        (fun t _ k => k.setBytes _ _)
theorem Accessed.reduceStats (r : Stats) {t : State} (ht : u.reduceStats cls a r pend = some t) : Accessed True s t := by
  unfold State.reduceStats at ht
  split at ht
  · cases ht; exact h.recordDiscard a
  · split at ht
    · cases ht
    · next v hv =>
      cases ht
      exact ((h.sectorAccess (.inr trivial) _ pend hv).bump (f := F.sliceReductionsCount) (j := 0) (stands_slice (homeSlice_lt a)) 1).setBytes _ _
theorem Accessed.writePieces (data : List Byte) (p : Bool) {t : State} (ht : u.writePieces cls a data p pend = some t) : Accessed True s t := by
  unfold State.writePieces at ht
  generalize sectorPieces a data.length = l at ht
  induction l generalizing u with
  | nil => cases ht; exact h
  | cons pc l ih =>
    rw [List.foldl_cons, Option.bind_some] at ht
    cases hv : u.writePiece cls pc.1 ((data.drop (pc.1 - a)).take pc.2) p pend with
    | some v =>
      rw [hv] at ht
      exact ih (h.writePiece cls pc.1 pend _ p hv) ht
    | none =>
      have stuck (l : List (Nat × Nat)) : l.foldl (fun (r : Option State) pc =>
          r.bind (fun s => s.writePiece cls pc.1 ((data.drop (pc.1 - a)).take pc.2) p pend)) none = none := by
        induction l with
        | nil => rfl
        | cons _ _ ih => exact ih
      rw [hv, stuck] at ht
      cases ht

end

section
variable {s u : State} (h : Accessed True s u)
include h

theorem Accessed.answerRead (a : Nat) : Accessed True s (u.answerRead a) := by
  unfold State.answerRead
  dsimp only
  split
  · exact h.slice _ _ rfl (.inr trivial)
  · exact h.emit _ trivial
theorem Accessed.serveReq (r : SliceReq) {t : State} (ht : u.serveReq r = some t) : Accessed True s t := by
  unfold State.serveReq at ht
  split at ht
  · obtain ⟨v, hv, e⟩ := Option.map_eq_some_iff.mp ht
    cases e
    exact (h.sectorAccess (.inr trivial) _ _ hv).answerRead _
  · exact h.writePieces _ _ _ _ _ ht
  · exact h.reduceInts _ _ _ _ _ _ ht
  · exact h.reduceStats _ _ _ _ ht
theorem Accessed.takeReq (r : SliceReq) : Accessed True s (u.takeReq r) := by
  have waits : Accessed True s (u.setSlice (homeSlice r.addr) { u.slice (homeSlice r.addr) with waitQ := (u.slice (homeSlice r.addr)).waitQ ++ [r] }) :=
    h.slice _ _ rfl (.inr trivial)
  unfold State.takeReq
  refine waits.ite ?_ _
  cases hr : u.serveReq r with
  | none => exact waits
  | some t => exact h.serveReq r hr
theorem Accessed.retryWaiting (n : Nat) : Accessed True s (u.retryWaiting n) :=
  (h.slice n { u.slice n with waitQ := [] } rfl (.inr trivial)).each _ _ (fun _ r k => k.takeReq r)
theorem Accessed.settle (a k : Nat) : Accessed True s (u.settle a k) := by
  induction k generalizing u with
  | zero => exact h
  | succ k ih => exact (ih ((h.freeOldest (homeSlice_lt a)).retryWaiting _)).ite h _
theorem Accessed.turn (a : Nat) : Accessed True s (u.turn a) := h.settle a _

/-- A statistics record that a Tutor merges (R165, R220). -/
theorem Accessed.statsFrom (st a : Nat) (r : Stats) : Accessed True s (u.statsFrom st a r) := by
  unfold State.statsFrom
  refine Accessed.ite ?_ ?_ _
  · unfold State.dropAtLink
    split
    · exact h
    · exact h.log _ _ _ _ _ _ (by decide)
  · refine Accessed.countHallway ?_ _ _ _
    unfold State.memStats
    dsimp only
    cases hr : (u.turn a).reduceStats 7 a r false with
    | none => exact h.turn a
    | some t => exact (h.turn a).reduceStats _ _ _ _ hr

end

end Sys2Proof.Machine
end

section
/-!
SUPPORT. The gather engine's sectors: one is sent, one returns, and what it does to memory (R146 to R151).
-/
namespace Sys2Proof.Machine

theorem State.markLesson_cores (s : State) (cl : Nat) (f : Lesson → Lesson) : (s.markLesson cl f).cores = s.cores := by
  unfold State.markLesson; split <;> rfl
theorem State.markLesson_mem (s : State) (cl : Nat) (f : Lesson → Lesson) : (s.markLesson cl f).mem = s.mem := by
  unfold State.markLesson; split <;> rfl

/-! ## A sector is sent (R148) -/

section
variable (c : CoreId) (s : State) (g : Stage) (r : GathRun) (x : GSector) (rest : List GSector) (stage : (s.core c).stage = some g)
  (runs : (s.core c).gathRun = some r) (next : r.toSend = x :: rest) (room : r.outst.length < 64)
include stage runs next room

theorem gatherSectorRequest_reached (reached : s.coreReaches c x.addr = true) : Completes (.gatherSectorRequest c) s (fun u =>
    (u.core c).gathRun = some { r with toSend := rest, outst := r.outst ++ [((s.core c).nextId, s.readSector c g r.eng x)] } ∧ u.mem = s.mem) := by
  let sent := s.setCore c { s.core c with
    gathRun := some { r with toSend := rest, outst := r.outst ++ [((s.core c).nextId, s.readSector c g r.eng x)] }, nextId := (s.core c).nextId + 1 }
  let u := match r.eng.op with
    | .eng .scat _ => sent.markLesson (clusterOfCore c) (fun l => { l with wroteMemory := true })
    | _ => sent
  have step : gatherSectorRequest s c = u := by
    unfold gatherSectorRequest
    rw [State.withStage_of_some stage, runs]
    simp only [next, ge_iff_le, Nat.not_le.mpr room, if_false, reached, Bool.not_true, Bool.false_eq_true]
    rfl
  have kept : u.cores = sent.cores ∧ u.mem = s.mem := by
    dsimp only [u]
    split
    · exact ⟨State.markLesson_cores _ _ _, State.markLesson_mem _ _ _⟩
    · exact ⟨rfl, rfl⟩
  refine ⟨u, by rw [← step]; rfl, ?_, kept.2⟩
  rw [State.core, kept.1]
  exact congrArg Core.gathRun (State.core_setCore_same _ _ _)

theorem gatherSectorRequest_unreached (unreached : s.coreReaches c x.addr = false) : Completes (.gatherSectorRequest c) s (fun u =>
    (u.core c).gathRun = none ∧ u.mem = s.mem ∧ TakesFault (s.setCore c { s.core c with gathRun := none }) u c r.eng.seq
      ⟨r.eng.thread, r.eng.pc, r.eng.slotB, true, 0x04, x.addr⟩) := by
  let f : ThreadFault := ⟨r.eng.thread, r.eng.pc, r.eng.slotB, true, 0x04, x.addr⟩
  let s1 := s.setCore c { s.core c with gathRun := none }
  have step : gatherSectorRequest s c = s1.raise c r.eng.seq f := by
    unfold gatherSectorRequest
    rw [State.withStage_of_some stage, runs]
    simp only [next, ge_iff_le, Nat.not_le.mpr room, if_false, unreached, Bool.not_false, if_true]
    rfl
  refine ⟨s1.raise c r.eng.seq f, by rw [← step]; rfl, ?_, ?_, State.raise_takesFault s1 c r.eng.seq f (show 4 < 256 by decide)⟩
  · rw [State.raise_eq]
    refine (congrArg Core.gathRun (State.core_setCore_same _ _ _)).trans ?_
    exact congrArg Core.gathRun (State.core_setCore_same s c _)
  · rw [State.raise_eq]; rfl

end

/-! ## A sector returns (R148) -/

theorem gatherSectorReturn_completes (c : CoreId) (n : Nat) (s : State) (g : Stage) (r : GathRun) (x : GSector) (stage : (s.core c).stage = some g)
    (runs : (s.core c).gathRun = some r) (found : r.outst.find? (fun y => y.1 == n) = some (n, x)) (first : r.behind n x = false)
    (ready : s.sliceReady x.addr = true) : Completes (.gatherSectorReturn c n) s (fun u =>
      u.mem = (s.sectorDone c g r.eng x).mem ∧ (u.core c).gathRun = gatherLeft { r with outst := r.outst.filter (fun y => y.1 != n) }) := by
  have step : gatherSectorReturn s c n = (s.sectorDone c g r.eng x).setCore c
      { (s.sectorDone c g r.eng x).core c with gathRun := gatherLeft { r with outst := r.outst.filter (fun y => y.1 != n) } } := by
    unfold gatherSectorReturn
    rw [State.withStage_of_some stage, runs]
    simp only [found, first, ready, Bool.not_true, Bool.or_false, Bool.false_eq_true, if_false]
  exact ⟨_, congrArg Host.Outcome.next step, rfl, congrArg Core.gathRun (State.core_setCore_same _ _ _)⟩

/-! ## What a sector does (R149 to R151) -/

/-- A reduction in memory leaves the registers and the slices. -/
theorem State.applyInts_same (s : State) (a size csize : Nat) (xs : List Nat) :
    (s.applyInts a size csize xs).regs = s.regs ∧ (s.applyInts a size csize xs).slices = s.slices :=
  State.each_induct (fun u => u.regs = s.regs ∧ u.slices = s.slices) _ _ _ ⟨rfl, rfl⟩
    (fun t _ h => ⟨(State.setBytes_regs t _ _).trans h.1, (State.setBytes_slices t _ _).trans h.2⟩)
theorem State.discards_of_same {s u : State} (h : u.regs = s.regs ∧ u.slices = s.slices) (a : Nat) : u.discards a = s.discards a := by
  simp only [State.discards, State.fld, State.reg, State.slice, h.1, h.2]

/-- Bytes written to the core store are read there. -/
theorem State.bytes_storeWrite (s : State) (c off : Nat) (data : List Byte) (p : Bool) :
    (s.storeWrite c off data p).bytes (coreStoreKey (s.physCore c) off) data.length = data := by
  have wrote := State.bytes_setBytes s (coreStoreKey (s.physCore c) off) data
  unfold State.storeWrite
  dsimp only
  split_ifs
  · exact wrote
  · exact wrote
  · exact wrote

section
variable (s : State) (idle : s.idleSlices) (c : CoreId) (g : Stage) (o : EngOp) (e : EFields) (x : GSector)
include idle

/-- Bytes read from memory land in the core store at the place asked for (R149, R169). -/
theorem State.bytes_landed {cls : Nat} (hc : cls < 8) (a off n src dst : Nat) (lost : Bool) :
    ((((s.memRead cls a n).1.storeWrite c off (s.memRead cls a n).2.1 ((s.memRead cls a n).2.2 || lost)).countHallway src dst n).bytes
      (coreStoreKey (s.physCore c) off) n) = s.bytes a n := by
  obtain ⟨kept, data⟩ := (Accessed.refl (served := False) (s := s)).memRead idle hc a n
  have count := (Accessed.refl (served := False) (s := (s.memRead cls a n).1.storeWrite c off (s.memRead cls a n).2.1 ((s.memRead cls a n).2.2 || lost))).countHallway src dst n
  rw [State.bytes_of_mem count.sameMem, ← kept.physCore c]
  have wrote := State.bytes_storeWrite (s.memRead cls a n).1 c off (s.memRead cls a n).2.1 ((s.memRead cls a n).2.2 || lost)
  rw [data, State.bytes_length] at wrote
  rw [data, wrote]

/-- A sector of a GATH lands in its tile row (R149). -/
theorem State.sectorDone_gath (op : o.op = .eng .gath e) :
    (s.sectorDone c g o x).bytes (coreStoreKey (s.physCore c) (tileByte (o.dst g) x.row x.pos)) 32 = s.bytes x.addr 32 := by
  have tile : gatherTile g o = (o.dst g, 2) := by rw [gatherTile, op]
  have landed := s.bytes_landed idle c (cls := 2) (by decide) x.addr (tileByte (o.dst g) x.row x.pos) 32 (addrStack x.addr) (stackOfCore c)
    (s.hallwayDown (stackOfCore c) (addrStack x.addr))
  rw [← landed]
  unfold State.sectorDone
  rw [tile, op]

variable (op : o.op = .eng .scat e) (ha : x.addr % 32 = 0) (len : x.data.length = 32) (stays : s.discards x.addr = false)
include op ha len stays

/-- A sector of a SCAT STORE replaces its 32 bytes (R150). -/
theorem State.sectorDone_store (stores : scatAdds e = false) :
    (s.sectorDone c g o x).bytes x.addr 32 = x.data ∧ ∀ a, (a < x.addr ∨ x.addr + 32 ≤ a) → (s.sectorDone c g o x).byte a = s.byte a := by
  have count := (Accessed.refl (served := False) (s := s)).countHallway (stackOfCore c) (addrStack x.addr) 32
  obtain ⟨t, ht, wrote⟩ := State.memWrite_sector (count.idleSlices idle) (cls := 2) (by decide) ((count.discards _).trans stays) ha len x.poison
  have done : s.sectorDone c g o x = (t.setBytes x.addr x.data).setPoison x.addr x.poison := by
    rw [← wrote]
    unfold State.sectorDone
    rw [op]
    simp only [stores]
  rw [done]
  refine ⟨?_, fun a h => ?_⟩
  · have read := State.bytes_setBytes t x.addr x.data
    rw [len] at read
    exact read
  · exact (State.byte_setBytes_outside t x.addr x.data a (by rw [len]; exact h)).trans (State.byte_of_mem (ht.sameMem.trans count.sameMem) a)

/-- A sector of a SCAT ADD adds its elements to those in memory (R151). -/
theorem State.sectorDone_add (size : Nat) (adds : scatAdds e = true) (fmt : addSize (o.srcB g).d.fmt = some size) :
    (∀ i, i < 32 / size → (s.sectorDone c g o x).num (x.addr + size * i) size
        = (s.num (x.addr + size * i) size + ofBytes ((x.data.drop (size * i)).take size)) % 2 ^ (8 * size))
      ∧ (∀ a, (a < x.addr ∨ x.addr + 32 ≤ a) → (s.sectorDone c g o x).byte a = s.byte a)
      ∧ (x.poison = true → (s.sectorDone c g o x).poisoned x.addr = true) := by
  have sizes : size = 4 ∨ size = 8 := by
    revert fmt; unfold addSize; split <;> simp <;> omega
  have count := (Accessed.refl (served := False) (s := s)).countHallway (stackOfCore c) (addrStack x.addr) 32
  have elems : (sectorElems size x.data).length = 32 / size := by simp [sectorElems, len]
  have whole : size * (32 / size) = 32 := by obtain rfl | rfl := sizes <;> rfl
  have some' : sectorElems size x.data ≠ [] := by
    intro h
    rw [h] at elems
    obtain rfl | rfl := sizes <;> exact absurd elems (by decide)
  obtain ⟨t, ht, added⟩ := State.memReduce_sector (count.idleSlices idle) (cls := 2) (by decide) ((count.discards _).trans stays) ha size elems.symm some'
  have mem : t.mem = s.mem := ht.sameMem.trans count.sameMem
  have same := t.applyInts_same x.addr size size (sectorElems size x.data)
  generalize hv : t.applyInts x.addr size size (sectorElems size x.data) = v at same added
  have there : v.discards x.addr = false := (State.discards_of_same same x.addr).trans ((ht.discards _).trans ((count.discards _).trans stays))
  have done : s.sectorDone c g o x = if x.poison then v.setPoison x.addr true else v := by
    unfold State.sectorDone
    rw [op]
    have tile : (gatherTile g o).1 = o.srcB g := by rw [gatherTile, op]
    simp only [adds, tile, fmt, added, there, Bool.not_false, Bool.and_true]
  have bytes (a : Nat) : (s.sectorDone c g o x).byte a = v.byte a := by rw [done]; split <;> rfl
  refine ⟨fun i hi => ?_, fun a h => ?_, fun p => ?_⟩
  · have elem : (sectorElems size x.data)[i]? = some (ofBytes ((x.data.drop (size * i)).take size)) := by
      simp [sectorElems, len, hi]
    rw [State.num, State.bytes_of_byte (fun a _ _ => bytes a), ← State.num, ← hv, t.applyInts_num x.addr size size _ elem, unsigned_add_signed,
      State.num_of_mem mem]
  · rw [bytes a, ← hv, t.applyInts_outside x.addr size size _ (by rw [elems, whole]; exact h), State.byte_of_mem mem]
  · rw [done, if_pos p]; simp [State.poisoned, State.setPoison]

end

theorem addSize_eq (fmt : Nat) : addSize fmt = if fmt = 9 ∨ fmt = 0xA then some 4 else if fmt = 0xC then some 8 else none := by
  unfold addSize
  split
  · rfl
  · rfl
  · rfl
  · next h9 hA hC => rw [if_neg (fun h => h.elim h9 hA), if_neg hC]

end Sys2Proof.Machine

namespace Sys2Proof
open Machine

/-- Settles O22: each command by its own equation, and each sector by what an access of its slice leaves. -/
theorem gatherSectors : Obligations.GatherSectors :=
  ⟨fun c s g r x rest stage runs next room =>
      ⟨gatherSectorRequest_reached c s g r x rest stage runs next room, gatherSectorRequest_unreached c s g r x rest stage runs next room⟩,
    gatherSectorReturn_completes,
    fun s c g o e x op idle => s.sectorDone_gath (State.idleSlices_of_noWaits idle) c g o e x op,
    fun s c g o e x op stores idle ha len stays => s.sectorDone_store (State.idleSlices_of_noWaits idle) c g o e x op ha len stays stores,
    fun s c g o e x size op adds fmt idle ha len stays => s.sectorDone_add (State.idleSlices_of_noWaits idle) c g o e x op ha len stays size adds fmt,
    addSize_eq⟩

end Sys2Proof
end

section
/-!
SUPPORT. The stream operations as they issue in slot B: SARM, SWAIT, SREL and SQRY (R88, R98, R168, R172).
-/
namespace Sys2Proof.Machine

/-! ## An operation of slot B beside a no-op -/

/-- A bundle whose slot A holds a no-op issues: the thread moves on, then slot B takes effect, and a count of bundles goes up. -/
theorem issued_slotB {s : State} {c : CoreId} {n : Fin 16} {g : Stage} {t : Thread} {b : Issue} {o : Op} (hn : b.other = .nop) (hb : b.slotB = true) :
    ∃ w, ThreadOnly s w c n ∧ (w.core c).thread n = advanced t (bundleOf b o) { (s.core c).thread n with state := .ready }
      ∧ issued s c n g t (bundleOf b o) = (effect w c n g t true o).bump F.coreIssueBundlesCount (coreInst c) 0 1 := by
  have ha : (bundleOf b o).a = .nop := by simp [bundleOf, hb, hn]
  have hbb : (bundleOf b o).b = o := by simp [bundleOf, hb]
  have hl : (bundleOf b o).li = false := by simp [bundleOf, hb]
  refine ⟨(s.onThread c n (fun x => advanced t (bundleOf b o) { x with state := .ready })).onThread c n id,
    ((ThreadOnly.refl s c n).onThread _).onThread id, ?_, ?_⟩
  · rw [State.thread_onThread_same, State.thread_onThread_same]; rfl
  · simp only [issued, hl, ha, hbb, effect_nop]; rfl

/-- What holds of every state that slot B's operation makes of a state in which the thread has moved on holds after the row. -/
theorem completes_slotB {i : Instr} {b : Issue} {o : Op} {s : State} {g : Stage} {t : Thread} {P : State → Prop} (row : slotRow i = some (b, o))
    (hn : b.other = .nop) (hb : b.slotB = true) (issues : Issues s b.at' (bundleOf b o) g t)
    (h : ∀ w, ThreadOnly (s.judged b.at') w b.at'.core b.at'.thread →
      (w.core b.at'.core).thread b.at'.thread = advanced t (bundleOf b o) { t with state := .ready } →
      P ((effect w b.at'.core b.at'.thread g t true o).bump F.coreIssueBundlesCount (coreInst b.at'.core) 0 1)) : Completes i s P := by
  obtain ⟨w, only, thread, done⟩ := issued_slotB (s := s.judged b.at') (c := b.at'.core) (n := b.at'.thread) (g := g) (t := t) (o := o) hn hb
  rw [State.thread_of_runnable issues.runs] at thread
  refine ⟨_, exec_slotRow row s, ?_⟩
  rw [issueBundle_of_issues issues, done]
  exact h w only thread

/-- The stage of a bundle that comes to issue is the one that runs on the core. -/
theorem State.stage_of_runnable {s : State} {c : CoreId} {n : Fin 16} {g : Stage} {t : Thread} (h : s.runnable c n = some (g, t)) :
    (s.core c).stage = some g := by
  simp only [State.runnable] at h
  split at h
  · cases h
  · next g' hg =>
    split at h
    · cases h; exact hg
    · cases h

theorem ThreadOnly.issueOrder {s u : State} {c : CoreId} {n : Fin 16} (h : ThreadOnly s u c n) : u.issueOrder = s.issueOrder := by rw [h.fields]

/-- The core of a state that differs in one thread. -/
theorem ThreadOnly.dyn {s u : State} {c : CoreId} {n : Fin 16} (h : ThreadOnly s u c n) (d : Nat) : (u.core c).dyn d = (s.core c).dyn d := by
  obtain ⟨l, hl⟩ := h.core
  rw [hl]; rfl

/-! ## A core whose thread and descriptor change -/

theorem State.core_onThread_same (s : State) (c : CoreId) (n : Fin 16) (f : Thread → Thread) :
    (s.onThread c n f).core c = (s.core c).setThread n (f ((s.core c).thread n)) := State.core_setCore_same _ _ _
theorem Core.dyn_setThread (co : Core) (n d : Nat) (t : Thread) : (co.setThread n t).dyn d = co.dyn d := rfl
theorem Core.thread_setDyn (co : Core) (d n : Nat) (y : StreamDyn) : (co.setDyn d y).thread n = co.thread n := rfl
theorem Core.dyn_setDyn_same (co : Core) (d : Nat) (y : StreamDyn) : (co.setDyn d y).dyn d = y := Tab.get_set_same _ _ _ _
theorem Core.dyn_setDyn_other (co : Core) {d e : Nat} (y : StreamDyn) (h : e ≠ d) : (co.setDyn d y).dyn e = co.dyn e := Tab.get_set_other _ _ _ _ h

/-! ## SARM and SQRY -/

/-- What SARM takes for the run's base and count. -/
def armBase (f : SFields) (t : Thread) (y : StreamDyn) : Nat :=
  if bitOf f.func.toNat 11 then bits (t.rx f.xa).toNat 0 50 else (match y.latched with | some (a, _) => a | none => y.base)
def armCount (f : SFields) (sd : StreamDesc) : Nat := if bits f.func.toNat 0 11 = 0 then sd.count else bits f.func.toNat 0 11

/-- SARM of a core: the status, the descriptor armed, and whether it was refused. -/
theorem Core.streamOp_arm (c : Core) (g : Stage) (n : Fin 16) (f : SFields) (t : Thread) (by' : BitVec 20 × Nat) :
    let r := (c.dyn f.desc.val).arm (armBase f t (c.dyn f.desc.val)) (armCount f (g.stream f.desc.val)) by'
    c.streamOp g n .arm f (t.rx f.xa) by' = (some (BitVec.ofNat 64 r.1), c.setDyn f.desc.val r.2, r.1 == 2) := by
  simp only [Core.streamOp, armBase, armCount, beq_iff_eq] <;> rfl

/-- SWAIT gives the thread the tile register of the next buffer, and the buffer to the thread (R172). -/
theorem Core.takeBuffer_spec (c : Core) (g : Stage) (d : Nat) (n : Fin 16) (td : Nat) :
    (c.takeBuffer g d n td).thread n = { c.thread n with t := Tab.set 0 (c.thread n).t td (BitVec.ofNat 64 (bufferReg g (g.stream d) (c.dyn d).taken)) }
      ∧ ((c.takeBuffer g d n td).dyn d).taken = (c.dyn d).taken + 1 ∧ ((c.takeBuffer g d n td).dyn d).held = (c.dyn d).held ++ [(c.dyn d).taken] := by
  have dyn (y : StreamDyn) (slots : List Nat) (o : Byte) (t : Thread) : (((c.setDyn d y).setOwner slots o).setThread n t).dyn d = y := Core.dyn_setDyn_same c d y
  unfold Core.takeBuffer
  dsimp only
  rw [dyn]
  refine ⟨Core.thread_setThread_same _ _ _, ?_, ?_⟩
  · split <;> rfl
  · split <;> rfl

section
variable {b : Issue} {f : SFields} {s : State} {g : Stage} {t : Thread} (hn : b.other = .nop) (hb : b.slotB = true)
include hn hb

/-- SQRY reads the status word (R172). -/
theorem sqry_completes (issues : Issues s b.at' (bundleOf b (.stream .qry f)) g t) : Completes (.sqry b f) s (fun u =>
    u.mem = s.mem ∧ (u.threadAt b.at').pc = t.pc + 16
      ∧ (u.core b.at'.core).dyn f.desc.val = ((s.judged b.at').core b.at'.core).dyn f.desc.val
      ∧ (u.threadAt b.at').rx f.rd = if f.rd = 0 then 0 else
        BitVec.ofNat 64 ((((s.judged b.at').core b.at'.core).dyn f.desc.val).status (g.stream f.desc.val))) := by
  refine completes_slotB rfl hn hb issues (fun w only thread => ?_)
  have unfolded : effect w b.at'.core b.at'.thread g t true (.stream .qry f) = (w.setCore b.at'.core (w.core b.at'.core)).onThread b.at'.core b.at'.thread
      (fun x => x.wx f.rd (BitVec.ofNat 64 (((w.core b.at'.core).dyn f.desc.val).status (g.stream f.desc.val)))) := rfl
  rw [unfolded, only.dyn]
  have core (u : State) : (u.bump F.coreIssueBundlesCount (coreInst b.at'.core) 0 1).core b.at'.core = u.core b.at'.core := rfl
  simp only [State.threadAt, core, State.core_onThread_same, State.core_setCore_same, Core.thread_setThread_same, Core.dyn_setThread, thread, only.dyn]
  exact ⟨only.mem.trans (State.judged_mem _ _), by rw [Thread.pc_wx]; exact advanced_bundleOf_pc _ hn rfl, trivial, Thread.rx_wx_same _ _ _⟩

/-- SARM writes the status that the descriptor answers, arms it, and counts a refusal (R168). -/
theorem sarm_completes (issues : Issues s b.at' (bundleOf b (.stream .arm f)) g t) : Completes (.sarm b f) s (fun u =>
    let y := ((s.judged b.at').core b.at'.core).dyn f.desc.val
    let r := y.arm (armBase f t y) (armCount f (g.stream f.desc.val)) (t.pc, t.seq)
    u.mem = s.mem ∧ (u.threadAt b.at').pc = t.pc + 16 ∧ (u.core b.at'.core).dyn f.desc.val = r.2
      ∧ (u.threadAt b.at').rx f.rd = (if f.rd = 0 then 0 else BitVec.ofNat 64 r.1)
      ∧ (r.1 = 2 → u.fld F.tutorRearmOverrunsCount (stackOfCore b.at'.core) = min (s.fld F.tutorRearmOverrunsCount (stackOfCore b.at'.core) + 1) (2 ^ 32 - 1))) := by
  refine completes_slotB rfl hn hb issues (fun w only thread => ?_)
  dsimp only
  rw [← only.dyn f.desc.val]
  have arms := Core.streamOp_arm (w.core b.at'.core) g b.at'.thread f t (t.pc, t.seq)
  dsimp only at arms
  generalize ((w.core b.at'.core).dyn f.desc.val).arm (armBase f t ((w.core b.at'.core).dyn f.desc.val)) (armCount f (g.stream f.desc.val)) (t.pc, t.seq) = r at arms ⊢
  let v := (w.setCore b.at'.core ((w.core b.at'.core).setDyn f.desc.val r.2)).onThread b.at'.core b.at'.thread (fun x => x.wx f.rd (BitVec.ofNat 64 r.1))
  have unfolded : effect w b.at'.core b.at'.thread g t true (.stream .arm f)
      = if r.1 == 2 then v.bumpSat F.tutorRearmOverrunsCount (stackOfCore b.at'.core) 0 1 else v := by
    simp only [effect, arms]
    rfl
  have stack : stackOfCore b.at'.core < 4 := by have := b.at'.core.isLt; unfold stackOfCore; omega
  have core : ((effect w b.at'.core b.at'.thread g t true (.stream .arm f)).bump F.coreIssueBundlesCount (coreInst b.at'.core) 0 1).core b.at'.core = v.core b.at'.core := by
    rw [unfolded]; split <;> rfl
  have mem : ((effect w b.at'.core b.at'.thread g t true (.stream .arm f)).bump F.coreIssueBundlesCount (coreInst b.at'.core) 0 1).mem = v.mem := by
    rw [unfolded]; split <;> rfl
  simp only [State.threadAt, core, mem, v, State.core_onThread_same, State.core_setCore_same, Core.thread_setThread_same, Core.dyn_setThread, Core.dyn_setDyn_same,
    Core.thread_setDyn, thread]
  refine ⟨only.mem.trans (State.judged_mem _ _), by rw [Thread.pc_wx]; exact advanced_bundleOf_pc _ hn rfl, trivial, Thread.rx_wx_same _ _ _, fun h => ?_⟩
  rw [unfolded, if_pos (by simp [h])]
  have apart := (RegsKept.refl (fun m _ _ => m = .tutorRearmOverruns) (v.bumpSat F.tutorRearmOverrunsCount (stackOfCore b.at'.core) 0 1)).setFld
    (f := F.coreIssueBundlesCount) ((v.bumpSat F.tutorRearmOverrunsCount (stackOfCore b.at'.core) 0 1).fld F.coreIssueBundlesCount (coreInst b.at'.core) + 1)
    (stands_coreInst b.at'.core) (by simp)
  refine (apart.fld (f := F.tutorRearmOverrunsCount) (stands_stack stack) rfl).trans ?_
  rw [State.fld_bumpSat_same (by decide)]
  have same : v.fld F.tutorRearmOverrunsCount (stackOfCore b.at'.core) = s.fld F.tutorRearmOverrunsCount (stackOfCore b.at'.core) := only.fld_judged _ _ _
  rw [same]

/-! ## SWAIT -/

/-- SWAIT takes the next buffer (R172). -/
theorem swait_completes (issues : Issues s b.at' (bundleOf b (.stream .wait f)) g t) : Completes (.swait b f) s (fun u =>
    let y := ((s.judged b.at').core b.at'.core).dyn f.desc.val
    u.mem = s.mem ∧ (u.threadAt b.at').pc = t.pc + 16
      ∧ (u.threadAt b.at').rt (Fin.ofNat 16 f.rd.val) = BitVec.ofNat 64 (bufferReg g (g.stream f.desc.val) y.taken)
      ∧ ((u.core b.at'.core).dyn f.desc.val).taken = y.taken + 1 ∧ ((u.core b.at'.core).dyn f.desc.val).held = y.held ++ [y.taken]
      ∧ (u.threadAt b.at').state = .ready) := by
  refine completes_slotB rfl hn hb issues (fun w only thread => ?_)
  dsimp only
  rw [← only.dyn f.desc.val]
  have unfolded : effect w b.at'.core b.at'.thread g t true (.stream .wait f)
      = w.setCore b.at'.core ((w.core b.at'.core).takeBuffer g f.desc.val b.at'.thread (f.rd.val % 16)) := rfl
  have core (u : State) : (u.bump F.coreIssueBundlesCount (coreInst b.at'.core) 0 1).core b.at'.core = u.core b.at'.core := rfl
  rw [unfolded]
  simp only [State.threadAt, core, State.core_setCore_same]
  obtain ⟨taker, taken, held⟩ := Core.takeBuffer_spec (w.core b.at'.core) g f.desc.val b.at'.thread (f.rd.val % 16)
  rw [taker, thread]
  exact ⟨only.mem.trans (State.judged_mem _ _), advanced_bundleOf_pc { t with state := .ready } hn rfl, Tab.get_set_same _ _ _ _, taken, held, rfl⟩

/-- SWAIT whose buffer is not there waits whole (R92, R172). -/
theorem swait_waits (runs : (s.judged b.at').runnable b.at'.core b.at'.thread = some (g, t))
    (registers : ((s.judged b.at').core b.at'.core).regsWait b.at'.thread (bundleOf b (.stream .wait f)) = false)
    (entries : ((s.judged b.at').core b.at'.core).entriesFree b.at'.thread (bundleOf b (.stream .wait f)) = true)
    (passes : checkBundle (s.judged b.at') b.at'.core b.at'.thread g t (bundleOf b (.stream .wait f)) = none)
    (missing : (((s.judged b.at').core b.at'.core).dyn f.desc.val).nextReady (g.stream f.desc.val) = false) : Completes (.swait b f) s (fun u =>
      u.threadAt b.at' = { t with state := .waitStream, waitOn := some (bundleOf b (.stream .wait f)) } ∧ OthersKept s u b.at'
        ∧ (u.core b.at'.core).dyn f.desc.val = ((s.judged b.at').core b.at'.core).dyn f.desc.val) := by
  have ha : (bundleOf b (.stream .wait f)).a = .nop := by simp [bundleOf, hb, hn]
  have hbb : (bundleOf b (.stream .wait f)).b = .stream .wait f := by simp [bundleOf, hb]
  have waits : issueBundle s b.at' (bundleOf b (.stream .wait f)) = (s.judged b.at').onThread b.at'.core b.at'.thread
      (fun x => { x with state := .waitStream, waitOn := some (bundleOf b (.stream .wait f)) }) := by
    unfold State.judged at *
    simp [issueBundle, runs, registers, entries, passes, ha, hbb, Core.storeWaits, Core.waitsStream, missing, Op.nop]
  have only : ThreadOnly (s.judged b.at') ((s.judged b.at').onThread b.at'.core b.at'.thread
      (fun x => { x with state := .waitStream, waitOn := some (bundleOf b (.stream .wait f)) })) b.at'.core b.at'.thread := (ThreadOnly.refl _ _ _).onThread _
  refine ⟨_, (exec_slotRow rfl s).trans (congrArg _ waits), ?_, ?_, only.dyn _⟩
  · rw [State.threadAt, State.thread_onThread_same, State.thread_of_runnable runs]
  · constructor
    case threads => exact fun m hm => (only.threads m hm).trans (State.judged_thread _ _ _)
    case cores => exact fun d hd => (only.cores d hd).trans (State.judged_core_other _ _ _ hd)
    case mem => exact only.mem.trans (State.judged_mem _ _)
    case hostMem => exact only.hostMem.trans (State.judged_hostMem _ _)
    case slate => exact only.slate.trans (State.judged_slate _ _)
    case poison => exact only.poison.trans (State.judged_poison _ _)
    case rowPoison => exact State.judged_rowPoison _ _

/-- SREL queues a release (R98, R172). -/
theorem srel_queues (issues : Issues s b.at' (bundleOf b (.stream .rel f)) g t) : Completes (.srel b f) s (fun u =>
    let j := s.judged b.at'
    let e := engOpOf j b.at'.core b.at'.thread t true (.stream .rel f)
    u.mem = s.mem ∧ (u.threadAt b.at').pc = t.pc + 16 ∧ (u.core b.at'.core).dyn f.desc.val = (j.core b.at'.core).dyn f.desc.val
      ∧ (u.core b.at'.core).streamQ = (j.core b.at'.core).streamQ ++ [e] ∧ (u.core b.at'.core).stage = some g
      ∧ (u.core b.at'.core).unfinished = (j.core b.at'.core).unfinished) := by
  have stage : ((s.judged b.at').core b.at'.core).stage = some g := State.stage_of_runnable issues.runs
  refine completes_slotB rfl hn hb issues (fun w only thread => ?_)
  have unfolded : effect w b.at'.core b.at'.thread g t true (.stream .rel f) =
      { w.setCore b.at'.core { w.core b.at'.core with
          streamQ := (w.core b.at'.core).streamQ ++ [engOpOf w b.at'.core b.at'.thread t true (.stream .rel f)] } with issueOrder := w.issueOrder + 1 } := rfl
  have captured : engOpOf w b.at'.core b.at'.thread t true (.stream .rel f) = engOpOf (s.judged b.at') b.at'.core b.at'.thread t true (.stream .rel f) := by
    simp only [engOpOf, only.issueOrder]
  have core : ((effect w b.at'.core b.at'.thread g t true (.stream .rel f)).bump F.coreIssueBundlesCount (coreInst b.at'.core) 0 1).core b.at'.core =
      { w.core b.at'.core with streamQ := (w.core b.at'.core).streamQ ++ [engOpOf w b.at'.core b.at'.thread t true (.stream .rel f)] } := by
    rw [unfolded]; exact State.core_setCore_same _ _ _
  obtain ⟨l, hl⟩ := only.core
  dsimp only
  rw [State.threadAt, core, captured]
  refine ⟨only.mem.trans (State.judged_mem _ _), ?_, only.dyn _, ?_, ?_, ?_⟩
  · exact (congrArg Thread.pc thread).trans (advanced_bundleOf_pc _ hn rfl)
  · rw [hl]
  · rw [hl]; exact stage
  · rw [hl]; rfl

end

/-- Slots given to an owner have it (R88). -/
theorem Core.owner_setOwner (c : Core) (slots : List Nat) (o : Byte) {sl : Nat} (h : sl ∈ slots) : Tab.get 0 (c.setOwner slots o).owner sl = o := by
  have kept (l : List Nat) (w : Tab Byte) (hw : Tab.get 0 w sl = o) : Tab.get 0 (l.foldl (fun w k => Tab.set 0 w k o) w) sl = o := by
    induction l generalizing w with
    | nil => exact hw
    | cons k l ih =>
      refine ih _ ?_
      by_cases e : sl = k
      · rw [e]; exact Tab.get_set_same _ _ _ _
      · exact (Tab.get_set_other _ _ _ _ e).trans hw
  unfold Core.setOwner
  generalize c.owner = w
  induction slots generalizing w with
  | nil => exact absurd h List.not_mem_nil
  | cons k l ih =>
    rw [List.foldl_cons]
    rcases List.mem_cons.mp h with rfl | hm
    · exact kept l _ (Tab.get_set_same _ _ _ _)
    · exact ih hm _

/-- A release gives the oldest held buffer and its slots back to the descriptor (R172). -/
theorem Core.release_of_held {c : Core} {g : Stage} {d m : Nat} {rest : List Nat} (held : (c.dyn d).held = m :: rest) : c.release g d =
    (c.setDyn d { c.dyn d with held := rest, outPend := if (g.stream d).dir = dirOut then (c.dyn d).outPend ++ [m] else (c.dyn d).outPend }).setOwner
      (bufferSlots g (g.stream d) m) (BitVec.ofNat 8 (0x40 + d)) := by
  simp only [Core.release, held, beq_iff_eq]
  by_cases out : (g.stream d).dir = dirOut
  · simp only [out, if_true]
  · simp only [out, if_false]

/-- A release with nothing of its thread before it gives the oldest held buffer back (R98, R172). -/
theorem Core.takeReleases_alone {c : Core} {g : Stage} {e : EngOp} {m : Nat} {rest : List Nat} (queue : c.streamQ = [e])
    (held : (c.dyn (streamDescOf e)).held = m :: rest) (first : ∀ o ∈ c.unfinished, o.thread ≠ e.thread) :
    ((c.takeReleases g).dyn (streamDescOf e)).held = rest
      ∧ ((c.takeReleases g).dyn (streamDescOf e)).outPend = (if (g.stream (streamDescOf e)).dir = dirOut then (c.dyn (streamDescOf e)).outPend ++ [m]
        else (c.dyn (streamDescOf e)).outPend)
      ∧ (∀ sl ∈ bufferSlots g (g.stream (streamDescOf e)) m, Tab.get 0 (c.takeReleases g).owner sl = BitVec.ofNat 8 (0x40 + streamDescOf e))
      ∧ (c.takeReleases g).streamQ = [] := by
  have ready : c.releaseReady g e = true := by
    have clear (slots : List Nat) : (c.unfinished.any (fun o => o.thread == e.thread && o.order < e.order && meets slots ((o.slots g).1 ++ (o.slots g).2))) = false := by
      rw [List.any_eq_false]
      intro o ho
      simp [first o ho]
    simp only [Core.releaseReady, queue, held, clear]
    simp
  have taken : c.takeReleases g = { c.release g (streamDescOf e) with streamQ := [] } := by
    simp [Core.takeReleases, queue, ready]
  rw [taken, Core.release_of_held held]
  generalize BitVec.ofNat 8 (0x40 + streamDescOf e) = owner
  generalize bufferSlots g (g.stream (streamDescOf e)) m = slots
  generalize hy : { c.dyn (streamDescOf e) with
    held := rest, outPend := if (g.stream (streamDescOf e)).dir = dirOut then (c.dyn (streamDescOf e)).outPend ++ [m] else (c.dyn (streamDescOf e)).outPend } = y
  have dyn : Core.dyn { (c.setDyn (streamDescOf e) y).setOwner slots owner with streamQ := [] } (streamDescOf e) = y := by
    show Tab.get StreamDyn.init (Tab.set StreamDyn.init c.streams (streamDescOf e) y) (streamDescOf e) = y
    exact Tab.get_set_same _ _ _ _
  rw [dyn, ← hy]
  exact ⟨rfl, rfl, fun sl h => Core.owner_setOwner (c.setDyn (streamDescOf e) y) slots owner h, rfl⟩

end Sys2Proof.Machine

namespace Sys2Proof
open Machine

/-- Settles O25: each row by what slot B's operation makes of the core, and the release by what the stream engine takes. -/
theorem streamOperations : Obligations.StreamOperations := by
  refine ⟨fun b f s g t hn hb issues => ?arm, fun b f s g t hn hb issues => ?wait, fun b f s g t => ?waits, fun b f s g t hn hb issues => ?rel,
    fun b f s g t hn hb issues => sqry_completes hn hb issues⟩
  case wait => exact swait_completes hn hb issues
  case waits => exact fun hn hb runs registers entries passes missing => swait_waits hn hb runs registers entries passes missing
  case arm =>
    obtain ⟨u, step, mem, pc, armed, status, overrun⟩ := sarm_completes hn hb issues
    refine ⟨u, step, mem, pc, fun running => ?_, fun full => ?_, fun not1 not2 => ?_⟩
    · simp only [StreamDyn.arm, running, if_true] at armed status
      exact ⟨status, congrArg StreamDyn.state armed, congrArg StreamDyn.latched armed⟩
    · have two : ¬ (2 : Fin 5) = 1 := by decide
      simp only [StreamDyn.arm, full, two, if_true, if_false] at armed status overrun
      exact ⟨status, armed, overrun trivial⟩
    · simp only [StreamDyn.arm, not1, not2, if_false] at armed status
      exact ⟨status.trans (ite_self _), congrArg StreamDyn.state armed, congrArg StreamDyn.base armed, congrArg StreamDyn.count armed,
        congrArg StreamDyn.done armed⟩
  case rel =>
    obtain ⟨u, step, mem, pc, dyn, queue, stage, unfinished⟩ := srel_queues hn hb issues
    refine ⟨u, step, mem, pc, dyn, queue, fun m rest held alone first => ?_⟩
    have taken : (u.judged b.at').core b.at'.core = (u.core b.at'.core).takeReleases g := by
      rw [State.judged, State.takeReleases, stage]; exact State.core_setCore_same _ _ _
    have released := Core.takeReleases_alone (g := g) (e := engOpOf (s.judged b.at') b.at'.core b.at'.thread t true (.stream .rel f)) (queue.trans (by rw [alone]; rfl)) ((congrArg StreamDyn.held dyn).trans held)
      (fun o ho => first o (unfinished ▸ ho))
    dsimp only
    rw [taken, ← dyn]
    exact released

end Sys2Proof
end

section
/-!
SUPPORT. What the Tutors change as lessons are stopped, reported and completed and as Bell episodes break: their own records, and what they send (R155, R178, R180 to R183).
-/
namespace Sys2Proof.Machine

/-! ## Tutor steps -/

/-- `u` is `s` after steps of the Tutors: their records of lessons and of Bells, the Timetable, the parts that wait at clusters, messages, what leaves over Corridor and Lummir, and the count of broken Bells. -/
inductive TutorOnly (s : State) : State → Prop where
  | refl : TutorOnly s s
  | lessons {u : State} (h : TutorOnly s u) (l : List Lesson) : TutorOnly s { u with lessons := l }
  | msgs {u : State} (h : TutorOnly s u) (l : List PartMsg) : TutorOnly s { u with partMsgs := l }
  | tutor {u : State} (h : TutorOnly s u) (k : Nat) (t : Tutor) : TutorOnly s (u.setTutor k t)
  | bell {u : State} (h : TutorOnly s u) (k : Nat) (b : Bell) : TutorOnly s (u.setBell k b)
  | waiting {u : State} (h : TutorOnly s u) (k : Nat) (l : List Nat) : TutorOnly s (u.setCluster k { u.cluster k with waiting := l })
  | corridor {u : State} (h : TutorOnly s u) (k : Corridor) : TutorOnly s { u with corridor := k }
  | port {u : State} (h : TutorOnly s u) (k : Nat) (p : FPort) : TutorOnly s (u.setPort k p)
  | broken {u : State} (h : TutorOnly s u) (st v : Nat) (hs : st < 4) : TutorOnly s (u.setReg .tutorBellsBroken st 0 v)

section
variable {s t u : State}

theorem TutorOnly.trans (h : TutorOnly s t) (k : TutorOnly t u) : TutorOnly s u := by
  induction k with
  | refl => exact h
  | lessons _ l ih => exact ih.lessons l
  | msgs _ l ih => exact ih.msgs l
  | tutor _ k t ih => exact ih.tutor k t
  | bell _ k b ih => exact ih.bell k b
  | waiting _ k l ih => exact ih.waiting k l
  | corridor _ k ih => exact ih.corridor k
  | port _ k p ih => exact ih.port k p
  | broken _ st v hs ih => exact ih.broken st v hs

/-- The fields of State that no Tutor step touches. -/
theorem TutorOnly.fields (h : TutorOnly s u) : u = { s with
    lessons := u.lessons, partMsgs := u.partMsgs, tutors := u.tutors, bells := u.bells, clusters := u.clusters, corridor := u.corridor
    ports := u.ports, regs := u.regs } := by
  induction h with
  | refl => rfl
  | lessons _ _ ih | msgs _ _ ih | corridor _ _ ih => rw [ih]
  | tutor _ _ _ ih => unfold State.setTutor; rw [ih]
  | bell _ _ _ ih => unfold State.setBell; rw [ih]
  | @waiting u _ _ _ ih => unfold State.setCluster; rw [ih]
  | port _ _ _ ih => unfold State.setPort; rw [ih]
  | broken _ _ _ _ ih => unfold State.setReg; rw [ih]

theorem TutorOnly.mem (h : TutorOnly s u) : u.mem = s.mem := by rw [h.fields]
theorem TutorOnly.slate (h : TutorOnly s u) : u.slate = s.slate := by rw [h.fields]
theorem TutorOnly.cores (h : TutorOnly s u) : u.cores = s.cores := by rw [h.fields]
theorem TutorOnly.core (h : TutorOnly s u) (c : CoreId) : u.core c = s.core c := by rw [State.core, h.cores, State.core]

theorem TutorOnly.regsKept (h : TutorOnly s u) : RegsKept (fun m _ _ => m ≠ .tutorBellsBroken) s u := by
  induction h with
  | refl => exact .refl _ _
  | broken _ st v hs ih => exact ih.setReg v (stands_stack hs) (by simp)
  | lessons _ _ ih | msgs _ _ ih | corridor _ _ ih | tutor _ _ _ ih | bell _ _ _ ih | waiting _ _ _ ih | port _ _ _ ih => exact ih

/-- A cluster changes in nothing but the parts that wait there. -/
theorem TutorOnly.cluster (h : TutorOnly s u) (n : Nat) : u.cluster n = { s.cluster n with waiting := (u.cluster n).waiting } := by
  induction h with
  | refl => rfl
  | @waiting u _ k l ih =>
    by_cases e : n = k
    · subst e; rw [State.cluster_setCluster_same, ih]
    · rw [State.cluster_setCluster_other _ _ _ _ e]; exact ih
  | lessons _ _ ih | msgs _ _ ih | corridor _ _ ih | tutor _ _ _ ih | bell _ _ _ ih | port _ _ _ ih | broken _ _ _ _ ih => exact ih

theorem TutorOnly.run (h : TutorOnly s u) (n : Nat) : (u.cluster n).run = (s.cluster n).run := by rw [h.cluster]
theorem TutorOnly.stopping (h : TutorOnly s u) (n : Nat) : (u.cluster n).stopping = (s.cluster n).stopping := by rw [h.cluster]

theorem TutorOnly.ite (h : TutorOnly s t) (k : TutorOnly s u) (p : Prop) [Decidable p] : TutorOnly s (if p then t else u) := by split <;> assumption
theorem TutorOnly.each {α : Type} (h : TutorOnly s u) (l : List α) (f : State → α → State) (hf : ∀ t a, TutorOnly s t → TutorOnly s (f t a)) :
    TutorOnly s (u.each l f) := State.each_induct (TutorOnly s) l f u h hf

end

/-! ## The steps -/

section
variable {s u : State} (h : TutorOnly s u)
include h

theorem TutorOnly.onLesson (id : Nat) (f : Lesson → Lesson) : TutorOnly s (u.onLesson id f) := h.lessons _
theorem TutorOnly.setPart (id cl : Nat) (p : PartState) : TutorOnly s (u.setPart id cl p) := h.lessons _
theorem TutorOnly.noteRetire (id : Nat) : TutorOnly s (u.noteRetire id) := h.ite (h.onLesson id _) _

theorem TutorOnly.claim (part id : Nat) : TutorOnly s (u.claim part id) := by
  unfold State.claim
  dsimp only
  split
  · exact h
  · split
    · exact h
    · split
      · exact h
      · exact (h.tutor _ _).lessons _
theorem TutorOnly.passEnd (part : Nat) : TutorOnly s (u.passEnd part) :=
  ((h.tutor _ _).each _ _ (fun _ _ ht => ht.claim _ _)).ite h _
theorem TutorOnly.withdrawEntry (l : Lesson) : TutorOnly s (u.withdrawEntry l) := by
  unfold State.withdrawEntry
  split
  · exact h
  · exact (h.tutor _ _).passEnd _
theorem TutorOnly.entryStarts (l : Lesson) (cl : Nat) : TutorOnly s (u.entryStarts l cl) := by
  unfold State.entryStarts
  split
  · exact h
  · exact (h.tutor _ _).passEnd _
theorem TutorOnly.stopLesson (id : Nat) (c : StopCause) : TutorOnly s (u.stopLesson id c) := by
  unfold State.stopLesson
  split
  · exact h
  · next l _ =>
    have stopped := (h.onLesson id (fun l => l.accept c)).each l.parts
      (fun s p => s.setCluster p.1 { s.cluster p.1 with waiting := (s.cluster p.1).waiting.filter (fun w => w != id) }) (fun t p ht => ht.waiting _ _)
    exact h.ite ((stopped.withdrawEntry l).ite stopped _) _
theorem TutorOnly.reportEnd (id : Nat) (cl : ClusterId) (stopped : Bool) : TutorOnly s (u.reportEnd id cl stopped) := by
  unfold State.reportEnd
  split
  · exact h
  · exact ((h.setPart _ _ _).noteRetire _).ite (h.msgs _) _

/-! ### What the Tutors send -/

theorem TutorOnly.sendFrame (type dest : Nat) (bcast : Bool) (p : List Byte) : TutorOnly s (u.sendFrame type dest bcast p) := (h.corridor _).ite h _
theorem TutorOnly.sendVc0 (part type dest : Nat) (p : List Byte) : TutorOnly s (u.sendVc0 part type dest p) := by
  unfold State.sendVc0
  refine TutorOnly.ite ?_ h _
  split
  · split
    · exact (h.port _ _).ite h _
    · exact h
  · exact h
theorem TutorOnly.sendBell (r : BellRec) (type dest : Nat) (bcast : Bool) (p : List Byte) : TutorOnly s (u.sendBell r type dest bcast p) :=
  (h.sendVc0 _ _ _ _).ite (h.sendFrame _ _ _ _) _

/-! ### Bells -/

theorem TutorOnly.bellReport (g : Nat) : TutorOnly s (u.bellReport g) := ((h.bell g _).ite ((h.bell g _).sendBell _ _ _ _ _) _).ite h _
theorem TutorOnly.endArrive (g : Nat) : TutorOnly s (u.endArrive g) := h.corridor _

end

/-- The counting stack of a record is one of the four. -/
theorem BellRec.counting_lt (r : BellRec) : r.counting < 4 := by
  unfold BellRec.counting BellRec.stackList
  generalize hl : [0, 1, 2, 3].filter (fun st => bits r.clusters (16 * st) 16 != 0) = l
  cases l with
  | nil => decide
  | cons a l =>
    have hm : a ∈ [0, 1, 2, 3].filter (fun st => bits r.clusters (16 * st) 16 != 0) := hl ▸ List.mem_cons_self
    have := (List.mem_filter.mp hm).1
    simp only [List.mem_cons, List.not_mem_nil, or_false] at this
    simp only [List.headD_cons]
    omega

section
variable {s u : State} (h : TutorOnly s u)
include h

theorem TutorOnly.breakBell (g : Nat) : TutorOnly s (u.breakBell g) := by
  unfold State.breakBell
  have marked := h.each (((List.range 64).filter (fun cl => bitOf (bellRec (u.bell g).record).clusters cl)).flatMap (fun cl => match u.lessonOn cl with
    | some id => [id]
    | none => (u.lessons.filter (fun l => l.parts.any (fun p => p.1 == cl && p.2 == .notStarted))).map (fun l => l.id)))
    (fun s id => s.onLesson id (fun l => { l with bellBroken := true })) (fun t id ht => ht.onLesson id _)
  have stopped := marked.each ((u.bell g).arrivals.filterMap (fun a => u.lessonOn (clusterOfCore a.1))) (fun s id => s.stopLesson id (.faulted true))
    (fun t id ht => ht.stopLesson id _)
  exact ((((stopped.bell g _).broken _ _ (BellRec.counting_lt _)).endArrive g).bellReport g)
theorem TutorOnly.leaderBreak (g : Nat) : TutorOnly s (u.leaderBreak g) :=
  (h.each _ _ (fun _ _ ht => ht.sendBell _ _ _ _ _)).ite (h.sendBell _ _ _ _ _) _
theorem TutorOnly.ownBreak (g : Nat) : TutorOnly s (u.ownBreak g) :=
  h.ite ((h.ite ((h.leaderBreak g).ite (h.sendBell _ _ _ _ _) _) _).breakBell g) _

end

end Sys2Proof.Machine
end

section
/-!
SUPPORT. The completion record of a lesson: its 512 bits show what R183 asks (R182, R183).
-/
namespace Sys2Proof.Machine

/-! ## Fields side by side -/

/-- A field below the place where a number is added is as before. -/
theorem bits_add_below (lo x : Nat) {k j w : Nat} (h : j + w ≤ k) : bits (lo + x * 2 ^ k) j w = bits lo j w := by
  obtain ⟨d, rfl⟩ := Nat.exists_eq_add_of_le h
  have e : lo + x * 2 ^ (j + w + d) = lo + 2 ^ j * (2 ^ w * (x * 2 ^ d)) := by rw [Nat.pow_add, Nat.pow_add]; ring
  rw [bits, bits, e, Nat.add_mul_div_left _ _ (Nat.two_pow_pos j), Nat.add_mul_mod_self_left]
/-- A field at or above that place is one of the number added. -/
theorem bits_add_above {lo k : Nat} (h : lo < 2 ^ k) (x j w : Nat) : bits (lo + x * 2 ^ k) (k + j) w = bits x j w := by
  rw [bits, bits, Nat.pow_add, ← Nat.div_div_eq_div_mul, Nat.mul_comm x, Nat.add_mul_div_left _ _ (Nat.two_pow_pos k), Nat.div_eq_of_lt h, Nat.zero_add]
theorem bits_whole {x w : Nat} (h : x < 2 ^ w) : bits x 0 w = x := by
  rw [bits, Nat.pow_zero, Nat.div_one, Nat.mod_eq_of_lt h]
theorem add_field_lt {lo x k w : Nat} (hl : lo < 2 ^ k) (hx : x < 2 ^ w) : lo + x * 2 ^ k < 2 ^ (k + w) := by
  have := Nat.mul_le_mul_right (2 ^ k) (Nat.succ_le_of_lt hx)
  rw [Nat.pow_add, Nat.mul_comm (2 ^ k)]
  have e : x.succ * 2 ^ k = x * 2 ^ k + 2 ^ k := Nat.succ_mul _ _
  omega

/-- Two-bit states, one after the other, from bit 0 up. -/
theorem statePairs_spec (f : Nat → Nat) (hf : ∀ k, f k < 2 ^ 2) (n : Nat) :
    (List.range n).foldl (fun a k => a + f k * 2 ^ (2 * k)) 0 < 2 ^ (2 * n)
      ∧ ∀ k, k < n → bits ((List.range n).foldl (fun a k => a + f k * 2 ^ (2 * k)) 0) (2 * k) 2 = f k := by
  induction n with
  | zero => exact ⟨by simp, fun k h => absurd h (Nat.not_lt_zero k)⟩
  | succ n ih =>
    obtain ⟨small, fields⟩ := ih
    rw [List.range_succ, List.foldl_append, List.foldl_cons, List.foldl_nil]
    refine ⟨add_field_lt small (hf n), fun k hk => ?_⟩
    rcases Nat.lt_succ_iff_lt_or_eq.mp hk with h | rfl
    · rw [bits_add_below _ _ (by omega), fields k h]
    · have above := bits_add_above small (f k) 0 2
      rw [Nat.add_zero] at above
      rw [above, bits_whole (hf k)]

/-! ## The record -/

theorem bit_le_one (b : Bool) : bit b ≤ 1 := by cases b <;> decide

/-- The five flags of a record, from bit 240 up. -/
def recordFlags (wrote handed ok fault broken : Bool) : Nat := bit wrote + 2 * bit handed + 4 * bit ok + 8 * bit fault + 16 * bit broken

/-- The twelve numbers of a record, each at its place. -/
def packRecord (tag lib status cause step start now stages flags fault : Nat) : Nat :=
  tag + lib * 2 ^ 32 + status * 2 ^ 48 + cause * 2 ^ 56 + step * 2 ^ 64 + start * 2 ^ 96 + now * 2 ^ 160 + stages * 2 ^ 224 + flags * 2 ^ 240 + fault * 2 ^ 256

section
variable {tag lib status cause step start now stages flags fault : Nat} (h1 : tag < 2 ^ 32) (h2 : lib < 2 ^ 16) (h3 : status < 2 ^ 8) (h4 : cause < 2 ^ 8)
  (h5 : step < 2 ^ 32) (h6 : start < 2 ^ 64) (h7 : now < 2 ^ 64) (h8 : stages < 2 ^ 16) (h9 : flags < 2 ^ 5)
include h1 h2 h3 h4 h5 h6 h7 h8 h9

/-- Each field of a packed record reads what was packed. -/
theorem packRecord_fields :
    let w := packRecord tag lib status cause step start now stages flags fault
    bits w 0 32 = tag ∧ bits w 32 16 = lib ∧ bits w 48 8 = status ∧ bits w 56 4 = bits cause 0 4 ∧ bits w 64 32 = step ∧ bits w 96 64 = start
      ∧ bits w 160 64 = now ∧ (∀ k, 2 * k + 2 ≤ 16 → bits w (224 + 2 * k) 2 = bits stages (2 * k) 2) ∧ bits w 240 5 = flags
      ∧ ∀ j n, bits w (256 + j) n = bits fault j n := by
  have p2 := add_field_lt h1 h2
  have p3 := add_field_lt p2 h3
  have p4 := add_field_lt p3 h4
  have p5 := add_field_lt p4 h5
  have p6 := add_field_lt p5 h6
  have p7 := add_field_lt p6 h7
  have p8 := add_field_lt p7 h8
  have p9 := add_field_lt p8 h9
  have top : tag + lib * 2 ^ 32 + status * 2 ^ 48 + cause * 2 ^ 56 + step * 2 ^ 64 + start * 2 ^ 96 + now * 2 ^ 160 + stages * 2 ^ 224 + flags * 2 ^ 240 < 2 ^ 256 :=
    Nat.lt_of_lt_of_le p9 (Nat.pow_le_pow_right (by decide) (by decide))
  unfold packRecord
  refine ⟨?_, ?_, ?_, ?_, ?_, ?_, ?_, fun k hk => ?_, ?_, fun j n => bits_add_above top fault j n⟩
  · iterate 9 rw [bits_add_below _ _ (by decide)]
    exact bits_whole h1
  · iterate 8 rw [bits_add_below _ _ (by decide)]
    exact (bits_add_above h1 lib 0 16).trans (bits_whole h2)
  · iterate 7 rw [bits_add_below _ _ (by decide)]
    exact (bits_add_above p2 status 0 8).trans (bits_whole h3)
  · iterate 6 rw [bits_add_below _ _ (by decide)]
    exact bits_add_above p3 cause 0 4
  · iterate 5 rw [bits_add_below _ _ (by decide)]
    exact (bits_add_above p4 step 0 32).trans (bits_whole h5)
  · iterate 4 rw [bits_add_below _ _ (by decide)]
    exact (bits_add_above p5 start 0 64).trans (bits_whole h6)
  · iterate 3 rw [bits_add_below _ _ (by decide)]
    exact (bits_add_above p6 now 0 64).trans (bits_whole h7)
  · iterate 2 rw [bits_add_below _ _ (by omega)]
    exact bits_add_above p7 stages (2 * k) 2
  · rw [bits_add_below _ _ (by decide)]
    exact (bits_add_above p8 flags 0 5).trans (bits_whole h9)

end

/-! ## A lesson's record -/

theorem stopStatus_lt (c : StopCause) : stopStatus c < 2 ^ 8 := by
  have small : stopStatus c ≤ 7 := by unfold stopStatus; split <;> decide
  exact Nat.lt_of_le_of_lt small (by decide)
theorem stopDetail_lt (c : StopCause) : stopDetail c < 2 ^ 4 := by
  cases c with
  | aborted d | faulted d => exact Nat.lt_of_le_of_lt (bit_le_one d) (by decide)
  | _ => decide
theorem Lesson.stageState_lt (l : Lesson) (s : State) (k : Nat) : l.stageState s k < 2 ^ 2 := by
  unfold Lesson.stageState
  split
  · decide
  · split <;> decide

/-- The states of the stages of a lesson, side by side. -/
def Lesson.stageStates (l : Lesson) (s : State) : Nat := (List.range l.nstages).foldl (fun a k => a + l.stageState s k * 2 ^ (2 * k)) 0

/-- The stages, times and flags of a lesson whose home Tutor has not been reset. -/
theorem State.lessonRecord_pack (s : State) (l : Lesson) (ok : Bool) {cause : Option StopCause} (hc : (if ok then none else l.decided) = cause)
    (kept : l.lost = false) : s.lessonRecord l ok = toBytes 64 (packRecord l.tag.toNat l.lib (cause.elim 0 stopStatus) (cause.elim 0 stopDetail) l.step.toNat
      l.startTime.toNat s.now (l.stageStates s) (recordFlags l.wroteMemory l.handedAssembly ok l.fault.isSome l.bellBroken) (faultBits l.fault)) := by
  simp only [State.lessonRecord, hc, kept, Bool.false_or, Bool.false_eq_true, if_false]
  congr 1
  simp only [packRecord, recordFlags, Lesson.stageStates]
  cases cause with
  | none => simp only [Option.elim]; ring
  | some c => simp only [Option.elim]; ring

/-- The fault fields of a record (R183). -/
theorem faultBits_fields {f : FaultInfo} (h0 : f.stack < 4) (h1 : f.cluster < 16) (h2 : f.core < 8) (h3 : f.thread < 16) (h4 : f.code < 2 ^ 8)
    (h5 : f.pc < 2 ^ 20) (h6 : f.detail < 2 ^ 64) : bits (faultBits (some f)) 0 2 = f.stack % 4 ∧ bits (faultBits (some f)) 13 8 = f.code
      ∧ bits (faultBits (some f)) 21 20 = f.pc ∧ bits (faultBits (some f)) 64 64 = f.detail := by
  have p1 := add_field_lt (k := 2) (w := 4) h0 h1
  have p2 := add_field_lt (w := 3) p1 h2
  have p3 := add_field_lt (w := 4) p2 h3
  have p4 := add_field_lt p3 h4
  have p5 := add_field_lt p4 h5
  have top : f.stack + f.cluster * 2 ^ 2 + f.core * 2 ^ 6 + f.thread * 2 ^ 9 + f.code * 2 ^ 13 + f.pc * 2 ^ 21 < 2 ^ 64 :=
    Nat.lt_of_lt_of_le p5 (Nat.pow_le_pow_right (by decide) (by decide))
  unfold faultBits
  refine ⟨?_, ?_, ?_, ?_⟩
  · iterate 6 rw [bits_add_below _ _ (by decide)]
    exact (bits_whole h0).trans (Nat.mod_eq_of_lt h0).symm
  · iterate 2 rw [bits_add_below _ _ (by decide)]
    exact (bits_add_above p3 f.code 0 8).trans (bits_whole h4)
  · rw [bits_add_below _ _ (by decide)]
    exact (bits_add_above p4 f.pc 0 20).trans (bits_whole h5)
  · exact (bits_add_above top f.detail 0 64).trans (bits_whole h6)

/-- The record of a lesson that fits shows what R183 asks, as of the state in which it is made. -/
theorem State.lessonRecord_shows (s : State) (l : Lesson) (ok : Bool) {cause : Option StopCause} (hc : (if ok then none else l.decided) = cause)
    (kept : l.lost = false) (fits : l.fits = true) (now : s.now < 2 ^ 64) :
    RecordShows s l (cause.elim 0 stopStatus) (cause.elim 0 stopDetail) ok (ofBytes (s.lessonRecord l ok)) := by
  simp only [Lesson.fits, Bool.and_eq_true, decide_eq_true_eq] at fits
  obtain ⟨⟨lib, nstages⟩, fault⟩ := fits
  have status : cause.elim 0 stopStatus < 2 ^ 8 := by
    cases cause with
    | none => exact (by decide : 0 < 2 ^ 8)
    | some c => exact stopStatus_lt c
  have detail : cause.elim 0 stopDetail < 2 ^ 4 := by
    cases cause with
    | none => exact (by decide : 0 < 2 ^ 4)
    | some c => exact stopDetail_lt c
  have flags : recordFlags l.wroteMemory l.handedAssembly ok l.fault.isSome l.bellBroken < 2 ^ 5 := by
    have := bit_le_one l.wroteMemory; have := bit_le_one l.handedAssembly; have := bit_le_one ok
    have := bit_le_one l.fault.isSome; have := bit_le_one l.bellBroken
    unfold recordFlags; omega
  obtain ⟨small, pairs⟩ := statePairs_spec (l.stageState s) (l.stageState_lt s) l.nstages
  have stages : l.stageStates s < 2 ^ 16 := Nat.lt_of_lt_of_le small (Nat.pow_le_pow_right (by decide) (by omega))
  obtain ⟨f1, f2, f3, f4, f5, f6, f7, f8, f9, f10⟩ := packRecord_fields (fault := faultBits l.fault) l.tag.isLt lib status (Nat.lt_trans detail (by decide)) l.step.isLt
    l.startTime.isLt now stages flags
  have read (lo w : Nat) (h : lo + w ≤ 512) : bits (ofBytes (s.lessonRecord l ok)) lo w = bits (packRecord l.tag.toNat l.lib (cause.elim 0 stopStatus)
      (cause.elim 0 stopDetail) l.step.toNat l.startTime.toNat s.now (l.stageStates s)
      (recordFlags l.wroteMemory l.handedAssembly ok l.fault.isSome l.bellBroken) (faultBits l.fault)) lo w := by
    rw [s.lessonRecord_pack l ok hc kept, ofBytes_toBytes, show (256 : Nat) ^ 64 = 2 ^ 512 by rw [show (256 : Nat) = 2 ^ 8 from rfl, ← Nat.pow_mul], bits_mod _ h]
  constructor
  case tag => rw [read _ _ (by decide), f1]
  case lesson => rw [read _ _ (by decide), f2]
  case status' => rw [read _ _ (by decide), f3]
  case cause' => rw [read _ _ (by decide), f4, bits_whole detail]
  case step => rw [read _ _ (by decide), f5]
  case start => rw [read _ _ (by decide), f6]
  case ended => rw [read _ _ (by decide), f7]
  case stages =>
    intro k hk
    rw [read _ _ (by omega), f8 k (by omega)]
    refine (pairs k hk).trans ?_
    simp only [Lesson.stageState, Bool.not_eq_true']
  case flags => rw [read _ _ (by decide), f9]; rfl
  case fault =>
    intro f hf
    rw [hf] at fault
    simp only [Bool.and_eq_true, decide_eq_true_eq] at fault
    obtain ⟨⟨⟨⟨⟨⟨h0, h1⟩, h2⟩, h3⟩, h4⟩, h5⟩, h6⟩ := fault
    obtain ⟨g1, g2, g3, g4⟩ := faultBits_fields h0 h1 h2 h3 h4 h5 h6
    rw [← hf] at g1 g2 g3 g4
    exact ⟨by rw [read _ _ (by decide)]; exact (f10 0 2).trans g1, by rw [read _ _ (by decide)]; exact (f10 13 8).trans g2,
      by rw [read _ _ (by decide)]; exact (f10 21 20).trans g3, by rw [read _ _ (by decide)]; exact (f10 64 64).trans g4⟩
  case noFault =>
    intro hf
    rw [read _ _ (by decide)]
    refine (f10 0 256).trans ?_
    rw [hf]
    rfl

theorem State.lessonRecord_length (s : State) (l : Lesson) (ok : Bool) : (s.lessonRecord l ok).length = 64 := toBytes_length _ _

end Sys2Proof.Machine
end

section
/-!
SUPPORT. Lessons that stop and end: what a stop discards, when a cluster is free again, and the completion record (R116, R153, R178, R180 to R183, R366).
-/
namespace Sys2Proof.Machine

/-! ## An outstanding lesson -/

theorem State.lesson_id {s : State} {id : Nat} {l : Lesson} (h : s.lesson id = some l) : l.id = id := by
  simpa using List.find?_some h

section
variable (s : State) (id : Nat) {f : Lesson → Lesson} (hf : ∀ l, (f l).id = l.id)
include hf

theorem State.lesson_onLesson (k : Nat) : (s.onLesson id f).lesson k = (s.lesson k).map (fun l => if k = id then f l else l) := by
  have key (l : Lesson) : (if l.id == id then f l else l).id = l.id := by split <;> simp [hf]
  unfold State.lesson State.onLesson
  rw [List.find?_map]
  simp only [Function.comp_def, key]
  cases hl : s.lessons.find? (fun l => l.id == k) with
  | none => rfl
  | some l =>
    have hk : l.id = k := by simpa using List.find?_some hl
    simp only [Option.map_some, hk, beq_iff_eq]
theorem State.lesson_onLesson_same : (s.onLesson id f).lesson id = (s.lesson id).map f := by
  rw [State.lesson_onLesson s id hf]; simp only [if_true]
theorem State.lesson_onLesson_other {k : Nat} (h : k ≠ id) : (s.onLesson id f).lesson k = s.lesson k := by
  rw [State.lesson_onLesson s id hf]; simp only [if_neg h, Option.map_id']

end

/-! ## A stop cause -/

/-- A lesson that has not reached its retire point has a stop cause once it has accepted one (R182). -/
theorem Lesson.accept_cause {l : Lesson} (h : l.retiring = false) (c : StopCause) : (l.accept c).cause.isSome = true := by
  unfold Lesson.accept
  rw [h]
  cases c <;> cases hc : l.cause <;> simp [hc]
theorem Lesson.accept_id (l : Lesson) (c : StopCause) : (l.accept c).id = l.id := by
  unfold Lesson.accept
  split
  · rfl
  · cases c
    all_goals
      dsimp only
      split <;> rfl

/-- A claim leaves a lesson that has a stop cause (R380). -/
theorem State.lesson_claim {s : State} {k : Nat} {l : Lesson} (h : s.lesson k = some l) (stopped : l.cause.isSome = true) (part id : Nat) :
    (s.claim part id).lesson k = some l := by
  unfold State.claim
  dsimp only
  split
  · exact h
  · next m hm =>
    split
    · exact h
    · next open' =>
      split
      · exact h
      · next j _ =>
        have other : k ≠ id := by
          rintro rfl
          rw [State.lesson, hm] at h
          cases h
          simp [stopped] at open'
        exact (State.lesson_onLesson_other _ id (f := fun x => { x with position := some j }) (fun _ => rfl) other).trans h

theorem State.lesson_passEnd {s : State} {k : Nat} {l : Lesson} (h : s.lesson k = some l) (stopped : l.cause.isSome = true) (part : Nat) :
    (s.passEnd part).lesson k = some l := by
  unfold State.passEnd
  dsimp only
  split
  · exact State.each_induct (fun t => t.lesson k = some l) _ _ _ h (fun t a ht => State.lesson_claim ht stopped _ _)
  · exact h
theorem State.lesson_withdrawEntry {s : State} {k : Nat} {l : Lesson} (h : s.lesson k = some l) (stopped : l.cause.isSome = true) (m : Lesson) :
    (s.withdrawEntry m).lesson k = some l := by
  unfold State.withdrawEntry
  split
  · exact h
  · exact State.lesson_passEnd (s := s.setTutor _ _) h stopped _

/-- A lesson that is stopped before its retire point has accepted the cause (R181, R182). -/
theorem State.lesson_stopLesson {s : State} {id : Nat} {l : Lesson} (h : s.lesson id = some l) (runs : l.retiring = false) (c : StopCause) :
    (s.stopLesson id c).lesson id = some (l.accept c) := by
  have accepted : (s.onLesson id (fun l => l.accept c)).lesson id = some (l.accept c) := by
    rw [State.lesson_onLesson_same s id (fun l => l.accept_id c), h]; rfl
  have stopped := l.accept_cause runs c
  unfold State.stopLesson
  simp only [h, runs, Bool.false_eq_true, if_false]
  have left := State.each_induct (fun t => t.lesson id = some (l.accept c)) l.parts
    (fun s p => s.setCluster p.1 { s.cluster p.1 with waiting := (s.cluster p.1).waiting.filter (fun w => w != id) }) _ accepted (fun t p ht => ht)
  split
  · exact State.lesson_withdrawEntry left stopped l
  · exact left

/-- LESSON_TIMEOUT (R153, R182). -/
theorem lessonTimeout_completes (id : Nat) (s : State) (l : Lesson) (found : s.lesson id = some l) (limit : l.timeoutUs ≠ 0)
    (started : l.parts.any (fun p => p.2 != .notStarted && p.2 != .withdrawn) = true) (runs : l.retiring = false) (free : l.cause = none) :
    Completes (.lessonTimeout id) s (fun u => u.lesson id = some (l.accept .timeout) ∧ (l.accept .timeout).cause = some .timeout) := by
  have step : lessonTimeout s id = s.stopLesson id .timeout := by
    unfold lessonTimeout
    simp [found, limit, started]
  refine ⟨_, congrArg Host.Outcome.next step, State.lesson_stopLesson found runs _, ?_⟩
  simp [Lesson.accept, runs, free]

/-! ## The cores of a cluster -/

theorem coreOf_injective (cl : ClusterId) {j k : Fin 8} (h : j ≠ k) : coreOf cl j ≠ coreOf cl k := by
  intro e
  have hj : (coreOf cl j).val = 8 * cl.val + j.val := Nat.mod_eq_of_lt (by omega)
  have hk : (coreOf cl k).val = 8 * cl.val + k.val := Nat.mod_eq_of_lt (by omega)
  rw [e, hk] at hj
  exact h (Fin.ext (by omega))

/-- A sweep over the eight cores of a cluster that changes each by `f`. -/
def State.onCores (s : State) (cl : ClusterId) (f : Core → Core) : State :=
  s.each [0, 1, 2, 3, 4, 5, 6, 7] (fun s k => s.setCore (Fin.ofNat 512 (8 * cl.val + k)) (f (s.core (Fin.ofNat 512 (8 * cl.val + k)))))

theorem State.onCores_fields (s : State) (cl : ClusterId) (f : Core → Core) : s.onCores cl f = { s with cores := (s.onCores cl f).cores } :=
  State.each_induct (fun u => u = { s with cores := u.cores }) _ _ _ rfl (fun t k ht => by unfold State.setCore; rw [ht])

theorem State.onCores_mem (s : State) (cl : ClusterId) (f : Core → Core) : (s.onCores cl f).mem = s.mem := by rw [State.onCores_fields]
theorem State.onCores_slate (s : State) (cl : ClusterId) (f : Core → Core) : (s.onCores cl f).slate = s.slate := by rw [State.onCores_fields]
theorem State.onCores_cluster (s : State) (cl : ClusterId) (f : Core → Core) (k : Nat) : (s.onCores cl f).cluster k = s.cluster k := by
  rw [State.cluster, State.onCores_fields, State.cluster]

/-- Each core of the cluster is changed once. -/
theorem State.core_onCores (s : State) (cl : ClusterId) (f : Core → Core) (k : Fin 8) : (s.onCores cl f).core (coreOf cl k) = f (s.core (coreOf cl k)) := by
  have sweep : s.onCores cl f = s.each (List.finRange 8) (fun s j => s.setCore (coreOf cl j) (f (s.core (coreOf cl j)))) := rfl
  have general (l : List (Fin 8)) (nodup : l.Nodup) (u : State) : (u.each l (fun s j => s.setCore (coreOf cl j) (f (s.core (coreOf cl j))))).core (coreOf cl k)
      = if k ∈ l then f (u.core (coreOf cl k)) else u.core (coreOf cl k) := by
    induction l generalizing u with
    | nil => simp [State.each]
    | cons j l ih =>
      have hn := List.nodup_cons.mp nodup
      rw [State.each, List.foldl_cons, ← State.each, ih hn.2]
      by_cases e : k = j
      · subst e
        simp only [hn.1, if_false, List.mem_cons_self, if_true, State.core_setCore_same]
      · rw [State.core_setCore_other _ _ _ _ (coreOf_injective cl e)]
        simp only [List.mem_cons, e, false_or]
  rw [sweep, general _ (List.nodup_finRange 8) s, if_pos (List.mem_finRange k)]

/-! ## A stop (R116, R178) -/

/-- What a stop leaves of a core that runs a stage: no queue. -/
theorem Core.stopped_queues {co : Core} (h : co.stage ≠ none) :
    co.stopped.mmaQ = [] ∧ co.stopped.slateQ = [] ∧ co.stopped.vecQ = [] ∧ co.stopped.gathQ = [] ∧ co.stopped.finQ = [] := by
  unfold Core.stopped
  split
  · next e => exact absurd e h
  · exact ⟨rfl, rfl, rfl, rfl, rfl⟩

/-- CLUSTER_LESSON_STOP (R116, R178). -/
theorem clusterLessonStop_completes (cl : ClusterId) (s : State) (id : Nat) (runs : (s.cluster cl).run = some id) (going : (s.cluster cl).stopping = false)
    (due : s.stopDue cl id = true) : Completes (.clusterLessonStop cl) s (fun u => (u.cluster cl).stopping = true ∧ u.mem = s.mem
      ∧ ∀ k : Fin 8, (s.core (coreOf cl k)).stage ≠ none → (u.core (coreOf cl k)).mmaQ = [] ∧ (u.core (coreOf cl k)).slateQ = []
        ∧ (u.core (coreOf cl k)).vecQ = [] ∧ (u.core (coreOf cl k)).gathQ = [] ∧ (u.core (coreOf cl k)).finQ = []) := by
  let s1 := (s.setCluster cl { s.cluster cl with stopping := true }).setPart id cl .stopping
  let s2 := s1.onCores cl Core.stopped
  let u := (s2.withdrawHeld cl).each ((s2.withdrawHeld cl).groupsOn cl) (fun s g => s.ownBreak g)
  have step : clusterLessonStop s cl = u := by
    unfold clusterLessonStop
    dsimp only
    split
    · next none => rw [runs] at none; cases none
    · next k found =>
      cases runs.symm.trans found
      rw [if_neg (by simp [going, due])]
      rfl
  have tutors : TutorOnly s2 u := by
    refine TutorOnly.each ?_ _ _ (fun _ g ht => ht.ownBreak g)
    exact (TutorOnly.refl (s := s2)).each _ _ (fun _ _ ht => ht.bell _ _)
  refine ⟨u, congrArg Host.Outcome.next step, ?_, ?_, fun k hk => ?_⟩
  · rw [tutors.stopping, s1.onCores_cluster]
    exact congrArg Cluster.stopping (State.cluster_setCluster_same _ _ _)
  · exact tutors.mem.trans (s1.onCores_mem cl Core.stopped)
  · rw [tutors.core, s1.core_onCores]
    exact Core.stopped_queues hk

/-- A core whose lesson has ended. -/
def Core.idled (co : Core) : Core := { co with threads := [], stage := none, streams := [], sreqs := [], stats := [] }

/-- CORES_REPORT_IDLE (R116). -/
theorem coresReportIdle_completes (cl : ClusterId) (s : State) (id : Nat) (runs : (s.cluster cl).run = some id) (stopping : (s.cluster cl).stopping = true)
    (drained : ∀ k : Fin 8, (s.core (coreOf cl k)).drained = true) : Completes (.coresReportIdle cl) s (fun u =>
      (u.cluster cl).run = none ∧ (u.cluster cl).stopping = false ∧ u.mem = s.mem ∧ u.slate = s.slate
        ∧ ∀ k : Fin 8, (u.core (coreOf cl k)).threads = [] ∧ (u.core (coreOf cl k)).stage = none) := by
  let s1 := s.onCores cl Core.idled
  let s2 := s1.setCluster cl { s.cluster cl with run := none, stopping := false }
  have all : [0, 1, 2, 3, 4, 5, 6, 7].all (fun k => (s.core (Fin.ofNat 512 (8 * cl.val + k))).drained) = true := by
    have list : (List.finRange 8).all (fun k => (s.core (coreOf cl k)).drained) = true := by simp [drained]
    exact list
  have step : coresReportIdle s cl = s2.reportEnd id cl true := by
    unfold coresReportIdle
    dsimp only
    split
    · next none => rw [runs] at none; cases none
    · next k found =>
      cases runs.symm.trans found
      rw [if_pos (by rw [stopping, all]; rfl)]
      rfl
  have tutors : TutorOnly s2 (s2.reportEnd id cl true) := TutorOnly.refl.reportEnd id cl true
  have cluster : s2.cluster cl = { s.cluster cl with run := none, stopping := false } := State.cluster_setCluster_same _ _ _
  refine ⟨_, congrArg Host.Outcome.next step, ?_, ?_, ?_, ?_, fun k => ?_⟩
  · rw [tutors.run, cluster]
  · rw [tutors.stopping, cluster]
  · exact tutors.mem.trans (s.onCores_mem cl Core.idled)
  · exact tutors.slate.trans (s.onCores_slate cl Core.idled)
  · have core : s2.core (coreOf cl k) = (s.core (coreOf cl k)).idled := s.core_onCores cl Core.idled k
    rw [tutors.core, core]
    exact ⟨rfl, rfl⟩

/-! ## The completion record (R182, R183, R366) -/

/-- What the production of a record leaves: the outstanding lessons, the cores, memory, the resident copies, and common time. -/
structure Recorded (s u : State) : Prop where
  lessons : u.lessons = s.lessons
  cores : u.cores = s.cores
  mem : u.mem = s.mem
  tutors : u.tutors = s.tutors
  time : RegsKept (fun m _ _ => m = .corridorTime) s u

section
variable {s u : State} (h : Recorded s u)
include h

theorem Recorded.setReg {n : RegName} {i j : Nat} (hn : n.Stands i j) (v : Nat) (hc : n ≠ .corridorTime) : Recorded s (u.setReg n i j v) :=
  ⟨h.lessons, h.cores, h.mem, h.tutors, h.time.setReg v hn hc⟩
theorem Recorded.setFld {f : RegField} {i j : Nat} (hn : f.reg.Stands i j) (v : Nat) (hc : f.reg ≠ .corridorTime := by decide) :
    Recorded s (u.setFld f i j v) := h.setReg hn _ hc
theorem Recorded.logs {v : State} (k : Logs u v) : Recorded s v := by
  have fields := k.fields
  refine ⟨?_, k.cores.trans h.cores, k.mem.trans h.mem, ?_, h.time.trans (k.regsKept.mono (fun m _ _ e => by rw [e]; rfl))⟩
  · rw [fields]; exact h.lessons
  · rw [fields]; exact h.tutors

/-- The hold registers note a change of the hold ring, which stays as it is. -/
theorem Recorded.noteHoldRing : Recorded s u.noteHoldRing := by
  unfold State.noteHoldRing
  dsimp only
  have noted := ((h.setFld (f := F.queueHoldInUse) stands_zero u.holdRing.length).setFld (f := F.queueHoldFull) stands_zero (bit (u.holdRing.length ≥ holdRingSize))).setFld
    (f := F.queueHoldPeakPeak) stands_zero (max u.holdRing.length (u.fld F.queueHoldPeakPeak))
  split
  · exact ((noted.setFld (f := F.hostEventsHoldFull) (i := 0) (RegName.stands (by decide) rfl (by decide)) 1).setFld (f := F.hostEventsHoldFull) (i := 1)
      (RegName.stands (by decide) rfl (by decide)) 1).logs (Logs.refl.signalEvent)
  · exact noted

end

theorem State.holdRing_noteHoldRing (s : State) : s.noteHoldRing.holdRing = s.holdRing := by
  have logged {t v : State} (k : Logs t v) : v.holdRing = t.holdRing := by rw [k.fields]
  unfold State.noteHoldRing
  dsimp only
  split
  · exact (logged Logs.refl.signalEvent).trans rfl
  · rfl

/-- The record of a command of a queue is produced (R366, R368). -/
theorem State.completeRec_recorded (s : State) (q : QueueId) (gen : Nat) (r : List Byte) : Recorded s (s.completeRec q gen r) := by
  have stands {n : RegName} (hb : n.block = .queue) (hj : n.desc.count = 128) : n.Stands 0 q :=
    RegName.stands (by rw [hb]; decide) (by unfold RegName.inInstance; rw [hb]) (by rw [hj]; exact q.isLt)
  have same (l : List HoldRec) : Recorded s { s with holdRing := l } := ⟨rfl, rfl, rfl, rfl, .of_regs rfl⟩
  unfold State.completeRec
  split
  · unfold State.enterRec
    split
    · exact ((same _).setReg (stands (n := .queueOutstanding) rfl rfl) _ (by decide)).noteHoldRing
    · exact ⟨rfl, rfl, rfl, rfl, .of_regs rfl⟩
  · exact Recorded.setFld (f := F.queueDroppedCount) ⟨rfl, rfl, rfl, rfl, .of_regs rfl⟩ (stands rfl rfl) _

/-- While its generation is in force and the hold ring has room, the record is held (R366). -/
theorem State.completeRec_held {s : State} {q : QueueId} {gen : Nat} (room : s.holdsNext q gen = true) (r : List Byte) :
    (s.completeRec q gen r).holdRing = s.holdRing ++ [⟨.queue q, gen, r, false⟩] := by
  simp only [State.holdsNext, Bool.and_eq_true, decide_eq_true_eq, List.isEmpty_iff] at room
  obtain ⟨⟨current, short⟩, alone⟩ := room
  rw [State.completeRec, if_pos current, State.enterRec, if_pos ⟨short, alone⟩]
  exact State.holdRing_noteHoldRing _

/-- A record shows the same in every state of the same time, memory and resident copies. -/
theorem RecordShows.of_same {s u : State} {l : Lesson} {status cause w : Nat} {ok : Bool} (h : RecordShows s l status cause ok w) (now : u.now = s.now)
    (mem : u.mem = s.mem) (tutors : u.tutors = s.tutors) : RecordShows u l status cause ok w := by
  have placed (k : Nat) : l.placed u k = l.placed s k := by
    simp only [Lesson.placed, State.stageCores, State.stageAddr, State.lessonAddr, State.num_of_mem mem, State.tutor, tutors]
  exact ⟨h.tag, h.lesson, h.status', h.cause', h.step, h.start, h.ended.trans now.symm, by simpa only [placed] using h.stages, h.flags, h.fault, h.noFault⟩

/-- A lesson that is dropped and whose record is produced: it alone is outstanding no more, and the record that is held shows what R183 asks. -/
theorem State.dropAndComplete (s : State) (l : Lesson) (ok : Bool) {cause : Option StopCause} (hc : (if ok then none else l.decided) = cause) :
    let u := (s.dropLesson l.id).completeRec l.queue l.generation (s.lessonRecord l ok)
    u.lessons = s.lessons.filter (fun k => k.id != l.id) ∧ u.cores = s.cores ∧ u.mem = s.mem
      ∧ (l.fits = true → l.lost = false → s.now < 2 ^ 64 → s.holdsNext l.queue l.generation = true → ∃ r, r.length = 64
        ∧ RecordShows u l (cause.elim 0 stopStatus) (cause.elim 0 stopDetail) ok (ofBytes r) ∧ u.holdRing = s.holdRing ++ [⟨.queue l.queue, l.generation, r, false⟩]) := by
  have made := (s.dropLesson l.id).completeRec_recorded l.queue l.generation (s.lessonRecord l ok)
  refine ⟨made.lessons, made.cores, made.mem, fun fits lost now room => ?_⟩
  exact ⟨s.lessonRecord l ok, s.lessonRecord_length l ok,
    (s.lessonRecord_shows l ok hc lost fits now).of_same (made.time _ _ _ stands_zero rfl) made.mem made.tutors, State.completeRec_held (s := s.dropLesson l.id) room _⟩

/-- LESSON_RETIRE (R165, R180, R183). -/
theorem lessonRetire_completes (id : Nat) (s : State) (l : Lesson) (found : s.lesson id = some l) (free : l.cause = none)
    (ended : l.parts.all (fun p => p.2 == .ended) = true) (heard : s.reportsFor id = false) : Completes (.lessonRetire id) s (fun u =>
      u.lessons = s.lessons.filter (fun k => k.id != id) ∧ u.cores = s.cores
      ∧ (l.fits = true → l.lost = false → s.now < 2 ^ 64 → s.holdsNext l.queue l.generation = true → ∃ r, r.length = 64 ∧ RecordShows u l 0 0 true (ofBytes r)
          ∧ u.holdRing = s.holdRing ++ [⟨.queue l.queue, l.generation, r, false⟩])) := by
  obtain rfl := State.lesson_id found
  let s1 := s.each l.stats (fun s x => s.statsFrom l.home.val x.1 x.2)
  let s2 := s1.bump F.tutorRetiredCount l.home.val 0 1
  have step : lessonRetire s l.id = (s2.dropLesson l.id).completeRec l.queue l.generation (s2.lessonRecord l true) := by
    unfold lessonRetire
    simp only [found, free, ended, heard, Option.isNone_none, Bool.not_false, Bool.and_true, if_true]
    rfl
  have merged : Accessed True s s1 := Accessed.refl.each _ _ (fun _ x k => k.statsFrom _ _ _)
  have low : RegName.corridorTime.addr 0 0 < 0x180000 := by decide
  have time : s2.now = s.now := by
    have counted := (RegsKept.refl (fun m _ _ => m = .corridorTime) s1).setFld (f := F.tutorRetiredCount) (s1.fld F.tutorRetiredCount l.home.val + 1) (stands_stack l.home.isLt) (by simp)
    exact (counted _ _ _ stands_zero rfl).trans (merged.regsKept _ _ _ stands_zero ⟨rfl, fun _ => low⟩)
  have generation : s2.reg .queueGeneration 0 l.queue = s.reg .queueGeneration 0 l.queue := by
    have stands : RegName.Stands .queueGeneration 0 l.queue := RegName.stands (by decide) rfl l.queue.isLt
    have below : ∀ q : QueueId, RegName.queueGeneration.addr 0 q < 0x180000 := by decide
    have counted := (RegsKept.refl (fun m _ _ => m = .queueGeneration) s1).setFld (f := F.tutorRetiredCount) (s1.fld F.tutorRetiredCount l.home.val + 1) (stands_stack l.home.isLt) (by simp)
    exact (counted _ _ _ stands rfl).trans (merged.regsKept _ _ _ stands ⟨rfl, fun _ => below l.queue⟩)
  have lessons : s2.lessons = s.lessons := show s1.lessons = s.lessons by rw [merged.fields]
  have ring : s2.holdRing = s.holdRing := show s1.holdRing = s.holdRing by rw [merged.fields]
  have wait : s2.holdWait = s.holdWait := show s1.holdWait = s.holdWait by rw [merged.fields]
  obtain ⟨dropped, cores, -, record⟩ := s2.dropAndComplete l true (cause := none) rfl
  refine ⟨_, congrArg Host.Outcome.next step, dropped.trans (by rw [lessons]), cores.trans merged.cores, fun fits lost now room => ?_⟩
  rw [State.holdsNext, ← generation, ← ring, ← wait] at room
  rw [← ring]
  exact record fits lost (time ▸ now) room

/-- A stopped lesson whose parts that never ran have no open Bell to break leaves the Bells alone (R178). -/
theorem State.breakUnstarted_of_none {s : State} {l : Lesson} (h : ∀ p ∈ l.parts, s.neverRan l p = true → s.groupsOn p.1 = []) : s.breakUnstarted l = s := by
  have idle (ps : List (Nat × PartState)) (f : State → Nat → State) (hp : ∀ p ∈ ps, s.groupsOn p.1 = []) :
      s.each ps (fun s p => s.each (s.groupsOn p.1) f) = s := by
    induction ps with
    | nil => rfl
    | cons p ps ih =>
      rw [State.each, List.foldl_cons, hp p List.mem_cons_self]
      exact ih (fun q hq => hp q (List.mem_cons_of_mem _ hq))
  refine idle _ _ (fun p hp => ?_)
  obtain ⟨hm, hr⟩ := List.mem_filter.mp hp
  exact h p hm (Bool.and_eq_true_iff.mp hr).1

/-- LESSON_COMPLETION_WRITE (R182, R183). -/
theorem lessonCompletionWrite_completes (id : Nat) (s : State) (l : Lesson) (c : StopCause) (found : s.lesson id = some l) (decided : l.decided = some c)
    (lost : l.lost = false) (ended : l.parts.all (fun p => p.2 == .ended || p.2 == .withdrawn) = true) (heard : s.reportsFor id = false)
    (quiet : ∀ p ∈ l.parts, s.neverRan l p = true → s.groupsOn p.1 = []) : Completes (.lessonCompletionWrite id) s (fun u =>
      u.lessons = s.lessons.filter (fun k => k.id != id) ∧ u.cores = s.cores ∧ u.mem = s.mem
      ∧ (l.fits = true → s.now < 2 ^ 64 → s.holdsNext l.queue l.generation = true → ∃ r, r.length = 64
          ∧ RecordShows u l (stopStatus c) (stopDetail c) false (ofBytes r) ∧ u.holdRing = s.holdRing ++ [⟨.queue l.queue, l.generation, r, false⟩])) := by
  obtain rfl := State.lesson_id found
  let s1 := s.bumpSat (stopCounter c) l.home.val 0 1
  have step : lessonCompletionWrite s l.id = (s1.dropLesson l.id).completeRec l.queue l.generation (s1.lessonRecord l false) := by
    have all : l.parts.all (fun p => p.2 == .ended || p.2 == .withdrawn || (l.lost && (s.cluster p.1).run != some l.id)) = true := by
      simpa only [lost, Bool.false_and, Bool.or_false] using ended
    unfold lessonCompletionWrite
    simp only [found, decided]
    rw [if_pos (by rw [all, heard]; simp), State.breakUnstarted_of_none quiet, found]
    rfl
  have counts : RegsKept (fun m _ _ => m = .corridorTime ∨ m = .queueGeneration) s s1 := by
    have counter : stopCounter c = F.tutorAbortedCount ∨ stopCounter c = F.tutorFaultedCount ∨ stopCounter c = F.tutorOtherStopsCount := by
      unfold stopCounter; split <;> simp
    refine (RegsKept.refl _ s).setFld _ ?_ ?_
    · rcases counter with h | h | h <;> rw [h] <;> exact stands_stack l.home.isLt
    · rcases counter with h | h | h <;> rw [h] <;> simp
  have generation : s1.reg .queueGeneration 0 l.queue = s.reg .queueGeneration 0 l.queue :=
    counts _ _ _ (RegName.stands (by decide) rfl l.queue.isLt) (.inr rfl)
  have time : s1.now = s.now := counts _ _ _ stands_zero (.inl rfl)
  obtain ⟨dropped, cores, mem, record⟩ := s1.dropAndComplete l false (cause := some c) decided
  refine ⟨_, congrArg Host.Outcome.next step, dropped, cores, mem, fun fits now room => ?_⟩
  rw [State.holdsNext, ← generation] at room
  exact record fits lost (time ▸ now) room

end Sys2Proof.Machine

namespace Sys2Proof
open Machine

/-- Settles O30: what a stop leaves of the cores, what the Tutors change beside, and the record that is held. -/
theorem lessonsStopAndEnd : Obligations.LessonsStopAndEnd := by
  refine ⟨clusterLessonStop_completes, coresReportIdle_completes, lessonTimeout_completes, lessonRetire_completes,
    fun id s l c found decided lost ended heard quiet => ?write⟩
  case write =>
    have written := lessonCompletionWrite_completes id s l c found decided lost ended heard quiet
    cases c
    all_goals exact written

end Sys2Proof
end

section
/-!
SUPPORT. Parts and stages: how a part starts, a stage loads and ends, and what a message between Tutors does (R91, R155, R156, R159 to R161, R182).
-/
namespace Sys2Proof.Machine

/-! ## What the Timetable and a stop change -/

section
variable (s : State)

theorem State.claim_fields (part id : Nat) : s.claim part id = { s with lessons := (s.claim part id).lessons, tutors := (s.claim part id).tutors } := by
  unfold State.claim
  dsimp only
  split
  · rfl
  · split
    · rfl
    · split <;> rfl
theorem State.passEnd_fields (part : Nat) : s.passEnd part = { s with lessons := (s.passEnd part).lessons, tutors := (s.passEnd part).tutors } := by
  unfold State.passEnd
  dsimp only
  split
  · exact State.each_induct (fun u => u = { s with lessons := u.lessons, tutors := u.tutors }) _ _ _ rfl (fun t l ht => by rw [t.claim_fields, ht])
  · rfl
theorem State.withdrawEntry_fields (l : Lesson) : s.withdrawEntry l = { s with lessons := (s.withdrawEntry l).lessons, tutors := (s.withdrawEntry l).tutors } := by
  unfold State.withdrawEntry
  split
  · rfl
  · rw [State.passEnd_fields]; rfl
theorem State.entryStarts_fields (l : Lesson) (cl : Nat) : s.entryStarts l cl = { s with lessons := (s.entryStarts l cl).lessons, tutors := (s.entryStarts l cl).tutors } := by
  unfold State.entryStarts
  split
  · rfl
  · rw [State.passEnd_fields]; rfl

theorem State.entryStarts_cluster (l : Lesson) (cl k : Nat) : (s.entryStarts l cl).cluster k = s.cluster k := by
  rw [State.cluster, State.entryStarts_fields, State.cluster]
theorem State.entryStarts_mem (l : Lesson) (cl : Nat) : (s.entryStarts l cl).mem = s.mem := by rw [State.entryStarts_fields]

theorem State.stopLesson_partMsgs (id : Nat) (c : StopCause) : (s.stopLesson id c).partMsgs = s.partMsgs := by
  unfold State.stopLesson
  split
  · rfl
  · next l _ =>
    split
    · rfl
    · have swept := State.each_induct (fun u => u.partMsgs = s.partMsgs) l.parts
        (fun s p => s.setCluster p.1 { s.cluster p.1 with waiting := (s.cluster p.1).waiting.filter (fun w => w != id) }) (s.onLesson id (fun l => l.accept c)) rfl
        (fun t p ht => ht)
      dsimp only
      split
      · rw [State.withdrawEntry_fields]; exact swept
      · exact swept

theorem State.countHallway_fields (src dst n : Nat) : s.countHallway src dst n = { s with regs := (s.countHallway src dst n).regs } := by
  unfold State.countHallway
  split
  · rfl
  · split
    · rfl
    · split <;> rfl
theorem State.noteRetire_partMsgs (id : Nat) : (s.noteRetire id).partMsgs = s.partMsgs := by unfold State.noteRetire; split <;> rfl

end

/-! ## Messages between Tutors (R155, R182) -/

/-- A lesson as its home Tutor has noted a report. -/
def Lesson.noted (l : Lesson) : Lesson := if l.cause.isNone && l.parts.all (fun p => p.2 == .ended) then { l with retiring := true } else l

theorem Lesson.noted_id (l : Lesson) : l.noted.id = l.id := by unfold Lesson.noted; split <;> rfl
theorem Lesson.noted_parts (l : Lesson) : l.noted.parts = l.parts := by unfold Lesson.noted; split <;> rfl
theorem Lesson.noted_cause (l : Lesson) : l.noted.cause = l.cause := by unfold Lesson.noted; split <;> rfl

theorem State.lesson_noteRetire {s : State} {id : Nat} {l : Lesson} (h : s.lesson id = some l) :
    (s.noteRetire id).lesson id = some (if s.reportsFor id then l else l.noted) := by
  unfold State.noteRetire
  split
  · exact h
  · exact (State.lesson_onLesson_same s id Lesson.noted_id).trans (by rw [h]; rfl)

/-- The state in which a message is handled: it is out of flight, and its bytes have crossed Hallway. -/
def State.tookMsg (s : State) (n : Nat) (m : PartMsg) : State :=
  let t := { s with partMsgs := s.partMsgs.eraseIdx n }
  t.countHallway (t.msgPath m).1 (t.msgPath m).2.1 (Config.tutorMsgBytes (t.msgPath m).2.2)

section
variable (s : State) (n : Nat) (m : PartMsg)

theorem State.tookMsg_partMsgs : (s.tookMsg n m).partMsgs = s.partMsgs.eraseIdx n := by
  unfold State.tookMsg; dsimp only; rw [State.countHallway_fields]
theorem State.tookMsg_lessons : (s.tookMsg n m).lessons = s.lessons := by
  unfold State.tookMsg; dsimp only; rw [State.countHallway_fields]
theorem State.tookMsg_lesson (id : Nat) : (s.tookMsg n m).lesson id = s.lesson id := by rw [State.lesson, State.tookMsg_lessons, State.lesson]
theorem State.tookMsg_cluster (k : Nat) : (s.tookMsg n m).cluster k = s.cluster k := by
  unfold State.tookMsg; dsimp only; rw [State.cluster, State.countHallway_fields, State.cluster]

end

/-- A thread fault's report stops its lesson FAULTED, and the first one is kept (R182). -/
theorem tutorPartMessage_fault (n id : Nat) (info : FaultInfo) (s : State) (l : Lesson) (arrives : s.partMsgs[n]? = some (.fault id info))
    (found : s.lesson id = some l) (runs : l.retiring = false) (free : l.cause = none) : Completes (.tutorPartMessage n) s (fun u =>
      u.partMsgs = s.partMsgs.eraseIdx n ∧ ∃ l', u.lesson id = some l' ∧ l'.cause = some (.faulted false) ∧ l'.fault = some (l.fault.getD info)) := by
  let s1 := (s.tookMsg n (.fault id info)).onLesson id (fun l => { l with fault := some (l.fault.getD info) })
  have step : tutorPartMessage s n = (s1.stopLesson id (.faulted false)).noteRetire id := by
    unfold tutorPartMessage
    rw [arrives]
    rfl
  have noted : s1.lesson id = some { l with fault := some (l.fault.getD info) } := by
    rw [State.lesson_onLesson_same _ id (f := fun l => { l with fault := some (l.fault.getD info) }) (fun _ => rfl), State.tookMsg_lesson, found]; rfl
  have stopped := State.lesson_stopLesson noted runs (.faulted false)
  have accepted : (({ l with fault := some (l.fault.getD info) } : Lesson).accept (.faulted false)).cause = some (.faulted false)
      ∧ (({ l with fault := some (l.fault.getD info) } : Lesson).accept (.faulted false)).fault = some (l.fault.getD info) := by
    simp [Lesson.accept, runs, free]
  refine ⟨_, congrArg Host.Outcome.next step, ?_, _, State.lesson_noteRetire stopped, ?_, ?_⟩
  · rw [State.noteRetire_partMsgs, State.stopLesson_partMsgs]
    exact s.tookMsg_partMsgs n _
  · split
    · exact accepted.1
    · exact (Lesson.noted_cause _).trans accepted.1
  · have kept : (Lesson.noted (({ l with fault := some (l.fault.getD info) } : Lesson).accept (.faulted false))).fault = some (l.fault.getD info) := by
      unfold Lesson.noted; split <;> exact accepted.2
    split
    · exact accepted.2
    · exact kept

/-- A part's end is marked, and may bring the retire point (R155, R180). -/
theorem tutorPartMessage_ended (n id : Nat) (cl : ClusterId) (st : Bool) (s : State) (l : Lesson) (arrives : s.partMsgs[n]? = some (.ended id cl st))
    (found : s.lesson id = some l) : Completes (.tutorPartMessage n) s (fun u => u.partMsgs = s.partMsgs.eraseIdx n ∧ ∃ l', u.lesson id = some l'
      ∧ l'.parts = l.parts.map (fun x => if x.1 == cl.val then (cl.val, .ended) else x) ∧ l'.cause = l.cause
      ∧ (l'.retiring = true ↔ l.retiring = true ∨ (u.reportsFor id = false ∧ l.cause = none ∧ l'.parts.all (fun x => x.2 == .ended) = true))) := by
  let s1 := (s.tookMsg n (.ended id cl st)).setPart id cl .ended
  let l1 : Lesson := { l with parts := l.parts.map (fun x => if x.1 == cl.val then (cl.val, .ended) else x) }
  have step : tutorPartMessage s n = s1.noteRetire id := by
    unfold tutorPartMessage
    rw [arrives]
    rfl
  have marked : s1.lesson id = some l1 := by
    refine (State.lesson_onLesson_same _ id (f := fun l => { l with parts := l.parts.map (fun x => if x.1 == cl.val then (cl.val, .ended) else x) }) (fun _ => rfl)).trans ?_
    rw [State.tookMsg_lesson, found]; rfl
  have msgs : (s1.noteRetire id).partMsgs = s.partMsgs.eraseIdx n := (s1.noteRetire_partMsgs id).trans (s.tookMsg_partMsgs n _)
  have reports : (s1.noteRetire id).reportsFor id = s1.reportsFor id := by rw [State.reportsFor, s1.noteRetire_partMsgs, State.reportsFor]
  refine ⟨_, congrArg Host.Outcome.next step, msgs, _, State.lesson_noteRetire marked, ?_, ?_, ?_⟩
  · split
    · rfl
    · exact l1.noted_parts
  · split
    · rfl
    · exact l1.noted_cause
  · rw [reports]
    cases hr : s1.reportsFor id with
    | true => simp [l1]
    | false =>
      simp only [Bool.false_eq_true, if_false, true_and, l1.noted_parts]
      unfold Lesson.noted
      split
      · next h =>
        simp only [Bool.and_eq_true, Option.isNone_iff_eq_none] at h
        exact ⟨fun _ => .inr h, fun _ => rfl⟩
      · next h =>
        simp only [Bool.and_eq_true, Option.isNone_iff_eq_none] at h
        exact ⟨fun r => .inl r, fun r => r.resolve_right h⟩

/-- The parts of a lesson on one stack come to wait on their clusters. -/
theorem State.dispatched_waits (id st : Nat) (cl : ClusterId) (stack : stackOfCluster cl = st) (ps : List (Nat × PartState)) (s : State)
    (idle : (s.cluster cl).run ≠ some id) (h : (cl.val, PartState.notStarted) ∈ ps ∨ id ∈ (s.cluster cl).waiting) :
    id ∈ ((s.each ps (fun s p => if stackOfCluster p.1 == st && p.2 = .notStarted && !(s.cluster p.1).waiting.elem id && (s.cluster p.1).run != some id then
      s.setCluster p.1 { s.cluster p.1 with waiting := (s.cluster p.1).waiting ++ [id] } else s)).cluster cl).waiting := by
  induction ps generalizing s with
  | nil => exact h.resolve_left List.not_mem_nil
  | cons p ps ih =>
    rw [State.each, List.foldl_cons]
    refine ih _ ?_ ?_
    · split
      · by_cases e : cl.val = p.1
        · rw [e, State.cluster_setCluster_same]; rw [e] at idle; exact idle
        · rw [State.cluster_setCluster_other _ _ _ _ e]; exact idle
      · exact idle
    · by_cases later : (cl.val, PartState.notStarted) ∈ ps
      · exact .inl later
      · refine .inr ?_
        rcases h with h | h
        · have here : p = (cl.val, .notStarted) := ((List.mem_cons.mp h).resolve_right later).symm
          subst here
          by_cases there : (s.cluster cl).waiting.elem id = true
          · simp only [there, Bool.not_true, Bool.and_false, Bool.false_and, Bool.false_eq_true, if_false]
            simpa using there
          · rw [if_pos (by simp only [stack, there, idle, bne_iff_ne, ne_eq, not_false_iff, Bool.and_eq_true, beq_self_eq_true]; simp)]
            rw [State.cluster_setCluster_same]; simp
        · split
          · by_cases e : cl.val = p.1
            · rw [e, State.cluster_setCluster_same]; rw [e] at h; exact List.mem_append_left _ h
            · rw [State.cluster_setCluster_other _ _ _ _ e]; exact h
          · exact h

/-- A dispatch puts the lesson on the waiting clusters of the stack (R155). -/
theorem tutorPartMessage_dispatch (n id : Nat) (st : StackId) (s : State) (l : Lesson) (arrives : s.partMsgs[n]? = some (.dispatch id st))
    (found : s.lesson id = some l) (free : l.cause = none) (up : s.hallwayDown l.home.val st.val = false) : Completes (.tutorPartMessage n) s (fun u =>
      u.partMsgs = s.partMsgs.eraseIdx n ∧ u.lessons = s.lessons
      ∧ ∀ cl : ClusterId, (cl.val, PartState.notStarted) ∈ l.parts → stackOfCluster cl = st.val → (s.cluster cl).run ≠ some id → id ∈ (u.cluster cl).waiting) := by
  have step : tutorPartMessage s n = (s.tookMsg n (.dispatch id st)).dispatchParts id st.val := by
    have path : ({ s with partMsgs := s.partMsgs.eraseIdx n } : State).msgPath (.dispatch id st) = (l.home.val, st.val, 0) := by
      have about : ({ s with partMsgs := s.partMsgs.eraseIdx n } : State).lesson id = some l := found
      simp only [State.msgPath, PartMsg.about, about]
    unfold tutorPartMessage
    rw [arrives]
    have open' : ({ s with partMsgs := s.partMsgs.eraseIdx n } : State).hallwayDown l.home.val st.val = false := up
    simp only [State.handleMsg, State.tookMsg, path, open', Bool.false_eq_true, if_false]
  have unfolded : (s.tookMsg n (.dispatch id st)).dispatchParts id st.val = (s.tookMsg n (.dispatch id st)).each l.parts (fun s p =>
      if stackOfCluster p.1 == st.val && p.2 = .notStarted && !(s.cluster p.1).waiting.elem id && (s.cluster p.1).run != some id then
      s.setCluster p.1 { s.cluster p.1 with waiting := (s.cluster p.1).waiting ++ [id] } else s) := by
    unfold State.dispatchParts
    rw [State.tookMsg_lesson, found]
    simp only [free, Option.isSome_none, Bool.false_eq_true, if_false]
  refine ⟨_, congrArg Host.Outcome.next (step.trans unfolded), ?_, ?_, fun cl part stack idle => ?_⟩
  · exact State.each_induct (fun u => u.partMsgs = s.partMsgs.eraseIdx n) _ _ _ (s.tookMsg_partMsgs n _) (fun t p ht => by split <;> exact ht)
  · exact State.each_induct (fun u => u.lessons = s.lessons) _ _ _ (s.tookMsg_lessons n _) (fun t p ht => by split <;> exact ht)
  · exact State.dispatched_waits id st.val cl stack l.parts _ (by rw [State.tookMsg_cluster]; exact idle) (.inl part)

end Sys2Proof.Machine
end

section
/-!
SUPPORT. The stages of a part: it starts on its cluster, a stage's record is loaded, and a stage ends (R91, R156, R159 to R161).
-/
namespace Sys2Proof.Machine

/-! ## A core begins to load -/

/-- A core that runs no stage, or begins to load one of a lesson from stage `k` on (R159). -/
structure Core.Loads (co : Core) (id k : Nat) : Prop where
  threads : co.threads = []
  stage : ∀ g, co.stage = some g → g.lesson = id ∧ g.loading = true ∧ k ≤ g.index

section
variable (s : State) (c : CoreId) (l : Lesson) (k : Nat)

theorem State.loadFrom_fields : s.loadFrom c l k = { s with cores := (s.loadFrom c l k).cores, lessons := (s.loadFrom c l k).lessons } := by
  unfold State.loadFrom; dsimp only; split <;> rfl
theorem State.loadFrom_mem : (s.loadFrom c l k).mem = s.mem := by rw [State.loadFrom_fields]
theorem State.loadFrom_cluster (n : Nat) : (s.loadFrom c l k).cluster n = s.cluster n := by rw [State.cluster, State.loadFrom_fields, State.cluster]
theorem State.core_loadFrom_other {d : CoreId} (h : d ≠ c) : (s.loadFrom c l k).core d = s.core d := by
  unfold State.loadFrom
  dsimp only
  split <;> exact State.core_setCore_other _ _ _ _ h

/-- The core loads the first stage from `k` on that is placed on it, or none. -/
theorem State.core_loadFrom : ((s.loadFrom c l k).core c).Loads l.id k := by
  unfold State.loadFrom
  dsimp only
  split
  · rw [State.core_setCore_same]; exact ⟨rfl, fun g h => nomatch h⟩
  · next j hj =>
    have core (v : Core) (f : Lesson → Lesson) : ((s.setCore c v).onLesson l.id f).core c = v := State.core_setCore_same _ _ _
    rw [core]
    refine ⟨rfl, fun g h => ?_⟩
    cases h
    have later := (List.mem_filter.mp (List.mem_of_find?_eq_some hj)).2
    exact ⟨rfl, rfl, of_decide_eq_true later⟩

end

/-! ## A part starts (R156) -/

/-- Each core of a cluster begins to load in its turn. -/
theorem State.core_loadAll (s : State) (cl : ClusterId) (l : Lesson) (k : Fin 8) :
    ((s.each [0, 1, 2, 3, 4, 5, 6, 7] (fun s k => s.loadFrom (Fin.ofNat 512 (8 * cl.val + k)) l 0)).core (coreOf cl k)).Loads l.id 0 := by
  have sweep : s.each [0, 1, 2, 3, 4, 5, 6, 7] (fun s k => s.loadFrom (Fin.ofNat 512 (8 * cl.val + k)) l 0)
      = s.each (List.finRange 8) (fun s j => s.loadFrom (coreOf cl j) l 0) := rfl
  rw [sweep]
  refine State.each_establishes (fun u => (u.core (coreOf cl k)).Loads l.id 0) (List.mem_finRange k) _ s (fun t => t.core_loadFrom _ l 0) (fun t j _ ht => ?_)
  by_cases e : k = j
  · rw [e]; exact t.core_loadFrom _ l 0
  · rw [State.core_loadFrom_other _ _ _ _ (coreOf_injective cl e)]; exact ht

/-- LESSON_PART_START (R156). -/
theorem lessonPartStart_completes (cl : ClusterId) (s : State) (l : Lesson) (next : s.nextPart cl = some l) (idle : (s.cluster cl).run = none)
    (served : s.outOfService (stackOfCluster cl) = false) (fit : s.fld F.clusterStateRetired cl = 0) (clock : (s.cluster cl).pll = .on)
    (words : (s.cluster cl).istoreBad = []) (tested : ∀ k : Fin 8, (s.core (coreOf cl k)).testPending = false) : Completes (.lessonPartStart cl) s (fun u =>
      (u.cluster cl).run = some l.id ∧ (u.cluster cl).stopping = false ∧ (u.cluster cl).waiting = (s.cluster cl).waiting.filter (fun w => w != l.id)
      ∧ u.mem = s.mem ∧ ∀ k : Fin 8, (u.core (coreOf cl k)).threads = [] ∧ ∀ g, (u.core (coreOf cl k)).stage = some g → g.lesson = l.id ∧ g.loading = true) := by
  have all : [0, 1, 2, 3, 4, 5, 6, 7].all (fun k => !(s.core (Fin.ofNat 512 (8 * cl.val + k))).testPending) = true := by
    have list : (List.finRange 8).all (fun k => !(s.core (coreOf cl k)).testPending) = true := by simp [tested]
    exact list
  let s1 := (s.setCluster cl { s.cluster cl with run := some l.id, waiting := (s.cluster cl).waiting.filter (fun w => w != l.id), stopping := false }).setPart l.id cl .running
  let s2 := s1.onLesson l.id (fun x => if x.startTime = 0 then { x with startTime := BitVec.ofNat 64 s1.now } else x)
  let s3 := s2.entryStarts l cl
  let u := s3.each [0, 1, 2, 3, 4, 5, 6, 7] (fun s k => s.loadFrom (Fin.ofNat 512 (8 * cl.val + k)) l 0)
  have step : lessonPartStart s cl = u := by
    have starts : lessonPartStart s cl = s.startPart cl l := by
      unfold lessonPartStart
      simp only [next, idle, served, fit, Option.isSome_none, Bool.or_false, Bool.false_eq_true, if_false]
      rw [if_neg (by decide), if_pos ⟨clock, all, words⟩]
    exact starts
  have kept : u.cluster cl = s1.cluster cl ∧ u.mem = s.mem :=
    State.each_induct (fun u => u.cluster cl = s1.cluster cl ∧ u.mem = s.mem) _ _ _ ⟨s2.entryStarts_cluster l cl cl, s2.entryStarts_mem l cl⟩
      (fun t k ht => ⟨(t.loadFrom_cluster _ _ _ _).trans ht.1, (t.loadFrom_mem _ _ _).trans ht.2⟩)
  have set : s1.cluster cl = { s.cluster cl with run := some l.id, waiting := (s.cluster cl).waiting.filter (fun w => w != l.id), stopping := false } :=
    State.cluster_setCluster_same _ _ _
  refine ⟨u, congrArg Host.Outcome.next step, ?_, ?_, ?_, kept.2, fun k => ?_⟩
  · rw [kept.1, set]
  · rw [kept.1, set]
  · rw [kept.1, set]
  · obtain ⟨threads, stage⟩ := s3.core_loadAll cl l k
    exact ⟨threads, fun g h => ⟨(stage g h).1, (stage g h).2.1⟩⟩

/-! ## A stage is loaded (R91, R160) -/

/-- A table filled from 0 up reads what was put there. -/
theorem Tab.get_filled {V : Type} [DecidableEq V] (d : V) (f : Nat → V) (t : Tab V) (n : Nat) {i : Nat} (h : i < n) :
    Tab.get d ((List.range n).foldl (fun t i => Tab.set d t i (f i)) t) i = f i := by
  induction n with
  | zero => exact absurd h (Nat.not_lt_zero i)
  | succ n ih =>
    rw [List.range_succ, List.foldl_append, List.foldl_cons, List.foldl_nil]
    rcases Nat.lt_succ_iff_lt_or_eq.mp h with h | rfl
    · rw [Tab.get_set_other _ _ _ _ (by omega), ih h]
    · exact Tab.get_set_same _ _ _ _
/-- A table filled from 0 up at some keys reads what was put there, and elsewhere what an unlisted key reads. -/
theorem Tab.get_filledIf {V : Type} [DecidableEq V] (d : V) (p : Nat → Bool) (f : Nat → V) (n : Nat) {i : Nat} (h : i < n) :
    Tab.get d ((List.range n).foldl (fun t i => if p i then Tab.set d t i (f i) else t) []) i = if p i then f i else d := by
  have beyond (n : Nat) : ∀ i, n ≤ i → Tab.get d ((List.range n).foldl (fun t i => if p i then Tab.set d t i (f i) else t) []) i = d := by
    induction n with
    | zero => exact fun _ _ => rfl
    | succ n ih =>
      intro i hi
      rw [List.range_succ, List.foldl_append, List.foldl_cons, List.foldl_nil]
      split
      · rw [Tab.get_set_other _ _ _ _ (by omega), ih i (by omega)]
      · exact ih i (by omega)
  induction n with
  | zero => exact absurd h (Nat.not_lt_zero i)
  | succ n ih =>
    rw [List.range_succ, List.foldl_append, List.foldl_cons, List.foldl_nil]
    rcases Nat.lt_succ_iff_lt_or_eq.mp h with h | rfl
    · split
      · rw [Tab.get_set_other _ _ _ _ (by omega), ih h]
      · exact ih h
    · split
      · exact Tab.get_set_same _ _ _ _
      · exact beyond i i (Nat.le_refl i)

/-- A sweep whose every step leaves the state leaves it. -/
theorem State.each_of_fixed {α : Type} {l : List α} {f : State → α → State} {s : State} (h : ∀ a, f s a = s) : s.each l f = s :=
  State.each_induct (fun u => u = s) _ _ _ rfl (fun t a ht => by rw [ht]; exact h a)

/-- The load of function tables leaves a core's stage, threads, slot owners and Slate map. -/
theorem State.loadTables_core (s : State) (c : CoreId) (ids : List Nat) :
    ((s.loadTables c ids).core c).stage = (s.core c).stage ∧ ((s.loadTables c ids).core c).threads = (s.core c).threads
      ∧ ((s.loadTables c ids).core c).owner = (s.core c).owner ∧ ((s.loadTables c ids).core c).slateMap = (s.core c).slateMap := by
  refine State.each_induct (fun u => (u.core c).stage = (s.core c).stage ∧ (u.core c).threads = (s.core c).threads
    ∧ (u.core c).owner = (s.core c).owner ∧ (u.core c).slateMap = (s.core c).slateMap) _ _ _ ⟨rfl, rfl, rfl, rfl⟩ (fun t p ht => ?_)
  dsimp only
  split
  · exact ht
  · split
    · rw [State.core_setCore_same]; exact ht
    · rw [State.core_setCore_same]; exact ht

/-- A table of `n` bytes of a stage record. -/
def State.byteTab (s : State) (a n : Nat) : Tab Byte := (List.range n).foldl (fun t i => Tab.set 0 t i (s.byte (a + i))) []
theorem State.get_byteTab (s : State) (a n : Nat) {i : Nat} (h : i < n) : Tab.get 0 (s.byteTab a n) i = s.byte (a + i) :=
  Tab.get_filled 0 (fun i => s.byte (a + i)) [] n h

/-- The threads of a core whose stage is loaded: the active ones start (R91). -/
def Stage.startThreads (g : Stage) : Tab Thread :=
  (List.range 16).foldl (fun t n => if g.threadMask.getLsbD n then Tab.set Thread.init t n (startThread g n) else t) []
theorem Stage.get_startThreads (g : Stage) (n : Fin 16) : Tab.get Thread.init g.startThreads n.val = if g.threadMask.getLsbD n then startThread g n else Thread.init :=
  Tab.get_filledIf Thread.init (fun n => g.threadMask.getLsbD n) (startThread g) 16 n.isLt

/-- A core on which the stage with the record at `a` is loaded (R160). -/
def Core.loaded (co : Core) (s : State) (g : Stage) (a : Nat) : Core :=
  { co with
    stage := some g, owner := s.byteTab (a + 0x80) 128, slateMap := s.byteTab (a + 0x60) 32, threads := g.startThreads
    streams := (List.range 64).foldl (fun t d => Tab.set StreamDyn.init t d (StreamDyn.atStageStart (g.stream d) g.args)) [], stats := [], transposeBad := false }

theorem Core.loaded_owner (co : Core) (s : State) (g : Stage) (a : Nat) : (co.loaded s g a).owner = s.byteTab (a + 0x80) 128 := by rw [Core.loaded]
theorem Core.loaded_slateMap (co : Core) (s : State) (g : Stage) (a : Nat) : (co.loaded s g a).slateMap = s.byteTab (a + 0x60) 32 := by rw [Core.loaded]

/-- The load of a stage that no link feeds leaves its core loaded, with the function tables that it lists. -/
theorem stageLoadComplete_unlinked (c : CoreId) (s : State) (g : Stage) (l : Lesson) (stage : (s.core c).stage = some g) (found : s.lesson g.lesson = some l)
    (loading : g.loading = true) (going : (s.cluster (clusterOfCore c)).stopping = false) (unlinked : ∀ d, (g.stream d).dir ≠ dirLinkIn) :
    stageLoadComplete s c = (s.setCore c ((s.core c).loaded s { g with loading := false } (s.stageAddr (stackOfCore c) l.lib g.index))).loadTables c
      ((List.range 16).map (fun i => s.num (s.stageAddr (stackOfCore c) l.lib g.index + 0x40 + 2 * i) 2)) := by
  have unlinked' (d : Nat) : ((g.stream d).dir == dirLinkIn) = false := beq_eq_false_iff_ne.mpr (unlinked d)
  unfold stageLoadComplete
  dsimp only
  rw [stage]
  dsimp only
  rw [found]
  dsimp only
  rw [if_pos (by rw [loading, going]; rfl)]
  refine (State.each_of_fixed (fun d => ?_)).trans rfl
  have same : Stage.stream { g with loading := false } d = g.stream d := rfl
  rw [same, unlinked' d, Bool.and_false, Bool.false_and, if_neg (by decide)]

/-- STAGE_LOAD_COMPLETE of a stage that no link feeds (R91, R160). -/
theorem stageLoadComplete_completes (c : CoreId) (s : State) (g : Stage) (l : Lesson) (stage : (s.core c).stage = some g) (found : s.lesson g.lesson = some l)
    (loading : g.loading = true) (going : (s.cluster (clusterOfCore c)).stopping = false) (unlinked : ∀ d, (g.stream d).dir ≠ dirLinkIn) :
    Completes (.stageLoadComplete c) s (fun u =>
      let a := s.stageAddr (stackOfCore c) l.lib g.index
      (u.core c).stage = some { g with loading := false }
        ∧ (∀ n : Fin 16, (u.core c).thread n = if g.threadMask.getLsbD n then startThread g n else Thread.init)
        ∧ (∀ i, i < 128 → Tab.get 0 (u.core c).owner i = s.byte (a + 0x80 + i)) ∧ (∀ i, i < 32 → Tab.get 0 (u.core c).slateMap i = s.byte (a + 0x60 + i))) := by
  refine ⟨_, congrArg Host.Outcome.next (stageLoadComplete_unlinked c s g l stage found loading going unlinked), ?_⟩
  dsimp only
  generalize s.stageAddr (stackOfCore c) l.lib g.index = a
  generalize (List.range 16).map (fun i => s.num (a + 0x40 + 2 * i) 2) = ids
  obtain ⟨hstage, hthreads, howner, hmap⟩ := (s.setCore c ((s.core c).loaded s { g with loading := false } a)).loadTables_core c ids
  rw [State.core_setCore_same] at hstage hthreads howner hmap
  refine ⟨hstage, fun n => ?_, fun i hi => ?_, fun i hi => ?_⟩
  · rw [Core.thread, hthreads]
    exact Stage.get_startThreads _ n
  · rw [howner, Core.loaded_owner, State.get_byteTab _ _ _ hi]
  · rw [hmap, Core.loaded_slateMap, State.get_byteTab _ _ _ hi]

/-! ## Streams of threads that do not wait -/

section
variable (s : State) (c : CoreId)

/-- Where no thread of a core waits for a stream buffer, none is woken. -/
theorem State.wakeStreams_of_noneWaits (quiet : ∀ n : Fin 16, ((s.core c).thread n).state ≠ .waitStream) : s.wakeStreams c = s := by
  refine State.each_of_fixed (fun n => ?_)
  unfold State.retryWait
  split
  · next b waits _ => exact absurd waits (quiet n)
  · rfl

theorem State.takeReleases_fields : s.takeReleases c = { s with cores := (s.takeReleases c).cores } := by
  unfold State.takeReleases; split <;> rfl
/-- Taking releases changes the descriptors, the slot owners and the release queue of its core. -/
theorem State.core_takeReleases : ∃ y o q, (s.takeReleases c).core c = { s.core c with streams := y, owner := o, streamQ := q } :=
  State.judged_core_same s ⟨c, 0⟩
theorem State.core_takeReleases_other {d : CoreId} (h : d ≠ c) : (s.takeReleases c).core d = s.core d := State.judged_core_other s ⟨c, 0⟩ d h
theorem State.takeReleases_threads (d : CoreId) : ((s.takeReleases c).core d).threads = (s.core d).threads := by
  by_cases h : d = c
  · obtain ⟨y, o, q, eq⟩ := s.core_takeReleases c
    rw [h, eq]
  · rw [State.core_takeReleases_other s c h]

end

/-! ## A stage ends (R159, R161) -/

/-- A link is closed where no thread waits for it: a core's descriptors change. -/
theorem State.closeLink_quiet (s : State) (c : CoreId) (d : Nat) (quiet : ∀ n : Fin 16, ((s.core c).thread n).state ≠ .waitStream) :
    s.closeLink c d = s.setCore c ((s.core c).setDyn d { (s.core c).dyn d with state := 4 }) := by
  refine State.wakeStreams_of_noneWaits _ c (fun n => ?_)
  rw [State.core_setCore_same]
  exact quiet n

/-- Where no thread waits for a stream, the links that a stage feeds are closed with the threads of every core as they were. -/
theorem State.closeFed_keeps (s : State) (c : CoreId) (g : Stage) (quiet : ∀ (e : CoreId) (n : Fin 16), ((s.core e).thread n).state ≠ .waitStream) :
    s.closeFed c g = { s with cores := (s.closeFed c g).cores } ∧ ∀ e, ((s.closeFed c g).core e).threads = (s.core e).threads := by
  refine State.each_induct (fun u => u = { s with cores := u.cores } ∧ ∀ e, (u.core e).threads = (s.core e).threads) _ _ _ ⟨rfl, fun _ => rfl⟩
    (fun t d ⟨fields, threads⟩ => ?_)
  dsimp only
  split
  · split
    · next e _ _ =>
      rw [t.closeLink_quiet e _ (fun n => by rw [Core.thread, threads]; exact quiet e n)]
      refine ⟨by rw [State.setCore, fields], fun k => ?_⟩
      by_cases h : k = e
      · rw [h, State.core_setCore_same]; exact threads e
      · rw [State.core_setCore_other _ _ _ _ h]; exact threads k
    · exact ⟨fields, threads⟩
  · exact ⟨fields, threads⟩

theorem Lesson.noted_stagesEnded (l : Lesson) : l.noted.stagesEnded = l.stagesEnded := by unfold Lesson.noted; split <;> rfl

/-- The lesson has this stage ended on this core. -/
def State.HasEnded (s : State) (id : Nat) (p : Nat × Nat) : Prop := ∃ l, s.lesson id = some l ∧ p ∈ l.stagesEnded

theorem State.HasEnded.of_lessons {s u : State} {id : Nat} {p : Nat × Nat} (h : s.HasEnded id p) (lessons : u.lessons = s.lessons) : u.HasEnded id p := by
  obtain ⟨l, found, ended⟩ := h
  exact ⟨l, by rw [State.lesson, lessons]; exact found, ended⟩
/-- A step on the lessons that ends no fewer stages keeps the stage ended. -/
theorem State.HasEnded.onLesson {s : State} {id : Nat} {p : Nat × Nat} (h : s.HasEnded id p) (k : Nat) {f : Lesson → Lesson} (hid : ∀ l, (f l).id = l.id)
    (keeps : ∀ l, (f l).stagesEnded = l.stagesEnded) : (s.onLesson k f).HasEnded id p := by
  obtain ⟨l, found, ended⟩ := h
  refine ⟨if id = k then f l else l, by rw [State.lesson_onLesson s k hid, found]; rfl, ?_⟩
  split
  · rw [keeps]; exact ended
  · exact ended
theorem State.HasEnded.loadFrom {s : State} {id : Nat} {p : Nat × Nat} (h : s.HasEnded id p) (c : CoreId) (l : Lesson) (k : Nat) : (s.loadFrom c l k).HasEnded id p := by
  unfold State.loadFrom
  dsimp only
  split
  · exact h
  · exact State.HasEnded.onLesson (s := s.setCore c _) h l.id (fun _ => rfl) (fun _ => rfl)
theorem State.HasEnded.reportEnd {s : State} {id : Nat} {p : Nat × Nat} (h : s.HasEnded id p) (k : Nat) (cl : ClusterId) (b : Bool) : (s.reportEnd k cl b).HasEnded id p := by
  unfold State.reportEnd
  split
  · exact h
  · split
    · have set := h.onLesson k (f := fun l => { l with parts := l.parts.map (fun p => if p.1 == cl.val then (cl.val, .ended) else p) }) (fun _ => rfl) (fun _ => rfl)
      unfold State.noteRetire
      split
      · exact set
      · exact set.onLesson k Lesson.noted_id Lesson.noted_stagesEnded
    · exact h

/-- A lesson whose stage `p` has ended, with the statistics that it took. -/
def Lesson.stageEnded (x : Lesson) (p : Nat × Nat) (st : List (Nat × Stats)) : Lesson := { x with stagesEnded := x.stagesEnded ++ [p], stats := x.stats ++ st }

theorem State.hasEnded_stageEnded {s : State} {id : Nat} {l : Lesson} (found : s.lesson id = some l) (p : Nat × Nat) (st : List (Nat × Stats)) :
    (s.onLesson id (fun x => x.stageEnded p st)).HasEnded id p :=
  ⟨l.stageEnded p st, (State.lesson_onLesson_same s id (f := fun x => x.stageEnded p st) (fun _ => rfl)).trans (by rw [found]; rfl), List.mem_append_right _ (List.mem_singleton.mpr rfl)⟩

/-- STAGE_END (R159, R161). -/
theorem stageEnd_completes (c : CoreId) (s : State) (g : Stage) (l : Lesson) (stage : (s.core c).stage = some g) (isOver : ((s.takeReleases c).core c).stageOver g = true)
    (going : (s.cluster (clusterOfCore c)).stopping = false) (found : s.lesson g.lesson = some l)
    (quiet : ∀ (e : CoreId) (n : Fin 16), ((s.core e).thread n).state ≠ .waitStream) : Completes (.stageEnd c) s (fun u =>
      (∀ g', (u.core c).stage = some g' → g'.loading = true ∧ g.index < g'.index) ∧ ∃ l', u.lesson g.lesson = some l' ∧ (g.index, c.val) ∈ l'.stagesEnded) := by
  obtain ⟨y, o, q, released⟩ := s.core_takeReleases c
  have same : clusterOfCore c = (Fin.ofNat 64 (clusterOfCore c) : ClusterId).val := (Nat.mod_eq_of_lt (by have := c.isLt; unfold clusterOfCore; omega)).symm
  let s2 := (s.takeReleases c).onLesson g.lesson (fun x => x.stageEnded (g.index, c.val) (stageStats ((s.takeReleases c).core c) g))
  let s3 := s2.closeFed c g
  let s4 := (s3.setCore c { s3.core c with stats := [] }).loadFrom c l (g.index + 1)
  have found' : (s.takeReleases c).lesson g.lesson = some l := by rw [State.lesson, State.takeReleases_fields]; exact found
  have step : stageEnd s c = if s4.coresIdle (Fin.ofNat 64 (clusterOfCore c) : ClusterId).val then
      (s4.setCluster (Fin.ofNat 64 (clusterOfCore c) : ClusterId).val { s4.cluster (Fin.ofNat 64 (clusterOfCore c) : ClusterId).val with run := none }).reportEnd g.lesson (Fin.ofNat 64 (clusterOfCore c)) false else s4 := by
    have stage' : ((s.takeReleases c).core c).stage = some g := by rw [released]; exact stage
    have going' : ((s.takeReleases c).cluster (Fin.ofNat 64 (clusterOfCore c) : ClusterId).val).stopping = false := by
      rw [State.cluster, State.takeReleases_fields, ← same]; exact going
    unfold stageEnd
    dsimp only
    rw [stage']
    dsimp only
    rw [isOver, going', if_pos (by rfl), found']
    rfl
  have quiet2 (e : CoreId) (n : Fin 16) : ((s2.core e).thread n).state ≠ .waitStream := by
    have threads : (s2.core e).threads = (s.core e).threads := s.takeReleases_threads c e
    rw [Core.thread, threads]
    exact quiet e n
  have ended4 : s4.HasEnded g.lesson (g.index, c.val) := by
    refine State.HasEnded.loadFrom (s := s3.setCore c _) ?_ c l _
    have fields := (s2.closeFed_keeps c g quiet2).1
    exact (State.hasEnded_stageEnded found' (g.index, c.val) _).of_lessons (show s3.lessons = s2.lessons by rw [show s3 = _ from fields])
  have loads : (s4.core c).Loads l.id (g.index + 1) := State.core_loadFrom _ c l _
  have core : (stageEnd s c).core c = s4.core c := by
    rw [step]
    split
    · exact (TutorOnly.refl.reportEnd _ _ _).core c
    · rfl
  refine ⟨stageEnd s c, rfl, fun g' h => ?_, ?_⟩
  · obtain ⟨-, loading, later⟩ := loads.stage g' (core ▸ h)
    exact ⟨loading, later⟩
  · show (stageEnd s c).HasEnded g.lesson (g.index, c.val)
    rw [step]
    split
    · exact State.HasEnded.reportEnd (s := s4.setCluster _ _) ended4 _ _ _
    · exact ended4

/-- Settles O29: a part starts on its cores, a loaded stage's threads become READY, a stage that ends makes way for a later one, and the Tutors' messages do what they say. -/
theorem partsAndStages : Obligations.PartsAndStages :=
  ⟨lessonPartStart_completes, stageLoadComplete_completes, stageEnd_completes,
    fun n id info s l arrives found runs free _ => tutorPartMessage_fault n id info s l arrives found runs free, tutorPartMessage_ended, tutorPartMessage_dispatch⟩

end Sys2Proof.Machine
end

section
/-!
SUPPORT. The transfers of a stream: how one starts, what its requests move, how it ends, and a released buffer that moves on to its consumer (R168 to R171).
-/
namespace Sys2Proof.Machine

/-! ## What the move of a sector leaves (R170, R207) -/

section
variable {s u : State} (h : Accessed True s u)
include h

/-- A read through the slices, while waiting requests are served. -/
theorem Accessed.readServing (cls a n : Nat) : Accessed True s (u.memTouch cls a n) := by
  refine h.each _ _ (fun t pc ht => ?_)
  dsimp only
  cases hr : (t.turn pc.1).sectorAccess pc.1 cls .read false with
  | none => exact ht.turn pc.1
  | some v => exact (ht.turn pc.1).sectorAccess (.inr trivial) .read false hr
/-- A write through the slices, while waiting requests are served. -/
theorem Accessed.writeServing (cls a : Nat) (data : List Byte) (p : Bool) : Accessed True s (u.memWrite cls a data p) := by
  refine h.each _ _ (fun t pc ht => ?_)
  dsimp only
  cases hr : (t.turn pc.1).writePiece cls pc.1 ((data.drop (pc.1 - a)).take pc.2) p false with
  | none => exact ht.turn pc.1
  | some v => exact (ht.turn pc.1).writePiece cls pc.1 false _ p hr

end

theorem State.moveSector_cores (s : State) (c : Nat) (out : Bool) (p : Nat × Nat × Nat) : (s.moveSector c out p).cores = s.cores := by
  obtain ⟨a, off, len⟩ := p
  unfold State.moveSector
  dsimp only
  split
  · exact ((Accessed.refl.writeServing _ _ _ _).countHallway _ _ _).cores
  · exact (((Accessed.refl (served := True)).countHallway _ _ _).cores.trans ((StoreOnly.refl _).storeWrite _ _ _ _).cores).trans (Accessed.refl.readServing 1 a len).cores

/-- A sector that is filled lands at its place in the core store (R169). -/
theorem State.moveSector_lands (s : State) (c : CoreId) (a off : Nat) (idle : s.noWaits = true) :
    (s.moveSector c false (a, off, 32)).bytes (coreStoreKey (s.physCore c) off) 32 = s.bytes a 32 :=
  State.bytes_landed s (State.idleSlices_of_noWaits idle) c (by decide) a off 32 _ _ _

/-! ## A transfer starts (R168) -/

/-- The lines of a later transfer are touched with no byte of memory changed and no core. -/
theorem State.touchAhead_keeps (s : State) (idle : s.idleSlices) (c : Nat) (g : Stage) (sd : StreamDesc) (y : StreamDyn) (t : Nat) :
    Accessed False s (s.touchAhead c g sd y t) := by
  unfold State.touchAhead
  refine Accessed.ite ?_ .refl _
  exact Accessed.refl.each _ _ (fun v p hv => (hv.memTouch idle (by decide) _ _).ite hv _)

/-- STREAM_TRANSFER_START (R168). -/
theorem streamTransferStart_completes (c : CoreId) (d : Fin 64) (s : State) (g : Stage) (idle : s.noWaits = true) (stage : (s.core c).stage = some g)
    (loaded : g.loading = false) (valid : (g.stream d.val).valid = true) (fills : (g.stream d.val).dir = dirIn)
    (runs : (((s.takeReleases c).core c).dyn d.val).state = 1 ∨ (((s.takeReleases c).core c).dyn d.val).state = 2)
    (more : (((s.takeReleases c).core c).dyn d.val).started < (((s.takeReleases c).core c).dyn d.val).runStart + (((s.takeReleases c).core c).dyn d.val).count)
    (free : (((s.takeReleases c).core c).dyn d.val).fillFree (g.stream d.val).nbuf (((s.takeReleases c).core c).dyn d.val).started = true)
    (sent : (((s.takeReleases c).core c).dyn d.val).xfers.all (fun x => x.sent == (xferRequests g (g.stream d.val) x).length) = true) :
    let y := ((s.takeReleases c).core c).dyn d.val
    Completes (.streamTransferStart c d) s (fun u => ((u.core c).dyn d.val).started = y.started + 1 ∧ u.mem = s.mem
      ∧ ((u.core c).dyn d.val).xfers = y.xfers ++ [⟨y.started, y.started - y.runStart, y.base, 0, 0, false, false⟩]) := by
  intro y
  let s1 := s.takeReleases c
  let x : Xfer := ⟨y.started, y.started - y.runStart, y.base, 0, 0, false, false⟩
  let y' := { y with started := y.started + 1, xfers := y.xfers ++ [x], outPend := y.outPend.filter (fun k => k != y.started) }
  let s2 := s1.setCore c ((s1.core c).setDyn d.val y')
  have stage1 : (s1.core c).stage = some g := by
    obtain ⟨_, _, _, eq⟩ := s.core_takeReleases c
    rw [eq]; exact stage
  have step : streamTransferStart s c d.val = s2.touchAhead c g (g.stream d.val) y (y.started - y.runStart) := by
    unfold streamTransferStart
    dsimp only
    rw [show ((s.takeReleases c).core c).stage = some g from stage1]
    dsimp only
    rw [if_pos ⟨⟨runs, more, valid, by rw [loaded]; rfl⟩, sent, by rw [fills, if_pos (by decide)]; exact free⟩]
  have idle2 : s2.idleSlices := by
    have waits : s2.noWaits = s.noWaits := by
      show (s.takeReleases c).noWaits = s.noWaits
      rw [State.noWaits, State.takeReleases_fields, State.noWaits]
    exact State.idleSlices_of_noWaits (waits.trans idle)
  have kept := s2.touchAhead_keeps idle2 c g (g.stream d.val) y (y.started - y.runStart)
  have dyn : ((s2.touchAhead c g (g.stream d.val) y (y.started - y.runStart)).core c).dyn d.val = y' := by
    rw [kept.core, State.core_setCore_same, Core.dyn_setDyn_same]
  refine ⟨_, congrArg Host.Outcome.next step, congrArg StreamDyn.started dyn, kept.sameMem.trans ?_, congrArg StreamDyn.xfers dyn⟩
  show (s.takeReleases c).mem = s.mem
  rw [State.takeReleases_fields]

/-! ## A request is sent (R113, R170) -/

section
variable (c : CoreId) (s : State) (g : Stage) (d : Nat) (x : Xfer) (stage : (s.core c).stage = some g) (room : (s.core c).sreqs.length < 256)
  (next : nextSender g (s.core c) = some (d, x))
include stage room next

theorem streamRequestSend_eq : streamRequestSend s c = s.sendRequest c g d x (s.unreached c g d x) := by
  unfold streamRequestSend
  rw [stage]
  dsimp only
  rw [if_neg (Nat.not_le.mpr room), next]

/-- STREAM_REQUEST_SEND of a request that the core reaches (R170). -/
theorem streamRequestSend_reached (reached : s.unreached c g d x = none) : Completes (.streamRequestSend c) s (fun u =>
    (u.core c).sreqs = (s.core c).sreqs ++ [⟨(s.core c).nextId, Fin.ofNat 64 d, x.m, x.sent⟩] ∧ (u.core c).lastDesc = d
      ∧ (u.core c).dyn d = ((s.core c).dyn d).putXfer { x with sent := x.sent + 1 } ∧ u.mem = s.mem) := by
  let y := ((s.core c).dyn d).putXfer { x with sent := x.sent + 1 }
  let co : Core := { (s.core c).setDyn d y with
    sreqs := (s.core c).sreqs ++ [⟨(s.core c).nextId, Fin.ofNat 64 d, x.m, x.sent⟩], nextId := (s.core c).nextId + 1, lastDesc := d }
  have kept : (streamRequestSend s c).cores = (s.setCore c co).cores ∧ (streamRequestSend s c).mem = s.mem := by
    rw [streamRequestSend_eq c s g d x stage room next, reached]
    unfold State.sendRequest
    dsimp only
    split
    · exact ⟨State.markLesson_cores _ _ _, State.markLesson_mem _ _ _⟩
    · exact ⟨rfl, rfl⟩
  have core : (streamRequestSend s c).core c = co := by rw [State.core, kept.1]; exact State.core_setCore_same _ _ _
  exact ⟨_, rfl, congrArg Core.sreqs core, congrArg Core.lastDesc core, (congrArg (fun k => Core.dyn k d) core).trans (Core.dyn_setDyn_same (s.core c) d y), kept.2⟩

/-- STREAM_REQUEST_SEND of a request that the core does not reach (R113). -/
theorem streamRequestSend_unreached (a : Nat) (unreached : s.unreached c g d x = some a) : Completes (.streamRequestSend c) s (fun u =>
    ((u.core c).thread (Fin.ofNat 16 (g.stream d).owner)).state = .faulted ∧ u.mem = s.mem
      ∧ (u.core c).dyn d = ((s.core c).dyn d).putXfer { x with halted := true }) := by
  let y := ((s.core c).dyn d).putXfer { x with halted := true }
  let s1 := s.setCore c ((s.core c).setDyn d y)
  let w := (s1.core c).streamAt d (Fin.ofNat 16 (g.stream d).owner : Fin 16)
  let f : ThreadFault := ⟨Fin.ofNat 16 (g.stream d).owner, w.1, true, true, cADDRESS, a⟩
  have step : streamRequestSend s c = s1.raise c w.2 f := by
    rw [streamRequestSend_eq c s g d x stage room next, unreached]
    rfl
  have core : (s1.raise c w.2 f).core c = ((s.core c).setDyn d y).faulted w.2 f := by
    rw [State.raise_eq]
    refine (State.core_setCore_same _ _ _).trans ?_
    rw [State.core_setCore_same]
  refine ⟨_, congrArg Host.Outcome.next step, ?_, ?_, ?_⟩
  · rw [core]
    exact congrArg Thread.state (Core.thread_setThread_same _ _ _)
  · rw [State.raise_eq]; rfl
  · rw [core]
    exact Core.dyn_setDyn_same (s.core c) d y

end

/-! ## A request returns (R170) -/

/-- The rows that a fill covers whole are healed, and its sectors move, with every core as it was. -/
theorem State.landRequest_cores (s : State) (c : Nat) (out : Bool) (req : List (Nat × Nat × Nat)) :
    ((if out then s else s.each (wholeRows req) (fun s off => s.setRowPoison c off false)).each req (fun s p => s.moveSector c out p)).cores = s.cores := by
  refine State.each_induct (fun u => u.cores = s.cores) _ _ _ ?_ (fun t p ht => (t.moveSector_cores c out p).trans ht)
  split
  · rfl
  · exact ((StoreOnly.refl s).each _ (fun t off ht => ht.setRowPoison c off false)).cores

/-- STREAM_REQUEST_RETURN (R170). -/
theorem streamRequestReturn_completes (c : CoreId) (n : Nat) (s : State) (g : Stage) (r : StreamReq) (x : Xfer) :
    let y := (s.core c).dyn r.desc.val
    let req := (xferRequests g (g.stream r.desc.val) x).getD r.idx []
    let s' := s.setCore c (Core.setDyn { s.core c with sreqs := (s.core c).sreqs.filter (fun k => k.id != n) } r.desc.val (y.putXfer { x with returned := x.returned + 1 }))
    let v := if (g.stream r.desc.val).dir == dirOut then s' else s'.each (wholeRows req) (fun s off => s.setRowPoison c off false)
    (s.core c).stage = some g → (s.core c).sreqs.find? (fun k => k.id == n) = some r → y.xfers.find? (fun k => k.m == r.m) = some x → x.discard = false →
    req.any (fun p => s.outOfService (addrStack p.1) || NatSet.has (s.slice (homeSlice p.1)).fetching (p.1 / 32)) = false →
    Completes (.streamRequestReturn c n) s (fun u =>
      (u.core c).dyn r.desc.val = y.putXfer { x with returned := x.returned + 1 } ∧ (u.core c).sreqs = (s.core c).sreqs.filter (fun k => k.id != n)
        ∧ u.mem = (v.each req (fun s p => s.moveSector c ((g.stream r.desc.val).dir == dirOut) p)).mem) := by
  intro y req s' v stage found xfer wanted ready
  have step : streamRequestReturn s c n = v.each req (fun s p => s.moveSector c ((g.stream r.desc.val).dir == dirOut) p) := by
    unfold streamRequestReturn
    dsimp only
    split
    · next g' r' stage' found' =>
      cases stage'.symm.trans stage
      cases found'.symm.trans found
      split
      · next lost => exact absurd (lost.symm.trans xfer) (by simp)
      · next x' xfer' =>
        cases xfer'.symm.trans xfer
        rw [if_neg (by rw [ready]; decide), if_neg (by rw [wanted]; decide)]
    · next none => exact absurd found (none g r stage)
  have core : (v.each req (fun s p => s.moveSector c ((g.stream r.desc.val).dir == dirOut) p)).core c = s'.core c := by
    rw [State.core, s'.landRequest_cores c _ req, State.core]
  refine ⟨_, congrArg Host.Outcome.next step, ?_, ?_, rfl⟩
  · rw [core, State.core_setCore_same]; exact Core.dyn_setDyn_same _ _ _
  · rw [core, State.core_setCore_same]; rfl

/-! ## A transfer is over (R170, R172) -/

/-- Where no MMA runs, a buffer that has landed feeds none. -/
theorem mmaFeed_of_noneRuns (s : State) (c : CoreId) (h : (s.core c).mmaRun = []) : mmaFeed s c = s := by
  unfold mmaFeed Core.mmaAtInput
  rw [h]
  rfl

/-- STREAM_TRANSFER_COMPLETE (R170). -/
theorem streamTransferComplete_completes (c : CoreId) (d : Fin 64) (s : State) (g : Stage) (x : Xfer) :
    let y := (s.core c).dyn d.val
    (s.core c).stage = some g → (s.core c).mmaRun = [] → (∀ n : Fin 16, ((s.core c).thread n).state ≠ .waitStream) →
    y.xfers.find? (fun x => x.over (xferRequests g (g.stream d.val) x).length) = some x →
    Completes (.streamTransferComplete c d) s (fun u => u.mem = s.mem ∧ (u.core c).dyn d.val =
      if x.discard = true ∨ x.halted = true then { y with xfers := y.xfers.filter (fun k => k.m != x.m) } else y.complete x.m) := by
  intro y stage noMma quiet found
  let y' := if x.discard = true ∨ x.halted = true then { y with xfers := y.xfers.filter (fun k => k.m != x.m) } else y.complete x.m
  let u := s.setCore c ((s.core c).setDyn d.val y')
  have core : u.core c = (s.core c).setDyn d.val y' := State.core_setCore_same _ _ _
  have ends : streamTransferEnd s c d.val = u := by
    unfold streamTransferEnd
    dsimp only
    rw [stage]
    dsimp only
    rw [found]
    simp only [u, y', Bool.or_eq_true]
    split <;> rfl
  have step : streamTransferComplete s c d.val = u := by
    unfold streamTransferComplete
    rw [ends, State.wakeStreams_of_noneWaits u c (fun n => by rw [core]; exact quiet n), mmaFeed_of_noneRuns u c (by rw [core]; exact noMma)]
  exact ⟨u, congrArg Host.Outcome.next step, rfl, by rw [core]; exact Core.dyn_setDyn_same _ _ _⟩

/-! ## A released buffer moves on to its consumer (R171) -/

/-- The two descriptors after a hand-over: the producer's transfer is done, and the consumer's buffer has landed. -/
def State.handedOver (s : State) (c e : CoreId) (d p : Nat) (y w : StreamDyn) : State :=
  let t := (s.setCore c ((s.core c).setDyn d y)).wakeStreams c
  mmaFeed ((t.setCore e ((t.core e).setDyn p w)).wakeStreams e) e

/-- Where no thread of the two cores waits for a stream and no MMA runs, a hand-over leaves the memory and gives the two descriptors their values. -/
theorem State.handedOver_quiet (s : State) (c e : CoreId) (apart : e ≠ c) (d p : Nat) (y w : StreamDyn) (quiet : ∀ n : Fin 16, ((s.core c).thread n).state ≠ .waitStream)
    (quiet' : ∀ n : Fin 16, ((s.core e).thread n).state ≠ .waitStream) (noMma : (s.core e).mmaRun = []) :
    (s.handedOver c e d p y w).mem = s.mem ∧ ((s.handedOver c e d p y w).core c).dyn d = y ∧ ((s.handedOver c e d p y w).core e).dyn p = w := by
  have producer : (s.setCore c ((s.core c).setDyn d y)).wakeStreams c = s.setCore c ((s.core c).setDyn d y) :=
    State.wakeStreams_of_noneWaits _ c (fun n => by rw [State.core_setCore_same]; exact quiet n)
  have quieted : s.handedOver c e d p y w = (s.setCore c ((s.core c).setDyn d y)).setCore e ((s.core e).setDyn p w) := by
    unfold State.handedOver
    dsimp only
    rw [producer, State.core_setCore_other _ _ _ _ apart]
    rw [State.wakeStreams_of_noneWaits _ e (fun n => by rw [State.core_setCore_same]; exact quiet' n)]
    exact mmaFeed_of_noneRuns _ e (by rw [State.core_setCore_same]; exact noMma)
  rw [quieted]
  refine ⟨rfl, ?_, ?_⟩
  · rw [State.core_setCore_other _ _ _ _ (Ne.symm apart), State.core_setCore_same, Core.dyn_setDyn_same]
  · rw [State.core_setCore_same, Core.dyn_setDyn_same]

/-- The bytes of a buffer copied into the consumer's, part by part. -/
def State.linkCopied (s : State) (c e : CoreId) (src dst : Tile) (rb : Nat) : State :=
  s.each ((List.range src.rows).flatMap (linkRow src dst rb) ++ (rowParts src.scaleOff src.scaleLen).map (fun q => (q.1, dst.scaleOff + (q.1 - src.scaleOff), q.2)))
    (fun s r => s.storeWrite e r.2.1 (s.bytes (coreStoreKey (s.physCore c) r.1) r.2.2) (s.rowPoisoned c r.1))

theorem State.linkCopied_core (s : State) (c e k : CoreId) (src dst : Tile) (rb : Nat) : (s.linkCopied c e src dst rb).core k = s.core k := by
  have cores : (s.linkCopied c e src dst rb).cores = s.cores := ((StoreOnly.refl s).each _ (fun t r ht => ht.storeWrite e _ _ _)).cores
  rw [State.core, cores, State.core]

section
variable (c e : CoreId) (d : Fin 64) (s : State) (g h : Stage) (m : Nat) (rest : List Nat)

/-- The command with its premises met: the copy, then the hand-over. -/
theorem linkBufferMove_eq :
    let sd := g.stream d.val
    let s1 := s.takeReleases c
    let s2 := s1.takeReleases e
    let y := (s1.core c).dyn d.val
    let w := (s2.core e).dyn sd.linkDesc
    (s.core c).stage = some g → y.outPend = m :: rest → s1.linkConsumer c g sd = some (e, h) → sd.valid = true → sd.dir = dirOut → sd.target = 1 →
    (y.state = 1 ∨ y.state = 2) → m < y.runStart + y.count → (h.stream sd.linkDesc).valid = true → (h.stream sd.linkDesc).dir = dirLinkIn →
    w.fillFree (h.stream sd.linkDesc).nbuf w.started = true →
    linkBufferMove s c d.val = (s2.linkCopied c e (bufferTile g sd m) (bufferTile h (h.stream sd.linkDesc) w.started) sd.rb).handedOver c e d.val sd.linkDesc
      ({ y with started := m + 1, outPend := rest }.complete m)
      { w with landed := NatSet.insert w.landed w.started, started := w.started + 1, done := w.done + 1 } := by
  intro sd s1 s2 y w stage pending consumer valid out linked runs due valid' linkIn free
  have stage1 : ((s.takeReleases c).core c).stage = some g := by
    obtain ⟨_, _, _, eq⟩ := s.core_takeReleases c
    rw [eq]; exact stage
  unfold linkBufferMove
  dsimp only
  split
  · next none => cases none.symm.trans stage1
  · next g' found =>
    cases found.symm.trans stage1
    split
    · next m' rest' e' h' pending' consumer' =>
      cases pending'.symm.trans pending
      cases consumer'.symm.trans consumer
      rw [if_pos ⟨valid, out, linked, ⟨runs, due⟩, valid', linkIn, free⟩]
      rw [show List.drop 1 (((s.takeReleases c).core c).dyn d.val).outPend = rest from congrArg (List.drop 1) pending]
      rfl
    · next none => exact absurd consumer (none m rest e h pending)

/-- LINK_BUFFER_MOVE (R171). -/
theorem linkBufferMove_completes :
    let sd := g.stream d.val
    let s1 := s.takeReleases c
    let s2 := s1.takeReleases e
    let y := (s1.core c).dyn d.val
    let w := (s2.core e).dyn sd.linkDesc
    let src := bufferTile g sd m
    let dst := bufferTile h (h.stream sd.linkDesc) w.started
    (s.core c).stage = some g → y.outPend = m :: rest → s1.linkConsumer c g sd = some (e, h) → e ≠ c → sd.valid = true → sd.dir = dirOut → sd.target = 1 →
    (y.state = 1 ∨ y.state = 2) → m < y.runStart + y.count → (h.stream sd.linkDesc).valid = true → (h.stream sd.linkDesc).dir = dirLinkIn →
    w.fillFree (h.stream sd.linkDesc).nbuf w.started = true →
    (∀ n : Fin 16, ((s.core c).thread n).state ≠ .waitStream ∧ ((s.core e).thread n).state ≠ .waitStream) → (s.core e).mmaRun = [] →
    Completes (.linkBufferMove c d) s (fun u =>
      u.mem = (s2.each ((List.range src.rows).flatMap (linkRow src dst sd.rb)
          ++ (rowParts src.scaleOff src.scaleLen).map (fun q => (q.1, dst.scaleOff + (q.1 - src.scaleOff), q.2)))
        (fun s r => s.storeWrite e r.2.1 (s.bytes (coreStoreKey (s.physCore c) r.1) r.2.2) (s.rowPoisoned c r.1))).mem ∧
      (u.core c).dyn d.val = { y with started := m + 1, outPend := rest }.complete m ∧
      (u.core e).dyn sd.linkDesc = { w with landed := NatSet.insert w.landed w.started, started := w.started + 1, done := w.done + 1 }) := by
  intro sd s1 s2 y w src dst stage pending consumer apart valid out linked runs due valid' linkIn free quiet noMma
  have copied : (s2.linkCopied c e src dst sd.rb).mem = (s2.each ((List.range src.rows).flatMap (linkRow src dst sd.rb)
          ++ (rowParts src.scaleOff src.scaleLen).map (fun q => (q.1, dst.scaleOff + (q.1 - src.scaleOff), q.2)))
        (fun s r => s.storeWrite e r.2.1 (s.bytes (coreStoreKey (s.physCore c) r.1) r.2.2) (s.rowPoisoned c r.1))).mem := rfl
  have step := linkBufferMove_eq c e d s g h m rest stage pending consumer valid out linked runs due valid' linkIn free
  have threads (k : CoreId) (n : Fin 16) : ((s2.linkCopied c e src dst sd.rb).core k).thread n = (s.core k).thread n := by
    rw [State.linkCopied_core, Core.thread, State.takeReleases_threads s1 e k, State.takeReleases_threads s c k, Core.thread]
  have run : ((s2.linkCopied c e src dst sd.rb).core e).mmaRun = [] := by
    obtain ⟨_, _, _, eq⟩ := s1.core_takeReleases e
    rw [State.linkCopied_core, show s2.core e = _ from eq, show s1.core e = s.core e from State.core_takeReleases_other s c apart]
    exact noMma
  have handed := fun y w => State.handedOver_quiet _ c e apart d.val sd.linkDesc y w (fun n => by rw [threads]; exact (quiet n).1) (fun n => by rw [threads]; exact (quiet n).2) run
  rw [← copied]
  refine ⟨_, congrArg Host.Outcome.next step, ?_⟩
  exact handed _ _

end

/-- Settles O26: a transfer starts, sends and lands its requests and completes, and a released buffer of a LINK moves into its consumer's next one. -/
theorem streamTransfers : Obligations.StreamTransfers :=
  ⟨⟨fun c d s g idle stage loaded valid fills runs more free sent => streamTransferStart_completes c d s g idle stage loaded valid fills runs more free sent,
    fun c s g d x stage room next => ⟨streamRequestSend_reached c s g d x stage room next, streamRequestSend_unreached c s g d x stage room next⟩,
    streamRequestReturn_completes, streamTransferComplete_completes, fun s c a off idle => s.moveSector_lands c a off idle⟩,
    linkBufferMove_completes⟩

end Sys2Proof.Machine
end

section
/-!
SUPPORT. Arrivals at a Bell: a thread that comes to one, the report of a stack, and the messages that a leader counts (R97, R176, R177, R332).
-/
namespace Sys2Proof.Machine

/-! ## What is sent -/

section
variable (s : State)

theorem State.sendFrame_fields (type dest : Nat) (bcast : Bool) (p : List Byte) :
    s.sendFrame type dest bcast p = { s with corridor := (s.sendFrame type dest bcast p).corridor } := by
  unfold State.sendFrame; split <;> rfl
theorem State.sendVc0_fields (part type dest : Nat) (p : List Byte) : s.sendVc0 part type dest p = { s with ports := (s.sendVc0 part type dest p).ports } := by
  unfold State.sendVc0 State.portSend
  split
  · split
    · split
      · split <;> rfl
      · rfl
    · rfl
  · rfl
/-- A Bell message changes what leaves over Corridor and the ports. -/
theorem State.sendBell_fields (r : BellRec) (type dest : Nat) (bcast : Bool) (p : List Byte) :
    s.sendBell r type dest bcast p = { s with corridor := (s.sendBell r type dest bcast p).corridor, ports := (s.sendBell r type dest bcast p).ports } := by
  unfold State.sendBell
  split
  · rw [State.sendVc0_fields]
  · rw [State.sendFrame_fields]
theorem State.sendBell_bell (r : BellRec) (type dest : Nat) (bcast : Bool) (p : List Byte) (g : Nat) : (s.sendBell r type dest bcast p).bell g = s.bell g := by
  rw [State.bell, State.sendBell_fields, State.bell]
theorem State.bell_ite_sendBell (q : Prop) [Decidable q] (r : BellRec) (type dest : Nat) (bcast : Bool) (p : List Byte) (g : Nat) :
    (if q then s else s.sendBell r type dest bcast p).bell g = s.bell g := by
  split
  · rfl
  · exact s.sendBell_bell _ _ _ _ _ _

end

/-- A payload of 32 bytes stands as it is (R327). -/
theorem payload32_bellPayload (g e s : Nat) : payload32 (bellPayload g e s) = bellPayload g e s := by
  have len : (bellPayload g e s).length = 32 := by
    unfold bellPayload payload32
    rw [List.length_take, List.length_append, List.length_replicate]
    omega
  rw [payload32, List.take_append_of_le_length (Nat.le_of_eq len.symm), ← len, List.take_length]

/-- The BELL_ARRIVE of a module that has a seat and is on the ring goes to the transmit queue (R326, R327). -/
theorem State.sendFrame_bellArrive (s : State) (dest g e : Nat) (onRing : s.corridor.bypassOpen = true) (seated : s.seatValid = true) :
    ∃ f : Frame, f.type = 0 ∧ f.dest = BitVec.ofNat 12 dest ∧ f.bcast = false ∧ f.payload = bellPayload g e s.seat
      ∧ (s.sendFrame tBELL_ARRIVE dest false (bellPayload g e s.seat)).corridor.txq = s.corridor.txq ++ [(1, false, f)] := by
  refine ⟨⟨BitVec.ofNat 4 tBELL_ARRIVE, BitVec.ofNat 12 s.seat, BitVec.ofNat 12 dest, false, 0, Tab.get 0 s.corridor.seqs tBELL_ARRIVE,
    payload32 (bellPayload g e s.seat), 0⟩, rfl, rfl, rfl, payload32_bellPayload _ _ _, ?_⟩
  unfold State.sendFrame
  rw [onRing, seated]
  rfl

/-! ## The report of this module's arrivals (R177) -/

theorem Bell.arrive_record (b : Bell) (now : Word) (a : CoreId × Fin 16 × Fin 32) : (b.arrive now a).record = b.record := by
  unfold Bell.arrive; split <;> rfl

/-- A group below job level reports nothing. -/
theorem State.bellReport_inside (s : State) (g : Nat) (h : (bellRec (s.bell g).record).level ≠ 3) : s.bellReport g = s := by
  unfold State.bellReport
  have below : ((bellRec (s.bell g).record).level == 3) = false := beq_eq_false_iff_ne.mpr h
  simp only [below, Bool.false_and, Bool.false_eq_true, if_false]

/-- A report that is not due sends nothing. -/
theorem State.bellReport_notDue (s : State) (g : Nat) (h : (s.bell g).complete = false ∨ (s.bell g).arriveSent = true) : s.bellReport g = s := by
  unfold State.bellReport
  rcases h with h | h <;> simp [h]

/-- A Bell of a job-level group once its arrivals here have been looked at: it is marked as reported, and the leader counts its own seat. -/
def Bell.reportedAt (x : Bell) (leads : Prop) [Decidable leads] (seat : BitVec 12) : Bell :=
  if x.complete = true ∧ x.arriveSent = false then { x with arriveSent := true, seats := if leads ∧ seat ∉ x.seats then x.seats ++ [seat] else x.seats } else x

section
variable (s : State) (g : Nat) (job : (bellRec (s.bell g).record).level = 3)
include job

theorem State.bellReport_bell :
    (s.bellReport g).bell g = (s.bell g).reportedAt ((bellRec (s.bell g).record).leader = s.seat) (BitVec.ofNat 12 s.seat) := by
  unfold State.bellReport Bell.reportedAt
  dsimp only
  simp only [job, beq_self_eq_true, Bool.true_and, Bool.and_eq_true, Bool.not_eq_true', List.elem_eq_mem, decide_eq_false_iff_not, beq_iff_eq]
  split
  · rw [State.bell_ite_sendBell, State.bell_setBell_same]
  · rfl
/-- A report that is due at a member is sent to the leader. -/
theorem State.bellReport_sends (done : (s.bell g).complete = true) (first : (s.bell g).arriveSent = false) (away : (bellRec (s.bell g).record).leader ≠ s.seat)
    (ring : (bellRec (s.bell g).record).vc0 = false) (onRing : s.corridor.bypassOpen = true) (seated : s.seatValid = true) :
    ∃ f : Frame, f.type = 0 ∧ f.dest = BitVec.ofNat 12 (bellRec (s.bell g).record).leader ∧ f.bcast = false
      ∧ f.payload = bellPayload g (s.bell g).episode.toNat s.seat ∧ (s.bellReport g).corridor.txq = s.corridor.txq ++ [(1, false, f)] := by
  have away' : ((bellRec (s.bell g).record).leader == s.seat) = false := beq_eq_false_iff_ne.mpr away
  have stays (v : Bell) : (s.setBell g v).seat = s.seat := rfl
  unfold State.bellReport
  dsimp only
  simp only [job, done, first, stays, away', beq_self_eq_true, Bool.not_false, Bool.and_self, if_true, Bool.false_and, Bool.false_eq_true, if_false]
  unfold State.sendBell
  rw [ring, if_neg (by decide)]
  exact State.sendFrame_bellArrive (s.setBell g _) _ g (s.bell g).episode.toNat onRing seated

end

/-! ## A thread comes to a Bell (R97, R176) -/

theorem ThreadOnly.fields_judged {s w : State} {r : ThreadRef} (h : ThreadOnly (s.judged r) w r.core r.thread) : w = { s with cores := w.cores } := by
  have only : w = { s.takeReleases r.core with cores := w.cores } := h.fields
  rw [State.takeReleases_fields] at only
  exact only

section
variable {b : Issue} {group : BitVec 12} {xa : Fin 32} {s : State} {g : Stage} {t : Thread} (hn : b.other = .nop) (hb : b.slotB = true)
  (issues : Issues s b.at' (bundleOf b (.bell group xa)) g t)
include hn hb issues

/-- A thread with no write under way arrives: it waits at the Bell, its arrival is counted, and the module's report follows. -/
theorem bell_arrives (clear : ((s.judged b.at').core b.at'.core).fenceClear g b.at'.thread = true) : ∃ v : State, v = { s with cores := v.cores }
    ∧ (v.threadAt b.at').state = .waitBell ∧ (v.threadAt b.at').waitBell = some (group, xa)
    ∧ exec (.bell b group xa) s = .next ((((v.setBell group.toNat ((s.bell group.toNat).arrive (BitVec.ofNat 64 s.now) (b.at'.core, b.at'.thread, xa))).bellReport
      group.toNat).bump F.coreIssueBundlesCount (coreInst b.at'.core) 0 1)) := by
  have ends := completes_slotB (i := .bell b group xa) (P := fun u => ∃ v : State, v = { s with cores := v.cores } ∧ (v.threadAt b.at').state = .waitBell
    ∧ (v.threadAt b.at').waitBell = some (group, xa) ∧ u = (((v.setBell group.toNat ((s.bell group.toNat).arrive (BitVec.ofNat 64 s.now)
      (b.at'.core, b.at'.thread, xa))).bellReport group.toNat).bump F.coreIssueBundlesCount (coreInst b.at'.core) 0 1)) rfl hn hb issues (fun w only thread => ?_)
  · obtain ⟨u, done, v, fields, state, waits, rfl⟩ := ends
    exact ⟨v, fields, state, waits, done⟩
  · have clear' : (w.core b.at'.core).fenceClear g b.at'.thread = true := by
      obtain ⟨l, hl⟩ := only.core
      rw [hl]; exact clear
    let v := w.onThread b.at'.core b.at'.thread (fun t => { t with state := .waitBell, waitBell := some (group, xa) })
    have fields : v = { s with cores := v.cores } := (only.onThread _).fields_judged
    have same : v.bell group.toNat = s.bell group.toNat ∧ v.now = s.now := by
      constructor
      · rw [State.bell, fields, State.bell]
      · rw [State.now, State.reg, fields, State.now, State.reg]
    have thread' : v.threadAt b.at' = { (w.core b.at'.core).thread b.at'.thread with state := .waitBell, waitBell := some (group, xa) } := by
      rw [State.threadAt, State.core_onThread_same, Core.thread_setThread_same]
    refine ⟨v, fields, by rw [thread'], by rw [thread'], congrArg (fun u => State.bump u F.coreIssueBundlesCount (coreInst b.at'.core) 0 1) ?_⟩
    have arrives : effect w b.at'.core b.at'.thread g t true (.bell group xa) = bellArrive v b.at'.core b.at'.thread group xa := by
      refine Eq.trans (b := w.atBell b.at'.core b.at'.thread g group xa) rfl ?_
      unfold State.atBell
      rw [if_pos clear']
    rw [arrives, bellArrive, same.1, same.2]

/-- BELL below job level (R176). -/
theorem bell_inside (clear : ((s.judged b.at').core b.at'.core).fenceClear g b.at'.thread = true) (inside : (bellRec (s.bell group.toNat).record).level ≠ 3) :
    Completes (.bell b group xa) s (fun u => (u.threadAt b.at').state = .waitBell ∧ (u.threadAt b.at').waitBell = some (group, xa)
      ∧ u.bell group.toNat = (s.bell group.toNat).arrive (BitVec.ofNat 64 s.now) (b.at'.core, b.at'.thread, xa) ∧ u.mem = s.mem) := by
  obtain ⟨v, fields, state, waits, done⟩ := bell_arrives hn hb issues clear
  rw [State.bellReport_inside _ _ (by rw [State.bell_setBell_same, Bell.arrive_record]; exact inside)] at done
  exact ⟨_, done, state, waits, State.bell_setBell_same _ _ _, (congrArg State.mem fields :)⟩

/-- BELL of a job-level group (R177, R332). -/
theorem bell_jobLevel (clear : ((s.judged b.at').core b.at'.core).fenceClear g b.at'.thread = true) (job : (bellRec (s.bell group.toNat).record).level = 3) :
    let x := (s.bell group.toNat).arrive (BitVec.ofNat 64 s.now) (b.at'.core, b.at'.thread, xa)
    let r := bellRec (s.bell group.toNat).record
    let seat := BitVec.ofNat 12 s.seat
    Completes (.bell b group xa) s (fun u => (u.threadAt b.at').state = .waitBell ∧ (u.threadAt b.at').waitBell = some (group, xa) ∧ u.mem = s.mem
      ∧ u.bell group.toNat = (if x.complete = true ∧ x.arriveSent = false then
          { x with arriveSent := true, seats := if r.leader = s.seat ∧ seat ∉ x.seats then x.seats ++ [seat] else x.seats } else x)
      ∧ (x.complete = true → x.arriveSent = false → r.leader ≠ s.seat → r.vc0 = false → s.corridor.bypassOpen = true → s.seatValid = true →
          ∃ f : Frame, f.type = 0 ∧ f.dest = BitVec.ofNat 12 r.leader ∧ f.bcast = false ∧ f.payload = bellPayload group.toNat x.episode.toNat s.seat
            ∧ u.corridor.txq = s.corridor.txq ++ [(1, false, f)])
      ∧ ((x.complete = false ∨ x.arriveSent = true) → u.corridor = s.corridor)) := by
  intro x r seat
  obtain ⟨v, fields, state, waits, done⟩ := bell_arrives hn hb issues clear
  let w := v.setBell group.toNat x
  have corridor : w.corridor = s.corridor := (congrArg State.corridor fields :)
  have mySeat : w.seat = s.seat ∧ w.seatValid = s.seatValid := by
    have regs : w.regs = s.regs := (congrArg State.regs fields :)
    constructor
    · rw [State.seat, State.fld, State.reg, regs, State.seat, State.fld, State.reg]
    · rw [State.seatValid, State.fld, State.reg, regs, State.seatValid, State.fld, State.reg]
  have bell : w.bell group.toNat = x := State.bell_setBell_same _ _ _
  have xrecord : bellRec x.record = r := by rw [Bell.arrive_record]
  have record : bellRec (w.bell group.toNat).record = r := by rw [bell, xrecord]
  have job' : (bellRec (w.bell group.toNat).record).level = 3 := by rw [record]; exact job
  have tutors : TutorOnly w (w.bellReport group.toNat) := TutorOnly.refl.bellReport _
  have thread : (w.bellReport group.toNat).threadAt b.at' = v.threadAt b.at' := by rw [State.threadAt, tutors.core]; rfl
  refine ⟨_, done, ?_, ?_, ?_, ?_, fun full first away ring onRing seated => ?_, fun idle => ?_⟩
  · exact (congrArg Thread.state thread).trans state
  · exact (congrArg Thread.waitBell thread).trans waits
  · exact tutors.mem.trans (congrArg State.mem fields :)
  · refine (w.bellReport_bell group.toNat job').trans ?_
    simp only [bell, xrecord, mySeat.1]
    rfl
  · rw [← bell] at full first
    obtain ⟨f, type, dest, bcast, payload, queued⟩ := w.bellReport_sends group.toNat job' full first (by rw [record, mySeat.1]; exact away) (by rw [record]; exact ring)
      (by rw [corridor]; exact onRing) (by rw [mySeat.2]; exact seated)
    rw [record] at dest
    rw [bell, mySeat.1] at payload
    rw [corridor] at queued
    exact ⟨f, type, dest, bcast, payload, queued⟩
  · rw [← bell] at idle
    exact (congrArg State.corridor (w.bellReport_notDue group.toNat idle)).trans corridor

/-- BELL of a thread with a write under way (R97). -/
theorem bell_fenced (unclear : ((s.judged b.at').core b.at'.core).fenceClear g b.at'.thread = false) :
    Completes (.bell b group xa) s (fun u => (u.threadAt b.at').state = .waitFence ∧ (u.threadAt b.at').waitBell = some (group, xa)
      ∧ u.bells = s.bells ∧ u.mem = s.mem) := by
  refine completes_slotB rfl hn hb issues (fun w only thread => ?_)
  have unclear' : (w.core b.at'.core).fenceClear g b.at'.thread = false := by
    obtain ⟨l, hl⟩ := only.core
    rw [hl]; exact unclear
  let v := w.onThread b.at'.core b.at'.thread (fun t => { t with state := .waitFence, waitBell := some (group, xa) })
  have fields : v = { s with cores := v.cores } := (only.onThread _).fields_judged
  have waits : effect w b.at'.core b.at'.thread g t true (.bell group xa) = v := by
    refine Eq.trans (b := w.atBell b.at'.core b.at'.thread g group xa) rfl ?_
    unfold State.atBell
    rw [if_neg (by rw [unclear']; decide)]
  have thread' : v.threadAt b.at' = { (w.core b.at'.core).thread b.at'.thread with state := .waitFence, waitBell := some (group, xa) } := by
    rw [State.threadAt, State.core_onThread_same, Core.thread_setThread_same]
  rw [waits]
  exact ⟨congrArg Thread.state thread', congrArg Thread.waitBell thread', (congrArg State.bells fields :), (congrArg State.mem fields :)⟩

end

/-! ## Reports and messages of arrivals (R177, R332) -/

/-- BELL_ARRIVAL_REPORT (R177). -/
theorem bellArrivalReport_completes (group : BitVec 12) (st : StackId) (s : State) :
    let b := s.bell group.toNat
    let r := bellRec b.record
    r.valid = true → r.level = 2 → st.val ≠ r.counting → r.stackList.elem st.val = true → s.hallwayDown st.val r.counting = false →
    Completes (.bellArrivalReport group st) s (fun u =>
      u.bell group.toNat = { b with reported := Tab.set 0 b.reported st.val (b.arrivedOn st.val) } ∧ u.mem = s.mem ∧ u.cores = s.cores) := by
  intro b r valid level away member up
  let u := s.setBell group.toNat { b with reported := Tab.set 0 b.reported st.val (b.arrivedOn st.val) }
  have step : bellArrivalReport s group.toNat st.val = u.countHallway st.val r.counting (Config.tutorMsgBytes 3) := by
    have inside : u.bellReport group.toNat = u := u.bellReport_inside _ (by
      rw [State.bell_setBell_same]
      show r.level ≠ 3
      rw [level]; decide)
    have due : (r.valid && decide (r.level ≥ 2) && st.val != r.counting && r.stackList.elem st.val && !s.hallwayDown st.val r.counting) = true := by
      rw [valid, level, member, up, bne_iff_ne.mpr away]; rfl
    unfold bellArrivalReport
    dsimp only
    rw [if_pos due]
    exact congrArg (fun t => State.countHallway t st.val r.counting (Config.tutorMsgBytes 3)) inside
  refine ⟨_, congrArg Host.Outcome.next step, ?_, ?_, ?_⟩
  · rw [State.bell, State.countHallway_fields]
    exact State.bell_setBell_same _ _ _
  · rw [State.countHallway_fields]; rfl
  · rw [State.countHallway_fields]; rfl

/-- BELL_ARRIVE at the leader (R332). -/
theorem bellArriveMessage_counts (k : BellMsg) (s : State) :
    let b := s.bell k.group.toNat
    let r := bellRec b.record
    let seat := k.seat.setWidth 12
    r.valid = true → r.level = 3 → r.leader = s.seat → s.seatValid = true →
    (k.episode = b.episode → b.seats.elem seat = false → exec (.bellArrive k) s = .next (s.setBell k.group.toNat { b with seats := b.seats ++ [seat] })) ∧
    (k.episode = b.episode → b.seats.elem seat = true → exec (.bellArrive k) s = .next s) ∧
    (k.episode = b.episode + 1 → b.seatHeld.elem seat = false → exec (.bellArrive k) s = .next (s.setBell k.group.toNat { b with seatHeld := b.seatHeld ++ [seat] })) := by
  intro b r seat valid job leads seated
  have mine : (r.valid && r.level == 3 && r.leader == s.seat && s.seatValid) = true := by simp [valid, job, leads, seated]
  have now (h : k.episode = b.episode) : bellArriveMessage s k = if b.seats.elem seat then s else s.setBell k.group.toNat { b with seats := b.seats ++ [seat] } := by
    unfold bellArriveMessage
    dsimp only
    rw [if_pos mine, if_pos (beq_iff_eq.mpr h)]
  refine ⟨fun h new => ?_, fun h old => ?_, fun h new => ?_⟩
  · refine congrArg Host.Outcome.next ((now h).trans ?_)
    rw [new, if_neg (by decide)]
  · refine congrArg Host.Outcome.next ((now h).trans ?_)
    rw [old, if_pos rfl]
  · have later : (k.episode == b.episode) = false := by
      rw [h]
      exact beq_eq_false_iff_ne.mpr (by bv_omega)
    refine congrArg Host.Outcome.next ?_
    unfold bellArriveMessage
    dsimp only
    rw [if_pos mine, later, if_neg (by decide), if_pos (beq_iff_eq.mpr h), new, if_neg (by decide)]

end Sys2Proof.Machine
end

section
/-!
SUPPORT. The release of a Bell's episode: who becomes READY, what a register reads then, and the episode that follows (R176, R177, R179, R332).
-/
namespace Sys2Proof.Machine

/-! ## A sweep that reaches one of its steps -/

/-- What every step of a sweep over the elements of its list keeps holds at the end. -/
theorem State.each_keeps {α : Type} (P : State → Prop) {l : List α} {f : State → α → State} {s : State} (hs : P s)
    (keeps : ∀ t b, b ∈ l → P t → P (f t b)) : P (s.each l f) := by
  unfold State.each
  induction l generalizing s with
  | nil => exact hs
  | cons x l ih => exact ih (keeps s x List.mem_cons_self hs) (fun t b hb => keeps t b (List.mem_cons_of_mem x hb))

/-- What an invariant of a sweep lets the step of one element establish, and every other step keep, holds at the end. -/
theorem State.each_reaches {α : Type} (Q P : State → Prop) {l : List α} {a : α} {f : State → α → State} {s : State} (ha : a ∈ l) (hs : Q s)
    (keeps : ∀ t b, b ∈ l → Q t → Q (f t b)) (reach : ∀ t, Q t → P (f t a)) (stay : ∀ t b, b ∈ l → Q t → P t → P (f t b)) : P (s.each l f) := by
  induction l generalizing s with
  | nil => cases ha
  | cons x l ih =>
    have keeps' (t : State) (b : α) (hb : b ∈ l) : Q t → Q (f t b) := keeps t b (List.mem_cons_of_mem x hb)
    have stay' (t : State) (b : α) (hb : b ∈ l) : Q t → P t → P (f t b) := stay t b (List.mem_cons_of_mem x hb)
    rcases List.mem_cons.mp ha with rfl | ha
    · exact (State.each_keeps (l := l) (s := f s a) (fun t => Q t ∧ P t) ⟨keeps s a List.mem_cons_self hs, reach s hs⟩
        (fun t b hb ht => ⟨keeps' t b hb ht.1, stay' t b hb ht.1 ht.2⟩)).2
    · exact ih (s := f s x) ha (keeps s x List.mem_cons_self hs) keeps' stay'

/-! ## The statistics entry (R179) -/

/-- A read or write of a unit leaves the cores, the Bells and the Slate. -/
theorem State.readFrom_keeps (s : State) (st cls a n : Nat) :
    (s.readFrom st cls a n).1.cores = s.cores ∧ (s.readFrom st cls a n).1.bells = s.bells ∧ (s.readFrom st cls a n).1.slate = s.slate := by
  unfold State.readFrom
  split
  · exact ⟨rfl, rfl, rfl⟩
  · have read : Accessed True s ((s.memRead cls a n).1.countHallway (addrStack a) st n) := (Accessed.refl.readServing cls a n).countHallway _ _ _
    dsimp only
    rw [read.fields]
    exact ⟨rfl, rfl, rfl⟩
theorem State.writeFrom_keeps (s : State) (st cls a : Nat) (data : List Byte) (p : Bool) :
    (s.writeFrom st cls a data p).cores = s.cores ∧ (s.writeFrom st cls a data p).bells = s.bells ∧ (s.writeFrom st cls a data p).slate = s.slate := by
  have wrote : Accessed True s (s.writeFrom st cls a data p) := by
    unfold State.writeFrom
    refine Accessed.ite ?_ ((Accessed.refl.writeServing _ _ _ _).countHallway _ _ _) _
    unfold State.dropAtLink
    split
    · exact .refl
    · exact Accessed.refl.log _ _ _ _ _ _ (by decide)
  rw [wrote.fields]
  exact ⟨rfl, rfl, rfl⟩

/-! ## A thread that wakes (R176) -/

/-- The thread as the release leaves it: READY, with the episode number in its register. -/
def Thread.woken (t : Thread) (xa : Fin 32) (episode : BitVec 32) : Thread := { (t.wx xa (episode.setWidth 64)) with state := .ready, waitBell := none }

theorem Thread.rx_woken (t : Thread) (xa k : Fin 32) (episode : BitVec 32) :
    (t.woken xa episode).rx k = if k = xa ∧ xa ≠ 0 then episode.setWidth 64 else t.rx k := by
  have same : (t.woken xa episode).rx k = (t.wx xa (episode.setWidth 64)).rx k := rfl
  rw [same]
  by_cases h : k = xa
  · subst h
    rw [Thread.rx_wx_same]
    by_cases zero : k = 0
    · subst zero; rfl
    · rw [if_neg zero, if_pos ⟨rfl, zero⟩]
  · rw [Thread.rx_wx_other _ _ _ _ h, if_neg (fun e => h e.1)]

section
variable (s : State) (g : Nat) (e : BitVec 32) (a : CoreId × Fin 16 × Fin 32)

theorem State.wakeBell_fields : s.wakeBell g e a = { s with cores := (s.wakeBell g e a).cores } := by
  unfold State.wakeBell; dsimp only; split <;> rfl
/-- An arrival of another thread leaves a thread. -/
theorem State.wakeBell_other {c : CoreId} {n : Fin 16} (h : a.1 ≠ c ∨ a.2.1 ≠ n) : ((s.wakeBell g e a).core c).thread n = (s.core c).thread n := by
  unfold State.wakeBell
  dsimp only
  split
  · by_cases hc : a.1 = c
    · rw [hc, State.core_setCore_same]
      have hn : a.2.1 ≠ n := h.resolve_left (fun k => k hc)
      exact Core.thread_setThread_other _ _ _ _ (fun k => hn (Fin.ext k.symm))
    · rw [State.core_setCore_other _ _ _ _ (Ne.symm hc)]
  · rfl
/-- The thread that waits at the group wakes. -/
theorem State.wakeBell_waiting {t : Thread} (thread : (s.core a.1).thread a.2.1 = t) (waits : t.state = .waitBell) {group : BitVec 12} {xa : Fin 32}
    (at' : t.waitBell = some (group, xa)) (same : group.toNat = g) : ((s.wakeBell g e a).core a.1).thread a.2.1 = t.woken a.2.2 e := by
  unfold State.wakeBell
  dsimp only
  rw [thread, waits, at', Option.map_some, same, if_pos (by simp)]
  rw [State.core_setCore_same, Core.thread_setThread_same]
  rfl
/-- A READY thread stays as it is. -/
theorem State.wakeBell_ready (ready : ((s.core a.1).thread a.2.1).state = .ready) : s.wakeBell g e a = s := by
  unfold State.wakeBell
  dsimp only
  rw [ready]
  rfl

end

/-! ## The release (R176, R179) -/

theorem Bell.next_record (b : Bell) (e : BitVec 32) (now : Word) (held : List (CoreId × Fin 16 × Fin 32)) : (b.next e now held).record = b.record := by
  unfold Bell.next
  generalize hb : ({ b with episode := e, arrivals := [], held := [], reported := [], firstAt := none, seats := b.seatHeld, seatHeld := [], arriveSent := false } : Bell) = x
  have record : x.record = b.record := by rw [← hb]
  rw [← record]
  clear hb record
  induction held generalizing x with
  | nil => rfl
  | cons a l ih => rw [List.foldl_cons, ih, Bell.arrive_record]

/-- The threads of a state after the sweep that wakes those of a group's arrivals. -/
def State.wokenBy (s : State) (g : Nat) (b : Bell) : State := s.each b.arrivals (fun s x => s.wakeBell g b.episode x)

theorem State.wokenBy_fields (s : State) (g : Nat) (b : Bell) : s.wokenBy g b = { s with cores := (s.wokenBy g b).cores } :=
  State.each_induct (fun u => u = { s with cores := u.cores }) _ _ _ rfl (fun t a ht => by rw [State.wakeBell_fields, ht])

/-- A release: threads wake, the next episode begins, and the module may report its arrivals at once. -/
theorem State.releaseBell_eq (s : State) (g : Nat) (last : Option Nat) : ∃ v : State, v.cores = s.cores ∧ v.bells = s.bells ∧ v.slate = s.slate
    ∧ s.releaseBell g last = (((v.wokenBy g (s.bell g)).setBell g ((s.bell g).next ((s.bell g).episode + 1) (BitVec.ofNat 64 s.now) (s.bell g).held)).endArrive g).bellReport g := by
  let b := s.bell g
  let r := bellRec b.record
  let wait := match b.firstAt with | some f => s.now - f.toNat | none => 0
  let lastCore := match b.arrivals.getLast? with | some a => coreIdLow a.1 | none => 0
  let self := match last with | some x => x == s.seat | none => true
  let a := s.fld F.tutorBellStatsBase r.counting + 32 * g
  let read := s.readFrom r.counting 7 a 32
  let v := read.1.writeFrom r.counting 7 a (toBytes 32 (bellStats (ofBytes read.2.1) wait self (last.getD lastCore))) read.2.2
  obtain ⟨cores, bells, slate⟩ := s.readFrom_keeps r.counting 7 a 32
  obtain ⟨cores', bells', slate'⟩ := read.1.writeFrom_keeps r.counting 7 a (toBytes 32 (bellStats (ofBytes read.2.1) wait self (last.getD lastCore))) read.2.2
  exact ⟨v, cores'.trans cores, bells'.trans bells, slate'.trans slate, rfl⟩

/-- A report moves no episode and no arrival. -/
theorem State.bellReport_keeps (s : State) (g : Nat) :
    ((s.bellReport g).bell g).episode = (s.bell g).episode ∧ ((s.bellReport g).bell g).arrivals = (s.bell g).arrivals := by
  by_cases job : (bellRec (s.bell g).record).level = 3
  · rw [s.bellReport_bell g job]
    unfold Bell.reportedAt
    split <;> exact ⟨rfl, rfl⟩
  · rw [s.bellReport_inside g job]
    exact ⟨rfl, rfl⟩

section
variable (group : BitVec 12) (s : State) (valid : (bellRec (s.bell group.toNat).record).valid = true)

include valid

/-- Below job level a valid group is released if it is complete. -/
theorem bellRelease_inside (inside : (bellRec (s.bell group.toNat).record).level ≤ 2) :
    bellRelease s group.toNat = if (s.bell group.toNat).complete then s.releaseBell group.toNat none else s := by
  unfold bellRelease
  dsimp only
  rw [valid, if_neg (by decide), if_pos inside]

/-- BELL_RELEASE of an incomplete group (R176). -/
theorem bellRelease_incomplete (inside : (bellRec (s.bell group.toNat).record).level ≤ 2) (incomplete : (s.bell group.toNat).complete = false) :
    exec (.bellRelease group) s = .next s := by
  refine congrArg Host.Outcome.next ((bellRelease_inside group s valid inside).trans ?_)
  rw [incomplete, if_neg (by decide)]

variable (inside : (bellRec (s.bell group.toNat).record).level ≤ 2) (done : (s.bell group.toNat).complete = true)
include inside done

/-- BELL_RELEASE of a complete group: the threads of its arrivals wake, and the next episode stands (R176). -/
theorem bellRelease_complete : ∃ v : State, v.cores = s.cores ∧ v.slate = s.slate ∧ exec (.bellRelease group) s = .next
    (((v.wokenBy group.toNat (s.bell group.toNat)).setBell group.toNat
      ((s.bell group.toNat).next ((s.bell group.toNat).episode + 1) (BitVec.ofNat 64 s.now) (s.bell group.toNat).held)).endArrive group.toNat) := by
  obtain ⟨v, cores, -, slate, released⟩ := s.releaseBell_eq group.toNat none
  refine ⟨v, cores, slate, congrArg Host.Outcome.next ((bellRelease_inside group s valid inside).trans ?_)⟩
  rw [done, if_pos rfl, released]
  refine State.bellReport_inside _ _ ?_
  have bell (u : State) (b : Bell) : ((u.setBell group.toNat b).endArrive group.toNat).bell group.toNat = b := State.bell_setBell_same _ _ _
  rw [bell, Bell.next_record]
  omega

theorem bellRelease_next : Completes (.bellRelease group) s (fun u =>
    u.bell group.toNat = (s.bell group.toNat).next ((s.bell group.toNat).episode + 1) (BitVec.ofNat 64 s.now) (s.bell group.toNat).held ∧ u.slate = s.slate) := by
  obtain ⟨v, cores, slate, released⟩ := bellRelease_complete group s valid inside done
  refine ⟨_, released, State.bell_setBell_same _ _ _, Eq.trans ?_ slate⟩
  exact (congrArg State.slate (v.wokenBy_fields group.toNat (s.bell group.toNat)) :)

theorem bellRelease_wakes (c : CoreId) (n : Fin 16) :
    let b := s.bell group.toNat
    let t := (s.core c).thread n
    Completes (.bellRelease group) s (fun u =>
      (∀ xa, (c, n, xa) ∈ b.arrivals → (∀ x ∈ b.arrivals, x.1 = c → x.2.1 = n → x.2.2 = xa) → t.state = .waitBell → t.waitBell = some (group, xa) →
        ((u.core c).thread n).state = .ready ∧ ((u.core c).thread n).waitBell = none ∧ ((u.core c).thread n).pc = t.pc
          ∧ ∀ k, ((u.core c).thread n).rx k = (if k = xa ∧ xa ≠ 0 then b.episode.setWidth 64 else t.rx k)) ∧
      ((∀ x ∈ b.arrivals, x.1 ≠ c ∨ x.2.1 ≠ n) → (u.core c).thread n = t)) := by
  intro b t
  obtain ⟨v, cores, -, released⟩ := bellRelease_complete group s valid inside done
  have start : (v.core c).thread n = t := by rw [State.core, cores, ← State.core]
  refine ⟨_, released, fun xa arrived only waits at' => ?_, fun none => ?_⟩
  · have woke : ((v.wokenBy group.toNat b).core c).thread n = t.woken xa b.episode := by
      have step (u : State) (x : CoreId × Fin 16 × Fin 32) (hx : x ∈ b.arrivals) : ((u.core c).thread n = t ∨ (u.core c).thread n = t.woken xa b.episode) →
          ((u.wakeBell group.toNat b.episode x).core c).thread n = t.woken xa b.episode
            ∨ (x ≠ (c, n, xa) ∧ ((u.wakeBell group.toNat b.episode x).core c).thread n = (u.core c).thread n) := by
        intro h
        by_cases mine : x.1 = c ∧ x.2.1 = n
        · have eq : x = (c, n, xa) := Prod.ext mine.1 (Prod.ext mine.2 (only x hx mine.1 mine.2))
          subst eq
          refine .inl ?_
          rcases h with h | h
          · exact State.wakeBell_waiting u group.toNat b.episode (c, n, xa) h waits at' rfl
          · rw [State.wakeBell_ready u group.toNat b.episode (c, n, xa) (by rw [h]; rfl)]
            exact h
        · refine .inr ⟨fun e => mine ⟨by rw [e], by rw [e]⟩, State.wakeBell_other u group.toNat b.episode x ?_⟩
          by_cases hc : x.1 = c
          · exact .inr (fun hn => mine ⟨hc, hn⟩)
          · exact .inl hc
      refine State.each_reaches (fun u => (u.core c).thread n = t ∨ (u.core c).thread n = t.woken xa b.episode)
        (fun u => (u.core c).thread n = t.woken xa b.episode) arrived (.inl start) (fun u x hx h => ?_) (fun u h => ?_) (fun u x hx h woken => ?_)
      · rcases step u x hx h with k | ⟨-, k⟩
        · exact .inr k
        · rw [k]; exact h
      · rcases step u _ arrived h with k | ⟨k, -⟩
        · exact k
        · exact absurd rfl k
      · rcases step u x hx h with k | ⟨-, k⟩
        · exact k
        · exact k.trans woken
    have final (u : State) (x : Bell) : (((u.setBell group.toNat x).endArrive group.toNat).core c).thread n = (u.core c).thread n := rfl
    rw [final, woke]
    exact ⟨rfl, rfl, Thread.pc_wx _ _ _, fun k => Thread.rx_woken _ _ _ _⟩
  · refine Eq.trans ?_ start
    exact State.each_keeps (fun u => (u.core c).thread n = (v.core c).thread n) rfl (fun u x hx h => (State.wakeBell_other u _ _ x (none x hx)).trans h)

end

/-- BELL_RELEASE as a message at a member (R332). -/
theorem bellReleaseMessage_completes (k : BellMsg) (s : State) :
    let b := s.bell k.group.toNat
    let r := bellRec b.record
    s.seatValid = true → r.valid = true → r.level = 3 → r.leader ≠ s.seat → b.arriveSent = true → k.episode = b.episode → b.held = [] →
    Completes (.bellReleaseMessage k) s (fun u => (u.bell k.group.toNat).episode = b.episode + 1 ∧ (u.bell k.group.toNat).arrivals = []) := by
  intro b r seated valid job away sent same none
  obtain ⟨v, -, -, -, released⟩ := s.releaseBell_eq k.group.toNat (some (k.seat.toNat % 4096))
  have due : (s.seatValid && r.valid && r.level == 3 && r.leader != s.seat && b.arriveSent && k.episode == b.episode) = true := by
    simp [seated, valid, job, away, sent, same]
  have step : bellReleaseMessage s k = s.releaseBell k.group.toNat (some (k.seat.toNat % 4096)) := by
    unfold bellReleaseMessage
    dsimp only
    exact if_pos due
  refine ⟨_, congrArg Host.Outcome.next (step.trans released), ?_⟩
  dsimp only
  rw [(State.bellReport_keeps _ _).1, (State.bellReport_keeps _ _).2]
  have bell (u : State) (x : Bell) : ((u.setBell k.group.toNat x).endArrive k.group.toNat).bell k.group.toNat = x := State.bell_setBell_same _ _ _
  rw [bell, show (s.bell k.group.toNat).held = [] from none]
  exact ⟨rfl, rfl⟩

end Sys2Proof.Machine
end

section
/-!
SUPPORT. The break of a Bell's episode: the lessons that stop, the arrivals that go, and the messages that carry a break (R178, R182, R332).
-/
namespace Sys2Proof.Machine

/-! ## A lesson while others are stopped (R181, R182, R380) -/

/-- The lesson is outstanding, as given but for its entry of the Timetable. -/
def State.HoldsLesson (s : State) (k : Nat) (l : Lesson) : Prop := ∃ p, s.lesson k = some { l with position := p }

section
variable {s : State} {k : Nat} {l : Lesson}

theorem State.holdsLesson_of_lesson (h : s.lesson k = some l) : s.HoldsLesson k l := ⟨l.position, h⟩

theorem State.HoldsLesson.claim (h : s.HoldsLesson k l) (part id : Nat) : (s.claim part id).HoldsLesson k l := by
  unfold State.claim
  dsimp only
  split
  · exact h
  · split
    · exact h
    · split
      · exact h
      · next j _ =>
        obtain ⟨p, found⟩ := h
        have moved := State.lesson_onLesson s id (f := fun x => { x with position := some j }) (fun _ => rfl) k
        rw [found, Option.map_some] at moved
        by_cases same : k = id
        · rw [if_pos same] at moved; exact ⟨some j, moved⟩
        · rw [if_neg same] at moved; exact ⟨p, moved⟩
theorem State.HoldsLesson.passEnd (h : s.HoldsLesson k l) (part : Nat) : (s.passEnd part).HoldsLesson k l := by
  unfold State.passEnd
  dsimp only
  split
  · exact State.each_induct (fun t => t.HoldsLesson k l) _ _ _ h (fun t a ht => ht.claim _ _)
  · exact h
theorem State.HoldsLesson.withdrawEntry (h : s.HoldsLesson k l) (m : Lesson) : (s.withdrawEntry m).HoldsLesson k l := by
  unfold State.withdrawEntry
  split
  · exact h
  · exact State.HoldsLesson.passEnd (s := s.setTutor _ _) h _
/-- Another lesson's stop leaves a lesson all but its entry of the Timetable. -/
theorem State.HoldsLesson.stopLesson (h : s.HoldsLesson k l) {id : Nat} (other : k ≠ id) (c : StopCause) : (s.stopLesson id c).HoldsLesson k l := by
  unfold State.stopLesson
  split
  · exact h
  · next m _ =>
    split
    · exact h
    · have accepted : (s.onLesson id (fun l => l.accept c)).HoldsLesson k l := by
        obtain ⟨p, found⟩ := h
        exact ⟨p, (State.lesson_onLesson_other s id (fun l => l.accept_id c) other).trans found⟩
      have left := State.each_induct (fun t => t.HoldsLesson k l) m.parts
        (fun s p => s.setCluster p.1 { s.cluster p.1 with waiting := (s.cluster p.1).waiting.filter (fun w => w != id) }) _ accepted (fun t p ht => ht)
      dsimp only
      split
      · exact left.withdrawEntry m
      · exact left

end

/-! ## A lesson whose Bell breaks (R178, R182) -/

/-- A lesson that has not reached its retire point takes a fault as its cause unless it has one, and its waiting parts are withdrawn. -/
theorem Lesson.accept_faulted {l : Lesson} (h : l.retiring = false) (bell : Bool) :
    l.accept (.faulted bell) = { l with cause := some (l.cause.getD (.faulted bell)), parts := l.withdraw.parts } := by
  unfold Lesson.accept
  rw [h, if_neg (by decide)]
  cases hc : l.cause <;> simp [hc, h]

theorem Lesson.withdraw_withdraw (l : Lesson) : l.withdraw.withdraw = l.withdraw := by
  have part (p : Nat × PartState) : (fun p : Nat × PartState => if p.2 = .notStarted then (p.1, PartState.withdrawn) else p)
      ((fun p : Nat × PartState => if p.2 = .notStarted then (p.1, PartState.withdrawn) else p) p)
      = (fun p : Nat × PartState => if p.2 = .notStarted then (p.1, PartState.withdrawn) else p) p := by
    by_cases h : p.2 = .notStarted <;> simp [h]
  unfold Lesson.withdraw
  simp only [List.map_map]
  congr 1
  exact List.map_congr_left (fun p _ => part p)

/-- `m` is `l` after stops by a broken Bell, its own or those of others: its cause, once it has one, is the first, and its waiting parts may be withdrawn. -/
structure Lesson.Broken (l m : Lesson) : Prop where
  retiring : m.retiring = false
  cause : m.cause.getD (.faulted true) = l.cause.getD (.faulted true)
  parts : m.withdraw.parts = l.withdraw.parts
  bell : m.bellBroken = l.bellBroken

theorem Lesson.Broken.accept {l m : Lesson} (h : l.Broken m) : l.Broken (m.accept (.faulted true))
    ∧ (m.accept (.faulted true)).cause = some (l.cause.getD (.faulted true)) ∧ (m.accept (.faulted true)).parts = l.withdraw.parts := by
  rw [Lesson.accept_faulted h.retiring]
  refine ⟨⟨h.retiring, ?_, ?_, h.bell⟩, congrArg some h.cause, h.parts⟩
  · exact h.cause
  · exact (congrArg Lesson.parts m.withdraw_withdraw).trans h.parts
theorem Lesson.Broken.moved {l m : Lesson} (h : l.Broken m) (p : Option Nat) : l.Broken { m with position := p } := ⟨h.retiring, h.cause, h.parts, h.bell⟩

/-- The stop of a lesson, of this one or of another, leaves it as such stops do. -/
theorem State.stopLesson_broken {s : State} {id : Nat} {l m : Lesson} (found : s.lesson id = some m) (h : l.Broken m) (k : Nat) :
    ∃ m', (s.stopLesson k (.faulted true)).lesson id = some m' ∧ l.Broken m'
      ∧ (k = id ∨ (m.cause.isSome = true ∧ m.parts = l.withdraw.parts) → m'.cause = some (l.cause.getD (.faulted true)) ∧ m'.parts = l.withdraw.parts) := by
  by_cases own : k = id
  · subst own
    exact ⟨_, State.lesson_stopLesson found h.retiring _, h.accept.1, fun _ => h.accept.2⟩
  · obtain ⟨p, moved⟩ := (State.holdsLesson_of_lesson found).stopLesson (Ne.symm own) (.faulted true)
    refine ⟨_, moved, h.moved p, fun stopped => ?_⟩
    obtain ⟨some', parts⟩ := stopped.resolve_left own
    refine ⟨?_, parts⟩
    obtain ⟨c, hc⟩ := Option.isSome_iff_exists.mp some'
    have first := h.cause
    rw [hc, Option.getD_some] at first
    rw [← first]
    exact hc

/-! ## What a break stops (R178) -/

/-- The lessons with member cores of a group: those that run on its clusters, and on an idle cluster those whose parts are to start there. -/
def State.bellLessons (s : State) (g : Nat) : List Nat :=
  ((List.range 64).filter (fun cl => bitOf (bellRec (s.bell g).record).clusters cl)).flatMap (fun cl => match s.lessonOn cl with
    | some id => [id]
    | none => (s.lessons.filter (fun l => l.parts.any (fun p => p.1 == cl && p.2 == .notStarted))).map (fun l => l.id))
/-- The lessons with a thread that waits at a group. -/
def State.bellWaiting (s : State) (g : Nat) : List Nat := (s.bell g).arrivals.filterMap (fun a => s.lessonOn (clusterOfCore a.1))

/-- A lesson marked with the break of a Bell. -/
def Lesson.marked (l : Lesson) : Lesson := { l with bellBroken := true }

/-- The lessons as a break leaves them. -/
def State.bellStops (s : State) (g : Nat) : State :=
  (s.each (s.bellLessons g) (fun s id => s.onLesson id Lesson.marked)).each (s.bellWaiting g) (fun s id => s.stopLesson id (.faulted true))

theorem State.stopLesson_fields (s : State) (id : Nat) (c : StopCause) : s.stopLesson id c = { s with
    lessons := (s.stopLesson id c).lessons, tutors := (s.stopLesson id c).tutors, clusters := (s.stopLesson id c).clusters } := by
  unfold State.stopLesson
  split
  · rfl
  · next l _ =>
    split
    · rfl
    · have swept := State.each_induct (fun u => u = { s with lessons := u.lessons, tutors := u.tutors, clusters := u.clusters }) l.parts
        (fun s p => s.setCluster p.1 { s.cluster p.1 with waiting := (s.cluster p.1).waiting.filter (fun w => w != id) }) (s.onLesson id (fun l => l.accept c)) rfl
        (fun t p ht => by rw [State.setCluster, ht])
      dsimp only
      split
      · rw [State.withdrawEntry_fields, swept]
      · exact swept
theorem State.bellStops_fields (s : State) (g : Nat) : s.bellStops g = { s with
    lessons := (s.bellStops g).lessons, tutors := (s.bellStops g).tutors, clusters := (s.bellStops g).clusters } := by
  refine State.each_induct (fun u => u = { s with lessons := u.lessons, tutors := u.tutors, clusters := u.clusters }) _ _ _ ?_
    (fun t id ht => by rw [State.stopLesson_fields, ht])
  exact State.each_induct (fun u => u = { s with lessons := u.lessons, tutors := u.tutors, clusters := u.clusters }) _ _ _ rfl (fun t id ht => by rw [State.onLesson, ht])

/-- The lesson of a thread that waits in the episode stops, and is marked where its cluster is a member (R178). -/
theorem State.bellStops_lesson (s : State) (g : Nat) {a : CoreId × Fin 16 × Fin 32} {id : Nat} {l : Lesson} (waits : a ∈ (s.bell g).arrivals)
    (runs : (s.cluster (clusterOfCore a.1)).run = some id) (found : s.lesson id = some l) (open' : l.retiring = false) :
    ∃ l', (s.bellStops g).lesson id = some l' ∧ l'.cause = some (l.cause.getD (.faulted true)) ∧ l'.parts = l.withdraw.parts
      ∧ (bitOf (bellRec (s.bell g).record).clusters (clusterOfCore a.1) = true → l'.bellBroken = true) := by
  have marks : ∃ b, (s.each (s.bellLessons g) (fun s id => s.onLesson id Lesson.marked)).lesson id = some { l with bellBroken := b }
      ∧ (bitOf (bellRec (s.bell g).record).clusters (clusterOfCore a.1) = true → b = true) := by
    have step (t : State) (k : Nat) {b : Bool} (h : t.lesson id = some { l with bellBroken := b }) :
        (t.onLesson k Lesson.marked).lesson id = some { l with bellBroken := if id = k then true else b } := by
      rw [State.lesson_onLesson t k (f := Lesson.marked) (fun _ => rfl), h, Option.map_some]
      split <;> rfl
    by_cases member : bitOf (bellRec (s.bell g).record).clusters (clusterOfCore a.1) = true
    · have listed : id ∈ s.bellLessons g := by
        refine List.mem_flatMap.mpr ⟨clusterOfCore a.1, List.mem_filter.mpr ⟨List.mem_range.mpr ?_, member⟩, ?_⟩
        · have := a.1.isLt; unfold clusterOfCore; omega
        · rw [State.lessonOn, runs]; exact List.mem_singleton.mpr rfl
      refine ⟨true, State.each_reaches (fun t => ∃ b, t.lesson id = some { l with bellBroken := b }) (fun t => t.lesson id = some { l with bellBroken := true })
        listed ⟨l.bellBroken, found⟩ (fun t k _ ⟨b, h⟩ => ⟨_, step t k h⟩) (fun t ⟨b, h⟩ => ?_) (fun t k _ _ h => ?_), fun _ => rfl⟩
      · rw [step t id h, if_pos rfl]
      · rw [step t k h, ite_self]
    · obtain ⟨b, h⟩ := State.each_induct (fun t => ∃ b, t.lesson id = some { l with bellBroken := b }) (s.bellLessons g) (fun s id => s.onLesson id Lesson.marked) s
        ⟨l.bellBroken, found⟩ (fun t k ⟨b, h⟩ => ⟨_, step t k h⟩)
      exact ⟨b, h, fun m => absurd m member⟩
  obtain ⟨b, marked, broken⟩ := marks
  have start : ({ l with bellBroken := b } : Lesson).Broken { l with bellBroken := b } := ⟨open', rfl, rfl, rfl⟩
  have stopped : ∃ m, (s.bellStops g).lesson id = some m ∧ ({ l with bellBroken := b } : Lesson).Broken m ∧ m.cause = some (l.cause.getD (.faulted true))
      ∧ m.parts = l.withdraw.parts := by
    refine State.each_reaches (fun t => ∃ m, t.lesson id = some m ∧ ({ l with bellBroken := b } : Lesson).Broken m)
      (fun t => ∃ m, t.lesson id = some m ∧ ({ l with bellBroken := b } : Lesson).Broken m ∧ m.cause = some (l.cause.getD (.faulted true)) ∧ m.parts = l.withdraw.parts)
      (List.mem_filterMap.mpr ⟨a, waits, runs⟩) ⟨_, marked, start⟩ (fun t k _ ⟨m, h, hm⟩ => ?_) (fun t ⟨m, h, hm⟩ => ?_) (fun t k _ _ ⟨m, h, hm, cause, parts⟩ => ?_)
    · obtain ⟨m', h', hm', -⟩ := State.stopLesson_broken h hm k
      exact ⟨m', h', hm'⟩
    · obtain ⟨m', h', hm', reached⟩ := State.stopLesson_broken h hm id
      exact ⟨m', h', hm', reached (.inl rfl)⟩
    · obtain ⟨m', h', hm', reached⟩ := State.stopLesson_broken h hm k
      exact ⟨m', h', hm', reached (.inr ⟨by rw [cause]; rfl, parts⟩)⟩
  obtain ⟨m, h, hm, cause, parts⟩ := stopped
  exact ⟨m, h, cause, parts, fun member => hm.bell.trans (broken member)⟩

/-! ## What a break leaves of the group (R178) -/

/-- The group after a break: the arrivals in `held`, if any, start a new episode with the same number. -/
def Bell.brokenUp (b : Bell) (now : Word) (held : List (CoreId × Fin 16 × Fin 32)) : Bell := { b.next b.episode now held with seats := [], seatHeld := b.seatHeld }

theorem Bell.brokenUp_record (b : Bell) (now : Word) (held : List (CoreId × Fin 16 × Fin 32)) : (b.brokenUp now held).record = b.record := b.next_record _ _ _

/-- The state of a break just before the module's report: the lessons have stopped, the group starts anew and is counted as broken. -/
def State.bellBroken (s : State) (g : Nat) (now : Word) (held : List (CoreId × Fin 16 × Fin 32)) : State :=
  (((s.bellStops g).setBell g ((s.bell g).brokenUp now held)).bumpSat F.tutorBellsBrokenCount (bellRec (s.bell g).record).counting 0 1).endArrive g

theorem State.breakBell_eq (s : State) (g : Nat) : ∃ now held, ((s.bell g).held = [] → held = []) ∧ s.breakBell g = (s.bellBroken g now held).bellReport g :=
  ⟨_, _, fun none => by rw [none]; rfl, rfl⟩

section
variable (s : State) (g : Nat) (now : Word) (held : List (CoreId × Fin 16 × Fin 32))

theorem State.bellBroken_bell : (s.bellBroken g now held).bell g = (s.bell g).brokenUp now held := State.bell_setBell_same _ _ _
theorem State.bellBroken_lesson (id : Nat) : (s.bellBroken g now held).lesson id = (s.bellStops g).lesson id := rfl
theorem State.bellBroken_mem : (s.bellBroken g now held).mem = s.mem := (congrArg State.mem (s.bellStops_fields g) :)
theorem State.bellBroken_count : (s.bellBroken g now held).fld F.tutorBellsBrokenCount (bellRec (s.bell g).record).counting
    = min (s.fld F.tutorBellsBrokenCount (bellRec (s.bell g).record).counting + 1) (2 ^ F.tutorBellsBrokenCount.width - 1) := by
  have regs : ((s.bellStops g).setBell g ((s.bell g).brokenUp now held)).regs = s.regs := (congrArg State.regs (s.bellStops_fields g) :)
  refine (State.fld_bumpSat_same (by decide) _ _ _ _).trans ?_
  rw [State.fld, State.reg, regs, State.fld, State.reg]
theorem State.bellBroken_seat : (s.bellBroken g now held).seat = s.seat := by
  have stops : (s.bellStops g).regs = s.regs := (congrArg State.regs (s.bellStops_fields g) :)
  have kept : RegsKept (fun m _ _ => m ≠ .tutorBellsBroken) s (s.bellBroken g now held) :=
    (RegsKept.of_regs stops).setFld (f := F.tutorBellsBrokenCount) _ (stands_stack (BellRec.counting_lt _)) (by simp)
  exact kept.fld (f := F.fabricSeatSeat) (j := 0) stands_zero (by decide)

end

/-- Below job level a break ends with the group's new start. -/
theorem State.breakBell_inside (s : State) (g : Nat) (inside : (bellRec (s.bell g).record).level ≤ 2) :
    ∃ now held, ((s.bell g).held = [] → held = []) ∧ s.breakBell g = s.bellBroken g now held := by
  obtain ⟨now, held, none, broken⟩ := s.breakBell_eq g
  refine ⟨now, held, none, broken.trans (State.bellReport_inside _ _ ?_)⟩
  rw [State.bellBroken_bell, Bell.brokenUp_record]
  omega

/-! ## The commands (R178, R332) -/

/-- A timeout of an open, incomplete group below job level is a break. -/
theorem bellTimeout_breaks (group : BitVec 12) (s : State) (valid : (bellRec (s.bell group.toNat).record).valid = true) (inside : (bellRec (s.bell group.toNat).record).level ≤ 2)
    (limit : (bellRec (s.bell group.toNat).record).timeoutUs ≠ 0) (incomplete : (s.bell group.toNat).complete = false) (opened : (s.bell group.toNat).open' = true) :
    bellTimeout s group.toNat = s.breakBell group.toNat := by
  have notDue : s.releaseDue group.toNat = false := by
    unfold State.releaseDue
    dsimp only
    rw [if_pos inside, incomplete]
  have below : ((bellRec (s.bell group.toNat).record).level != 3) = true := bne_iff_ne.mpr (by omega)
  unfold bellTimeout State.ownBreak
  dsimp only
  rw [beq_eq_false_iff_ne.mpr limit, valid, opened, notDue, below]
  rfl

/-- BELL_TIMEOUT stops the lesson of a thread that waits (R178). -/
theorem bellTimeout_stops (group : BitVec 12) (s : State) (a : CoreId × Fin 16 × Fin 32) (id : Nat) (l : Lesson) :
    let b := s.bell group.toNat
    let r := bellRec b.record
    r.valid = true → r.level ≤ 2 → r.timeoutUs ≠ 0 → b.complete = false → a ∈ b.arrivals → (s.cluster (clusterOfCore a.1)).run = some id →
    s.lesson id = some l → l.retiring = false → Completes (.bellTimeout group) s (fun u =>
      ∃ l', u.lesson id = some l' ∧ l'.cause = some (l.cause.getD (.faulted true)) ∧ l'.parts = l.withdraw.parts
        ∧ (bitOf r.clusters (clusterOfCore a.1) = true → l'.bellBroken = true)) := by
  intro b r valid inside limit incomplete waits runs found goes
  have opened : b.open' = true := by
    obtain ⟨x, rest, arrivals⟩ := List.exists_cons_of_ne_nil (List.ne_nil_of_mem waits)
    rw [Bell.open', arrivals]; rfl
  obtain ⟨now, held, -, broken⟩ := s.breakBell_inside group.toNat inside
  refine ⟨_, congrArg Host.Outcome.next ((bellTimeout_breaks group s valid inside limit incomplete opened).trans broken), ?_⟩
  exact s.bellStops_lesson group.toNat waits runs found goes

/-- BELL_TIMEOUT of a group without held arrivals (R178). -/
theorem bellTimeout_clears (group : BitVec 12) (s : State) :
    let b := s.bell group.toNat
    let r := bellRec b.record
    r.valid = true → r.level ≤ 2 → r.timeoutUs ≠ 0 → b.complete = false → b.open' = true → b.held = [] → Completes (.bellTimeout group) s (fun u =>
      (u.bell group.toNat).arrivals = [] ∧ (u.bell group.toNat).episode = b.episode ∧ u.mem = s.mem
        ∧ u.fld F.tutorBellsBrokenCount r.counting = min (s.fld F.tutorBellsBrokenCount r.counting + 1) (2 ^ F.tutorBellsBrokenCount.width - 1)) := by
  intro b r valid inside limit incomplete opened none
  obtain ⟨now, held, still, broken⟩ := s.breakBell_inside group.toNat inside
  cases still none
  refine ⟨_, congrArg Host.Outcome.next ((bellTimeout_breaks group s valid inside limit incomplete opened).trans broken), ?_, ?_, State.bellBroken_mem _ _ _ _,
    State.bellBroken_count _ _ _ _⟩
  · rw [State.bellBroken_bell]; rfl
  · rw [State.bellBroken_bell]; rfl

/-- BELL_BREAK of a member's open episode (R178, R332). -/
theorem bellBreak_member (k : BellMsg) (s : State) :
    let b := s.bell k.group.toNat
    let r := bellRec b.record
    s.seatValid = true → r.valid = true → r.level = 3 → r.leader ≠ s.seat → k.episode = b.episode → b.open' = true → b.held = [] →
    Completes (.bellBreak k) s (fun u => (u.bell k.group.toNat).episode = b.episode ∧ (u.bell k.group.toNat).arrivals = [] ∧ (u.bell k.group.toNat).seats = []) := by
  intro b r seated valid job away same opened none
  have away' : (r.leader == s.seat) = false := beq_eq_false_iff_ne.mpr away
  have notDue : s.releaseDue k.group.toNat = false := by
    unfold State.releaseDue
    dsimp only
    rw [if_neg (show ¬ r.level ≤ 2 by omega), show ((bellRec (s.bell k.group.toNat).record).leader == s.seat) = false from away', Bool.false_and]
  have due : (s.seatValid && r.valid && r.level == 3 && k.episode == b.episode && !s.releaseDue k.group.toNat) = true := by
    simp [seated, valid, job, same, notDue]
  have step : bellBreakMessage s k = s.breakBell k.group.toNat := by
    unfold bellBreakMessage
    dsimp only
    rw [if_pos due, show ((bellRec (s.bell k.group.toNat).record).leader == s.seat) = false from away',
      if_pos (show (s.bell k.group.toNat).open' = true from opened)]
    rfl
  obtain ⟨now, held, still, broken⟩ := s.breakBell_eq k.group.toNat
  cases still none
  have record : bellRec ((s.bellBroken k.group.toNat now []).bell k.group.toNat).record = r := by rw [State.bellBroken_bell, Bell.brokenUp_record]
  have bell := State.bellReport_bell (s.bellBroken k.group.toNat now []) k.group.toNat (by rw [record]; exact job)
  rw [record, State.bellBroken_bell, State.bellBroken_seat] at bell
  refine ⟨_, congrArg Host.Outcome.next (step.trans broken), ?_⟩
  dsimp only
  rw [bell]
  unfold Bell.reportedAt
  split
  · exact ⟨rfl, rfl, if_neg (fun h => away h.1)⟩
  · exact ⟨rfl, rfl, rfl⟩

/-- BELL_BREAK of another episode (R332). -/
theorem bellBreak_stale (k : BellMsg) (s : State) (other : (s.bell k.group.toNat).episode ≠ k.episode) : exec (.bellBreak k) s = .next s := by
  refine congrArg Host.Outcome.next ?_
  unfold bellBreakMessage
  dsimp only
  rw [beq_eq_false_iff_ne.mpr (Ne.symm other), Bool.and_false, Bool.false_and, if_neg (by decide)]

/-- Settles O27: what an arrival at a Bell, its release, its break and the messages of a job-level group do. -/
theorem bellEpisodes : Obligations.BellEpisodes :=
  ⟨⟨fun _ _ _ _ _ _ hn hb issues clear inside => bell_inside hn hb issues clear inside, fun _ _ _ _ _ _ hn hb issues unclear => bell_fenced hn hb issues unclear,
    fun group s valid inside incomplete => bellRelease_incomplete group s valid inside incomplete,
    fun group s valid inside done => bellRelease_next group s valid inside done,
    fun group s c n valid inside done => bellRelease_wakes group s valid inside done c n,
    fun _ _ _ _ _ _ hn hb issues clear job => bell_jobLevel hn hb issues clear job, bellTimeout_stops, bellTimeout_clears, bellArrivalReport_completes⟩,
    bellArriveMessage_counts, bellReleaseMessage_completes, bellBreak_member, bellBreak_stale⟩

end Sys2Proof.Machine
end

section
/-!
The obligation on LESSON and ABORT (R154, R155, R181 to R183, R353): refuted at a queue that holds two commands of one index, which a detach and a new ENABLE bring about (R368, R369).
-/
namespace Sys2Proof.Machine

/-! ## A queue that is detached and enabled again -/

/-- A LESSON of lesson 0 of the library, with PHASE 1, tag 7 and step 3. -/
def firstEntry : CmdEntry := ⟨0x101, 7, 3, 0, [0, 0, 0, 0, 0, 0], []⟩
/-- The module with one lesson in the active Syllabus of stack 0, host port 0 UP, and queue 0 on it VALID and DISABLED, its rings of 16 entries. -/
def lessonModule : State :=
  let s : State := { State.reset with proctor := { Proctor.init with powered := true }, tutors := [(0, { Tutor.init with lessonCount := 1 })] }
  let s := ((s.setFld F.proctorStartupPhase 0 0 7).setFld F.tutorSylStateActive 0 0 1).setFld F.hostStatusLink 0 0 2
  ((s.setFld F.queueConfigValid 0 0 1).setFld F.queueSizesSqLog2 0 0 4).setFld F.queueSizesCqLog2 0 0 4
/-- The host enables queue 0 and writes its doorbell, and the Tutor takes the entry at index 0. -/
def State.enabledAndTaken (s : State) : State :=
  commandFetchReturn (regCommand (regCommand s .h0 .queueCtrl 0 0 1) .h0 .queueDoorbell 0 0 1) 0 0 (.entry firstEntry)
/-- Between two such rounds the host detaches the queue. -/
def retakenState : State := (regCommand lessonModule.enabledAndTaken .h0 .queueCtrl 0 0 4).enabledAndTaken

/-- One round is three commands of the model. -/
theorem State.enabledAndTaken_exec (s : State) : ∃ t u, exec (.queueEnable .h0 0) s = .next t ∧ exec (.doorbell .h0 0 1) t = .next u
    ∧ exec (.commandFetchReturn 0 ⟨0, .entry firstEntry⟩) u = .next s.enabledAndTaken := ⟨_, _, rfl, rfl, rfl⟩
theorem retakenState_exec : ∃ t, exec (.queueDetach .h0 0) lessonModule.enabledAndTaken = .next t ∧ t.enabledAndTaken = retakenState := ⟨_, rfl, rfl⟩

/-- The LESSON of the first round, which the detach keeps. -/
def earlierLesson : Taken := ⟨0, 0, 0, firstEntry, false⟩
/-- The LESSON of the second round: ENABLE has started the indices anew. -/
def laterLesson : Taken := ⟨0, 1, 1, firstEntry, false⟩

theorem retakenState_taken : (retakenState.queue 0).taken = [earlierLesson, laterLesson] := by decide +kernel
theorem retakenState_startsLesson :
    let home : StackId := Fin.ofNat 4 (retakenState.fld F.queueConfigHome 0 0)
    retakenState.takenFirst 0 [opLESSON] = some earlierLesson ∧ retakenState.fld F.tutorSylStateActive home.val = 1
      ∧ earlierLesson.entry.lesson < (retakenState.tutor home).lessonCount ∧ earlierLesson.entry.inlineLen = 0
      ∧ retakenState.lesson earlierLesson.order = none ∧ ∀ k, k < 6 → retakenState.fld F.hallwayStateLink k ≠ 2 := by decide +kernel

/-! ## The obligation -/

theorem exec_lesson {q : QueueId} {s u : State} (h : exec (.lesson q) s = .next u) : u = lessonCommand s q := (Host.Outcome.next.inj h).symm
/-- LESSON takes the earlier command from the queue, and leaves the later one. -/
theorem retakenState_lesson_taken {u : State} (h : exec (.lesson 0) retakenState = .next u) : (u.queue 0).taken = [laterLesson] := by
  rw [exec_lesson h]; decide +kernel

/-- Refutes O28: LESSON is said to leave no command of its index in the queue. Of a queue that was detached with a LESSON at index 0 waiting and has taken
another at index 0 since it was enabled again (`retakenState_exec`), the model drops the one command carried out, by its order (`State.dropTaken`). -/
theorem not_lessonCommands : ¬ Obligations.LessonCommands := by
  rintro ⟨starts, -⟩
  obtain ⟨first, active, inLibrary, plain, free, up⟩ := retakenState_startsLesson
  obtain ⟨u, hu, l, -, -, -, -, -, -, -, -, dropped, -⟩ := starts 0 retakenState earlierLesson first active inLibrary plain free rfl up
  have claimed : [laterLesson] = [earlierLesson, laterLesson].filter (fun x => x.index != earlierLesson.index) :=
    (retakenState_lesson_taken hu).symm.trans (dropped.trans (congrArg _ retakenState_taken))
  exact absurd claimed (by decide)

end Sys2Proof.Machine
end

section
/-!
The obligation on Hallway links, HBM4 channels and repairs (R218 to R225, R428 to R435): refuted at a lane whose repair begins on the slice that the Quiz is visiting (R433).
-/
namespace Sys2Proof.Machine

/-! ## A repair on the slice that the Quiz visits (R431, R433) -/

/-- A failing lane of the group may begin its repair at once: the stack is in service, the slice has not failed, no repair holds its port, and the group's spare is free. -/
structure MayRepair (s : State) (n : Nat) (toArray : Bool) (group : Nat) : Prop where
  serves : s.outOfService (n / 256) = false
  sound : (s.slice n).failed = false
  idle : (s.slice n).bondRepairs = []
  spare : (s.slice n).bondSpares.any (fun x => x.1 == toArray && x.2.1 == group) = false

/-- A repair that begins on the slice of a Quiz visit holds the port, starts the lane's count of corrected words anew, and ends the visit early. -/
theorem bondLaneRepair_of_visited {s : State} {n group : Nat} {toArray : Bool} (h : MayRepair s n toArray group) (lane : Nat)
    (visiting : (s.tutor (n / 256)).quizActive = true) (here : s.fld F.tutorQuizStatusNextSlice (n / 256) = n % 256) :
    bondLaneRepair s n toArray group lane = (s.setSlice n { s.slice n with
      bondRepairs := [(toArray, group, lane)]
      laneWords := (s.slice n).laneWords.filter (fun x => x.1 != (toArray, group, lane)) }).pauseQuiz (n / 256) := by
  obtain ⟨serves, sound, idle, spare⟩ := h
  have tutor (v : Slice) : (s.setSlice n v).tutor (n / 256) = s.tutor (n / 256) := rfl
  have next (v : Slice) : (s.setSlice n v).fld F.tutorQuizStatusNextSlice (n / 256) = n % 256 := here
  simp [bondLaneRepair, serves, sound, idle, spare, tutor, next, visiting]

/-- A visit that ends early shows the Quiz stopped. -/
theorem State.pauseQuiz_paused (s : State) (st : Nat) : (s.pauseQuiz st).fld F.tutorQuizStatusPaused st = 1 :=
  State.fld_setFld_same (f := F.tutorQuizStatusPaused) rfl s st 0 1

/-- A module that has started up. -/
def startedModule : State := { State.reset with proctor := { Proctor.init with powered := true } }.setFld F.proctorStartupPhase 0 0 7
/-- The Quiz of stack 0 visits slice 0. -/
def visitedModule : State := quizVisit startedModule 0

theorem visitedModule_exec : exec (.quizVisit 0) startedModule = .next visitedModule := rfl
theorem visitedModule_mayRepair : MayRepair visitedModule 0 true 3 := by constructor <;> decide +kernel
theorem visitedModule_visits : (visitedModule.tutor 0).quizActive = true ∧ visitedModule.fld F.tutorQuizStatusNextSlice 0 = 0
    ∧ visitedModule.fld F.tutorQuizStatusPaused 0 = 0 := by decide +kernel

/-! ## The obligation -/

theorem exec_bondLaneRepair {n : SliceId} {x : Bool} {g : Fin 36} {l : Fin 32} {s u : State} (h : exec (.bondLaneRepair n x g l) s = .next u) :
    u = bondLaneRepair s n x g l := (Host.Outcome.next.inj h).symm

/-- Refutes O46: BOND_LANE_REPAIR is said to leave every register. While the Quiz visits that very slice (`visitedModule_exec`), the repair ends the visit
early and shows it in QUIZ_STATUS.PAUSED (R433), which the clause does not exclude. Nor does it allow for the lane's corrected words, which the repair
drops from the slice (`bondLaneRepair_of_visited`). -/
theorem not_linksChannelsAndRepairs : ¬ Obligations.LinksChannelsAndRepairs := by
  rintro ⟨-, -, -, laneRepair, -⟩
  obtain ⟨serves, sound, idle, spare⟩ := visitedModule_mayRepair
  obtain ⟨visiting, here, unpaused⟩ := visitedModule_visits
  obtain ⟨u, hu, -, -, regs⟩ := laneRepair 0 true 3 7 visitedModule serves sound idle spare
  have paused : u.fld F.tutorQuizStatusPaused 0 = 1 := by
    rw [exec_bondLaneRepair hu]
    exact (congrArg (fun t : State => t.fld F.tutorQuizStatusPaused 0)
      (bondLaneRepair_of_visited visitedModule_mayRepair 7 visiting here)).trans (State.pauseQuiz_paused _ 0)
  have claimed : (1 : Nat) = 0 := paused.symm.trans ((State.fld_of_regs regs F.tutorQuizStatusPaused 0 0).trans unpaused)
  exact absurd claimed (by decide)

end Sys2Proof.Machine
end

section
/-!
The DELTA code of R271, read back: what a coded list stands for, run by run, and the scan of `codeFrom` against it.
-/
namespace Sys2Proof.Machine
-- Proofs one after the other: each thread of the elaborator claims its whole stack.
set_option Elab.async false

/-- The bytes that a coded DELTA stands for, with as many steps as it has bytes, which is enough. -/
def decoded (l : List Byte) : List Byte := decodeDelta l.length l

/-- More steps than bytes decode nothing more. -/
theorem decodeDelta_of_le {n : Nat} {l : List Byte} (h : l.length ≤ n) : decodeDelta n l = decoded l := by
  unfold decoded
  induction n using Nat.strong_induction_on generalizing l with
  | _ n ih =>
    cases l with
    | nil => cases n <;> rfl
    | cons b t =>
      obtain ⟨n, rfl⟩ : ∃ k, n = k + 1 := ⟨n - 1, by simp only [List.length_cons] at h; omega⟩
      simp only [List.length_cons, Nat.add_le_add_iff_right] at h
      have fewer : (t.drop (b.toNat + 1)).length ≤ t.length := by rw [List.length_drop]; omega
      have rest {k : Nat} (hk : k < n + 1) {r : List Byte} (hr : r.length ≤ k) : decodeDelta k r = decodeDelta r.length r := ih k hk hr
      simp only [List.length_cons, decodeDelta]
      rw [rest (by omega) (fewer.trans h), rest (by omega) h, rest (by omega) fewer]

theorem decoded_cons (b : Byte) (t : List Byte) : decoded (b :: t) =
    if b.toNat < 128 then t.take (b.toNat + 1) ++ decoded (t.drop (b.toNat + 1)) else List.replicate (b.toNat - 0x7F) 0 ++ decoded t := by
  rw [← decodeDelta_of_le (l := t.drop (b.toNat + 1)) (n := t.length) (by rw [List.length_drop]; omega)]
  rfl

/-- A literal run stands for its bytes. -/
theorem decoded_literalCode {lit : List Byte} (h : lit.length ≤ 128) (rest : List Byte) : decoded (literalCode lit ++ rest) = lit ++ decoded rest := by
  unfold literalCode
  cases lit with
  | nil => rfl
  | cons x lit =>
    have code : (BitVec.ofNat 8 ((x :: lit).length - 1)).toNat = lit.length := by
      simp only [List.length_cons] at h ⊢
      rw [BitVec.toNat_ofNat]
      omega
    have short : lit.length < 128 := by simpa using h
    rw [if_neg (by simp), List.cons_append, decoded_cons, code, if_pos short]
    simp

/-- The codes of a run of zeros stand for that many of them. -/
theorem decoded_zeroCodes (k : Nat) (rest : List Byte) : decoded (zeroCodes k ++ rest) = List.replicate k 0 ++ decoded rest := by
  have full (q : Nat) (r : List Byte) : decoded (List.replicate q 0xFF ++ r) = List.replicate (128 * q) 0 ++ decoded r := by
    induction q with
    | zero => rfl
    | succ q ih =>
      rw [List.replicate_succ, List.cons_append, decoded_cons, ih, ← List.append_assoc,
        show (128 * (q + 1)) = 128 + 128 * q by ring, List.replicate_add]
      rfl
  have last (r : List Byte) : decoded ((if k % 128 = 0 then [] else [BitVec.ofNat 8 (0x7F + k % 128)]) ++ r) = List.replicate (k % 128) 0 ++ decoded r := by
    split
    · next h => rw [h]; rfl
    · have code : (BitVec.ofNat 8 (0x7F + k % 128)).toNat = 0x7F + k % 128 := by rw [BitVec.toNat_ofNat]; omega
      rw [List.singleton_append, decoded_cons, code, if_neg (by omega), Nat.add_sub_cancel_left]
  rw [zeroCodes, List.append_assoc, full, last, ← List.append_assoc, ← List.replicate_add, Nat.div_add_mod]

/-- A list begins with its leading zeros. -/
theorem replicate_leadingZeros (l : List Byte) : l = List.replicate (leadingZeros l) 0 ++ l.drop (leadingZeros l) := by
  induction l with
  | nil => rfl
  | cons b t ih =>
    unfold leadingZeros
    split
    · next h => rw [h, List.replicate_succ, List.cons_append, List.drop_succ_cons, ← ih]
    · rfl

theorem decoded_literalCode_self {lit : List Byte} (h : lit.length ≤ 128) : decoded (literalCode lit) = lit := by
  have whole := decoded_literalCode h []
  rwa [List.append_nil, show decoded [] = [] from rfl, List.append_nil] at whole

/-- The scan's code stands for the open literal run and the bytes still to come. -/
theorem decoded_codeFrom {n : Nat} {lit l : List Byte} (short : lit.length ≤ 127) (fuel : l.length < n) : decoded (codeFrom n lit l) = lit ++ l := by
  induction n generalizing lit l with
  | zero => omega
  | succ n ih =>
    cases l with
    | nil => rw [List.append_nil]; exact decoded_literalCode_self (by omega)
    | cons b t =>
      rw [List.length_cons, Nat.add_lt_add_iff_right] at fuel
      unfold codeFrom
      dsimp only
      split_ifs with zeros last
      · have run : b :: t = List.replicate (leadingZeros (b :: t)) 0 ++ t.drop (leadingZeros (b :: t) - 1) := by
          conv_lhs => rw [replicate_leadingZeros (b :: t)]
          obtain ⟨z, hz⟩ : ∃ z, leadingZeros (b :: t) = z + 1 := ⟨leadingZeros (b :: t) - 1, by omega⟩
          rw [hz]; rfl
        rw [List.append_assoc, decoded_literalCode (by omega), decoded_zeroCodes, ih (by simp) (by rw [List.length_drop]; omega), List.nil_append]
        exact congrArg (lit ++ ·) run.symm
      · rw [decoded_literalCode (by simp [last]), ih (by simp) fuel]
        simp
      · rw [ih (by rw [List.length_append, List.length_singleton]; omega) fuel]
        simp

/-- Settles O36: the scan's code stands for the open literal run and the bytes still to come, by induction along the scan; at its start no run is open. -/
theorem deltaCodingRoundTrip : Obligations.DeltaCodingRoundTrip := by
  intro l
  exact decoded_codeFrom (by simp) (Nat.lt_succ_self _)

end Sys2Proof.Machine
end

section
/-!
SUPPORT. What the Marker's accesses of memory and its applications of gradients leave (R241 to R249).
-/
namespace Sys2Proof.Machine
-- Proofs one after the other: each thread of the elaborator claims its whole stack.
set_option Elab.async false

/-! ## Reads and writes of a unit -/

/-- A read of a unit is an access, but for the free number that it takes over a link that is DOWN. -/
theorem State.readFrom_accessed (s : State) (st cls a n : Nat) :
    (s.readFrom st cls a n).1 = { s with freeNext := s.freeNext + 1 } ∨ Accessed True s (s.readFrom st cls a n).1 := by
  unfold State.readFrom
  split
  · exact .inl rfl
  · exact .inr ((Accessed.refl.readServing cls a n).countHallway _ _ _)
theorem State.writeFrom_accessed (s : State) (st cls a : Nat) (data : List Byte) (p : Bool) : Accessed True s (s.writeFrom st cls a data p) := by
  unfold State.writeFrom State.dropAtLink
  split
  · split
    · exact .refl
    · exact Accessed.refl.log _ _ _ _ _ _ (by decide)
  · exact (Accessed.refl.writeServing _ _ _ _).countHallway _ _ _

theorem stands_marker {n : RegName} (st : StackId) (hb : n.block = .marker := by rfl) (hc : 0 < n.desc.count := by decide) : n.Stands st 0 :=
  RegName.stands (by rw [hb]; exact st.isLt) (by unfold RegName.inInstance; rw [hb]) hc
/-- No access of memory writes a Marker's registers. -/
theorem RegName.accessed_marker {n : RegName} (hb : n.block = .marker := by rfl) : n.accessed = false := by
  have h := RegName.forall_of_all (p := fun m => m.block != .marker || !m.accessed) (by decide +kernel) n
  simpa [hb] using h
/-- The first copies of a register lie inside its block. -/
theorem RegName.addr_lt {n : RegName} {i : Nat} (hi : i < n.block.instances) : n.addr i 0 < n.block.base + n.block.instances * n.block.stride := by
  have ends := n.ends_le_stride
  have run := n.desc_run
  have room := Nat.mul_le_mul_right n.block.stride (Nat.succ_le_of_lt hi)
  simp only [RegDesc.run, Bool.and_eq_true, decide_eq_true_eq] at run
  simp only [RegDesc.ends] at ends
  rw [Nat.succ_mul] at room
  simp only [RegName.addr]
  omega
/-- The registers of the Markers lie below those of the slices and cores. -/
theorem RegName.addr_marker {n : RegName} (st : StackId) (hb : n.block = .marker := by rfl) : n.addr st 0 < 0x180000 :=
  (RegName.addr_lt (by rw [hb]; exact st.isLt)).trans_le (by rw [hb]; decide)

/-! ## What the application of gradients leaves (R241 to R249) -/

/-- A Marker's record without the marks of what has been applied and the count of saturations. -/
def Marker.unapplied (m : Marker) : Marker := { m with applied := [], firstShadow := [], satStep := 0 }

/-- `u` is `s` after applications by the Marker of a stack, as far as they leave it: registers but those that an access may write and SAT_COUNT, and of the Marker's record all but what has been applied and the saturations counted. -/
structure Applies (st : StackId) (s u : State) : Prop where
  regs : RegsKept (fun m a b => m.accessed = false ∧ m.addr a b < 0x180000 ∧ m ≠ .markerSatCount) s u
  marker : (u.marker st).unapplied = (s.marker st).unapplied

section
variable {st : StackId} {s t u : State}

theorem Applies.refl : Applies st s s := ⟨.refl _ _, rfl⟩
theorem Applies.trans (h : Applies st s t) (k : Applies st t u) : Applies st s u := ⟨h.regs.trans k.regs, k.marker.trans h.marker⟩

variable (h : Applies st s t)
include h

theorem Applies.same (regs : u.regs = t.regs) (markers : u.markers = t.markers) : Applies st s u :=
  h.trans ⟨.of_regs regs, by rw [State.marker, markers]; rfl⟩
theorem Applies.setMarker {m : Marker} (hm : m.unapplied = (t.marker st).unapplied) : Applies st s (t.setMarker st m) :=
  h.trans ⟨.of_regs rfl, by rw [State.marker_setMarker_same, hm]⟩
theorem Applies.accessed (k : Accessed True t u) : Applies st s u := by
  refine h.trans ⟨k.regsKept.mono (fun _ _ _ e => ⟨e.1, fun _ => e.2.1⟩), ?_⟩
  rw [State.marker, k.fields]; rfl
theorem Applies.each {α : Type} (l : List α) {f : State → α → State} (hf : ∀ t a, Applies st s t → Applies st s (f t a)) : Applies st s (t.each l f) :=
  State.each_induct _ l f t h hf

theorem Applies.readFrom (cls a n : Nat) : Applies st s (t.readFrom st cls a n).1 := by
  rcases t.readFrom_accessed st cls a n with e | k
  · exact h.same (by rw [e]) (by rw [e])
  · exact h.accessed k
theorem Applies.markerReads (l : List (Nat × Nat)) : Applies st s (t.markerReads st l).1 := by
  suffices ∀ r : State × Bool, Applies st s r.1 → Applies st s (l.foldl (fun r x => let q := r.1.readFrom st 5 x.1 x.2; (q.1, r.2 || q.2.2)) r).1 from this _ h
  induction l with
  | nil => exact fun _ hr => hr
  | cons x l ih => exact fun r hr => ih _ (hr.readFrom _ _ _)
theorem Applies.markerWrites (base : Nat) (ws : Writes) (bad : Bool) : Applies st s (t.markerWrites st base ws bad) := by
  refine h.each ws (fun t w ht => ?_)
  split
  · exact (ht.same (u := { t with freeNext := t.freeNext + 1 }) rfl rfl).accessed (State.writeFrom_accessed _ _ _ _ _ _)
  · exact ht.accessed (State.writeFrom_accessed _ _ _ _ _ _)
theorem Applies.satsOf (bad : Bool) (n : Nat) : Applies st s (t.satsOf bad n).1 := by
  unfold State.satsOf
  split
  · exact h.same rfl rfl
  · exact h
theorem Applies.countSat (n : Nat) : Applies st s (t.countSat st n) := by
  unfold State.countSat
  split
  · exact h
  · refine h.trans ⟨(RegsKept.refl _ t).setFld (f := F.markerSatCountCount) _ (stands_marker st) (by simp), ?_⟩
    rw [State.marker_setMarker_same]; rfl
theorem Applies.stepLr (p : Psd) : Applies st s (t.stepLr st p).1 := by
  unfold State.stepLr
  dsimp only
  split
  split
  · exact h
  · exact (h.setMarker (m := { t.marker st with firstShadow := NatSet.insert (t.marker st).firstShadow (lrKey p.hp) }) rfl).countSat _
theorem Applies.markUnit (p : Psd) (k : Nat) : Applies st s (t.markUnit st p k) :=
  h.setMarker rfl

theorem Applies.applyWhole (p : Psd) (c lr : Val) : Applies st s (t.applyWhole st p c lr) := by
  unfold State.applyWhole
  dsimp only
  split
  next a b n _ =>
    have read := h.markerReads (t.unitRuns st p 0 p.nelem)
    generalize t.markerReads st (t.unitRuns st p 0 p.nelem) = r at read ⊢
    exact (((((read.markerWrites _ a _).markerWrites _ b _).satsOf _ n).countSat _).markUnit p 0 :)
theorem Applies.copyRun (p : Psd) (step : BitVec 32) (r : Nat × Nat) : Applies st s (t.copyRun st p step r) :=
  ((h.markerWrites _ _ _).satsOf _ _).countSat _
theorem Applies.ite (k : Applies st s u) (p : Prop) [Decidable p] : Applies st s (if p then t else u) := by split <;> assumption
theorem Applies.applyPart (p : Psd) (c lr : Val) (k lo hi : Nat) : Applies st s (t.applyPart st p c lr k lo hi) := by
  have wrote := (h.markerReads (t.unitRuns st p lo hi)).markerWrites
  exact (((((wrote _ _ _).markerWrites _ _ _).markerWrites _ _ _).ite (wrote _ _ _) _).satsOf _ _ |>.countSat _ |>.markUnit p k).each _ (fun _ r hv => hv.copyRun p _ r)
theorem Applies.applyUnit (p : Psd) (c : Val) (k : Nat) : Applies st s (t.applyUnit st p c k) :=
  ((h.stepLr p).applyWhole p c _).ite ((h.stepLr p).applyPart p c _ k _ _) _
theorem Applies.applyReady (p : Psd) (c : Val) : Applies st s (t.applyReady st p c) := by
  refine h.ite (h.each _ (fun v k hv => ?_)) _
  exact (hv.applyUnit p c k).ite hv _

end

end Sys2Proof.Machine
end

section
/-!
Steps that open and take gradients: ARM, chunks and Q (R237, R239 to R241, R250).
-/
namespace Sys2Proof.Machine
-- Proofs one after the other: each thread of the elaborator claims its whole stack.
set_option Elab.async false

/-! ## ARM (R237) -/

theorem exec_arm (who : Requester) (st : StackId) (step : BitVec 32) (s : State) :
    exec (.arm who st step) s = .next (regCommand s who .markerArm st.val 0 step.toNat) := rfl

/-- A write of ARM is the ARM of its stack. -/
theorem writePlace_arm (t : State) (who : Requester) (st : StackId) (step : BitVec 32) :
    (t.writePlace who ⟨.markerArm, st.val, 0, 0⟩ step.toNat).1 = Machine.arm t st step := by
  have e : (t.writePlace who ⟨.markerArm, st.val, 0, 0⟩ step.toNat).1 = Machine.arm t (Fin.ofNat 4 st.val) (BitVec.ofNat 32 step.toNat) := rfl
  rw [e, Fin.ofNat_val_eq_self, BitVec.ofNat_toNat, BitVec.setWidth_eq]

theorem State.stepState_setStepState (s : State) (st : StackId) {v : Nat} (h : v < 8) : (s.setStepState st v).stepState st = v :=
  (State.fld_setFld_same (by decide) _ _ _ _).trans (Nat.mod_eq_of_lt h)

section
variable (who : Requester) (st : StackId) (step : BitVec 32) (s : State) (h : s.reachesReg who .markerArm st.val 0 step.toNat = true)
include h

/-- ARM of an IDLE Marker starts the scan. -/
theorem arm_idle (idle : s.stepState st = mIDLE) (free : s.stepRecordWaits st = false) : Completes (.arm who st step) s (fun u =>
    u.stepState st = mSCANNING ∧ u.reg .markerArm st = step.toNat ∧ (u.marker st).lr = BitVec.ofNat 32 (s.reg .markerLr st)
      ∧ (u.marker st).clip = BitVec.ofNat 32 (s.reg .markerClip st) ∧ u.mem = s.mem) := by
  refine completes_of_reaches (exec_arm who st step s) (stands_marker st) rfl step.isLt h (fun t ht => ?_)
  have idle' : t.stepState st = mIDLE := (ht.fld (f := F.markerStateStepState) (stands_marker st)).trans idle
  have free' : t.stepRecordWaits st = false := by rw [← free, ht.fields]; rfl
  let a := t.setReg .markerArm st 0 step.toNat
  let b := a.setMarker st { t.marker st with lr := BitVec.ofNat 32 (a.reg .markerLr st), clip := BitVec.ofNat 32 (a.reg .markerClip st) }
  have starts : Machine.arm t st step = b.setStepState st mSCANNING := by
    unfold Machine.arm
    rw [idle', free']; rfl
  have copied {n : RegName} (hn : n.Stands st 0) (apart : n ≠ .markerArm) (old : n ≠ .diaryDropped) : a.reg n st = s.reg n st :=
    (State.reg_setReg_stands _ (stands_marker st) hn (by simp [apart])).trans (ht.reg hn old)
  rw [writePlace_arm, starts]
  refine ⟨b.stepState_setStepState st (by decide), ?_, ?_, ?_, ht.mem⟩
  · refine (State.reg_setReg_stands (s := b) _ (stands_marker st) (stands_marker st) (by simp)).trans ?_
    exact (State.reg_setReg_same _ _ _ _ _).trans (Nat.mod_eq_of_lt step.isLt)
  · rw [← copied (n := .markerLr) (stands_marker st) (by decide) (by decide)]
    exact congrArg Marker.lr (State.marker_setMarker_same a st _)
  · rw [← copied (n := .markerClip) (stands_marker st) (by decide) (by decide)]
    exact congrArg Marker.clip (State.marker_setMarker_same a st _)

/-- ARM of a Marker that is not IDLE reads BUSY. -/
theorem arm_busy (busy : s.stepState st ≠ mIDLE) : Completes (.arm who st step) s (fun u =>
    u.stepState st = s.stepState st ∧ u.fld F.markerArmStatusResult st = 1 ∧ u.markers = s.markers ∧ u.mem = s.mem) := by
  refine completes_of_reaches (exec_arm who st step s) (stands_marker st) rfl step.isLt h (fun t ht => ?_)
  have same : t.stepState st = s.stepState st := ht.fld (f := F.markerStateStepState) (stands_marker st)
  have refused : Machine.arm t st step = t.setFld F.markerArmStatusResult st 0 1 := by
    unfold Machine.arm
    rw [same, bne_iff_ne.mpr busy]; rfl
  rw [writePlace_arm, refused]
  refine ⟨?_, State.fld_setFld_same (f := F.markerArmStatusResult) (by decide) _ _ _ _, ?_, ht.mem⟩
  · exact (State.fld_setFld_stands (f := F.markerArmStatusResult) (g := F.markerStateStepState) _ _ (stands_marker st) (stands_marker st) (by simp)).trans same
  · exact (congrArg State.markers ht.fields :)

end

/-! ## Chunks and Q (R239, R240, R241, R250) -/

/-- A chunk or Q that is bad is counted and recorded, and changes no Marker and no byte. -/
theorem State.badChunk_spec (s : State) (st : StackId) (i : Nat) (step : BitVec 32) :
    (s.badChunk st i step).mem = s.mem ∧ (s.badChunk st i step).markers = s.markers
      ∧ (s.badChunk st i step).fld F.markerBadChunksCount st = min (s.fld F.markerBadChunksCount st + 1) (2 ^ 32 - 1) := by
  let counted := s.bumpSat F.markerBadChunksCount st 0 1
  refine ⟨counted.logError_mem _ _ _ _ _ _, ?_, ?_⟩
  · exact (congrArg State.markers (counted.logError_fields .marker st uncorrected 0x014 i step.toNat) :)
  · exact (RegsKept.fld (counted.logError_keeps .marker st uncorrected 0x014 i step.toNat (by decide)) (f := F.markerBadChunksCount) (stands_marker st)
      ⟨rfl, by decide⟩).trans (State.fld_bumpSat_same (by decide) _ _ _ _)

theorem exec_gradientChunk (st : StackId) (c : Chunk) (s : State) : exec (.gradientChunk st c) s = .next (gradientChunk s st c) := rfl

/-- A chunk that comes while scanning waits. -/
theorem gradientChunk_scanning {s : State} {st : StackId} (c : Chunk) (scanning : s.stepState st = mSCANNING) :
    gradientChunk s st c = s.setMarker st { s.marker st with chunkWait := (s.marker st).chunkWait ++ [c] } := by
  unfold gradientChunk
  rw [scanning]; rfl

/-- While a step is open and credit is given, a chunk is judged at once: bad, duplicate or accepted. -/
theorem gradientChunk_open {s : State} {st : StackId} (c : Chunk) (opened : s.stepState st = mOPEN) (given : s.fld F.markerStateWithhold st = 0) :
    gradientChunk s st c = s.takeChunk st c := by
  unfold gradientChunk
  rw [opened, given]; rfl

/-- An accepted chunk's elements in the retained gradient, and with the last segment the zeros that pad it. -/
def State.retain (s : State) (st : StackId) (p : Psd) (c : Chunk) : State :=
  let w := s.markerWrites st (p.grad + 8 * 256 * c.seg) [(0, c.data.flatMap (fun q => toBytes 8 (unsigned 64 q)))] false
  if c.seg + c.nseg = p.nsegs then w.markerWrites st p.grad [Psd.padAt 0 (8 * p.nelem)] false else w

theorem State.retain_accessed (s : State) (st : StackId) (p : Psd) (c : Chunk) : Accessed True s (s.retain st p c) := by
  have wrote {t : State} (base : Nat) (ws : Writes) : Accessed True t (t.markerWrites st base ws false) :=
    Accessed.refl.each ws _ (fun v w hv => hv.trans (v.writeFrom_accessed _ _ _ _ _))
  exact ((wrote _ _).trans (wrote _ _)).ite (wrote _ _) _

/-- An accepted chunk is listed with its segments and counts in ARRIVED. -/
def State.listChunk (s : State) (st : StackId) (p : Psd) (c : Chunk) : State :=
  (s.setMarker st { s.marker st with
    segs := (s.marker st).segs ++ (List.range c.nseg).map (fun k => (p.index, c.seg + k)), chunkE := Tab.set 0 (s.marker st).chunkE p.index c.e }).bump
      F.markerArrivedCount st 0 c.nseg

section
variable {st : StackId} {c : Chunk} {p : Psd} {s : State} (found : s.scanned st c.index.toNat = some p)
include found

theorem takeChunk_bad (bad : s.chunkBad st p c = true) : s.takeChunk st c = s.badChunk st p.index c.step := by
  unfold State.takeChunk
  rw [found]
  dsimp only
  rw [if_pos bad]

variable (good : s.chunkBad st p c = false)
include good

theorem takeChunk_duplicate (dup : ∃ k, k < c.nseg ∧ (s.marker st).hasSeg p.index (c.seg + k) = true) :
    s.takeChunk st c = s.bumpSat F.markerDupSegmentsCount st 0 1 := by
  have any : ((List.range c.nseg).map (fun k => (p.index, c.seg + k))).any (fun x => (s.marker st).hasSeg x.1 x.2) = true := by
    obtain ⟨k, hk, seen⟩ := dup
    exact List.any_eq_true.mpr ⟨_, List.mem_map.mpr ⟨k, List.mem_range.mpr hk, rfl⟩, seen⟩
  unfold State.takeChunk
  rw [found]
  dsimp only
  rw [good, if_neg (by decide), if_pos any]

/-- A new chunk of a block that is not slow: its elements are written, it is listed and counted, and what is ready is applied. -/
theorem takeChunk_accepted (new : ∀ k, k < c.nseg → (s.marker st).hasSeg p.index (c.seg + k) = false) (fast : p.slow = false) :
    s.takeChunk st c = ((s.retain st p c).listChunk st p c).applyReady st p oneVal := by
  have none : ((List.range c.nseg).map (fun k => (p.index, c.seg + k))).any (fun x => (s.marker st).hasSeg x.1 x.2) = false := by
    refine List.any_eq_false.mpr (fun x hx => ?_)
    obtain ⟨k, hk, rfl⟩ := List.mem_map.mp hx
    rw [new k (List.mem_range.mp hk)]; decide
  unfold State.takeChunk
  rw [found]
  dsimp only
  rw [good, if_neg (by decide), none, if_neg (by decide), fast, if_neg (by decide)]
  rfl

end

/-- The chunk that is accepted is listed and counts in ARRIVED, and the step stays open. -/
theorem gradientChunk_accepted {st : StackId} {c : Chunk} {p : Psd} {s : State} (opened : s.stepState st = mOPEN) (given : s.fld F.markerStateWithhold st = 0)
    (found : s.scanned st c.index.toNat = some p) (good : s.chunkBad st p c = false)
    (new : ∀ k, k < c.nseg → (s.marker st).hasSeg p.index (c.seg + k) = false) (fast : p.slow = false) : Completes (.gradientChunk st c) s (fun u =>
      (u.marker st).segs = (s.marker st).segs ++ (List.range c.nseg).map (fun k => (p.index, c.seg + k))
        ∧ u.fld F.markerArrivedCount st = (s.fld F.markerArrivedCount st + c.nseg) % 2 ^ 32 ∧ u.stepState st = mOPEN) := by
  refine ⟨_, exec_gradientChunk st c s, ?_⟩
  rw [gradientChunk_open c opened given, takeChunk_accepted found good new fast]
  have wrote : Accessed True s (s.retain st p c) := s.retain_accessed st p c
  have applied : Applies st ((s.retain st p c).listChunk st p c) (((s.retain st p c).listChunk st p c).applyReady st p oneVal) := Applies.refl.applyReady p oneVal
  generalize s.retain st p c = w at wrote applied
  have before (f : RegField) (hb : f.reg.block = .marker) (hc : 0 < f.reg.desc.count := by decide) : w.fld f st = s.fld f st :=
    wrote.regsKept.fld (stands_marker st hb hc) ⟨RegName.accessed_marker hb, fun _ => RegName.addr_marker st hb⟩
  have after (f : RegField) (hb : f.reg.block = .marker) (hn : f.reg ≠ .markerSatCount) (hc : 0 < f.reg.desc.count := by decide) :
      ((w.listChunk st p c).applyReady st p oneVal).fld f st = (w.listChunk st p c).fld f st :=
    applied.regs.fld (stands_marker st hb hc) ⟨RegName.accessed_marker hb, RegName.addr_marker st hb, hn⟩
  have record : w.marker st = s.marker st := by rw [State.marker, wrote.fields]; rfl
  refine ⟨?_, ?_, ?_⟩
  · refine (congrArg Marker.segs applied.marker).trans ?_
    rw [← record]
    exact congrArg Marker.segs (State.marker_setMarker_same w st _)
  · rw [after F.markerArrivedCount rfl (by decide), ← before F.markerArrivedCount rfl]
    exact State.fld_setFld_same (by decide) _ _ _ _
  · refine (after F.markerStateStepState rfl (by decide)).trans ?_
    refine Eq.trans ?_ ((before F.markerStateStepState rfl).trans opened)
    exact State.fld_setFld_stands (f := F.markerArrivedCount) (g := F.markerStateStepState) _ _ (stands_marker st) (stands_marker st) (by simp)

section
variable {st : StackId} (step : BitVec 32) (q : LxValue) {s : State}

theorem exec_normQArrival_open (opened : s.stepState st = mOPEN) : exec (.normQArrival st step q) s = .next (s.takeQ st step q) := by
  have e : exec (.normQArrival st step q) s = .next (normQArrival s st step q) := rfl
  rw [e, normQArrival, opened]; rfl

/-- The first Q of the open step is kept. -/
theorem takeQ_first (opened : s.stepState st = mOPEN) (own : step.toNat = s.reg .markerOpenStep st) (first : (s.marker st).q = none) :
    s.takeQ st step q = s.setMarker st { s.marker st with q := some q } := by
  unfold State.takeQ
  dsimp only
  rw [opened, own, first, beq_self_eq_true]; rfl
/-- A further Q is discarded. -/
theorem takeQ_again (again : (s.marker st).q ≠ none) : s.takeQ st step q = s.badChunk st 0 step := by
  have kept : (s.marker st).q.isNone = false := Option.isNone_eq_false_iff.mpr (Option.isSome_iff_ne_none.mpr again)
  unfold State.takeQ
  dsimp only
  rw [kept, Bool.and_false, if_neg (by decide)]

end

/-- Settles O37: an ARM by the state of the Marker, a chunk by what R240 finds of it, and Q by whether one is kept; the application of an accepted chunk leaves the list of segments and the step (`Applies.applyReady`). -/
theorem stepsOpenAndTakeGradients : Obligations.StepsOpenAndTakeGradients := by
  refine ⟨fun who st step s h => ⟨arm_idle who st step s h, arm_busy who st step s h⟩, ?_, ?_, ?_⟩
  · exact fun st c s scanning => ⟨_, exec_gradientChunk st c s, gradientChunk_scanning c scanning⟩
  · intro st c p s opened given found
    have judged : exec (.gradientChunk st c) s = .next (s.takeChunk st c) :=
      (exec_gradientChunk st c s).trans (congrArg Host.Outcome.next (gradientChunk_open c opened given))
    refine ⟨fun bad => ⟨_, judged, ?_⟩, fun good dup => ⟨_, judged, ?_⟩, fun good new fast => gradientChunk_accepted opened given found good new fast⟩
    · rw [takeChunk_bad found bad]; exact s.badChunk_spec st _ _
    · rw [takeChunk_duplicate found good dup]; exact ⟨rfl, rfl, State.fld_bumpSat_same (by decide) _ _ _ _⟩
  · intro st step q s opened own
    have judged := exec_normQArrival_open (st := st) step q opened
    refine ⟨fun first => judged.trans (congrArg Host.Outcome.next (takeQ_first step q opened own first)), fun again => ⟨_, judged, ?_⟩⟩
    obtain ⟨-, markers, count⟩ := s.badChunk_spec st 0 step
    rw [takeQ_again step q again]
    exact ⟨markers, count⟩

end Sys2Proof.Machine
end

section
/-!
SUPPORT. Writes of memory where nothing waits, byte by byte (R207, R209, R217).
-/
namespace Sys2Proof.Machine
-- Proofs one after the other: each thread of the elaborator claims its whole stack.
set_option Elab.async false

/-! ## Writes of memory while nothing waits for their sets (R207, R209, R217) -/

/-- `u` is `s` after accesses that leave the waiting requests and the channels and slices that discard writes as they are. -/
structure Still (s u : State) : Prop where
  waits : ∀ a, u.setWaits a = s.setWaits a
  discards : ∀ a, u.discards a = s.discards a

theorem Still.trans {s t u : State} (h : Still s t) (k : Still t u) : Still s u :=
  ⟨fun a => (k.waits a).trans (h.waits a), fun a => (k.discards a).trans (h.discards a)⟩
theorem Accessed.still {s u : State} (h : Accessed False s u) : Still s u := ⟨h.setWaits, h.discards⟩
theorem Still.of_same {s u : State} (regs : u.regs = s.regs) (slices : u.slices = s.slices) : Still s u :=
  ⟨fun a => by simp only [State.setWaits, State.slice, slices], fun a => by simp only [State.discards, State.fld, State.reg, State.slice, regs, slices]⟩
theorem Still.idleSlices {s u : State} (h : Still s u) (idle : s.idleSlices) : u.idleSlices := fun a => (h.waits a).trans (idle a)

theorem State.turn_of_still {s : State} {a : Nat} (h : s.setWaits a = false) : s.turn a = s := by
  unfold State.turn
  cases (s.slice (homeSlice a)).waitQ.length with
  | zero => rfl
  | succ n => rw [State.settle, h]; rfl

/-- The pieces of a range lie in it. -/
theorem sectorPieces_within {a n : Nat} {pc : Nat × Nat} (h : pc ∈ sectorPieces a n) : a ≤ pc.1 ∧ pc.1 + pc.2 ≤ a + n := by
  obtain ⟨k, hk, rfl⟩ := List.mem_map.mp h
  have := List.mem_range.mp hk
  dsimp only
  omega

/-- The one piece of an aligned word of 64 bits. -/
theorem sectorPieces_word {a : Nat} (ha : a % 8 = 0) : sectorPieces a 8 = [(a, 8)] := by
  have one : (a % 32 + 8 + 31) / 32 = 1 := by omega
  simp only [sectorPieces, one, List.range_one, List.map_cons, List.map_nil]
  congr 2 <;> omega

section
variable {s : State} {cls a : Nat} (hc : cls < 8)
include hc

/-- A piece of a write lands in its sector, unless it is discarded, and no other byte changes. -/
theorem State.writePiece_still (free : s.setWaits a = false) (data : List Byte) (p : Bool) :
    let u := ((s.turn a).writePiece cls a data p false).getD (s.turn a)
    Still s u ∧ ∀ x, u.byte x = if s.discards a = false ∧ a ≤ x ∧ x < a + data.length then data.getD (x - a) 0 else s.byte x := by
  rw [State.turn_of_still free]
  unfold State.writePiece
  dsimp only
  cases hd : s.discards a with
  | true =>
    have logged : Accessed False s (s.recordDiscard a) := Accessed.refl.log _ _ _ _ _ _ (by decide)
    exact ⟨logged.still, fun x => by simpa using State.byte_of_mem logged.sameMem x⟩
  | false =>
    let kind := if (data.length == 32 && a % 32 == 0) = true then AccessKind.whole else AccessKind.part
    obtain ⟨t, ht⟩ := Option.isSome_iff_exists.mp (s.sectorAccess_isSome a cls kind)
    have kept : Accessed False s t := Accessed.refl.sectorAccess (.inl hc) kind false ht
    have wrote (x : Nat) : (t.setBytes a data).byte x = if false = false ∧ a ≤ x ∧ x < a + data.length then data.getD (x - a) 0 else s.byte x := by
      rw [State.byte_setBytes, State.byte_of_mem kept.sameMem]
      simp
    have same : Still s (t.setBytes a data) := kept.still.trans (.of_same (by simp) (by simp))
    rw [if_neg (by decide), ht]
    dsimp only
    split
    · exact ⟨same.trans (.of_same rfl rfl), wrote⟩
    · exact ⟨same, wrote⟩

/-- A write: of each piece that is not discarded its bytes, and no other byte. -/
theorem State.memWrite_still (data : List Byte) (p : Bool) (free : ∀ pc ∈ sectorPieces a data.length, s.setWaits pc.1 = false) :
    Still s (s.memWrite cls a data p) ∧ ∀ x, (s.memWrite cls a data p).byte x =
      if ∃ pc ∈ sectorPieces a data.length, s.discards pc.1 = false ∧ pc.1 ≤ x ∧ x < pc.1 + pc.2 then data.getD (x - a) 0 else s.byte x := by
  have inside : ∀ pc ∈ sectorPieces a data.length, a ≤ pc.1 ∧ pc.1 + pc.2 ≤ a + data.length := fun _ => sectorPieces_within
  unfold State.memWrite
  generalize sectorPieces a data.length = l at free inside
  induction l generalizing s with
  | nil => exact ⟨.of_same rfl rfl, fun x => by simp [State.each]⟩
  | cons pc l ih =>
    obtain ⟨same, wrote⟩ := State.writePiece_still hc (free pc List.mem_cons_self) ((data.drop (pc.1 - a)).take pc.2) p
    obtain ⟨still, bytes⟩ := ih (fun q hq => (same.waits q.1).trans (free q (List.mem_cons_of_mem _ hq))) (fun q hq => inside q (List.mem_cons_of_mem _ hq))
    refine ⟨same.trans still, fun x => ?_⟩
    obtain ⟨lo, hi⟩ := inside pc List.mem_cons_self
    have len : ((data.drop (pc.1 - a)).take pc.2).length = pc.2 := by rw [List.length_take, List.length_drop]; omega
    refine (bytes x).trans ?_
    rw [wrote x, len]
    simp only [List.exists_mem_cons_iff, same.discards]
    by_cases here : s.discards pc.1 = false ∧ pc.1 ≤ x ∧ x < pc.1 + pc.2
    · have value : ((data.drop (pc.1 - a)).take pc.2).getD (x - pc.1) 0 = data.getD (x - a) 0 := by
        simp only [List.getD_eq_getElem?_getD, List.getElem?_take, List.getElem?_drop, show x - pc.1 < pc.2 by omega, if_true,
          show pc.1 - a + (x - pc.1) = x - a by omega]
      rw [if_pos here, if_pos (Or.inl here), value, ite_self]
    · simp only [here, false_or, if_false]

variable (data : List Byte) (p : Bool)

/-- Every byte outside the range of a write stands. -/
theorem State.memWrite_outside (idle : s.idleSlices) {x : Nat} (h : x < a ∨ a + data.length ≤ x) : (s.memWrite cls a data p).byte x = s.byte x := by
  refine ((State.memWrite_still hc data p (fun _ _ => idle _)).2 x).trans (if_neg ?_)
  rintro ⟨pc, hp, -, hx⟩
  have := sectorPieces_within hp
  omega
/-- Every byte of the range of a write that no channel or slice discards is as written. -/
theorem State.memWrite_inside (idle : s.idleSlices) (stays : ∀ pc ∈ sectorPieces a data.length, s.discards pc.1 = false) {i : Nat} (h : i < data.length) :
    (s.memWrite cls a data p).byte (a + i) = data.getD i 0 := by
  obtain ⟨pc, hp, hx⟩ := (sectorPieces_cover a (a + i) (by omega : 0 < data.length)).mpr (by omega)
  refine ((State.memWrite_still hc data p (fun _ _ => idle _)).2 (a + i)).trans ((if_pos ⟨pc, hp, stays pc hp, hx⟩).trans ?_)
  rw [Nat.add_sub_cancel_left]

end

/-- An aligned word of 64 bits that no channel or slice discards is written where no request waits for its set. -/
theorem State.memWrite_word {s : State} {cls a : Nat} (hc : cls < 8) (ha : a % 8 = 0) (free : s.setWaits a = false) (stays : s.discards a = false) (v : Nat) :
    (s.memWrite cls a (toBytes 8 v) false).num a 8 = v % 2 ^ 64
      ∧ ∀ x, (x < a ∨ a + 8 ≤ x) → (s.memWrite cls a (toBytes 8 v) false).byte x = s.byte x := by
  have one : sectorPieces a (toBytes 8 v).length = [(a, 8)] := by rw [toBytes_length, sectorPieces_word ha]
  have byte := (State.memWrite_still (s := s) hc (toBytes 8 v) false (by rw [one]; simpa using free)).2
  rw [one] at byte
  simp only [List.mem_singleton, exists_eq_left, stays, true_and] at byte
  have bytes : (s.memWrite cls a (toBytes 8 v) false).bytes a 8 = (s.setBytes a (toBytes 8 v)).bytes a 8 := by
    refine State.bytes_of_byte (fun x lo hi => ?_)
    rw [byte x, State.byte_setBytes, toBytes_length]
  refine ⟨?_, fun x hx => (byte x).trans (if_neg (by omega))⟩
  rw [State.num, bytes]
  exact State.num_setNum s a 8 v

end Sys2Proof.Machine
end

section
/-!
SUPPORT. The registers of a Marker, its pool, and the end of a step (R252, R254, R257 to R259, R366).
-/
namespace Sys2Proof.Machine
-- Proofs one after the other: each thread of the elaborator claims its whole stack.
set_option Elab.async false

/-! ## The registers of a Marker, but for some -/

/-- The registers of the Markers that a list does not name. -/
def RegName.markerBut (l : List RegName) (m : RegName) (a b : Nat) : Prop := m.block = .marker ∧ a < 4 ∧ b = 0 ∧ m ∉ l

section
variable {l l' : List RegName} {s u : State}

theorem RegsKept.markerLess (h : RegsKept (RegName.markerBut l) s u) (hl : l ⊆ l') : RegsKept (RegName.markerBut l') s u :=
  h.mono (fun _ _ _ ⟨hb, ha, hz, hn⟩ => ⟨hb, ha, hz, fun k => hn (hl k)⟩)
theorem RegsKept.markerReg (h : RegsKept (RegName.markerBut l) s u) (st : StackId) (n : RegName) (hb : n.block = .marker := by rfl)
    (hn : n ∉ l := by decide) (hc : 0 < n.desc.count := by decide) : u.reg n st = s.reg n st := h n st 0 (stands_marker st hb hc) ⟨hb, st.isLt, rfl, hn⟩
theorem RegsKept.markerFld (h : RegsKept (RegName.markerBut l) s u) (st : StackId) (f : RegField) (hb : f.reg.block = .marker := by rfl)
    (hn : f.reg ∉ l := by decide) (hc : 0 < f.reg.desc.count := by decide) : u.fld f st = s.fld f st := by
  simp only [State.fld, h.markerReg st f.reg hb hn hc]
theorem RegsKept.markerSet (h : RegsKept (RegName.markerBut l) s u) (st : StackId) (n : RegName) (v : Nat) (hn : n ∈ l := by decide)
    (hb : n.block = .marker := by rfl) (hc : 0 < n.desc.count := by decide) : RegsKept (RegName.markerBut l) s (u.setReg n st 0 v) :=
  h.setReg v (stands_marker st hb hc) (fun k => k.2.2.2 hn)
/-- A register of another block is none of a Marker's. -/
theorem RegsKept.markerApart (h : RegsKept (RegName.markerBut l) s u) {n : RegName} {i j : Nat} (hn : n.Stands i j) (v : Nat) (hb : n.block ≠ .marker := by decide) :
    RegsKept (RegName.markerBut l) s (u.setReg n i j v) := h.setReg v hn (fun k => hb k.1)

/-- An access leaves every register of the Markers. -/
theorem Accessed.markerKept (h : Accessed True s u) : RegsKept (RegName.markerBut []) s u :=
  h.regsKept.mono (fun m a b ⟨hb, ha, hz, _⟩ => ⟨RegName.accessed_marker hb, fun _ => by rw [hz]; exact RegName.addr_marker ⟨a, ha⟩ hb⟩)
/-- A record of the log leaves every register of the Markers. -/
theorem Logs.markerKept (h : Logs s u) : RegsKept (RegName.markerBut []) s u :=
  h.regsKept.mono (fun m a b ⟨hb, _⟩ => by
    have k := RegName.forall_of_all (p := fun m => m.block != .marker || !m.logged) (by decide +kernel) m
    simpa [hb] using k)
theorem Applies.markerKept {st : StackId} (h : Applies st s u) : RegsKept (RegName.markerBut [.markerSatCount]) s u :=
  h.regs.mono (fun m a b ⟨hb, ha, hz, hn⟩ => ⟨RegName.accessed_marker hb, by rw [hz]; exact RegName.addr_marker ⟨a, ha⟩ hb, by simpa using hn⟩)

theorem Accessed.markers (h : Accessed True s u) : u.markers = s.markers := by rw [h.fields]
theorem Accessed.marker (h : Accessed True s u) (st : StackId) : u.marker st = s.marker st := by rw [State.marker, h.markers, State.marker]

end

/-! ## The pool (R257) -/

section
variable (s : State) (st : StackId)

theorem State.putPage_accessed (k off : Nat) (data : List Byte) : Accessed True s (s.putPage st k off data) :=
  (Accessed.refl.writeServing _ _ _ _).ite .refl _
theorem State.putSegment_accessed (k : Nat) (data : List Int) (seg n : Nat) : Accessed True s (s.putSegment st k data seg n) := s.putPage_accessed st _ _ _
/-- The headers of the pages follow the record. -/
theorem State.setPool_accessed (m : Marker) : Accessed True (s.setMarker st m) (s.setPool st m) :=
  Accessed.refl.each _ _ (fun t _ ht => ht.ite (ht.trans (t.putPage_accessed st _ _ _)) _)
theorem State.setPool_markerKept (m : Marker) : RegsKept (RegName.markerBut []) s (s.setPool st m) :=
  (RegsKept.of_regs rfl : RegsKept _ s (s.setMarker st m)).trans (s.setPool_accessed st m).markerKept
theorem State.marker_setPool (m : Marker) : (s.setPool st m).marker st = m :=
  ((s.setPool_accessed st m).marker st).trans (State.marker_setMarker_same _ _ _)
/-- Where the record stays, no header is written. -/
theorem State.setPool_same : s.setPool st (s.marker st) = s.setMarker st (s.marker st) := by
  refine State.each_induct (fun t => t = s.setMarker st (s.marker st)) _ _ _ rfl (fun t _ ht => ?_)
  rw [beq_self_eq_true, if_pos rfl, ht]

theorem State.notePages_markerKept : RegsKept (RegName.markerBut [.markerSlipPages]) s (s.notePages st) := (RegsKept.refl _ s).markerSet st .markerSlipPages _

/-- While credit is given, a page that has been freed is counted and no chunk is taken. -/
theorem State.pageFree_given (given : s.fld F.markerStateWithhold st = 0) : s.pageFree st = s.notePages st := by
  have same : (s.notePages st).fld F.markerStateWithhold st = 0 := ((s.notePages_markerKept st).markerFld st F.markerStateWithhold).trans given
  unfold State.pageFree
  dsimp only
  rw [same]; rfl

/-- A Marker's record without the stages that hold neither a slip nor an uncommitted application. -/
def Marker.released (m : Marker) : Marker :=
  { m with stages := m.stages.filter (fun g => g.shadow.isSome || m.slips.any (fun sl => sl.index == g.index)) }

theorem Marker.released_of_empty {m : Marker} (h : m.stages = []) : m.released = m := by
  unfold Marker.released
  rw [h, List.filter_nil, ← h]

section
variable (given : s.fld F.markerStateWithhold st = 0)
include given

theorem State.releaseStages_given : s.releaseStages st = (s.setPool st (s.marker st).released).notePages st :=
  State.pageFree_given _ st (((s.setPool_markerKept st (s.marker st).released).markerFld st F.markerStateWithhold).trans given)

/-- The release of stages leaves the registers of the Markers but the count of free pages, the hold ring, and of the Marker's record all but its stages. -/
theorem State.releaseStages_spec :
    RegsKept (RegName.markerBut [.markerSlipPages]) s (s.releaseStages st) ∧ (s.releaseStages st).marker st = (s.marker st).released
      ∧ (s.releaseStages st).holdRing = s.holdRing ∧ ((s.marker st).stages = [] → (s.releaseStages st).mem = s.mem) := by
  rw [s.releaseStages_given st given]
  refine ⟨?_, s.marker_setPool st _, ?_, fun empty => ?_⟩
  · exact ((s.setPool_markerKept st _).markerLess (List.nil_subset _)).trans (State.notePages_markerKept _ st)
  · exact (congrArg State.holdRing (s.setPool_accessed st (s.marker st).released).fields :)
  · rw [Marker.released_of_empty empty, s.setPool_same]; rfl

/-- A step's slips are discarded: none of them is left. -/
theorem State.dropSlips_spec (step : Nat) :
    RegsKept (RegName.markerBut [.markerSlipPages]) s (s.dropSlips st step) ∧ (∀ sl ∈ ((s.dropSlips st step).marker st).slips, sl.step.toNat ≠ step)
      ∧ ((s.marker st).slips = [] → (s.marker st).stages = [] → (s.dropSlips st step).mem = s.mem) := by
  let m := { s.marker st with slips := (s.marker st).slips.filter (fun sl => sl.step.toNat != step) }
  obtain ⟨regs, record, -, mem⟩ := (s.setPool st m).releaseStages_spec st (((s.setPool_markerKept st m).markerFld st F.markerStateWithhold).trans given)
  refine ⟨((s.setPool_markerKept st m).markerLess (List.nil_subset _)).trans regs, fun sl hsl => ?_, fun slips stages => ?_⟩
  · have kept : sl ∈ ((s.setPool st m).marker st).slips := by
      have e : ((s.dropSlips st step).marker st).slips = ((s.setPool st m).marker st).slips := (congrArg Marker.slips record :)
      rwa [e] at hsl
    rw [State.marker_setPool] at kept
    exact bne_iff_ne.mp (List.mem_filter.mp kept).2
  · have same : m = s.marker st := by simp only [m, slips, List.filter_nil]; rw [← slips]
    have still : (s.setPool st m).mem = s.mem := by rw [same, s.setPool_same]; rfl
    exact (mem (by rw [State.marker_setPool, same]; exact stages)).trans still

end

end

/-! ## The step record (R254, R365, R366) -/

/-- What the production of a step record leaves: the registers of the Markers, memory, and of the Markers' records all but the blocks of which Homework has been sent. -/
structure StepNoted (s u : State) : Prop where
  regs : RegsKept (RegName.markerBut []) s u
  mem : u.mem = s.mem
  marker : ∀ st, ({ u.marker st with hwSeen := [] } : Marker) = { s.marker st with hwSeen := [] }

section
variable {s t u : State}

theorem StepNoted.of_same (regs : u.regs = s.regs) (mem : u.mem = s.mem) (markers : u.markers = s.markers) : StepNoted s u :=
  ⟨.of_regs regs, mem, fun st => by rw [State.marker, markers, State.marker]⟩
theorem StepNoted.trans (h : StepNoted s t) (k : StepNoted t u) : StepNoted s u := ⟨h.regs.trans k.regs, k.mem.trans h.mem, fun st => (k.marker st).trans (h.marker st)⟩
theorem StepNoted.setReg (h : StepNoted s u) {n : RegName} {i j : Nat} (hn : n.Stands i j) (v : Nat) (hb : n.block ≠ .marker := by decide) : StepNoted s (u.setReg n i j v) :=
  ⟨h.regs.markerApart hn v hb, h.mem, h.marker⟩
theorem StepNoted.logs (h : StepNoted s t) (k : Logs t u) : StepNoted s u :=
  ⟨h.regs.trans k.markerKept, k.mem.trans h.mem, fun st => by
    have markers : u.markers = t.markers := by rw [k.fields]
    rw [State.marker, markers]; exact h.marker st⟩

theorem StepNoted.setFld (h : StepNoted s u) {f : RegField} {i j : Nat} (hn : f.reg.Stands i j) (v : Nat) (hb : f.reg.block ≠ .marker := by decide) : StepNoted s (u.setFld f i j v) :=
  h.setReg hn _ hb
theorem StepNoted.noteHoldRing (h : StepNoted s u) : StepNoted s u.noteHoldRing := by
  have counts := ((h.setFld (f := F.queueHoldInUse) stands_zero u.holdRing.length).setFld (f := F.queueHoldFull) stands_zero (bit (u.holdRing.length ≥ holdRingSize))).setFld
    (f := F.queueHoldPeakPeak) stands_zero (max u.holdRing.length (u.fld F.queueHoldPeakPeak))
  have port (k : Fin 2) : RegName.Stands .hostEvents k 0 := RegName.stands k.isLt rfl (by decide)
  unfold State.noteHoldRing
  dsimp only
  split
  · exact ((counts.setFld (f := F.hostEventsHoldFull) (port 0) 1).setFld (f := F.hostEventsHoldFull) (port 1) 1).logs Logs.refl.signalEvent
  · exact counts

end

section
variable (s : State)

theorem State.stepDrop_noted (part : Fin 4) (n : Nat) : StepNoted s (s.stepDrop part n) := by
  have counted : StepNoted s (s.bumpSat F.queueStepDroppedCount 0 part n) :=
    (StepNoted.of_same rfl rfl rfl : StepNoted s s).setFld (f := F.queueStepDroppedCount) (RegName.stands (by decide) rfl part.isLt) _
  refine State.each_induct _ _ _ _ counted (fun t k ht => ht.trans ⟨.of_regs rfl, rfl, fun st => ?_⟩)
  by_cases same : st = Fin.ofNat 4 k
  · rw [same, State.marker_setMarker_same]
  · rw [State.marker_setMarker_other _ _ _ _ same]

/-- A step record enters the hold ring, waits for it, or is dropped (R365, R366). -/
theorem State.stepRec_noted (part : Nat) (bytes : List Byte) : StepNoted s (s.stepRec part bytes) := by
  unfold State.stepRec State.enterRec State.admitRec
  dsimp only
  split
  · split
    · exact (StepNoted.of_same rfl rfl rfl : StepNoted s { s with holdRing := s.holdRing ++ [⟨.step (Fin.ofNat 4 part), 0, bytes, false⟩] }).noteHoldRing
    · exact .of_same rfl rfl rfl
  · exact s.stepDrop_noted _ 1

/-- While the ring is ACTIVE and the hold ring has room, the step record is held (R366). -/
theorem State.stepRec_held {part : Nat} (active : s.ringState (.step (Fin.ofNat 4 part)) = qACTIVE) (room : s.holdRing.length < holdRingSize) (alone : s.holdWait = [])
    (bytes : List Byte) : (s.stepRec part bytes).holdRing = s.holdRing ++ [⟨.step (Fin.ofNat 4 part), 0, bytes, false⟩] := by
  unfold State.stepRec
  dsimp only
  rw [active, beq_self_eq_true, if_pos rfl, State.enterRec, if_pos ⟨room, alone⟩]
  exact State.holdRing_noteHoldRing _

end

/-! ## The end of a step (R252, R254) -/

section
variable (s : State) (st : StackId)

/-- Where nothing waited for the scan, the drain takes nothing. -/
theorem State.drainScan_quiet (chunks : (s.marker st).chunkWait = []) (qs : (s.marker st).qWait = []) :
    s.drainScan st = s.setMarker st { s.marker st with chunkWait := [], qWait := [] } := by
  unfold State.drainScan
  dsimp only
  rw [chunks, qs]
  rfl

/-- The number whose bytes are the step record (R254). -/
def State.stepRecord (s : State) (st : StackId) (result norm clip blocks slips sat : Nat) : Nat :=
  (if s.stepState st == mSCANNING then s.reg .markerArm st else s.reg .markerOpenStep st) + result * 2 ^ 32 + st.val * 2 ^ 35 + norm * 2 ^ 64 + clip * 2 ^ 96
    + blocks * 2 ^ 128 + slips * 2 ^ 160 + sat % 2 ^ 64 * 2 ^ 192 + s.now % 2 ^ 64 * 2 ^ 256

/-- The state on which the step record is produced. -/
def State.closed (s : State) (st : StackId) (result : Nat) : State :=
  let t := (s.setFld F.markerResultLast st 0 result).setStepState st mIDLE
  t.setMarker st { t.marker st with segs := [], chunkE := [], q := none, applied := [], firstShadow := [], decision := none, commitWritten := [], satStep := 0 }

theorem State.marker_closed (result : Nat) : (s.closed st result).marker st =
    { s.marker st with segs := [], chunkE := [], q := none, applied := [], firstShadow := [], decision := none, commitWritten := [], satStep := 0 } :=
  State.marker_setMarker_same _ _ _
/-- Registers of other blocks, and of the Marker but two, are as they were when the record is produced. -/
theorem State.reg_closed (result : Nat) {n : RegName} {i j : Nat} (hn : n.Stands i j) (state : n ≠ .markerState) (last : n ≠ .markerResult) :
    (s.closed st result).reg n i j = s.reg n i j :=
  (State.reg_setReg_stands _ (stands_marker (n := .markerState) st) hn (by simp [state])).trans
    (State.reg_setReg_stands _ (stands_marker (n := .markerResult) st) hn (by simp [last]))

variable (result norm clip blocks slips sat : Nat)

/-- The state after the step record, before what waited for a scan is taken. -/
def State.reported (s : State) (st : StackId) (result norm clip blocks slips sat : Nat) : State :=
  (s.closed st result).stepRec ((s.closed st result).partOf st) (toBytes 64 (s.stepRecord st result norm clip blocks slips sat))

/-- What a step record does not touch of the Marker's record is as the step's end left it. -/
theorem State.reported_same {α : Type} (f : Marker → α) (hf : ∀ m : Marker, f { m with hwSeen := [] } = f m) :
    f ((s.reported st result norm clip blocks slips sat).marker st) = f ((s.closed st result).marker st) := by
  have noted : StepNoted (s.closed st result) (s.reported st result norm clip blocks slips sat) := State.stepRec_noted _ _ _
  rw [← hf, noted.marker, hf]

section
variable (chunks : (s.marker st).chunkWait = []) (qs : (s.marker st).qWait = [])
include chunks qs

theorem State.endStep_quiet : s.endStep st result norm clip blocks slips sat = (s.reported st result norm clip blocks slips sat).setMarker st
    { (s.reported st result norm clip blocks slips sat).marker st with chunkWait := [], qWait := [] } := by
  refine State.drainScan_quiet (s.reported st result norm clip blocks slips sat) st ?_ ?_
  · exact (s.reported_same st result norm clip blocks slips sat Marker.chunkWait (fun _ => rfl)).trans ((congrArg Marker.chunkWait (s.marker_closed st result) :).trans chunks)
  · exact (s.reported_same st result norm clip blocks slips sat Marker.qWait (fun _ => rfl)).trans ((congrArg Marker.qWait (s.marker_closed st result) :).trans qs)

end

/-- What the end of a step leaves, while nothing waits for the scan. -/
structure Ended (st : StackId) (result : Nat) (s u : State) : Prop where
  regs : RegsKept (RegName.markerBut [.markerState, .markerResult]) s u
  idle : u.stepState st = mIDLE
  last : u.fld F.markerResultLast st = result % 8
  given : u.fld F.markerStateWithhold st = s.fld F.markerStateWithhold st
  slips : (u.marker st).slips = (s.marker st).slips
  stages : (u.marker st).stages = (s.marker st).stages
  mem : u.mem = s.mem

/-- The end of a step, while nothing waits for the scan. -/
theorem State.endStep_ended (chunks : (s.marker st).chunkWait = []) (qs : (s.marker st).qWait = []) :
    Ended st result s (s.endStep st result norm clip blocks slips sat) := by
  have noted : StepNoted (s.closed st result) (s.reported st result norm clip blocks slips sat) := State.stepRec_noted _ _ _
  have record := s.marker_closed st result
  have same {α : Type} (f : Marker → α) (hf : ∀ m : Marker, f { m with hwSeen := [] } = f m) := s.reported_same st result norm clip blocks slips sat f hf
  rw [s.endStep_quiet st result norm clip blocks slips sat chunks qs]
  generalize s.reported st result norm clip blocks slips sat = r at noted same
  have regs : RegsKept (RegName.markerBut []) (s.closed st result) r := noted.regs
  have fields : (s.closed st result).fld F.markerStateWithhold st = s.fld F.markerStateWithhold st
      ∧ (s.closed st result).fld F.markerResultLast st = result % 8 := by
    let ended := s.setFld F.markerResultLast st 0 result
    exact ⟨(State.fld_setFld_apart (f := F.markerStateStepState) (g := F.markerStateWithhold) rfl (by decide) (by decide) ended st 0 mIDLE).trans
        (State.fld_setFld_stands (f := F.markerResultLast) (g := F.markerStateWithhold) s result (stands_marker st) (stands_marker st) (by simp)),
      (State.fld_setFld_stands (f := F.markerStateStepState) (g := F.markerResultLast) ended mIDLE (stands_marker st) (stands_marker st) (by simp)).trans
        (State.fld_setFld_same (f := F.markerResultLast) (by decide) s st 0 result)⟩
  refine ⟨?_, ?_, ?_, ?_, ?_, ?_, ?_⟩
  · have closed : RegsKept (RegName.markerBut [.markerState, .markerResult]) s (s.closed st result) :=
      ((RegsKept.refl _ s).markerSet st .markerResult _).markerSet st .markerState _
    exact closed.trans (regs.markerLess (List.nil_subset _))
  · exact (regs.markerFld st F.markerStateStepState).trans (State.stepState_setStepState _ st (by decide))
  · exact (regs.markerFld st F.markerResultLast).trans fields.2
  · exact (regs.markerFld st F.markerStateWithhold).trans fields.1
  · rw [State.marker_setMarker_same]; exact (same Marker.slips (fun _ => rfl)).trans (congrArg Marker.slips record :)
  · rw [State.marker_setMarker_same]; exact (same Marker.stages (fun _ => rfl)).trans (congrArg Marker.stages record :)
  · exact noted.mem

/-- The record of a step that ends is held while its ring is ACTIVE and the hold ring has room. -/
theorem State.endStep_held (chunks : (s.marker st).chunkWait = []) (qs : (s.marker st).qWait = []) (active : s.ringState (.step (Fin.ofNat 4 (s.partOf st))) = qACTIVE)
    (room : s.holdRing.length < holdRingSize) (alone : s.holdWait = []) : (s.endStep st result norm clip blocks slips sat).holdRing
      = s.holdRing ++ [⟨.step (Fin.ofNat 4 (s.partOf st)), 0, toBytes 64 (s.stepRecord st result norm clip blocks slips sat), false⟩] := by
  have part : (s.closed st result).partOf st = s.partOf st := by
    simp only [State.partOf, State.fld, s.reg_closed st result (n := .tutorSylState) (stands_stack st.isLt) (by decide) (by decide)]
  have ring (p : Fin 4) : (s.closed st result).ringState (.step p) = s.ringState (.step p) := by
    have stands : RegName.Stands .queueStepState 0 p := RegName.stands (by decide) rfl p.isLt
    simp only [State.ringState, State.fld, s.reg_closed st result stands (by decide) (by decide)]
  rw [s.endStep_quiet st result norm clip blocks slips sat chunks qs]
  refine ((s.closed st result).stepRec_held ?_ room alone _).trans ?_
  · rw [part, ring]; exact active
  · rw [part]; rfl

/-- The low word of a step record is the step's number. -/
theorem State.stepRecord_low (opened : s.stepState st ≠ mSCANNING) :
    ofBytes (toBytes 64 (s.stepRecord st result norm clip blocks slips sat)) % 2 ^ 32 = s.reg .markerOpenStep st % 2 ^ 32 := by
  have step : (if s.stepState st == mSCANNING then s.reg .markerArm st else s.reg .markerOpenStep st) = s.reg .markerOpenStep st :=
    if_neg (by simpa using opened)
  rw [ofBytes_toBytes, Nat.mod_mod_of_dvd _ (by decide), State.stepRecord, step]
  omega

end

/-! ## Steps that end without a commit (R252, R255, R258) -/

section
variable (s : State) (st : StackId) (given : s.fld F.markerStateWithhold st = 0) (chunks : (s.marker st).chunkWait = []) (qs : (s.marker st).qWait = [])
include given chunks qs

/-- A step that is discarded with its slips leaves none of them. -/
theorem State.discardStep_spec (result norm clip : Nat) (opened : s.stepState st ≠ mSCANNING) :
    let u := s.discardStep st result norm clip true
    RegsKept (RegName.markerBut [.markerState, .markerResult, .markerSlipPages]) s u ∧ u.stepState st = mIDLE ∧ u.fld F.markerResultLast st = result % 8
      ∧ (∀ sl ∈ (u.marker st).slips, sl.step.toNat ≠ s.reg .markerOpenStep st) ∧ ((s.marker st).slips = [] → (s.marker st).stages = [] → u.mem = s.mem) := by
  have ended := s.endStep_ended st result norm clip 0 0 0 chunks qs
  have dropped : s.discardStep st result norm clip true = (s.endStep st result norm clip 0 0 0).dropSlips st (s.reg .markerOpenStep st) := by
    unfold State.discardStep
    dsimp only
    rw [bne_iff_ne.mpr opened]; rfl
  obtain ⟨regs, gone, mem⟩ := State.dropSlips_spec _ st (ended.given.trans given) (s.reg .markerOpenStep st)
  rw [dropped]
  refine ⟨(ended.regs.markerLess (by simp)).trans (regs.markerLess (by simp)), ?_, ?_, gone, fun slips stages => ?_⟩
  · exact (regs.markerFld st F.markerStateStepState).trans ended.idle
  · exact (regs.markerFld st F.markerResultLast).trans ended.last
  · exact (mem (ended.slips.trans slips) (ended.stages.trans stages)).trans ended.mem

end

/-- A Marker's record without uncommitted applications, of a pool of `total` pages: a slip whose page has been given away takes a free one. -/
def Marker.shadowless (m : Marker) (keep : Bool) (total : Nat) : Marker :=
  (m.slips.filter m.pageFreed).foldl (fun k sl =>
    let page := if m.usedPages.elem sl.page then (k.freePages total).headD total else sl.page
    { k with slips := k.slips.map (fun x => if x == sl then { x with page := page } else x) }) { m with stages := m.stages.map (fun g => g.discard keep) }

/-- What does not look at slips and stages finds the record as it was. -/
theorem Marker.shadowless_same {α : Type} (f : Marker → α) (hf : ∀ (m : Marker) a b, f { m with slips := a, stages := b } = f m) (m : Marker) (keep : Bool)
    (total : Nat) : f (m.shadowless keep total) = f m := by
  unfold Marker.shadowless
  generalize m.slips.filter m.pageFreed = l
  have start : f { m with stages := m.stages.map (fun g => g.discard keep) } = f m := hf m m.slips _
  rw [← start]
  generalize ({ m with stages := m.stages.map (fun g => g.discard keep) } : Marker) = k
  induction l generalizing k with
  | nil => rfl
  | cons sl l ih => exact (ih _).trans (hf k _ k.stages)
theorem Marker.shadowless_of_empty {m : Marker} (slips : m.slips = []) (stages : m.stages = []) (keep : Bool) (total : Nat) : m.shadowless keep total = m := by
  unfold Marker.shadowless
  rw [slips, stages, List.filter_nil, List.foldl_nil, List.map_nil, ← slips, ← stages]

section
variable (s : State) (st : StackId) (keep : Bool)

/-- The uncommitted applications go: the slips that lost their pages are written anew. -/
theorem State.dropShadows_eq : s.dropShadows st keep =
    let m := s.marker st
    let n := m.shadowless keep (s.fld F.markerSlipPagesPages st)
    ((s.setPool st n).each (n.slips.filter (fun sl => (m.slips.filter m.pageFreed).any (fun x => x.index == sl.index && x.step == sl.step))) (fun s sl =>
      s.putSegment st sl.page sl.data 0 sl.data.length)).notePages st := rfl

/-- They leave the registers of the Markers but the count of free pages, and of the Marker's record all but slips and stages; without any, memory too. -/
theorem State.dropShadows_spec :
    RegsKept (RegName.markerBut [.markerSlipPages]) s (s.dropShadows st keep)
      ∧ (s.dropShadows st keep).marker st = (s.marker st).shadowless keep (s.fld F.markerSlipPagesPages st)
      ∧ ((s.marker st).slips = [] → (s.marker st).stages = [] → (s.dropShadows st keep).mem = s.mem) := by
  rw [s.dropShadows_eq st keep]
  dsimp only
  have wrote (l : List Slip) {t : State} : Accessed True t (t.each l (fun s sl => s.putSegment st sl.page sl.data 0 sl.data.length)) :=
    Accessed.refl.each l _ (fun v sl hv => hv.trans (v.putSegment_accessed st _ _ _ _))
  refine ⟨?_, ?_, fun slips stages => ?_⟩
  · exact (((s.setPool_markerKept st _).trans (wrote _).markerKept).markerLess (List.nil_subset _)).trans (State.notePages_markerKept _ st)
  · exact ((wrote _).marker st).trans (s.marker_setPool st _)
  · rw [Marker.shadowless_of_empty slips stages, s.setPool_same st, slips, List.filter_nil]; rfl

end

/-! ## The bytes outside the pool (R257) -/

@[simp] theorem PageHead.bytes_length (h : PageHead) : h.bytes.length = 64 := by simp [PageHead.bytes]

section
variable {s : State} (st : StackId) (idle : s.idleSlices)
include idle

/-- Bytes of a page are written inside the pool. -/
theorem State.putPage_outside (k : Nat) {off : Nat} {data : List Byte} (inside : off + data.length ≤ 2 ^ 20) :
    (s.putPage st k off data).idleSlices ∧ ∀ a, s.outsidePool st a = true → (s.putPage st k off data).byte a = s.byte a := by
  unfold State.putPage
  split
  · next page =>
    refine ⟨(State.memWrite_still (by decide) data false (fun _ _ => idle _)).1.idleSlices idle, fun a out => State.memWrite_outside (by decide) data false idle ?_⟩
    have last : 2 ^ 20 * k + 2 ^ 20 ≤ 2 ^ 20 * s.fld F.markerSlipPagesPages st := by
      rw [← Nat.mul_succ]; exact Nat.mul_le_mul_left _ page
    simp only [State.outsidePool, Bool.or_eq_true, decide_eq_true_eq] at out
    simp only [State.pageAddr]
    omega
  · exact ⟨idle, fun _ _ => rfl⟩

/-- A change of slips and stages writes headers of pages alone. -/
theorem State.setPool_outside (m : Marker) : (s.setPool st m).idleSlices ∧ ∀ a, s.outsidePool st a = true → (s.setPool st m).byte a = s.byte a := by
  let start := s.setMarker st m
  let only (t : State) : Prop := Accessed True start t ∧ t.idleSlices ∧ ∀ a, s.outsidePool st a = true → t.byte a = s.byte a
  have all : only (s.setPool st m) := by
    refine State.each_induct only _ _ _ ⟨.refl, (Still.of_same rfl rfl).idleSlices idle, fun _ _ => rfl⟩ (fun t k ⟨access, quiet, bytes⟩ => ?_)
    split
    · exact ⟨access, quiet, bytes⟩
    · obtain ⟨quiet', bytes'⟩ := State.putPage_outside st quiet k (data := (m.head k).bytes) (off := 0xF0000) (by simp)
      refine ⟨access.trans (t.putPage_accessed st _ _ _), quiet', fun a out => (bytes' a ?_).trans (bytes a out)⟩
      have pool : t.outsidePool st a = start.outsidePool st a := by
        simp only [State.outsidePool, access.markerKept.markerReg st .markerSlip, access.markerKept.markerFld st F.markerSlipPagesPages]
      exact pool.trans out
  exact all.2

end

/-! ## The slips of a step are decided (R258) -/

section
variable (s : State) (st : StackId)

theorem State.countSat_slices (n : Nat) : (s.countSat st n).slices = s.slices ∧ (s.countSat st n).mem = s.mem := by
  unfold State.countSat; split <;> exact ⟨rfl, rfl⟩
/-- The step size of a set is computed without memory. -/
theorem State.stepLr_slices (p : Psd) : (s.stepLr st p).1.slices = s.slices ∧ (s.stepLr st p).1.mem = s.mem := by
  unfold State.stepLr
  dsimp only
  split
  split
  · exact ⟨rfl, rfl⟩
  · exact State.countSat_slices _ st _
/-- It marks its set and counts its saturations, and leaves what has been applied. -/
theorem State.stepLr_applied (p : Psd) : ((s.stepLr st p).1.marker st).applied = (s.marker st).applied := by
  have counted (t : State) (n : Nat) : ((t.countSat st n).marker st).applied = (t.marker st).applied := by
    unfold State.countSat
    split
    · rfl
    · rw [State.marker_setMarker_same]
  unfold State.stepLr
  dsimp only
  split
  split
  · rfl
  · exact (counted _ _).trans (by rw [State.marker_setMarker_same])

/-- What the decision of a step's slips leaves. -/
structure Decided (st : StackId) (s u : State) : Prop where
  regs : RegsKept (RegName.markerBut [.markerSatCount]) s u
  decision : (u.marker st).decision = (s.marker st).decision
  applied : (u.marker st).applied = (s.marker st).applied
  idle : s.idleSlices → u.idleSlices
  bytes : s.idleSlices → ∀ a, s.outsidePool st a = true → u.byte a = s.byte a

theorem State.decideSlips_decided (c : BitVec 32) : Decided st s (s.decideSlips st c) := by
  refine State.each_induct (Decided st s) _ _ _ ⟨.refl _ _, rfl, rfl, id, fun _ _ _ => rfl⟩ (fun t sl ht => ?_)
  split
  · exact ht
  · next p _ =>
    have sized : Applies st t (t.stepLr st p).1 := Applies.refl.stepLr p
    obtain ⟨slices, mem⟩ := t.stepLr_slices st p
    have applied := t.stepLr_applied st p
    generalize t.stepLr st p = r at sized slices mem applied
    obtain ⟨v, lr⟩ := r
    dsimp only
    generalize hm : ({ v.marker st with slips := _ } : Marker) = m
    have pool (idle : s.idleSlices) := State.setPool_outside (s := v) st (fun a => by rw [← ht.idle idle a]; simp only [State.setWaits, State.slice]; rw [slices]) m
    refine ⟨?_, ?_, ?_, fun idle => (pool idle).1, fun idle a out => ?_⟩
    · exact (ht.regs.trans sized.markerKept).trans ((v.setPool_markerKept st m).markerLess (List.nil_subset _))
    · rw [State.marker_setPool, ← hm]
      exact (congrArg Marker.decision sized.marker :).trans ht.decision
    · rw [State.marker_setPool, ← hm]
      exact applied.trans ht.applied
    · have kept := ht.regs.trans sized.markerKept
      have same : v.outsidePool st a = s.outsidePool st a := by
        simp only [State.outsidePool, kept.markerReg st .markerSlip, kept.markerFld st F.markerSlipPagesPages]
      exact ((pool idle).2 a (same.trans out)).trans ((State.byte_of_mem mem a).trans (ht.bytes idle a out))

end

end Sys2Proof.Machine
end

section
/-!
Steps that are decided, committed and abandoned (R231, R250 to R255).
-/
namespace Sys2Proof.Machine
-- Proofs one after the other: each thread of the elaborator claims its whole stack.
set_option Elab.async false

/-! ## ABANDON (R255) -/

theorem exec_abandon (who : Requester) (st : StackId) (s : State) : exec (.abandon who st) s = .next (regCommand s who .markerStepCmd st.val 0 1) := rfl

/-- A write of 1 to STEP_CMD abandons a step that is open or re-run. -/
theorem writePlace_stepCmd {t : State} (who : Requester) {st : StackId} (opened : t.stepState st = mOPEN ∨ t.stepState st = mRERUN) :
    (t.writePlace who ⟨.markerStepCmd, st.val, 0, 0⟩ 1).1 = t.abandonStep st := by
  have e : (t.writePlace who ⟨.markerStepCmd, st.val, 0, 0⟩ 1).1 = (t.takeOr who ⟨.markerStepCmd, st.val, 0, 0⟩ (abandonWrite t (Fin.ofNat 4 st.val))).1 := rfl
  rw [e, Fin.ofNat_val_eq_self]
  unfold abandonWrite
  dsimp only
  rcases opened with h | h <;> rw [h] <;> rfl

section
variable {s : State} {st : StackId} (opened : s.stepState st = mOPEN ∨ s.stepState st = mRERUN)
include opened

/-- A step that is open or re-run does not scan. -/
theorem State.stepState_ne_scanning : s.stepState st ≠ mSCANNING := by
  rcases opened with h | h <;> rw [h] <;> decide

/-- An abandoned step leaves IDLE with RESULT 3 and none of its slips. -/
theorem State.abandonStep_spec (given : s.fld F.markerStateWithhold st = 0) (chunks : (s.marker st).chunkWait = []) (qs : (s.marker st).qWait = []) :
    let u := s.abandonStep st
    u.stepState st = mIDLE ∧ u.fld F.markerResultLast st = 3 ∧ (∀ sl ∈ (u.marker st).slips, sl.step.toNat ≠ s.reg .markerOpenStep st)
      ∧ ((s.marker st).slips = [] → (s.marker st).stages = [] → u.mem = s.mem) := by
  let c := s.bumpSat F.markerOtherDiscardsCount st 0 1
  have counted : RegsKept (RegName.markerBut [.markerOtherDiscards]) s c := (RegsKept.refl _ s).markerSet st .markerOtherDiscards _
  obtain ⟨shadows, record, mem⟩ := c.dropShadows_spec st true
  have kept : RegsKept (RegName.markerBut [.markerOtherDiscards, .markerSlipPages]) s (c.dropShadows st true) :=
    (counted.markerLess (by simp)).trans (shadows.markerLess (by simp))
  have same {α : Type} (f : Marker → α) (hf : ∀ (m : Marker) a b, f { m with slips := a, stages := b } = f m) : f ((c.dropShadows st true).marker st) = f (s.marker st) := by
    rw [record, Marker.shadowless_same f hf]; rfl
  obtain ⟨-, idle, last, gone, still⟩ := State.discardStep_spec (c.dropShadows st true) st ((kept.markerFld st F.markerStateWithhold).trans given)
    ((same Marker.chunkWait (fun _ _ _ => rfl)).trans chunks) ((same Marker.qWait (fun _ _ _ => rfl)).trans qs) 3 0 0
    (by rw [show (c.dropShadows st true).stepState st = s.stepState st from kept.markerFld st F.markerStateStepState]; exact State.stepState_ne_scanning opened)
  refine ⟨idle, last, fun sl hsl => ?_, fun slips stages => ?_⟩
  · rw [← kept.markerReg st .markerOpenStep]
    exact gone sl hsl
  · have empty : (c.dropShadows st true).marker st = s.marker st := by rw [record]; exact Marker.shadowless_of_empty slips stages true _
    exact (still (by rw [empty]; exact slips) (by rw [empty]; exact stages)).trans (mem slips stages)

end

/-- ABANDON ends an open step ABANDONED. -/
theorem abandon_completes (who : Requester) (st : StackId) (s : State) (h : s.reachesReg who .markerStepCmd st.val 0 1 = true)
    (opened : s.stepState st = mOPEN ∨ s.stepState st = mRERUN) (given : s.fld F.markerStateWithhold st = 0) (chunks : (s.marker st).chunkWait = [])
    (qs : (s.marker st).qWait = []) : Completes (.abandon who st) s (fun u =>
      u.stepState st = mIDLE ∧ u.fld F.markerResultLast st = 3 ∧ (∀ sl ∈ (u.marker st).slips, sl.step.toNat ≠ s.reg .markerOpenStep st)
        ∧ ((s.marker st).slips = [] → (s.marker st).stages = [] → u.mem = s.mem)) := by
  refine completes_of_reaches (exec_abandon who st s) (stands_marker st) rfl (by decide) h (fun t ht => ?_)
  have state : t.stepState st = s.stepState st := ht.fld (f := F.markerStateStepState) (stands_marker st)
  have opened' : t.stepState st = mOPEN ∨ t.stepState st = mRERUN := by rw [state]; exact opened
  have record : t.marker st = s.marker st := by rw [State.marker, ht.fields]; rfl
  obtain ⟨idle, last, gone, mem⟩ := State.abandonStep_spec opened' ((ht.fld (f := F.markerStateWithhold) (stands_marker st)).trans given)
    (by rw [record]; exact chunks) (by rw [record]; exact qs)
  rw [record, ht.mem] at mem
  rw [ht.reg (n := .markerOpenStep) (stands_marker st)] at gone
  rw [writePlace_stepCmd who opened']
  exact ⟨idle, last, gone, mem⟩

/-! ## CLIP_RERUN_COMPLETE (R251) -/

/-- The end of the re-run is recorded. -/
theorem clipRerun_completes (st : StackId) (s : State) (rerun : s.stepState st = mRERUN) (going : NatSet.has (s.marker st).firstShadow rerunKey = false)
    (free : (s.marker st).fastBlocks.any (fun p => s.shadowHeld st p) = false) : Completes (.clipRerunComplete st) s (fun u =>
      NatSet.has (u.marker st).firstShadow rerunKey = true ∧ u.stepState st = mRERUN) := by
  let v := s.each (s.marker st).fastBlocks (fun t p => t.applyReady st p (decodeFp32 (s.reg .markerClipFactor st)))
  have applied : Applies st s v := Applies.refl.each _ (fun _ p ht => ht.applyReady p _)
  have done : exec (.clipRerunComplete st) s = .next (v.setMarker st { v.marker st with firstShadow := NatSet.insert (v.marker st).firstShadow rerunKey }) := by
    refine (rfl : exec (.clipRerunComplete st) s = .next (clipRerunComplete s st)).trans (congrArg Host.Outcome.next ?_)
    unfold clipRerunComplete
    dsimp only
    rw [rerun, going, free]
    rfl
  refine ⟨_, done, ?_, (applied.markerKept.markerFld st F.markerStateStepState).trans rerun⟩
  rw [State.marker_setMarker_same]
  exact (NatSet.has_insert _ _ _).trans (by rw [beq_self_eq_true]; rfl)

/-! ## COMMIT_COMPLETE (R253, R254) -/

section
variable (s : State) (st : StackId)

/-- A commit counted, its Homework queued, and a roll check made due (R268, R269). -/
def State.committed (s : State) (st : StackId) : State :=
  let c := (s.bump F.markerCommitsCount st 0 1).queueHomework st ((s.marker st).scan.filter (fun p => NatSet.has (s.marker st).commitWritten p.index))
  if c.fld F.markerRollPeriod st != 0 && c.reg .markerCommittedStep st % c.fld F.markerRollPeriod st == 0 then
    c.setMarker st { c.marker st with rollDue := (c.marker st).rollDue + c.fld F.markerRollBlocks st } else c

/-- Beside the count of commits, only the Markers' records change, and of this Marker's what Homework and the roll check wait for. -/
theorem State.committed_spec : s.committed st = { s.bump F.markerCommitsCount st 0 1 with markers := (s.committed st).markers }
    ∧ ({ (s.committed st).marker st with hwQueue := [], rollDue := 0 } : Marker) = { s.marker st with hwQueue := [], rollDue := 0 } := by
  let b := s.bump F.markerCommitsCount st 0 1
  let only (t : State) : Prop := t = { b with markers := t.markers } ∧ ({ t.marker st with hwQueue := [], rollDue := 0 } : Marker) = { s.marker st with hwQueue := [], rollDue := 0 }
  have record {t : State} (m : Marker) (h : only t) (hm : ({ m with hwQueue := [], rollDue := 0 } : Marker) = { t.marker st with hwQueue := [], rollDue := 0 }) :
      only (t.setMarker st m) := by
    refine ⟨?_, ?_⟩
    · unfold State.setMarker; rw [h.1]
    · rw [State.marker_setMarker_same, hm]; exact h.2
  have queued (l : List Psd) : only (b.queueHomework st l) := by
    refine State.each_induct only _ _ _ ⟨rfl, rfl⟩ (fun t p ht => ?_)
    split
    · exact ht
    · exact record _ ht rfl
  show only (s.committed st)
  unfold State.committed
  dsimp only
  split
  · exact record _ (queued _) rfl
  · exact queued _

/-- The count of commits goes up, and every other register stands. -/
theorem State.committed_regs : RegsKept (fun m a b => (m, a, b) ≠ (.markerCommits, st.val, 0)) s (s.committed st)
    ∧ (s.committed st).reg .markerCommits st = (s.fld F.markerCommitsCount st + 1) % 2 ^ 64 := by
  have regs : (s.committed st).regs = (s.bump F.markerCommitsCount st 0 1).regs := (congrArg State.regs (s.committed_spec st).1 :)
  refine ⟨((RegsKept.refl _ s).setFld (f := F.markerCommitsCount) (s.fld F.markerCommitsCount st + 1) (stands_marker st) (by simp)).trans (.of_regs regs), ?_⟩
  rw [State.reg, regs]
  refine (State.reg_setReg_same s .markerCommits st 0 _).trans ?_
  have whole := bits_putBits_same (s.reg .markerCommits st) 0 64 (s.fld F.markerCommitsCount st + 1)
  rwa [bits, Nat.pow_zero, Nat.div_one] at whole

variable {s} in
theorem commitComplete_eq (committing : s.stepState st = mCOMMITTING) :
    let c := s.committed st
    let done := (s.marker st).scan.filter (fun p => NatSet.has (s.marker st).commitWritten p.index)
    commitComplete s st = (c.endStep st ((s.marker st).decision.getD 0).val (c.reg .markerNorm st) (c.reg .markerClipFactor st) done.length
      (done.filter Psd.slow).length (s.marker st).satStep).releaseStages st := by
  unfold commitComplete
  rw [committing, bne_self_eq_false, if_neg (by decide)]
  rfl

/-- COMMIT_COMPLETE counts the commit, produces the step record and leaves IDLE. -/
theorem commitComplete_completes (committing : s.stepState st = mCOMMITTING) (given : s.fld F.markerStateWithhold st = 0) (chunks : (s.marker st).chunkWait = [])
    (qs : (s.marker st).qWait = []) (active : s.ringState (.step (Fin.ofNat 4 (s.partOf st))) = qACTIVE) (room : s.holdRing.length < holdRingSize)
    (alone : s.holdWait = []) : Completes (.commitComplete st) s (fun u =>
      u.stepState st = mIDLE ∧ u.reg .markerCommits st = (s.fld F.markerCommitsCount st + 1) % 2 ^ 64 ∧ ((s.marker st).stages = [] → u.mem = s.mem)
        ∧ ∃ h, u.holdRing = s.holdRing ++ [h] ∧ h.ring = .step (Fin.ofNat 4 (s.partOf st)) ∧ ofBytes h.bytes % 2 ^ 32 = s.reg .markerOpenStep st % 2 ^ 32) := by
  have e := commitComplete_eq st committing
  obtain ⟨fields, record⟩ := s.committed_spec st
  obtain ⟨counted, commits⟩ := s.committed_regs st
  dsimp only at e
  generalize s.committed st = c at e fields record counted commits
  generalize ((s.marker st).decision.getD 0).val = result at e
  generalize ((s.marker st).scan.filter (fun p => NatSet.has (s.marker st).commitWritten p.index)) = done at e
  have same {α : Type} (f : Marker → α) (hf : ∀ m : Marker, f { m with hwQueue := [], rollDue := 0 } = f m) : f (c.marker st) = f (s.marker st) := by
    rw [← hf, record, hf]
  have chunks' : (c.marker st).chunkWait = [] := (same Marker.chunkWait (fun _ => rfl)).trans chunks
  have qs' : (c.marker st).qWait = [] := (same Marker.qWait (fun _ => rfl)).trans qs
  have part : c.partOf st = s.partOf st := counted.fld (f := F.tutorSylStatePart) (stands_stack st.isLt) (by simp)
  have ring (p : Fin 4) : c.ringState (.step p) = s.ringState (.step p) :=
    counted.fld (f := F.queueStepStateState) (RegName.stands (by decide) rfl p.isLt) (by simp)
  have state : c.stepState st = s.stepState st := counted.fld (f := F.markerStateStepState) (stands_marker st) (by simp)
  have ended := c.endStep_ended st result (c.reg .markerNorm st) (c.reg .markerClipFactor st) done.length (done.filter Psd.slow).length (s.marker st).satStep chunks' qs'
  have held := c.endStep_held st result (c.reg .markerNorm st) (c.reg .markerClipFactor st) done.length (done.filter Psd.slow).length (s.marker st).satStep chunks' qs'
    (by rw [part, ring]; exact active) (by rw [fields]; exact room) (by rw [fields]; exact alone)
  rw [show c.holdRing = s.holdRing by rw [fields]; rfl, part] at held
  have low := c.stepRecord_low st result (c.reg .markerNorm st) (c.reg .markerClipFactor st) done.length (done.filter Psd.slow).length (s.marker st).satStep
    (by rw [state, committing]; decide)
  generalize c.endStep st _ _ _ _ _ _ = u at e ended held
  obtain ⟨regs, -, holds, mem⟩ := u.releaseStages_spec st (ended.given.trans ((counted.fld (f := F.markerStateWithhold) (stands_marker st) (by simp)).trans given))
  refine ⟨_, (rfl : exec (.commitComplete st) s = .next (commitComplete s st)), ?_⟩
  rw [e]
  refine ⟨(regs.markerFld st F.markerStateStepState).trans ended.idle, ?_, fun empty => ?_, _, holds.trans held, rfl, ?_⟩
  · exact (regs.markerReg st .markerCommits).trans ((ended.regs.markerReg st .markerCommits).trans commits)
  · refine (mem (ended.stages.trans ((same Marker.stages (fun _ => rfl)).trans empty))).trans (ended.mem.trans ?_)
    rw [fields]; rfl
  · rw [low, counted .markerOpenStep st 0 (stands_marker st) (by simp)]

end

/-! ## STEP_DECISION (R251, R252) -/

/-- Whether Q discards the step: it is NaN, infinite or negative. -/
def qDiscards (q : LxValue) : Bool := match q.read with | .zero _ => false | .num n _ => n | _ => true

/-- NORM and CLIP_FACTOR of a decision. -/
def State.showNorm (s : State) (st norm clip : Nat) : State := (s.setReg .markerNorm st 0 norm).setReg .markerClipFactor st 0 clip

/-- The clip factor of a step whose norm lies above the threshold, as FP32 holds it. -/
def clipFactor (tau qv : Val) : Nat := fp32Code ((rn ((tau.mul tau).div qv).sqrt).run 0).1

section
variable {s : State} {st : StackId} {q : LxValue} (kept : (s.marker st).q = some q) (opened : s.stepState st = mOPEN)
  (undecided : (s.marker st).decision = none) (whole : s.reg .markerArrived st = s.reg .markerExpected st)
include kept opened undecided whole

/-- A decision by Q: the step is discarded, re-run, or stands. -/
theorem stepDecision_eq : stepDecision s st =
    let m := s.marker st
    let tau := decodeFp32 m.clip.toNat
    let norm := fp32Code ((rnSqrt q.read).run 0).1
    if qDiscards q then ((s.showNorm st 0x7FC00000 0x7FC00000).bumpSat F.markerNonfiniteCount st 0 1).discardStep st 2 0x7FC00000 0x7FC00000 true
    else if (tau.mul tau).lt q.read then
      ((((s.showNorm st norm (clipFactor tau q.read)).bumpSat F.markerClipRerunsCount st 0 1).setMarker st { m with
        decision := some 1, applied := [], satStep := 0, firstShadow := m.firstShadow.filter (fun k => decide (2 ^ 17 ≤ k)) }).decideSlips st
          (BitVec.ofNat 32 (clipFactor tau q.read))).setStepState st mRERUN
    else ((s.showNorm st norm 0x3F800000).setMarker st { m with decision := some 0 }).decideSlips st 0x3F800000#32 := by
  unfold stepDecision
  dsimp only
  rw [kept]
  dsimp only
  rw [opened, undecided, whole, bne_self_eq_false, bne_self_eq_false, if_neg (by decide)]
  rfl

section
variable (given : s.fld F.markerStateWithhold st = 0) (chunks : (s.marker st).chunkWait = []) (qs : (s.marker st).qWait = [])
include given chunks qs

/-- A Q that is not finite and 0 or above discards the step. -/
theorem stepDecision_discards (bad : qDiscards q = true) : Completes (.stepDecision st) s (fun u => u.stepState st = mIDLE ∧ u.fld F.markerResultLast st = 2
    ∧ u.reg .markerNorm st = 0x7FC00000 ∧ u.fld F.markerNonfiniteCount st = min (s.fld F.markerNonfiniteCount st + 1) (2 ^ 32 - 1)) := by
  let v := (s.showNorm st 0x7FC00000 0x7FC00000).bumpSat F.markerNonfiniteCount st 0 1
  have shown : RegsKept (RegName.markerBut [.markerNorm, .markerClipFactor]) s (s.showNorm st 0x7FC00000 0x7FC00000) :=
    ((RegsKept.refl _ s).markerSet st .markerNorm _).markerSet st .markerClipFactor _
  have norm : (s.showNorm st 0x7FC00000 0x7FC00000).reg .markerNorm st = 0x7FC00000 :=
    (State.reg_setReg_stands _ (stands_marker st) (stands_marker st) (by simp)).trans (State.reg_setReg_same _ _ _ _ _)
  have counted : RegsKept (RegName.markerBut [.markerNonfinite]) (s.showNorm st 0x7FC00000 0x7FC00000) v := (RegsKept.refl _ _).markerSet st .markerNonfinite _
  have before : RegsKept (RegName.markerBut [.markerNorm, .markerClipFactor, .markerNonfinite]) s v := (shown.markerLess (by simp)).trans (counted.markerLess (by simp))
  have open' : v.stepState st = mOPEN := (before.markerFld st F.markerStateStepState).trans opened
  obtain ⟨regs, idle, last, -⟩ := v.discardStep_spec st ((before.markerFld st F.markerStateWithhold).trans given) chunks qs 2 0x7FC00000 0x7FC00000
    (by rw [open']; decide)
  refine ⟨v.discardStep st 2 0x7FC00000 0x7FC00000 true, ?_, idle, last, (regs.markerReg st .markerNorm).trans ((counted.markerReg st .markerNorm).trans norm), ?_⟩
  · refine (rfl : exec (.stepDecision st) s = .next (stepDecision s st)).trans (congrArg Host.Outcome.next ((stepDecision_eq kept opened undecided whole).trans ?_))
    exact if_pos bad
  · refine (regs.markerFld st F.markerNonfiniteCount).trans ((State.fld_bumpSat_same (by decide) _ _ _ _).trans ?_)
    rw [shown.markerFld st F.markerNonfiniteCount]

end

variable (good : qDiscards q = false) (idle : s.noWaits = true)
include good idle

/-- A norm above the threshold re-runs the step. -/
theorem stepDecision_reruns (above : ((decodeFp32 (s.marker st).clip.toNat).mul (decodeFp32 (s.marker st).clip.toNat)).lt q.read = true) :
    Completes (.stepDecision st) s (fun u => u.stepState st = mRERUN ∧ (u.marker st).decision = some 1 ∧ (u.marker st).applied = []
      ∧ ∀ a, s.outsidePool st a = true → u.byte a = s.byte a) := by
  have decided := ((stepDecision_eq kept opened undecided whole).trans (if_neg (by rw [good]; decide))).trans (if_pos above)
  generalize clipFactor (decodeFp32 (s.marker st).clip.toNat) q.read = c at decided
  generalize fp32Code ((rnSqrt q.read).run 0).1 = norm at decided
  let w := (s.showNorm st norm c).bumpSat F.markerClipRerunsCount st 0 1
  generalize hm : ({ s.marker st with
    decision := some 1, applied := [], satStep := 0, firstShadow := (s.marker st).firstShadow.filter (fun k => decide (2 ^ 17 ≤ k)) } : Marker) = m at decided
  have counted : RegsKept (RegName.markerBut [.markerNorm, .markerClipFactor, .markerClipReruns]) s w :=
    (((RegsKept.refl _ s).markerSet st .markerNorm _).markerSet st .markerClipFactor _).markerSet st .markerClipReruns _
  have shown := counted.trans (.of_regs (State.setMarker_regs w st m))
  have slips : Decided st (w.setMarker st m) ((w.setMarker st m).decideSlips st (BitVec.ofNat 32 c)) := State.decideSlips_decided _ st _
  have record := State.marker_setMarker_same w st m
  refine ⟨((w.setMarker st m).decideSlips st (BitVec.ofNat 32 c)).setStepState st mRERUN, ?_, ?_, ?_, ?_, fun a out => ?_⟩
  · exact (rfl : exec (.stepDecision st) s = .next (stepDecision s st)).trans (congrArg Host.Outcome.next decided)
  · exact State.stepState_setStepState _ st (by decide)
  · exact slips.decision.trans (by rw [record, ← hm])
  · exact slips.applied.trans (by rw [record, ← hm])
  · refine slips.bytes (State.idleSlices_of_noWaits idle) a (Eq.trans ?_ out)
    simp only [State.outsidePool, shown.markerReg st .markerSlip, shown.markerFld st F.markerSlipPagesPages]

/-- Any other step stands. -/
theorem stepDecision_stands (below : ((decodeFp32 (s.marker st).clip.toNat).mul (decodeFp32 (s.marker st).clip.toNat)).lt q.read = false) :
    Completes (.stepDecision st) s (fun u => u.stepState st = mOPEN ∧ (u.marker st).decision = some 0 ∧ u.reg .markerClipFactor st = 0x3F800000
      ∧ ∀ a, s.outsidePool st a = true → u.byte a = s.byte a) := by
  have decided := ((stepDecision_eq kept opened undecided whole).trans (if_neg (by rw [good]; decide))).trans (if_neg (by rw [below]; decide))
  generalize fp32Code ((rnSqrt q.read).run 0).1 = norm at decided
  let v := (s.showNorm st norm 0x3F800000).setMarker st { s.marker st with decision := some 0 }
  have shown : RegsKept (RegName.markerBut [.markerNorm, .markerClipFactor]) s v := ((RegsKept.refl _ s).markerSet st .markerNorm _).markerSet st .markerClipFactor _
  have slips : Decided st v (v.decideSlips st 0x3F800000#32) := v.decideSlips_decided st _
  refine ⟨v.decideSlips st 0x3F800000#32, ?_, ?_, ?_, ?_, fun a out => ?_⟩
  · exact (rfl : exec (.stepDecision st) s = .next (stepDecision s st)).trans (congrArg Host.Outcome.next decided)
  · exact (slips.regs.markerFld st F.markerStateStepState).trans ((shown.markerFld st F.markerStateStepState).trans opened)
  · exact slips.decision.trans (congrArg Marker.decision (State.marker_setMarker_same (s.showNorm st norm 0x3F800000) st _) :)
  · exact (slips.regs.markerReg st .markerClipFactor).trans (State.reg_setReg_same (s.setReg .markerNorm st 0 norm) .markerClipFactor st 0 0x3F800000)
  · refine slips.bytes (State.idleSlices_of_noWaits idle) a (Eq.trans ?_ out)
    simp only [State.outsidePool, shown.markerReg st .markerSlip, shown.markerFld st F.markerSlipPagesPages]

end

/-! ## MARKER_COMMIT (R231, R253) -/

section
variable {s : State} {st : StackId} {p : Psd} (ready : s.commitReady st = true) (one : (s.marker st).scan = [p]) (trained : p.trained = true) (fast : p.slow = false)
include ready one trained fast

/-- The commit of a step of one block that is not slow. -/
theorem markerCommit_eq :
    let c := s.setStepState st mCOMMITTING
    let w := c.writeWord0 st p.index (committedWord0 (c.psdWord0 st p.index) p.vslots (s.reg .markerOpenStep st))
    markerCommit s st = (w.setMarker st { w.marker st with commitWritten := NatSet.insert (w.marker st).commitWritten p.index }).setReg .markerCommittedStep st 0
      (s.reg .markerOpenStep st) := by
  unfold markerCommit
  rw [ready, if_neg (by decide)]
  dsimp only
  rw [one, State.each, List.foldl_cons, List.foldl_nil, fast, trained, if_neg (by decide), if_pos rfl]

/-- MARKER_COMMIT writes word 0 of the block and COMMITTED_STEP, and no other byte. -/
theorem markerCommit_completes (aligned : s.psdAt st p.index % 8 = 0) (stays : s.discards (s.psdAt st p.index) = false)
    (free : s.setWaits (s.psdAt st p.index) = false) : Completes (.markerCommit st) s (fun u => u.stepState st = mCOMMITTING ∧
      u.reg .markerCommittedStep st = s.reg .markerOpenStep st % 2 ^ 32
      ∧ u.psdWord0 st p.index = committedWord0 (s.psdWord0 st p.index) p.vslots (s.reg .markerOpenStep st) % 2 ^ 64
      ∧ ∀ a, (a < s.psdAt st p.index ∨ s.psdAt st p.index + 8 ≤ a) → u.byte a = s.byte a) := by
  let c := s.setStepState st mCOMMITTING
  let v := committedWord0 (s.psdWord0 st p.index) p.vslots (s.reg .markerOpenStep st)
  let w := c.memWrite 5 (s.psdAt st p.index) (toBytes 8 v) false
  have state : RegsKept (fun m _ _ => m ≠ .markerState) s c := (RegsKept.refl _ s).setReg _ (stands_marker st) (by simp)
  have table : c.psdAt st p.index = s.psdAt st p.index := by rw [State.psdAt, state .psdTable st 0 (stands_stack st.isLt) (by simp)]; rfl
  have word0 : c.psdWord0 st p.index = s.psdWord0 st p.index := by rw [State.psdWord0, table]; rfl
  have channel : c.fld F.sliceConfigChannelFailed (homeSlice (s.psdAt st p.index)) = s.fld F.sliceConfigChannelFailed (homeSlice (s.psdAt st p.index)) :=
    state.fld (stands_slice (homeSlice_lt _)) (by simp)
  have stays' : c.discards (s.psdAt st p.index) = false := by rw [← stays, State.discards, channel]; rfl
  obtain ⟨word, others⟩ := State.memWrite_word (s := c) (cls := 5) (by decide) aligned free stays' v
  have access : Accessed True c w := Accessed.refl.writeServing _ _ _ _
  have wrote : c.writeWord0 st p.index (committedWord0 (c.psdWord0 st p.index) p.vslots (s.reg .markerOpenStep st)) = w := by rw [State.writeWord0, table, word0]
  have e := markerCommit_eq ready one trained fast
  dsimp only at e
  rw [wrote] at e
  refine ⟨_, (rfl : exec (.markerCommit st) s = .next (markerCommit s st)).trans (congrArg Host.Outcome.next e), ?_, State.reg_setReg_same _ _ _ _ _, ?_, others⟩
  · refine (State.fld_setReg_stands (g := F.markerStateStepState) _ _ (stands_marker st) (stands_marker st) (by simp)).trans ?_
    exact (access.markerKept.markerFld st F.markerStateStepState).trans (s.stepState_setStepState st (by decide))
  · have table' : w.reg .psdTable st = s.reg .psdTable st :=
      (access.regsKept .psdTable st 0 (stands_stack st.isLt) ⟨rfl, fun _ => (RegName.addr_lt (n := .psdTable) st.isLt).trans_le (by decide)⟩).trans
        (state .psdTable st 0 (stands_stack st.isLt) (by simp))
    have unmoved : ((w.setMarker st { w.marker st with commitWritten := NatSet.insert (w.marker st).commitWritten p.index }).setReg .markerCommittedStep st 0
        (s.reg .markerOpenStep st)).psdAt st p.index = s.psdAt st p.index := by
      rw [State.psdAt, State.reg_setReg_stands _ (stands_marker st) (stands_stack st.isLt) (by simp), State.psdAt, ← table']; rfl
    rw [State.psdWord0, unmoved]
    exact word

end

/-- Settles O38: a decision by the three cases of Q (`stepDecision_eq`), the end of a re-run, the commit of one block's word 0 and its end with the step record, and an ABANDON; what a step's end and its pool leave is `State.endStep_ended`, `State.dropSlips_spec` and `State.dropShadows_spec`. -/
theorem stepsDecideAndCommit : Obligations.StepsDecideAndCommit := by
  refine ⟨?_, clipRerun_completes, ?_, ?_, abandon_completes⟩
  · intro st q s kept opened undecided whole given chunks qs idle
    exact ⟨stepDecision_discards kept opened undecided whole given chunks qs, fun good =>
      ⟨stepDecision_reruns kept opened undecided whole good idle, stepDecision_stands kept opened undecided whole good idle⟩⟩
  · exact fun st p s ready one trained fast aligned stays free => markerCommit_completes ready one trained fast aligned stays free
  · exact fun st s committing given chunks qs active room alone => commitComplete_completes s st committing given chunks qs active room alone

end Sys2Proof.Machine
end

section
/-!
The application of a late slip over its own PSD entry (R233, R260), and what the issue of requests leaves of those held (R303, R308).
-/
namespace Sys2Proof.Machine
-- Proofs one after the other: each thread of the elaborator claims its whole stack.
set_option Elab.async false

/-! ## What the issue of a request leaves of those that are held (R303, R308) -/

theorem Accessed.heldReqs {s u : State} (h : Accessed True s u) : u.heldReqs = s.heldReqs := by rw [h.fields]
theorem Accessed.reduceServing {s u : State} (h : Accessed True s u) (cls a size csize : Nat) (xs : List Nat) : Accessed True s (u.memReduce cls a size csize xs) := by
  refine h.each _ _ (fun t pc ht => ?_)
  dsimp only
  cases hr : (t.turn pc.1).reduceInts cls pc.1 size csize pc.2 false with
  | none => exact ht.turn pc.1
  | some v => exact (ht.turn pc.1).reduceInts cls pc.1 false size csize pc.2 hr

section
variable (s : State)

theorem State.logError_heldReqs (b : Block) (inst cls code d0 d1 : Nat) : (s.logError b inst cls code d0 d1).heldReqs = s.heldReqs := by rw [State.logError_fields]
theorem State.countHallway_heldReqs (src dst n : Nat) : (s.countHallway src dst n).heldReqs = s.heldReqs := (Accessed.refl.countHallway src dst n).heldReqs

/-! ### Performing an operation -/

theorem State.notify_heldReqs (st rec' : Nat) : (s.notify st rec').1.heldReqs = s.heldReqs := by
  have read (a : Nat) : (s.readFrom st 6 a 8).1.heldReqs = s.heldReqs := by
    rcases s.readFrom_accessed st 6 a 8 with e | k
    · rw [e]
    · exact k.heldReqs
  unfold State.notify
  dsimp only
  split
  · exact read _
  · exact (State.writeFrom_accessed _ _ _ _ _ _).heldReqs.trans (read _)
theorem State.performStore_heldReqs (note : Bool) (a : Nat) (m : FabReq) : (s.performStore note a m).1.heldReqs = s.heldReqs := by
  unfold State.performStore
  split
  · exact (Accessed.refl.recordDiscard a).heldReqs
  · have stored : Accessed True s (s.fabStore a (m.data.take (reqBytes m.len)) m.poison) := Accessed.refl.each _ _ (fun _ _ h => h.writeServing _ _ _ _)
    refine Eq.trans ?_ stored.heldReqs
    show (State.noteStore _ note a m).1.heldReqs = _
    unfold State.noteStore
    split
    · exact State.notify_heldReqs _ _ _
    · rfl
theorem State.performReduce_heldReqs (op : FabOp) (a : Nat) (m : FabReq) : (s.performReduce op a m).1.heldReqs = s.heldReqs := by
  unfold State.performReduce
  split
  · exact (Accessed.refl.recordDiscard a).heldReqs
  · have added : Accessed True s (s.fxReduce op a (reqBytes m.len) m.data) := by
      unfold State.fxReduce
      split <;> exact Accessed.refl.reduceServing _ _ _ _ _
    exact (added.each _ _ (fun _ _ h => h.poison _)).heldReqs
theorem State.performAtomic_heldReqs (op : FabOp) (a : Nat) (m : FabReq) : (s.performAtomic op a m).1.heldReqs = s.heldReqs := by
  have access : Accessed True s (((s.turn a).sectorAccess a 6 .part false).getD (s.turn a)) := by
    cases h : (s.turn a).sectorAccess a 6 .part false with
    | none => exact Accessed.refl.turn a
    | some t => exact (Accessed.refl.turn a).sectorAccess (.inr trivial) .part false h
  unfold State.performAtomic
  dsimp only
  split
  · exact (Accessed.refl.recordDiscard a).heldReqs
  · split
    · rfl
    · split
      · exact access.heldReqs
      · exact (access.setBytes _ _).heldReqs
theorem State.perform_heldReqs (op : FabOp) (a : Nat) (m : FabReq) : (s.perform op a m).1.heldReqs = s.heldReqs := by
  unfold State.perform
  cases op with
  | load => exact (Accessed.refl.readServing 6 a (reqBytes m.len)).heldReqs
  | store | storeNotify => exact State.performStore_heldReqs _ _ _ _
  | fxadd32 | fxadd64 | fxadd32to64 => exact State.performReduce_heldReqs _ _ _ _
  | add64 | min64 | max64 | swap64 | cas64 | add128 | min128 | max128 | swap128 | cas128 => exact State.performAtomic_heldReqs _ _ _ _

/-! ### Completing a transaction -/

theorem State.failInstance_heldReqs (st coll : Nat) (step : BitVec 32) (status : Nat) : (s.failInstance st coll step status).heldReqs = s.heldReqs := by
  unfold State.failInstance
  dsimp only
  split
  · exact State.logError_heldReqs _ _ _ _ _ _ _
  · rfl
theorem State.packetDone_heldReqs (st coll : Nat) (step : BitVec 32) (status : Nat) : (s.packetDone st coll step status).heldReqs = s.heldReqs := by
  unfold State.packetDone
  dsimp only
  split
  · rfl
  · exact State.each_induct (fun t => t.heldReqs = s.heldReqs) _ _ _ rfl (fun t i ht => (t.failInstance_heldReqs _ _ _ _).trans ht)
theorem State.countStatus_heldReqs (st addr status : Nat) : (s.countStatus st addr status).heldReqs = s.heldReqs := by
  unfold State.countStatus
  split
  · rfl
  · refine (State.logError_heldReqs _ _ _ _ _ _ _).trans ?_
    split <;> rfl
theorem State.finishTrans_heldReqs (st : Nat) (by' : Initiator) (addr : Nat) (coll : Option (BitVec 10 × BitVec 32)) (r : Answer) :
    (s.finishTrans st by' addr coll r).heldReqs = s.heldReqs := by
  unfold State.finishTrans
  dsimp only
  split
  · exact (State.packetDone_heldReqs _ _ _ _ _).trans (s.countStatus_heldReqs _ _ _)
  · exact s.countStatus_heldReqs _ _ _
theorem State.sinkTid_heldReqs (tid : Nat) (r : Answer) : (s.sinkTid tid r).heldReqs = s.heldReqs := by
  unfold State.sinkTid
  split
  · rfl
  · exact (State.finishTrans_heldReqs _ _ _ _ _ _).trans rfl
theorem State.portSend_heldReqs (p : Nat) (vc : Fin 4) (m : FabMsg) : (s.portSend p vc m).heldReqs = s.heldReqs := by
  unfold State.portSend
  split <;> rfl

/-! ### The issue -/

/-- A request that is looped back holds none and takes none of those held. -/
theorem inbound_loop_heldReqs (st : StackId) (op : FabOp) (m : FabReq) : (inbound s (.loop st) op m).heldReqs = s.heldReqs := by
  unfold inbound
  dsimp only
  split
  · exact s.sinkTid_heldReqs _ _
  · refine (State.sinkTid_heldReqs _ _ _).trans ((State.countHallway_heldReqs _ _ _ _).trans ?_)
    exact (State.perform_heldReqs _ _ _ _).trans (s.countHallway_heldReqs _ _ _)
theorem State.issueNow_heldReqs (st : StackId) (r : FabIssue) : (s.issueNow st r).heldReqs = s.heldReqs := by
  have failed (t : State) (status : Nat) (h : t.heldReqs = s.heldReqs) : (t.finishTrans st.val r.by' r.addr.toNat none (status, [], 0)).heldReqs = s.heldReqs :=
    (t.finishTrans_heldReqs _ _ _ _ _).trans h
  unfold State.issueNow
  dsimp only
  split
  · rfl
  · split
    · exact failed _ _ rfl
    · split
      · exact (inbound_loop_heldReqs _ _ _ _).trans rfl
      · split
        · exact failed _ _ rfl
        · split
          · exact failed _ _ rfl
          · split
            · exact failed _ _ rfl
            · split
              · exact (State.portSend_heldReqs _ _ _ _).trans ((State.countHallway_heldReqs _ _ _ _).trans rfl)
              · exact failed _ _ rfl

/-- A retry holds no request that was not held. -/
theorem State.retryHeld_subset : ∀ h ∈ s.retryHeld.heldReqs, h ∈ s.heldReqs := by
  refine State.each_keeps (fun t => ∀ h ∈ t.heldReqs, h ∈ s.heldReqs) (fun _ h => absurd h (by simp)) (fun t k hk ht => ?_)
  split
  · intro h hh
    rcases List.mem_append.mp hh with old | new
    · exact ht h old
    · rw [List.mem_singleton.mp new]; exact hk
  · rw [State.issueNow_heldReqs]; exact ht

/-- Where a request of an initiator is still held after it issued one that R298 supports, that one is held too. -/
theorem fabricRequestIssue_held {st : StackId} {r : FabIssue} (shape : reqShape r.op r.len (bits r.addr.toNat 0 48) = true) {k : HeldReq}
    (held : k ∈ (fabricRequestIssue s st r).heldReqs) (stack : k.st = st) (by' : k.req.by' = r.by') : ⟨st, r⟩ ∈ (fabricRequestIssue s st r).heldReqs := by
  unfold fabricRequestIssue at held ⊢
  rw [shape, if_neg (by decide)] at held ⊢
  split at held
  · next wait => rw [if_pos wait]; exact List.mem_append_right _ (List.mem_singleton.mpr rfl)
  · next wait =>
    have old := State.retryHeld_subset _ k held
    rw [State.issueNow_heldReqs] at old
    refine absurd (List.any_eq_true.mpr ⟨k, old, ?_⟩) (fun any => wait (by rw [any, Bool.or_true]))
    rw [stack, by']
    simp

end

/-! ## A shadow slot over word 0 of its own PSD entry -/

/-- A slow block of one element, whose STATE names a line of seat 0 and whose version slots begin one line below its PSD entry. -/
def slotBlock : Psd := ⟨0, [0, BitVec.ofNat 64 (1 + 4 + 2 * 2 ^ 12), 0, 0, 0x60000000, 0x70000000, 0x78000000, 0]⟩
/-- Its stage, which has been fetched. -/
def slotStage : SlipStage := ⟨0, true, [], none, 0, false, false, false, (0, 0), 0, none, false⟩
/-- Its slip, which is due and decided. -/
def slotSlip : Slip := ⟨0, 0, 0, 0, [5], some (0x3F800000, 0)⟩
/-- A request of the Marker that is held. -/
def heldStore : HeldReq := ⟨0, ⟨.marker, .store, 0, 15, false, [], 0, 0⟩⟩
/-- Seat 5 in an open step 1: the PSD lies in the block's second version slot, and SSEL is 1. -/
def slotState : State :=
  (((({ State.reset with markers := [(0, { Marker.init with scan := [slotBlock], stages := [slotStage], slips := [slotSlip] })], heldReqs := [heldStore] }.setFld
    F.markerStateStepState 0 0 mOPEN).setReg .psdTable 0 0 0x70000080).setReg .markerOpenStep 0 0 1).setReg .fabricSeat 0 0 5).setByte 0x70000080 8

/-- The last request of a run for a half, where the Marker has one held afterwards: it is held itself. -/
theorem State.slowRequests_last (s : State) (st : StackId) (op : FabOp) (a n : Nat) (data : List Byte) (bad : Bool) {k : Nat} (count : (n + 127) / 128 = k + 1)
    (shape : reqShape op 15 (bits (BitVec.ofNat 64 (a + 128 * k)).toNat 0 48) = true) {h : HeldReq} (held : h ∈ (s.slowRequests st op a n data bad).heldReqs)
    (stack : h.st = st) (by' : h.req.by' = .marker) : ∃ r ∈ (s.slowRequests st op a n data bad).heldReqs, r.req.addr = BitVec.ofNat 64 (a + 128 * k) := by
  unfold State.slowRequests at held ⊢
  rw [count, List.range_succ, State.each, List.foldl_append, List.foldl_cons, List.foldl_nil] at held ⊢
  exact ⟨_, fabricRequestIssue_held _ shape held stack by', rfl⟩

/-- What the application is given: the slip is due, and its half is written to another seat. -/
theorem slotState_due : (slotState.marker 0).stages.find? (fun g => g.index == (0 : BitVec 17).toNat) = some slotStage ∧ slotState.scanned 0 (0 : BitVec 17).toNat = some slotBlock
    ∧ slotState.dueSlip 0 slotBlock slotStage = some slotSlip ∧ slotState.stepState 0 = mOPEN ∧ slotState.shadowHeld 0 slotBlock = false
    ∧ (slotState.markerReads 0 (slotState.slipRuns 0 slotBlock slotStage slotSlip)).2 = false ∧ slotState.ownSeat slotBlock = false := by decide +kernel
/-- The other half is half 0 before the slip is applied. -/
theorem slotState_half : slotState.slowHalf 0 slotBlock true = 0x60000000 := by decide +kernel
/-- The half that the slip gives has two lines. -/
theorem slotState_lines :
    let r := (applyBlock slotBlock (slotState.hpOf 0 slotBlock) (decodeFp32 (0 : BitVec 32).toNat) (decodeFp32 (0x3F800000 : BitVec 32).toNat) slotSlip.e (slotState.seedOf (0 : StackId))
      slotSlip.step (fun off n => (slotStage.state.drop off).take n) (slotState.bytes slotBlock.pre slotBlock.preSize) slotSlip.data).run 0
    ((overlay slotStage.state r.1.1).length + 127) / 128 = 1 + 1 := by decide +kernel
/-- The shadow slot's zeros clear SSEL, and the STOREs that are held name half 1. -/
theorem slipApply_slotState_held : (slipApply slotState 0 (0 : BitVec 17).toNat).heldReqs.map (fun h => h.req.addr) = [0, 0x60000180, 0x60000200]
    ∧ heldStore ∈ (slipApply slotState 0 (0 : BitVec 17).toNat).heldReqs := by decide +kernel

theorem exec_slipApply {st : StackId} {i : BitVec 17} {s u : State} (h : exec (.slipApply st i) s = .next u) : u = slipApply s st i.toNat := (Host.Outcome.next.inj h).symm

/-- Refutes O39: SLIP_APPLY is said to send the half to the address that SSEL gives before the application. Nothing keeps a block's version slots clear of the PSD:
in `slotState` the shadow slot lies over the block's own entry, its zeros clear SSEL, and the STOREs go to the other half (`slipApply_slotState_held`), to addresses that no run
of requests for the stated half can leave held (`State.slowRequests_last`). -/
theorem not_lateSlipsAreApplied : ¬ Obligations.LateSlipsAreApplied := by
  rintro ⟨-, apply, -⟩
  obtain ⟨stage, entry, due, opened, free, clean, away⟩ := slotState_due
  obtain ⟨u, hu, v, sent, -⟩ := apply 0 0 slotState slotStage slotBlock slotSlip 0x3F800000 0 stage entry due rfl (.inl opened) rfl rfl free clean
  obtain ⟨addresses, held⟩ := slipApply_slotState_held
  rw [← exec_slipApply hu] at addresses held
  rw [away, if_neg (by decide), slotState_half] at sent
  rw [sent] at held
  obtain ⟨r, mem, addr⟩ := v.slowRequests_last 0 .store 0x60000000 _ _ false slotState_lines (by decide) held rfl rfl
  rw [← sent] at mem
  have listed : r.req.addr ∈ u.heldReqs.map (fun h => h.req.addr) := List.mem_map_of_mem mem
  rw [addresses, addr] at listed
  exact absurd listed (by decide)

end Sys2Proof.Machine
end

section
/-!
SUPPORT. What reads and writes of units leave while nothing waits: the Hallway links' states, and of reads all but counters and lines (R206, R217, R220).
-/
namespace Sys2Proof.Machine
-- Proofs one after the other: each thread of the elaborator claims its whole stack.
set_option Elab.async false

/-! ## The states of the Hallway links after an access (R206, R217, R220) -/

/-- No Hallway link has changed its state. -/
def HallwayKept (s u : State) : Prop := RegsKept (fun m _ _ => m = .hallwayState) s u

section
variable {s t u : State}

theorem HallwayKept.refl (s : State) : HallwayKept s s := RegsKept.refl _ s
theorem HallwayKept.trans (h : HallwayKept s t) (k : HallwayKept t u) : HallwayKept s u := RegsKept.trans h k
theorem HallwayKept.same (h : HallwayKept s t) (regs : u.regs = t.regs) : HallwayKept s u := h.trans (RegsKept.of_regs regs)
theorem HallwayKept.ite (h : HallwayKept s t) (k : HallwayKept s u) (p : Prop) [Decidable p] : HallwayKept s (if p then t else u) := by split <;> assumption

variable (h : HallwayKept s u)
include h

theorem HallwayKept.slice (n : Nat) (v : Slice) : HallwayKept s (u.setSlice n v) := h.same rfl
theorem HallwayKept.poison (l : NatSet) : HallwayKept s { u with poison := l } := h.same rfl
theorem HallwayKept.hidden (l : NatSet) : HallwayKept s { u with hidden := l } := h.same rfl
theorem HallwayKept.arrayErr (l : Tab Nat) : HallwayKept s { u with arrayErr := l } := h.same rfl
theorem HallwayKept.hbmErr (l : Tab Nat) : HallwayKept s { u with hbmErr := l } := h.same rfl
theorem HallwayKept.each {α : Type} (l : List α) {f : State → α → State} (hf : ∀ t a, HallwayKept s t → HallwayKept s (f t a)) : HallwayKept s (u.each l f) :=
  State.each_induct _ l f u h hf
theorem HallwayKept.fld {f : RegField} {i j : Nat} (hs : f.reg.Stands i j) (v : Nat) (hb : f.reg ≠ .hallwayState := by decide) : HallwayKept s (u.setFld f i j v) :=
  RegsKept.setFld h v hs hb
theorem HallwayKept.log (b : Block) (inst cls code d0 d1 : Nat) (hc : cls < 4) : HallwayKept s (u.logError b inst cls code d0 d1) :=
  h.trans ((u.logError_keeps b inst cls code d0 d1 hc).mono (fun _ _ _ hm => by subst hm; decide))

section
variable (a : Nat)

theorem HallwayKept.hbmCheck : HallwayKept s (u.hbmCheck a) := by
  have hbm {n : RegName} (hb : n.block = .hbm) (hj : 0 < n.desc.count) : n.Stands (hbmOf (homeSlice a)) 0 := stands_hbmOf (homeSlice_lt a) hb hj
  unfold State.hbmCheck
  dsimp only
  split_ifs
  · exact h.hbmErr _
  · exact (h.hbmErr _).fld (f := F.hbmCorrectedCount) (hbm rfl (by decide)) _
  · exact (((h.hbmErr _).poison _).fld (f := F.hbmUncorrectedCount) (hbm rfl (by decide)) _).log _ _ _ _ _ _ (by decide)
theorem HallwayKept.countFetch : HallwayKept s (u.countFetch a) :=
  (h.fld (f := F.hbmReadSectorsCount) (stands_hbmOf (homeSlice_lt a)) _).hbmCheck a
theorem HallwayKept.countHit {cls : Nat} (hc : cls < 8) (hit : Bool) : HallwayKept s (u.countHit (homeSlice a) cls hit) :=
  (h.fld (f := F.sliceHitCount) (stands_slice (homeSlice_lt a) rfl hc) _).ite (h.fld (f := F.sliceMissCount) (stands_slice (homeSlice_lt a) rfl hc) _) _
theorem HallwayKept.countMerge (p : Prop) [Decidable p] : HallwayKept s (if p then u.bump F.sliceHoldMergesCount (homeSlice a) 0 1 else u) :=
  (h.fld (f := F.sliceHoldMergesCount) (stands_slice (homeSlice_lt a)) _).ite h p
theorem HallwayKept.arrayCheck (kind : AccessKind) : HallwayKept s (u.arrayCheck a kind) := by
  have home := homeSlice_lt a
  unfold State.arrayCheck
  dsimp only
  split_ifs
  · exact h.arrayErr _
  · have counted : HallwayKept s (State.bumpSat { u with arrayErr := Tab.set 0 u.arrayErr (a / 32) 0 } F.sliceEccCorrectedCount (homeSlice a) 0 1) :=
      (h.arrayErr _).fld (f := F.sliceEccCorrectedCount) (stands_slice home) _
    unfold State.arrayCorrected
    dsimp only
    split
    · exact counted.slice _ _
    · exact counted
  · exact (((h.arrayErr _).poison _).fld (f := F.sliceEccUncorrectedCount) (j := 0) (stands_slice home) _).log _ _ _ _ _ _ (by decide)

end

theorem HallwayKept.leaveSlice (line : Nat) (valid dirty : BitVec 4) : HallwayKept s (u.leaveSlice line valid dirty) := by
  refine h.each _ (fun t k ht => ?_)
  have shown := ht.hidden (NatSet.erase t.hidden (4 * line + k))
  exact (shown.ite (shown.poison _) _).ite ht _
theorem HallwayKept.readLine (line : Nat) (dirty : BitVec 4) : HallwayKept s (u.readLine line dirty) := h.each _ (fun _ _ ht => ht.arrayCheck _ _)
theorem HallwayKept.replaceHbm (line : Nat) (dirty : BitVec 4) : HallwayKept s (u.replaceHbm line dirty) :=
  h.each _ (fun _ _ ht => (ht.hbmErr _).ite ht _)

section
variable {n : Nat} (hn : n < 1024)
include hn

theorem HallwayKept.noteHold : HallwayKept s (u.noteHold n) :=
  (h.fld (f := F.sliceHoldInUse) (stands_slice hn) _).fld (f := F.sliceHoldPeak) (stands_slice hn) _
theorem HallwayKept.countWriteback (dirty : BitVec 4) : HallwayKept s (u.countWriteback n dirty) :=
  (h.fld (f := F.sliceWritebacksCount) (stands_slice hn) _).fld (f := F.hbmWriteSectorsCount) (stands_hbmOf hn) _
theorem HallwayKept.freeOldest : HallwayKept s (u.freeOldest n) := by
  unfold State.freeOldest
  split
  · exact h
  · exact ((((h.ite (h.countWriteback hn _) _).leaveSlice _ _ _).replaceHbm _ _).slice _ _).noteHold hn
theorem HallwayKept.addHold (line : Nat) (valid dirty : BitVec 4) (wait : Bool) {t : State} (ht : u.addHold n line valid dirty wait = some t) : HallwayKept s t := by
  unfold State.addHold at ht
  split at ht
  · cases ht
  · have room := (h.freeOldest hn).ite h ((u.slice n).hold.length ≥ 32)
    dsimp only at ht
    generalize (if (u.slice n).hold.length ≥ 32 then u.freeOldest n else u) = v at room ht
    cases ht
    exact ((room.slice n _).countWriteback hn dirty).noteHold hn
theorem HallwayKept.allocate (line set : Nat) (wait : Bool) {t : State} {w : Option (Fin 16)} (ht : u.allocate n line set wait = some (t, w)) : HallwayKept s t := by
  unfold State.allocate at ht
  dsimp only at ht
  split at ht
  · cases ht; exact h.slice _ _
  · split at ht
    · split at ht
      · next old _ =>
        have read := (h.slice n { u.slice n with lines := ((u.slice n).lines.filter (fun l => l.line != old.line)) ++ [⟨set, old.way, line, 0, 0, false⟩] }).readLine old.line old.dirty
        generalize (State.setSlice u n _).readLine old.line old.dirty = v at read ht
        split at ht
        · cases ht; exact read.leaveSlice _ _ _
        · obtain ⟨v, hv, e⟩ := Option.map_eq_some_iff.mp ht
          cases e
          exact read.addHold hn _ _ _ _ hv
      · cases ht; exact h
    · cases ht; exact h

end

section
variable {a cls : Nat} (hc : cls < 8) (kind : AccessKind) (pend : Bool)
include hc

/-- An access of the cache leaves the links. -/
theorem HallwayKept.cacheAccess {t : State} (ht : u.cacheAccess a cls kind pend = some t) : HallwayKept s t := by
  have home := homeSlice_lt a
  have fetched {t : State} (k : HallwayKept s t) (p : Prop) [Decidable p] : HallwayKept s (if p then t else t.countFetch a) := k.ite (k.countFetch a) p
  have fetch {t : State} (k : HallwayKept s t) (p : Prop) [Decidable p] : HallwayKept s (if p then t
      else if pend = true then t.setSlice (homeSlice a) { t.slice (homeSlice a) with fetching := NatSet.insert (t.slice (homeSlice a)).fetching (a / 32) } else t.countFetch a) :=
    k.ite ((k.slice _ _).ite (k.countFetch a) _) p
  unfold State.cacheAccess at ht
  dsimp only at ht
  split at ht
  · next e _ =>
    cases ht
    exact ((fetched ((h.countHit a hc (hasSector e.valid a)).arrayCheck a kind) _).countMerge a _).slice _ _
  · split at ht
    · next l _ =>
      cases ht
      exact (fetch ((h.countHit a hc (hasSector l.valid a)).arrayCheck a kind) _).slice _ _
    · split at ht
      · cases ht
      · next v w hv =>
        cases ht
        exact (fetch ((h.allocate home _ _ _ hv).countHit a hc false) _).slice _ _
      · next v hv =>
        have kept := h.allocate home _ _ _ hv
        split at ht
        · cases ht
          exact fetch (kept.countHit a hc false) _
        · split at ht
          · cases ht
          · next x hx =>
            cases ht
            exact (fetched ((kept.addHold home _ _ _ _ hx).countHit a hc false) _).countMerge a _
theorem HallwayKept.sectorAccess {t : State} (ht : u.sectorAccess a cls kind pend = some t) : HallwayKept s t := by
  unfold State.sectorAccess at ht
  split at ht
  · cases ht
    exact (h.fld (f := F.sliceScratchSectorsCount) (stands_slice (homeSlice_lt a)) _).arrayCheck a kind
  · split at ht
    · cases ht; exact h
    · exact h.cacheAccess hc kind pend ht
  · cases ht; exact h
theorem HallwayKept.writePiece (data : List Byte) (p : Bool) : HallwayKept s ((u.writePiece cls a data p false).getD u) := by
  unfold State.writePiece
  dsimp only
  split
  · exact h.log _ _ _ _ _ _ (by decide)
  · split
    · exact h
    · next v hv =>
      have wrote : HallwayKept s (v.setBytes a data) := (h.sectorAccess hc _ false hv).same (by simp)
      exact HallwayKept.ite (t := (v.setBytes a data).setPoison a p) (wrote.same rfl) wrote _

end

end

theorem HallwayKept.countHallway {s u : State} (h : HallwayKept s u) (src dst n : Nat) : HallwayKept s (u.countHallway src dst n) := by
  unfold State.countHallway
  refine h.ite ?_ _
  split
  · exact h
  · next l hl =>
    have small : l < 6 := by have hm := List.mem_of_find?_eq_some hl; simp only [List.mem_cons, List.not_mem_nil, or_false] at hm; omega
    exact (h.fld (f := F.hallwayBytesUpCount) (RegName.stands small rfl (by decide)) _).ite
      (h.fld (f := F.hallwayBytesDownCount) (RegName.stands small rfl (by decide)) _) _

section
variable {s : State} (idle : s.idleSlices) (st : Nat) {cls : Nat} (hc : cls < 8) (a : Nat)
include idle hc

/-- A read while nothing waits leaves the links. -/
theorem HallwayKept.readFrom (n : Nat) : HallwayKept s (s.readFrom st cls a n).1 := by
  unfold State.readFrom
  split
  · exact (HallwayKept.refl s).same rfl
  · refine HallwayKept.countHallway ?_ _ _ _
    suffices Still s (s.memTouch cls a n) ∧ HallwayKept s (s.memTouch cls a n) from this.2
    refine State.each_induct (fun u => Still s u ∧ HallwayKept s u) _ _ s ⟨.of_same rfl rfl, .refl s⟩ (fun t pc ht => ?_)
    obtain ⟨still, kept⟩ := ht
    dsimp only
    rw [State.turn_of_still (still.idleSlices idle pc.1)]
    obtain ⟨v, hv⟩ := Option.isSome_iff_exists.mp (t.sectorAccess_isSome pc.1 cls .read)
    rw [hv]
    exact ⟨still.trans (Accessed.refl.sectorAccess (served := False) (.inl hc) .read false hv).still, kept.sectorAccess hc .read false hv⟩
/-- A write while nothing waits leaves the links. -/
theorem HallwayKept.writeFrom (data : List Byte) (p : Bool) : HallwayKept s (s.writeFrom st cls a data p) := by
  unfold State.writeFrom State.dropAtLink
  split
  · split
    · exact .refl s
    · exact (HallwayKept.refl s).log _ _ _ _ _ _ (by decide)
  · refine HallwayKept.countHallway ?_ _ _ _
    suffices Still s (s.memWrite cls a data p) ∧ HallwayKept s (s.memWrite cls a data p) from this.2
    refine State.each_induct (fun u => Still s u ∧ HallwayKept s u) _ _ s ⟨.of_same rfl rfl, .refl s⟩ (fun t pc ht => ?_)
    obtain ⟨still, kept⟩ := ht
    have free := still.idleSlices idle pc.1
    refine ⟨still.trans (State.writePiece_still hc free _ p).1, ?_⟩
    dsimp only
    rw [State.turn_of_still free]
    exact kept.writePiece hc _ p

end

theorem HallwayKept.hallwayDown {s u : State} (h : HallwayKept s u) (a b : Nat) : u.hallwayDown a b = s.hallwayDown a b := by
  unfold State.hallwayDown
  split
  · rfl
  · next l hl =>
    have small : l < 6 := by have hm := List.mem_of_find?_eq_some hl; simp only [List.mem_cons, List.not_mem_nil, or_false] at hm; omega
    rw [RegsKept.fld (f := F.hallwayStateLink) h (RegName.stands small rfl (by decide)) rfl]

/-! ## Reads of a unit while nothing waits (R206, R220) -/

/-- What reads of units leave while nothing waits: memory, the records of the Markers, the registers that no access writes, and what waits and discards at the slices. -/
structure Browsed (s u : State) : Prop where
  mem : u.mem = s.mem
  markers : u.markers = s.markers
  regs : RegsKept (fun m _ _ => m.accessed = false) s u
  still : Still s u

theorem Browsed.refl (s : State) : Browsed s s := ⟨rfl, rfl, .refl _ s, .of_same rfl rfl⟩
theorem Browsed.trans {s t u : State} (h : Browsed s t) (k : Browsed t u) : Browsed s u :=
  ⟨k.mem.trans h.mem, k.markers.trans h.markers, h.regs.trans k.regs, h.still.trans k.still⟩

section
variable {s : State} (idle : s.idleSlices)
include idle

/-- A read is an access that changes no byte, but for the free number that it takes over a link that is DOWN. -/
theorem State.readFrom_idle (st : Nat) {cls : Nat} (hc : cls < 8) (a n : Nat) :
    (s.readFrom st cls a n).1 = { s with freeNext := s.freeNext + 1 } ∨ Accessed False s (s.readFrom st cls a n).1 := by
  unfold State.readFrom
  split
  · exact .inl rfl
  · exact .inr ((Accessed.refl.memRead idle hc a n).1.countHallway _ _ _)
theorem State.readFrom_browsed (st : Nat) {cls : Nat} (hc : cls < 8) (a n : Nat) : Browsed s (s.readFrom st cls a n).1 := by
  rcases State.readFrom_idle idle st hc a n with e | k
  · rw [e]; exact ⟨rfl, rfl, .of_regs rfl, .of_same rfl rfl⟩
  · exact ⟨k.sameMem, by rw [k.fields], k.regsKept.mono (fun _ _ _ e => ⟨e, False.elim⟩), k.still⟩
theorem State.markerReads_browsed (st : StackId) (l : List (Nat × Nat)) : Browsed s (s.markerReads st l).1 := by
  suffices ∀ r : State × Bool, Browsed s r.1 → Browsed s (l.foldl (fun r x => let q := r.1.readFrom st 5 x.1 x.2; (q.1, r.2 || q.2.2)) r).1 from
    this _ (.refl s)
  induction l with
  | nil => exact fun _ hr => hr
  | cons x l ih => exact fun r hr => ih _ (hr.trans (State.readFrom_browsed (hr.still.idleSlices idle) st (by decide) _ _))

end

end Sys2Proof.Machine
end

section
/-!
Collectives: the scan that opens a step, buffers, packets, and the end of a failed collective (R237, R305, R308, R315 to R317, R322 to R324).
-/
namespace Sys2Proof.Machine
-- Proofs one after the other: each thread of the elaborator claims its whole stack.
set_option Elab.async false

/-! ## The scan (R237, R275) -/

/-- The counters of the PSD. -/
def RegName.psdCounter (n : RegName) : Bool := n.block == .psd && n != .psdTable && n != .psdEntries

section
variable (s : State) (st : StackId)

/-- The state in which the scan has read the PSD. -/
def State.scanRead : State := (s.markerReads st [(s.reg .psdTable st, 64 * s.reg .psdEntries st)]).1
/-- The state in which it has read the hyperparameter sets and counted the entries. -/
def State.scanCounted : State :=
  let t := s.scanRead st
  ((t.markerReads st (t.hpRuns st (t.scanPsd st))).1).countPsd st (t.scanPsd st)
/-- The state in which the scan has refused the ARM at entry `k`, and what waited for it is still to be taken. -/
def State.scanRefused (k : Nat) : State := (s.setReg .markerArmStatus st 0 (2 + k * 2 ^ 8)).setStepState st mIDLE
/-- The state in which the scan has written the registers of a step of the blocks of a list. -/
def State.scanNoted (l : List Psd) : State :=
  let t := (s.setReg .markerArmStatus st 0 0).setReg .markerOpenStep st 0 (s.reg .markerArm st)
  (t.setReg .markerExpected st 0 ((l.filter Psd.trained).map Psd.nsegs).sum).setReg .markerArrived st 0 0
/-- The state in which the scan has opened the step of those blocks, and what waited for it is still to be taken. -/
def State.scanOpened (l : List Psd) : State :=
  let t := s.scanNoted st l
  (t.setMarker st { t.marker st with
    scan := l, hpSets := t.copyHp st l, segs := [], chunkE := [], q := none, applied := [], firstShadow := []
    decision := none, commitWritten := [], satStep := 0 }).setStepState st mOPEN

theorem stands_psd {n : RegName} (hb : n.block = .psd := by rfl) (hc : 0 < n.desc.count := by decide) : n.Stands st 0 :=
  RegName.stands (by rw [hb]; exact st.isLt) (by unfold RegName.inInstance; rw [hb]) hc

variable {s}

theorem RegsKept.countPsd {u : State} (h : RegsKept (fun m _ _ => m.accessed = false ∧ m.psdCounter = false) s u) (l : List Psd) :
    RegsKept (fun m _ _ => m.accessed = false ∧ m.psdCounter = false) s (u.countPsd st l) := by
  have count {t : State} (h : RegsKept (fun m _ _ => m.accessed = false ∧ m.psdCounter = false) s t) {n : RegName} (hn : n.Stands st 0) (v : Nat)
      (counts : n.psdCounter = true := by decide) : RegsKept (fun m _ _ => m.accessed = false ∧ m.psdCounter = false) s (t.setReg n st 0 v) :=
    h.setReg v hn (by simp [counts])
  unfold State.countPsd
  exact count (count (count (count (count h (stands_psd st) _) (stands_psd st) _) (stands_psd st) _) (stands_psd st) _) (stands_psd st) _

variable (idle : s.idleSlices)
include idle

theorem State.scanCounted_kept : (s.scanCounted st).mem = s.mem ∧ (s.scanCounted st).markers = s.markers
    ∧ RegsKept (fun m _ _ => m.accessed = false ∧ m.psdCounter = false) s (s.scanCounted st) := by
  have first : Browsed s (s.scanRead st) := State.markerReads_browsed idle st _
  have both := first.trans (State.markerReads_browsed (first.still.idleSlices idle) st ((s.scanRead st).hpRuns st ((s.scanRead st).scanPsd st)))
  unfold State.scanCounted
  dsimp only
  generalize (State.markerReads _ st (State.hpRuns _ st _)).1 = u at both ⊢
  exact ⟨both.mem, both.markers, RegsKept.countPsd st (both.regs.mono (fun _ _ _ h => h.1)) _⟩

variable (scanning : s.stepState st = mSCANNING)
include scanning

theorem armScanComplete_bad {k : Nat} (bad : (List.range (s.reg .psdEntries st)).find? ((s.scanCounted st).entryFails st) = some k) :
    armScanComplete s st = ((s.scanCounted st).scanRefused st k).drainScan st := by
  obtain ⟨-, -, regs⟩ := State.scanCounted_kept st idle
  have entries : (s.scanCounted st).reg .psdEntries st = s.reg .psdEntries st := regs _ _ _ (stands_psd st) ⟨by decide, by decide⟩
  rw [← entries] at bad
  unfold armScanComplete
  rw [if_neg (by simp [scanning])]
  simp only [State.scanCounted, State.scanRead] at bad
  dsimp only
  rw [bad]
  rfl

theorem armScanComplete_opens (good : ∀ k, k < s.reg .psdEntries st → (s.scanCounted st).entryFails st k = false)
    (pages : ((((s.scanRead st).scanPsd st).filter Psd.slow).map (fun p => p.dm1 + 3)).sum ≤ s.fld F.markerSlipPagesPages st) :
    armScanComplete s st = ((s.scanCounted st).scanOpened st ((s.scanRead st).scanPsd st)).drainScan st := by
  obtain ⟨-, -, regs⟩ := State.scanCounted_kept st idle
  have entries : (s.scanCounted st).reg .psdEntries st = s.reg .psdEntries st := regs _ _ _ (stands_psd st) ⟨by decide, by decide⟩
  have pool : (s.scanCounted st).fld F.markerSlipPagesPages st = s.fld F.markerSlipPagesPages st := RegsKept.fld regs (stands_marker st) ⟨by decide, by decide⟩
  have none' : (List.range ((s.scanCounted st).reg .psdEntries st)).find? ((s.scanCounted st).entryFails st) = none :=
    List.find?_eq_none.mpr (fun k hk => by rw [good k (entries ▸ List.mem_range.mp hk)]; decide)
  rw [← pool] at pages
  have room := Nat.not_lt.mpr pages
  simp only [State.scanCounted, State.scanRead] at none' room
  unfold armScanComplete
  rw [if_neg (by simp [scanning])]
  dsimp only
  rw [none']
  dsimp only
  rw [if_neg room]
  rfl

end

section
variable (s : State) (st : StackId)

/-- A refused ARM ends IDLE, with its entry and code 2. -/
theorem State.scanRefused_spec (chunks : (s.marker st).chunkWait = []) (qs : (s.marker st).qWait = []) {k : Nat} (small : k < 2 ^ 24) :
    let u := (s.scanRefused st k).drainScan st
    u.stepState st = mIDLE ∧ u.reg .markerArmStatus st = 2 + k * 2 ^ 8 ∧ u.mem = s.mem
      ∧ (u.marker st).slips = (s.marker st).slips ∧ (u.marker st).stages = (s.marker st).stages := by
  dsimp only
  rw [State.drainScan_quiet (s.scanRefused st k) st chunks qs]
  refine ⟨State.stepState_setStepState _ st (by decide), ?_, rfl, ?_, ?_⟩
  · refine (State.reg_setReg_stands (m := .markerArmStatus) _ (stands_marker (n := .markerState) st) (stands_marker st) (by simp)).trans ?_
    exact (State.reg_setReg_same _ .markerArmStatus st 0 _).trans (Nat.mod_eq_of_lt (show _ < 2 ^ 32 by omega))
  · rw [State.marker_setMarker_same]; rfl
  · rw [State.marker_setMarker_same]; rfl

/-- A step that the scan opens is that of ARM, of the blocks found. -/
theorem State.scanOpened_spec (l : List Psd) (chunks : (s.marker st).chunkWait = []) (qs : (s.marker st).qWait = []) :
    let u := (s.scanOpened st l).drainScan st
    u.stepState st = mOPEN ∧ u.reg .markerOpenStep st = s.reg .markerArm st % 2 ^ 32 ∧ (u.marker st).scan = l ∧ u.mem = s.mem
      ∧ u.fld F.assemblyNormExpect st = s.fld F.assemblyNormExpect st := by
  have norm : RegName.Stands .assemblyNorm st 0 := stands_stack st.isLt
  have opened : (s.scanOpened st l).marker st = { s.marker st with
      scan := l, hpSets := (s.scanNoted st l).copyHp st l, segs := [], chunkE := [], q := none, applied := [], firstShadow := []
      decision := none, commitWritten := [], satStep := 0 } := State.marker_setMarker_same _ _ _
  dsimp only
  rw [State.drainScan_quiet (s.scanOpened st l) st (by rw [opened, ← chunks]) (by rw [opened, ← qs])]
  refine ⟨State.stepState_setStepState _ st (by decide), ?_, ?_, rfl, ?_⟩
  · have apart {v : State} {n : RegName} (x : Nat) (hb : n.block = .marker := by rfl) (hc : 0 < n.desc.count := by decide) (hn : n ≠ .markerOpenStep := by decide) :
        (v.setReg n st 0 x).reg .markerOpenStep st = v.reg .markerOpenStep st :=
      State.reg_setReg_stands _ (stands_marker st hb hc) (stands_marker st) (by simp [hn.symm])
    calc (s.scanOpened st l).reg .markerOpenStep st
      _ = (s.scanNoted st l).reg .markerOpenStep st := apart (n := .markerState) _
      _ = ((s.setReg .markerArmStatus st 0 0).setReg .markerOpenStep st 0 (s.reg .markerArm st)).reg .markerOpenStep st :=
        (apart (n := .markerArrived) _).trans (apart (n := .markerExpected) _)
      _ = s.reg .markerArm st % 2 ^ 32 := State.reg_setReg_same _ .markerOpenStep st 0 _
  · rw [State.marker_setMarker_same, opened]
  · have apart {v : State} {n : RegName} (x : Nat) (hb : n.block = .marker := by rfl) (hc : 0 < n.desc.count := by decide) :
        (v.setReg n st 0 x).fld F.assemblyNormExpect st = v.fld F.assemblyNormExpect st :=
      State.fld_setReg_stands (g := F.assemblyNormExpect) v x (stands_marker st hb hc) norm (by rintro ⟨⟩; cases hb)
    calc (s.scanOpened st l).fld F.assemblyNormExpect st
      _ = (s.scanNoted st l).fld F.assemblyNormExpect st := apart (n := .markerState) _
      _ = (s.setReg .markerArmStatus st 0 0).fld F.assemblyNormExpect st :=
        (apart (n := .markerArrived) _).trans ((apart (n := .markerExpected) _).trans (apart (n := .markerOpenStep) _))
      _ = s.fld F.assemblyNormExpect st := apart _

end

section
variable (st : StackId) (s : State) (idle : s.idleSlices) (scanning : s.stepState st = mSCANNING) (chunks : (s.marker st).chunkWait = []) (qs : (s.marker st).qWait = [])
include idle scanning chunks qs

/-- ARM_SCAN_COMPLETE with a bad entry. -/
theorem armScanComplete_refuses {k : Nat} (bad : (List.range (s.reg .psdEntries st)).find? ((s.scanCounted st).entryFails st) = some k) (small : k < 2 ^ 24) :
    Completes (.armScanComplete st) s (fun u => u.stepState st = mIDLE ∧ u.reg .markerArmStatus st = 2 + k * 2 ^ 8 ∧ u.mem = s.mem
      ∧ (u.marker st).slips = (s.marker st).slips ∧ (u.marker st).stages = (s.marker st).stages) := by
  obtain ⟨mem, markers, -⟩ := State.scanCounted_kept st idle
  have marker : (s.scanCounted st).marker st = s.marker st := by rw [State.marker, markers, State.marker]
  have ends := armScanComplete_bad st idle scanning bad
  generalize s.scanCounted st = v at *
  obtain ⟨state, status, still, slips, stages⟩ := v.scanRefused_spec st (by rw [marker, chunks]) (by rw [marker, qs]) small
  rw [← ends] at state status still slips stages
  have whole : armScanAndNorm s st = armScanComplete s st := by
    unfold armScanAndNorm
    simp [state]
  exact ⟨_, rfl, whole ▸ ⟨state, status, still.trans mem, slips.trans (by rw [marker]), stages.trans (by rw [marker])⟩⟩

/-- ARM_SCAN_COMPLETE with no bad entry, and pages enough. -/
theorem armScanComplete_arms (good : ∀ k, k < s.reg .psdEntries st → (s.scanCounted st).entryFails st k = false)
    (pages : ((((s.scanRead st).scanPsd st).filter Psd.slow).map (fun p => p.dm1 + 3)).sum ≤ s.fld F.markerSlipPagesPages st)
    (expects : s.fld F.assemblyNormExpect st ≠ 0) : Completes (.armScanComplete st) s (fun u =>
      u.stepState st = mOPEN ∧ u.reg .markerOpenStep st = s.reg .markerArm st % 2 ^ 32 ∧ (u.marker st).scan = (s.scanRead st).scanPsd st ∧ u.mem = s.mem) := by
  obtain ⟨mem, markers, regs⟩ := State.scanCounted_kept st idle
  have marker : (s.scanCounted st).marker st = s.marker st := by rw [State.marker, markers, State.marker]
  have arm : (s.scanCounted st).reg .markerArm st = s.reg .markerArm st := regs _ _ _ (stands_marker st) ⟨by decide, by decide⟩
  have expect : (s.scanCounted st).fld F.assemblyNormExpect st = s.fld F.assemblyNormExpect st :=
    RegsKept.fld regs (f := F.assemblyNormExpect) (stands_stack st.isLt) ⟨by decide, by decide⟩
  have ends := armScanComplete_opens st idle scanning good pages
  generalize s.scanCounted st = v at *
  generalize (s.scanRead st).scanPsd st = l at *
  obtain ⟨state, step, scan, still, norm⟩ := v.scanOpened_spec st l (by rw [marker, chunks]) (by rw [marker, qs])
  rw [← ends] at state step scan still norm
  have whole : armScanAndNorm s st = armScanComplete s st := by
    unfold armScanAndNorm
    simp [norm, expect, expects]
  exact ⟨_, rfl, whole ▸ ⟨state, step.trans (by rw [arm]), scan, still.trans mem⟩⟩

end

/-! ## Buffers (R315) -/

/-- ASSEMBLY_BUFFER_ACCEPT hands the oldest released buffer of its stream. -/
theorem assemblyBufferAccept_hands (c : CoreId) (d : Fin 64) (s v : State) (g : Stage) (m : Nat) (rest : List Nat) (ok : Bool) :
    let s0 := s.takeReleases c
    let sd := g.stream d
    let y := (s0.core c).dyn d
    (s0.core c).stage = some g → g.loading = false → sd.valid = true → sd.dir = dirOut → sd.target = 2 → (y.state = 1 ∨ y.state = 2) → y.outPend = m :: rest →
    m < y.runStart + y.count → s0.handBuffer (stackOfCore c) c g sd y.base m (m - y.runStart) = some (v, ok) →
    Completes (.assemblyBufferAccept c d) s (fun u =>
      let w := (v.setCore c ((v.core c).setDyn d ({ y with started := m + 1, outPend := rest }.complete m))).wakeStreams c
      u = if ok = true then w.markLesson (clusterOfCore c) (fun l => { l with handedAssembly := true }) else w) := by
  intro s0 sd y stage loaded valid dir target state pend inRun hands
  refine ⟨_, rfl, ?_⟩
  dsimp only
  unfold assemblyBufferAccept
  dsimp only
  split
  · next none' => rw [stage] at none'; cases none'
  · next g' stage' =>
    cases stage.symm.trans stage'
    split
    · next empty => rw [pend] at empty; cases empty
    · next m' rest' pend' =>
      cases pend.symm.trans pend'
      rw [if_pos ⟨valid, dir, target, state, inRun, by rw [loaded]; rfl⟩]
      rw [hands]

/-! ## Packets looped back (R305, R308, R322, R323) -/

section
variable {s u : State} (st : StackId) (regs : RegsKept (fun m _ _ => m.accessed = false) s u)
include regs

/-- A collective is read from registers and memory. -/
theorem State.coll_of (mem : u.mem = s.mem) (k : Nat) : u.coll st k = s.coll st k := by
  have table : u.reg .assemblyCollTable st = s.reg .assemblyCollTable st := regs _ _ _ (stands_stack st.isLt) rfl
  have count : u.reg .assemblyCollCount st = s.reg .assemblyCollCount st := regs _ _ _ (stands_stack st.isLt) rfl
  have num (a n : Nat) : u.num a n = s.num a n := by simp only [State.num, State.bytes_of_mem mem]
  simp only [State.coll, table, count, num]
/-- Whether a stack is offline is read from registers and the command of the power loop. -/
theorem State.offline_of (power : u.powerCmd = s.powerCmd) : u.offline st = s.offline st := by
  have reset : u.inReset st = s.inReset st := by
    have whole : u.reg .proctorResetStatus 0 0 = s.reg .proctorResetStatus 0 0 := regs _ _ _ stands_zero rfl
    simp only [State.inReset, State.fld, whole]
  have pstate : u.fld F.powerPstateState st = s.fld F.powerPstateState st := RegsKept.fld regs (stands_stack st.isLt) rfl
  have activating : u.fld F.tutorSylStateActivating st = s.fld F.tutorSylStateActivating st := RegsKept.fld regs (stands_stack st.isLt) rfl
  simp only [State.offline, State.outOfService, reset, pstate, activating, power]

end

/-- The bytes that cross Hallway change only registers that an access may write. -/
theorem State.countHallway_kept (s : State) (src dst n : Nat) : RegsKept (fun m _ _ => m.accessed = false) s (s.countHallway src dst n) :=
  ((Accessed.refl (served := False)).countHallway src dst n).regsKept.mono (fun _ _ _ e => ⟨e, False.elim⟩)

/-- A packet of a kind, looped back from a stack. -/
def Instr.looped (i : Instr) (kind : PktKind) (st : StackId) (m : CollPkt) : Prop :=
  i = .reduce (.loop st) m ∧ kind = .reduce ∨ i = .norm (.loop st) m ∧ kind = .norm ∨ i = .data (.loop st) m ∧ kind = .data

section
variable {i : Instr} {kind : PktKind} {st : StackId} {m : CollPkt} (s : State)

theorem exec_looped (h : Instr.looped i kind st m) : exec i s = .next (s.carryPacket (.loop st) kind m) := by
  rcases h with ⟨rfl, rfl⟩ | ⟨rfl, rfl⟩ | ⟨rfl, rfl⟩ <;> rfl

/-- The state in which a packet that a link carries meets its engine. -/
def State.carried (s : State) (st : StackId) (m : CollPkt) : State := s.countHallway st m.dstStack m.data.length

theorem State.coll_carried (k : Nat) : (s.carried st m).coll m.dstStack k = s.coll m.dstStack k :=
  State.coll_of _ (s.countHallway_kept _ _ _) (by rw [State.countHallway_fields]) k
theorem State.offline_carried : (s.carried st m).offline m.dstStack = s.offline m.dstStack :=
  State.offline_of _ (s.countHallway_kept _ _ _) (by rw [State.carried, State.countHallway_fields])

/-- An answer of the engine ends the transaction with its status. -/
theorem State.carryPacket_answers {w : State} {status : Nat} (way : s.hallwayDown st m.dstStack = false ∨ s.offline m.dstStack = true)
    (answer : (s.carried st m).packetAnswer m.dstStack kind m = some (w, status)) :
    s.carryPacket (.loop st) kind m = w.completeTid m.tid.toNat status := by
  have open' : ¬ ((s.hallwayDown (arrivalStack (.loop st)) m.dstStack && !s.offline m.dstStack) = true) := by
    rcases way with up | off
    · rw [show s.hallwayDown (arrivalStack (.loop st)) m.dstStack = false from up]; simp
    · simp [off]
  unfold State.carryPacket
  rw [if_neg open']
  show (s.carried st m).meetPacket (.loop st) kind m = _
  unfold State.meetPacket
  rw [answer]
  rfl

/-- The engine of an offline stack answers OFFLINE. -/
theorem State.packetAnswer_offline (off : s.offline m.dstStack = true) : s.packetAnswer m.dstStack kind m = some (s, fOFFLINE) := by
  unfold State.packetAnswer
  rw [if_pos off]
/-- One without the collective answers UNSUPPORTED, counted, and fails the instances of the step. -/
theorem State.packetAnswer_unsupported (on : s.offline m.dstStack = false) (no : s.coll m.dstStack m.coll.toNat = none) :
    let f := s.each ((s.assembly m.dstStack).insts.filter (fun i => i.coll == m.coll.toNat && i.step.setWidth 16 == m.step))
      (fun s i => s.failInstance m.dstStack m.coll.toNat i.step fCHECK)
    s.packetAnswer m.dstStack kind m = some (f.bumpSat F.assemblyRefusedCount m.dstStack 0 1, fUNSUPPORTED) := by
  unfold State.packetAnswer
  dsimp only
  rw [if_neg (by simp [on]), no]
/-- A packet that fits is taken, and answered OK. -/
theorem State.packetAnswer_takes {v w : State} {c : Coll} (on : s.offline m.dstStack = false) (found : s.coll m.dstStack m.coll.toNat = some c) (uses : c.uses kind = true)
    (inside : m.offset.toNat < c.ranges) (five : kind = .norm → m.dlen = 5) (begins : s.beginInst m.dstStack m.coll.toNat c (m.step.setWidth 32) false = (v, .ok))
    (checks : (if kind = .reduce then v.checkE m.dstStack m.coll.toNat (m.step.setWidth 32) (signed 10 m.e.toNat) else (v, true)) = (w, true)) :
    s.packetAnswer m.dstStack kind m = some (w.takePacket m.dstStack m.coll.toNat c kind m (m.step.setWidth 32), fOK) := by
  have fits : ¬ ((!c.uses kind || decide (c.ranges ≤ m.offset.toNat) || (kind == .norm && m.dlen.toNat != 5)) = true) := by
    have length : (kind == .norm && m.dlen.toNat != 5) = false := by
      by_cases hk : kind = .norm
      · rw [five hk]; simp
      · simp [hk]
    rw [length, uses]
    simpa using inside
  unfold State.packetAnswer
  dsimp only
  rw [if_neg (by simp [on]), found]
  dsimp only
  rw [if_neg fits, begins]
  simp only [beq_iff_eq, checks]
  rfl

end

/-- REDUCE, NORM and DATA, looped back and valid. -/
theorem packet_taken (i : Instr) (kind : PktKind) (st : StackId) (m : CollPkt) (s v w : State) (c : Coll) :
    let step := m.step.setWidth 32
    let t := s.countHallway st m.dstStack m.data.length
    Instr.looped i kind st m → s.offline m.dstStack = false → s.hallwayDown st m.dstStack = false → s.coll m.dstStack m.coll.toNat = some c → c.uses kind = true →
    m.offset.toNat < c.ranges → (kind = .norm → m.dlen = 5) → t.beginInst m.dstStack m.coll.toNat c step false = (v, .ok) →
    (if kind = .reduce then v.checkE m.dstStack m.coll.toNat step (signed 10 m.e.toNat) else (v, true)) = (w, true) →
    Completes i s (fun u => u = (w.takePacket m.dstStack m.coll.toNat c kind m step).completeTid m.tid.toNat 0) := by
  intro step t looped on up found uses inside five begins checks
  refine ⟨_, exec_looped s looped, s.carryPacket_answers (.inl up) ?_⟩
  exact State.packetAnswer_takes _ (s.offline_carried.trans on) ((s.coll_carried _).trans found) uses inside five begins checks

/-- REDUCE, NORM and DATA that an offline stack, a link that is DOWN or a missing collective turns away. -/
theorem packet_refused (i : Instr) (st : StackId) (m : CollPkt) (s : State) :
    let t := s.countHallway st m.dstStack m.data.length
    (i = .reduce (.loop st) m ∨ i = .norm (.loop st) m ∨ i = .data (.loop st) m) → Completes i s (fun u =>
      (s.offline m.dstStack = true → u = t.completeTid m.tid.toNat 0xA) ∧
      (s.offline m.dstStack = false → s.hallwayDown st m.dstStack = true → u = s.completeTid m.tid.toNat 6) ∧
      (s.offline m.dstStack = false → s.hallwayDown st m.dstStack = false → s.coll m.dstStack m.coll.toNat = none →
        let f := t.each ((s.assembly m.dstStack).insts.filter (fun i => i.coll == m.coll.toNat && i.step.setWidth 16 == m.step))
          (fun s i => s.failInstance m.dstStack m.coll.toNat i.step fCHECK)
        u = (f.bumpSat F.assemblyRefusedCount m.dstStack 0 1).completeTid m.tid.toNat 8)) := by
  intro t named
  obtain ⟨kind, looped⟩ : ∃ kind, Instr.looped i kind st m := by
    rcases named with h | h | h
    · exact ⟨.reduce, .inl ⟨h, rfl⟩⟩
    · exact ⟨.norm, .inr (.inl ⟨h, rfl⟩)⟩
    · exact ⟨.data, .inr (.inr ⟨h, rfl⟩)⟩
  refine ⟨_, exec_looped s looped, fun off => ?_, fun on down => ?_, fun on up no => ?_⟩
  · exact s.carryPacket_answers (.inr off) (State.packetAnswer_offline _ (s.offline_carried.trans off))
  · unfold State.carryPacket
    rw [if_pos (by rw [show s.hallwayDown (arrivalStack (.loop st)) m.dstStack = true from down, on]; rfl)]
  · have insts : (s.carried st m).assembly m.dstStack = s.assembly m.dstStack := by
      rw [State.assembly, State.carried, State.countHallway_fields, State.assembly]
    refine s.carryPacket_answers (.inl up) ((State.packetAnswer_unsupported _ (s.offline_carried.trans on) ((s.coll_carried _).trans no)).trans ?_)
    rw [insts]
    rfl

/-! ## Packets that leave (R292, R293, R317, R318, R322) -/

/-- The registers that the sending of a packet leaves: those that no read of its bytes writes, the states of the Hallway links, but no count of what is sent. -/
def RegName.unsent (m : RegName) : Prop :=
  (m.accessed = false ∨ m = .hallwayState) ∧ m ∉ [.assemblyPacketsSent, .fabricIssued, .fabricTracker, .fabricTrackerPeak]

/-- `u` is `s` as far as those registers say. -/
def Sending (s u : State) : Prop := RegsKept (fun m _ _ => m.unsent) s u

section
variable {s u : State} (h : Sending s u)
include h

theorem Sending.reg {n : RegName} {i j : Nat} (hn : n.Stands i j) (quiet : n.accessed = false := by rfl)
    (other : n ∉ [RegName.assemblyPacketsSent, .fabricIssued, .fabricTracker, .fabricTrackerPeak] := by decide) : u.reg n i j = s.reg n i j :=
  h n i j hn ⟨.inl quiet, other⟩
theorem Sending.seat : u.seat = s.seat := by simp only [State.seat, State.fld, h.reg (n := .fabricSeat) stands_zero]
theorem Sending.seatValid : u.seatValid = s.seatValid := by simp only [State.seatValid, State.fld, h.reg (n := .fabricSeat) stands_zero]
theorem Sending.partOf (st : StackId) : u.partOf st = s.partOf st := by
  simp only [State.partOf, State.fld, h.reg (n := .tutorSylState) (stands_stack st.isLt)]
theorem Sending.link (p : Port) : u.link p = s.link p := by simp only [State.link, State.fld, h.reg (n := .fabricState) (stands_port p)]
theorem Sending.hallwayDown (a b : Nat) : u.hallwayDown a b = s.hallwayDown a b :=
  HallwayKept.hallwayDown (RegsKept.mono h (fun _ _ _ hm => ⟨.inr hm, by subst hm; decide⟩)) a b
theorem Sending.coverEntry (part seat : Nat) (dir : Nat → Bool) : u.coverEntry part seat dir = s.coverEntry part seat dir := by
  have near : u.windowTable false = s.windowTable false :=
    List.map_congr_left (fun k hk => h.reg (n := .fabricNear) (RegName.stands (by decide) rfl (List.mem_range.mp hk)))
  have far : u.windowTable true = s.windowTable true :=
    List.map_congr_left (fun k hk => h.reg (n := .fabricFar) (RegName.stands (by decide) rfl (List.mem_range.mp hk)))
  simp only [State.coverEntry, near, far]

end

theorem stands_initiator {n : RegName} (st : StackId) (hb : n.block = .fabric := by rfl) (hin : ∀ k : Fin 4, n.inInstance (4 * k.val) = true := by decide)
    (hc : 0 < n.desc.count := by decide) : n.Stands (4 * st.val) 0 :=
  RegName.stands (by rw [hb]; have := st.isLt; simp only [Block.instances]; omega) (hin st) hc

/-- What the sending of a packet leaves, until it is queued: memory and the ports, and every register but those that it counts in. -/
structure Outbound (s u : State) : Prop where
  regs : Sending s u
  mem : u.mem = s.mem
  ports : u.ports = s.ports

theorem Outbound.trans {s t u : State} (h : Outbound s t) (k : Outbound t u) : Outbound s u := ⟨h.regs.trans k.regs, k.mem.trans h.mem, k.ports.trans h.ports⟩

section
variable (s : State) (st : StackId)

theorem State.setFld_outbound {f : RegField} {i j : Nat} (hs : f.reg.Stands i j) (v : Nat)
    (hn : f.reg ∈ [RegName.assemblyPacketsSent, .fabricIssued, .fabricTracker, .fabricTrackerPeak] := by decide) : Outbound s (s.setFld f i j v) :=
  ⟨(RegsKept.refl _ s).setFld v hs (fun k => k.2 hn), rfl, rfl⟩

theorem State.countHallway_outbound (src dst n : Nat) : Outbound s (s.countHallway src dst n) := by
  refine ⟨fun m i j stands kept => ?_, by rw [State.countHallway_fields], by rw [State.countHallway_fields]⟩
  rcases kept.1 with quiet | rfl
  · exact s.countHallway_kept src dst n m i j stands quiet
  · exact (HallwayKept.refl s).countHallway src dst n _ i j stands rfl

/-- The bytes of a packet are read, or those of its value are at hand. -/
theorem State.packetData_reads (idle : s.idleSlices) (c : Coll) (i : Instance') (rng : Nat) (kind : PktKind) :
    let u := (s.packetData st c i rng kind).1
    Outbound s u ∧ u.trackers = s.trackers ∧ u.fld F.assemblyPacketsSentCount st = s.fld F.assemblyPacketsSentCount st := by
  have read (a n : Nat) : Outbound s (s.readFrom st 4 a n).1 ∧ (s.readFrom st 4 a n).1.trackers = s.trackers := by
    have browsed := State.readFrom_browsed idle st (cls := 4) (by decide) a n
    have links := HallwayKept.readFrom idle st (cls := 4) (by decide) a n
    have regs : Sending s (s.readFrom st 4 a n).1 := by
      intro m i j stands kept
      rcases kept.1 with quiet | rfl
      · exact browsed.regs m i j stands quiet
      · exact links _ i j stands rfl
    rcases State.readFrom_idle idle st (cls := 4) (by decide) a n with e | k
    · exact ⟨⟨regs, browsed.mem, by rw [e]⟩, by rw [e]⟩
    · exact ⟨⟨regs, browsed.mem, by rw [k.fields]⟩, by rw [k.fields]⟩
  have count {a n : Nat} : (s.readFrom st 4 a n).1.fld F.assemblyPacketsSentCount st = s.fld F.assemblyPacketsSentCount st :=
    RegsKept.fld (State.readFrom_browsed idle st (by decide) a n).regs (f := F.assemblyPacketsSentCount) (stands_stack st.isLt) rfl
  unfold State.packetData
  dsimp only
  split
  · exact ⟨⟨.refl _ s, rfl, rfl⟩, rfl, rfl⟩
  · exact ⟨(read _ _).1, (read _ _).2, count⟩

theorem State.noteTracker_spec : Outbound s (s.noteTracker st) ∧ (s.noteTracker st).trackers = s.trackers
    ∧ (s.noteTracker st).fld F.assemblyPacketsSentCount st = s.fld F.assemblyPacketsSentCount st := by
  have sent : RegName.Stands .assemblyPacketsSent st 0 := stands_stack st.isLt
  let n := (s.entriesOf st).length
  let v := s.setFld F.fabricTrackerInUse (4 * st.val) 0 n
  let peak := max n (s.fld F.fabricTrackerPeakPeak (4 * st.val))
  have first : Outbound s v := s.setFld_outbound (f := F.fabricTrackerInUse) (stands_initiator st) n
  have second : Outbound v (v.setFld F.fabricTrackerPeakPeak (4 * st.val) 0 peak) := v.setFld_outbound (f := F.fabricTrackerPeakPeak) (stands_initiator st) peak
  have count : (v.setFld F.fabricTrackerPeakPeak (4 * st.val) 0 peak).fld F.assemblyPacketsSentCount st = v.fld F.assemblyPacketsSentCount st :=
    State.fld_setFld_stands (f := F.fabricTrackerPeakPeak) (g := F.assemblyPacketsSentCount) v peak (stands_initiator st) sent (by simp)
  have count' : v.fld F.assemblyPacketsSentCount st = s.fld F.assemblyPacketsSentCount st :=
    State.fld_setFld_stands (f := F.fabricTrackerInUse) (g := F.assemblyPacketsSentCount) s n (stands_initiator st) sent (by simp)
  exact ⟨first.trans second, rfl, count.trans count'⟩

/-- A packet's entry of the tracker. -/
theorem State.trackPacket_spec (tid seat addr : Nat) (port : Option Nat) (link : BitVec 10 × BitVec 32) :
    let u := s.trackPacket st tid seat addr port link
    Outbound s u ∧ u.trackers.length = s.trackers.length + 1 ∧ u.fld F.assemblyPacketsSentCount st = s.fld F.assemblyPacketsSentCount st := by
  unfold State.trackPacket
  generalize TrackEntry.mk tid none .assembly (BitVec.ofNat 12 seat) (BitVec.ofNat 64 addr) port (some link) false = entry
  obtain ⟨out, trackers, count⟩ := State.noteTracker_spec { s with trackers := s.trackers ++ [entry] } st
  exact ⟨(⟨.of_regs rfl, rfl, rfl⟩ : Outbound s { s with trackers := s.trackers ++ [entry] }).trans out, by rw [trackers]; exact List.length_append, count⟩

/-- A packet whose destination a port reaches is tracked, crosses to the port's stack, and is queued. -/
theorem State.sendPacket_queues (c : Coll) (kind : PktKind) (m : CollPkt) (step : BitVec 32) (p : Port) (e : Nat) (seated : s.seatValid = true) (away : m.dst.toNat ≠ s.seat)
    (port : (portList c.ports)[m.offset.toNat % (portList c.ports).length]? = some p.val)
    (cover : s.coverEntry (s.partOf st) m.dst.toNat (fun e => bitOf e 1) = some e) (way : bitOf (winPorts e) p = true) (up : s.link p = lUP)
    (open' : s.hallwayDown st (stackOfPort p) = false) :
    let u := s.sendPacket st c kind m step
    (u.port p).txq = (s.port p).txq ++ [(3, .packet kind m)] ∧ u.trackers.length = s.trackers.length + 1 ∧ u.mem = s.mem
      ∧ u.fld F.assemblyPacketsSentCount st = s.fld F.assemblyPacketsSentCount st := by
  let t := s.trackPacket st m.tid.toNat m.dst.toNat (packetAddr m.dst.toNat m.offset.toNat) (some p) (m.coll, step)
  let v := t.countHallway st (stackOfPort p) m.data.length
  have sends : s.sendPacket st c kind m step = v.portSend p 3 (.packet kind m) := by
    unfold State.sendPacket
    dsimp only
    rw [if_neg (by rw [seated]; decide), if_neg (by simpa using away), port, cover]
    dsimp only
    rw [if_neg (by rw [way]; decide), if_neg (by rw [open']; decide), if_pos (by rw [up]; rfl)]
  obtain ⟨tracked, count, sentKept⟩ : Outbound s t ∧ t.trackers.length = s.trackers.length + 1 ∧ t.fld F.assemblyPacketsSentCount st = s.fld F.assemblyPacketsSentCount st :=
    s.trackPacket_spec st _ _ _ _ _
  have gone := tracked.trans (t.countHallway_outbound st (stackOfPort p) m.data.length)
  have queued : v.portSend p 3 (.packet kind m) = v.setPort p { v.port p with txq := (v.port p).txq ++ [(3, .packet kind m)] } :=
    if_pos (by rw [show v.link p = lUP from (gone.regs.link p).trans up]; rfl)
  have sent : RegName.Stands .assemblyPacketsSent st 0 := stands_stack st.isLt
  dsimp only
  rw [sends, queued]
  refine ⟨?_, ?_, gone.mem, ?_⟩
  · rw [State.port_setPort_same, State.port, gone.ports, State.port]
  · have more : v.trackers = t.trackers := (congrArg State.trackers (t.countHallway_fields st (stackOfPort p) m.data.length) :)
    exact (congrArg List.length more).trans count
  · calc v.fld F.assemblyPacketsSentCount st
      _ = t.fld F.assemblyPacketsSentCount st := RegsKept.fld (t.countHallway_kept _ _ _) (f := F.assemblyPacketsSentCount) sent rfl
      _ = s.fld F.assemblyPacketsSentCount st := sentKept

end

/-- COLLECTIVE_PACKET_SEND queues the packet of the next send. -/
theorem collectivePacketSend_queues (st : StackId) (k : BitVec 10) (rng tid e : Nat) (p : Port) (s : State) (c : Coll) (i : Instance') (x : Nat × PktKind × Bool)
    (rest : List (Nat × PktKind × Bool)) :
    let d := s.member c x.1
    let q := s.packetData st c i rng x.2.1
    let m := q.1.makePacket c i k.toNat rng tid x.2.1 d.1 d.2 q.2.1 q.2.2
    s.noWaits = true → s.coll st k.toNat = some c →
    (s.assembly st).insts.find? (fun i => i.coll == k.toNat && i.failed.isNone && !i.complete && !(i.unsent c rng).isEmpty) = some i →
    s.freeTid st = some tid → i.unsent c rng = x :: rest → s.seatValid = true → m.dst.toNat ≠ s.seat →
    (portList c.ports)[m.offset.toNat % (portList c.ports).length]? = some p.val → s.coverEntry (s.partOf st) m.dst.toNat (fun e => bitOf e 1) = some e →
    bitOf (winPorts e) p = true → s.link p = lUP → s.hallwayDown st (stackOfPort p) = false → Completes (.collectivePacketSend st k rng) s (fun u =>
      (u.port p).txq = (s.port p).txq ++ [(3, .packet x.2.1 m)] ∧ u.trackers.length = s.trackers.length + 1 ∧ u.mem = s.mem
        ∧ u.fld F.assemblyPacketsSentCount st = (s.fld F.assemblyPacketsSentCount st + 1) % 2 ^ 64) := by
  intro d q m idle coll inst tid' owed seated away port cover way up open'
  obtain ⟨read, trackers, count⟩ := s.packetData_reads st (State.idleSlices_of_noWaits idle) c i rng x.2.1
  let n := q.1.onInst st k.toNat i.step (fun i => { i with sent := i.sent ++ [(rng, sendKey x)], unacked := i.unacked + 1 })
  let b := n.bump F.assemblyPacketsSentCount st 0 1
  let t := b.bump F.fabricIssuedCount (4 * st.val) 0 1
  have sends : collectivePacketSend s st k.toNat rng = t.sendPacket st c x.2.1 m i.step := by
    unfold collectivePacketSend
    rw [coll]
    dsimp only
    rw [inst, tid']
    dsimp only
    unfold State.sendRange
    rw [owed]
  have sent : RegName.Stands .assemblyPacketsSent st 0 := stands_stack st.isLt
  have out : Outbound s t := ((read.trans (⟨.of_regs rfl, rfl, rfl⟩ : Outbound q.1 n)).trans (State.setFld_outbound n (f := F.assemblyPacketsSentCount) sent _)).trans
    (State.setFld_outbound b (f := F.fabricIssuedCount) (stands_initiator st) _)
  have counted : t.fld F.assemblyPacketsSentCount st = (s.fld F.assemblyPacketsSentCount st + 1) % 2 ^ 64 :=
    calc t.fld F.assemblyPacketsSentCount st
      _ = b.fld F.assemblyPacketsSentCount st := State.fld_setFld_stands (f := F.fabricIssuedCount) b _ (stands_initiator st) sent (by simp)
      _ = (n.fld F.assemblyPacketsSentCount st + 1) % 2 ^ 64 := State.fld_setFld_same (f := F.assemblyPacketsSentCount) (by decide) n st 0 _
      _ = (s.fld F.assemblyPacketsSentCount st + 1) % 2 ^ 64 := congrArg (fun v => (v + 1) % 2 ^ 64) count
  obtain ⟨txq, tracked, mem, kept⟩ := t.sendPacket_queues st c x.2.1 m i.step p e (out.regs.seatValid.trans seated) (by rw [out.regs.seat]; exact away) port
    (by rw [out.regs.coverEntry, out.regs.partOf]; exact cover) way ((out.regs.link p).trans up) ((out.regs.hallwayDown _ _).trans open')
  refine ⟨t.sendPacket st c x.2.1 m i.step, congrArg Host.Outcome.next sends, txq.trans ?_, tracked.trans ?_, mem.trans out.mem, kept.trans counted⟩
  · rw [State.port, out.ports, State.port]
  · exact congrArg (fun l => List.length l + 1) trackers

/-! ## The end of a failed collective (R316, R324) -/

section
variable {s : State} (st : Nat) {cls a : Nat} (up : s.hallwayDown st (addrStack a) = false)
include up

/-- Over a link that is not DOWN, a write of a unit is one of memory. -/
theorem State.byte_writeFrom (data : List Byte) (p : Bool) (x : Nat) : (s.writeFrom st cls a data p).byte x = (s.memWrite cls a data p).byte x := by
  have mem : (s.writeFrom st cls a data p).mem = (s.memWrite cls a data p).mem := by
    unfold State.writeFrom
    rw [if_neg (by rw [up]; decide), State.countHallway_fields]
  exact State.byte_of_mem mem x
theorem State.num_writeFrom (data : List Byte) (p : Bool) (b n : Nat) : (s.writeFrom st cls a data p).num b n = (s.memWrite cls a data p).num b n := by
  rw [State.num, State.num, State.bytes_of_byte (fun x _ _ => State.byte_writeFrom st up data p x)]
theorem State.writeFrom_still (idle : s.idleSlices) (hc : cls < 8) (data : List Byte) (p : Bool) : Still s (s.writeFrom st cls a data p) := by
  unfold State.writeFrom
  rw [if_neg (by rw [up]; decide)]
  exact (State.memWrite_still hc data p (fun _ _ => idle _)).1.trans (Accessed.refl.countHallway (served := False) _ _ _).still

end

/-- Where nothing waits for room among the instances, nothing is tried again. -/
theorem State.retryInsts_quiet (s : State) (st : Nat) (packets : (s.assembly st).packetWait = []) (norms : (s.assembly st).normWait = []) :
    s.retryInsts st = s.setAssembly st { s.assembly st with normWait := [], packetWait := [] } := by
  unfold State.retryInsts
  dsimp only
  rw [packets, norms]
  rfl

/-- COLLECTIVE_INSTANCE_COMPLETE after a failure: the two writes, and the record of what has ended. -/
theorem collectiveInstanceComplete_failed (st : StackId) (k : BitVec 10) (s : State) (c : Coll) (i : Instance') (f : BitVec 4) (quiet : s.noWaits = true)
    (coll : s.coll st k.toNat = some c) (kind : c.kind ≠ kNE)
    (inst : (s.assembly st).insts.find? (fun i => i.coll == k.toNat && !i.complete && (i.failed.isSome || i.finished c)) = some i) (failed : i.failed = some f)
    (doneUp : s.hallwayDown st (addrStack c.doneAddr) = false) (halfUp : s.hallwayDown st (addrStack (c.half i.step)) = false)
    (packets : (s.assembly st).packetWait = []) (norms : (s.assembly st).normWait = []) (aligned : c.doneAddr % 8 = 0) (wordStays : s.discards c.doneAddr = false)
    (halfStays : ∀ j, j < c.ranges * 256 → s.discards (c.half i.step + j) = false)
    (apart : c.doneAddr + 8 ≤ c.half i.step ∨ c.half i.step + c.ranges * 256 ≤ c.doneAddr) :
    Completes (.collectiveInstanceComplete st k) s (fun u => u.num c.doneAddr 8 = i.step.toNat % 2 ^ 16 + f.toNat * 2 ^ 16
      ∧ (∀ j, j < c.ranges * 256 → u.byte (c.half i.step + j) = 0)
      ∧ (∀ a, (a < c.doneAddr ∨ c.doneAddr + 8 ≤ a) → (a < c.half i.step ∨ c.half i.step + c.ranges * 256 ≤ a) → u.byte a = s.byte a)
      ∧ ∀ j ∈ (u.assembly st).insts, j.inHalf k.toNat i.step = true → j.complete = true) := by
  have idle := State.idleSlices_of_noWaits quiet
  let word := i.step.toNat % 2 ^ 16 + f.toNat * 2 ^ 16
  let zeros : List Byte := List.replicate (c.ranges * 256) 0
  let v := s.writeFrom st 4 c.doneAddr (toBytes 8 word) false
  let w := v.writeFrom st 4 (c.half i.step) zeros false
  let e := (w.onInst st k.toNat i.step (fun i => { i with complete := true })).noteActive st
  have engine : w.assembly st = s.assembly st := by
    have wrote : Accessed True s w := (State.writeFrom_accessed _ _ _ _ _ _).trans (State.writeFrom_accessed _ _ _ _ _ _)
    rw [State.assembly, wrote.fields, State.assembly]
  have ended : e.assembly st = { s.assembly st with insts := (s.assembly st).insts.map (fun j => if j.inHalf k.toNat i.step then { j with complete := true } else j) } := by
    rw [← engine]
    exact State.assembly_setAssembly_same _ _ _
  have completes : collectiveInstanceComplete s st k.toNat = e.setAssembly st { e.assembly st with normWait := [], packetWait := [] } := by
    rw [← State.retryInsts_quiet e st (by rw [ended, ← packets]) (by rw [ended, ← norms])]
    unfold collectiveInstanceComplete
    rw [coll]
    dsimp only
    rw [inst]
    dsimp only
    rw [failed, if_pos (show (some f).isSome = true from rfl), if_neg (show ¬ (c.kind == kNE) = true by simpa using kind)]
    rfl
  have written := State.memWrite_word (s := s) (cls := 4) (by decide) aligned (idle _) wordStays word
  have still : Still s v := State.writeFrom_still st doneUp idle (by decide) _ _
  have halfUp' : v.hallwayDown st (addrStack (c.half i.step)) = false := (HallwayKept.hallwayDown (.writeFrom idle st (by decide) _ _ _) _ _).trans halfUp
  have first (x : Nat) : v.byte x = (s.memWrite 4 c.doneAddr (toBytes 8 word) false).byte x := State.byte_writeFrom st doneUp _ _ x
  have second (x : Nat) : w.byte x = (v.memWrite 4 (c.half i.step) zeros false).byte x := State.byte_writeFrom st halfUp' _ _ x
  have length : zeros.length = c.ranges * 256 := List.length_replicate
  have outside {x : Nat} (h : x < c.half i.step ∨ c.half i.step + c.ranges * 256 ≤ x) : w.byte x = v.byte x :=
    (second x).trans (State.memWrite_outside (by decide) zeros false (still.idleSlices idle) (by rw [length]; exact h))
  refine ⟨_, congrArg Host.Outcome.next completes, ?_, fun j hj => ?_, fun x away away' => ?_, fun j hj half => ?_⟩
  · have small : word < 2 ^ 64 := by have := f.isLt; omega
    have kept : w.num c.doneAddr 8 = v.num c.doneAddr 8 := by
      rw [State.num, State.num, State.bytes_of_byte (fun x lo hi => outside (by omega))]
    calc w.num c.doneAddr 8
      _ = (s.memWrite 4 c.doneAddr (toBytes 8 word) false).num c.doneAddr 8 := kept.trans (State.num_writeFrom st doneUp _ _ _ _)
      _ = word := written.1.trans (Nat.mod_eq_of_lt small)
  · have stays : ∀ pc ∈ sectorPieces (c.half i.step) zeros.length, v.discards pc.1 = false := fun pc hp => by
      obtain ⟨lo, hi, -⟩ := sectorPieces_inside (by rw [length]; omega) hp
      rw [still.discards, ← Nat.add_sub_cancel' lo]
      exact halfStays _ (by omega)
    refine (second _).trans ((State.memWrite_inside (by decide) zeros false (still.idleSlices idle) stays (by rw [length]; exact hj)).trans ?_)
    simp [zeros, List.getD_eq_getElem?_getD, hj]
  · exact (outside away').trans ((first x).trans (written.2 x away))
  · rw [State.assembly_setAssembly_same, ended] at hj
    obtain ⟨j', -, rfl⟩ := List.mem_map.mp hj
    by_cases inside : j'.inHalf k.toNat i.step = true
    · rw [if_pos inside]
    · rw [if_neg inside] at half
      exact absurd half inside

/-- Settles O54, form by form: the scan by what its reads leave, packets by the engine's answer, and the end of a failed collective by its two writes. -/
theorem collectivesRun : Obligations.CollectivesRun :=
  ⟨fun st s _ quiet scanning bad chunks qs small => armScanComplete_refuses st s (State.idleSlices_of_noWaits quiet) scanning chunks qs bad small,
    fun st s quiet scanning good pages chunks qs expects => armScanComplete_arms st s (State.idleSlices_of_noWaits quiet) scanning chunks qs good pages expects,
    assemblyBufferAccept_hands, packet_taken, packet_refused, collectivePacketSend_queues, collectiveInstanceComplete_failed⟩

end Sys2Proof.Machine
end
